-- ==== Sys2Proof/Word.lean ====
section
/-! DEFINITION. The bit-vector names of the model (00_scope R5, R6: bit 0 is the least significant bit). -/

namespace Sys2Proof

abbrev Byte := BitVec 8
abbrev Half := BitVec 16
abbrev Word := BitVec 32
abbrev DWord := BitVec 64

end Sys2Proof
end

