-- ==== Sys2Proof/Syntax.lean ====
section
/-! DEFINITION. The commands of the block: one constructor of `Instr` for each row of the table of operations and
events (95_what_each_step_holds). The operands are what the environment supplies with the event: transaction bytes,
frames, indices, measured values. What the device itself holds is never an operand. -/

namespace Sys2Proof

/-- The two channels of R25. -/
inductive Side where
  | a
  | b
deriving DecidableEq, Repr

/-- What the environment adds to a host transaction besides its bytes: the level of HSCK at the falling edge of HCS_N
(R247: low is SPI mode 0, high is mode 3) and whether the xSPI complement and address were right (R248, R249). -/
structure Txn where
  sckHigh : Bool
  xspiOk : Bool
deriving DecidableEq, Repr

/-- One read of a fuse word after its own ECC decode (R351). -/
inductive EccRead where
  | clean (v : DWord)
  | corrected (v : DWord)
  | uncorrectable
deriving DecidableEq, Repr

/-- The three reads of one word (Table 16.3): all three equal, or normal, margin-0 and margin-1 apart. -/
inductive Sense where
  | equal (r : EccRead)
  | unequal (normal margin0 margin1 : EccRead)
deriving DecidableEq, Repr

/-- What the two margin reads of R355 steps 4 to 7 show after one pulse. -/
inductive ProgRead where
  | target     -- both reads equal the target word
  | extraOne   -- margin-1 shows a 1 where the target has a 0
  | weak       -- some bit still reads 0 at margin-0
deriving DecidableEq, Repr

/-- The two copies of a pair captured unequal values of one input (R26, R184): pair block ID, input kind of R185
(0 status frame, 1 PDU, 2 host signal, 3 mailbox) and index. -/
structure Disagreement where
  pair : Nat
  kind : Nat
  index : Nat
deriving DecidableEq, Repr

/-- The analog values of one channel as the field die meets them in a slot: land and midpoint voltage, the converted
land voltage of R397, the current code of the last conversion and VFg, in mV (current: converter code). -/
structure LandSample where
  landMv : Int
  convMv : Int
  midMv : Int
  current : Nat
  vfMv : Nat
deriving DecidableEq, Repr

/-- One lane the comparator reported, or failed to report, in a step of the injection test (R199, R200). -/
structure LaneReport where
  step : Nat
  group : Nat
  lane : Nat
  reported : Bool
deriving DecidableEq, Repr

/-- What a restore finds unreadable (R187): `repeatable` says that the agreement buffer still holds the captures since the other
tick-service record. -/
structure RestoreReport where
  newerSlotBad : Bool
  olderSlotBad : Bool
  badCells : List Nat
  tickRecordBad : Bool
  repeatable : Bool
deriving DecidableEq, Repr

/-- The regions of memory that Table 1.3 gives rights on: of the channels' SRAM-A and SRAM-B, of SRAM-S, of Weir SRAM, the Oxbow
buffer, and of MRAM. -/
inductive MemRegion where
  | channel (sd : Side)
  | inputImage (sd : Side) (n : Nat)
  | shadowWindow
  | rxWindow (sd : Side)
  | txWindow (sd : Side)
  | mirror (sd : Side)
  | hostImage
  | commitRecords
  | supervisor
  | handoverWindow
  | weirTables
  | weirRest
  | oxbBuffer
  | containers (bank : Nat)
  | formCache (sd : Side) (bank : Nat)
  | oxbAreas
  | mramRest
deriving DecidableEq, Repr

/-- A translator's verdict on a container (R125): accepted, or a refusal code with its named item. -/
inductive Verdict where
  | accept
  | refuse (code kind index : Nat)
deriving DecidableEq, Repr

/-- Where an uncorrectable SRAM word lies (Table 13.12). -/
inductive EccPlace where
  | cellImage (n : Nat)
  | elsewhere
deriving DecidableEq, Repr

/-- A record in MRAM reads back as other bytes than were written (R311): its area (0 Firstwater, 1 Tailwater, 2 Totals, 3 the
pending image), its slot, for Totals its copy, and the 64 bytes that are read. -/
structure RecordDamage where
  area : Nat
  slot : Nat
  copy : Nat
  bytes : List Byte
deriving DecidableEq, Repr

/-- What a flush met (R311, R324, R328): the 4 KB blocks in which a write-verify failed, as area (0 Firstwater, 1 Tailwater,
2 Totals, 3 index) and block number, whether the MRAM controller failed its own check, how many of the records still to be written
had passed their write-verify when the store failed, and the damaged records that it read back. -/
structure FlushReport where
  verifyFailed : List (Nat × Nat)
  controllerFailed : Bool
  verified : Nat
  damage : List RecordDamage
deriving DecidableEq, Repr

/-- The results of a field-group unit slice (Table 15.4): reference 1 against reference 2 in 0.01 %; the deviation of the
converter from each ladder point in LSB; the five trip points in mV; the two temperatures in °C; the switch-off time of each channel in µs;
the channel, program and variant of each slice of row 6 that did not pass; and, for each row, the number of its slice status frames that
came with a valid CRC, and whether the last carried the end marker (R338, R341). -/
structure UnitRows where
  refDev : Int
  ladder : List Int
  trips : List Nat
  temp1 : Int
  temp2 : Int
  tOff : List Nat
  failed : List (Nat × Nat × Nat)
  frames : List (Nat × Bool)
deriving DecidableEq, Repr

/-- The readings of the logic-side checks (R344): the VSUP monitor and the trip point of the power-fail comparator against the
internal reference in mV, the second temperature sensor in °C, and the second count as a deviation in 0.01 %. -/
structure LogicReadings where
  monitorMv : Nat
  tripMv : Nat
  temp2 : Int
  ratio2 : Int
deriving DecidableEq, Repr

/-- The results of one channel's calibration (R287). -/
structure CalResult where
  gain : Word
  offset : Word
  tOff : Nat
  readingsInside : Bool
deriving DecidableEq, Repr

/-- The registers REGISTER_WRITE can name (R354): the data registers, and ROS_CMD with an OP that is no operation of Table 16.4 (those
have rows of their own). -/
inductive RosReg where
  | dataLo
  | dataHi
  | cmd
deriving DecidableEq, Repr

/-- A fault that the factory injects (R304): source and instance. -/
structure Injection where
  block : Nat
  index : Nat
  inst : Nat
deriving DecidableEq, Repr

/-- The commands of the block, one constructor per row of the table. -/
inductive Instr where
  -- host transactions (R247-R250, R254)
  | writeReq (t : Txn) (bytes : List Byte)
  | readRsp (t : Txn) (count : Nat)
  | readStatus (t : Txn)
  | rspRelease (t : Txn) (tag : Nat)
  | enterXspi (t : Txn)
  | returnSpi (t : Txn)
  -- mailbox services: each serves the oldest captured request when it carries this command (R254, R257)
  | hello
  | identity
  | status
  | statusAll
  | cellRead
  | faultRead
  | faultAck
  | faultMask
  | cfgStageBegin
  | cfgStageData
  | cfgStageEnd
  | cfgCheck (aFault bFault : Option Verdict)
  | cfgCommit
  | cfgAbort
  | certRead
  | run
  | safe
  | restart
  | connStatus
  | unknownPartners
  | hostsigWrite
  | hostsigRead
  | paramRead
  | paramWrite
  | oxbInfo
  | oxbRead (damage : List RecordDamage)
  | oxbFlush
  | selftestRequest
  | selftestReport
  | calRead
  | calStart
  | fuseRead
  | fuseProgram
  | fuseVerify (differ : List Nat)
  | fuseSeal
  | fuseLock
  | fwStageBegin
  | fwStageData
  | fwStageEnd
  | fwActivate
  | fwInfo
  | optime
  -- Rosemary (R351-R363)
  | rosProgram (word : Nat)
  | rosVerify (word : Nat) (differs : Bool)
  | rosSeal (region : Nat)
  | rosLock (region : Nat)
  | rosOperationComplete (reads : List ProgRead) (final : Sense)
  | registerWrite (r : RosReg) (v : Word)
  -- tick, slots and field dies
  | systemTick (vsupMv : Nat) (tj : Int) (dis : List Disagreement) (ecc : List (Side × Nat))
  | couplerSlot
  | fdRunFrame (c : Nat) (frame : BitVec 40) (smp : LandSample)
  | fdSyncFrame (c : Nat) (frame : BitVec 40) (smp : LandSample)
  | fdCfgFrame (c : Nat) (frame : BitVec 40) (smp : LandSample)
  | fieldWatchdogExpiry (c : Nat)
  | fdPowerOn (g : Nat) (vfMv : Nat)
  | fdSupplyLoss (g : Nat)
  | vfUnderLockout (g : Nat)
  | vfOverLockout (g : Nat)
  | vfUnderRelease (g : Nat)
  | vfOverRelease (g : Nat)
  | overloadTimeout (c : Nat)
  | overtemp (c : Nat)
  | overloadLockoutEnd (c : Nat)
  -- the logic side's views of the field
  | statusFrame (sd : Side) (c : Nat) (frame : Option (BitVec 40)) (dis : List Nat)
  | couplerLostDetect (sd : Side) (c : Nat)
  | vfMissingDetect (sd : Side) (g : Nat)
  | vfLowEnter (sd : Side) (g : Nat)
  | vfLowLeave (sd : Side) (g : Nat)
  | groupOverloadTimeout (sd : Side) (g : Nat)
  | inputFilterChange (sd : Side) (c : Nat)
  | gapToleranceOff (sd : Side) (c : Nat)
  | pulseSlotStart (h : Nat)
  | pulseEvaluation (sd : Side) (h : Nat)
  | pulsePostSample (sd : Side) (h : Nat)
  | pulseOverdueCount (sd : Side) (h : Nat)
  | openLoadTimeout (sd : Side) (c : Nat)
  -- cells
  | cellBoundary (n : Nat)
  | cellEvaluationDone (sd : Side) (n : Nat) (used : Nat)
  | reconciliationPoint (n : Nat)
  | windowMiss (sd : Side) (n : Nat)
  | abDiscrepancy (sd : Side) (n : Nat)
  | sigMismatch (sd : Side) (n : Nat)
  -- faults and the error pair
  | eventLiveExpiry (block index inst : Nat)
  | crstChipReset
  | errpToggle
  | errpReadbackCheck (land : Nat) (differs : Bool)
  | holdPatternFrame (ms : Nat)
  -- pairs
  | lockstepMismatch (pair : Nat) (cell : Option Nat) (group : Nat) (same : Bool)
  | pairRestoreDone (pair : Nat) (rep : RestoreReport)
  | catchupLate (sd : Side) (n : Nat)
  | agrPersistCount (pair kind index : Nat)
  | eccUncorrectable (sd : Side) (initiator : Nat) (place : EccPlace)
  | portGuardBlock (initiator : Nat) (region : MemRegion) (write : Bool)
  | cmpInjectionTest (pair : Nat) (reports : List LaneReport)
  -- Millrace and Weir
  | announceTransmit (port : Nat)
  | pduTransmit
  | frameTxDone (port : Nat)
  | txStaleDiscard (port : Nat)
  | frameReceived (port : Nat) (bytes : List Byte)
  | arpRequest (port : Nat)
  | pauseFrame (port : Nat)
  | pauseEnd (port : Nat)
  | millraceFrame (port : Nat)
  | rxPickupTimeout (port : Nat)
  | dataPduAccept (sd : Side) (port : Nat)
  | announceReceived (sd : Side) (port : Nat)
  | openSend (sd : Side) (n : Nat)
  | openReceived (sd : Side) (port : Nat)
  | openAckReceived (sd : Side) (port : Nat)
  | refuseReceived (sd : Side) (port : Nat)
  | openingTimeout (sd : Side) (n : Nat)
  | announceTimeout (sd : Side) (n : Nat)
  | connWatchdogExpiry (sd : Side) (n : Nat)
  | linkDown (port : Nat)
  | linkUp (port : Nat)
  | mdioPoll (linkBit : Bool)
  -- Riffle
  | channelSliceStart (calibrate : Bool)
  | coverageLate (c : Nat)
  | coverageLost (c : Nat)
  | logicServiceCheck (r : LogicReadings)
  | fieldUnitSlice (g : Nat)
  | fieldUnitSliceDone (g : Nat) (r : UnitRows)
  | portUnitSlice (port : Nat) (goodFrames : Nat) (signature expected : Word)
  | calChannelDone (c : Nat) (r : CalResult)
  -- Oxbow and operating time
  | measurementBlock (vsupMin : Nat) (logicTemp : Int)
  | recordClose (code inst : Nat)
  | flushStart
  | flushDeferred
  | flushHourly
  | flushDone (r : FlushReport)
  | tlRetry
  | operatingSecond
  -- host signals and live change
  | hsHoldTimeout
  | liveTranslationDone (sd : Side)
  | commitTick
  | handoverPoint (startOk : Bool)
  | handoverTimeout
  | handoverComplete (reports : List LaneReport)
  -- power, reset and start-up
  | powerOn (vsupMv : Nat)
  | vsupBrownout
  | resetNLow
  | resetRelease (testmode pllLocked : Bool) (ratioDev : Int)
  | holdRetry (pllLocked : Bool) (ratioDev : Int)
  | rosSensing (odd : List (Nat × Sense))
  | romBankCheck (secondsErr : List Word)
  | supImageStart (secondsErr cyclesErr : List Word)
  | configBankSelect
  | formReverify (sd : Side) (intact : Bool) (fault : Option Verdict)
  | certCheck
  | verifyExit
  | pfailWarning (byPin : Bool)
  | domainShedding
  | pfailClear
  | pfailRecovery
  | railFault (rail : Nat)
  | vsupHigh
  | pllLockLoss
  | serdesLockLoss
  | ratioWindowEnd (count : Nat)
  | ratioWindowTimeout
  -- JTAG (R390, R391)
  | extest (scanIn : BitVec 36)
  | samplePreload (scanIn : BitVec 36)
  | idcode
  | holdReason
  | debug (inject : List Injection)
  | bypass (code : Nat)
  -- rows added later in the table
  | unknownOpcodeTransaction (t : Txn) (opcode : Byte)
  | admissionComplete (aFault bFault : Option Verdict)
  | handoverFormsReady
  | serdesLockRegained
  | vsupHighEnd
  | railReturn (rail : Nat)
  | groupOverloadClear (sd : Side) (g : Nat)
  | tapReset
deriving DecidableEq, Repr

end Sys2Proof
end

