-- ==== Sys2Proof/Config.lean ====
section
/-! DEFINITION. What the spec leaves open and the machine goes on: free values. Each is an opaque constant, so that
nothing can be proved of its value; a fresh draw applies it to the counter `free` of the state (log 4). -/

namespace Sys2Proof.Config

/-- The n-th session number of HELLO before it is made new and non-zero (R255: "a new, non-zero session number"). -/
opaque sessionNumber : Nat → Nat

/-- The n-th signing nonce of a certificate (R180 names ECDSA; its nonce is chosen by the device). -/
opaque ecdsaNonce : Nat → Nat

/-- The length of a translated form, by side (0 A, 1 B) and container hash value: a form is internal to the bundle (R124). -/
opaque formLength : Nat → Nat → Nat

/-- Byte k of the body of a translated form, by side, container hash value and translator version: it is internal to the running bundle
(R124). -/
opaque formByte : Nat → Nat → Nat → Nat → Nat

/-- Where a channel's comparator rises and falls in the ranges of Table 3.5, by channel: an offset from the lowest value. -/
opaque inputRise : Nat → Nat
opaque inputFall : Nat → Nat

/-- The bytes that go before the bands of a unit slice's row in its signature (R341 names no slice code, variant or channel of a row), by
group and row. -/
opaque unitHead : Nat → Nat → Nat

/-- The code of a group's die temperature converter at the n-th marked frame (R69: measured by the die). -/
opaque dieTemp : Nat → Nat

/-- ICODE of a slice step (R332: the raw result), by slice code, variant, channel, step and draw. -/
opaque sliceResult : Nat → Nat → Nat → Nat → Nat → Nat

/-- The band of measured point k of a step's raw result (R338: the windows come from the trims of the unit), by slice code,
variant, channel, step, raw result and k. -/
opaque sliceBand : Nat → Nat → Nat → Nat → Nat → Nat → Nat

/-- The expected comparator bit of point k in a step of THRESH or WINDOW (R338), by slice code, variant, channel, step and k. -/
opaque sliceExpect : Nat → Nat → Nat → Nat → Nat → Bool

/-- A converter code through new coefficients (R288 gives no formula for an offset in µV applied to a code), by gain, offset
and code. -/
opaque calibrated : Nat → Nat → Nat → Nat

/-- The die's supply trip points in mV around their nominal values, by group (Table 3.9 gives tolerances only):
0 undervoltage, 1 undervoltage release, 2 overvoltage, 3 overvoltage release. -/
opaque vfTrip : Nat → Nat → Nat

/-- A bit read where the spec leaves its value open, by draw. -/
opaque freeBit : Nat → Bool

/-- A value where the spec leaves it open, by draw. -/
opaque freeNat : Nat → Nat

end Sys2Proof.Config
end

