-- ==== Sys2Proof/Machine/Bits.lean ====
section
/-! DEFINITION. Bytes, byte order, CRCs, and the sparse tables the state is made of.
R5: multi-byte fields are little-endian unless a rule says otherwise; R6: a field is named by its bits. -/

namespace Sys2Proof.Machine

/-- The byte with value `v mod 256`. -/
def byte (v : Nat) : Byte := BitVec.ofNat 8 v

/-- The value of a byte string read little-endian (R5). -/
def leVal : List Byte → Nat
  | [] => 0
  | b :: bs => b.toNat + 256 * leVal bs

/-- The value of a byte string read big-endian (Ethernet, IPv4, UDP and ARP headers, SEC 1 strings). -/
def beVal (bs : List Byte) : Nat := bs.foldl (fun acc b => acc * 256 + b.toNat) 0

/-- `n` bytes of `v`, little-endian. -/
def leBytes : Nat → Nat → List Byte
  | 0, _ => []
  | n + 1, v => byte v :: leBytes n (v / 256)

/-- `n` bytes of `v`, big-endian. -/
def beBytes (n v : Nat) : List Byte := (leBytes n v).reverse

/-- The `n`-byte little-endian field at offset `off`; bytes past the end read 0. -/
def leAt (bs : List Byte) (off n : Nat) : Nat := leVal ((bs.drop off).take n)

/-- The `n`-byte big-endian field at offset `off`. -/
def beAt (bs : List Byte) (off n : Nat) : Nat := beVal ((bs.drop off).take n)

/-- `n` zero bytes. -/
def zeros (n : Nat) : List Byte := List.replicate n 0

/-- Every byte is 0. -/
def allZero (bs : List Byte) : Bool := bs.all (· == 0)

/-- `bs` cut or padded with zero bytes to `n` bytes. -/
def padTo (n : Nat) (bs : List Byte) : List Byte := bs.take n ++ zeros (n - bs.length)

/-- Bits `hi:lo` of `v`. -/
def bitsOf (v hi lo : Nat) : Nat := (v >>> lo) % 2 ^ (hi + 1 - lo)

/-- 1 for true, 0 for false. -/
def b2n (b : Bool) : Nat := if b then 1 else 0

/-- The number formed by a list of bits, the first being bit 0. -/
def bitsToNat : List Bool → Nat
  | [] => 0
  | b :: bs => b2n b + 2 * bitsToNat bs

/-- The bits of `v` from bit 0 up, `n` of them. -/
def natToBits (n v : Nat) : List Bool := (List.range n).map (fun i => v.testBit i)

/-- Saturating narrowing to `w` bits. -/
def satN (w v : Nat) : Nat := if v < 2 ^ w then v else 2 ^ w - 1

/-- One bit of a CRC of width `w` with generator `poly`, MSB first and without reflection. -/
def crcBit (w poly : Nat) (reg : Nat) (b : Bool) : Nat :=
  let top := reg.testBit (w - 1)
  let sh := (reg * 2) % 2 ^ w
  if top != b then sh ^^^ poly else sh

/-- One byte of a CRC, its bit 7 first. -/
def crcByte (w poly : Nat) (reg : Nat) (x : Byte) : Nat :=
  [7, 6, 5, 4, 3, 2, 1, 0].foldl (fun r i => crcBit w poly r (x.toNat.testBit i)) reg

/-- A CRC over a byte string from the register value `init`, no reflection and no final XOR (R74, R132, R213). -/
def crc (w poly init : Nat) (bs : List Byte) : Nat := bs.foldl (crcByte w poly) init

/-- A CRC over a bit string, first bit first (the 32-bit field frames, R74). -/
def crcBits (w poly init : Nat) (bs : List Bool) : Nat := bs.foldl (crcBit w poly) init

/-- The state signature's CRC-64 from a start value (R132). -/
def crc64 (init : Nat) (bs : List Byte) : Nat := crc 64 0x42F0E1EBA9EA3693 init bs

/-- The bits of `v` in reverse order, `n` of them. -/
def revBits (n v : Nat) : Nat := bitsToNat (natToBits n v).reverse

/-- The reflected CRC-32 of IEEE 802.3 (the FCS of a frame and every CRC-32 the spec calls the 802.3 one). -/
def crc32Ether (bs : List Byte) : Nat :=
  let r := crc 32 0x04C11DB7 0xFFFFFFFF (bs.map (fun b => byte (revBits 8 b.toNat)))
  (revBits 32 r) ^^^ 0xFFFFFFFF

/-- A sparse table: entries in rising key order; a key without an entry reads as the table's default. -/
abbrev Tab (α : Type) := List (Nat × α)

/-- The entry of a key. -/
def Tab.get? {α : Type} : Tab α → Nat → Option α
  | [], _ => none
  | (k, v) :: rest, i => if k = i then some v else Tab.get? rest i

/-- The entry of a key, or the default. -/
def Tab.getD {α : Type} (t : Tab α) (i : Nat) (d : α) : α := (t.get? i).getD d

/-- Write the entry of a key, keeping the keys in rising order. -/
def Tab.put {α : Type} : Tab α → Nat → α → Tab α
  | [], i, v => [(i, v)]
  | (k, w) :: rest, i, v =>
    if k = i then (i, v) :: rest
    else if i < k then (i, v) :: (k, w) :: rest
    else (k, w) :: Tab.put rest i v

/-- Remove the entry of a key. -/
def Tab.del {α : Type} (t : Tab α) (i : Nat) : Tab α := t.filter (fun e => e.1 != i)

/-- Set, insert or remove one element of a list held as a set of numbers. -/
def setMem (l : List Nat) (x : Nat) : List Nat := if x ∈ l then l else l ++ [x]

def setDel (l : List Nat) (x : Nat) : List Nat := l.filter (· != x)

/-- Replace element `i` of a list; out of range changes nothing. -/
def setAt {α : Type} (l : List α) (i : Nat) (v : α) : List α := l.set i v

/-- The numbers `0 .. n-1` that satisfy `p`. -/
def rangeFilter (n : Nat) (p : Nat → Bool) : List Nat := (List.range n).filter p

/-- The majority of three values, bit by bit (R325). -/
def majority3 (a b c : Nat) : Nat := (a &&& b) ||| (a &&& c) ||| (b &&& c)

end Sys2Proof.Machine
end

