-- ==== Sys2Proof/Machine/Catalogue.lean ====
section
/-! DEFINITION. Block IDs (R17, Table 1.2) and the catalogue of fault sources (R306, R307: Tables 13.9 to 13.19), with
the reactions of Table 13.4 and the code space of the Oxbow records (R308, R315). -/

namespace Sys2Proof.Machine

/-! ### Block IDs (Table 1.2) -/

def bSUP : Nat := 0x01
def bSA0 : Nat := 0x02
def bSA1 : Nat := 0x03
def bBR0 : Nat := 0x04
def bBR1 : Nat := 0x05
def bSTB : Nat := 0x06
def bWEIR : Nat := 0x07
def bHOST : Nat := 0x08
def bMEMA : Nat := 0x09
def bMEMB : Nat := 0x0A
def bOXB : Nat := 0x0B
def bROS : Nat := 0x0C
def bPWR : Nat := 0x0D
def bCLK : Nat := 0x0E
def bRIF : Nat := 0x0F
/-- Field group g. -/
def bFG (g : Nat) : Nat := 0x10 + g
/-- The cell group of cell n (R127). -/
def bCELL (n : Nat) : Nat := 0x20 + n / 16

/-- Every block ID, ascending (Table 1.2). -/
def blockIds : List Nat := (List.range 15).map (· + 1) ++ [0x10, 0x11, 0x12, 0x13] ++ (List.range 16).map (· + 0x20)

def isPair (b : Nat) : Bool := 1 ≤ b && b ≤ 6

def isBlock (b : Nat) : Bool := b ∈ blockIds

/-! ### Reactions (Table 13.4) -/

def rIRQ : Nat := 1
def rNMI : Nat := 2
def rBRST : Nat := 4
def rCRST : Nat := 8
def rERRP : Nat := 16

/-- A row of a catalogue table: floor, floor reactions and whether its kind is C (condition). -/
structure Source where
  floor : Nat
  react : Nat
  cond : Bool
deriving DecidableEq, Repr, Inhabited

/-- The six pairs (Table 13.9); indices 5 to 9 belong to SUP, 3 to the four evaluators. -/
def pairSource (b i : Nat) : Option Source :=
  match i with
  | 0 => some ⟨1, 1, false⟩
  | 1 => some ⟨1, 1, true⟩
  | 2 => some ⟨1, 1, true⟩
  | 3 => if 2 ≤ b ∧ b ≤ 5 then some ⟨2, 1, false⟩ else none
  | 4 => some ⟨4, 16, false⟩
  | 5 => if b = 1 then some ⟨3, 17, true⟩ else none
  | 6 => if b = 1 then some ⟨1, 1, false⟩ else none
  | 7 => if b = 1 then some ⟨1, 1, true⟩ else none
  | 8 => if b = 1 then some ⟨1, 1, false⟩ else none
  | 9 => if b = 1 then some ⟨1, 1, false⟩ else none
  | _ => none

/-- The rows of Tables 13.10 to 13.18 by index. -/
def weirSources : List Source :=
  [⟨3, 17, false⟩, ⟨1, 1, true⟩, ⟨1, 1, false⟩, ⟨1, 1, true⟩, ⟨1, 1, true⟩, ⟨1, 0, false⟩, ⟨0, 0, false⟩,
   ⟨0, 0, false⟩, ⟨0, 0, false⟩, ⟨0, 0, false⟩] ++
  [⟨0, 0, false⟩, ⟨0, 0, false⟩, ⟨1, 1, true⟩, ⟨0, 0, false⟩, ⟨0, 0, false⟩, ⟨0, 0, false⟩, ⟨0, 0, false⟩,
   ⟨0, 0, false⟩, ⟨0, 0, false⟩, ⟨0, 0, false⟩]

def hostSources : List Source := [⟨1, 1, false⟩, ⟨0, 0, false⟩]
def memSources : List Source := [⟨3, 17, false⟩, ⟨0, 0, false⟩, ⟨2, 1, false⟩, ⟨3, 17, false⟩]
def oxbSources : List Source := [⟨3, 17, false⟩, ⟨1, 1, true⟩, ⟨0, 0, false⟩, ⟨1, 1, false⟩, ⟨1, 1, true⟩]
def rosSources : List Source := [⟨4, 16, true⟩, ⟨1, 1, false⟩, ⟨1, 1, true⟩, ⟨1, 1, false⟩]
def pwrSources : List Source :=
  [⟨3, 1, true⟩, ⟨1, 1, true⟩, ⟨3, 17, true⟩, ⟨4, 16, true⟩, ⟨1, 1, false⟩, ⟨3, 1, true⟩]
def clkSources : List Source := [⟨4, 16, true⟩, ⟨4, 16, true⟩, ⟨1, 1, true⟩, ⟨1, 1, true⟩]
def rifSources : List Source := [⟨2, 1, true⟩, ⟨1, 1, true⟩, ⟨2, 1, true⟩, ⟨0, 0, false⟩, ⟨0, 0, false⟩]
def fgSources : List Source :=
  [⟨2, 1, true⟩, ⟨2, 1, true⟩, ⟨2, 1, true⟩, ⟨2, 1, false⟩, ⟨2, 1, true⟩, ⟨2, 1, true⟩, ⟨1, 1, true⟩, ⟨1, 1, true⟩,
   ⟨2, 1, true⟩, ⟨2, 1, true⟩] ++
  [⟨2, 1, true⟩, ⟨2, 1, false⟩, ⟨2, 1, true⟩, ⟨1, 0, false⟩, ⟨2, 1, true⟩, ⟨1, 1, true⟩, ⟨2, 1, true⟩, ⟨2, 1, true⟩,
   ⟨2, 1, true⟩, ⟨1, 1, false⟩]
/-- Table 13.19, per cell; index 7 is reserved (R307). -/
def cellSources : List Source :=
  [⟨2, 1, false⟩, ⟨2, 1, false⟩, ⟨1, 1, false⟩, ⟨2, 1, false⟩, ⟨2, 1, true⟩, ⟨0, 0, false⟩, ⟨0, 0, false⟩]

/-- The catalogue: the source at an index of a block, when it is defined. -/
def sourceOf (b i : Nat) : Option Source :=
  if b ≤ 6 then (if b = 0 then none else pairSource b i)
  else if b = 7 then weirSources[i]?
  else if b = 8 then hostSources[i]?
  else if b = 9 ∨ b = 0x0A then memSources[i]?
  else if b = 0x0B then oxbSources[i]?
  else if b = 0x0C then rosSources[i]?
  else if b = 0x0D then pwrSources[i]?
  else if b = 0x0E then clkSources[i]?
  else if b = 0x0F then rifSources[i]?
  else if 0x10 ≤ b ∧ b ≤ 0x13 then fgSources[i]?
  else if 0x20 ≤ b ∧ b ≤ 0x2F ∧ i < 128 then cellSources[i % 8]?
  else none

/-- The highest source index of a block. -/
def highestIndex (b : Nat) : Nat :=
  if b = 1 then 9 else if b ≤ 6 then 4 else if b = 7 then 19 else if b = 8 then 1 else if b ≤ 0x0A then 3
  else if b = 0x0B then 4 else if b = 0x0C then 3 else if b = 0x0D then 5 else if b = 0x0E then 3
  else if b = 0x0F then 4 else if b ≤ 0x13 then 19 else 126

/-- BRST exists for the block (Table 13.5). -/
def brstAvailable (b : Nat) : Bool := b ≤ 8 || b == 0x0B || b == 0x0F || (0x10 ≤ b && b ≤ 0x13)

/-! ### Oxbow codes (R308) -/

def oxVF_MIN : Nat := 0xF001
def oxFIELD_TEMP : Nat := 0xF002
def oxVSUP_MIN : Nat := 0xF003
def oxLOGIC_TEMP : Nat := 0xF004
def oxEVAL_LOAD : Nat := 0xF005
def oxOUT_CURRENT : Nat := 0xF006
def oxSTART : Nat := 0xF010
def oxCOMMIT : Nat := 0xF011
def oxBUNDLE : Nat := 0xF012
def oxFUSE_PROGRAM : Nat := 0xF013

def isMeasurement (code : Nat) : Bool := 0xF001 ≤ code && code ≤ 0xF006
def isMarker (code : Nat) : Bool := 0xF010 ≤ code && code ≤ 0xF013

/-- The source a code names. -/
def codeSource (code : Nat) : Option Source := sourceOf (code / 256) (code % 256)

/-- The interval floor of a code that can be set (Table 14.6); none for a marker or a reserved code. -/
def intervalFloor (code : Nat) : Option Nat :=
  if isMeasurement code then some 60
  else (codeSource code).map (fun s => if 2 ≤ s.floor then 1 else 10)

/-- The code that the device writes at all. -/
def codeUsed (code : Nat) : Bool := isMeasurement code || isMarker code || (codeSource code).isSome

end Sys2Proof.Machine
end

