-- ==== Sys2Proof/Machine/Crypto.lean ====
section
/-! DEFINITION. SHA-256, HMAC-SHA-256 and ECDSA on P-256 with SHA-256, as the published standards define them
(PRESUMED, log entry 6: the spec names the algorithms and does not repeat them). -/

namespace Sys2Proof.Machine

/-- The 64 round constants of SHA-256. -/
def shaK : List Nat :=
  [0x428a2f98, 0x71374491, 0xb5c0fbcf, 0xe9b5dba5, 0x3956c25b, 0x59f111f1, 0x923f82a4, 0xab1c5ed5] ++
  [0xd807aa98, 0x12835b01, 0x243185be, 0x550c7dc3, 0x72be5d74, 0x80deb1fe, 0x9bdc06a7, 0xc19bf174] ++
  [0xe49b69c1, 0xefbe4786, 0x0fc19dc6, 0x240ca1cc, 0x2de92c6f, 0x4a7484aa, 0x5cb0a9dc, 0x76f988da] ++
  [0x983e5152, 0xa831c66d, 0xb00327c8, 0xbf597fc7, 0xc6e00bf3, 0xd5a79147, 0x06ca6351, 0x14292967] ++
  [0x27b70a85, 0x2e1b2138, 0x4d2c6dfc, 0x53380d13, 0x650a7354, 0x766a0abb, 0x81c2c92e, 0x92722c85] ++
  [0xa2bfe8a1, 0xa81a664b, 0xc24b8b70, 0xc76c51a3, 0xd192e819, 0xd6990624, 0xf40e3585, 0x106aa070] ++
  [0x19a4c116, 0x1e376c08, 0x2748774c, 0x34b0bcb5, 0x391c0cb3, 0x4ed8aa4a, 0x5b9cca4f, 0x682e6ff3] ++
  [0x748f82ee, 0x78a5636f, 0x84c87814, 0x8cc70208, 0x90befffa, 0xa4506ceb, 0xbef9a3f7, 0xc67178f2]

/-- The initial hash value of SHA-256. -/
def shaH0 : List Nat :=
  [0x6a09e667, 0xbb67ae85, 0x3c6ef372, 0xa54ff53a, 0x510e527f, 0x9b05688c, 0x1f83d9ab, 0x5be0cd19]

/-- 32-bit rotation to the right. -/
def rotr (n x : Nat) : Nat := ((x >>> n) ||| (x <<< (32 - n))) % 2 ^ 32

def add32 (a b : Nat) : Nat := (a + b) % 2 ^ 32

/-- The message schedule, newest word first: `n` more words after the first 16. -/
def shaSchedule : Nat → List Nat → List Nat
  | 0, w => w
  | n + 1, w =>
    let w2 := w.getD 1 0
    let w15 := w.getD 14 0
    let s0 := rotr 7 w15 ^^^ rotr 18 w15 ^^^ (w15 >>> 3)
    let s1 := rotr 17 w2 ^^^ rotr 19 w2 ^^^ (w2 >>> 10)
    shaSchedule n (add32 (add32 s1 (w.getD 6 0)) (add32 s0 (w.getD 15 0)) :: w)

/-- One round on the eight working variables. -/
def shaRound (v : List Nat) (kw : Nat × Nat) : List Nat :=
  match v with
  | [a, b, c, d, e, f, g, h] =>
    let s1 := rotr 6 e ^^^ rotr 11 e ^^^ rotr 25 e
    let ch := (e &&& f) ^^^ ((e ^^^ (2 ^ 32 - 1)) &&& g)
    let t1 := (h + s1 + ch + kw.1 + kw.2) % 2 ^ 32
    let s0 := rotr 2 a ^^^ rotr 13 a ^^^ rotr 22 a
    let maj := (a &&& b) ^^^ (a &&& c) ^^^ (b &&& c)
    [add32 t1 (add32 s0 maj), a, b, c, add32 d t1, e, f, g]
  | _ => v

/-- The 32-bit big-endian words of a byte string, `n` of them. -/
def beWords : Nat → List Byte → List Nat
  | 0, _ => []
  | n + 1, bs => beVal (bs.take 4) :: beWords n (bs.drop 4)

/-- The compression of one 64-byte block. -/
def shaBlock (h : List Nat) (blk : List Byte) : List Nat :=
  let w := (shaSchedule 48 (beWords 16 blk).reverse).reverse
  (h.zip ((shaK.zip w).foldl shaRound h)).map (fun p => add32 p.1 p.2)

/-- All blocks of a padded message. -/
def shaBlocks : Nat → List Nat → List Byte → List Nat
  | 0, h, _ => h
  | n + 1, h, bs => shaBlocks n (shaBlock h (bs.take 64)) (bs.drop 64)

/-- The SHA-256 digest of a byte string, 32 bytes in digest order. -/
def sha256 (m : List Byte) : List Byte :=
  let l := m.length
  let padded := m ++ byte 0x80 :: zeros ((119 - l % 64) % 64) ++ beBytes 8 (8 * l)
  ((shaBlocks (padded.length / 64) shaH0 padded).map (beBytes 4)).flatten

/-- HMAC-SHA-256 (R261). -/
def hmacSha256 (key m : List Byte) : List Byte :=
  let k := padTo 64 (if key.length > 64 then sha256 key else key)
  sha256 (k.map (· ^^^ 0x5C) ++ sha256 (k.map (· ^^^ 0x36) ++ m))

/-! ### P-256 -/

def p256P : Nat := 0xFFFFFFFF00000001000000000000000000000000FFFFFFFFFFFFFFFFFFFFFFFF
def p256N : Nat := 0xFFFFFFFF00000000FFFFFFFFFFFFFFFFBCE6FAADA7179E84F3B9CAC2FC632551
def p256B : Nat := 0x5AC635D8AA3A93E7B3EBBD55769886BC651D06B0CC53B0F63BCE3C3E27D2604B
def p256G : Nat × Nat :=
  (0x6B17D1F2E12C4247F8BCE6E563A440F277037D812DEB33A0F4A13945D898C296,
   0x4FE342E2FE1A7F9B8EE7EB4A7C0F9E162BCE33576B315ECECBB6406837BF51F5)

/-- `b ^ e` modulo `m`, by squaring; `fuel` bounds the bits of `e`. -/
def powMod (m : Nat) : Nat → Nat → Nat → Nat
  | 0, _, _ => 1 % m
  | fuel + 1, b, e =>
    if e = 0 then 1 % m
    else
      let h := powMod m fuel (b * b % m) (e / 2)
      if e % 2 = 1 then b * h % m else h

/-- The inverse modulo a prime. -/
def invMod (m a : Nat) : Nat := powMod m 256 (a % m) (m - 2)

/-- The sum of two points of the curve; `none` is the point at infinity. -/
def ecAdd (p q : Option (Nat × Nat)) : Option (Nat × Nat) :=
  match p, q with
  | none, q => q
  | p, none => p
  | some (x1, y1), some (x2, y2) =>
    if x1 = x2 ∧ (y1 + y2) % p256P = 0 then none
    else
      let lam :=
        if x1 = x2 then (3 * x1 * x1 + (p256P - 3)) * invMod p256P (2 * y1) % p256P
        else (y2 + p256P - y1) * invMod p256P (x2 + p256P - x1) % p256P
      let x3 := (lam * lam + 2 * p256P - x1 - x2) % p256P
      some (x3, (lam * (x1 + p256P - x3) + p256P - y1) % p256P)

/-- A point in Jacobian coordinates: the affine point is (x / z^2, y / z^3), and z = 0 is the point at infinity. -/
structure Jac where
  x : Nat
  y : Nat
  z : Nat
deriving DecidableEq, Repr

/-- The difference modulo the field prime. -/
def subP (a b : Nat) : Nat := (a + (p256P - b % p256P)) % p256P

/-- Twice a point; the curve's coefficient is -3. -/
def Jac.double (p : Jac) : Jac :=
  let zz := p.z * p.z % p256P
  let yy := p.y * p.y % p256P
  let b := p.x * yy % p256P
  let a := 3 * subP p.x zz * (p.x + zz) % p256P
  let x3 := subP (a * a) (8 * b)
  ⟨x3, subP (a * subP (4 * b) x3) (8 * yy * yy), 2 * p.y * p.z % p256P⟩

/-- The sum of two points that differ in x and are not at infinity: `h` and `r` are the differences of x and y, `zz` the product of both z. -/
def Jac.sum (x1 y1 h r zz : Nat) : Jac :=
  let hh := h * h % p256P
  let hhh := h * hh % p256P
  let v := x1 * hh % p256P
  let x3 := subP (subP (r * r) hhh) (2 * v)
  ⟨x3, subP (r * subP v x3) (y1 * hhh), zz * h % p256P⟩

/-- The sum of two points. -/
def Jac.add (p q : Jac) : Jac :=
  if p.z = 0 then q
  else if q.z = 0 then p
  else
    let pz := p.z * p.z % p256P
    let qz := q.z * q.z % p256P
    let x1 := p.x * qz % p256P
    let y1 := p.y * (qz * q.z % p256P) % p256P
    let h := subP (q.x * pz) x1
    let r := subP (q.y * (pz * p.z % p256P)) y1
    if h = 0 then (if r = 0 then p.double else ⟨0, 1, 0⟩) else Jac.sum x1 y1 h r (p.z * q.z % p256P)

/-- The multiple `k * p`; `fuel` bounds the bits of `k`. -/
def Jac.mul : Nat → Nat → Jac → Jac
  | 0, _, _ => ⟨0, 1, 0⟩
  | fuel + 1, k, p =>
    if k = 0 then ⟨0, 1, 0⟩
    else
      let h := Jac.mul fuel (k / 2) p.double
      if k % 2 = 1 then p.add h else h

/-- The affine point; `none` is the point at infinity. -/
def Jac.affine (p : Jac) : Option (Nat × Nat) :=
  if p.z = 0 then none
  else
    let i := invMod p256P p.z
    let ii := i * i % p256P
    some (p.x * ii % p256P, p.y * (ii * i % p256P) % p256P)

/-- The multiple `k * p` of an affine point; `fuel` bounds the bits of `k`. -/
def ecMul (fuel k : Nat) (p : Option (Nat × Nat)) : Option (Nat × Nat) :=
  match p with
  | none => none
  | some (x, y) => (Jac.mul fuel k ⟨x % p256P, y % p256P, 1⟩).affine

/-- The point lies on the curve. -/
def onCurve (q : Nat × Nat) : Bool :=
  q.1 < p256P && q.2 < p256P &&
  (q.2 * q.2 % p256P == (q.1 * q.1 * q.1 + (p256P - 3) * q.1 + p256B) % p256P)

/-- Verify an ECDSA signature `r || s` (64 bytes, big-endian) over the SHA-256 of `m` with the public key `x || y`. -/
def ecdsaVerify (key m sig : List Byte) : Bool :=
  let q := (beAt key 0 32, beAt key 32 32)
  let r := beAt sig 0 32
  let s := beAt sig 32 32
  if onCurve q ∧ 0 < r ∧ r < p256N ∧ 0 < s ∧ s < p256N then
    let z := beVal (sha256 m)
    let w := invMod p256N s
    match ecAdd (ecMul 257 (z * w % p256N) (some p256G)) (ecMul 257 (r * w % p256N) (some q)) with
    | none => false
    | some (x, _) => x % p256N == r
  else false

/-- Sign the SHA-256 of `m` with the private key `d` and the per-signature number `k`: 64 bytes `r || s`. -/
def ecdsaSign (d k : Nat) (m : List Byte) : List Byte :=
  match ecMul 257 k (some p256G) with
  | none => zeros 64
  | some (x, _) =>
    let r := x % p256N
    let s := invMod p256N k * (beVal (sha256 m) + r * d) % p256N
    beBytes 32 r ++ beBytes 32 s

/-- The public key of a private key: 64 bytes `x || y`. -/
def p256Public (d : Nat) : List Byte :=
  match ecMul 257 d (some p256G) with
  | none => zeros 64
  | some (x, y) => beBytes 32 x ++ beBytes 32 y

end Sys2Proof.Machine
end

