-- ==== Sys2Proof/Machine/ContainerTypes.lean ====
section
/-! DEFINITION. The logic container as data (05_logic_model): signal references, the entries of its eight sections, and
the refusal a check answers (R178). -/

namespace Sys2Proof.Machine

/-! ### Signal references (Table 5.2). A reference is the 32-bit number of the container. -/

def refKind (r : Nat) : Nat := (r >>> 30) % 4
def refInv (r : Nat) : Bool := r.testBit 29
def refPrev (r : Nat) : Bool := r.testBit 28
def refIndex (r : Nat) : Nat := r % 2 ^ 20

/-- The reference of a bit signal without INV and PREV. -/
def bitRef (index : Nat) : Nat := 0x40000000 + index

/-- Index of local field bit `b` of channel `c` (Table 5.1). -/
def fieldIdx (c b : Nat) : Nat := 16 * c + b

/-- Index of the CMD bit of channel `c`. -/
def cmdIdx (c : Nat) : Nat := 16 * c + 15

def remoteInIdx (n b : Nat) : Nat := 0x80000 + 64 * n + b
def remoteOutIdx (n b : Nat) : Nat := 0xC0000 + 64 * n + b
def nodeOutIdx (r j : Nat) : Nat := 0x40000 + r + j

/-- The ranges of the signal space (Table 5.1). -/
inductive SigRange where
  | field (c b : Nat)
  | device (i : Nat)
  | host (h : Nat)
  | nodeOut (i : Nat)
  | remoteIn (n b : Nat)
  | remoteOut (n b : Nat)
  | reserved
deriving DecidableEq, Repr

def sigRange (i : Nat) : SigRange :=
  if i < 0x400 then .field (i / 16) (i % 16)
  else if i < 0x800 then .device (i - 0x400)
  else if i < 0x1000 then .host (i - 0x800)
  else if i < 0x40000 then .reserved
  else if i < 0x80000 then .nodeOut (i - 0x40000)
  else if i < 0xC0000 then .remoteIn ((i - 0x80000) / 64) ((i - 0x80000) % 64)
  else .remoteOut ((i - 0xC0000) / 64) ((i - 0xC0000) % 64)

/-! ### Entries -/

/-- A cell table entry (Table 5.7). -/
structure CellEntry where
  number : Nat
  inUse : Bool
  retry : Bool
  resetMode : Bool
  k : Nat
  first : Nat
  count : Nat
  limit : Nat
  sagePref : Nat
  braidPref : Nat
  resetRef : Nat
  shadowN : Nat
  name : List Byte
deriving DecidableEq, Repr, Inhabited

/-- T_cell in µs and in ticks. -/
def CellEntry.tUs (e : CellEntry) : Nat := e.k * 250
def CellEntry.ticks (e : CellEntry) : Nat := 5 * e.k

/-- Shadow periods N; 0 stands for 64 (Table 5.7). -/
def CellEntry.shadows (e : CellEntry) : Nat := if e.shadowN = 0 then 64 else e.shadowN

/-- A node: its head record and all its type-specific bytes (R112). -/
structure NodeRec where
  head : Nat
  code : Nat
  span : Nat
  cell : Nat
  tag : Nat
  body : List Byte
deriving DecidableEq, Repr, Inhabited

/-- A channel binding entry (Table 5.11). -/
structure ChanEntry where
  mode : Nat
  filter : Nat
  gap : Nat
  source : Nat
  width : Nat
  slew : Nat
  period : Nat
  current : Nat
deriving DecidableEq, Repr, Inhabited

/-- The modes of Table 3.1. -/
def mOFF : Nat := 0
def mIN_T1 : Nat := 1
def mIN_T3 : Nat := 2
def mIN_MON : Nat := 3
def mOUT_SAFE : Nat := 4
def mOUT_STD : Nat := 5
def mTEST_SRC : Nat := 6
def mOUT_PAIR : Nat := 7

def ChanEntry.isInput (e : ChanEntry) : Bool := e.mode == 1 || e.mode == 2 || e.mode == 3
def ChanEntry.isPulsed (e : ChanEntry) : Bool := e.mode == 4 || e.mode == 6 || e.mode == 7
def ChanEntry.drives (e : ChanEntry) : Bool := e.mode == 4 || e.mode == 5 || e.mode == 6 || e.mode == 7

/-- t_F in µs (Table 3.2). -/
def ChanEntry.filterUs (e : ChanEntry) : Nat :=
  [200, 500, 1000, 2000, 3000, 5000, 10000, 20000, 50000, 100000].getD e.filter 200

/-- N_F = t_F / 50 µs (R59). -/
def ChanEntry.filterN (e : ChanEntry) : Nat := e.filterUs / 50

/-- Pulse width W in µs (Table 3.2). -/
def ChanEntry.widthUs (e : ChanEntry) : Nat := [100, 200, 400, 800].getD e.width 100

/-- Slot length L in ticks (R86). -/
def ChanEntry.slotLen (e : ChanEntry) : Nat := e.widthUs / 50 + 2

/-- A connection entry (Table 5.12). -/
structure ConnEntry where
  partner : Nat
  inUse : Bool
  m1 : Bool
  m2 : Bool
  tagged : Bool
  port : Nat
  uid : Nat
  period : Nat
  wd : Nat
  tNet : Nat
  inBits : Nat
  outBits : Nat
  tci : Nat
  safe : Nat
deriving DecidableEq, Repr, Inhabited

/-- A partner entry (Table 5.13). -/
structure PartnerEntry where
  identity : Nat
  check : List Byte
  inUse : Bool
  udp : Bool
  m1 : Bool
  m2 : Bool
  batch : Bool
  tIn : Nat
  tOut : Nat
deriving DecidableEq, Repr, Inhabited

/-- A fault policy entry (Table 13.6). -/
structure PolicyEntry where
  block : Nat
  index : Nat
  inst : Nat
  sev : Nat
  react : Nat
deriving DecidableEq, Repr, Inhabited

/-- A recorder policy entry (R315). -/
structure RecorderEntry where
  code : Nat
  interval : Nat
deriving DecidableEq, Repr, Inhabited

/-- A response-limit entry (Table 5.14). -/
structure LimitEntry where
  output : Nat
  limit : Nat
  mask : Nat
deriving DecidableEq, Repr, Inhabited

/-- A container whose layout has been read (R108, R109). The connection and partner lists keep unused entries, so
that index n is entry n. -/
structure Container where
  hash : List Byte
  flags : Nat
  epoch : Nat
  serial : Nat
  tool : List Byte
  cells : List CellEntry
  nodes : List NodeRec
  chans : List ChanEntry
  conns : List ConnEntry
  partners : List PartnerEntry
  policy : List PolicyEntry
  recorder : List RecorderEntry
  limits : List LimitEntry
  records : Nat
deriving DecidableEq, Repr, Inhabited

def Container.singleTol (c : Container) : Bool := c.flags.testBit 0
def Container.startHost (c : Container) : Bool := c.flags.testBit 1
def Container.errpDyn (c : Container) : Bool := c.flags.testBit 2

def Container.cell (c : Container) (n : Nat) : CellEntry := c.cells.getD n default
def Container.chan (c : Container) (i : Nat) : ChanEntry := c.chans.getD i default
def Container.conn (c : Container) (n : Nat) : ConnEntry := c.conns.getD n default
def Container.partner (c : Container) (i : Nat) : PartnerEntry := c.partners.getD i default

/-- The cells in use, ascending. -/
def Container.cellsInUse (c : Container) : List Nat := rangeFilter c.cells.length (fun n => (c.cell n).inUse)

/-- The connections in use, ascending. -/
def Container.connsInUse (c : Container) : List Nat := rangeFilter c.conns.length (fun n => (c.conn n).inUse)

/-- The nodes of a cell in ascending record order. -/
def Container.nodesOf (c : Container) (n : Nat) : List NodeRec := c.nodes.filter (fun r => r.cell == n)

/-- The item kinds of R252. -/
def kNone : Nat := 0
def kSection : Nat := 1
def kCell : Nat := 2
def kRecord : Nat := 3
def kChannel : Nat := 4
def kConn : Nat := 5
def kGroup : Nat := 6
def kOutput : Nat := 7
def kBlock : Nat := 8
def kParam : Nat := 9
def kPartner : Nat := 10

/-- A refusal of a container: its code of Table 7.7 and up to two named items (R178, R252). -/
structure CfgRefusal where
  code : Nat
  kind : Nat
  index : Nat
  kind2 : Nat
  index2 : Nat
deriving DecidableEq, Repr, Inhabited

def refusal (code kind index : Nat) : CfgRefusal := ⟨code, kind, index, 0, 0⟩

/-- The refusal codes of Table 7.7. -/
def cFORMAT : Nat := 0x41
def cHASH : Nat := 0x42
def cEPOCH : Nat := 0x43
def cHOST_ENABLE : Nat := 0x44
def cFIELD_LIMIT : Nat := 0x45
def cUNUSABLE : Nat := 0x46
def cCAPACITY_A : Nat := 0x47
def cCAPACITY_B : Nat := 0x48
def cWEIR_RATE : Nat := 0x49
def cSLICES : Nat := 0x4A
def cDEADLINE : Nat := 0x4B
def cDEGRADED : Nat := 0x4C
def cCLASS : Nat := 0x4D
def cNO_STANDBY : Nat := 0x4E

/-- The device settings that the checks read, as they stand when the command is accepted (R115, R232, R399, R220). -/
structure CheckEnv where
  epochMin : Nat
  epochMax : Nat
  portModes : List Nat
  portIps : List Nat
  identity : Nat
deriving DecidableEq, Repr, Inhabited

end Sys2Proof.Machine
end

