-- ==== Sys2Proof/Machine/Nodes.lean ====
section
/-! DEFINITION. The function node library (06_function_nodes): each type's layout, state, outputs, cost and routine.
A routine reads its inputs by their byte offset in the type-specific bytes, as the layout tables name them (R135). -/

namespace Sys2Proof.Machine

/-- The node types of Table 6.1. -/
inductive NodeType where
  | and | or | xor | latch | ton | tof | tp | edge
  | equiv | antiv
  | estop | guard | guardLock | ossd | mute2 | mute4 | twoHand | enabling | edm | restart | modeSel
  | wcmp | count | pack
  | safeOut | remoteIn | remoteOut | hostSig
deriving DecidableEq, Repr

def NodeType.ofCode (c : Nat) : Option NodeType :=
  match c with
  | 0x01 => some .and | 0x02 => some .or | 0x03 => some .xor | 0x04 => some .latch
  | 0x05 => some .ton | 0x06 => some .tof | 0x07 => some .tp | 0x08 => some .edge
  | 0x10 => some .equiv | 0x11 => some .antiv
  | 0x20 => some .estop | 0x21 => some .guard | 0x22 => some .guardLock | 0x23 => some .ossd
  | 0x24 => some .mute2 | 0x25 => some .mute4 | 0x26 => some .twoHand | 0x27 => some .enabling
  | 0x28 => some .edm | 0x29 => some .restart | 0x2A => some .modeSel
  | 0x40 => some .wcmp | 0x41 => some .count | 0x42 => some .pack
  | 0x50 => some .safeOut | 0x51 => some .remoteIn | 0x52 => some .remoteOut | 0x53 => some .hostSig
  | _ => none

/-- Lowest and highest span (Table 6.1). -/
def NodeType.spans : NodeType → Nat × Nat
  | .and | .or | .remoteOut => (1, 4)
  | .xor | .latch | .ton | .tof | .tp | .edge | .wcmp | .count | .safeOut | .remoteIn | .hostSig => (1, 1)
  | .equiv | .antiv | .estop | .guard | .ossd | .twoHand | .enabling | .edm | .restart | .modeSel => (2, 2)
  | .guardLock | .mute2 | .mute4 | .pack => (3, 3)

/-- Number of outputs (Table 6.1). -/
def NodeType.outputs : NodeType → Nat
  | .and | .or | .xor | .latch | .ton | .tof | .tp | .edge | .wcmp | .count | .remoteIn | .hostSig => 1
  | .equiv | .antiv | .estop | .guard | .ossd | .twoHand | .enabling | .edm | .restart | .modeSel => 2
  | .guardLock | .mute2 | .mute4 => 3
  | .pack | .safeOut | .remoteOut => 0

/-- The kinds of a field (R135), with the range its table gives. `skip` is an optional input that is left out when it
is none (AND, OR); `bit opt inh` reads `opt` when it is none. -/
inductive FieldKind where
  | bit (opt : Option Nat) (inh : Bool)
  | skip
  | word
  | time (lo hi : Nat)
  | widx (noneOk : Bool)
  | num (size lo hi : Nat)
deriving DecidableEq, Repr

def FieldKind.size : FieldKind → Nat
  | .bit _ _ | .skip | .word | .time _ _ => 4
  | .widx _ => 2
  | .num n _ _ => n

/-- A required bit input. -/
def bitIn (off : Nat) : Nat × FieldKind := (off, .bit none false)

def dualFields (bOpt : Bool) (hi : Nat) : List (Nat × FieldKind) :=
  [bitIn 0, (4, if bOpt then .skip else .bit none false), (8, .time 250 hi), (12, .num 1 0 1)]

/-- The fields of a node, by offset (Tables 6.2 to 6.11). Bytes outside every field are reserved. -/
def NodeType.fields (t : NodeType) (span : Nat) (body : List Byte) : List (Nat × FieldKind) :=
  match t with
  | .and | .or => (List.range ((24 + 28 * (span - 1)) / 4)).map (fun i => (4 * i, .skip))
  | .xor => [bitIn 0, bitIn 4]
  | .latch => [bitIn 0, bitIn 4, (8, .num 1 0 1)]
  | .ton | .tof | .tp => [bitIn 0, (4, .time 0 3600000000)]
  | .edge => [bitIn 0, (4, .num 1 0 1)]
  | .equiv | .antiv => dualFields false 30000000
  | .estop => dualFields true 30000000
  | .guard => dualFields false 30000000
  | .ossd => dualFields false 500000
  | .guardLock =>
    [bitIn 0, bitIn 4, bitIn 8, bitIn 12, bitIn 16, (20, .bit (some 0) false), (24, .time 250 30000000),
     (28, .time 250 30000000), (32, .num 1 0 7)]
  | .mute2 =>
    [bitIn 0, bitIn 4, bitIn 8, (20, .bit (some 1) false), (24, .bit (some 0) false),
     (28, .time 100000 10000000), (32, .time 1000000 3600000000), (36, .time 0 600000000)]
  | .mute4 =>
    [bitIn 0, bitIn 4, bitIn 8, bitIn 12, bitIn 16, (20, .bit (some 1) false), (24, .bit (some 0) false),
     (28, .time 100000 10000000), (32, .time 1000000 3600000000), (36, .time 0 600000000), (40, .num 1 0 1)]
  | .twoHand =>
    [bitIn 0, bitIn 4, bitIn 8, bitIn 12, (16, .bit (some 1) true), (20, .time 0 500000), (24, .time 250 1000000)]
  | .enabling =>
    [bitIn 0, bitIn 4, (8, .bit (some 0) false), (12, .bit (some 1) true), (16, .time 250 1000000)]
  | .edm => [bitIn 0, bitIn 4, (8, .time 1000 10000000), (12, .num 1 0 1)]
  | .restart =>
    [bitIn 0, (4, .skip), (8, .bit (some 1) true), (12, .bit (some 1) false), (16, .num 1 0 1),
     (20, .time 0 5000000), (24, .time 0 5000000)]
  | .modeSel =>
    (List.range 8).map (fun i => (4 * i, FieldKind.skip)) ++
    [(32, .time 250 10000000), (36, .num 1 2 8), (38, .widx true)]
  | .wcmp => [(0, .word), (4, .word), (8, .num 1 0 3), (9, .num 1 0 1), (10, .num 2 0 32767)]
  | .count => [bitIn 0, (4, .bit (some 0) false), (8, .num 2 1 65535), (10, .widx true)]
  | .pack => (0, .widx false) :: (List.range 16).map (fun i => (4 + 4 * i, .bit (some 0) false))
  | .safeOut => [bitIn 0, (4, .num 1 0 63)]
  | .remoteIn => [(0, .num 2 0 4095)]
  | .remoteOut =>
    [(0, .num 2 0 4095), (2, .num 1 0 63), (3, .num 1 1 (5 + 7 * (span - 1)))] ++
    (List.range (leAt body 3 1)).map (fun i => bitIn (4 + 4 * i))
  | .hostSig => [bitIn 0]

/-- The input references of a node, by offset: bit, skipped and word inputs. -/
def NodeType.inputOffsets (t : NodeType) (span : Nat) (body : List Byte) : List (Nat × FieldKind) :=
  (t.fields span body).filter (fun f =>
    match f.2 with
    | .bit _ _ | .skip | .word => true
    | _ => false)

/-- The node-written word, when the node owns one (R106). -/
def NodeType.wordOf (t : NodeType) (body : List Byte) : Option Nat :=
  let w := match t with
    | .modeSel => leAt body 38 2
    | .count => leAt body 10 2
    | .pack => leAt body 0 2
    | _ => 0
  if w = 0 then none else some w

/-! ### Rules of a field or of a type that a range does not state -/

/-- A field against its kind and range (R135, R136). -/
def fieldOk (body : List Byte) (f : Nat × FieldKind) : Bool :=
  let v := leAt body f.1 f.2.size
  match f.2 with
  | .bit opt _ =>
    refKind v == 1 || (refKind v == 3 && v % 2 ^ 16 < 2) || (opt.isSome && refKind v == 0)
  | .skip => refKind v == 1 || (refKind v == 3 && v % 2 ^ 16 < 2) || refKind v == 0
  | .word => refKind v == 2 || refKind v == 3
  | .time lo hi => lo ≤ v && v ≤ hi
  | .widx noneOk => (0x100 ≤ v && v ≤ 0x3FFF) || (noneOk && v == 0)
  | .num _ lo hi => lo ≤ v && v ≤ hi

/-- Bytes that no field names are 0 (R135). -/
def reservedOk (body : List Byte) (fs : List (Nat × FieldKind)) : Bool :=
  (List.range body.length).all (fun i =>
    fs.any (fun f => f.1 ≤ i && i < f.1 + f.2.size) || body.getD i 0 == 0)

/-- The reference at an offset. -/
def refAt (body : List Byte) (off : Nat) : Nat := leAt body off 4

/-- The rules of single types (R143, R146, R148, R150, R153, R157, R398) in a cell of period `T` µs. -/
def NodeType.rulesOk (t : NodeType) (span : Nat) (body : List Byte) (T : Nat) : Bool :=
  let none4 := fun off => refKind (refAt body off) == 0
  match t with
  | .and | .or => (t.fields span body).any (fun f => refKind (refAt body f.1) != 0)
  | .equiv | .antiv | .ossd =>
    leAt body 12 1 == 0 &&
    !(refKind (refAt body 0) == 1 && refKind (refAt body 4) == 1 && refIndex (refAt body 0) == refIndex (refAt body 4))
  | .guard =>
    !(refKind (refAt body 0) == 1 && refKind (refAt body 4) == 1 && refIndex (refAt body 0) == refIndex (refAt body 4))
  | .estop =>
    (if none4 4 then leAt body 12 1 == 0 else true) &&
    !(refKind (refAt body 0) == 1 && refKind (refAt body 4) == 1 && refIndex (refAt body 0) == refIndex (refAt body 4))
  | .mute2 | .mute4 =>
    if none4 24 then leAt body 36 4 == 0 else 1000000 ≤ leAt body 36 4
  | .twoHand =>
    (leAt body 20 4 == 0 || 250 ≤ leAt body 20 4) && leAt body 20 4 + T ≤ 500000
  | .restart =>
    if leAt body 16 1 = 1 then none4 4 && leAt body 20 4 == 0 && leAt body 24 4 == 0
    else !none4 4 && 100000 ≤ leAt body 20 4 && leAt body 20 4 ≤ leAt body 24 4
  | .modeSel =>
    (List.range 8).all (fun i => if i < leAt body 36 1 then !none4 (4 * i) else none4 (4 * i))
  | .wcmp => leAt body 8 1 < 2 || leAt body 10 2 == 0
  | .hostSig =>
    refKind (refAt body 0) == 1 && !refPrev (refAt body 0) &&
    0x800 ≤ refIndex (refAt body 0) && refIndex (refAt body 0) < 0x1000
  | _ => true

/-! ### State -/

/-- Widths in bytes of the state variables, in signature order (R141). -/
def NodeType.widths : NodeType → List Nat
  | .latch => [1]
  | .ton => [1, 4]
  | .tof => [1, 1, 4]
  | .tp => [1, 1, 4]
  | .edge => [1]
  | .equiv | .antiv | .estop | .guard | .ossd => [1, 1, 1, 4, 1]
  | .guardLock => [1, 1, 1, 4, 1, 1, 1, 1, 4, 1, 1, 1, 1]
  | .mute2 | .mute4 => [1, 4, 4, 1]
  | .twoHand => [1, 1, 4, 1, 4, 1, 4, 1]
  | .enabling => [1, 1, 1, 4, 1, 1]
  | .edm => [1, 4, 1]
  | .restart => [1, 1, 1, 4, 1]
  | .modeSel => [1, 1, 4]
  | .wcmp => [1]
  | .count => [2, 1]
  | _ => []

/-- Initial values of the state variables (the `state` lines). -/
def NodeType.initState (t : NodeType) (body : List Byte) : List Nat :=
  match t with
  | .latch => [0]
  | .ton => [0, 0]
  | .tof => [0, 0, 0]
  | .tp => [1, 0, 0]
  | .edge => [1 - leAt body 4 1 % 2]
  | .equiv | .antiv | .estop | .guard | .ossd => [1, 0, 0, 0, 0]
  | .guardLock => [1, 0, 0, 0, 0, 1, 0, 0, 0, 0, 0, 0, 0]
  | .mute2 | .mute4 => [0, 0, 0, 1]
  | .twoHand => [3, 0, 0, 0, 0, 0, 0, 0]
  | .enabling => [1, 0, 0, 0, 0, 0]
  | .edm => [0, 0, 0]
  | .restart => [1 - leAt body 16 1, 1, 0, 0, 1]
  | .modeSel => [0, 0, 0]
  | .wcmp => [0]
  | .count => [0, 1]
  | _ => []

/-- Costs in node-ticks: channel A, channel B (Table 6.1). -/
def NodeType.cost (t : NodeType) (span : Nat) (body : List Byte) : Nat × Nat :=
  let u := ((t.inputOffsets span body).filter (fun f => refKind (refAt body f.1) != 0)).length
  match t with
  | .and | .or => (4 + 2 * u, 3 + u)
  | .xor => (6, 4) | .latch => (8, 6) | .ton => (12, 10) | .tof => (14, 11) | .tp => (12, 10) | .edge => (6, 5)
  | .equiv | .antiv | .estop | .guard | .ossd => (18, 14)
  | .guardLock => (40, 32) | .mute2 => (40, 32) | .mute4 => (52, 42) | .twoHand => (30, 24)
  | .enabling => (22, 18) | .edm => (16, 12) | .restart => (24, 20)
  | .modeSel => (10 + 2 * leAt body 36 1, 8 + leAt body 36 1)
  | .wcmp => (10, 8) | .count => (12, 10) | .pack => (8 + u, 6 + u)
  | .safeOut => (8, 6) | .remoteIn => (6, 5)
  | .remoteOut => (6 + leAt body 3 1, 5 + leAt body 3 1)
  | .hostSig => (4, 3)

/-! ### Routines -/

/-- What an evaluation of a node gives: its state, its outputs, its word and the values it binds (CMD or remote
output bits). -/
structure NodeResult where
  state : List Nat
  outs : List Nat
  word : Nat
  binds : List Nat
deriving DecidableEq, Repr, Inhabited

/-- `sat(x)` of R137. -/
def sat32 (x : Nat) : Nat := min x 0xFFFFFFFF

/-- The helper `hold(c, f, t)` of R138. -/
def hold (T : Nat) (c : Bool) (f t : Nat) : Nat × Nat :=
  if c then (if f = 0 then (1, 0) else (f, sat32 (t + T))) else (0, 0)

/-- One instance of the dual-channel core (R145). -/
structure Dual where
  arm : Nat
  dsc : Nat
  flt : Nat
  t : Nat
  q : Nat
deriving DecidableEq, Repr, Inhabited

def Dual.toList (d : Dual) : List Nat := [d.arm, d.dsc, d.flt, d.t, d.q]

/-- The five variables of a core instance from position `i` of the state list. -/
def dualAt (st : List Nat) (i : Nat) : Dual :=
  ⟨st.getD i 0, st.getD (i + 1) 0, st.getD (i + 2) 0, st.getD (i + 3) 0, st.getD (i + 4) 0⟩

/-- The dual-channel core (R145). -/
def dual (T : Nat) (anti : Bool) (tDisc : Nat) (a b0 : Nat) (d : Dual) : Dual :=
  let b := if anti then 1 - b0 else b0
  let h := hold T (a != b) d.dsc d.t
  let flt1 := if h.1 = 1 ∧ tDisc ≤ h.2 then 1 else d.flt
  let arm1 := if a ≠ b ∧ d.q = 1 then 0 else d.arm
  let both0 := a = 0 ∧ b = 0
  let arm2 := if both0 then 1 else arm1
  let flt2 := if both0 then 0 else flt1
  let q := b2n (a == 1 && b == 1 && arm2 == 1 && flt2 == 0)
  ⟨arm2, h.1, flt2, h.2, q⟩

/-- The muting routine (R149). `start` and `first` are the expressions of the node's type. -/
def muteStep (T : Nat) (curtain enable ovr : Bool) (n : Nat) (start first : Bool) (tSync tMax tOvr : Nat)
    (st t tm op : Nat) : List Nat × List Nat :=
  let ovrEdge := ovr && op == 0
  let op' := b2n ovr
  let r : Nat × Nat × Nat :=
    if st = 0 then
      if enable && curtain && start then (2, t, 0)
      else if enable && curtain && first then (1, 0, tm)
      else if enable && curtain && 1 ≤ n then (4, t, tm)
      else (st, t, tm)
    else if st = 1 then
      let t' := sat32 (t + T)
      if !enable || !curtain || n == 0 then (3, t', tm)
      else if start then (2, t', 0)
      else if 2 ≤ n || tSync ≤ t' then (4, t', tm)
      else (st, t', tm)
    else if st = 2 then
      let tm' := sat32 (tm + T)
      if tMax ≤ tm' then (4, t, tm')
      else if !enable || n < 2 then (3, t, tm')
      else (st, t, tm')
    else if st = 3 then
      if n = 0 then (0, t, tm)
      else if ovrEdge && !curtain then (5, 0, tm)
      else (st, t, tm)
    else if st = 4 then
      if n = 0 ∧ curtain then (0, t, tm)
      else if ovrEdge && 1 ≤ n then (5, 0, tm)
      else (st, t, tm)
    else
      let t' := sat32 (t + T)
      if !ovr || tOvr ≤ t' then (4, t', tm)
      else if n = 0 then (3, t', tm)
      else (st, t', tm)
  let mute := r.1 == 2 || r.1 == 5
  ([r.1, r.2.1, r.2.2, op'], [b2n (curtain || mute), b2n mute, b2n (r.1 == 4)])

/-- The two-hand routine (R151); `tSync` is already the effective limit. -/
def twoHandStep (T : Nat) (h1 h1n h2 h2n inh : Bool) (tSync tDisc : Nat) (s : List Nat) : List Nat × List Nat :=
  let g := fun i => s.getD i 0
  let p1 := h1 && !h1n
  let r1 := h1n && !h1
  let p2 := h2 && !h2n
  let r2 := h2n && !h2
  let x1 := hold T (!p1 && !r1) (g 3) (g 4)
  let x2 := hold T (!p2 && !r2) (g 5) (g 6)
  let f1 := if (x1.1 = 1 ∧ tDisc ≤ x1.2) ∨ (x2.1 = 1 ∧ tDisc ≤ x2.2) then 1 else g 7
  let f := if r1 && r2 then 0 else f1
  let st := g 0
  let w := g 1
  let t := g 2
  let n : Nat × Nat × Nat :=
    if st = 0 then
      if p1 && p2 then (2, w, t)
      else if p1 then (1, 1, 0)
      else if p2 then (1, 2, 0)
      else (st, w, t)
    else if st = 1 then
      let t' := sat32 (t + T)
      if (w == 1 && !p1) || (w == 2 && !p2) || tSync < t' then (3, w, t')
      else if p1 && p2 then (2, w, t')
      else (st, w, t')
    else if st = 2 then
      (if p1 && p2 then st else 3, w, t)
    else if r1 && r2 then (0, w, t) else (st, w, t)
  let st' := if f = 1 ∨ !inh then 3 else n.1
  ([st', n.2.1, n.2.2, x1.1, x1.2, x2.1, x2.2, f], [b2n (st' == 2), f])

/-- The EDM routine (R154). -/
def edmStep (T cmd fb tFb : Nat) (fbNo : Bool) (cp t fl : Nat) : List Nat × List Nat :=
  let t' := if cmd = cp then sat32 (t + T) else 0
  let exp := if fbNo then cmd else 1 - cmd
  let fl1 := if fb ≠ exp ∧ tFb ≤ t' then 1 else fl
  let fl2 := if cmd = 0 ∧ fb = exp then 0 else fl1
  ([cmd, t', fl2], [b2n (cmd == 1 && fl2 == 0), b2n (fl2 == 0)])

/-- The RESTART routine (R155). -/
def restartStep (T : Nat) (en rst inh edmOk mode tMin tMax : Nat) (s : List Nat) : List Nat × List Nat :=
  let lk := s.getD 0 0
  let rp := s.getD 1 0
  let ar := s.getD 2 0
  let t := s.getD 3 0
  let ep := s.getD 4 0
  let cond := en == 1 && inh == 1 && edmOk == 1
  let n : List Nat :=
    if mode = 0 then
      let m : Nat × Nat × Nat :=
        if !cond then (1, 0, t)
        else if lk = 1 then
          let t1 := if ar = 1 then sat32 (t + T) else t
          let ar1 := if ar = 1 ∧ tMax < t1 then 0 else ar
          if rst = 1 ∧ rp = 0 then (lk, 1, 0)
          else if rst = 0 ∧ rp = 1 ∧ ar1 = 1 then (if tMin ≤ t1 then 0 else lk, 0, t1)
          else (lk, ar1, t1)
        else (lk, ar, t)
      [m.1, rst, m.2.1, m.2.2, ep]
    else
      let lk' := if inh = 0 then 1 else if en = 1 ∧ ep = 0 then 0 else lk
      [lk', rp, ar, t, en]
  (n, [b2n (cond && n.getD 0 0 == 0), b2n (cond && n.getD 0 0 == 1)])

/-- The two's complement value of a 16-bit word. -/
def signed16 (v : Nat) : Int := if v < 32768 then (v : Int) else (v : Int) - 65536

/-- The WCMP routine (R158). -/
def wcmpStep (x l : Int) (op h q : Nat) : Nat :=
  let hi : Int := h
  if op = 0 then b2n (if q = 0 then decide (l ≤ x) else decide (l - hi ≤ x))
  else if op = 1 then b2n (if q = 0 then decide (x ≤ l) else decide (x ≤ l + hi))
  else if op = 2 then b2n (decide (x = l))
  else b2n (decide (x ≠ l))

/-- One evaluation of a node (R137): `inp off` is the value read at the input at offset `off` (with the value of an
optional input that is none), `used off` says that the input is not none, `connOk` is the latched CONN_OK. -/
def evalNode (t : NodeType) (span T : Nat) (body : List Byte) (inp : Nat → Nat) (used : Nat → Bool) (connOk : Nat)
    (s : List Nat) : NodeResult :=
  let g := fun i => s.getD i 0
  let on := fun off => inp off == 1
  let one := fun (st outs : List Nat) => (⟨st, outs, 0, []⟩ : NodeResult)
  let dualNode := fun (anti : Bool) (b : Nat) =>
    let d := dual T anti (leAt body 8 4) (inp 0) b (dualAt s 0)
    one d.toList [d.q, d.flt]
  match t with
  | .and =>
    one [] [b2n ((t.fields span body).all (fun f => !used f.1 || on f.1))]
  | .or =>
    one [] [b2n ((t.fields span body).any (fun f => used f.1 && on f.1))]
  | .xor => one [] [b2n (on 0 != on 4)]
  | .latch =>
    let q := if leAt body 8 1 = 1 then (if on 4 then 0 else if on 0 then 1 else g 0)
      else (if on 0 then 1 else if on 4 then 0 else g 0)
    one [q] [q]
  | .ton =>
    let h := hold T (on 0) (g 0) (g 1)
    one [h.1, h.2] [b2n (h.1 == 1 && leAt body 4 4 ≤ h.2)]
  | .tof =>
    let q0 := if on 0 then 1 else g 0
    let h := hold T (q0 == 1 && !on 0) (g 1) (g 2)
    let q := if h.1 = 1 ∧ leAt body 4 4 ≤ h.2 then 0 else q0
    one [q, h.1, h.2] [q]
  | .tp =>
    let r : Nat × Nat :=
      if g 1 = 1 then
        let t' := sat32 (g 2 + T)
        (if leAt body 4 4 ≤ t' then 0 else 1, t')
      else if on 0 && g 0 == 0 then (1, 0) else (0, g 2)
    one [inp 0, r.1, r.2] [r.1]
  | .edge =>
    let q := if leAt body 4 1 = 1 then g 0 == 1 && !on 0 else on 0 && g 0 == 0
    one [inp 0] [b2n q]
  | .equiv | .ossd => dualNode false (inp 4)
  | .antiv => dualNode true (inp 4)
  | .estop => dualNode (leAt body 12 1 == 1) (if used 4 then inp 4 else inp 0)
  | .guard => dualNode (leAt body 12 1 == 1) (inp 4)
  | .guardLock =>
    let antiD := (leAt body 32 1).testBit 0
    let antiL := (leAt body 32 1).testBit 1
    let powerLock := (leAt body 32 1).testBit 2
    let d := dual T antiD (leAt body 24 4) (inp 0) (inp 4) (dualAt s 0)
    let l := dual T antiL (leAt body 28 4) (inp 8) (inp 12) (dualAt s 5)
    let unl := if !on 16 then 0 else if on 20 then 1 else g 10
    let ll1 := if l.q = 0 ∧ g 11 = 1 ∧ unl = 0 ∧ d.q = 1 then 1 else g 12
    let ll := if !on 0 && (on 4 == antiD) then 0 else ll1
    one (d.toList ++ l.toList ++ [unl, l.q, ll])
      [b2n (d.q == 1 && l.q == 1 && !on 16 && unl == 0 && ll == 0), b2n ((unl == 1) != powerLock),
       b2n (d.flt == 1 || l.flt == 1 || ll == 1)]
  | .mute2 =>
    let n := inp 4 + inp 8
    let r := muteStep T (on 0) (on 20) (on 24) n (on 4 && on 8) (n == 1) (leAt body 28 4) (leAt body 32 4)
      (leAt body 36 4) (g 0) (g 1) (g 2) (g 3)
    one r.1 r.2
  | .mute4 =>
    let n := inp 4 + inp 8 + inp 12 + inp 16
    let bidir := leAt body 40 1 == 1
    let r := muteStep T (on 0) (on 20) (on 24) n ((on 4 && on 8) || (bidir && on 16 && on 12))
      (n == 1 && (on 4 || (bidir && on 16))) (leAt body 28 4) (leAt body 32 4) (leAt body 36 4) (g 0) (g 1) (g 2) (g 3)
    one r.1 r.2
  | .twoHand =>
    let tSync := if leAt body 20 4 = 0 then 500000 - T else leAt body 20 4
    let r := twoHandStep T (on 0) (on 4) (on 8) (on 12) (on 16) tSync (leAt body 24 4) s
    one r.1 r.2
  | .enabling =>
    let e := dual T false (leAt body 16 4) (inp 0) (inp 4) (dualAt s 0)
    let p := if on 8 || !on 12 then 0 else if !on 0 && !on 4 then 1 else g 5
    one (e.toList ++ [p]) [b2n (e.q == 1 && p == 1 && !on 8 && on 12), e.flt]
  | .edm =>
    let r := edmStep T (inp 0) (inp 4) (leAt body 8 4) (leAt body 12 1 == 1) (g 0) (g 1) (g 2)
    one r.1 r.2
  | .restart =>
    let r := restartStep T (inp 0) (inp 4) (inp 8) (inp 12) (leAt body 16 1) (leAt body 20 4) (leAt body 24 4) s
    one r.1 r.2
  | .modeSel =>
    let act := (List.range (leAt body 36 1)).filter (fun i => on (4 * i))
    let cnt := act.length
    let idx := act.headD 0 + 1
    let h := hold T (cnt != 1) (g 1) (g 2)
    let valid := cnt == 1 && idx == g 0
    let sel := if cnt = 1 then idx else 0
    ⟨[sel, h.1, h.2], [b2n valid, b2n (h.1 == 1 && leAt body 32 4 ≤ h.2)], if valid then sel else 0, []⟩
  | .wcmp =>
    let w := fun v => if leAt body 9 1 = 1 then signed16 v else (v : Int)
    let q := wcmpStep (w (inp 0)) (w (inp 4)) (leAt body 8 1) (leAt body 10 2) (g 0)
    one [q] [q]
  | .count =>
    let cv := if on 4 then 0 else if on 0 && g 1 == 0 && g 0 < 0xFFFF then g 0 + 1 else g 0
    ⟨[cv, inp 0], [b2n (leAt body 8 2 ≤ cv)], cv, []⟩
  | .pack => ⟨[], [], bitsToNat ((List.range 16).map (fun i => on (4 + 4 * i))), []⟩
  | .safeOut => ⟨[], [], 0, [inp 0]⟩
  | .remoteIn => one [] [connOk]
  | .remoteOut => ⟨[], [], 0, (List.range (leAt body 3 1)).map (fun i => inp (4 + 4 * i))⟩
  | .hostSig => one [] [inp 0]

/-- The node's bytes in the state signature: outputs in one byte, then its variables little-endian (R132). -/
def sigBytes (t : NodeType) (outs state : List Nat) : List Byte :=
  byte (bitsToNat (outs.map (· == 1))) ::
  ((t.widths.zip state).map (fun p => leBytes p.1 p.2)).flatten

end Sys2Proof.Machine
end

