-- ==== Sys2Proof/Machine/Container.lean ====
section
/-! DEFINITION. Reading a logic container and its structural checks, steps 1 to 10 of Table 5.15 (R108 to R120, R398).
Each check answers the refusal of the first failing entry, or none. -/

namespace Sys2Proof.Machine

/-- Maximum length of a container (R109). -/
def maxContainer : Nat := 8915168

/-- Section ID, entry size, lowest and highest entry count (Table 5.6). -/
def sectionRows : List (Nat × Nat × Nat × Nat) :=
  [(1, 64, 1, 256), (2, 32, 1, 262144), (3, 16, 64, 64), (4, 64, 0, 4096), (5, 32, 0, 4096), (6, 8, 0, 2048),
   (7, 8, 0, 4096), (8, 16, 0, 4160)]

/-- A directory entry (R109). -/
structure DirEntry where
  id : Nat
  reserved : Nat
  off : Nat
  count : Nat
  size : Nat
deriving DecidableEq, Repr, Inhabited

/-- The entry at place `j` of the directory. -/
def dirPlace (bs : List Byte) (j : Nat) : DirEntry :=
  let o := 64 + 16 * j
  ⟨leAt bs o 2, leAt bs (o + 2) 2, leAt bs (o + 4) 4, leAt bs (o + 8) 4, leAt bs (o + 12) 4⟩

/-- The directory as it stands. -/
def directory (bs : List Byte) : List DirEntry := (List.range 8).map (dirPlace bs)

/-- The entry of section `i` (0 to 7, ID i + 1), wherever the directory has it. -/
def dirEntry (bs : List Byte) (i : Nat) : DirEntry := ((directory bs).find? (fun d => d.id == i + 1)).getD default

/-- `count` entries of `size` bytes. -/
def chunks (size : Nat) : Nat → List Byte → List (List Byte)
  | 0, _ => []
  | n + 1, bs => bs.take size :: chunks size n (bs.drop size)

/-- The entries of section `i` (0 to 7). -/
def sectionEntries (bs : List Byte) (i : Nat) : List (List Byte) :=
  let d := dirEntry bs i
  let row := sectionRows.getD i (0, 0, 0, 0)
  chunks row.2.1 d.count (bs.drop d.off)

/-- The first `some` of a list of checks, in order. -/
def firstSome {α β : Type} (f : α → Option β) : List α → Option β
  | [] => none
  | x :: xs => match f x with
    | some r => some r
    | none => firstSome f xs

/-- `r` unless the condition holds. -/
def require (ok : Bool) (r : CfgRefusal) : Option CfgRefusal := if ok then none else some r

/-- Two checks in order. -/
def andThen (a : Option CfgRefusal) (b : Unit → Option CfgRefusal) : Option CfgRefusal :=
  match a with
  | some r => some r
  | none => b ()

/-- Step 1 (R108): `staged` is the staged length. -/
def headerOk (bs : List Byte) (staged : Nat) : Bool :=
  bs.take 4 == [0x46, 0x59, 0x4C, 0x43] && leAt bs 4 2 == 1 && leAt bs 6 2 == 64 &&
  leAt bs 8 4 ≤ maxContainer && leAt bs 8 4 == staged && bs.length == staged &&
  leAt bs 16 2 == 8 && leAt bs 14 2 / 8 == 0 && leAt bs 18 2 == 0 && allZero ((bs.drop 40).take 24)

/-- The configuration hash: SHA-256 over all bytes before the trailer (R110). -/
def containerHash (bs : List Byte) : List Byte := sha256 (bs.take (bs.length - 32))

/-- The section's place and size against Table 5.6, after a section that ends at `prevEnd`. -/
def dirEntryOk (bs : List Byte) (i prevEnd limit : Nat) : Bool :=
  let d := dirEntry bs i
  let row := sectionRows.getD i (0, 0, 0, 0)
  d.size == row.2.1 && row.2.2.1 ≤ d.count && d.count ≤ row.2.2.2 &&
  (if d.count = 0 then d.off == prevEnd
   else d.off % 16 == 0 && prevEnd ≤ d.off && d.off + d.count * d.size ≤ limit)

/-- The non-empty sections with an ID below that of section `i`: the end of the last one, and the ID that names it. Bytes before the
first section, which none precedes, name section 1 (log 98). -/
def sectionsBelow (bs : List Byte) (i : Nat) : Nat × Nat :=
  (List.range i).foldl (fun acc j =>
    let d := dirEntry bs j
    if d.count = 0 then acc else (d.off + d.count * d.size, j + 1)) (192, 1)

/-- One directory entry at its place (R109): its ID, which no earlier entry has, its section's size, count and place, and the bytes
between that section and the one before it. -/
def checkDirEntry (bs : List Byte) (limit : Nat) (p : DirEntry × Nat) : Option CfgRefusal :=
  let d := p.1
  let below := sectionsBelow bs (d.id - 1)
  let bad := fun id => some (refusal cFORMAT kSection id)
  if !(decide (1 ≤ d.id ∧ d.id ≤ 8) && d.reserved == 0 && !(((directory bs).take p.2).any (fun e => e.id == d.id))) then bad d.id
  else if !dirEntryOk bs (d.id - 1) below.1 limit then bad d.id
  else if d.count != 0 && !allZero ((bs.drop below.1).take (d.off - below.1)) then bad below.2
  else none

/-- Step 4 (R109): the directory in ascending index (R119), then the bytes after the last section. -/
def checkDirectory (bs : List Byte) : Option CfgRefusal :=
  let limit := bs.length - 32
  andThen (firstSome (checkDirEntry bs limit) (directory bs).zipIdx) fun _ =>
  let last := sectionsBelow bs 8
  require (allZero ((bs.drop last.1).take (limit - last.1))) (refusal cFORMAT kSection last.2)

/-! ### Entries -/

def readCell (e : List Byte) : CellEntry :=
  { number := leAt e 0 1, inUse := (leAt e 1 1).testBit 0, retry := (leAt e 1 1).testBit 1,
    resetMode := (leAt e 1 1).testBit 2, k := leAt e 2 2, first := leAt e 4 4, count := leAt e 8 4,
    limit := leAt e 12 1, sagePref := leAt e 13 1, braidPref := leAt e 14 1, resetRef := leAt e 16 4,
    shadowN := leAt e 20 2, name := (e.drop 24).take 8 }

def readChan (e : List Byte) : ChanEntry :=
  { mode := leAt e 0 1, filter := leAt e 1 1, gap := leAt e 2 1, source := leAt e 3 1, width := leAt e 4 1,
    slew := leAt e 5 1, period := leAt e 6 2, current := leAt e 8 2 }

def readConn (e : List Byte) : ConnEntry :=
  let f := leAt e 2 1
  { partner := leAt e 0 2, inUse := f.testBit 0, m1 := f.testBit 1, m2 := f.testBit 2, tagged := f.testBit 3,
    port := leAt e 3 1, uid := leAt e 4 8, period := leAt e 12 2, wd := leAt e 14 2, tNet := leAt e 16 4,
    inBits := leAt e 20 1, outBits := leAt e 21 1, tci := leAt e 22 2, safe := leAt e 24 8 }

def readPartner (e : List Byte) : PartnerEntry :=
  let f := leAt e 12 1
  { identity := leAt e 0 8, check := (e.drop 8).take 4, inUse := f.testBit 0, udp := f.testBit 1, m1 := f.testBit 2,
    m2 := f.testBit 3, batch := f.testBit 4, tIn := leAt e 16 4, tOut := leAt e 20 4 }

def readPolicy (e : List Byte) : PolicyEntry := ⟨leAt e 0 1, leAt e 1 1, leAt e 2 2, leAt e 4 1, leAt e 5 1⟩
def readRecorder (e : List Byte) : RecorderEntry := ⟨leAt e 0 2, leAt e 4 4⟩
def readLimit (e : List Byte) : LimitEntry := ⟨leAt e 0 4, leAt e 4 4, leAt e 8 8⟩

/-- The nodes of the node table: each head record with its continuation bytes (R112). `fuel` is the record count. -/
def readNodes : Nat → Nat → List (List Byte) → List NodeRec
  | 0, _, _ => []
  | _, _, [] => []
  | fuel + 1, r, e :: es =>
    let s := max 1 (leAt e 2 1)
    let conts := es.take (s - 1)
    { head := r, code := leAt e 0 2, span := s, cell := leAt e 3 1, tag := leAt e 4 4,
      body := e.drop 8 ++ (conts.map (fun c => c.drop 4)).flatten } ::
      readNodes fuel (r + s) (es.drop (s - 1))

/-- The container behind a byte string whose directory is sound. -/
def readContainer (bs : List Byte) : Container :=
  let nodes := sectionEntries bs 1
  { hash := containerHash bs, flags := leAt bs 14 2, epoch := leAt bs 12 2, serial := leAt bs 20 4,
    tool := (bs.drop 24).take 16,
    cells := (sectionEntries bs 0).map readCell, nodes := readNodes nodes.length 0 nodes,
    chans := (sectionEntries bs 2).map readChan, conns := (sectionEntries bs 3).map readConn,
    partners := (sectionEntries bs 4).map readPartner, policy := (sectionEntries bs 5).map readPolicy,
    recorder := (sectionEntries bs 6).map readRecorder, limits := (sectionEntries bs 7).map readLimit,
    records := nodes.length }

/-! ### Step 5 -/

/-- The type of a record's node. -/
def NodeRec.type (n : NodeRec) : Option NodeType := NodeType.ofCode n.code

/-- The references of a node with their offsets and kinds. -/
def NodeRec.inputs (n : NodeRec) : List (Nat × FieldKind) :=
  match n.type with
  | none => []
  | some t => t.inputOffsets n.span n.body

/-- Number of outputs of a node. -/
def NodeRec.outCount (n : NodeRec) : Nat := (n.type.map NodeType.outputs).getD 0

/-- Node output index `i` (counted from S:0x4_0000) is a defined output (R112). -/
def Container.outputNode (c : Container) (i : Nat) : Option NodeRec :=
  c.nodes.find? (fun n => n.head ≤ i && i < n.head + n.outCount)

/-- A bit reference to the host range or to a host signal bind output; steps 5 and 7 leave its breaches to step 9 (R120, R398). -/
def isHostRef (c : Container) (r : Nat) : Bool :=
  refKind r == 1 &&
  match sigRange (refIndex r) with
  | .host _ => true
  | .nodeOut i => ((c.outputNode i).map (fun n => n.code == 0x53)).getD false
  | _ => false

/-- A cell table entry (Table 5.7). One that is not in use is 0 throughout (R111, log 70). -/
def cellEntryOk (c : Container) (i : Nat) (e : List Byte) : Bool :=
  let x := readCell e
  if !x.inUse then allZero e
  else
    x.number == i && leAt e 1 1 / 8 == 0 && 1 ≤ x.k && x.k ≤ 4000 && 1 ≤ x.count && x.limit ≤ 16 &&
    (x.sagePref == 0 || x.sagePref == 1 || x.sagePref == 0xFF) &&
    (x.braidPref == 0 || x.braidPref == 1 || x.braidPref == 0xFF) &&
    leAt e 15 1 == 0 && leAt e 22 2 == 0 && allZero (e.drop 32) &&
    (x.shadowN == 0 || (16 ≤ x.shadowN && x.shadowN ≤ 4096)) &&
    (if x.resetMode then
       refKind x.resetRef == 1 &&
       (match sigRange (refIndex x.resetRef) with
        | .field _ _ | .remoteIn _ _ => true
        | _ => isHostRef c x.resetRef)
     else x.resetRef == 0 || isHostRef c x.resetRef)

/-- A node against Table 5.8 and its type, which names its head record (R113, R135), then its continuation records against Table 5.9, in
ascending index (R398): `earlier` are the nodes before it. -/
def nodeOk (c : Container) (recs : List (List Byte)) (earlier : List NodeRec) (n : NodeRec) : Option CfgRefusal :=
  let bad := fun r => some (refusal cFORMAT kRecord r)
  let cell := c.cell n.cell
  if !cell.inUse then bad n.head
  else match n.type with
    | none => bad n.head
    | some t =>
      let span := leAt (recs.getD n.head []) 2 1
      if span < t.spans.1 ∨ t.spans.2 < span ∨ c.records < n.head + span then bad n.head
      else if n.tag = 0 ∨ earlier.any (fun m => m.cell == n.cell && m.tag == n.tag) then bad n.head
      else
        let fs := t.fields span n.body
        if !(fs.all (fieldOk n.body) && reservedOk n.body fs && t.rulesOk span n.body cell.tUs) then bad n.head
        else
          match (List.range (span - 1)).find? (fun j =>
            let e := recs.getD (n.head + 1 + j) []
            !(leAt e 0 2 == 0xFFFF && leAt e 2 1 == j + 1 && leAt e 3 1 == n.cell)) with
          | some j => bad (n.head + 1 + j)
          | none => none

/-- The nodes in ascending index, each with the nodes before it. -/
def checkNodes (c : Container) (recs : List (List Byte)) : List NodeRec → List NodeRec → Option CfgRefusal
  | _, [] => none
  | earlier, n :: ns =>
    match nodeOk c recs earlier n with
    | some r => some r
    | none => checkNodes c recs (earlier ++ [n]) ns

/-- A value that must lie in `lo .. hi` where the mode uses it and be 0 elsewhere (R53). -/
def applies (used : Bool) (v lo hi : Nat) : Bool := if used then lo ≤ v && v ≤ hi else v == 0

def chanEntryOk (e : List Byte) : Bool :=
  let x := readChan e
  x.mode ≤ 7 && applies x.isInput x.filter 0 9 && applies (x.mode == 1 || x.mode == 2) x.gap 0 40 &&
  applies x.isInput x.source 0 16 && applies x.isPulsed x.width 0 3 && applies x.drives x.slew 0 1 &&
  applies x.isPulsed x.period 1 1000 && applies x.drives x.current 0 1000 && allZero (e.drop 10)

/-- A connection entry by itself and against its partner and port (R115, R232, R399). -/
def connEntryOk (c : Container) (env : CheckEnv) (e : List Byte) : Bool :=
  let x := readConn e
  if !x.inUse then allZero e
  else
    let p := c.partner x.partner
    leAt e 2 1 / 16 == 0 && x.port ≤ 2 && 4 ≤ x.period && x.period ≤ 4000 && 3 * x.period ≤ x.wd &&
    x.inBits ≤ 64 && x.outBits ≤ 64 && (x.tci / 4096) % 2 == 0 && allZero (e.drop 32) &&
    (x.m1 || x.m2) && (x.m2 || (x.inBits ≤ 32 && x.outBits ≤ 32)) && x.uid != 0 && p.inUse &&
    env.portModes.getD x.port 0 != 0 && !(p.udp && env.portIps.getD x.port 0 == 0)

/-- Connection `n` against the connections before it: UID (R115) and the 16 TCIs of a port (R207). -/
def connUniqueOk (c : Container) (n : Nat) : Bool :=
  let x := c.conn n
  let before := (c.conns.take n).filter (·.inUse)
  let tcis := ((before.filter (fun y => y.tagged && y.port == x.port)).map (·.tci)).dedup
  !x.inUse || (!(before.any (fun y => y.uid == x.uid)) &&
    (!x.tagged || x.tci ∈ tcis || tcis.length < 16))

def partnerEntryOk (c : Container) (env : CheckEnv) (i : Nat) (e : List Byte) : Bool :=
  let x := readPartner e
  if !x.inUse then allZero e
  else
    leAt e 12 1 / 32 == 0 && leAt e 13 3 == 0 && allZero (e.drop 24) && x.identity != env.identity &&
    !((c.partners.take i).any (fun y => y.inUse && y.identity == x.identity))

def policyEntryOk (c : Container) (i : Nat) (e : List Byte) : Bool :=
  let x := readPolicy e
  (sourceOf x.block x.index).isSome && x.sev ≤ 4 && x.react < 32 && leAt e 6 2 == 0 &&
  !(x.react.testBit 2 && !brstAvailable x.block) && !(0x20 ≤ x.block && x.inst != 0xFFFF) &&
  !((c.policy.take i).any (fun y => y.block == x.block && y.index == x.index && y.inst == x.inst))

def recorderEntryOk (c : Container) (i : Nat) (e : List Byte) : Bool :=
  let x := readRecorder e
  leAt e 2 2 == 0 &&
  (match intervalFloor x.code with
   | none => false
   | some f => f ≤ x.interval && x.interval ≤ 86400) &&
  !((c.recorder.take i).any (fun y => y.code == x.code))

def limitEntryOk (e : List Byte) : Bool :=
  let x := readLimit e
  x.output / 2 ^ 20 == 0x400 &&
  (match sigRange (refIndex x.output) with
   | .field _ b => b == 15 && x.mask == 0
   | .remoteOut _ b => b == 0
   | _ => false)

/-- Every entry of a section, in ascending index. -/
def checkEntries (kind : Nat) (ok : Nat → List Byte → Bool) (name : List Byte → Nat → Nat) (es : List (List Byte)) :
    Option CfgRefusal :=
  firstSome (fun (p : List Byte × Nat) => require (ok p.2 p.1) (refusal cFORMAT kind (name p.1 p.2))) es.zipIdx

/-- Step 5 for the section of an ID. -/
def checkSection (bs : List Byte) (c : Container) (env : CheckEnv) (id : Nat) : Option CfgRefusal :=
  let idx := fun (_ : List Byte) (i : Nat) => i
  match id with
  | 1 => checkEntries kCell (cellEntryOk c) idx (sectionEntries bs 0)
  | 2 => checkNodes c (sectionEntries bs 1) [] c.nodes
  | 3 => checkEntries kChannel (fun _ e => chanEntryOk e) idx (sectionEntries bs 2)
  | 4 => checkEntries kConn (fun n e => connEntryOk c env e && connUniqueOk c n) idx (sectionEntries bs 3)
  | 5 => checkEntries kPartner (partnerEntryOk c env) idx (sectionEntries bs 4)
  | 6 => checkEntries kParam (policyEntryOk c)
      (fun e _ => let x := readPolicy e; x.block * 2 ^ 24 + x.index * 2 ^ 16 + x.inst) (sectionEntries bs 5)
  | 7 => checkEntries kParam (recorderEntryOk c) (fun e _ => leAt e 0 2) (sectionEntries bs 6)
  | _ => checkEntries kOutput (fun _ e => limitEntryOk e) (fun e _ => leAt e 0 4) (sectionEntries bs 7)

/-- Step 5, section by section in directory order (R398). -/
def checkFields (bs : List Byte) (c : Container) (env : CheckEnv) : Option CfgRefusal :=
  firstSome (fun (d : DirEntry) => checkSection bs c env d.id) (directory bs)

/-! ### Step 6: channel rules (R54, R66, R68) -/

/-- The limit of a channel's declared current (Table 3.8). -/
def currentLimit (x : ChanEntry) : Nat := if x.mode = mOUT_PAIR then 1000 else 500

/-- The rules of one channel: the refusal names the channel, or the odd channel of a pair. -/
def channelRule (c : Container) (i : Nat) : Option CfgRefusal :=
  let x := c.chan i
  let bad := fun k => some (refusal cFIELD_LIMIT kChannel k)
  if x.isInput ∧ x.source ≠ 0 ∧ (c.chan (16 * (i / 16) + (x.source - 1))).mode ≠ mTEST_SRC then bad i
  else if x.mode = mOUT_PAIR ∧ i % 2 = 0 ∧ (c.chan (i + 1)).mode ≠ mOUT_PAIR then bad (i + 1)
  else if x.mode = mOUT_PAIR ∧ i % 2 = 1 ∧ ((c.chan (i - 1)).mode ≠ mOUT_PAIR ∨ x.current ≠ 0) then bad i
  else if currentLimit x < x.current then bad i
  else none

def groupSum (c : Container) (g : Nat) : Nat := ((List.range 16).map (fun i => (c.chan (16 * g + i)).current)).sum

def checkChannels (c : Container) : Option CfgRefusal :=
  andThen (firstSome (channelRule c) (List.range 64)) fun _ =>
  firstSome (fun g => require (groupSum c g ≤ 4000) (refusal cFIELD_LIMIT kGroup g)) (List.range 4)

/-! ### Step 7: runs and references -/

/-- The connections that the REMOTE_INs of a cell name (R163). -/
def Container.remoteInsOf (c : Container) (cell : Nat) : List Nat :=
  ((c.nodesOf cell).filter (fun n => n.code == 0x51)).map (fun n => leAt n.body 0 2)

/-- The form of a reference (R104): reserved bits, INV, and the index of its kind. -/
def refFormOk (r : Nat) (isWord : Bool) : Bool :=
  let mid := (r >>> 20) % 256
  match refKind r with
  | 0 => r == 0
  | 1 => mid == 0 && !isWord
  | 2 => mid == 0 && !refInv r && refIndex r < 2 ^ 14 && isWord
  | _ => mid == 0 && !refInv r && refIndex r < 2 ^ 16 && (isWord || refIndex r < 2)

/-- The range of a bit reference made in a cell (R103, R112, R163). The host range is left to step 9. -/
def bitRangeOk (c : Container) (cell i : Nat) : Bool :=
  match sigRange i with
  | .field _ b => !(12 ≤ b && b ≤ 14)
  | .device d => d ≤ 7 || (0x100 ≤ d && d ≤ 0x2FF)
  | .host _ => true
  | .reserved => false
  | .nodeOut k => (c.outputNode k).isSome
  | .remoteIn n b => (c.conn n).inUse && b < (c.conn n).inBits && n ∈ c.remoteInsOf cell
  | .remoteOut n b => (c.conn n).inUse && b < (c.conn n).outBits

/-- The range of a word reference (Table 5.4). -/
def wordRangeOk (i : Nat) : Bool := i < 0x48 || 0x100 ≤ i

def refRangeOk (c : Container) (cell r : Nat) : Bool :=
  match refKind r with
  | 1 => bitRangeOk c cell (refIndex r)
  | 2 => wordRangeOk (refIndex r)
  | _ => true

/-- The remote output bits a node writes, as 64 n + b (R160). -/
def NodeRec.remoteBits (n : NodeRec) : List Nat :=
  if n.code = 0x52 then
    (List.range (leAt n.body 3 1)).map (fun i => 64 * leAt n.body 0 2 + leAt n.body 2 1 + i)
  else []

/-- The channels a SAFE_OUT writes: its own, and the odd one of a pair (R160). -/
def boundChannels (c : Container) (n : NodeRec) : List Nat :=
  if n.code = 0x50 then
    let ch := leAt n.body 4 1
    if (c.chan ch).mode = mOUT_PAIR then [ch, ch + 1] else [ch]
  else []

/-- The word a node writes. -/
def NodeRec.word? (n : NodeRec) : Option Nat := n.type.bind (fun t => t.wordOf n.body)

/-- The rules of bind nodes and of single writers (R106, R161, R163), all at step 7 (log 69): `earlier` are the nodes before it. -/
def bindOk (c : Container) (earlier : List NodeRec) (n : NodeRec) : Bool :=
  (match n.word? with
   | none => true
   | some w => !(earlier.any (fun m => m.word? == some w))) &&
  (if n.code = 0x50 then
     let ch := leAt n.body 4 1
     let m := (c.chan ch).mode
     (m == mOUT_SAFE || m == mOUT_STD || (m == mOUT_PAIR && ch % 2 == 0)) &&
     !(earlier.any (fun k => k.code == 0x50 && leAt k.body 4 1 == ch))
   else if n.code = 0x51 then (c.conn (leAt n.body 0 2)).inUse
   else if n.code = 0x52 then
     let k := c.conn (leAt n.body 0 2)
     k.inUse && leAt n.body 2 1 + leAt n.body 3 1 ≤ k.outBits &&
     n.remoteBits.all (fun b => !(earlier.any (fun m => b ∈ m.remoteBits)))
   else true)

/-- An input of an OSSD (Table 6.4). -/
def ossdInputOk (c : Container) (r : Nat) : Bool :=
  refKind r == 1 &&
  match sigRange (refIndex r) with
  | .field ch b => b == 0 && ((c.chan ch).mode == mIN_T1 || (c.chan ch).mode == mIN_T3)
  | .remoteIn _ _ => true
  | _ => false

/-- Every reference and bind rule of step 7 for one node, the input rule of OSSD among them (log 69); what R120 names waits for step 9. -/
def refsOk (c : Container) (earlier : List NodeRec) (n : NodeRec) : Bool :=
  n.inputs.all (fun f =>
    let r := refAt n.body f.1
    refFormOk r (f.2 == .word) && refRangeOk c n.cell r && (n.code != 0x23 || isHostRef c r || ossdInputOk c r)) &&
  bindOk c earlier n

/-- A cell's reset reference (R103, R163); the breaches of R120 wait for step 9. -/
def resetRefOk (c : Container) (n : Nat) : Bool :=
  let r := (c.cell n).resetRef
  !(c.cell n).resetMode || (refFormOk r false && bitRangeOk c n (refIndex r))

/-- The cells in use against the run rules of R111 and their reset references, ascending: `pos` is the end of the previous run. -/
def checkCells (c : Container) : Nat → List Nat → Option CfgRefusal
  | _, [] => none
  | pos, n :: ns =>
    let e := c.cell n
    let stop := e.first + e.count
    let isHead := fun r => c.nodes.any (fun m => m.head == r)
    if e.first = pos ∧ isHead e.first ∧ stop ≤ c.records ∧ (stop = c.records ∨ isHead stop) ∧ resetRefOk c n then
      checkCells c stop ns
    else some (refusal cFORMAT kCell n)

/-- The cell in use whose run holds a record. -/
def Container.ownerOf (c : Container) (r : Nat) : Option Nat :=
  c.cellsInUse.find? (fun n => (c.cell n).first ≤ r && r < (c.cell n).first + (c.cell n).count)

/-- The records against the owners of their runs (R111) and the rules of their references, ascending: the nodes with those before
them. -/
def checkRecords (c : Container) : List NodeRec → List NodeRec → Option CfgRefusal
  | _, [] => none
  | earlier, n :: ns =>
    if c.ownerOf n.head == some n.cell && refsOk c earlier n then checkRecords c (earlier ++ [n]) ns
    else some (refusal cFORMAT kRecord n.head)

/-- Step 7: the cell table, then the node table (R119). -/
def checkReferences (c : Container) : Option CfgRefusal :=
  andThen (checkCells c 0 c.cellsInUse) fun _ => checkRecords c [] c.nodes

/-! ### Step 8: no cycle without PREV (R107) -/

/-- The node of the same cell that produces a reference's value in the current evaluation (R107 row 3). -/
def Container.producer (c : Container) (r : Nat) : Option NodeRec :=
  match refKind r with
  | 1 =>
    match sigRange (refIndex r) with
    | .nodeOut i => c.outputNode i
    | .field ch b => if b = 15 then c.nodes.find? (fun n => ch ∈ boundChannels c n) else none
    | .remoteOut n b => c.nodes.find? (fun m => 64 * n + b ∈ m.remoteBits)
    | _ => none
  | 2 => if refIndex r < 0x100 then none else c.nodes.find? (fun n => n.word? == some (refIndex r))
  | _ => none

/-- The heads of the producers of a node in its own cell, PREV references left out. -/
def Container.sameCellProducers (c : Container) (n : NodeRec) : List Nat :=
  (n.inputs.filterMap (fun f =>
    let r := refAt n.body f.1
    if refPrev r then none
    else (c.producer r).bind (fun m => if m.cell = n.cell then some m.head else none))).dedup

/-- A node with the heads of its producers in its own cell. -/
abbrev NodeDeps := NodeRec × List Nat

/-- The evaluation order of R122: repeatedly the lowest record whose producers are done. -/
def topoSort : Nat → List Nat → List NodeDeps → List NodeRec
  | 0, _, _ => []
  | fuel + 1, done, left =>
    match left.find? (fun d => d.2.all (· ∈ done)) with
    | none => []
    | some d => d.1 :: topoSort fuel (d.1.head :: done) (left.filter (fun x => x.1.head != d.1.head))

/-- The nodes of a cell in the order of R122 (levels of R123 give the same results: R123's last paragraph). -/
def Container.order (c : Container) (cell : Nat) : List NodeRec :=
  let ns := c.nodesOf cell
  topoSort ns.length [] (ns.map (fun n => (n, c.sameCellProducers n)))

/-- Node heads reachable from `todo` along producers. -/
def reach (deps : List NodeDeps) : Nat → List Nat → List Nat → List Nat
  | 0, seen, _ => seen
  | fuel + 1, seen, todo =>
    let next := ((deps.filter (fun d => d.1.head ∈ todo)).map (·.2)).flatten.dedup.filter (fun h => h ∉ seen)
    if next.isEmpty then seen else reach deps fuel (seen ++ next) next

/-- The lowest record index on a cycle of the container's cells. -/
def checkCycles (c : Container) : Option CfgRefusal :=
  let deps := c.nodes.map (fun n => (n, c.sameCellProducers n))
  firstSome (fun (n : NodeRec) =>
    require (n.head ∉ reach deps deps.length [] [n.head]) (refusal cFORMAT kRecord n.head))
    (if (c.cellsInUse.map (fun k => (c.order k).length)).sum = c.nodes.length then [] else c.nodes)

/-! ### Step 9: host signals (R120) -/

/-- A reference that R120 allows: the HS input of a host signal bind, or an INH input fed by one, not inverted. -/
def hostRefOk (c : Container) (n : NodeRec) (f : Nat × FieldKind) : Bool :=
  let r := refAt n.body f.1
  !isHostRef c r ||
  (!refInv r &&
   (match sigRange (refIndex r) with
    | .host _ => n.code == 0x53
    | _ => match f.2 with
      | .bit _ inh => inh
      | _ => false))

def checkHostRule (c : Container) : Option CfgRefusal :=
  andThen (firstSome (fun n =>
    require (!isHostRef c (c.cell n).resetRef) (refusal cHOST_ENABLE kCell n)) c.cellsInUse) fun _ =>
  firstSome (fun (n : NodeRec) => require (n.inputs.all (hostRefOk c n)) (refusal cHOST_ENABLE kRecord n.head)) c.nodes

/-! ### Step 10: coverage of the response limits (R117) -/

/-- The channels that need a limit. -/
def coveredChannel (c : Container) (i : Nat) : Bool :=
  (c.chan i).mode == mOUT_SAFE || ((c.chan i).mode == mOUT_PAIR && i % 2 == 0)

/-- The remote output bits that need a limit, ascending in record order. -/
def Container.writtenBits (c : Container) : List Nat := (c.nodes.map NodeRec.remoteBits).flatten

/-- The remote output bits of a limit entry, as 64 n + b. -/
def LimitEntry.bits (l : LimitEntry) : List Nat :=
  match sigRange (refIndex l.output) with
  | .remoteOut n _ => (rangeFilter 64 (fun b => l.mask.testBit b)).map (fun b => 64 * n + b)
  | _ => []

/-- The channel of a limit entry. -/
def LimitEntry.channel? (l : LimitEntry) : Option Nat :=
  match sigRange (refIndex l.output) with
  | .field ch _ => some ch
  | _ => none

def limitCoverOk (c : Container) (i : Nat) (l : LimitEntry) : Bool :=
  let before := c.limits.take i
  match l.channel? with
  | some ch => coveredChannel c ch && !(before.any (fun m => m.channel? == some ch))
  | none =>
    !l.bits.isEmpty && l.bits.all (fun b => b ∈ c.writtenBits && !(before.any (fun m => b ∈ m.bits)))

def checkCoverage (c : Container) : Option CfgRefusal :=
  andThen (firstSome (fun (p : LimitEntry × Nat) =>
    require (limitCoverOk c p.2 p.1) (refusal cFORMAT kOutput p.1.output)) c.limits.zipIdx) fun _ =>
  andThen (firstSome (fun ch =>
    require (!coveredChannel c ch || c.limits.any (fun l => l.channel? == some ch))
      (refusal cFORMAT kOutput (bitRef (cmdIdx ch)))) (List.range 64)) fun _ =>
  firstSome (fun b => require (c.limits.any (fun l => b ∈ l.bits))
    (refusal cFORMAT kOutput (bitRef (remoteOutIdx (b / 64) 0)))) (c.writtenBits.mergeSort (· ≤ ·))

/-! ### The whole of Table 5.15 -/

/-- Steps 1 to 4, run by SUP. -/
def checkSteps1to4 (bs : List Byte) (staged : Nat) (env : CheckEnv) : Option CfgRefusal :=
  if !headerOk bs staged then some (refusal cFORMAT kNone 0)
  else if bs.drop (bs.length - 32) ≠ containerHash bs then some (refusal cHASH kNone 0)
  else if leAt bs 12 2 < env.epochMin ∨ env.epochMax < leAt bs 12 2 then some (refusal cEPOCH kNone 0)
  else checkDirectory bs

/-- Steps 5 to 10, run by each translator (R119). -/
def checkSteps5to10 (bs : List Byte) (c : Container) (env : CheckEnv) : Option CfgRefusal :=
  andThen (checkFields bs c env) fun _ =>
  andThen (checkChannels c) fun _ =>
  andThen (checkReferences c) fun _ =>
  andThen (checkCycles c) fun _ =>
  andThen (checkHostRule c) fun _ =>
  checkCoverage c

end Sys2Proof.Machine
end

