-- ==== Sys2Proof/Machine/Admission.lean ====
section
/-! DEFINITION. Admission, steps 11 to 20 of Table 7.6 (R165 to R178), the pulse placement of R87 and the response
certificate (R180). Everything here is a function of the container and of the device's settings at acceptance. -/

namespace Sys2Proof.Machine

/-- What admission reads of the device at acceptance (R168, R172, R176). Units are (kind << 12) | index. -/
structure AdmitEnv where
  unusable : List Nat
  tOff : List Nat
  absent : List Nat
  keptCells : List (Nat × Nat × Nat)
  keptPulses : List (Nat × Nat × Nat)
  formA : Nat
  formB : Nat
  portModes : List Nat
  stbIn : Bool
deriving DecidableEq, Repr, Inhabited

/-- A certificate output entry (Table 7.9). -/
structure CertOut where
  output : Nat
  mask : Nat
  wcrt : Nat
  limit : Nat
  source : Nat
deriving DecidableEq, Repr, Inhabited

/-- A placed cell with its costs (Table 7.10). -/
structure CertCell where
  cell : Nat
  sage : Nat
  braid : Nat
  retry : Bool
  costA : Nat
  costB : Nat
deriving DecidableEq, Repr, Inhabited

/-- The outcome of the admission steps. -/
structure Admitted where
  refusal : Option CfgRefusal
  cells : List CertCell
  pulses : List (Nat × Nat × Nat)
  outputs : List CertOut
  loads : List Nat
  pduRate : Nat
  degraded : Nat
deriving DecidableEq, Repr, Inhabited

/-! ### Cost, load and window (R142, R170, R171) -/

/-- Cost per evaluation of a cell: channel A, channel B. -/
def Container.cost (c : Container) (n : Nat) : Nat × Nat :=
  (c.nodesOf n).foldl (fun acc m =>
    match m.type with
    | none => acc
    | some t => let k := t.cost m.span m.body; (acc.1 + k.1, acc.2 + k.2)) (120, 96)

/-- The load and the window share of a cell of cost `cost` on an evaluator of rate `rate` per µs. -/
def cellLoad (e : CellEntry) (cost rate : Nat) : Rat × Rat :=
  let x := cost * (1 + b2n e.retry)
  ((4 * x : Rat) / e.k, (x : Rat) / (rate * (e.tUs - 20)))

def loadOk (limit : Nat) (l : Rat × Rat) : Bool := l.1 ≤ limit && l.2 ≤ 1

/-- The running loads of the two evaluators of a channel. -/
structure Loads where
  l0 : Rat × Rat
  l1 : Rat × Rat
deriving DecidableEq, Repr

def Loads.get (l : Loads) (e : Nat) : Rat × Rat := if e = 0 then l.l0 else l.l1

def Loads.add (l : Loads) (e : Nat) (u : Rat × Rat) : Loads :=
  if e = 0 then { l with l0 := (l.l0.1 + u.1, l.l0.2 + u.2) } else { l with l1 := (l.l1.1 + u.1, l.l1.2 + u.2) }

/-- What differs between the two channels' placements (Table 7.4). -/
structure EvalSide where
  limit : Nat
  rate : Nat
  code : Nat
  blocks : List Nat
deriving DecidableEq, Repr

def sageSide : EvalSide := ⟨1020000, 1200, cCAPACITY_A, [bSA0, bSA1]⟩
def braidSide : EvalSide := ⟨850000, 1000, cCAPACITY_B, [bBR0, bBR1]⟩

/-- The candidates of R172 in order, absent evaluators left out. -/
def candidates (side : EvalSide) (absent : List Nat) (l : Loads) (pref : Nat) : List Nat :=
  let low := if l.l0.1 ≤ l.l1.1 then 0 else 1
  ((if pref ≤ 1 then [pref] else []) ++ [low, 1 - low]).filter (fun e => side.blocks.getD e 0 ∉ absent)

/-- The placement procedure of R172: cells with their load and preference, ascending. -/
def placeCells (side : EvalSide) (absent : List Nat) :
    List (Nat × (Rat × Rat) × Nat) → Loads → List (Nat × Nat) → Except CfgRefusal (Loads × List (Nat × Nat))
  | [], l, acc => .ok (l, acc)
  | (n, u, pref) :: rest, l, acc =>
    match (candidates side absent l pref).find? (fun e => loadOk side.limit ((l.add e u).get e)) with
    | some e => placeCells side absent rest (l.add e u) (acc ++ [(n, e)])
    | none => .error (refusal side.code kCell n)

/-- Placement of one channel with the kept cells first (R172); a kept cell stays where it is, also on an evaluator that is absent now (log
112). -/
def placeSide (c : Container) (env : AdmitEnv) (side : EvalSide) (isA : Bool) :
    Except CfgRefusal (Loads × List (Nat × Nat)) :=
  let load := fun n => cellLoad (c.cell n) (if isA then (c.cost n).1 else (c.cost n).2) side.rate
  let kept := (env.keptCells.filter (fun k => k.1 ∈ c.cellsInUse)).map
    (fun k => (k.1, if isA then k.2.1 else k.2.2))
  let base := kept.foldl (fun l k => l.add k.2 (load k.1)) ⟨(0, 0), (0, 0)⟩
  let todo := (c.cellsInUse.filter (fun n => !(kept.any (fun k => k.1 == n)))).map
    (fun n => (n, load n, if isA then (c.cell n).sagePref else (c.cell n).braidPref))
  placeCells side env.absent todo base kept

/-- One configuration of R177: evaluator `absent` of the side is missing and its cells join the other, unless that one is absent for
the whole admission (R172). -/
def degradedOne (c : Container) (side : EvalSide) (isA : Bool) (gone : List Nat) (placed : Loads × List (Nat × Nat)) (absent : Nat) :
    Option CfgRefusal :=
  let load := fun n => cellLoad (c.cell n) (if isA then (c.cost n).1 else (c.cost n).2) side.rate
  let movers := c.cellsInUse.filter (fun n => (n, absent) ∈ placed.2)
  (movers.foldl (fun (acc : Option CfgRefusal × (Rat × Rat)) n =>
    match acc.1 with
    | some _ => acc
    | none =>
      let l := (acc.2.1 + (load n).1, acc.2.2 + (load n).2)
      if loadOk side.limit l ∧ side.blocks.getD (1 - absent) 0 ∉ gone then (none, l)
      else (some ⟨cDEGRADED, kCell, n, kBlock, side.blocks.getD absent 0⟩, l))
    (none, placed.1.get (1 - absent))).1

/-! ### Weir charges (R174) -/

/-- Bit times of a frame of `k` PDUs of `size` bytes. -/
def frameBits (x : ConnEntry) (p : PartnerEntry) (size k : Nat) : Nat :=
  let len := 14 + 4 * b2n x.tagged + 28 * b2n p.udp + 4 + k * size + 4
  8 * (8 + max 64 len + 12)

/-- Bit times per period of a group of `g` connections. -/
def groupBits (x : ConnEntry) (p : PartnerEntry) (size g : Nat) : Nat :=
  (g / 16) * frameBits x p size 16 + (if g % 16 = 0 then 0 else frameBits x p size (g % 16))

/-- PDU size charged (R174). -/
def chargedSize (x : ConnEntry) (p : PartnerEntry) : Nat := if x.m2 && p.m2 then 24 else 16

/-- Two connections fall into one transmit group of R174 (P_t = 5 × period ticks, R210). -/
def sameTxGroup (c : Container) (i j : Nat) : Bool :=
  let x := c.conn i
  let y := c.conn j
  x.m2 && !x.m1 && y.m2 && !y.m1 && x.port == y.port && x.partner == y.partner && x.tagged == y.tagged &&
  (!x.tagged || x.tci == y.tci) && x.period == y.period && i % (5 * x.period) == j % (5 * y.period)

/-- Two connections fall into one receive group of R174. -/
def sameRxGroup (c : Container) (i j : Nat) : Bool :=
  let x := c.conn i
  let y := c.conn j
  x.m2 && !x.m1 && y.m2 && !y.m1 && (c.partner x.partner).batch && x.port == y.port && x.partner == y.partner &&
  x.tagged == y.tagged && (!x.tagged || x.tci == y.tci) && x.period == y.period

/-- The charge per second that connection `n` adds to its port in one direction. -/
def addedCharge (c : Container) (same : Container → Nat → Nat → Bool) (n : Nat) : Rat :=
  let x := c.conn n
  let p := c.partner x.partner
  let size := chargedSize x p
  let before := (c.connsInUse.filter (fun j => j < n && same c j n)).length
  ((groupBits x p size (before + 1) - groupBits x p size before : Nat) : Rat) * 4000 / x.period

/-- 80 % of the line rate of a port mode, bits per second (Table 10.1). -/
def portLimit (mode : Nat) : Nat := [0, 80000000, 800000000, 800000000, 2000000000].getD mode 0

/-- Running sums over the connections: PDUs per second, and the charge per port and direction. -/
def weirCheck (c : Container) (modes : List Nat) : List Nat → Rat → List Rat → List Rat → Option CfgRefusal
  | [], _, _, _ => none
  | n :: ns, pdu, tx, rx =>
    let x := c.conn n
    let pdu' := pdu + 8000 / x.period
    let tx' := tx.set x.port (tx.getD x.port 0 + addedCharge c sameTxGroup n)
    let rx' := rx.set x.port (rx.getD x.port 0 + addedCharge c sameRxGroup n)
    let lim : Rat := portLimit (modes.getD x.port 0)
    if pdu' ≤ 8200000 ∧ tx'.getD x.port 0 ≤ lim ∧ rx'.getD x.port 0 ≤ lim then weirCheck c modes ns pdu' tx' rx'
    else some (refusal cWEIR_RATE kConn n)

/-- The least integer not below a non-negative rational. -/
def ceilRat (x : Rat) : Nat := ((x.num + (x.den : Int) - 1) / (x.den : Int)).toNat

/-- PDUs per second, both directions, rounded up. -/
def pduRate (c : Container) : Nat := ceilRat ((c.connsInUse.map (fun n => (8000 : Rat) / (c.conn n).period)).sum)

/-! ### Pulse placement (R86, R87) and slice budget (R175) -/

/-- The pulse holders: OUT_SAFE and TEST_SRC channels, and the lead of an OUT_PAIR. -/
def isHolder (c : Container) (i : Nat) : Bool :=
  (c.chan i).mode == mOUT_SAFE || (c.chan i).mode == mTEST_SRC || ((c.chan i).mode == mOUT_PAIR && i % 2 == 0)

def holders (c : Container) : List Nat := rangeFilter 64 (isHolder c)

/-- The order of R87. -/
def holderLe (c : Container) (a b : Nat) : Bool :=
  let x := c.chan a
  let y := c.chan b
  x.period < y.period || (x.period == y.period && (y.slotLen < x.slotLen || (x.slotLen == y.slotLen && a ≤ b)))

/-- Holder `h` can stand at `(t, phi)` beside a placed holder. -/
def pulseFits (c : Container) (h t phi : Nat) (p : Nat × Nat × Nat) : Bool :=
  let x := c.chan h
  let y := c.chan p.1
  let overlap := t < p.2.1 + y.slotLen && p.2.1 < t + x.slotLen
  let g := Nat.gcd x.period y.period
  !overlap || phi % g != p.2.2 % g

/-- The first placement of R87's two loops. -/
def findPlace (c : Container) (placed : List (Nat × Nat × Nat)) (h : Nat) : Option (Nat × Nat) :=
  firstSome (fun t =>
    ((List.range (c.chan h).period).find? (fun phi => placed.all (pulseFits c h t phi))).map (fun phi => (t, phi)))
    (List.range (201 - (c.chan h).slotLen))

def placeHolders (c : Container) : List Nat → List (Nat × Nat × Nat) → Except CfgRefusal (List (Nat × Nat × Nat))
  | [], acc => .ok acc
  | h :: hs, acc =>
    match findPlace c acc h with
    | some tp => placeHolders c hs (acc ++ [(h, tp.1, tp.2)])
    | none => .error (refusal cFIELD_LIMIT kChannel h)

/-- The placement of all holders; kept holders first (R87). -/
def placePulses (c : Container) (kept : List (Nat × Nat × Nat)) : Except CfgRefusal (List (Nat × Nat × Nat)) :=
  let keep := kept.filter (fun k => isHolder c k.1)
  let todo := (holders c).filter (fun h => !(keep.any (fun k => k.1 == h)))
  placeHolders c (todo.mergeSort (holderLe c)) keep

/-- Slices per coverage round (Table 7.5). -/
def sliceCharge (mode : Nat) : Nat := [0, 2000, 2000, 2500, 4000, 3000, 3000, 4000].getD mode 0

/-- The fraction of ticks that pulse slots occupy (R175). -/
def pulseOccupancy (c : Container) : Rat :=
  ((holders c).map (fun h => ((c.chan h).slotLen : Rat) / (200 * (c.chan h).period))).sum

def sliceCheck (c : Container) : Option CfgRefusal :=
  let limit : Rat := 510000 * (1 - pulseOccupancy c)
  ((List.range 64).foldl (fun (acc : Option CfgRefusal × Nat) i =>
    match acc.1 with
    | some _ => acc
    | none =>
      let s := acc.2 + sliceCharge (c.chan i).mode
      (if (s : Rat) ≤ limit then none else some (refusal cSLICES kChannel i), s)) (none, 0)).1

/-! ### Demand paths and WCRT (R165 to R168) -/

/-- Input offsets that never carry a demand (Table 7.1). -/
def excludedInput (t : NodeType) (off : Nat) : Bool :=
  match t with
  | .latch => off == 0
  | .edm => off == 4
  | .restart => off == 4
  | .count => off == 0
  | .hostSig => true
  | _ => false

def ceilDiv (a b : Nat) : Nat := (a + b - 1) / b

/-- The delay a node adds (Table 7.1). -/
def nodeDelay (t : NodeType) (body : List Byte) (T : Nat) : Nat :=
  match t with
  | .tof => ceilDiv (leAt body 4 4) T * T
  | .tp => max 1 (ceilDiv (leAt body 4 4) T) * T
  | _ => 0

/-- The references of a node that a chain follows: not excluded, no PREV, with their offsets. -/
def NodeRec.followed (n : NodeRec) : List (Nat × Nat) :=
  match n.type with
  | none => []
  | some t => n.inputs.filterMap (fun f =>
      let r := refAt n.body f.1
      if excludedInput t f.1 || refPrev r then none else some (f.1, r))

/-- The longest time found so far to a point, with every source that gives it: signal index, and the connection when
the source is a CONN_OK. -/
structure Demand where
  us : Nat
  sources : List (Nat × Option Nat)
deriving DecidableEq, Repr, Inhabited

def Demand.merge (a b : Option Demand) : Option Demand :=
  match a, b with
  | none, b => b
  | a, none => a
  | some x, some y =>
    if x.us < y.us then some y else if y.us < x.us then some x else some ⟨x.us, x.sources ++ y.sources⟩

def Demand.plus (d : Option Demand) (us : Nat) : Option Demand := d.map (fun x => { x with us := x.us + us })

/-- S of a remote source of connection `n` (Table 7.2). -/
def remoteS (c : Container) (n : Nat) : Nat :=
  let x := c.conn n
  (c.partner x.partner).tOut + x.tNet + max (250 * x.period) (250 * x.wd) + 50

/-- t_F,eff in µs (R60). -/
def ChanEntry.filterEff (x : ChanEntry) : Nat := max x.filterUs (if x.mode = 1 ∨ x.mode = 2 then 50 * x.gap else 0)

/-- The source term of a reference that starts a chain (Table 7.2). -/
def sourceTerm (c : Container) (r : Nat) : Option Demand :=
  match refKind r with
  | 1 =>
    match sigRange (refIndex r) with
    | .field ch b =>
      let x := c.chan ch
      some ⟨if b ≤ 3 ∧ x.isInput then x.filterEff + 100 else 100, [(refIndex r, none)]⟩
    | .remoteIn n _ => some ⟨remoteS c n, [(refIndex r, none)]⟩
    | _ => none
  | 2 => if refIndex r < 0x48 then some ⟨100, [(refIndex r, none)]⟩ else none
  | _ => none

/-- The source term of the CONN_OK of a REMOTE_IN (Table 7.2): a chain from it runs through its node (R163). -/
def connOkTerm (c : Container) (n : NodeRec) : Demand :=
  ⟨remoteS c (leAt n.body 0 2), [(nodeOutIdx n.head 0, some (leAt n.body 0 2))]⟩

/-- The key of a remote output bit 64 n + b among the heads. -/
def bitKey (i : Nat) : Nat := 2 ^ 20 + i

/-- What a reference names on a chain: a node by its head, or one bit of a REMOTE_OUT. -/
def pathKey (m : NodeRec) (r : Nat) : Nat :=
  match sigRange (refIndex r) with
  | .remoteOut n b => if refKind r = 1 then bitKey (64 * n + b) else m.head
  | _ => m.head

/-- The bit of a REMOTE_OUT that an input writes. -/
def NodeRec.bitOf (n : NodeRec) (off : Nat) : Nat := bitKey (64 * leAt n.body 0 2 + leAt n.body 2 1 + (off - 4) / 4)

/-- Some chain from a source reaches a reference. -/
def fedRef (c : Container) (fed : List Nat) (r : Nat) : Bool :=
  match c.producer r with
  | some m => decide (pathKey m r ∈ fed)
  | none => (sourceTerm c r).isSome

/-- The nodes that some chain from a source reaches, a REMOTE_IN as the source of its CONN_OK, of a REMOTE_OUT the bits too: one round of
growth. -/
def fedStep (c : Container) (fed : List Nat) : List Nat :=
  c.nodes.flatMap (fun n =>
    if n.code = 0x51 then [n.head]
    else match n.followed.filter (fun f => fedRef c fed f.2) with
    | [] => []
    | fs => n.head :: (if n.code = 0x52 then fs.map (fun f => n.bitOf f.1) else []))

def iter {α : Type} (f : α → α) : Nat → α → α
  | 0, x => x
  | n + 1, x => iter f n (f x)

/-- Heads of the binds that covered outputs end at. -/
def sinkHeads (c : Container) : List Nat :=
  (c.nodes.filter (fun n =>
    (boundChannels c n).any (coveredChannel c) || !n.remoteBits.isEmpty)).map (·.head)

/-- Heads of the nodes from which a covered output is reached: one round of growth. -/
def drainStep (c : Container) (drain : List Nat) : List Nat :=
  drain ++ (((c.nodes.filter (fun n => n.head ∈ drain)).map (fun n =>
    n.followed.filterMap (fun f => (c.producer f.2).map (·.head)))).flatten.dedup.filter (fun h => h ∉ drain))

/-- The references between cells that count for R167, as pairs of cells. -/
def cellEdges (c : Container) (fed drain : List Nat) : List (Nat × Nat) :=
  ((c.nodes.filter (fun n => n.head ∈ drain)).map (fun n =>
    n.followed.filterMap (fun f =>
      match c.producer f.2 with
      | some m => if pathKey m f.2 ∈ fed ∧ m.cell ≠ n.cell then some (m.cell, n.cell) else none
      | none => none))).flatten.dedup

/-- Cells reachable from `seen` over the edges. -/
def cellReach (es : List (Nat × Nat)) (seen : List Nat) : List Nat :=
  seen ++ ((es.filter (fun e => e.1 ∈ seen)).map (·.2)).dedup.filter (fun x => x ∉ seen)

/-- The lowest cell on a cycle of counted references (R167). -/
def cellCycle (c : Container) (es : List (Nat × Nat)) : Option Nat :=
  c.cellsInUse.find? (fun n =>
    n ∈ iter (cellReach es) 256 ((es.filter (fun e => e.1 = n)).map (·.2)).dedup)

/-- 2 T, and T more with a retry slot (R166). -/
def runCost (e : CellEntry) : Nat := 2 * e.tUs + (if e.retry then e.tUs else 0)

/-- Times found so far: by node head, and for remote output bits by 2^20 + 64 n + b. -/
abbrev DemandTab := Tab Demand

/-- The time at which a reference's value arrives at a node of cell `cell`, the run in that cell included. -/
def arrival (c : Container) (tab : DemandTab) (cell r : Nat) : Option Demand :=
  let enter := fun d => Demand.plus d (runCost (c.cell cell))
  match c.producer r with
  | none => enter (sourceTerm c r)
  | some m =>
    let d := tab.get? (pathKey m r)
    if m.cell = cell then d else enter d

/-- The times of one node from those of its producers. -/
def demandNode (c : Container) (tab : DemandTab) (n : NodeRec) : DemandTab :=
  match n.type with
  | none => tab
  | some t =>
    let delay := nodeDelay t n.body (c.cell n.cell).tUs
    let ins := n.followed.map (fun f => (f.1, Demand.plus (arrival c tab n.cell f.2) delay))
    let own := if n.code = 0x51 then Demand.plus (some (connOkTerm c n)) (runCost (c.cell n.cell)) else none
    let best := ins.foldl (fun acc p => Demand.merge acc p.2) own
    let tab1 := match best with
      | none => tab
      | some d => tab.put n.head d
    if n.code = 0x52 then
      ins.foldl (fun tb p =>
        match p.2 with
        | none => tb
        | some d => tb.put (n.bitOf p.1) d) tab1
    else tab1

/-- The times of every node, cells in an order that respects the counted references. -/
def demandTab (c : Container) (fed drain : List Nat) : DemandTab :=
  let ns := c.nodes.filter (fun n => n.head ∈ fed && n.head ∈ drain)
  let deps : List NodeDeps := ns.map (fun n => (n, (n.followed.filterMap (fun f =>
    (c.producer f.2).bind (fun m => if pathKey m f.2 ∈ fed ∧ m.head ∈ drain then some m.head else none))).dedup))
  (topoSort ns.length [] deps).foldl (demandNode c) []

/-- The dominant source of R166, as a reference of KIND 0b01; 0 without a path. -/
def dominant (d : Option Demand) : Nat :=
  match d with
  | none => 0
  | some x =>
    let remote := fun n => x.sources.any (fun s =>
      s.2 == none && (match sigRange s.1 with
        | .remoteIn m _ => m == n
        | _ => false))
    let ok := x.sources.filter (fun s =>
      match s.2 with
      | none => true
      | some n => !remote n)
    match ok.map (·.1) with
    | [] => 0
    | i :: is => bitRef (is.foldl min i)

/-- t_sw of a channel in µs (R168); 0 stands for not measured. -/
def tSw (tOff : Nat) : Nat := max 60 (12 + (if tOff = 0 then 40 else tOff))

/-- The certificate entry of a response limit (R166, Table 7.3). -/
def outputEntry (c : Container) (env : AdmitEnv) (tab : DemandTab) (l : LimitEntry) : CertOut :=
  let d : Option Demand :=
    match l.channel? with
    | some ch =>
      let bind := (c.nodes.find? (fun n => ch ∈ boundChannels c n)).map (·.head)
      Demand.plus (bind.bind tab.get?) (20 + tSw (env.tOff.getD ch 0))
    | none =>
      let k := fun b =>
        let x := c.conn (b / 64)
        250 * x.period + 30 + x.tNet + (c.partner x.partner).tIn
      l.bits.foldl (fun acc b => Demand.merge acc (Demand.plus (tab.get? (bitKey b)) (k b))) none
  ⟨l.output, l.mask, (d.map (·.us)).getD 0, l.limit, dominant d⟩

/-! ### The steps in order (Table 7.6) -/

/-- Step 11. -/
def checkUnusable (c : Container) (env : AdmitEnv) : Option CfgRefusal :=
  andThen (firstSome (fun i =>
    require ((c.chan i).mode == 0 || !(i ∈ env.unusable || (0x1000 + i / 16) ∈ env.unusable))
      (refusal cUNUSABLE kChannel i)) (List.range 64)) fun _ =>
  firstSome (fun n => require ((0x2000 + (c.conn n).port) ∉ env.unusable) (refusal cUNUSABLE kConn n)) c.connsInUse

/-- Steps 12 and 13 (R110, R173). -/
def memoryOk (c : Container) (form : Nat) : Bool :=
  form ≤ 7864320 && form + 8 * c.records + 256 * c.connsInUse.length ≤ 11534336

def refused (r : CfgRefusal) : Admitted := ⟨some r, [], [], [], [], 0, 0⟩

/-- The load in units of 0.01 % of the rate, rounded up. -/
def loadUnits (side : EvalSide) (l : Rat × Rat) : Nat := ceilRat (l.1 * 10 / side.rate)

/-- Steps 11 to 20. Only with none of them refused does the draft state which absences were admitted (R180, log 112). -/
def admission (c : Container) (env : AdmitEnv) : Admitted :=
  match checkUnusable c env with
  | some r => refused r
  | none =>
    if !memoryOk c env.formA then refused (refusal cCAPACITY_A kNone 0)
    else if !memoryOk c env.formB then refused (refusal cCAPACITY_B kNone 0)
    else match placeSide c env sageSide true, placeSide c env braidSide false with
    | .error r, _ => refused r
    | _, .error r => refused r
    | .ok a, .ok b =>
      match weirCheck c env.portModes c.connsInUse 0 [0, 0, 0] [0, 0, 0] with
      | some r => refused r
      | none =>
        match placePulses c env.keptPulses with
        | .error r => refused r
        | .ok pulses =>
          match sliceCheck c with
          | some r => refused r
          | none =>
            let fed := iter (fedStep c) (c.nodes.length + 1) []
            let drain := iter (drainStep c) (c.nodes.length + 1) (sinkHeads c)
            match cellCycle c (cellEdges c fed drain) with
            | some n => refused (refusal cDEADLINE kCell n)
            | none =>
              let tab := demandTab c fed drain
              let outs := c.limits.map (outputEntry c env tab)
              let at_ := fun (l : List (Nat × Nat)) n => ((l.find? (fun p => p.1 == n)).map (·.2)).getD 0
              let cells := c.cellsInUse.map (fun n =>
                ⟨n, at_ a.2 n, at_ b.2 n, (c.cell n).retry, (c.cost n).1, (c.cost n).2⟩)
              let late := (outs.find? (fun o => o.limit < o.wcrt)).map
                (fun o => refusal cDEADLINE kOutput o.output)
              let deg := andThen (degradedOne c sageSide true env.absent a 0) fun _ =>
                andThen (degradedOne c sageSide true env.absent a 1) fun _ =>
                andThen (degradedOne c braidSide false env.absent b 0) fun _ => degradedOne c braidSide false env.absent b 1
              let ref20 := if c.singleTol then deg else none
              { refusal := andThen late fun _ => ref20, cells := cells, pulses := pulses, outputs := outs,
                loads := [loadUnits sageSide a.1.l0, loadUnits sageSide a.1.l1, loadUnits braidSide b.1.l0,
                  loadUnits braidSide b.1.l1],
                pduRate := pduRate c,
                degraded := if c.singleTol ∧ late = none ∧ deg = none then 0x3C else 0 }

/-! ### The certificate (R180) -/

/-- What the certificate carries besides the admission's outcome. -/
structure CertInfo where
  signed : Bool
  bundleVersion : Nat
  translatorVersion : Nat
  sequence : Nat
  opSeconds : Nat
  cycles : Nat
  identity : Nat
  degradedNow : Bool
  stbIn : Bool
deriving DecidableEq, Repr, Inhabited

/-- A 32-bit two's complement number. -/
def signed32 (a b : Nat) : Nat := (a + 2 ^ 32 - b) % 2 ^ 32

/-- Bytes 0 to L - 65 of a certificate (Tables 7.8 to 7.10). -/
def certBody (c : Container) (a : Admitted) (i : CertInfo) : List Byte :=
  let len := 128 + 32 * a.outputs.length + 12 * a.cells.length + 64
  let flags := b2n i.signed + 2 * b2n c.singleTol + a.degraded + 64 * b2n i.degradedNow + 128 * b2n i.stbIn
  let header := [0x46, 0x59, 0x52, 0x43] ++ leBytes 2 1 ++ leBytes 2 128 ++ leBytes 4 len ++ leBytes 4 flags ++
    c.hash ++ leBytes 4 i.bundleVersion ++ leBytes 4 i.translatorVersion ++ leBytes 4 i.sequence ++
    leBytes 4 i.opSeconds ++ leBytes 4 i.cycles ++ leBytes 2 a.outputs.length ++ leBytes 2 a.cells.length ++
    ((List.range 4).map (fun k => leBytes 2 (a.loads.getD k 0))).flatten ++ leBytes 4 a.pduRate ++
    leBytes 8 i.identity ++ zeros 36
  let outs := a.outputs.map (fun o => leBytes 4 o.output ++ leBytes 8 o.mask ++ leBytes 4 o.wcrt ++ leBytes 4 o.limit ++
    leBytes 4 (signed32 o.limit o.wcrt) ++ leBytes 4 o.source ++ zeros 4)
  let cells := a.cells.map (fun k => leBytes 1 k.cell ++ leBytes 1 k.sage ++ leBytes 1 k.braid ++
    leBytes 1 (b2n k.retry) ++ leBytes 4 k.costA ++ leBytes 4 k.costB)
  header ++ outs.flatten ++ cells.flatten

end Sys2Proof.Machine
end

