-- ==== Sys2Proof/Machine/DeviceTypes.lean ====
section
/-! DEFINITION. State of time, the device state machine, and the firmware bundles (01, 02). Each field's default is
its value at reset. -/

namespace Sys2Proof.Machine

/-- Time as the block counts it (R27, R71, R73, R395, R207, R222): the tick, the slots begun since its edge, the slots and the
16-bit frame counter n since reset, the cell-timing origin, the origin of τ, the first tick edge after the Oxbow mount and the
operating seconds at it. -/
structure TimeSt where
  tick : Nat := 0
  slotInTick : Nat := 0
  slotNo : Nat := 0
  frameN : Nat := 0
  origin : Option Nat := none
  tau0 : Option Nat := none
  mountTick : Option Nat := none
  mountSeconds : Nat := 0
deriving DecidableEq, Repr, Inhabited

/-- The device states of Table 2.1. -/
inductive DevState where
  | off | reset | boot | maintenance | configure | verify | run | safe | latched | factoryTest
deriving DecidableEq, Repr, Inhabited

/-- The state code of Table 2.1; OFF has none and reads 0. -/
def DevState.code : DevState → Nat
  | .off => 0 | .reset => 1 | .boot => 2 | .maintenance => 3 | .configure => 4 | .verify => 5 | .run => 6 | .safe => 7
  | .latched => 8 | .factoryTest => 9

/-- The kinds of MAINTENANCE (R47). -/
inductive Maint where
  | none | rom | firmware
deriving DecidableEq, Repr, Inhabited

def Maint.code : Maint → Nat
  | .none => 0 | .rom => 1 | .firmware => 2

/-- Why VERIFY runs: start-up (row 12), RESTART (R51) or a commit from CONFIGURE (row 10). -/
inductive VerifyCause where
  | start | restart | newConfig
deriving DecidableEq, Repr, Inhabited

/-- The SAFE reasons of Table 2.2. -/
def sHOST : Nat := 1
def sFAULT : Nat := 2
def sSTART : Nat := 3
def sCAUSE : Nat := 4
def sNEWCFG : Nat := 5
def sPFAIL : Nat := 6
def sFALLBACK : Nat := 7

/-- The device state machine (R31 to R51). `hold` is the hold reason of Table 2.5, with region and word (R362);
`maintCode` is the failed check reported in MAINTENANCE (R45, R46, R181); `s3InSafe` says that a source at S3 has occurred since the
last RESTART (R294); `formVerdict` holds the verdict of each channel that translates anew in VERIFY (R46, R125). -/
structure DevSt where
  st : DevState := .reset
  maint : Maint := .none
  safeReason : Nat := 0
  configFrom : Option (DevState × Maint × Nat × Bool) := none
  maintCode : Option CfgRefusal := none
  hold : Nat := 0
  holdRegion : Nat := 0
  holdWord : Nat := 0
  released : Bool := false
  s3InSafe : Bool := false
  verifyCause : VerifyCause := .start
  verifySafe : Bool := false
  bundleFallback : Bool := false
  safeLine : Bool := false
  noSupervisor : Bool := false
  crstPending : Bool := false
  formOk : List Bool := [false, false]
  formVerdict : List (Nat × Option CfgRefusal) := []
  certOk : Bool := false
  loaded : Bool := false
deriving DecidableEq, Repr, Inhabited

/-! ### Bundles (R39 to R44) -/

/-- The manifest (Table 2.7). -/
structure Manifest where
  version : Nat
  epoch : Nat
  planeEpoch : Nat
  translator : Nat
  graphMin : Nat
  graphMax : Nat
  mailbox : Nat
  steppings : List Nat
  coexist : List (Nat × Nat)
deriving DecidableEq, Repr, Inhabited

/-- A bundle bank: its bytes, and the activation number of its bank record (R41). -/
structure BundleBank where
  bytes : List Byte := []
  activation : Nat := 0
deriving DecidableEq, Repr, Inhabited

/-- A staging of L bytes: bytes written so far, at rising addresses; an address without an entry has never been
written (R259). -/
structure Staging where
  length : Nat
  mem : List Host.Cell
  ended : Bool
  hash : List Byte
deriving DecidableEq, Repr, Inhabited

/-- The steps of a bundle handover (R284 to R286, Table 12.5). -/
inductive HandStage where
  | translating | starting | switching
deriving DecidableEq, Repr, Inhabited

/-- A handover under way: its stage, the bank handed to, and the tick of its reference. -/
structure Handover where
  stage : HandStage
  bank : Nat
  start : Nat
deriving DecidableEq, Repr, Inhabited

structure BundleSt where
  bank0 : BundleBank := { activation := 1 }
  bank1 : BundleBank := {}
  running : Option Nat := none
  manifest : Option Manifest := none
  staging : Option Staging := none
  handover : Option Handover := none
deriving DecidableEq, Repr, Inhabited

def BundleSt.bank (b : BundleSt) (i : Nat) : BundleBank := if i = 0 then b.bank0 else b.bank1

def BundleSt.setBank (b : BundleSt) (i : Nat) (x : BundleBank) : BundleSt :=
  if i = 0 then { b with bank0 := x } else { b with bank1 := x }

end Sys2Proof.Machine
end

