-- ==== Sys2Proof/Machine/FieldTypes.lean ====
section
/-! DEFINITION. State of the field groups: field dies, couplers, and each channel's own view of them (03, 04, 15).
Each field's default is its value at reset. Views are kept once for channel A and once for channel B (R85). -/

namespace Sys2Proof.Machine

/-- One field die (R69, Table 3.15). The channel registers are in `DieCh`; `unitRun` while it runs the rows of a unit slice
(R341). -/
structure DieSt where
  alive : Bool := false
  uv : Bool := false
  ov : Bool := false
  vfCode : Nat := 0
  tempCode : Nat := 0
  unitRun : Bool := false
deriving DecidableEq, Repr, Inhabited

/-- A slice that holds a channel in the field die (R331 to R333): its code, the step it has run, and whether it was aborted. One whose
step 2 has run is kept up to slot 3, since a lockout of that cycle still aborts it (R347). -/
structure DieSlice where
  sel : Nat
  step : Nat
  aborted : Bool
deriving DecidableEq, Repr, Inhabited

/-- One channel inside the field die: registers of Table 3.16, the synchronisation of R79, the switches and their token history (R80,
R70), the lockouts (R64), the comparator as it stands (R57) and what the status frame reports (Table 3.13). `armA` and `armB`: the side's
OFF token has been seen since the last lockout or SYNC-while-SYNCED; `cutAt`: the tick in which the die last aborted a slice (R333). -/
structure DieCh where
  mode : Nat := 0
  slew : Nat := 0
  lead : Nat := 0
  ot : Bool := false
  ol : Bool := false
  echo : Nat := 0
  synced : Bool := false
  nLast : BitVec 16 := 0
  swA : Bool := false
  swB : Bool := false
  prevOnA : Bool := false
  prevOnB : Bool := false
  armA : Bool := true
  armB : Bool := true
  offRun : Nat := 0
  comp : Bool := false
  cls : Nat := 7
  icode : Nat := 0
  mid : Bool := false
  atokBad : Bool := false
  btokBad : Bool := false
  slice : Option DieSlice := none
  cutAt : Option Nat := none
  answer : Option (BitVec 40) := none
deriving DecidableEq, Repr, Inhabited

/-- The logic-side coupler interface of one channel: the step of Table 3.17 whose frame it sent last (0 waiting for the die, 1 SYNC, 2 and
3 CFG, 4 to 6 the readback RUN frames, 7 in operation), the step it must go to next, and the command frame of this slot (R72). -/
structure Coupler where
  step : Nat := 0
  goto : Option Nat := none
  frame : Option (BitVec 40) := none
deriving DecidableEq, Repr, Inhabited

/-- What a channel saw of one field channel at a sample: the tick of the sample, CLASS, ICODE and the reported switches;
`valid` is false for an absent frame. -/
structure Seen where
  at_ : Nat := 0
  valid : Bool := false
  cls : Nat := 7
  icode : Nat := 0
  swa : Bool := false
  swb : Bool := false
  mid : Bool := false
  synced : Bool := false
  lockout : Bool := false
deriving DecidableEq, Repr, Inhabited

/-- The pulse of a holder that a channel is judging (R88, R91): the tick of its start, its number, the mode and W of the slot it completes
in (R102), whether this side makes it, its own request at the start, whether both requests have stayed ON since, the samples of all 64
channels at the pre-sample and the evaluation sample, and the outcome so far. -/
structure PulseRun where
  start : Nat
  number : Nat
  mode : Nat
  widthUs : Nat
  own : Bool
  req0 : Bool
  reqOk : Bool
  pre : List Seen
  eval : List Seen
  evalDone : Bool
  judged : Bool
deriving DecidableEq, Repr, Inhabited

/-- A channel's view of one field channel (R55, R59, R83, R92 to R98). `cls` is the last agreed sample; `cand` and `count` are the
filter's candidate and its run; `rb0`, `rb1`: registers 0x0 and 0x1 have been read back right since the last SYNC, `ready`: ON tokens may
be sent (R82), and `taken`: a cell boundary has passed since (Table 3.17 step 7); `heard`: the slot of the last valid status frame;
`slot`: the slot whose frame was last checked; `openSince`: the slot since which the die reports both switches open; `swaHeld`, `swbHeld`:
a verdict that stays until the off-state check sees its end (R93); `coverA`, `coverB`: the start of the latest pulse that has covered the
switch (R92). -/
structure View where
  state : Nat := 2
  cls : Nat := 7
  cand : Nat := 0
  count : Nat := 0
  filt : Nat := 0
  icode : Nat := 0
  mid : Bool := false
  swa : Bool := false
  swb : Bool := false
  ol : Bool := false
  ot : Bool := false
  uv : Bool := false
  ov : Bool := false
  rb0 : Bool := false
  rb1 : Bool := false
  ready : Bool := false
  taken : Bool := false
  frameAge : Nat := 0
  sampleAge : Nat := 0
  heard : Option Nat := none
  slot : Nat := 0
  lastSample : Seen := {}
  fault : Bool := false
  vfOk : Bool := false
  pulseBit : Bool := false
  onRun : Nat := 0
  openSince : Option Nat := none
  openLoad : Nat := 0
  req : Bool := false
  swaHeld : Bool := false
  swbHeld : Bool := false
  pulse : Option PulseRun := none
  missA : Nat := 0
  missB : Nat := 0
  coverA : Option Nat := none
  coverB : Option Nat := none
  foreign : Tab Nat := []
  maxI : Nat := 0
deriving DecidableEq, Repr, Inhabited

/-- What one pair's tick services hold of a field channel (Table 8.3) while it differs from its channel's view, because a
disagreement has made a status frame absent for that pair alone (R26, R184): the agreed sample, the filter, the bits and the
ages of R83. -/
structure PairView where
  cls : Nat := 7
  cand : Nat := 0
  count : Nat := 0
  filt : Nat := 0
  icode : Nat := 0
  mid : Bool := false
  swa : Bool := false
  swb : Bool := false
  ol : Bool := false
  uv : Bool := false
  ov : Bool := false
  vfOk : Bool := false
  frameAge : Nat := 0
  sampleAge : Nat := 0
deriving DecidableEq, Repr, Inhabited

/-- The part of a view that a pair's tick services hold. -/
def View.pairPart (v : View) : PairView :=
  { cls := v.cls, cand := v.cand, count := v.count, filt := v.filt, icode := v.icode, mid := v.mid, swa := v.swa, swb := v.swb,
    ol := v.ol, uv := v.uv, ov := v.ov, vfOk := v.vfOk, frameAge := v.frameAge, sampleAge := v.sampleAge }

/-- A view with the part that a pair's tick services hold. -/
def View.withPair (v : View) (p : PairView) : View :=
  { v with cls := p.cls, cand := p.cand, count := p.count, filt := p.filt, icode := p.icode, mid := p.mid, swa := p.swa,
           swb := p.swb, ol := p.ol, uv := p.uv, ov := p.ov, vfOk := p.vfOk, frameAge := p.frameAge, sampleAge := p.sampleAge }

/-- A half of a 12-bit value read through EXT: the selector, the value and the slot it came in (R77). -/
structure ExtHalf where
  sel : Nat
  value : Nat
  slot : Nat
deriving DecidableEq, Repr, Inhabited

/-- A channel's view of one field group (R68, R69, R77, R101, R396). -/
structure GroupView where
  vfCode : Nat := 0
  vfValid : Bool := false
  tempCode : Nat := 0
  vfTick : Option Nat := none
  half : Option ExtHalf := none
  vfLow : Bool := false
  lowRun : Nat := 0
  highRun : Nat := 0
  overTicks : Nat := 0
  underTicks : Nat := 0
  minVf : Option Nat := none
  maxTemp : Option Nat := none
deriving DecidableEq, Repr, Inhabited

/-- The readings of a field group that one pair's tick services hold while they differ from its channel's (R26, R121). -/
structure PairGroup where
  vfCode : Nat := 0
  vfValid : Bool := false
  tempCode : Nat := 0
  vfTick : Option Nat := none
  half : Option ExtHalf := none
deriving DecidableEq, Repr, Inhabited

/-- The part of a group view that a pair's tick services hold. -/
def GroupView.pairPart (v : GroupView) : PairGroup :=
  { vfCode := v.vfCode, vfValid := v.vfValid, tempCode := v.tempCode, vfTick := v.vfTick, half := v.half }

/-- A group view with the part that a pair's tick services hold. -/
def GroupView.withPair (v : GroupView) (p : PairGroup) : GroupView :=
  { v with vfCode := p.vfCode, vfValid := p.vfValid, tempCode := p.tempCode, vfTick := p.vfTick, half := p.half }

/-- The field: dies by group, channels by c, couplers by c, views by 2 c + side, the differing views of single pairs by 8 c + role,
group views by 2 g + side, the differing group views of single pairs by 8 g + role; `vfLow` are the low-warning
thresholds as they stood at the tick edge (R289). -/
structure FieldSt where
  dies : Tab DieSt := []
  chans : Tab DieCh := []
  couplers : Tab Coupler := []
  views : Tab View := []
  pairViews : Tab PairView := []
  groups : Tab GroupView := []
  pairGroups : Tab PairGroup := []
  vfLow : List Nat := [192, 192, 192, 192]
deriving DecidableEq, Repr, Inhabited

end Sys2Proof.Machine
end

