-- ==== Sys2Proof/Machine/MillraceTypes.lean ====
section
/-! DEFINITION. State of the Millrace connections (09) and of the Weir engine and its ports (10). Each field's default is
its value at reset. -/

namespace Sys2Proof.Machine

/-- Connection states (Table 9.10). -/
inductive ConnState where
  | absent | announced | opening | run | lost | mismatch | refused
deriving DecidableEq, Repr, Inhabited

def ConnState.code : ConnState → Nat
  | .absent => 0 | .announced => 1 | .opening => 2 | .run => 3 | .lost => 4 | .mismatch => 5 | .refused => 6

/-- A session: both nonces, the generation, the partner's handle and whether this end opened it. -/
structure Session where
  nO : Word
  nR : Word
  gen : Nat
  handle : Nat
  opener : Bool
deriving DecidableEq, Repr, Inhabited

/-- A control PDU that this channel writes for the tick `at_` (R221, R224): its type and its generation, and the fields of
Table 9.9. -/
structure DueControl where
  ftype : Nat
  gen : Nat
  handle : Nat
  nO : Word
  nR : Word
  bitsO : Nat
  bitsR : Nat
  period : Nat
  reason : Nat
  at_ : Nat
deriving DecidableEq, Repr, Inhabited

/-- The OPEN that the opener has sent and not yet seen answered: its nonce and generation. -/
structure PendingOpen where
  nO : Word
  gen : Nat
deriving DecidableEq, Repr, Inhabited

/-- What a latch reads of a connection: whether it was in RUN, its DATA bits and its FSV (R121, R212). -/
structure ConnInput where
  run : Bool := false
  data : DWord := 0
  fsv : Bool := false
deriving DecidableEq, Repr, Inhabited

/-- One channel's state of one connection (R216 to R225). `since`: the tick at which it entered its state; `input` and `before`:
what a latch reads, now and before the PDUs of the tick `accepted` (R134); `heardAt`: the tick of the last matching ANNOUNCE;
`lostFor`: the cells whose next latch still reads the safe values after row 7 replaced a session. -/
structure Conn where
  st : ConnState := .absent
  since : Nat := 0
  session : Option Session := none
  vt : Word := 0
  vr : Word := 0
  echoValid : Bool := false
  data : DWord := 0
  fsv : Bool := false
  accepted : Option Nat := none
  before : ConnInput := {}
  wdStart : Nat := 0
  rejects : List Nat := []
  sentAt : Nat := 0
  pendingOpen : Option PendingOpen := none
  heardAt : Option Nat := none
  partnerGens : Nat := 0
  due : Option DueControl := none
  lostFor : List Nat := []
  reason : Nat := 0
deriving DecidableEq, Repr, Inhabited

/-- What a channel's status mirror shows of a connection (R225, CONN_STATUS): its state, generation and FSV. -/
structure ConnMirror where
  st : ConnState := .absent
  gen : Nat := 0
  fsv : Bool := false
deriving DecidableEq, Repr, Inhabited

/-- A partner's learned address on a port (R208), with the tick of the frame it came from; the IPv4 address once a UDP frame has shown
it. -/
structure Learned where
  partner : Nat
  port : Nat
  mac : Nat
  ip : Option Nat
  at_ : Nat
deriving DecidableEq, Repr, Inhabited

/-- An entry of the list of unknown identities (R208): identity, port and operating second. -/
structure UnknownId where
  identity : Nat
  port : Nat
  second : Nat
deriving DecidableEq, Repr, Inhabited

/-- A receive-window descriptor with the PDU bytes it points to (R239, R242). `ftype`, `gen` are those of its frame; `mac`, `ip`
its source addresses, the second of a UDP frame only; `buffer` names the receive buffer. `tried` and `triedAt`: the entries an OPEN has been checked against,
and the tick of the last check (R224). -/
structure Descriptor where
  ftype : Nat
  gen : Nat
  bytes : List Byte
  mac : Nat
  ip : Option Nat
  arrival : Nat
  buffer : Nat
  captured : Bool
  tried : Nat
  triedAt : Option Nat
deriving DecidableEq, Repr, Inhabited

/-- What a frame on its way out is: PAUSE frames hold no slot (R237). -/
inductive TxKind where
  | data | control | arp | pause
deriving DecidableEq, Repr, Inhabited

/-- A frame in a transmit slot (R240, R241): its bytes from the destination address to before the FCS, the connections
of its PDUs and its deadline in ticks. -/
structure TxFrame where
  kind : TxKind
  bytes : List Byte
  conns : List Nat
  deadline : Nat
deriving DecidableEq, Repr, Inhabited

/-- A frame as received, taken apart by the receive filter: `wire` is its length with FCS. -/
structure RxParsed where
  dst : Nat
  src : Nat
  tci : Option Nat
  etherType : Nat
  payload : List Byte
  wire : Nat
deriving DecidableEq, Repr, Inhabited

/-- A frame held in a receive buffer (R242): its kind after the filter, whether it has been handled, the descriptors still to
be copied into each channel's window, and those copied and not yet picked up. -/
structure RxBuf where
  id : Nat
  kind : Nat
  frame : RxParsed
  arrival : Nat
  handled : Bool
  todoA : List Descriptor
  todoB : List Descriptor
  waitA : Nat
  waitB : Nat
deriving DecidableEq, Repr, Inhabited

/-- One port (R231 to R244). `upAt`: the tick of its last link-up; `pause`: the end of the pause in ns; `pauseNext`: a pause that starts
when the frame on the wire has left; `low`: fewer than 32 buffers were free; `pausing`: it has told its partner to pause; `pauseDue`: the
quanta of the PAUSE frames to send, the oldest first; `macOut`: the last frame that left, with its FCS. -/
structure Port where
  linkUp : Bool := false
  upAt : Nat := 0
  pause : Option Nat := none
  pauseNext : Option Nat := none
  queue : List TxFrame := []
  wire : Option TxFrame := none
  buffers : List RxBuf := []
  nextBuf : Nat := 0
  low : Bool := false
  pausing : Bool := false
  pauseDue : List Nat := []
  macOut : List Byte := []
deriving DecidableEq, Repr, Inhabited

/-- The connection entries that a channel has checked OPENs against in a tick (R224). -/
structure OpenSearch where
  tick : Nat := 0
  count : Nat := 0
deriving DecidableEq, Repr, Inhabited

/-- Weir: ports by k, receive windows by 4 * side + port, connections by 2 n + side with what the channels' mirrors show of them, what
each channel has learned, which unknown identities it has seen and how many entries it has checked OPENs against, the tick of the last
assembly, and the bundle bank of the Weir tables (R246). -/
structure WeirSt where
  ports : Tab Port := []
  windows : Tab (List Descriptor) := []
  conns : Tab Conn := []
  mirrors : Tab ConnMirror := []
  learnedA : List Learned := []
  learnedB : List Learned := []
  unknownA : List UnknownId := []
  unknownB : List UnknownId := []
  searchA : OpenSearch := {}
  searchB : OpenSearch := {}
  txTick : Option Nat := none
  tablesBank : Option Nat := none
deriving DecidableEq, Repr, Inhabited

end Sys2Proof.Machine
end

