-- ==== Sys2Proof/Machine/CellTypes.lean ====
section
/-! DEFINITION. State of the cells, of the lockstep pairs, and of the configuration in force and in change
(05, 07, 08, 12). Each field's default is its value at reset. -/

namespace Sys2Proof.Machine

/-- The cell states of Table 5.18. -/
inductive CellState where
  | unused | held | wait | run | shadow
deriving DecidableEq, Repr, Inhabited

def CellState.code : CellState → Nat
  | .unused => 0 | .held => 1 | .wait => 2 | .run => 3 | .shadow => 4

/-- State and outputs of one node. -/
structure NodeVal where
  state : List Nat := []
  outs : List Nat := []
deriving DecidableEq, Repr, Inhabited

/-- A cell image (Table 8.3): nodes by head record, words by index, CMD by channel, remote output bits by 64 n + b. -/
structure CellImage where
  nodes : Tab NodeVal := []
  words : Tab Nat := []
  cmds : Tab Nat := []
  remote : Tab Nat := []
deriving DecidableEq, Repr, Inhabited

/-- A channel's half of the reconciliation exchange (R130, R279). -/
structure Half where
  vector : List Nat
  signature : Nat
  p : Nat
  shadowEq : Bool
deriving DecidableEq, Repr, Inhabited

/-- One snapshot of a cell's status mirror (R21, R269, R279); `verdict` is that of the shadow period, where the cell is in SHADOW. -/
structure Snapshot where
  st : CellState := .unused
  vector : List Nat := []
  signature : Nat := 0
  disc : Nat := 0
  sigc : Nat := 0
  used : Nat := 0
  detail : Option Nat := none
  clean : Nat := 0
  verdict : Option Bool := none
deriving DecidableEq, Repr, Inhabited

/-- One evaluation of a cell by one channel, from its latch to its reconciliation point (R126, R189). `recon` is the tick of that
point; `ver` is 1 when it runs from the configuration being committed; `prev` is the latch before it (R107); `late` while its
latch still has to be taken (step 4 of Table 8.6); `safe` when the cell is held safe; `rerun` once a mismatch has interrupted it,
`takeover` once another pair has taken it over; `catchUp` when its vector is never published; `missed` once WINDOW_MISS has been
raised for it; `isShadow` when the new version runs beside it, with `shadow` its result. -/
structure CellRun where
  p : Nat := 0
  start : Nat := 0
  recon : Nat := 0
  ver : Nat := 0
  first : Bool := false
  late : Bool := false
  safe : Bool := false
  latch : Tab Nat := []
  prev : Tab Nat := []
  result : Option CellImage := none
  shadow : Option CellImage := none
  used : Nat := 0
  rerun : Bool := false
  takeover : Bool := false
  catchUp : Bool := false
  missed : Bool := false
  isShadow : Bool := false
deriving DecidableEq, Repr, Inhabited

/-- One channel's store of one cell. `img` is the image in force, `work` the one that the next evaluation starts from; `runs` are
its evaluations, oldest first; `pub` and `pubRemote` are the commands and remote output bits that the next boundary applies, `remote` the
remote output bits that the last one has applied, and `kept` says that the last one was a hold (R190); `prior` is its state before its last boundary; `shadowWork` is the image of the new version in a shadow run. -/
structure CellSide where
  st : CellState := .unused
  prior : CellState := .unused
  img : CellImage := {}
  work : CellImage := {}
  shadowWork : CellImage := {}
  runs : List CellRun := []
  lastLatch : Tab Nat := []
  first : Bool := true
  half : Option Half := none
  pub : Option (Tab Nat) := none
  pubRemote : Tab Nat := []
  remote : Tab Nat := []
  kept : Bool := false
  disc : Nat := 0
  sigc : Nat := 0
  heldAt : Nat := 0
  runFrom : Option Nat := none
  runDone : Bool := false
  resetOn : Bool := true
  mirror : Snapshot := {}
  mirrorNext : Option Snapshot := none
  detail : Nat := 0
  usedMax : Nat := 0
deriving DecidableEq, Repr, Inhabited

/-- What a live commit's record does to a cell (Table 12.3, R276). -/
inductive RecordKind where
  | shadow | direct | added | removed
deriving DecidableEq, Repr, Inhabited

/-- A commit record (R20, R276): the boundary tick at which it takes effect, its kind, the placement it carries and, for a
shadow run, its number of periods. -/
structure CommitRecord where
  at_ : Nat
  kind : RecordKind
  sage : Nat
  braid : Nat
  periods : Nat
deriving DecidableEq, Repr, Inhabited

/-- What both channels share about one cell: its period number, the wiring of its safe-request line, its pending record
and its course through a live commit. `ver` is the version that channel A runs, `verB` that of channel B: 0 the running configuration,
1 the one being committed, higher ones as `State.versionCont` has them; `pOff` is what the period number is ahead of the cell's present grid, where a live commit has changed its period
(R132); `waitChans` are the changed channels whose readback it waits for (R283); `handAt` is the boundary at which it switches to
a new bundle (R285). -/
structure CellLine where
  p : Nat := 0
  lineSeen : Bool := false
  entry : Bool := false
  record : Option CommitRecord := none
  ver : Nat := 0
  verB : Nat := 0
  pOff : Int := 0
  clean : Nat := 0
  swapAt : Option Nat := none
  toTransition : Bool := false
  removeAt : Option Nat := none
  waitChans : List Nat := []
  handAt : Option Nat := none
  lastBoundary : Option Nat := none
  lastRecon : Option Nat := none
deriving DecidableEq, Repr, Inhabited

/-- A measurement block of a channel's mirror (R21): lowest VF code and highest temperature code of each group, and the highest
current code of each output and source channel in use. -/
structure MeasBlock where
  vf : Tab Nat := []
  temp : Tab Nat := []
  current : Tab Nat := []
deriving DecidableEq, Repr, Inhabited

/-- The cells: sides by 2 n + side, lines by n; the published measurement block of each channel, and the one that the next tick
edge publishes. -/
structure CellsSt where
  sides : Tab CellSide := []
  lines : Tab CellLine := []
  block : Tab MeasBlock := []
  blockNext : Tab MeasBlock := []
deriving DecidableEq, Repr, Inhabited

/-! ### Pairs (08) -/

/-- What STB does (R194, R272, R285). -/
inductive StbWork where
  | free | translation | shadows | handover | standIn
deriving DecidableEq, Repr, Inhabited

/-- One mismatch of the retirement monitor: operating second and tick (R192); `early` while its second still counts from
reset release (R325). -/
structure Mark where
  second : Nat
  tick : Nat
  early : Bool
deriving DecidableEq, Repr, Inhabited

/-- Successive disagreements on one input (R185): kind, index, count. -/
structure AgrCount where
  kind : Nat
  index : Nat
  count : Nat
deriving DecidableEq, Repr, Inhabited

/-- A checkpoint slot (R186): the tick at which it was written, whether its closing marker has been written, and of the pair
context of Table 8.3 what the spec names and the block shows: the scheduler queue (the cells with an evaluation still to complete)
and the inputs that the agreement buffer holds as disagreeing. Evaluations resume from the images and latches of the cells. -/
structure CkptSlot where
  tick : Option Nat := none
  closed : Bool := false
  queue : List Nat := []
  agr : List AgrCount := []
deriving DecidableEq, Repr, Inhabited

/-- A channel's measurement of a cell's reset signal (R129). -/
structure ResetRun where
  runFrom : Option Nat := none
  runDone : Bool := false
  resetOn : Bool := true
deriving DecidableEq, Repr, Inhabited

/-- A tick-service record of a pair (Table 8.3): its tick; the filters and the status-frame history of each field channel, and the
readings of each group; the receive state and the watchdogs of the connections; the reset-run measurements of its cells. -/
structure TickRecord where
  tick : Nat := 0
  views : List PairView := []
  groups : List PairGroup := []
  conns : Tab Conn := []
  resets : Tab ResetRun := []
deriving DecidableEq, Repr, Inhabited

/-- A pair: its mismatches, its state, its two checkpoint slots with the newer closed one (R186), its two tick-service
records with the newer one (Table 8.3), its retirement monitor (R192), its agreement counts (R185), the evaluation a mismatch
interrupted, the tick of a block reset by BRST (R296), and the host signals as its copies agreed on them (R184). -/
structure PairSt where
  mismatches : Nat := 0
  lastGroup : Nat := 0xFF
  retired : Bool := false
  inReset : Bool := false
  selfTestOk : Bool := false
  slot0 : CkptSlot := {}
  slot1 : CkptSlot := {}
  ckptNewer : Nat := 1
  record0 : TickRecord := {}
  record1 : TickRecord := {}
  recordNewer : Nat := 1
  monitor : List Mark := []
  agr : List AgrCount := []
  interrupted : Option Nat := none
  resetAt : Option Nat := none
  hostAgreed : BitVec 2048 := 0
  busyUs : Nat := 0
  load : Nat := 0
deriving DecidableEq, Repr, Inhabited

def PairSt.slot (k : PairSt) (i : Nat) : CkptSlot := if i = 0 then k.slot0 else k.slot1

/-- The tick-service record of a number. -/
def PairSt.record (k : PairSt) (i : Nat) : TickRecord := if i = 0 then k.record0 else k.record1

def PairSt.setSlot (k : PairSt) (i : Nat) (x : CkptSlot) : PairSt :=
  if i = 0 then { k with slot0 := x } else { k with slot1 := x }

/-- Cells of a retired evaluator that move to the other one of its channel (R197): the role they come from and whether the
survivor has restored that role's context (step 3 of Table 8.6). -/
structure Move where
  role : Nat
  cells : List Nat
  restored : Bool
deriving DecidableEq, Repr, Inhabited

/-- The pairs by the role they have, and what STB does: its work and the role it stands in for. `swapped` says that a handover
has exchanged the hardware of SUP and STB (R285, R193); `takeover` are the roles whose missed latches still have to be taken
(step 4 of Table 8.6); `moves` are the moves of R197 under way; `retiredAt` is the pair retired last, with tick and slot (R202). -/
structure PairsSt where
  pairs : Tab PairSt := []
  stb : StbWork := .free
  stbFor : Option Nat := none
  swapped : Bool := false
  takeover : List Nat := []
  moves : List Move := []
  retiredAt : Option (Nat × Nat × Nat) := none
deriving DecidableEq, Repr, Inhabited

/-! ### Configuration (02, 07, 11, 12) -/

/-- A translated form in its cache area (R124): the fields of its header that differ between forms, and its form hash; `Form.bytes` lays
it out. `intact` is the verdict of the form hash over what is stored. -/
structure Form where
  containerHash : List Byte
  translator : Nat
  length : Nat
  hash : List Byte
  intact : Bool
deriving DecidableEq, Repr, Inhabited

/-- A configuration bank (R110, R45, R181): container bytes, commit record, forms and stored certificate. -/
structure ConfigBank where
  bytes : List Byte := []
  sequence : Nat := 0
  hash : List Byte := []
  formA : Option Form := none
  formB : Option Form := none
  cert : List Byte := []
deriving DecidableEq, Repr, Inhabited

/-- A configuration as it runs: the container, its commit sequence number and the placements of its cells and pulses. -/
structure RunCfg where
  cont : Container
  sequence : Nat
  cells : List CertCell
  pulses : List (Nat × Nat × Nat)
deriving DecidableEq, Repr, Inhabited

/-- A CFG_COMMIT under admission (R179, R260): the request's tag and what stood at acceptance (R176). -/
structure Admission where
  tag : Nat
  live : Bool
  bytes : List Byte
  env : AdmitEnv
  check : CheckEnv
deriving DecidableEq, Repr, Inhabited

/-- The commit tick of a live commit that a later one has joined before it (R20, R275). -/
structure PendingTick where
  next : RunCfg
  bytes : List Byte
  commitTick : Nat
  cert : List Byte
deriving DecidableEq, Repr, Inhabited

/-- A live commit whose records are being applied: the new configuration with its bytes, the commit tick and whether it has passed. Of the
earlier commits still under way that it has joined (R20): `prior` is the configuration that their last commit tick has put in force,
`early` are the commit ticks still to come, `olds` the configurations that cells may still run, and `chanOld` and `connOld` the bindings,
placements and entries that their boundaries have put in force where this commit changes them again. -/
structure LiveCommit where
  next : RunCfg
  bytes : List Byte
  commitTick : Nat
  ticked : Bool
  cert : List Byte
  chanAt : List (Nat × Nat)
  connAt : List (Nat × Nat)
  prior : Option RunCfg := none
  early : List PendingTick := []
  olds : List RunCfg := []
  chanOld : Tab (ChanEntry × Option (Nat × Nat)) := []
  connOld : Tab (ConnEntry × PartnerEntry) := []
deriving DecidableEq, Repr, Inhabited

/-- Translations of a staged container in RUN (R272): `activeA` while the A-translation runs on STB. -/
structure LiveTranslation where
  activeA : Bool
  doneA : Bool
  doneB : Bool
deriving DecidableEq, Repr, Inhabited

structure ConfigSt where
  bank0 : ConfigBank := {}
  bank1 : ConfigBank := {}
  active : Nat := 0
  staging : Option Staging := none
  running : Option RunCfg := none
  live : Option LiveCommit := none
  admission : Option Admission := none
  draft : List Byte := []
  trans : Option LiveTranslation := none
deriving DecidableEq, Repr, Inhabited

def ConfigSt.bank (c : ConfigSt) (i : Nat) : ConfigBank := if i = 0 then c.bank0 else c.bank1

def ConfigSt.setBank (c : ConfigSt) (i : Nat) (x : ConfigBank) : ConfigSt :=
  if i = 0 then { c with bank0 := x } else { c with bank1 := x }

/-- Calibration of a channel as CAL_READ gives it (R287). -/
structure Cal where
  gain : Word := 0x10000
  offset : Word := 0
  tOff : Nat := 0
  seconds : Nat := 0
deriving DecidableEq, Repr, Inhabited

/-- Calibration on its way to the channels: its coefficients and the tick of its record (R288). -/
structure CalDue where
  chan : Nat
  cal : Cal
  at_ : Nat
deriving DecidableEq, Repr, Inhabited

/-- The settings of one port (Table 10.2). -/
structure PortCfg where
  mode : Nat := 0
  ip : Nat := 0
  pauseRx : Nat := 1
  pauseMax : Nat := 500
  pauseTx : Nat := 0
deriving DecidableEq, Repr, Inhabited

/-- The parameter items of Table 12.2, all kept in MRAM (R270). `masks` are the MASK_IRQ words by block, which take effect in the fault
words. -/
structure ParamSt where
  etherType : Nat := 0x88B5
  udpPort : Nat := 50944
  ports : List PortCfg := [{}, {}, {}]
  rgmiiDelays : Nat := 0
  phyAddr : Nat := 0
  vpfw : Nat := 2900
  vfLow : List Nat := [192, 192, 192, 192]
  oxbInterval : Tab Nat := []
  detail : Tab Nat := []
  masks : Tab (BitVec 128) := []
  cal : Tab Cal := []
  calDue : List CalDue := []
deriving DecidableEq, Repr, Inhabited

def ParamSt.port (p : ParamSt) (k : Nat) : PortCfg := p.ports.getD k {}

end Sys2Proof.Machine
end

