-- ==== Sys2Proof/Machine/HostTypes.lean ====
section
/-! DEFINITION. State of the host interface (11): tags, the request and response queues, the session, the transport and
the host-signal image. Each field's default is its value at reset. -/

namespace Sys2Proof.Machine

/-- The interface in use (R247; IFACE of Table 11.7). -/
inductive Iface where
  | spi0 | spi3 | xspi
deriving DecidableEq, Repr, Inhabited

def Iface.code : Iface → Nat
  | .spi0 => 0 | .spi3 => 1 | .xspi => 2

/-- A request as HOST queued it (R251): header fields, payload, and whether SUP has captured its descriptor (R184); `st` is the
code of the device state at its acceptance (R50), `done` says that its class L write took effect then (R267). -/
structure Request where
  tag : Nat
  version : Nat
  cmd : Nat
  session : Nat
  payload : List Byte
  captured : Bool
  st : Nat := 0
  done : Bool := false
deriving DecidableEq, Repr, Inhabited

/-- What a request that has been served but not yet answered waits for (R254 and the fuse services of R363). -/
inductive WaitFor where
  | run
  | restart
  | commit
  | selfTest
  | cal
  | activate
  | fuse
  | hostSig
  | oxbFlush
deriving DecidableEq, Repr, Inhabited

structure Waiting where
  req : Request
  on : WaitFor
deriving DecidableEq, Repr, Inhabited

/-- A queued response: its tag, its whole message, and the session it belongs to: that which its request carried or, as a HELLO,
opened (R255). -/
structure Response where
  tag : Nat
  bytes : List Byte
  session : Nat
deriving DecidableEq, Repr, Inhabited

/-- The reject reasons of LAST_REJECT (Table 11.2). -/
def jCRC : Nat := 1
def jLENGTH : Nat := 2
def jTAG : Nat := 3
def jHELD : Nat := 4
def jOPCODE : Nat := 5
def jRELEASE : Nat := 6
def jXSPI : Nat := 7

/-- HOST and the mailbox session. `out` is what the device returned in the last transaction. -/
structure HostSt where
  iface : Iface := .spi0
  queue : List Request := []
  waiting : List Waiting := []
  rsp : List Response := []
  lastReject : Nat := 0
  rejectCount : Nat := 0
  evHandover : Bool := false
  evHsTimeout : Bool := false
  evState : Bool := false
  evFault : Bool := false
  evReady : Bool := false
  ready : Bool := false
  rom : Bool := false
  session : Nat := 0
  version : Nat := 0
  accepted : Nat := 0
  rejected : Nat := 0
  paused : Bool := false
  out : List Byte := []
deriving DecidableEq, Repr, Inhabited

/-- The tags that the device holds (R253): queued, waiting for their answer, or answered and not released. -/
def HostSt.held (h : HostSt) : List Nat :=
  h.queue.map (·.tag) ++ h.waiting.map (·.req.tag) ++ h.rsp.map (·.tag)

/-- What a write that waits for its flip would undo if it is refused (R265). -/
structure HostSigBase where
  inactive : BitVec 2048
  flipDue : Bool
  holdMs : Nat
  lastWrite : Nat
deriving DecidableEq, Repr, Inhabited

/-- The host-signal image (R22, R262): the visible half, the inactive half, whether a flip is due, the hold time with the tick
from which it runs, and what stood before the writes that wait for the flip. -/
structure HostSigSt where
  visible : BitVec 2048 := 0
  inactive : BitVec 2048 := 0
  flipDue : Bool := false
  holdMs : Nat := 0
  lastWrite : Nat := 0
  before : Option HostSigBase := none
deriving DecidableEq, Repr, Inhabited

end Sys2Proof.Machine
end

