-- ==== Sys2Proof/Machine/RecordTypes.lean ====
section
/-! DEFINITION. State of the fault words (13) and of the Oxbow recorder (14). Each field's default is its value at
reset. -/

namespace Sys2Proof.Machine

/-! ### Fault status (R290 to R301) -/

/-- The stored words of a block, bit i for source i (Table 13.1); LIVE is computed from the live instances. -/
structure FaultWords where
  sticky : BitVec 128 := 0
  injected : BitVec 128 := 0
  mask : BitVec 128 := 0
deriving DecidableEq, Repr, Inhabited

/-- A live instance of a source (R291): the ticks of its rise and of its latest event, its effective severity at the rise,
who holds a condition (1 channel A, 2 channel B, 4 any other detector; 0 for an event), and the instance of the open Oxbow
record in which the occurrence awaits its bin (R312); `reacts` are the reactions taken for it (R275); `stale` one that PD0 has kept through a reset and that its detector has not
seen again since (R292). -/
structure LiveInst where
  block : Nat
  index : Nat
  inst : Nat
  rise : Nat
  last : Nat
  sev : Nat
  holders : Nat
  inRec : Option Nat
  reacts : Nat := 0
  stale : Bool := false
deriving DecidableEq, Repr, Inhabited

/-- An ERRP hold (R301), with the cells in the source's scope. -/
structure ErrpHold where
  block : Nat
  index : Nat
  inst : Nat
  sev : Nat
  cells : List Nat
deriving DecidableEq, Repr, Inhabited

/-- The words of a block that SUP's fault handler has read and passed to Oxbow at an NMI (R296). -/
structure HandledWords where
  block : Nat
  sticky : BitVec 128
  live : BitVec 128
deriving DecidableEq, Repr, Inhabited

/-- All fault status: words by block ID, live instances, ERRP holds, occurrences that wait for the Oxbow mount (R351: those of ROS whose
word is kept, and the number beyond by source index), the blocks whose entry into the fault handler waits for a SUP restore and what the
handler read last (R296), the start of each block reset by BRST (R305), and the units that a source at S3 has named since the last RESTART
(R51). -/
structure FaultSt where
  words : Tab FaultWords := []
  live : List LiveInst := []
  holds : List ErrpHold := []
  early : List (Nat × Nat) := []
  earlyMore : Tab Nat := []
  nmi : List Nat := []
  handled : Option HandledWords := none
  brst : Tab Nat := []
  s3Units : List Nat := []
deriving DecidableEq, Repr, Inhabited

/-! ### Oxbow (R309 to R329) -/

/-- A record (Table 14.2) in either format. `lo` and `hi` are minimum and maximum, read as signed 16-bit values; `damaged` are the
bytes that the record's place in MRAM returns, where these fail the CRC (R311). -/
structure OxbRec where
  format : Nat := 1
  flags : Nat := 0
  code : Nat := 0
  inst : Nat := 0
  supp : Nat := 0
  seq : Nat := 0
  start : Nat := 0
  stop : Nat := 0
  cycles : Nat := 0
  count : Nat := 0
  lo : Int := 0
  hi : Int := 0
  bins : List Nat := List.replicate 12 0
  damaged : Option (List Byte) := none
deriving DecidableEq, Repr, Inhabited

/-- Flag bits of Table 14.3. -/
def fgINJECTED : Nat := 1
def fgOPEN : Nat := 2
def fgPARTIAL : Nat := 4
def fgRECOVERED : Nat := 8
def fgSATURATED : Nat := 16
def fgOVERFLOW : Nat := 32

/-- An open record and the interval in force when it opened (R314, R315). -/
structure OpenRec where
  rcd : OxbRec
  interval : Nat
deriving DecidableEq, Repr, Inhabited

/-- A Totals entry: its two copies side by side (R321, R323). -/
structure TotEntry where
  copy0 : Option OxbRec := none
  copy1 : Option OxbRec := none
deriving DecidableEq, Repr, Inhabited

/-- The Oxbow part of MRAM (Table 14.10): the areas, the sequence of the next record written, the highest sequence folded
into Totals and the sequences whose folds a power-fail sequence has left for the next mount (R320), the pending image with its unflushed mark, the three copies of operating seconds, power-cycle count and late
counter, and the remap table: the area and number of the block that uses each spare block, in the order of the spares (R324). -/
structure OxbMram where
  first : Tab OxbRec := []
  tail : Tab OxbRec := []
  totals : Tab TotEntry := []
  nextSeq : Nat := 0
  totHigh : Option Nat := none
  unfolded : List Nat := []
  image : List OpenRec := []
  marked : Bool := false
  seconds : List Nat := [0, 0, 0]
  cycles : List Nat := [0, 0, 0]
  late : List Nat := [0, 0, 0]
  remap : List (Nat × Nat) := []
deriving DecidableEq, Repr, Inhabited

/-- The kinds of flush (Table 14.8), the weaker first. -/
inductive FlushKind where
  | routine | full | powerFail
deriving DecidableEq, Repr, Inhabited

def FlushKind.rank : FlushKind → Nat
  | .routine => 0 | .full => 1 | .powerFail => 2

/-- A record whose close waits for a slot of the dirty queue (R319): its pair, and the flags it closes with. -/
structure ClosingRec where
  code : Nat
  inst : Nat
  flags : Nat
deriving DecidableEq, Repr, Inhabited

/-- Oxbow: its MRAM part, the pending table, the dirty queue, the burst in flight, the records that wait for a slot of the queue, the
records that the running flush has written, the freeze of the power-fail sequence, the window starts of measurements between two records,
and the flush control of R318 and R328 with the operating second of the failure and the try of the TL word that a trigger has asked for. -/
structure OxbSt where
  mram : OxbMram := {}
  openRecs : List OpenRec := []
  dirty : List OxbRec := []
  inFlight : List OxbRec := []
  closing : List ClosingRec := []
  flushed : Nat := 0
  frozen : Bool := false
  nextWindow : Tab Nat := []
  mounted : Bool := false
  running : Option FlushKind := none
  trigger : Option FlushKind := none
  deferredAt : Option Nat := none
  lastStart : Option Nat := none
  hourlyFrom : Nat := 0
  lastSampleTick : Nat := 0
  storeFail : Option Nat := none
  failedAt : Nat := 0
  tlPending : Bool := false
  tlAsk : Bool := false
  tlTriedAt : Nat := 0
  tlDone : Bool := false
deriving DecidableEq, Repr, Inhabited

end Sys2Proof.Machine
end

