-- ==== Sys2Proof/Machine/ServiceTypes.lean ====
section
/-! DEFINITION. State of Riffle (15), Rosemary (16), power and clocks (17), the memories' counters (01, 08) and JTAG (18).
Each field's default is its value at reset. -/

namespace Sys2Proof.Machine

/-! ### Riffle -/

/-- The channel slice under way (R332, R338): channel, slice code, variant, the slot of the last step received, the step (0 or 1) and ICODE
of each slice status frame received, whether the last frame carried MID 1, whether the slot 1 frame showed that the die started it, and whether the slot 2 frame has
come. `aborted` from the abort to the end of the restore. -/
structure SliceRun where
  chan : Nat
  sel : Nat
  variant : Nat
  slot : Nat
  results : List (Nat × Nat)
  marker : Bool
  started : Bool
  final : Bool := false
  aborted : Bool
  forRequest : Bool
deriving DecidableEq, Repr, Inhabited

/-- Coverage of a channel (R334, R335): passes by 8 * (slice code - 0x18) + variant, deadline
in operating seconds, the programs passed in VERIFY (R343), and the slices that must be repeated, as code and variant (R340). -/
structure Coverage where
  passes : Tab Nat := []
  deadline : Option Nat := none
  verified : List Nat := []
  repeats : List (Nat × Nat) := []
deriving DecidableEq, Repr, Inhabited

/-- The history of a unit (SELFTEST_REPORT): last result (0 pass, 1 fail, 2 aborted, 3 skipped, 0xFF none yet as HOST
reports it), unusable mark, operating second of the last pass and the four counts. -/
structure UnitRec where
  last : Nat := 0xFF
  unusable : Bool := false
  lastPass : Nat := 0
  passes : Nat := 0
  fails : Nat := 0
  aborts : Nat := 0
  skips : Nat := 0
deriving DecidableEq, Repr, Inhabited

/-- A SELFTEST_REQUEST under way (R346): unit kind and index, programs still to run, and what was seen so far. -/
structure SelfTest where
  kind : Nat
  index : Nat
  left : List Nat
  failed : Bool
  aborted : Bool
  skipped : Bool
  sig : Nat
  expected : Nat
deriving DecidableEq, Repr, Inhabited

/-- A CAL_START under way (R287): the channels left, whether the first of them has been measured and its verify slice has
passed, and the channels done. -/
structure CalRun where
  left : List Nat
  measured : Bool
  verified : Bool
  ok : List Nat
  failed : List Nat
deriving DecidableEq, Repr, Inhabited

/-- Riffle. `clock` counts the operating seconds spent in RUN and SAFE, in which alone the deadlines run (R335); `sliceTick` is the tick of
the last channel slice, `logicTick` that of the last logic-side check (R344). -/
structure RifSt where
  clock : Nat := 0
  slices : Nat := 0
  skipped : Nat := 0
  granted : Bool := false
  slice : Option SliceRun := none
  coverage : Tab Coverage := []
  units : Tab UnitRec := []
  groupSlices : List Nat := []
  tOff : Tab Nat := []
  logicFails : List Nat := [0, 0, 0]
  logicAt : Option Nat := none
  sliceTick : Option Nat := none
  logicTick : Option Nat := none
  unitsDone : List Nat := []
  selfTest : Option SelfTest := none
  cal : Option CalRun := none
deriving DecidableEq, Repr, Inhabited

/-! ### Rosemary -/

/-- A fuse word (R348). -/
structure FuseWord where
  data : DWord := 0
  prog : Bool := false
deriving DecidableEq, Repr, Inhabited

/-- A shadow word and its marks (R351). `prog`: some bit of the word was read as programmed. -/
structure ShadowWord where
  val : DWord := 0
  prog : Bool := false
  marginal : Bool := false
  bad : Bool := false
deriving DecidableEq, Repr, Inhabited

/-- The parties that may program (Table 16.1), in the order of R363. -/
inductive RosParty where
  | tl | epoch | host
deriving DecidableEq, Repr, Inhabited

/-- Operations of ROS_CMD (Table 16.4). -/
inductive RosOpKind where
  | program | verify | sealOp | lockOp
deriving DecidableEq, Repr, Inhabited

def RosOpKind.code : RosOpKind → Nat
  | .program => 1 | .verify => 2 | .sealOp => 3 | .lockOp => 4

/-- An operation: who asked, its kind, the word or region of ROS_CMD, the word it programs and the target data. `answer`:
a mailbox request waits for it. -/
structure RosJob where
  party : RosParty
  kind : RosOpKind
  word : Nat
  target : Nat
  data : DWord
  answer : Bool
deriving DecidableEq, Repr, Inhabited

structure RosSt where
  fuses : Tab FuseWord := []
  shadow : Tab ShadowWord := []
  busy : Bool := false
  result : Nat := 0
  retries : Nat := 0
  op : Nat := 0
  word : Nat := 0
  dataLo : Word := 0
  dataHi : Word := 0
  running : Option RosJob := none
  waiting : List RosJob := []
  sensed : Bool := false
  jtagLocked : Bool := false
deriving DecidableEq, Repr, Inhabited

/-! ### Power, clocks, memories, JTAG -/

/-- PD0 and the supplies. `domains` lists the domains switched on; `holdPhase` is the time in ms since the hold-pattern
frame that runs began (R361); `errpPhase` is the level of ERR_P in a toggling pair (R302). -/
structure PwrSt where
  vsup : Nat := 0
  tj : Int := 0
  vpfwEnabled : Bool := false
  latch : Bool := false
  resetCause : Nat := 0
  pfailSeen : Bool := false
  late : Nat := 0
  opSeconds : Nat := 0
  powerCycles : Nat := 0
  sinceRelease : Nat := 0
  domains : List Nat := [0]
  warning : Option Nat := none
  shed : Bool := false
  shedDone : Bool := false
  railBad : List Nat := []
  vsupHigh : Bool := false
  resetNLow : Bool := false
  testmode : Bool := false
  errpPhase : Bool := true
  holdPhase : Option Nat := none
deriving DecidableEq, Repr, Inhabited

structure ClkSt where
  pllLocked : Bool := false
  serdesLocked : Bool := false
  gated : Bool := false
  ratioDev : Int := 0
  outTwo : Nat := 0
deriving DecidableEq, Repr, Inhabited

/-- The access that a port guard blocked last (R18): its guard, initiator and kind, and the data it returned. -/
structure BlockedAccess where
  guard : Nat
  initiator : Nat
  write : Bool
  data : Nat
deriving DecidableEq, Repr, Inhabited

structure MemSt where
  eccCorrA : Nat := 0
  eccCorrB : Nat := 0
  blocksA : Nat := 0
  blocksB : Nat := 0
  lastBlock : Option BlockedAccess := none
deriving DecidableEq, Repr, Inhabited

/-- The TAP (R390, R391): instruction code, the selected data register where it is not the boundary-scan chain, whether EXTEST drives
the lands, and of the 36 lands of the chain what was captured last and what is preloaded for them (their order: log 110). -/
structure JtagSt where
  ir : Nat := 0x02
  dr : Word := 0x19640E4B
  driving : Bool := false
  chain : BitVec 36 := 0
  preload : BitVec 36 := 0
deriving DecidableEq, Repr, Inhabited

end Sys2Proof.Machine
end

