-- ==== Sys2Proof/Machine/State.lean ====
section
/-! DEFINITION. The state of the block, the state after reset, and the reasons a step could stop. -/

namespace Sys2Proof.Machine

/-- Everything the spec gives the block, and two fields of the model's own: the queue of waiting commands and the
counter of free values drawn. -/
structure State where
  time : TimeSt := {}
  dev : DevSt := {}
  host : HostSt := {}
  hs : HostSigSt := {}
  faults : FaultSt := {}
  pairs : PairsSt := {}
  cfg : ConfigSt := {}
  params : ParamSt := {}
  cells : CellsSt := {}
  field : FieldSt := {}
  weir : WeirSt := {}
  oxb : OxbSt := {}
  ros : RosSt := {}
  pwr : PwrSt := {}
  clk : ClkSt := {}
  rif : RifSt := {}
  bundles : BundleSt := {}
  mems : MemSt := {}
  jtag : JtagSt := {}
  pending : List Instr := []
  free : Nat := 0
deriving DecidableEq, Repr, Inhabited

/-- The fuses as shipped (Table 16.1, log 3): stepping A1 in word 1, the factory-lock word, and the lock and seal words of
the regions ID and FT (R358, R359). -/
def shippedFuses : Tab FuseWord :=
  [(1, ⟨0x00A1, true⟩),
   (1022, ⟨0xC300000000000000, true⟩), (1023, ⟨11889512214646897574, true⟩),
   (3648, ⟨1, true⟩),
   (3662, ⟨0xC304000000000000, true⟩), (3663, ⟨11890889013342591135, true⟩)]

/-- The block right after reset: device RESET entered from OFF, only PD0 on, nothing stored by a host yet. -/
def State.reset : State := { ros := { fuses := shippedFuses } }

/-- The block has no fault of its own: every error is part of its state (INVENTORY, Faults). This closed type has the one
constructor that no meaning raises. -/
inductive Fault where
  /-- No meaning raises it; it is safe, since it stops nothing. -/
  | none
deriving DecidableEq, Repr

/-- Reasons a command has no answer. -/
inductive Refusal where
  /-- Raised by an arm of `exec` whose command has no meaning yet; safe, since nothing is claimed of such a command. -/
  | notModelled (mnemonic : String)
deriving DecidableEq, Repr

end Sys2Proof.Machine
end

