-- ==== Sys2Proof/Machine/Ops.lean ====
section
/-! DEFINITION. The named operations over the state: reading and writing one entry of a table, the configuration in force,
the scope of a fault, the safe-request lines, and draws of free values. -/

namespace Sys2Proof.Machine

/-! ### Table entries -/

def Side.ix : Side → Nat
  | .a => 0
  | .b => 1

/-- The bit of `LiveInst.holders` that a channel owns. -/
def Side.bit : Side → Nat
  | .a => 1
  | .b => 2

/-- The holder bit of every detector that is not one of the two channels. -/
def whoDev : Nat := 4

def State.view (s : State) (sd : Side) (c : Nat) : View := s.field.views.getD (2 * c + Side.ix sd) {}
def State.setView (s : State) (sd : Side) (c : Nat) (v : View) : State :=
  { s with field := { s.field with views := s.field.views.put (2 * c + Side.ix sd) v } }
def State.gview (s : State) (sd : Side) (g : Nat) : GroupView := s.field.groups.getD (2 * g + Side.ix sd) {}
def State.setGview (s : State) (sd : Side) (g : Nat) (v : GroupView) : State :=
  { s with field := { s.field with groups := s.field.groups.put (2 * g + Side.ix sd) v } }
def State.die (s : State) (g : Nat) : DieSt := s.field.dies.getD g {}
def State.setDie (s : State) (g : Nat) (d : DieSt) : State :=
  { s with field := { s.field with dies := s.field.dies.put g d } }
def State.chan (s : State) (c : Nat) : DieCh := s.field.chans.getD c {}
def State.setChan (s : State) (c : Nat) (d : DieCh) : State :=
  { s with field := { s.field with chans := s.field.chans.put c d } }
def State.coupler (s : State) (c : Nat) : Coupler := s.field.couplers.getD c {}
def State.setCoupler (s : State) (c : Nat) (d : Coupler) : State :=
  { s with field := { s.field with couplers := s.field.couplers.put c d } }
def State.cell (s : State) (sd : Side) (n : Nat) : CellSide := s.cells.sides.getD (2 * n + Side.ix sd) {}
def State.setCell (s : State) (sd : Side) (n : Nat) (v : CellSide) : State :=
  { s with cells := { s.cells with sides := s.cells.sides.put (2 * n + Side.ix sd) v } }
def State.line (s : State) (n : Nat) : CellLine := s.cells.lines.getD n {}
def State.setLine (s : State) (n : Nat) (v : CellLine) : State :=
  { s with cells := { s.cells with lines := s.cells.lines.put n v } }
def State.pair (s : State) (p : Nat) : PairSt := s.pairs.pairs.getD p {}
def State.setPair (s : State) (p : Nat) (v : PairSt) : State :=
  { s with pairs := { s.pairs with pairs := s.pairs.pairs.put p v } }
def State.conn (s : State) (sd : Side) (n : Nat) : Conn := s.weir.conns.getD (2 * n + Side.ix sd) {}
def State.setConn (s : State) (sd : Side) (n : Nat) (v : Conn) : State :=
  { s with weir := { s.weir with conns := s.weir.conns.put (2 * n + Side.ix sd) v } }
def State.port (s : State) (k : Nat) : Port := s.weir.ports.getD k {}
def State.setPort (s : State) (k : Nat) (v : Port) : State :=
  { s with weir := { s.weir with ports := s.weir.ports.put k v } }
def State.window (s : State) (sd : Side) (k : Nat) : List Descriptor := s.weir.windows.getD (4 * Side.ix sd + k) []
def State.setWindow (s : State) (sd : Side) (k : Nat) (v : List Descriptor) : State :=
  { s with weir := { s.weir with windows := s.weir.windows.put (4 * Side.ix sd + k) v } }
def State.words (s : State) (b : Nat) : FaultWords := s.faults.words.getD b {}
def State.setWords (s : State) (b : Nat) (w : FaultWords) : State :=
  { s with faults := { s.faults with words := s.faults.words.put b w } }
def State.shadow (s : State) (w : Nat) : ShadowWord := s.ros.shadow.getD w {}
def State.unit (s : State) (u : Nat) : UnitRec := s.rif.units.getD u {}
def State.setUnit (s : State) (u : Nat) (r : UnitRec) : State :=
  { s with rif := { s.rif with units := s.rif.units.put u r } }
def State.cov (s : State) (c : Nat) : Coverage := s.rif.coverage.getD c {}
def State.setCov (s : State) (c : Nat) (v : Coverage) : State :=
  { s with rif := { s.rif with coverage := s.rif.coverage.put c v } }

/-- A coupler goes to a step of Table 3.17 with its next frame; both channels send OFF tokens until they have read the
registers back again (R82). -/
def State.restartCoupler (s : State) (c k : Nat) : State :=
  let off := fun (v : View) => { v with rb0 := false, rb1 := false, ready := false, taken := false }
  let s := s.setCoupler c { s.coupler c with goto := some k }
  (s.setView .a c (off (s.view .a c))).setView .b c (off (s.view .b c))

/-- The unit number of SELFTEST_REPORT and of Table 13.17: kind in bits 15:12, index in bits 11:0. -/
def unitNo (kind index : Nat) : Nat := kind * 4096 + index

/-- Draw one free value: the counter the opaque constant is applied to, and the state with it advanced (log 4). -/
def State.draw (s : State) : Nat × State := (s.free, { s with free := s.free + 1 })

/-! ### Time -/

/-- Time in µs since reset at the model's resolution: ticks of 50 µs and coupler slots of 10 µs (R27, R71). -/
def State.nowUs (s : State) : Nat := 50 * s.time.tick + 10 * (s.time.slotInTick - 1)

/-- Ticks of one second and of one millisecond. -/
def tSEC : Nat := 20000
def tMS : Nat := 20

/-! ### Domains (Table 17.2) -/

def State.on (s : State) (d : Nat) : Bool := decide (d ∈ s.pwr.domains)

/-- The domain of a pair. -/
def pairDomain (p : Nat) : Nat := p

/-- Switch a domain on; one that has been shed comes back with a reset only (R369). -/
def State.domainOn (s : State) (d : Nat) : State :=
  { s with pwr := { s.pwr with
      domains := if s.pwr.shed && decide (1 ≤ d) && decide (d ≤ 10) then s.pwr.domains else setMem s.pwr.domains d } }
def State.domainOff (s : State) (d : Nat) : State :=
  { s with pwr := { s.pwr with domains := setDel s.pwr.domains d } }

/-- The clocks derived from the VCO run (R376). -/
def State.clocked (s : State) : Bool := s.clk.pllLocked && !s.clk.gated

/-- A pair works, or STB in its place: powered, clocked and out of reset. -/
def State.pairRuns (s : State) (p : Nat) : Bool :=
  s.clocked &&
    if (s.pair p).retired then s.pairs.stbFor == some p && s.on 6 && !(s.pair bSTB).inReset && !(s.pair bSTB).retired
    else s.on (pairDomain p) && !(s.pair p).inReset

/-- A pair writes a checkpoint into the older of its two slots, whose closing marker is still to come (R186); `queue` are the cells
with an evaluation to complete. -/
def State.checkpoint (s : State) (p : Nat) (queue : List Nat) : State :=
  let k := s.pair p
  s.setPair p (k.setSlot (1 - k.ckptNewer) { tick := some s.time.tick, queue := queue, agr := k.agr })

/-- A pair has evaluated for so many µs (R264). -/
def State.addLoad (s : State) (p used : Nat) : State := s.setPair p { s.pair p with busyUs := (s.pair p).busyUs + used }

/-- The load over the second that ends, in 0.01 % of the rate (R264). -/
def PairSt.endSecond (k : PairSt) : PairSt := { k with load := min 0xFFFF (k.busyUs / 100), busyUs := 0 }

/-- The closing marker of the slot under way: the slot is now the newer valid one (R186). A pair in reset writes none (R202). -/
def PairSt.closeSlot (k : PairSt) (tick : Nat) : PairSt :=
  let i := 1 - k.ckptNewer
  if k.inReset || (k.slot i).closed || (k.slot i).tick != some tick then k
  else { k.setSlot i { k.slot i with closed := true } with ckptNewer := i }

/-- The closing markers of every pair, before the first coupler slot that follows the checkpoint. -/
def State.closeSlots (s : State) : State :=
  [1, 2, 3, 4, 5, 6].foldl (fun s p => s.setPair p ((s.pair p).closeSlot s.time.tick)) s

/-- The end of a tick's service run: the older of the pair's two records becomes the newer one (Table 8.3). -/
def PairSt.swapRecord (k : PairSt) (r : TickRecord) : PairSt :=
  if k.inReset then k
  else if k.recordNewer = 0 then { k with record1 := r, recordNewer := 1 } else { k with record0 := r, recordNewer := 0 }

/-- The evaluator roles of a channel. -/
def rolesOf : Side → List Nat
  | .a => [bSA0, bSA1]
  | .b => [bBR0, bBR1]

/-- The channel and the evaluator number of an evaluator role. -/
def evaluatorSide (role : Nat) : Option (Side × Nat) :=
  if role = bSA0 then some (.a, 0) else if role = bSA1 then some (.a, 1)
  else if role = bBR0 then some (.b, 0) else if role = bBR1 then some (.b, 1) else none

/-- The hardware that has a role: STB once it stands in. -/
def State.hardware (s : State) (role : Nat) : Nat := if s.pairs.stbFor = some role then bSTB else role

/-- The role that a pair's hardware has: that of the retired pair for STB standing in. -/
def State.roleOf (s : State) (p : Nat) : Nat := if p = bSTB then s.pairs.stbFor.getD bSTB else p

/-- What the tick services of an evaluator role hold of a field channel: the channel's view, unless a disagreement has made a frame
absent for that pair. -/
def State.pairView (s : State) (sd : Side) (role c : Nat) : PairView :=
  (s.field.pairViews.get? (8 * c + role)).getD (s.view sd c).pairPart

/-- Write what a role holds of a field channel; once it equals the channel's view again nothing is kept apart. -/
def State.setPairView (s : State) (sd : Side) (role c : Nat) (p : PairView) : State :=
  let t := s.field.pairViews
  { s with field := { s.field with
    pairViews := if p = (s.view sd c).pairPart then t.del (8 * c + role) else t.put (8 * c + role) p } }

/-- What the tick services of an evaluator role hold of a field group: the channel's readings, unless a disagreement has made a frame
absent for that pair. -/
def State.pairGroup (s : State) (sd : Side) (role g : Nat) : PairGroup :=
  (s.field.pairGroups.get? (8 * g + role)).getD (s.gview sd g).pairPart

/-- Write what a role holds of a field group; once it equals the channel's readings again nothing is kept apart. -/
def State.setPairGroup (s : State) (sd : Side) (role g : Nat) (p : PairGroup) : State :=
  let t := s.field.pairGroups
  { s with field := { s.field with
    pairGroups := if p = (s.gview sd g).pairPart then t.del (8 * g + role) else t.put (8 * g + role) p } }

/-- The supervisor works. -/
def State.supRuns (s : State) : Bool := s.pairRuns bSUP

/-! ### The configuration in force -/

/-- The version of a cell that a channel runs: that of the configuration being committed once its record has taken effect there (R25,
R276). -/
def CellLine.version (ln : CellLine) : Side → Nat
  | .a => ln.ver
  | .b => ln.verB

/-- The configuration that a version number stands for: the running one, the one being committed, or one of an earlier live commit that the
latest has joined (R20). -/
def State.versionCont (s : State) (v : Nat) : Option RunCfg :=
  match s.cfg.live with
  | some l => if v = 1 then some l.next else if v = 0 then s.cfg.running else l.olds[v - 2]?
  | none => s.cfg.running

/-- The container and placements a cell runs from: the running configuration, or the one being committed once the cell's
record has taken effect (R276). -/
def State.cellCfg (s : State) (n : Nat) : Option RunCfg := s.versionCont (s.line n).ver

/-- The container and placements that one channel runs a cell from. -/
def State.sideCfg (s : State) (sd : Side) (n : Nat) : Option RunCfg := s.versionCont ((s.line n).version sd)

/-- The container of the sections and flags that belong to no single cell (R275). -/
def State.devCfg (s : State) : Option RunCfg :=
  match s.cfg.live with
  | some l => if l.ticked then some l.next else l.prior.or s.cfg.running
  | none => s.cfg.running

/-- The running container, and the one being committed. -/
def State.runCont (s : State) : Container :=
  match s.cfg.running with
  | some r => r.cont
  | none => default
def State.nextCont (s : State) : Container :=
  match s.cfg.live with
  | some l => l.next.cont
  | none => default

def State.devCont (s : State) : Container :=
  match s.devCfg with
  | some r => r.cont
  | none => default

def State.cellCont (s : State) (n : Nat) : Container :=
  match s.cellCfg n with
  | some r => r.cont
  | none => default

/-- The container that one channel runs a cell from. -/
def State.sideCont (s : State) (sd : Side) (n : Nat) : Container :=
  match s.sideCfg sd n with
  | some r => r.cont
  | none => default

/-- The cell is in use in the configuration it runs from. -/
def State.inUse (s : State) (n : Nat) : Bool := s.dev.loaded && ((s.cellCont n).cell n).inUse

/-- Every cell in use. -/
def State.cellsInUse (s : State) : List Nat :=
  if s.dev.loaded then rangeFilter 256 s.inUse else []

/-- What the earlier commits that a live one has joined have put in force for a channel that it changes again (R20). -/
def State.joinedChan (s : State) (c : Nat) : Option (ChanEntry × Option (Nat × Nat)) := s.cfg.live.bind (fun l => l.chanOld.get? c)
def State.joinedConn (s : State) (n : Nat) : Option (ConnEntry × PartnerEntry) := s.cfg.live.bind (fun l => l.connOld.get? n)

/-- The binding entry of a channel up to the boundary of a live commit. -/
def State.chanBefore (s : State) (c : Nat) : ChanEntry := ((s.joinedChan c).map (·.1)).getD (s.runCont.chan c)

/-- The boundary of a live commit for a channel, or for a connection, has passed. -/
def State.chanPassed (s : State) (c : Nat) : Bool :=
  s.cfg.live.any (fun l => l.chanAt.any (fun e => e.1 == c && decide (e.2 ≤ s.time.tick)))
def State.connPassed (s : State) (n : Nat) : Bool :=
  s.cfg.live.any (fun l => l.connAt.any (fun e => e.1 == n && decide (e.2 ≤ s.time.tick)))

/-- The binding entry of a channel in force: that of the new container from its boundary on (R276). -/
def State.chanEntry (s : State) (c : Nat) : ChanEntry := if s.chanPassed c then s.nextCont.chan c else s.chanBefore c

/-- The entry of a connection in force (R228). -/
def State.connEntry (s : State) (n : Nat) : ConnEntry :=
  if s.connPassed n then s.nextCont.conn n else ((s.joinedConn n).map (·.1)).getD (s.runCont.conn n)

/-- The partner entry of a connection in force. -/
def State.partnerOf (s : State) (n : Nat) : PartnerEntry :=
  if s.connPassed n then s.nextCont.partner (s.nextCont.conn n).partner
  else ((s.joinedConn n).map (·.2)).getD (s.runCont.partner (s.runCont.conn n).partner)

/-- The connections in use, ascending. -/
def State.connsInUse (s : State) : List Nat :=
  if s.dev.loaded then
    rangeFilter (max s.runCont.conns.length s.nextCont.conns.length) (fun n => (s.connEntry n).inUse)
  else []

/-! ### Dependencies and scope (R274, R295) -/

/-- The references a node reads. -/
def NodeRec.refs (n : NodeRec) : List Nat := n.inputs.map (fun f => refAt n.body f.1)

/-- The channels whose local field bits a cell reads, those it binds, and the sources of these (R274). -/
def Container.depChans (c : Container) (cell : Nat) : List Nat :=
  let ns := c.nodesOf cell
  let reset := if (c.cell cell).resetMode then [(c.cell cell).resetRef] else []
  let read := ((ns.map NodeRec.refs).flatten ++ reset).filterMap (fun r =>
    if refKind r = 1 then (match sigRange (refIndex r) with
      | .field ch _ => some ch
      | _ => none) else none)
  let bound := (ns.map (boundChannels c)).flatten
  let own := (read ++ bound).eraseDups
  let sources := own.filterMap (fun ch =>
    if (c.chan ch).isInput ∧ (c.chan ch).source ≠ 0 then some (16 * (ch / 16) + ((c.chan ch).source - 1)) else none)
  (own ++ sources).eraseDups

/-- The channels whose CMD bits a cell binds. -/
def Container.outChans (c : Container) (cell : Nat) : List Nat := ((c.nodesOf cell).map (boundChannels c)).flatten

/-- The connections a cell references: REMOTE_IN bits read, REMOTE_OUT bits written, CONN_OK of a RIN node. -/
def Container.depConns (c : Container) (cell : Nat) : List Nat :=
  let ns := c.nodesOf cell
  let reset := if (c.cell cell).resetMode then [(c.cell cell).resetRef] else []
  let read := ((ns.map NodeRec.refs).flatten ++ reset).filterMap (fun r =>
    if refKind r = 1 then (match sigRange (refIndex r) with
      | .remoteIn n _ => some n
      | .remoteOut n _ => some n
      | _ => none) else none)
  let written := ((ns.map NodeRec.remoteBits).flatten).map (· / 64)
  let ok := ns.filterMap (fun m => if m.type = some .remoteIn then some (leAt m.body 0 2) else none)
  (read ++ written ++ ok).eraseDups

/-- What the instance of a source is (Tables 13.9 to 13.19). -/
inductive InstKind where
  | channel (c : Nat)
  | group (g : Nat)
  | groupOut (g : Nat)
  | conn (n : Nat)
  | port (k : Nat)
  | cell (n : Nat)
  | all
deriving DecidableEq, Repr

/-- The kind of a source's instance, with the unit instances of Table 13.17 resolved. -/
def instKind (b i inst : Nat) : InstKind :=
  if 0x10 ≤ b ∧ b ≤ 0x13 then
    if i = 10 then .groupOut inst else if 15 ≤ i ∧ i ≤ 18 then .group inst else .channel inst
  else if 0x20 ≤ b then .cell inst
  else if b ≤ 6 ∧ (i = 0 ∨ i = 3) then (if inst < 256 then .cell inst else .all)
  else if b = 7 ∧ (i ∈ [1, 2, 3, 5, 6, 7, 8, 10, 18, 19]) then (if inst < 4096 then .conn inst else .all)
  else if (b = 9 ∨ b = 0x0A) ∧ i = 2 then .cell inst
  else if b = 0x0F then
    (match inst / 4096 with
     | 0 => .channel (inst % 4096)
     | 1 => .group (inst % 4096)
     | 2 => .port (inst % 4096)
     | _ => .all)
  else .all

/-- The cells in the scope of an instance (Table 13.3). -/
def State.scope (s : State) (b i inst : Nat) : List Nat :=
  let used := s.cellsInUse
  match instKind b i inst with
  | .channel c => used.filter (fun n => decide (c ∈ (s.cellCont n).depChans n))
  | .group g => used.filter (fun n => ((s.cellCont n).depChans n).any (fun c => c / 16 == g))
  | .groupOut g => used.filter (fun n => ((s.cellCont n).outChans n).any (fun c => c / 16 == g))
  | .conn k => used.filter (fun n => decide (k ∈ (s.cellCont n).depConns n))
  | .port k => used.filter (fun n => ((s.cellCont n).depConns n).any (fun j => (s.connEntry j).port == k))
  | .cell n => used.filter (· == n)
  | .all => used

/-! ### Severity (R293, R297, R299) -/

/-- The policy entry that applies to an instance: the single-instance entry, else the general one. -/
def policyFor (ps : List PolicyEntry) (b i inst : Nat) : Option PolicyEntry :=
  (ps.find? (fun p => p.block == b && p.index == i && p.inst == inst && p.inst != 0xFFFF)).or
    (ps.find? (fun p => p.block == b && p.index == i && p.inst == 0xFFFF))

/-- Effective severity and reactions of an instance. -/
def State.effective (s : State) (b i inst : Nat) : Nat × Nat :=
  let src := (sourceOf b i).getD default
  match (if s.dev.loaded then policyFor s.devCont.policy b i inst else none) with
  | some p => (max src.floor p.sev, src.react ||| p.react)
  | none => (src.floor, src.react)

/-- The instance is live. -/
def State.isLive (s : State) (b i inst : Nat) : Bool :=
  s.faults.live.any (fun l => l.block == b && l.index == i && l.inst == inst)

/-- The effective severity of a live instance under the policy now in force (R293). `LiveInst.sev` is the highest that it has been taken
with, and its effect on the safe-request lines stays while it is live (R275). -/
def State.sevNow (s : State) (l : LiveInst) : Nat := (s.effective l.block l.index l.inst).1

/-- Some source of at least severity `sev` shows LIVE = 1. -/
def State.liveAtLeast (s : State) (sev : Nat) : Bool := s.faults.live.any (fun l => decide (sev ≤ s.sevNow l))

/-- The LIVE word of a block (R291): computed from the live instances. -/
def State.liveWord (s : State) (b : Nat) : BitVec 128 :=
  s.faults.live.foldl (fun w l => if l.block = b then w ||| (1#128 <<< l.index) else w) 0

/-- A coupler under way in the start sequence has not reached step 6 of Table 3.17, and its die answers: a channel has heard it in the
last slot (Table 13.5). -/
def State.couplerPending (s : State) (c : Nat) : Bool :=
  let k := s.coupler c
  k.step != 0 && (k.goto.isSome || decide (k.step < 6)) && ((s.view .a c).frameAge == 0 || (s.view .b c).frameAge == 0)

/-- A block reset of BRST still runs (Table 13.5): a field group until every coupler that answers has reached step 6 of
Table 3.17, whatever lockout its register 0x2 then shows, at most 200 µs; WEIR at most 100 µs; the other blocks are reset at once or by
their restore. -/
def State.brstRunning (s : State) (b : Nat) : Bool :=
  match s.faults.brst.get? b with
  | none => false
  | some t =>
    if 0x10 ≤ b ∧ b ≤ 0x13 then
      decide (s.time.tick < t + 4) && (List.range 16).any (fun i => s.couplerPending (16 * (b - 0x10) + i))
    else decide (s.time.tick < t + 2)

/-- The safe-request line of a cell is active now (R293): the device-safe line, a live S2 instance with the cell in
scope, a live instance of S3 or S4, or the reset of a field group the cell depends on (Table 13.5, log 12). -/
def State.lineActive (s : State) (n : Nat) : Bool :=
  s.dev.safeLine ||
    (List.range 4).any (fun g => s.brstRunning (0x10 + g) && decide (n ∈ s.scope (0x10 + g) 16 g)) ||
    s.faults.live.any (fun l => l.sev == 2 && decide (n ∈ s.scope l.block l.index l.inst)) ||
    s.faults.live.any (fun l => decide (3 ≤ l.sev))

/-- Remember that the lines of these cells have been active since their last boundary (R129). -/
def State.touchLines (s : State) (ns : List Nat) : State :=
  ns.foldl (fun s n => s.setLine n { s.line n with lineSeen := true }) s

/-! ### Bits -/

def setBit (w : BitVec 128) (i : Nat) : BitVec 128 := w ||| (1#128 <<< i)

/-- The 32-bit words of a block's fault word, lowest first (R290). -/
def faultWordBytes (b : Nat) (w : BitVec 128) : List Byte :=
  (List.range (highestIndex b / 32 + 1)).flatMap (fun k => leBytes 4 ((w.toNat >>> (32 * k)) % 2 ^ 32))

/-- Saturating counters. -/
def sat16 (x : Nat) : Nat := min x 0xFFFF

end Sys2Proof.Machine
end

