-- ==== Sys2Proof/Machine/HostOps.lean ====
section
/-! DEFINITION. Mailbox messages and the response queue (R251 to R255), and the event bits of Table 11.2. -/

namespace Sys2Proof.Machine

/-! ### Status codes (Table 11.4) -/

def stOK : Nat := 0x0000
def stBUSY_RETRY : Nat := 0x0001
def stNOT_READY : Nat := 0x0002
def stWRONG_STATE : Nat := 0x0003
def stBAD_FORMAT : Nat := 0x0004
def stBAD_SESSION : Nat := 0x0005
def stUNKNOWN_CMD : Nat := 0x0006
def stNO_COMMON_VERSION : Nat := 0x0007
def stNOT_AUTHORISED : Nat := 0x0008
def stNOT_STAGED : Nat := 0x0009
def stUNIT_IN_USE : Nat := 0x000A
def stFW_BAD : Nat := 0x0010
def stFW_ROLLBACK : Nat := 0x0011
def stFW_STEPPING : Nat := 0x0012
def stFW_NEEDS_SAFE : Nat := 0x0013
def stFW_VERSION : Nat := 0x0014
def stFUSE_CONDITIONS : Nat := 0x0020
def stFUSE_VERIFY_FAIL : Nat := 0x0021
def stFUSE_CLOSED : Nat := 0x0022
def stFUSE_NO_SEAL : Nat := 0x0023

/-- A message: header of Table 11.3, payload, and the CRC over all of it with the CRC field taken as 0. -/
def message (tag version cmd status session : Nat) (payload : List Byte) : List Byte :=
  let len := 16 + payload.length
  let head := leBytes 2 len ++ leBytes 1 tag ++ leBytes 1 version ++ leBytes 2 cmd ++ leBytes 2 status ++ leBytes 4 session
  head ++ leBytes 4 (crc32Ether (head ++ zeros 4 ++ payload)) ++ payload

/-- The response of a request, in the session that the device has. -/
def Request.response (r : Request) (session status : Nat) (payload : List Byte) : Response :=
  ⟨r.tag, message r.tag r.version r.cmd status session payload, r.session⟩

/-- A response joins the queue (R254). -/
def State.respond (s : State) (r : Request) (status : Nat) (payload : List Byte) : State :=
  { s with host := { s.host with rsp := s.host.rsp ++ [r.response s.host.session status payload] } }

/-- A request is answered only later (R254). -/
def State.wait (s : State) (r : Request) (on : WaitFor) : State :=
  { s with host := { s.host with waiting := s.host.waiting ++ [⟨r, on⟩] } }

/-- Answer every request that waits on one thing. -/
def State.answer (s : State) (on : WaitFor) (status : Nat) (payload : List Byte) : State :=
  let mine := s.host.waiting.filter (fun w => w.on == on)
  let s := { s with host := { s.host with waiting := s.host.waiting.filter (fun w => !(w.on == on)) } }
  mine.foldl (fun s w => s.respond w.req status payload) s

/-- Payload of a refusal 0x0041 to 0x004E (R252). -/
def CfgRefusal.payload (r : CfgRefusal) : List Byte :=
  leBytes 1 r.kind ++ zeros 3 ++ leBytes 4 r.index ++ leBytes 1 r.kind2 ++ zeros 3 ++ leBytes 4 r.index2

/-- Payload of RUN, SAFE and RESTART (Table 11.5). -/
def State.statePayload (s : State) : List Byte :=
  leBytes 1 s.dev.st.code ++ leBytes 1 s.dev.safeReason ++ zeros 2

/-- Transport reset of HOST (Table 13.5; also R265 and R266): the lands return to SPI, every tag is freed, the session ends. -/
def State.transportReset (s : State) : State :=
  { s with host := { s.host with iface := .spi0, queue := [], waiting := [], rsp := [], session := 0, version := 0 } }

/-- The minimal ROM service of LATCHED, and of MAINTENANCE (ROM), answers the mailbox (R48, R47). -/
def State.romService (s : State) : State :=
  { s with host := { s.host with ready := true, rom := true, evReady := true } }

/-- The transport status words (Table 11.2). -/
def State.transportStatus (s : State) : List Byte :=
  let h := s.host
  let w0 := b2n h.ready * 2 ^ 31 + b2n h.rom * 2 ^ 30 + (32 - h.held.length) * 2 ^ 24 + h.rsp.length * 2 ^ 18 +
    h.lastReject * 2 ^ 12 + h.rejectCount * 2 ^ 8 + b2n h.evHandover * 16 + b2n h.evHsTimeout * 8 + b2n h.evState * 4 +
    b2n h.evFault * 2 + b2n h.evReady
  let (tag, len) := match h.rsp with
    | [] => (0xFF, 0)
    | r :: _ => (r.tag, r.bytes.length)
  leBytes 4 w0 ++ leBytes 4 (tag * 2 ^ 24 + len)

/-- IRQ_N is driven low (R250), or by the boundary scan while EXTEST holds the lands (R391). -/
def State.irqLow (s : State) : Bool :=
  if s.jtag.driving then !s.jtag.preload.getLsbD 19
  else s.on 8 && (!s.host.rsp.isEmpty || s.host.evHandover || s.host.evHsTimeout || s.host.evState || s.host.evFault ||
    s.host.evReady)

/-- The fault status of a block is lost with the power of its domain (R368). -/
def FaultSt.without (f : FaultSt) (b : Nat) : FaultSt :=
  { f with words := f.words.del b, live := f.live.filter (fun l => l.block != b), holds := f.holds.filter (fun h => h.block != b) }

/-- MASK_IRQ of a block as MRAM keeps it (R270). -/
def State.loadMask (s : State) (b : Nat) : State :=
  match s.params.masks.get? b with
  | some m => s.setWords b { s.words b with mask := m }
  | none => s

end Sys2Proof.Machine
end

