-- ==== Sys2Proof/Machine/Recorder.lean ====
section
/-! DEFINITION. The Oxbow operations that every occurrence, sample and flush shares (14_oxbow): the open records, the close
of a record, and the triggers of a flush. -/

namespace Sys2Proof.Machine

/-- Fault code of a source (R308). -/
def faultCode (b i : Nat) : Nat := b * 256 + i

/-- The number of codes in use (R308): each keeps one entry of the pending table back (R316, log 13). -/
def codesInUse : Nat := 1969

/-- Room of the pending table and of the dirty queue (Table 14.7). -/
def oxbRoom : Nat := 8192

/-- The interval in force for a code (R315). -/
def State.oxbInterval (s : State) (code : Nat) : Nat :=
  if isMarker code then 1 else s.params.oxbInterval.getD code 60

/-- Bin of a LIVE duration in µs (Table 14.4). -/
def durationBin (us : Nat) : Nat :=
  if us < 100 then 0 else if us < 1000 then 1 else if us < 10000 then 2 else if us < 100000 then 3
  else if us < 1000000 then 4 else if us < 10000000 then 5 else if us < 100000000 then 6
  else if us < 1000000000 then 7 else if us < 10000000000 then 8 else 9

/-- Add to one bin with saturation (R309, R310 flag SATURATED). -/
def OxbRec.bin (r : OxbRec) (k n : Nat) : OxbRec :=
  let v := r.bins.getD k 0 + n
  { r with bins := r.bins.set k (min v 0xFFFF), flags := if v < 0xFFFF then r.flags else r.flags ||| fgSATURATED }

/-- Count `n` occurrences or samples with a value. -/
def OxbRec.addCount (r : OxbRec) (n : Nat) (lo hi : Int) : OxbRec :=
  let v := r.count + n
  { r with count := min v 0xFFFFFFFF,
           lo := if r.count = 0 then lo else min r.lo lo, hi := if r.count = 0 then hi else max r.hi hi,
           flags := if v < 0xFFFFFFFF then r.flags else r.flags ||| fgSATURATED }

/-- Count one more occurrence folded in after the first. -/
def OxbRec.addSupp (r : OxbRec) : OxbRec :=
  let v := r.supp + 1
  { r with supp := min v 0xFFFF, flags := if v < 0xFFFF then r.flags else r.flags ||| fgSATURATED }

/-- The open record of a pair. -/
def State.openRec (s : State) (code inst : Nat) : Option OpenRec :=
  s.oxb.openRecs.find? (fun o => o.rcd.code == code && o.rcd.inst == inst)

def State.setOpen (s : State) (o : OpenRec) : State :=
  let rest := s.oxb.openRecs
  let same := fun (x : OpenRec) => x.rcd.code == o.rcd.code && x.rcd.inst == o.rcd.inst
  { s with oxb := { s.oxb with openRecs := if rest.any same then rest.map (fun x => if same x then o else x)
                                           else rest ++ [o] } }

/-- The table is full for an ordinary record: the entries kept back for overflow records are not taken (R316). -/
def State.pendingFull (s : State) : Bool :=
  decide (oxbRoom - codesInUse ≤ (s.oxb.openRecs.filter (fun o => o.rcd.flags / fgOVERFLOW % 2 == 0)).length)

/-- A pair of code and instance. -/
def OpenRec.is (o : OpenRec) (code inst : Nat) : Bool := o.rcd.code == code && o.rcd.inst == inst

/-- The bytes of the dirty queue that DIRTY counts (R319). -/
def State.dirtyBytes (s : State) : Nat := 64 * (s.oxb.dirty.length + s.oxb.inFlight.length)

/-- A trigger of a flush (R318) that waits for FLUSH_START; during a flush of the same or a stronger kind it starts one more
after it. -/
def State.flushQueue (s : State) (k : FlushKind) : State :=
  let old := s.oxb.trigger
  let stronger := match old with
    | none => k
    | some o => if o.rank < k.rank then k else o
  { s with oxb := { s.oxb with trigger := some stronger } }

/-- A record's close waits for a slot of the queue; it stays open (R319). -/
def State.waitForSlot (s : State) (code inst fl : Nat) : State :=
  if s.oxb.closing.any (fun w => w.code == code && w.inst == inst) then s
  else { s with oxb := { s.oxb with closing := s.oxb.closing ++ [⟨code, inst, fl⟩] } }

/-- Close one open record (R314, R319): its live occurrences go to bin 10 and are binned no more; it joins the dirty queue with
the flags given. When the queue is full, it stays open until a slot frees; at 384 KB it asks for a routine flush (Table 14.8). -/
def State.closeRecord (s : State) (o : OpenRec) (fl : Nat) : State :=
  if oxbRoom ≤ s.oxb.dirty.length then s.waitForSlot o.rcd.code o.rcd.inst fl
  else
    let code := o.rcd.code
    let mine := fun (l : LiveInst) => faultCode l.block l.index == code && l.inRec == some o.rcd.inst
    let n := (s.faults.live.filter mine).length
    let r := if n = 0 then o.rcd else o.rcd.bin 10 n
    let done := { r with stop := s.pwr.opSeconds, cycles := s.pwr.powerCycles, flags := r.flags ||| fl }
    let key := code * 65536 + o.rcd.inst
    let s : State := { s with
      oxb := { s.oxb with
        openRecs := s.oxb.openRecs.filter (fun x => !x.is code o.rcd.inst),
        closing := s.oxb.closing.filter (fun w => !(w.code == code && w.inst == o.rcd.inst)),
        dirty := s.oxb.dirty ++ [done],
        nextWindow := if isMeasurement code then s.oxb.nextWindow.put key s.pwr.opSeconds else s.oxb.nextWindow },
      faults := { s.faults with live := s.faults.live.map (fun l => if mine l then { l with inRec := none } else l) } }
    let n := s.oxb.dirty.length + s.oxb.inFlight.length
    if n = 6144 ∨ (6144 ≤ n ∧ s.oxb.running = none) then s.flushQueue .routine else s

/-- Close every open record (a full flush, R318). -/
def State.closeAll (s : State) (fl : Nat) : State := s.oxb.openRecs.foldl (fun s o => s.closeRecord o fl) s

/-- Slots have become free: the records that wait for one close, the oldest wait first (R319). -/
def State.closeWaiting (s : State) : State :=
  s.oxb.closing.foldl (fun s w =>
    match s.openRec w.code w.inst with
    | none => s
    | some o => s.closeRecord o w.flags) s

/-- A record whose window has reached its interval closes before anything else enters it (R330). -/
def State.closeDue (s : State) (code inst : Nat) : State :=
  match s.openRec code inst with
  | none => s
  | some o => if o.rcd.start + o.interval ≤ s.pwr.opSeconds then s.closeRecord o 0 else s

/-- The record that an entry of a pair goes to, and whether it is a new one (R314, R316): the pair's open record, a new one that starts
at `start`, or the overflow record of its code. -/
def State.recordFor (s : State) (code inst start : Nat) : OpenRec × Bool :=
  let fresh := fun (i fl st : Nat) =>
    ({ rcd := { code := code, inst := i, flags := fl, start := st }, interval := s.oxbInterval code } : OpenRec)
  match s.openRec code inst with
  | some o => (o, false)
  | none =>
    if s.pendingFull then
      match s.openRec code 0xFFFF with
      | some o => ({ o with rcd := { o.rcd with flags := o.rcd.flags ||| fgOVERFLOW } }, false)
      | none => (fresh 0xFFFF fgOVERFLOW s.pwr.opSeconds, true)
    else (fresh inst 0 start, true)

/-- The records that an entry of a pair could go to, closed where they are due. -/
def State.makeWay (s : State) (code inst : Nat) : State :=
  let s := s.closeDue code inst
  if (s.openRec code inst).isNone && s.pendingFull then s.closeDue code 0xFFFF else s

/-- Count one occurrence of a source in its record (R314, R316). The second component is the instance of the record it went to. An
injected occurrence goes to bin 11 (R312). -/
def State.oxbCount (s0 : State) (code inst sev : Nat) (injected : Bool) : State × Nat :=
  let s := s0.makeWay code inst
  let (o, first) := s.recordFor code inst s.pwr.opSeconds
  let r := o.rcd.addCount 1 sev sev
  let r := if first then r else r.addSupp
  let r := if injected then { (r.bin 11 1) with flags := (r.bin 11 1).flags ||| fgINJECTED } else r
  (s.setOpen { o with rcd := r }, r.inst)

/-- Bin an occurrence whose LIVE has fallen (R312), when its record is still the one it was counted in. -/
def State.oxbBin (s : State) (l : LiveInst) : State :=
  match l.inRec with
  | none => s
  | some ri =>
    match s.openRec (faultCode l.block l.index) ri with
    | none => s
    | some o => s.setOpen { o with rcd := o.rcd.bin (durationBin (s.nowUs - l.rise)) 1 }

/-- A trigger of a flush (R318): it waits for FLUSH_START, or turns a weaker flush under way into one of its own kind, which
closes the open records (R320). A TL word that is still due is tried again (R328). -/
def State.flushTrigger (s0 : State) (k : FlushKind) : State :=
  let s : State := { s0 with oxb := { s0.oxb with tlAsk := s0.oxb.tlAsk || s0.oxb.tlPending } }
  match s.oxb.running with
  | none => s.flushQueue k
  | some r =>
    if r.rank < k.rank then
      let t := s.closeAll fgPARTIAL
      { t with oxb := { t.oxb with running := some k } }
    else s.flushQueue k

/-- The closed record of a marker (R313, R314): it opens and closes in the same second. -/
def State.markerRecord (s : State) (code inst : Nat) (lo hi : Int) : OxbRec :=
  { code := code, inst := inst, start := s.pwr.opSeconds, stop := s.pwr.opSeconds, cycles := s.pwr.powerCycles, count := 1, lo := lo,
    hi := hi }

/-- A marker record opens and closes in the same second (R313, R314). In a full table it goes to the overflow record of its code. -/
def State.marker (s : State) (code inst : Nat) (lo hi : Int) : State :=
  let (o, _) := s.recordFor code inst s.pwr.opSeconds
  let o := { o with rcd := o.rcd.addCount 1 lo hi }
  (s.setOpen o).closeRecord o 0

/-- A closed record that found no room after all goes back to the pending table, as if its close had waited (R319, R329): later
entries of its pair fold into it. -/
def State.reopen (s : State) (r : OxbRec) : State :=
  let (o, first) := s.recordFor r.code r.inst r.start
  let m : OxbRec :=
    if first then { r with inst := o.rcd.inst, flags := r.flags ||| o.rcd.flags }
    else
      let supp := if isMeasurement r.code || isMarker r.code then 0 else min 0xFFFF (r.supp + o.rcd.supp + 1)
      let bins := (List.range 12).map (fun i => min 0xFFFF (r.bins.getD i 0 + o.rcd.bins.getD i 0))
      let sat := if supp = 0xFFFF ∨ bins.any (· == 0xFFFF) then fgSATURATED else 0
      { (r.addCount o.rcd.count o.rcd.lo o.rcd.hi) with
        inst := o.rcd.inst, supp := supp, flags := (r.addCount o.rcd.count o.rcd.lo o.rcd.hi).flags ||| o.rcd.flags ||| sat,
        bins := bins }
  (s.setOpen { o with rcd := m }).waitForSlot r.code m.inst 0

/-- A flush stops short: what it has not written stays in the queue, which holds 8,192 records; the newest beyond that go back to the
pending table. -/
def State.requeue (s : State) (rest : List OxbRec) : State :=
  (rest.drop oxbRoom).foldl State.reopen { s with oxb := { s.oxb with running := none, inFlight := [], dirty := rest.take oxbRoom } }

/-- One sample of a measurement (R313): its record, and the bin edges of Table 14.5 in the unit of the value. -/
def binEdges (code : Nat) : List Int :=
  if code = oxVF_MIN then [1000, 1600, 1800, 1920, 2100, 2300, 2500, 2700, 2900, 3000, 3200]
  else if code = oxFIELD_TEMP ∨ code = oxLOGIC_TEMP then [-40, -20, 0, 20, 40, 60, 80, 100, 115, 125, 140]
  else if code = oxVSUP_MIN then [1650, 1700, 1800, 2000, 2500, 2800, 3000, 3200, 3400, 3500, 3600]
  else if code = oxEVAL_LOAD then [100, 200, 300, 400, 500, 600, 700, 800, 900, 950, 1000]
  else [1, 50, 100, 200, 300, 400, 500, 600, 800, 1000, 1500]

def sampleBin (code : Nat) (v : Int) : Nat := ((binEdges code).filter (fun e => decide (e ≤ v))).length

def State.sample (s0 : State) (code inst : Nat) (v : Int) : State :=
  let s := s0.makeWay code inst
  let (o, _) := s.recordFor code inst (s.oxb.nextWindow.getD (code * 65536 + inst) s.pwr.opSeconds)
  s.setOpen { o with rcd := (o.rcd.addCount 1 v v).bin (sampleBin code v) 1 }

/-- An occurrence of S2 or higher asks for a routine flush, at most one per second (Table 14.8). -/
def State.flushForFault (s : State) : State :=
  match s.oxb.lastStart with
  | some t =>
    if s.time.tick < t + tSEC then
      { s with oxb := { s.oxb with deferredAt := (s.oxb.deferredAt).or (some (t + tSEC)) } }
    else s.flushTrigger .routine
  | none => s.flushTrigger .routine

/-- The bytes of a record (Table 14.2). -/
def signed16Bytes (v : Int) : List Byte := leBytes 2 ((v % 65536).toNat)

def OxbRec.written (r : OxbRec) : List Byte :=
  let body := leBytes 1 r.format ++ leBytes 1 r.flags ++ leBytes 2 r.code ++ leBytes 2 r.inst ++ leBytes 2 r.supp ++
    leBytes 4 r.seq ++ leBytes 4 r.start ++ leBytes 4 r.stop ++ leBytes 4 r.cycles ++ leBytes 4 r.count ++
    signed16Bytes r.lo ++ signed16Bytes r.hi ++ (r.bins.flatMap (fun b => leBytes 2 b)) ++ zeros 4
  body ++ leBytes 4 (crc32Ether body)

/-- The bytes that reading a record returns: those of its place in MRAM where it is damaged (R311). -/
def OxbRec.bytes (r : OxbRec) : List Byte := r.damaged.getD r.written

/-- The CRC check of a record read back (R311). -/
def recordCrcOk (bytes : List Byte) : Bool := bytes.length == 64 && leAt bytes 60 4 == crc32Ether (bytes.take 60)

end Sys2Proof.Machine
end

