-- ==== Sys2Proof/Machine/FaultOps.lean ====
section
/-! DEFINITION. One operation for an occurrence of a fault source and one for the end of a condition (13_faults), with the
device transitions they cause (02: rows 14 and 15 of Table 2.3) and the block reset of Table 13.5. -/

namespace Sys2Proof.Machine

/-! ### Device transitions -/

/-- The device leaves RUN: the cells of a live commit whose boundary has not yet come take their new version there in SAFE_HELD, without a
shadow run (R289). -/
def State.endShadows (s : State) : State :=
  { s with cells := { s.cells with lines := s.cells.lines.map (fun e =>
    (e.1, { e.2 with record := e.2.record.map (fun r => if r.kind = .shadow then { r with kind := .direct } else r) })) } }

/-- The device enters a state (R33). EV_STATE is set while HOST is powered; a RUN or RESTART that waits is answered when the device
arrives in RUN, SAFE or LATCHED, a RESTART also in MAINTENANCE (R50, R254, log 98); leaving VERIFY sets the origin of τ (R207); LATCHED
abandons an admission (R179). -/
def State.enter (s : State) (st : DevState) (reason : Nat) : State :=
  if s.dev.st = st then s
  else
    let old := s.dev.st
    let s := if old = .run then s.endShadows else s
    let s : State := { s with
      dev := { s.dev with st := st, safeReason := if st = .safe then reason else 0,
                          maint := if st = .maintenance then s.dev.maint else .none },
      time := if old = .verify then { s.time with tau0 := some s.time.tick } else s.time,
      host := if s.on 8 then { s.host with evState := true } else s.host }
    let s := if st = .latched ∧ s.cfg.admission.isSome then
        ({ s with cfg := { s.cfg with admission := none } } : State).answer .commit stWRONG_STATE []
      else s
    if st = .run ∨ st = .safe ∨ st = .latched then
      (s.answer .run stOK s.statePayload).answer .restart stOK s.statePayload
    else if st = .maintenance then s.answer .restart stOK s.statePayload
    else s

/-- The states of row 14. -/
def DevState.latches : DevState → Bool
  | .boot => true | .maintenance => true | .configure => true | .verify => true | .run => true | .safe => true
  | _ => false

/-- An S4 occurrence (R48, row 14): PD0 sets the latch, Oxbow flushes, the device enters LATCHED. In RESET the device holds
instead (R38), and FACTORY_TEST is left only by reset (R49). -/
def State.latchNow (s : State) : State :=
  if s.dev.st.latches then
    ({ s with pwr := { s.pwr with latch := true } }.flushTrigger .full).enter .latched 0
  else s

/-- An S3 occurrence (R293, R294, row 15): the device-safe line, which only a RESTART ends, and SAFE from VERIFY or RUN. -/
def State.safeNow (s : State) (reason : Nat) : State :=
  let s : State := { s with dev := { s.dev with safeLine := true, s3InSafe := true } }
  if s.dev.st = .verify ∨ s.dev.st = .run then s.enter .safe reason else s

/-! ### Block reset (Table 13.5) -/

/-- A pair's outputs are discarded and both copies are reset (steps 1 to 3 of Table 8.4); `cell` is the evaluation that was
interrupted. The restore ends with PAIR_RESTORE_DONE. -/
def State.pairReset (s : State) (p : Nat) (cell : Option Nat) : State :=
  s.setPair p { s.pair p with inReset := true, interrupted := cell }

/-- WEIR discards every queued frame and held receive buffer on all ports; contexts, links and channel state are kept, and so are the
descriptors that a channel has captured. -/
def State.weirReset (s : State) : State :=
  let clear := fun (s : State) (k : Nat) => s.setPort k { s.port k with queue := [], wire := none, buffers := [] }
  let s := [0, 1, 2].foldl clear s
  { s with weir := { s.weir with windows := s.weir.windows.map (fun e => (e.1, e.2.filter (·.captured))) } }

/-- Every coupler of a group restarts at step 3 of Table 3.17. -/
def State.groupRestart (s : State) (g : Nat) : State :=
  (List.range 16).foldl (fun s i =>
    let c := 16 * g + i
    if (s.coupler c).step = 0 then s else s.restartCoupler c 1) s

/-! ### Occurrences (R291, R293, R296, R305) -/

/-- Pass an occurrence to Oxbow: counted in a record; held back for the mount when ROS senses before it (R351); counted in
PD0's late counter once the power-fail sequence has frozen the table (R320). -/
def State.passToOxbow (s : State) (b i inst sev : Nat) (injected : Bool) : State × Option Nat :=
  if s.oxb.frozen then ({ s with pwr := { s.pwr with late := sat16 (s.pwr.late + 1) } }, none)
  else if b = bROS ∧ !s.oxb.mounted ∧ !injected then
    if s.faults.early.length < 64 then
      ({ s with faults := { s.faults with early := s.faults.early ++ [(i, inst)] } }, none)
    else ({ s with faults := { s.faults with earlyMore := s.faults.earlyMore.put i (s.faults.earlyMore.getD i 0 + 1) } }, none)
  else
    let (s, r) := s.oxbCount (faultCode b i) inst sev injected
    (s, some r)

/-- SUP's fault handler reads the words of a block (R296). -/
def State.faultHandler (s : State) (b : Nat) : State :=
  { s with faults := { s.faults with handled := some ⟨b, (s.words b).sticky, s.liveWord b⟩ } }

/-- The supervisor can enter its fault handler now; during a restore the NMI waits (Table 13.4). -/
def State.handlerWaits (s : State) : Bool := (s.pair (s.hardware bSUP)).inReset

/-- ERRP, IRQ and NMI of a reaction set, in that order (R296). -/
def State.react (s : State) (b i inst sev reacts : Nat) : State :=
  let s := if reacts / rERRP % 2 = 1 then
      { s with faults := { s.faults with holds := s.faults.holds ++ [⟨b, i, inst, sev, s.scope b i inst⟩] } }
    else s
  let s := if reacts / rIRQ % 2 = 1 ∧ (s.words b).mask.getLsbD i = false ∧ s.on 8 then
      { s with host := { s.host with evFault := true } }
    else s
  if reacts / rNMI % 2 = 0 then s
  else if s.handlerWaits then { s with faults := { s.faults with nmi := s.faults.nmi ++ [b] } }
  else if s.supRuns then s.faultHandler b
  else s

/-- The unit with a unit slice that an instance names (R51, R341). -/
def namedUnit (b i inst : Nat) : Option Nat :=
  match instKind b i inst with
  | .channel c => if 0x10 ≤ b then some (unitNo 1 (c / 16)) else none
  | .group g => some (unitNo 1 g)
  | .groupOut g => some (unitNo 1 g)
  | .port k => some (unitNo 2 k)
  | _ => if b = bWEIR ∧ i = 12 then some (unitNo 2 inst) else none

/-- The effect of a severity (Table 13.2). -/
def State.severityEffect (s : State) (b i inst sev : Nat) : State :=
  let s := match namedUnit b i inst with
    | some u => if 3 ≤ sev then { s with faults := { s.faults with s3Units := setMem s.faults.s3Units u } } else s
    | none => s
  let s := if sev = 2 then s.touchLines (s.scope b i inst) else if 3 ≤ sev then s.touchLines s.cellsInUse else s
  let s := if 2 ≤ sev ∧ !s.oxb.frozen then s.flushForFault else s
  if 4 ≤ sev then s.latchNow
  else if sev = 3 then s.safeNow (if b = bPWR ∧ i = 0 then sPFAIL else sFAULT)
  else s

/-- CRST (Table 13.4): the device-safe line at once, and a flush before the chip is reset. -/
def State.crst (s : State) : State :=
  let s : State := { s with dev := { s.dev with safeLine := true, crstPending := true } }
  (s.touchLines s.cellsInUse).flushTrigger .full

/-- The reactions and the severity effect of an occurrence. `brst` is what a block reset does. -/
def State.takeReactions (brst : State → Nat → State) (s : State) (b i inst sev reacts : Nat) : State :=
  let s := s.react b i inst sev reacts
  let s := s.severityEffect b i inst sev
  let s := if reacts / rBRST % 2 = 1 ∧ brstAvailable b then brst s b else s
  if reacts / rCRST % 2 = 1 then s.crst else s

/-- A further event of a live instance: passed to Oxbow, and the instance's life extended; a further detector of a live condition
(R291, log 67). -/
def State.extend (s : State) (src : Source) (b i inst who : Nat) : State :=
  let s := if src.cond then s else (s.passToOxbow b i inst (s.effective b i inst).1 false).1
  { s with faults := { s.faults with live := s.faults.live.map (fun l =>
      if l.block = b ∧ l.index = i ∧ l.inst = inst then
        { l with last := s.time.tick, holders := if src.cond then l.holders ||| who else 0 }
      else l) } }

/-- One occurrence or one further event of an instance. `who` is the detector's bit of a condition; `brst` is what a block
reset does. A condition that PD0 kept through a reset is raised again (R292). -/
def State.raiseWith (brst : State → Nat → State) (s : State) (b i inst who : Nat) : State :=
  match sourceOf b i with
  | none => s
  | some src =>
    let mine := fun (l : LiveInst) => l.block == b && l.index == i && l.inst == inst
    if 0x20 ≤ b ∧ !s.inUse inst then s
    else if s.faults.live.any (fun l => mine l && !l.stale) then s.extend src b i inst who
    else
      let (sev, reacts) := s.effective b i inst
      let (s, r) := s.passToOxbow b i inst sev false
      let s := s.setWords b { s.words b with sticky := setBit (s.words b).sticky i }
      let new : LiveInst := { block := b, index := i, inst := inst, rise := s.nowUs, last := s.time.tick, sev := sev,
                              holders := if src.cond then who else 0, inRec := r, reacts := reacts }
      let s : State := { s with faults := { s.faults with live := s.faults.live.filter (fun l => !mine l) ++ [new] } }
      s.takeReactions brst b i inst sev reacts

/-- Riffle aborts the slice under way (R333, R339, R347): counted, SLICE_ABORT raised, the grant kept until the restore. -/
def State.abortSlice (s : State) : State :=
  match s.rif.slice with
  | none => s
  | some r =>
    if r.aborted then s
    else
      let u := unitNo 0 r.chan
      let s : State := { s with rif := { s.rif with slice := some { r with aborted := true } } }
      let s := s.setUnit u { s.unit u with last := 2, aborts := (s.unit u).aborts + 1 }
      let s := match s.rif.selfTest with
        | some t => if r.forRequest then { s with rif := { s.rif with selfTest := some { t with aborted := true } } } else s
        | none => s
      s.raiseWith (fun s _ => s) bRIF 3 u 0

/-- The result of a request (R346): 0 pass, 1 fail, 2 aborted, 3 skipped. -/
def SelfTest.result (t : SelfTest) : Nat := if t.failed then 1 else if t.aborted then 2 else if t.skipped then 3 else 0

/-- The response's payload: the result, and the last signature with its expected value (R346). -/
def SelfTest.payload (t : SelfTest) : List Byte := leBytes 1 t.result ++ zeros 3 ++ leBytes 4 t.sig ++ leBytes 4 t.expected

/-- Riffle aborts the unit slice of a field group: counted, SLICE_ABORT raised, a request for it answered, and the SYNC that ends it sent
(R341, Table 13.5). -/
def State.abortUnitSlice (s : State) (g : Nat) : State :=
  let u := unitNo 1 g
  let s : State := { s with rif := { s.rif with groupSlices := setDel s.rif.groupSlices g } }
  let s := s.setUnit u { s.unit u with last := 2, aborts := (s.unit u).aborts + 1 }
  let s := match s.rif.selfTest with
    | some t => if t.kind = 1 ∧ t.index = g then
        ({ s with rif := { s.rif with selfTest := none } } : State).answer .selfTest stOK { t with aborted := true }.payload
      else s
    | none => s
  (s.groupRestart g).raiseWith (fun s _ => s) bRIF 3 u 0

/-- BRST of Riffle (Table 13.5): every slice under way is aborted, and the scheduler starts anew. -/
def State.rifReset (s : State) : State := s.rif.groupSlices.foldl State.abortUnitSlice s.abortSlice

/-- BRST of a block (Table 13.5); no further one starts while it runs (R305). A pair's block is that of its role, which STB may carry
(R14). -/
def State.brst (s : State) (b : Nat) : State :=
  if s.brstRunning b then s
  else if b ≤ 6 then
    let p := s.hardware b
    (if (s.pair p).inReset then s
     else
       let s := s.pairReset p none
       s.setPair p { s.pair p with resetAt := some s.time.tick })
  else if b = bWEIR then
    { s.weirReset with faults := { s.faults with brst := s.faults.brst.put b s.time.tick } }
  else if b = bHOST then s.transportReset
  else if b = bOXB then s.flushTrigger .full
  else if b = bRIF then s.rifReset
  else if 0x10 ≤ b ∧ b ≤ 0x13 then
    let s := s.groupRestart (b - 0x10)
    let s : State := { s with faults := { s.faults with brst := s.faults.brst.put b s.time.tick } }
    s.touchLines (s.scope b 16 (b - 0x10))
  else s

/-- An occurrence of an event source, or a further event of it. -/
def State.event (s : State) (b i inst : Nat) : State := s.raiseWith State.brst b i inst 0

/-- A condition is seen by a detector. -/
def State.raise (s : State) (b i inst who : Nat) : State := s.raiseWith State.brst b i inst who

/-- An occurrence injected in FACTORY_TEST (R304): the INJECTED bit, the injected count of Oxbow and the source's reactions; STICKY and
LIVE stay. -/
def State.inject (s : State) (b i inst : Nat) : State :=
  match sourceOf b i with
  | none => s
  | some _ =>
    if s.dev.st ≠ .factoryTest then s
    else
      let (sev, reacts) := s.effective b i inst
      let s := (s.passToOxbow b i inst sev true).1
      let s := s.setWords b { s.words b with injected := setBit (s.words b).injected i }
      s.takeReactions State.brst b i inst sev reacts

/-- An ERRP hold is still in force. -/
def State.holdInForce (s : State) (h : ErrpHold) : Bool :=
  if h.sev ≤ 1 then s.isLive h.block h.index h.inst || (s.words h.block).sticky.getLsbD h.index
  else if h.sev = 2 then
    s.isLive h.block h.index h.inst ||
      h.cells.any (fun n => (s.line n).lineSeen || (s.cell .a n).st == .held || (s.cell .b n).st == .held)
  else true

/-- Drop the holds that have ended. -/
def State.purgeHolds (s : State) : State :=
  { s with faults := { s.faults with holds := s.faults.holds.filter s.holdInForce } }

/-- LIVE of an instance falls (R291, R312); ERRP holds may end with it (R301). -/
def State.fall (s : State) (l : LiveInst) : State :=
  let s := s.oxbBin l
  ({ s with faults := { s.faults with live := s.faults.live.filter (fun x =>
      !(x.block == l.block && x.index == l.index && x.inst == l.inst)) } } : State).purgeHolds

/-- A detector sees a condition absent; LIVE falls when no detector sees it. -/
def State.clear (s : State) (b i inst who : Nat) : State :=
  match s.faults.live.find? (fun l => l.block == b && l.index == i && l.inst == inst) with
  | none => s
  | some l =>
    let h := l.holders &&& (7 - who)
    if h = 0 then s.fall l
    else { s with faults := { s.faults with live := s.faults.live.map (fun x =>
        if x.block = b ∧ x.index = i ∧ x.inst = inst then { x with holders := h } else x) } }

/-- A detector's present view of a condition. -/
def State.condition (s : State) (b i inst who : Nat) (on : Bool) : State :=
  if on then s.raise b i inst who else s.clear b i inst who

/-- The detector's own holding of a condition. -/
def State.holds (s : State) (b i inst who : Nat) : Bool :=
  s.faults.live.any (fun l => l.block == b && l.index == i && l.inst == inst && l.holders &&& who != 0)

/-! ### A new policy (R305) -/

/-- The reactions of `a` that are not among those of `b`. -/
def reactsAdded (a b : Nat) : Nat :=
  (List.range 8).foldl (fun acc k => if a.testBit k && !b.testBit k then acc + 2 ^ k else acc) 0

/-- Every live source is judged again under the policy now in force; what it adds is taken, what was taken stands. -/
def State.rejudge (s : State) : State :=
  s.faults.live.foldl (fun s l =>
    let (sev, reacts) := s.effective l.block l.index l.inst
    let added := reactsAdded reacts l.reacts
    let s : State := { s with faults := { s.faults with live := s.faults.live.map (fun x =>
      if x.block = l.block ∧ x.index = l.index ∧ x.inst = l.inst then
        { x with sev := max x.sev sev, reacts := x.reacts ||| reacts } else x) } }
    let s := if l.sev < sev then s.severityEffect l.block l.index l.inst sev else s
    let s := s.react l.block l.index l.inst sev added
    let s := if added / rBRST % 2 = 1 ∧ brstAvailable l.block then s.brst l.block else s
    if added / rCRST % 2 = 1 then s.crst else s) s

/-! ### The error pair (R301) -/

/-- The pair is asserted (Table 2.1, R301). FACTORY_TEST is under factory control; it reads as asserted. -/
def State.errpAsserted (s : State) : Bool :=
  match s.dev.st with
  | .run => s.faults.holds.any s.holdInForce
  | .safe => s.faults.holds.any s.holdInForce
  | _ => true

/-- Dynamic mode in force (R302, R275). -/
def State.errpDynamic (s : State) : Bool :=
  (decide (s.dev.st = .run) || decide (s.dev.st = .safe)) && s.dev.loaded && s.devCont.errpDyn

/-- A pulse of the hold pattern is under way: n pulses of 50 ms, 100 ms apart, start each frame of 2 s (R361). -/
def State.holdPulse (s : State) : Bool :=
  s.dev.st == .reset && s.dev.hold != 0 &&
    (match s.pwr.holdPhase with
     | none => false
     | some ms => decide (ms < 150 * s.dev.hold) && decide (ms % 150 < 50))

/-- The levels of ERR_P and ERR_N: those commanded (Table 13.8, R361), or those of the boundary scan while EXTEST holds the lands (R391);
OFF reads both low. -/
def State.errpLevels (s : State) : Bool × Bool :=
  if s.dev.st = .off then (false, false)
  else if s.jtag.driving then (s.jtag.preload.getLsbD 22, s.jtag.preload.getLsbD 23)
  else if s.holdPulse then (false, false)
  else if s.errpAsserted then (false, true)
  else if s.errpDynamic then (s.pwr.errpPhase, !s.pwr.errpPhase)
  else (true, false)

end Sys2Proof.Machine
end

