-- ==== Sys2Proof/Machine/FieldOps.lean ====
section
/-! DEFINITION. What the logic side of the field computes (03, 04): frames and their CRCs, enable tokens, requests, the pulse
schedule, the local field bits and the input filter. -/

namespace Sys2Proof.Machine

/-- The block of a channel's or a group's sources. -/
def fgBlock (g : Nat) : Nat := 0x10 + g

/-! ### Frames (R73, R74, R76) -/

/-- Bits of a 40-bit frame. -/
def frBits (f : BitVec 40) (hi lo : Nat) : Nat := bitsOf f.toNat hi lo

/-- CRC of a command frame over bits 39:8 given as a number. -/
def cmdCrc (body : Nat) : Nat := crc 8 0x07 0x00 (beBytes 4 body)
/-- CRC of a status frame over bits 39:8. -/
def statusCrc (body : Nat) : Nat := crc 8 0x2F 0xFF (beBytes 4 body) ^^^ 0xFF

def tyRUN : Nat := 1
def tySYNC : Nat := 2
def tyCFG : Nat := 3

/-- A command frame (Table 3.11); `aux` is the 13-bit field of Table 3.12. -/
def commandFrame (ty : Nat) (tick : Bool) (fcnt atok btok aux : Nat) : BitVec 40 :=
  let body := ty % 4 * 2 ^ 30 + b2n tick * 2 ^ 29 + fcnt % 16 * 2 ^ 25 + atok % 64 * 2 ^ 19 + btok % 64 * 2 ^ 13 + aux % 8192
  BitVec.ofNat 40 (body * 256 + cmdCrc body)

def cmdOk (f : BitVec 40) : Bool := cmdCrc (f.toNat / 256) == f.toNat % 256 && frBits f 39 38 != 0
def cmdTick (f : BitVec 40) : Bool := f.getLsbD 37
def cmdFcnt (f : BitVec 40) : Nat := frBits f 36 33
def cmdSel (f : BitVec 40) : Nat := frBits f 20 16

/-- A status frame taken apart (Table 3.13). -/
structure StatusFrame where
  state : Nat
  fcnt : Nat
  cls : Nat
  icode : Nat
  mid : Bool
  swa : Bool
  swb : Bool
  ol : Bool
  ot : Bool
  uv : Bool
  ov : Bool
  atokBad : Bool
  btokBad : Bool
  ext : Nat
deriving DecidableEq, Repr, Inhabited

def StatusFrame.pack (x : StatusFrame) : BitVec 40 :=
  let body := x.state % 4 * 2 ^ 30 + x.fcnt % 16 * 2 ^ 26 + x.cls % 8 * 2 ^ 23 + x.icode % 256 * 2 ^ 15 + b2n x.mid * 2 ^ 14 +
    b2n x.swa * 2 ^ 13 + b2n x.swb * 2 ^ 12 + b2n x.ol * 2 ^ 11 + b2n x.ot * 2 ^ 10 + b2n x.uv * 2 ^ 9 + b2n x.ov * 2 ^ 8 +
    b2n x.atokBad * 2 ^ 7 + b2n x.btokBad * 2 ^ 6 + x.ext % 64
  BitVec.ofNat 40 (body * 256 + statusCrc body)

def readStatus (f : BitVec 40) : StatusFrame :=
  { state := frBits f 39 38, fcnt := frBits f 37 34, cls := frBits f 33 31, icode := frBits f 30 23, mid := f.getLsbD 22,
    swa := f.getLsbD 21, swb := f.getLsbD 20, ol := f.getLsbD 19, ot := f.getLsbD 18, uv := f.getLsbD 17, ov := f.getLsbD 16,
    atokBad := f.getLsbD 15, btokBad := f.getLsbD 14, ext := frBits f 13 8 }

/-- The checks of R83 on a status frame that answers a command frame. -/
def statusOk (f cmd : BitVec 40) : Bool :=
  let x := readStatus f
  statusCrc (f.toNat / 256) == f.toNat % 256 && x.state != 0 && x.fcnt == cmdFcnt cmd && x.cls != 5 && x.cls != 6

/-- The enable token (R78). -/
def token (sd : Side) (n : Nat) (q : Bool) (c : Nat) : Nat :=
  let (poly, init, x) : Nat × Nat × Nat := match sd with
    | .a => (0x27, 0x3F, 1)
    | .b => (0x19, 0x2A, 0)
  crcBits 6 poly init (natToBits 24 (n % 65536 * 256 + c * 4 + b2n q * 2 + x)).reverse

/-! ### CLASS codes (Table 3.14) -/

def clOFF : Nat := 0
def clON : Nat := 1
def clBREAK : Nat := 2
def clOPEN : Nat := 3
def clUNDEF : Nat := 4
def clNONE : Nat := 7

/-! ### The pulse schedule (R86, R88, R102) -/

/-- The holder a channel pulses with: the lead of its OUT_PAIR, else itself (R66). -/
def State.holderOf (s : State) (c : Nat) : Nat :=
  if (s.chanEntry c).mode = mOUT_PAIR then c - c % 2 else c

/-- The holder's new placement is in force: a changed one takes effect at the first base frame that starts on or after its
boundary (R102). -/
def State.newPlacement (s : State) (h : Nat) : Bool :=
  let o := s.time.origin.getD 0
  match s.cfg.live with
  | some l => l.chanAt.any (fun e => e.1 == h && decide ((e.2 - o + 199) / 200 ≤ (s.time.tick - o) / 200))
  | none => false

/-- The placement in force of a holder. -/
def State.placement (s : State) (h : Nat) : Option (Nat × Nat) :=
  let of_ := fun (r : Option RunCfg) => r.bind (fun r => (r.pulses.find? (fun p => p.1 == h)).map (fun p => p.2))
  if s.newPlacement h then of_ (s.cfg.live.map (·.next))
  else match s.joinedChan h with
    | some x => x.2
    | none => of_ s.cfg.running

/-- The binding entry whose m, W and L belong to the placement in force. -/
def State.pulseEntry (s : State) (h : Nat) : ChanEntry :=
  if s.newPlacement h then s.nextCont.chan h else s.chanBefore h

/-- The base frame number f, and the tick position in the frame. -/
def State.baseFrame (s : State) : Option (Nat × Nat) :=
  s.time.origin.map (fun o => ((s.time.tick - o) / 200, (s.time.tick - o) % 200))

/-- Ticks since the start of the due pulse slot of a holder that covers this tick, when there is one; m and L are those that the
placement was made for. -/
def State.pulseOffset (s : State) (h : Nat) : Option Nat :=
  if !(s.chanEntry h).isPulsed || !s.dev.loaded then none
  else match s.baseFrame, s.placement h with
    | some (f, p), some (t, phi) =>
      let e := s.pulseEntry h
      if f % max e.period 1 = phi ∧ t ≤ p ∧ p < t + e.slotLen then some (p - t) else none
    | _, _ => none

/-- The tick lies in a pulse slot of some holder (R336). -/
def State.anyPulse (s : State) : Bool := (List.range 64).any (fun h => (s.pulseOffset h).isSome)

/-- PULSE of a channel (R396): a sample after the start of its due slot, or of its source's, and no later than
s + W + 50 µs (R61). -/
def State.pulseBitAt (s : State) (c : Nat) : Bool :=
  let e := s.chanEntry c
  let h := if e.isInput then (if e.source = 0 then none else some (c - c % 16 + (e.source - 1)))
    else if e.isPulsed then some (s.holderOf c) else none
  match h with
  | none => false
  | some h =>
    match s.pulseOffset h with
    | none => false
    | some o => decide (1 ≤ o) && decide (50 * o ≤ (s.pulseEntry h).widthUs + 50)

/-! ### Requests and tokens (R78, R82, R88, R128, R162) -/

/-- The cell that binds a channel's CMD bit. -/
def State.driver (s : State) (c : Nat) : Option Nat :=
  s.cellsInUse.find? (fun n => decide (c ∈ (s.cellCont n).outChans n))

/-- A live instance at S2 or higher names the channel or its group (R396, R162). -/
def State.namesChannel (s : State) (c : Nat) : Bool :=
  let g := c / 16
  s.faults.live.any (fun l => decide (2 ≤ s.sevNow l) &&
    ((l.block == 0x10 + g &&
        (match instKind l.block l.index l.inst with
         | .channel x => x == c
         | .group x => x == g
         | .groupOut x => x == g
         | _ => false)) ||
      (l.block == bRIF && (l.inst == unitNo 0 c || l.inst == unitNo 1 g))))

/-- A channel's request for an output, apart from its pulses: OFF whenever the readback, the device state, the cell or a
fault reaction orders it (R78, R82, R128). -/
def State.reqOn (s : State) (sd : Side) (c : Nat) : Bool :=
  let e := s.chanEntry c
  let v := s.view sd c
  e.drives && v.ready && s.dev.st == .run &&
  (if e.mode = mTEST_SRC then !s.namesChannel c
   else match s.driver c with
    | none => false
    | some n =>
      let x := (s.cell sd n).st
      v.req && v.taken && (x == .run || x == .shadow) && !s.lineActive n && !(s.line n).lineSeen)

/-- This side's off-pulse is under way in this slot: from s + 10 µs up to s + W (R88). -/
def State.pulsing (s : State) (sd : Side) (c : Nat) : Bool :=
  let h := s.holderOf c
  match (s.view sd h).pulse with
  | none => false
  | some r =>
    let t := s.nowUs - 50 * r.start
    r.own && decide (10 ≤ t) && decide (t ≤ r.widthUs)

/-- q of R78. -/
def State.tokenOn (s : State) (sd : Side) (c : Nat) : Bool := s.reqOn sd c && !s.pulsing sd c

/-! ### Unit slices and the binding in force (R341) -/

/-- A unit slice of the field group is due, so that its channels must have mode OFF: in VERIFY, or on request. -/
def State.groupSliceDue (s : State) (g : Nat) : Bool :=
  let u := unitNo 1 g
  (s.dev.st == .verify && s.cfg.running.isSome && decide (u ∉ s.rif.unitsDone) && !(s.unit u).unusable &&
    (s.dev.verifyCause != .restart || decide (u ∈ s.faults.s3Units))) ||
  (match s.rif.selfTest with
   | some t => t.kind == 1 && t.index == g
   | none => false)

/-- A port's unit slice is due: at start-up for a port in use, or on request. -/
def State.portSliceDue (s : State) (port : Nat) : Bool :=
  let u := unitNo 2 port
  let c := s.runCont
  (s.dev.st == .verify && c.connsInUse.any (fun n => (c.conn n).port == port) && !(decide (u ∈ s.rif.unitsDone)) &&
    !(s.unit u).unusable && (s.dev.verifyCause != .restart || decide (u ∈ s.faults.s3Units))) ||
  (match s.rif.selfTest with
   | some t => t.kind == 2 && t.index == port
   | none => false)

/-- Every channel of a group has mode OFF and both switches open. -/
def State.groupQuiet (s : State) (g : Nat) : Bool :=
  (List.range 16).all (fun i =>
    let ch := s.chan (16 * g + i)
    ch.mode == 0 && !ch.swA && !ch.swB)

/-- A unit slice of VERIFY is done, or delays nothing (R37, R51). -/
def State.unitDone (s : State) (u : Nat) : Bool :=
  decide (u ∈ s.rif.unitsDone) || (s.unit u).unusable || (s.dev.verifyCause == .restart && decide (u ∉ s.faults.s3Units))

/-- The unit slices of every field group and every port in use are done (R343); a silent group and an OFF port delay nothing. -/
def State.unitSlicesDone (s : State) : Bool :=
  let c := s.runCont
  (List.range 4).all (fun g => s.unitDone (unitNo 1 g) || !(s.die g).alive) &&
  c.connsInUse.all (fun n =>
    let k := (c.conn n).port
    decide (k = 0) || (s.params.port k).mode == 0 || s.unitDone (unitNo 2 k))

/-- The mode and the registers that the readback of a channel must show (R82). -/
def State.wantMode (s : State) (c : Nat) : Nat := if s.groupSliceDue (c / 16) then 0 else (s.chanEntry c).mode
def State.wantReg1 (s : State) (c : Nat) : Nat :=
  let e := s.chanEntry c
  if s.groupSliceDue (c / 16) then 0 else 2 * (e.slew % 2) + b2n (e.mode == mOUT_PAIR && c % 2 == 0)

/-! ### Local field bits (Table 3.3), as the tick services of an evaluator role form them -/

def State.fieldBit (s : State) (sd : Side) (role c b : Nat) : Bool :=
  let e := s.chanEntry c
  let v := s.view sd c
  let p := s.pairView sd role c
  let out := e.drives
  match b with
  | 0 => p.filt == clON
  | 1 => e.mode == mIN_MON && p.filt == clOPEN
  | 2 => e.mode == mIN_MON && p.filt == clBREAK
  | 3 => if out then p.cls == clUNDEF else p.filt == clUNDEF
  | 4 => v.fault
  | 5 => p.cls == clON
  | 6 => out && p.mid
  | 7 => out && p.swa
  | 8 => out && p.swb
  | 9 => out && p.ol
  | 10 => p.vfOk
  | 11 => v.pulseBit
  | 15 => out && v.req
  | _ => false

/-! ### The filter (R59, R60) -/

/-- The class a filter sees: ON or OFF for IN_T1 and IN_T3, every class otherwise. -/
def filterClass (e : ChanEntry) (cls : Nat) : Nat :=
  if e.mode = mIN_T1 ∨ e.mode = mIN_T3 then (if cls = clON then clON else clOFF) else cls

/-- N_F: no filter parameter applies to an output or source channel (R53). -/
def filterCount (e : ChanEntry) : Nat := if e.isInput then e.filterN else 0

/-- One agreed sample enters the filter's run of equal samples. -/
def View.filterSample (v : View) (x : Nat) : View :=
  if x = v.filt then { v with cand := x, count := 0 }
  else if x = v.cand ∧ 0 < v.count then { v with count := v.count + 1 }
  else { v with cand := x, count := 1 }

/-- The run of OFF samples of a gap-tolerant input that is ON falls under R60. -/
def gapRun (e : ChanEntry) (v : View) : Bool :=
  (e.mode == mIN_T1 || e.mode == mIN_T3) && decide (0 < e.gap) && v.filt == clON && v.cand == clOFF

/-! ### A changed binding (R283) -/

/-- A changed channel's mode and parameters take effect: its coupler configures it, each channel's input and checks start anew,
conditions that the new mode does not check end, and a changed mode starts a coverage round. -/
def State.changeChannel (s : State) (c : Nat) : State :=
  let new := s.nextCont.chan c
  let old := s.chanBefore c
  let s := s.restartCoupler c 2
  let gone := (if new.drives then [] else [0, 1, 2, 6, 7]) ++ (if new.mode = mIN_MON then [] else [4, 5])
  let one := fun (s : State) (sd : Side) =>
    let v := s.view sd c
    let s := s.setView sd c { v with cand := 0, count := 0, filt := 0, onRun := 0, openLoad := 0, swaHeld := false, swbHeld := false,
                                     missA := 0, missB := 0, coverA := none, coverB := none, foreign := [], maxI := 0 }
    let s := (rolesOf sd).foldl (fun s role => s.setPairView sd role c (s.view sd c).pairPart) s
    gone.foldl (fun s i => s.clear (fgBlock (c / 16)) i c (Side.bit sd)) s
  let s := one (one s .a) .b
  if new.mode = old.mode then s
  else
    let s := s.setCov c { deadline := if new.mode = mOFF then none else some (s.rif.clock + 30) }
    (s.clear bRIF 1 (unitNo 0 c) whoDev).clear bRIF 2 (unitNo 0 c) whoDev

end Sys2Proof.Machine
end

