-- ==== Sys2Proof/Machine/Wire.lean ====
section
/-! DEFINITION. Millrace on the wire (09_millrace, 10_weir_ports): the frame header, the PDUs, their two CRCs, the
sequence arithmetic and the Ethernet, IPv4 and UDP carriage. Functions of bytes and numbers only. -/

namespace Sys2Proof.Machine

def ftDATA1 : Nat := 0x01
def ftDATA2 : Nat := 0x02
def ftANNOUNCE : Nat := 0x10
def ftOPEN : Nat := 0x11
def ftACK : Nat := 0x12
def ftREFUSE : Nat := 0x13

/-! ### The two CRCs (R213, R214) -/

/-- The reflected CRC-32 with polynomial 0x1EDC_6F41 (M2 channel A). -/
def crcM2A (bs : List Byte) : Nat :=
  (revBits 32 (crc 32 0x1EDC6F41 0xFFFFFFFF (bs.map (fun b => byte (revBits 8 b.toNat))))) ^^^ 0xFFFFFFFF

/-- The CRC of a channel for a generation (Table 9.7). -/
def safetyCrc (gen : Nat) (isA : Bool) (bs : List Byte) : Nat :=
  if gen = 1 then (if isA then crc 16 0x1021 0xFFFF bs else crc 16 0x8BB7 0 bs)
  else (if isA then crcM2A bs else crc 32 0x741B8CD7 0 bs)

/-- Bytes of a CRC field (R221). -/
def crcSize (gen : Nat) : Nat := if gen = 1 then 2 else 4

/-- The virtual prefix (Table 9.6). -/
def virtualPrefix (uid nO nR : Nat) (fromOpener : Bool) (vsn : Nat) : List Byte :=
  leBytes 8 uid ++ leBytes 4 nO ++ leBytes 4 nR ++ [if fromOpener then 1 else 2] ++ leBytes 4 vsn

/-! ### DATA PDUs (Tables 9.4, 9.5) -/

def pduSize (gen : Nat) : Nat := if gen = 1 then 16 else 24

/-- The fields of a DATA PDU before its CRCs. -/
structure DataPdu where
  handle : Nat
  seq : Nat
  echo : Nat
  fsv : Bool
  echoValid : Bool
  data : Nat
deriving DecidableEq, Repr, Inhabited

def DataPdu.body (p : DataPdu) (gen : Nat) : List Byte :=
  leBytes 2 p.handle ++ leBytes 2 p.seq ++ leBytes 2 p.echo ++ [byte (b2n p.fsv + 2 * b2n p.echoValid), 0] ++
  leBytes (if gen = 1 then 4 else 8) p.data

def readData (gen : Nat) (bs : List Byte) : DataPdu :=
  { handle := leAt bs 0 2, seq := leAt bs 2 2, echo := leAt bs 4 2, fsv := (leAt bs 6 1).testBit 0,
    echoValid := (leAt bs 6 1).testBit 1, data := leAt bs 8 (if gen = 1 then 4 else 8) }

/-- Reserved bits and bytes are 0, and so are the DATA bits from `bits` up (step 4 of Table 9.8). -/
def dataReservedOk (gen : Nat) (bs : List Byte) (bits : Nat) : Bool :=
  leAt bs 6 1 < 4 && leAt bs 7 1 == 0 && leAt bs 8 (if gen = 1 then 4 else 8) < 2 ^ bits

/-- Offset of CRC_A in a DATA PDU. -/
def dataCrcOff (gen : Nat) : Nat := if gen = 1 then 12 else 16

/-- A channel's own CRC of a PDU verifies (R215). -/
def ownCrcOk (gen : Nat) (isA : Bool) (pre : List Byte) (crcOff : Nat) (bs : List Byte) : Bool :=
  let w := crcSize gen
  leAt bs (if isA then crcOff else crcOff + w) w == safetyCrc gen isA (pre ++ bs.take crcOff)

/-! ### Control PDUs (Table 9.9) -/

structure CtlPdu where
  handle : Nat
  sender : Nat
  senderId : Nat
  nO : Nat
  nR : Nat
  bitsO : Nat
  bitsR : Nat
  period : Nat
  reason : Nat
deriving DecidableEq, Repr, Inhabited

def CtlPdu.body (p : CtlPdu) : List Byte :=
  leBytes 2 p.handle ++ leBytes 2 p.sender ++ leBytes 8 p.senderId ++ leBytes 4 p.nO ++ leBytes 4 p.nR ++
  leBytes 1 p.bitsO ++ leBytes 1 p.bitsR ++ leBytes 2 p.period ++ leBytes 1 p.reason ++ zeros 3

def readCtl (bs : List Byte) : CtlPdu :=
  { handle := leAt bs 0 2, sender := leAt bs 2 2, senderId := leAt bs 4 8, nO := leAt bs 12 4, nR := leAt bs 16 4,
    bitsO := leAt bs 20 1, bitsR := leAt bs 21 1, period := leAt bs 22 2, reason := leAt bs 24 1 }

/-- The reserved fields of a control PDU, and those that are 0 for its type (Table 9.9). -/
def ctlReservedOk (ftype : Nat) (bs : List Byte) : Bool :=
  leAt bs 25 3 == 0 && (ftype == ftACK || leAt bs 16 4 == 0) && (ftype == ftREFUSE || leAt bs 24 1 == 0) &&
  (ftype != ftOPEN || leAt bs 0 2 == 0xFFFF)

def ctlSize (gen : Nat) : Nat := 28 + 2 * crcSize gen

/-- The prefix of a control PDU: nonces and VSN 0 (R221). -/
def ctlPrefix (uid : Nat) (fromOpener : Bool) : List Byte := virtualPrefix uid 0 0 fromOpener 0

/-- A PDU with both CRC fields, each computed over the given body (R211 puts channel B's over its own copy). -/
def withCrcs (gen : Nat) (bodyA bodyB preA preB : List Byte) : List Byte :=
  bodyA ++ leBytes (crcSize gen) (safetyCrc gen true (preA ++ bodyA)) ++
  leBytes (crcSize gen) (safetyCrc gen false (preB ++ bodyB))

/-! ### Frames (R205) -/

def frameHeader (ftype count gen : Nat) : List Byte := [byte ftype, byte count, byte gen, 0]

/-- A frame header without an error of R205: the reserved byte, FTYPE and COUNT (Table 9.2). GEN is judged here only in a control PDU,
whose length it decides (R221); a data PDU's GEN is step 1 of Table 9.8. -/
def headerCountOk (bs : List Byte) : Bool :=
  let t := leAt bs 0 1
  let n := leAt bs 1 1
  let g := leAt bs 2 1
  leAt bs 3 1 == 0 &&
  (if t = ftDATA1 then n == 1
   else if t = ftDATA2 then 1 ≤ n && n ≤ 16
   else if t = ftANNOUNCE then n == 0
   else if t = ftOPEN ∨ t = ftACK ∨ t = ftREFUSE then n == 1 && (g == 1 || g == 2)
   else false)

/-- The expected length of a Millrace frame (R205). -/
def expectedLen (bs : List Byte) : Nat :=
  let t := leAt bs 0 1
  if t = ftDATA1 then 20 else if t = ftDATA2 then 4 + 24 * leAt bs 1 1 else if t = ftANNOUNCE then 20
  else 4 + ctlSize (leAt bs 2 1)

/-- The frame header check of R205 for `bs` = header and rest after the carriage, `wire` the received length with FCS, `tagged`
its tag. In UDP carriage `udp` gives the payload length by the UDP header, and the bytes after the packet's end. -/
def millraceFrameOk (bs : List Byte) (wire : Nat) (tagged : Bool) (udp : Option (Nat × Nat)) : Bool :=
  let small := decide (wire ≤ (if tagged then 68 else 64))
  headerCountOk bs && decide (expectedLen bs ≤ bs.length) &&
  (match udp with
   | none => bs.length == expectedLen bs || small
   | some (len, extra) => len == expectedLen bs && (extra == 0 || small))

/-- The PDUs of a frame that passed R205; ANNOUNCE gives its body. -/
def framePdus (bs : List Byte) : List (List Byte) :=
  let t := leAt bs 0 1
  if t = ftDATA2 then (List.range (leAt bs 1 1)).map (fun i => (bs.drop (4 + 24 * i)).take 24)
  else [(bs.drop 4).take (expectedLen bs - 4)]

/-- The ANNOUNCE frame (Table 9.3). -/
def announceFrame (identity : Nat) (check : List Byte) (gens : Nat) : List Byte :=
  frameHeader ftANNOUNCE 0 0 ++ leBytes 8 identity ++ padTo 4 check ++ leBytes 1 gens ++ zeros 3

/-! ### Carriage (R204) -/

def macBroadcast : Nat := 0xFFFFFFFFFFFF
def macPause : Nat := 0x0180C2000001

/-- The one's complement sum of 16-bit words, folded. -/
def onesSum (bs : List Byte) : Nat :=
  let rec go : Nat → List Byte → Nat → Nat
    | 0, _, acc => acc
    | _, [], acc => acc
    | n + 1, x :: rest, acc => go n (rest.drop 1) (acc + x.toNat * 256 + ((rest.head?).getD 0).toNat)
  let s := go (bs.length) bs 0
  let f := s % 65536 + s / 65536
  f % 65536 + f / 65536

/-- An IPv4 header for a UDP payload of `len` bytes (R204): no options, DF, TTL 64, DSCP 0. -/
def ipHeader (src dst len : Nat) : List Byte :=
  let h := fun (ck : Nat) => [0x45, 0] ++ beBytes 2 (28 + len) ++ [0, 0, 0x40, 0, 64, 17] ++ beBytes 2 ck ++
    beBytes 4 src ++ beBytes 4 dst
  h (65535 - onesSum (h 0) % 65536)

/-- The 802.1Q tag. -/
def tagBytes (tci : Option Nat) : List Byte :=
  match tci with
  | none => []
  | some t => [0x81, 0x00] ++ beBytes 2 t

/-- How a frame is carried. -/
structure Carriage where
  dst : Nat
  src : Nat
  tci : Option Nat
  etherType : Nat
  udp : Option (Nat × Nat × Nat)
deriving DecidableEq, Repr, Inhabited

/-- A whole frame without its FCS: `udp` gives source address, destination address and port. -/
def carry (c : Carriage) (payload : List Byte) : List Byte :=
  beBytes 6 c.dst ++ beBytes 6 c.src ++ tagBytes c.tci ++
  (match c.udp with
   | none => beBytes 2 c.etherType ++ payload
   | some (sip, dip, port) =>
     [0x08, 0x00] ++ ipHeader sip dip payload.length ++ beBytes 2 port ++ beBytes 2 port ++
     beBytes 2 (8 + payload.length) ++ [0, 0] ++ payload)

/-- A frame padded to the 60 bytes before the FCS. -/
def padFrame (bs : List Byte) : List Byte := bs ++ zeros (60 - bs.length)

/-- A PAUSE frame with quanta `q` (R237). -/
def pauseFrameBytes (src q : Nat) : List Byte :=
  padFrame (beBytes 6 macPause ++ beBytes 6 src ++ [0x88, 0x08, 0x00, 0x01] ++ beBytes 2 q)

/-- A received frame with FCS: its FCS and length are right (rule 1 of R235), or none. -/
def parseFrame (bs : List Byte) : Option RxParsed :=
  let n := bs.length
  let tagged := beAt bs 12 2 == 0x8100
  if n < 64 ∨ (if tagged then 1522 else 1518) < n then none
  else if leAt bs (n - 4) 4 ≠ crc32Ether (bs.take (n - 4)) then none
  else
    let o := if tagged then 16 else 12
    some { dst := beAt bs 0 6, src := beAt bs 6 6, tci := if tagged then some (beAt bs 14 2) else none,
           etherType := beAt bs o 2, payload := (bs.take (n - 4)).drop (o + 2), wire := n }

/-- Rule 4 of R235 for IPv4: version, header, checksum, no fragment, UDP to the Millrace port. -/
def ipUdpOk (p : List Byte) (portIp udpPort : Nat) : Bool :=
  leAt p 0 1 == 0x45 && onesSum (p.take 20) == 65535 && beAt p 6 2 % 0x4000 == 0 &&
  leAt p 9 1 == 17 && (beAt p 16 4 == portIp || beAt p 16 4 == 0xFFFFFFFF) && beAt p 22 2 == udpPort

/-- Kinds of a kept frame. -/
def rxMILL : Nat := 0
def rxUDP : Nat := 1
def rxARP : Nat := 2
def rxPAUSE : Nat := 3

/-- Rules 2 to 4 of R235: the kind of a kept frame. -/
def filterKind (f : RxParsed) (mac ip etherType udpPort : Nat) (vids : List Nat) : Option Nat :=
  let isPause := f.etherType == 0x8808 && beAt f.payload 0 2 == 1
  let dstOk := f.dst == mac || f.dst == macBroadcast || (isPause && f.dst == macPause)
  let tagOk := match f.tci with
    | none => true
    | some t => t % 4096 == 0 || t % 4096 ∈ vids
  if !dstOk || !tagOk then none
  else if f.etherType = etherType then some rxMILL
  else if f.etherType = 0x0806 then some rxARP
  else if isPause then some rxPAUSE
  else if f.etherType = 0x0800 ∧ ipUdpOk f.payload ip udpPort then some rxUDP
  else none

end Sys2Proof.Machine
end

