-- ==== Sys2Proof/Machine/WeirOps.lean ====
section
/-! DEFINITION. Weir's shared operations (10_weir_ports) and those of the connections (09_millrace): links, slots, addresses, the
state changes of Table 9.10, and what a latch reads of a connection. -/

namespace Sys2Proof.Machine

/-! ### Weir and its ports -/

/-- WEIR is powered and clocked (Table 17.2, R376). -/
def State.weirOn (s : State) : Bool := s.on 7 && s.clk.pllLocked && !s.clk.gated

/-- Port k's own address (R233). -/
def State.portMac (s : State) (k : Nat) : Nat := ((s.shadow 2).val.toNat % 2 ^ 48 + k) % 2 ^ 48

/-- Bit time of a mode's line rate in tenths of a nanosecond (Table 10.1). -/
def bitTime (mode : Nat) : Nat := if mode = 1 then 100 else if mode = 4 then 4 else 10

/-- A PAUSE time of `q` quanta in ns. -/
def pauseNs (mode q : Nat) : Nat := q * 512 * bitTime mode / 10

/-- Quanta worth 100 µs at the line rate (R237). -/
def pauseQuanta (mode : Nat) : Nat := 1000000 / (512 * bitTime mode)

def State.nowNs (s : State) : Nat := 1000 * s.nowUs

/-- The slots of a port that are held: its queued frames, and the one on the wire unless that is a PAUSE frame (R240). -/
def Port.held (p : Port) : List TxFrame := p.queue ++ p.wire.toList.filter (fun f => f.kind != .pause)

/-- A slot of a frame's class is free (R240). -/
def Port.slotFree (p : Port) (k : TxKind) : Bool :=
  let count := fun (x : TxKind) => (p.held.filter (fun f => f.kind == x)).length
  match k with
  | .data => decide (count .data < 120)
  | .control => decide (count .control + count .arp < 8)
  | .arp => decide (count .control + count .arp < 8) && decide (count .arp < 4)
  | .pause => true

/-- The next frame of a port starts (R236, R237, R239): a PAUSE frame ahead of the queue, else the head of the queue unless a pause
holds it. -/
def State.startTx (s : State) (k : Nat) : State :=
  let p := s.port k
  if p.wire.isSome ∨ !p.linkUp then s
  else match p.pauseDue with
    | q :: more =>
      s.setPort k { p with pauseDue := more,
                           wire := some { kind := .pause, bytes := pauseFrameBytes (s.portMac k) q, conns := [], deadline := s.time.tick } }
    | [] =>
      if p.pause.isSome then s
      else match p.queue with
        | [] => s
        | f :: rest => s.setPort k { p with queue := rest, wire := some f }

/-- A frame takes a slot and joins the queue; without a slot it is not built, and each of its PDUs counts (R241). -/
def State.queueFrame (s : State) (k : Nat) (f : TxFrame) : State :=
  let p := s.port k
  if p.linkUp && decide (p.upAt < s.time.tick) && p.slotFree f.kind then
    (s.setPort k { p with queue := p.queue ++ [f] }).startTx k
  else f.conns.foldl (fun s n => s.event bWEIR 18 n) s

/-- The link of a port goes down (R243): the frame under way and the queue are lost, and with them a pause and what it waits for (log 115);
buffers await their pickup. -/
def State.dropLink (s : State) (k : Nat) : State :=
  let s := s.setPort k { s.port k with linkUp := false, queue := [], wire := none, pause := none, pauseNext := none,
                                       pauseDue := [], pausing := false }
  s.condition bWEIR 12 k whoDev ((s.params.port k).mode != 0)

/-- The link comes up; assembly resumes at the next tick edge. -/
def State.raiseLink (s : State) (k : Nat) : State :=
  if (s.port k).linkUp then s
  else (s.setPort k { s.port k with linkUp := true, upAt := s.time.tick }).clear bWEIR 12 k whoDev

/-- A port restarts after a change of its mode or delays, or after its loop-back (R232, R244): queue, buffers and descriptors are
discarded, and it counts as down until its first link-up. -/
def State.restartPort (s : State) (k : Nat) : State :=
  let s := s.setPort k { s.port k with buffers := [] }
  let s := (s.setWindow .a k ((s.window .a k).filter (·.captured))).setWindow .b k ((s.window .b k).filter (·.captured))
  s.dropLink k

/-- PD7 comes on, unless it has been shed (R369): WEIR has the running bundle's tables, and every port with a mode waits for its first
link-up (R243). -/
def State.weirStart (s : State) : State :=
  if s.on 7 || s.pwr.shed then s
  else [0, 1, 2].foldl State.restartPort (({ s with weir := { s.weir with tablesBank := s.bundles.running } } : State).domainOn 7)

/-- PAUSE towards the partner (R237): quanta worth 100 µs whenever the free buffers fall below 32 and at each edge while they are, quanta
0 once more than 64 are free again. A frame that waits for the wire is still sent. -/
def State.pauseTx (s : State) (k : Nat) (edge : Bool) : State :=
  let was := (s.port k).low
  let free := 256 - (s.port k).buffers.length
  let p := { s.port k with low := decide (free < 32) }
  let cfg := s.params.port k
  if cfg.pauseTx = 0 ∨ !p.linkUp then s.setPort k p
  else if free < 32 ∧ (edge ∨ !was) then
    (s.setPort k { p with pausing := true, pauseDue := p.pauseDue ++ [pauseQuanta cfg.mode] }).startTx k
  else if p.pausing ∧ 64 < free then (s.setPort k { p with pausing := false, pauseDue := p.pauseDue ++ [0] }).startTx k
  else s.setPort k p

/-- Remove what is done from a port's buffers (R242). -/
def State.releaseBuffers (s : State) (k : Nat) : State :=
  let p := s.port k
  let done := fun (b : RxBuf) => b.handled && b.todoA.isEmpty && b.todoB.isEmpty && b.waitA == 0 && b.waitB == 0
  s.setPort k { p with buffers := p.buffers.filter (fun b => !done b) }

/-- Descriptors copied into a window hold 1,024 at most (R242). -/
def windowRoom (w : List Descriptor) : Nat := 1024 - (w.filter (fun d => !d.captured)).length

/-- Copy the descriptors that fit. -/
def State.copyDescriptors (s : State) (k : Nat) : State :=
  (s.port k).buffers.foldl (fun s b =>
    let roomA := windowRoom (s.window .a k)
    let roomB := windowRoom (s.window .b k)
    let p := s.port k
    let b' := { b with todoA := b.todoA.drop roomA, waitA := b.waitA + min roomA b.todoA.length,
                       todoB := b.todoB.drop roomB, waitB := b.waitB + min roomB b.todoB.length }
    let s := s.setPort k { p with buffers := p.buffers.map (fun x => if x.id = b.id then b' else x) }
    (s.setWindow .a k (s.window .a k ++ b.todoA.take roomA)).setWindow .b k (s.window .b k ++ b.todoB.take roomB)) s

/-! ### Who runs the connections -/

/-- A channel runs its tick services: its memory is on, the clocks run, and a pair of it works. -/
def State.sideRuns (s : State) (sd : Side) : Bool :=
  s.on (match sd with
    | .a => 9
    | .b => 10) && s.clk.pllLocked && !s.clk.gated && (rolesOf sd).any s.pairRuns

/-- Connections run in these device states (R227). -/
def DevState.connects : DevState → Bool
  | .run => true | .safe => true | .latched => true
  | _ => false

/-- Connections are opened in these (R227). -/
def DevState.opens : DevState → Bool
  | .run => true | .safe => true
  | _ => false

/-- The tick number τ (R207). -/
def State.tau (s : State) : Option Nat := s.time.tau0.map (fun o => s.time.tick - o)

/-- The nonce of a tick (R222). -/
def State.nonce (s : State) (tick : Nat) : Word :=
  BitVec.ofNat 32 (tick - s.time.mountTick.getD 0 + 20000 * s.time.mountSeconds + 40000 * s.pwr.powerCycles)

/-- This end opens the connection (R220). -/
def State.opener (s : State) (n : Nat) : Bool := decide ((s.shadow 0).val.toNat < (s.partnerOf n).identity)

/-- The generation that the opener uses (R223). -/
def State.openGen (s : State) (sd : Side) (n : Nat) : Option Nat :=
  let e := s.connEntry n
  let p := s.partnerOf n
  let gens := (s.conn sd n).partnerGens
  if e.m2 && p.m2 && gens.testBit 1 then some 2
  else if e.m1 && p.m1 && gens.testBit 0 && decide (e.inBits ≤ 32) && decide (e.outBits ≤ 32) then some 1
  else none

/-! ### Learned addresses (R208) -/

def State.learned (s : State) : Side → List Learned
  | .a => s.weir.learnedA
  | .b => s.weir.learnedB

def State.setLearned (s : State) (sd : Side) (l : List Learned) : State :=
  match sd with
  | .a => { s with weir := { s.weir with learnedA := l } }
  | .b => { s with weir := { s.weir with learnedB := l } }

/-- The address in force in this tick, learned in an earlier one. -/
def State.learnedAddr (s : State) (sd : Side) (partner port : Nat) : Option Learned :=
  ((s.learned sd).filter (fun x => x.partner == partner && x.port == port && decide (x.at_ < s.time.tick))).getLast?

/-- Record a partner's source addresses; they are used from the next tick. A frame without an IPv4 header leaves the IPv4 address that was
learned before. -/
def State.learn (s : State) (sd : Side) (partner port mac : Nat) (ip : Option Nat) : State :=
  let keep := s.learnedAddr sd partner port
  let mine := fun (x : Learned) => x.partner == partner && x.port == port
  let last := ((s.learned sd).filter mine).getLast?
  let others := (s.learned sd).filter (fun x => !mine x)
  s.setLearned sd (others ++ keep.toList ++ [⟨partner, port, mac, ip.or (last.bind (·.ip)), s.time.tick⟩])

def State.unknown (s : State) : Side → List UnknownId
  | .a => s.weir.unknownA
  | .b => s.weir.unknownB

/-- The 32 most recently seen unknown identities. -/
def State.seeUnknown (s : State) (sd : Side) (identity port : Nat) : State :=
  let rest := (s.unknown sd).filter (fun x => x.identity != identity)
  let l := (rest ++ [⟨identity, port, s.pwr.opSeconds⟩])
  let l := l.drop (l.length - 32)
  match sd with
  | .a => { s with weir := { s.weir with unknownA := l } }
  | .b => { s with weir := { s.weir with unknownB := l } }

/-! ### Connection states (Table 9.10) -/

/-- The conditions of a channel follow the states of its connections: LOST, REFUSED, and MISMATCH per partner. -/
def State.connSources (s : State) (sd : Side) (n partner : Nat) : State :=
  let who := Side.bit sd
  let st := (s.conn sd n).st
  let s := s.condition bWEIR 1 n who (st == .lost)
  let s := s.condition bWEIR 3 n who (st == .refused)
  let named := (s.faults.live.filter (fun l => l.block == bWEIR && l.index == 4)).map (·.inst)
  ((partner :: named).eraseDups).foldl (fun s p => s.condition bWEIR 4 p who
    (s.connsInUse.any (fun m => (s.connEntry m).partner == p && (s.conn sd m).st == .mismatch))) s

/-- A connection enters a state; outside OPENING and RUN it has no session. Rejections of the last second stay on the connection's account
(R219). -/
def State.connEnter (s : State) (sd : Side) (n : Nat) (st : ConnState) : State :=
  let c := s.conn sd n
  let keep := st == .opening || st == .run
  let c := { c with st := st, since := if c.st = st then c.since else s.time.tick,
                    session := if keep then c.session else none, pendingOpen := if keep then c.pendingOpen else none,
                    due := if keep || st == .refused then c.due else none }
  (s.setConn sd n c).connSources sd n (s.connEntry n).partner

/-- Row 1: the connection starts anew in ABSENT, and its sources end. -/
def State.connReset (s : State) (n : Nat) : State :=
  let p := (s.connEntry n).partner
  let one := fun (s : State) (sd : Side) =>
    let s := s.setConn sd n { since := s.time.tick }
    s.connSources sd n p
  one (one s .a) .b

/-- Row 1 for every connection that has a state. -/
def State.connResetAll (s : State) : State :=
  ((s.weir.conns.map (fun e => e.1 / 2)).eraseDups).foldl State.connReset s

/-- A new session (R216). -/
def Conn.startSession (c : Conn) (x : Session) : Conn :=
  { c with session := some x, vt := 0, vr := 0, echoValid := false, data := 0, fsv := false, accepted := none, before := {} }

/-- Row 12 (R218, R219): the connection is lost. -/
def State.connLose (s : State) (sd : Side) (n : Nat) : State := s.connEnter sd n .lost

/-- A state that may open a new session by an accepted OPEN (rows 7 and 8). -/
def openFrom (st : ConnState) (opener : Bool) : Bool :=
  match st with
  | .opening => !opener
  | _ => true

/-! ### The watchdog (R218, R230) -/

/-- The echo check of R218: both times in units of 250 µs. -/
def echoOk (c : Conn) (p : DataPdu) (period wd : Nat) : Bool :=
  p.echoValid && decide (((c.vt.toNat + 65536 - p.echo) % 65536) * period ≤ wd)

/-- The advance d of a captured DATA PDU of the connection that passes steps 1 and 2 of Table 9.8. -/
def State.dataStep (s : State) (sd : Side) (n : Nat) (ds : Descriptor) : Option (Session × Nat) :=
  let c := s.conn sd n
  let p := readData ds.gen ds.bytes
  let d := (p.seq + 65536 - c.vr.toNat % 65536) % 65536
  match c.session with
  | none => none
  | some x =>
    if (ds.ftype == ftDATA1 || ds.ftype == ftDATA2) && p.handle == n && x.gen == ds.gen && ((ds.ftype == ftDATA1) == (ds.gen == 1)) &&
        d != 0 && decide (d ≤ 255) then some (x, d)
    else none

/-- The channel's own CRC of a DATA PDU verifies (step 3). -/
def State.dataCrcOk (s : State) (sd : Side) (n : Nat) (ds : Descriptor) (x : Session) (d : Nat) : Bool :=
  ownCrcOk ds.gen (sd == .a)
    (virtualPrefix (s.connEntry n).uid x.nO.toNat x.nR.toNat (!x.opener) (((s.conn sd n).vr + BitVec.ofNat 32 d).toNat))
    (dataCrcOff ds.gen) ds.bytes

/-- A captured DATA PDU of the connection that Table 9.8 and the echo check would pass (R230: it wins over the expiry). -/
def State.restarts (s : State) (sd : Side) (n : Nat) (ds : Descriptor) : Bool :=
  let e := s.connEntry n
  match s.dataStep sd n ds with
  | none => false
  | some (x, d) =>
    ds.captured && s.dataCrcOk sd n ds x d && dataReservedOk ds.gen ds.bytes e.inBits &&
      echoOk (s.conn sd n) (readData ds.gen ds.bytes) e.period e.wd

/-- The watchdog has expired at this edge (R218): t_WD has passed since its last restart, and no PDU captured in this tick restarts it.
Connections run in RUN, SAFE and LATCHED only (R227). -/
def State.connExpired (s : State) (sd : Side) (n : Nat) : Bool :=
  let c := s.conn sd n
  let e := s.connEntry n
  s.dev.st.connects && c.st == .run && decide (c.wdStart + 5 * e.wd ≤ s.time.tick) &&
    !(s.sideRuns sd && (s.window sd e.port).any (s.restarts sd n))

/-! ### What a latch reads (R121, R134, R212, R225) -/

/-- The connection as the latch of this tick reads it for a cell: nothing that the tick itself brought, except a loss; an expiry of this
edge comes before the latch (R218, R230). -/
def State.connInput (s : State) (sd : Side) (n cell : Nat) : ConnInput :=
  let c := s.conn sd n
  let now : ConnInput := { run := c.st == .run && !s.connExpired sd n, data := c.data, fsv := c.fsv }
  let x := if c.accepted = some s.time.tick then { c.before with run := c.before.run && now.run } else now
  { x with run := x.run && !(decide (cell ∈ c.lostFor)) }

/-- REMOTE_IN bits of a connection: DATA, or the safe values. -/
def State.remoteBits (s : State) (sd : Side) (n cell : Nat) : Nat :=
  let x := s.connInput sd n cell
  if x.run && !x.fsv then x.data.toNat else (s.connEntry n).safe

/-- The latch of a cell has read its connections: the loss of row 7 has been seen. -/
def State.connLatched (s : State) (sd : Side) (n cell : Nat) : State :=
  let c := s.conn sd n
  if cell ∈ c.lostFor then s.setConn sd n { c with lostFor := setDel c.lostFor cell } else s

/-! ### What a channel sends (R210, R216) -/

/-- The remote output bits of a connection as the last boundaries of a channel's cells command them (R126, R30). -/
def State.remoteOut (s : State) (sd : Side) (n : Nat) : Nat :=
  (s.cellsInUse.filter (fun m => (s.cell sd m).st == .run || (s.cell sd m).st == .shadow)).foldl (fun w m =>
    ((s.cell sd m).remote.filter (fun e => e.1 / 64 == n)).foldl (fun w e => if e.2 = 0 then w else w ||| 2 ^ (e.1 % 64)) w) 0

/-- The channel's connection is one that sends DATA PDUs. -/
def State.sendsData (s : State) (sd : Side) (n : Nat) : Bool :=
  let c := s.conn sd n
  c.session.isSome && (c.st == .run || (c.st == .opening && decide (c.sentAt ≤ s.time.tick) && s.dev.st != .latched))

/-- The channel builds DATA PDUs for the connection. -/
def State.buildsData (s : State) (sd : Side) (n : Nat) : Bool := s.sideRuns sd && s.sendsData sd n

/-- The connection's transmit tick (R210). -/
def State.txDue (s : State) (n : Nat) : Bool :=
  match s.tau with
  | none => false
  | some t =>
    let p := 5 * (s.connEntry n).period
    t % p == n % p

end Sys2Proof.Machine
end

