-- ==== Sys2Proof/Machine/CellOps.lean ====
section
/-! DEFINITION. What a cell evaluation computes (05, 06): how a reference is resolved, the input image of a latch, the evaluation
of a cell's nodes, its output vector and state signature, and the carry map of a live change (R280). -/

namespace Sys2Proof.Machine

/-! ### Sources of the cells -/

/-- The index of a cell's source in its block (Table 13.19). -/
def cellIx (n i : Nat) : Nat := 8 * (n % 16) + i

/-- The placement of a cell in a configuration (R16). -/
def placeOf (r : Option RunCfg) (n : Nat) : CertCell :=
  match r with
  | none => default
  | some r => (r.cells.find? (fun k => k.cell == n)).getD default

/-- The role that a placement names in a channel. -/
def CertCell.role (k : CertCell) : Side → Nat
  | .a => bSA0 + k.sage
  | .b => bBR0 + k.braid

/-- The role that evaluates a cell in a channel. -/
def State.evaluator (s : State) (sd : Side) (n : Nat) : Nat := (placeOf (s.sideCfg sd n) n).role sd

/-- The cells of a channel that a survivor is still taking over (R197). -/
def State.moving (s : State) (sd : Side) (n : Nat) : Bool :=
  s.pairs.moves.any (fun m => decide (m.role ∈ rolesOf sd) && decide (n ∈ m.cells))

/-- The evaluator of a cell works, and has the cell. -/
def State.cellRuns (s : State) (sd : Side) (n : Nat) : Bool := s.pairRuns (s.evaluator sd n) && !s.moving sd n

/-- What runs the new version of a cell in SHADOW works (R278): STB in channel A, the new Braid evaluator in channel B. -/
def State.shadowRuns (s : State) (sd : Side) (n : Nat) : Bool :=
  match sd with
  | .a => s.clocked && s.on 6 && !(s.pair bSTB).inReset && !(s.pair bSTB).retired && s.pairs.stb == .shadows
  | .b => s.pairRuns ((placeOf (s.cfg.live.map (·.next)) n).role .b)

/-- STB is available (R194). -/
def State.stbAvailable (s : State) : Bool :=
  (s.pair bSTB).selfTestOk && !(s.pair bSTB).retired && s.pairs.stbFor.isNone && s.pairs.stb == .free

/-! ### References (R104, R107) -/

/-- What a reference names for the cell that reads it: a constant, a value of the cell itself, or a value of its input image.
`node` marks values that nodes of another cell write. -/
inductive RefSrc where
  | const (v : Nat)
  | ownOut (h j : Nat)
  | ownCmd (ch : Nat)
  | ownRemote (i : Nat)
  | ownWord (w : Nat)
  | image (key : Nat) (node : Bool)
deriving DecidableEq, Repr

/-- Keys of the input image: bit signals by index, node outputs of other cells by cell and offset in its run, words, CONN_OK. -/
def keyOut (cell off : Nat) : Nat := 2 ^ 21 + 2 ^ 20 * cell + off
def keyWord (w : Nat) : Nat := 2 ^ 40 + w
def keyConn (n : Nat) : Nat := 2 ^ 41 + n

def Container.resolve (c : Container) (n r : Nat) : RefSrc :=
  let i := refIndex r
  let written := fun (own : RefSrc) (key : Nat) =>
    match c.producer r with
    | none => RefSrc.const 0
    | some m => if m.cell = n then own else .image key true
  match refKind r with
  | 3 => .const i
  | 1 =>
    match sigRange i with
    | .nodeOut k =>
      match c.outputNode k with
      | none => .const 0
      | some m =>
        let first := (c.cell m.cell).first
        if m.cell = n then .ownOut (m.head - first) (k - m.head) else .image (keyOut m.cell (k - first)) true
    | .field ch b => if b = 15 then written (.ownCmd ch) i else .image i false
    | .remoteOut k b => written (.ownRemote (64 * k + b)) i
    | _ => .image i false
  | 2 => if i < 0x100 then .image (keyWord i) false else written (.ownWord i) (keyWord i)
  | _ => .const 0

/-- Every reference that a cell latches: those of its nodes. -/
def Container.latchRefs (c : Container) (n : Nat) : List Nat :=
  (c.nodesOf n).flatMap (fun m => m.inputs.map (fun f => refAt m.body f.1))

/-- The connections whose CONN_OK a cell latches. -/
def Container.okConns (c : Container) (n : Nat) : List Nat :=
  (c.nodesOf n).filterMap (fun m => if m.type = some .remoteIn then some (leAt m.body 0 2) else none)

/-! ### Images -/

/-- The image of a cell with every initial value (R137). -/
def initImage (c : Container) (n : Nat) : CellImage :=
  let first := (c.cell n).first
  { nodes := (c.nodesOf n).map (fun m =>
      (m.head - first, ⟨((m.type.map (fun t => t.initState m.body)).getD []), List.replicate m.outCount 0⟩)) }

/-- The node output at an offset of a cell's run: that of the node whose head lies at most three records before. -/
def CellImage.out (x : CellImage) (off : Nat) : Nat :=
  ((List.range 4).findSome? (fun j =>
    if j ≤ off then (match x.nodes.get? (off - j) with
      | some v => v.outs[j]?
      | none => none) else none)).getD 0

/-! ### States at a boundary (R34, R129, R134) -/

/-- The commit record that takes effect at this tick (R20). -/
def State.recordDue (s : State) (n : Nat) : Option CommitRecord :=
  (s.line n).record.bind (fun r => if r.at_ = s.time.tick then some r else none)

/-- The entry whose grid the cell's boundaries lie on: that of an added cell from its record on (R395). -/
def State.gridEntry (s : State) (n : Nat) : CellEntry :=
  match (s.line n).record with
  | some r => if r.kind = .added then s.nextCont.cell n else (s.cellCont n).cell n
  | none => (s.cellCont n).cell n

/-- A boundary of the cell falls on this tick (R395). -/
def State.onGrid (s : State) (n : Nat) : Bool :=
  match s.time.origin with
  | none => false
  | some o => decide (0 < (s.gridEntry n).ticks) && (s.time.tick - o) % (s.gridEntry n).ticks == 0

/-- The cell has a boundary now: before a tick's slots begin, in a device that runs its cells. -/
def State.boundaryDue (s : State) (n : Nat) : Bool :=
  s.onGrid n && s.dev.loaded && (s.line n).lastBoundary != some s.time.tick && s.time.slotInTick == 0 &&
    (s.gridEntry n).inUse && (s.dev.st == .run || s.dev.st == .safe || s.dev.st == .latched || s.dev.st == .configure)

/-- Every changed channel that a cell waits for has been read back (R283). -/
def State.channelsReady (s : State) (n : Nat) : Bool :=
  (s.line n).waitChans.all (fun c =>
    let passed := match s.cfg.live with
      | some l => !(l.chanAt.any (fun e => e.1 == c && decide (s.time.tick < e.2)))
      | none => true
    passed && (s.view .a c).rb0 && (s.view .a c).rb1 && (s.view .b c).rb0 && (s.view .b c).rb1)

/-- The state of a cell in a channel after the boundary of this tick. A shadow ends when the device leaves RUN (R289), when its
line becomes active, or after an unclean period (R279). -/
def State.stateAfter (s : State) (sd : Side) (n : Nat) : CellState :=
  let ln := s.line n
  let x := s.cell sd n
  let e := s.gridEntry n
  let active := s.lineActive n || ln.lineSeen
  let leave := fun (done : Bool) => if !e.resetMode || done then CellState.run else .wait
  if ln.removeAt = some s.time.tick then .unused
  else match s.recordDue n with
    | some r =>
      if r.kind = .shadow ∧ x.st = .run ∧ !active ∧ !ln.entry ∧ s.dev.st = .run ∧ s.pairs.stb = .shadows then .shadow else .held
    | none =>
      if ln.removeAt.isSome ∨ ln.toTransition then .held
      else if ln.entry then (if active || !s.channelsReady n then .held else leave false)
      else match x.st with
        | .unused => .unused
        | .held =>
          if x.heldAt + e.ticks ≤ s.time.tick ∧ !s.lineActive n ∧ s.channelsReady n then .wait else .held
        | .wait => if active then .held else leave x.runDone
        | .run => if active then .held else .run
        | .shadow =>
          if active || s.dev.st != .run then .held else if ln.swapAt = some s.time.tick then .run else .shadow

/-- A channel reads the node outputs of a cell in RUN or SHADOW; a boundary of this tick counts whether or not its command has
come yet (R107, R134). -/
def State.readable (s : State) (sd : Side) (n : Nat) : Bool :=
  let st := if s.boundaryDue n then s.stateAfter sd n else (s.cell sd n).st
  st == .run || st == .shadow

/-- CELL_RUN: the state at the last boundary before this latch (Table 5.3). -/
def State.ranBefore (s : State) (sd : Side) (n : Nat) : Bool :=
  let x := s.cell sd n
  let st := if (s.line n).lastBoundary = some s.time.tick then x.prior else x.st
  st == .run || st == .shadow

/-! ### The input image (Table 5.16) -/

/-- The device status signals (Table 5.3), as the tick services of an evaluator role form them. -/
def State.statusSignal (s : State) (sd : Side) (role : Nat) (first : Bool) (i : Nat) : Bool :=
  if i = 0 then s.dev.st == .run
  else if i = 1 then [1, 2, 3, 4, 5, 6].any (fun p => (s.pair p).retired)
  else if i = 2 then s.stbAvailable
  else if i = 3 then first
  else if i < 8 then (s.pairView sd role (16 * (i - 4))).vfOk
  else if 0x100 ≤ i ∧ i < 0x200 then s.ranBefore sd (i - 0x100)
  else if 0x200 ≤ i ∧ i < 0x300 then s.inUse (i - 0x200) && s.lineActive (i - 0x200)
  else false

/-- The value that cell `n` finds for a reference of container `c` outside itself. -/
def State.imageValue (s : State) (sd : Side) (n : Nat) (first : Bool) (c : Container) (r : Nat) : Nat :=
  let i := refIndex r
  let from_ := fun (get : CellImage → Nat) =>
    match c.producer r with
    | none => 0
    | some m => if s.readable sd m.cell then get (s.cell sd m.cell).img else 0
  match refKind r with
  | 1 =>
    match sigRange i with
    | .nodeOut k => from_ (fun x => x.out (k - ((c.outputNode k).map (fun m => (c.cell m.cell).first)).getD 0))
    | .field ch b => if b = 15 then from_ (fun x => x.cmds.getD ch 0) else b2n (s.fieldBit sd (s.evaluator sd n) ch b)
    | .remoteOut k b => from_ (fun x => x.remote.getD (64 * k + b) 0)
    | .device i => b2n (s.statusSignal sd (s.evaluator sd n) first i)
    | .host h => b2n ((s.pair (s.hardware (s.evaluator sd n))).hostAgreed.getLsbD h)
    | .remoteIn k b => b2n ((s.remoteBits sd k n).testBit b)
    | .reserved => 0
  | 2 =>
    if i < 0x40 then (s.pairView sd (s.evaluator sd n) i).icode
    else if i < 0x44 then (s.pairGroup sd (s.evaluator sd n) (i - 0x40)).vfCode
    else if i < 0x48 then (s.pairGroup sd (s.evaluator sd n) (i - 0x44)).tempCode
    else if i < 0x100 then 0
    else from_ (fun x => x.words.getD i 0)
  | _ => 0

/-- The input image of a cell's latch for one version of it. -/
def State.latchOf (s : State) (sd : Side) (n : Nat) (first : Bool) (c : Container) : Tab Nat :=
  let refs := (c.latchRefs n).foldl (fun (t : Tab Nat) r =>
    match c.resolve n r with
    | .image key _ => t.put key (s.imageValue sd n first c r)
    | _ => t) []
  (c.okConns n).foldl (fun t k => t.put (keyConn k) (b2n (s.connInput sd k n).run)) refs

/-- The reset signal of a cell, as a channel watches it each tick (R129): its present value, also where the reference sets PREV (log 81). -/
def State.resetSignal (s : State) (sd : Side) (n : Nat) : Bool :=
  let c := s.sideCont sd n
  let r := (c.cell n).resetRef
  (s.imageValue sd n false c r == 1) != refInv r

/-! ### Evaluation (R107, R122, R137) -/

/-- The value of a reference during an evaluation: `base` holds the values of the previous evaluation, `cur` those computed so
far. -/
def readRef (c : Container) (n : Nat) (run : CellRun) (base cur : CellImage) (r : Nat) : Nat :=
  let own := if refPrev r then base else cur
  let v := match c.resolve n r with
    | .const v => v
    | .ownOut h j => (own.nodes.getD h {}).outs.getD j 0
    | .ownCmd ch => own.cmds.getD ch 0
    | .ownRemote i => own.remote.getD i 0
    | .ownWord w => own.words.getD w 0
    | .image key node =>
      if !refPrev r then run.latch.getD key 0
      else if run.first then (if node then 0 else run.latch.getD key 0)
      else run.prev.getD key 0
  if refInv r then 1 - v else v

/-- One node evaluated. -/
def evalStep (c : Container) (n : Nat) (run : CellRun) (base : CellImage) (cur : CellImage) (m : NodeRec) : CellImage :=
  match m.type with
  | none => cur
  | some t =>
    let h := m.head - (c.cell n).first
    let kind : Nat → Option FieldKind := fun off => (m.inputs.find? (fun f => f.1 == off)).map (·.2)
    let used := fun (off : Nat) => refKind (refAt m.body off) != 0
    let inp := fun (off : Nat) =>
      if used off then readRef c n run base cur (refAt m.body off)
      else match kind off with
        | some (.bit (some d) _) => d
        | _ => 0
    let st := ((base.nodes.get? h).map (·.state)).getD (t.initState m.body)
    let r := evalNode t m.span (c.cell n).tUs m.body inp used (run.latch.getD (keyConn (leAt m.body 0 2)) 0) st
    let cur : CellImage := { cur with nodes := cur.nodes.put h ⟨r.state, r.outs⟩ }
    let cur : CellImage := match m.word? with
      | some w => { cur with words := cur.words.put w r.word }
      | none => cur
    match t with
    | .safeOut => { cur with cmds := (boundChannels c m).foldl (fun t ch => t.put ch (r.binds.getD 0 0)) cur.cmds }
    | .remoteOut => { cur with remote := (m.remoteBits.zip r.binds).foldl (fun t p => t.put p.1 p.2) cur.remote }
    | _ => cur

/-- One evaluation of a cell from the image `base`. -/
def evalCell (c : Container) (n : Nat) (run : CellRun) (base : CellImage) : CellImage :=
  (c.order n).foldl (evalStep c n run base) {}

/-- The output vector (R130), bit 0 first. -/
def Container.vectorOf (c : Container) (n : Nat) (x : CellImage) : List Nat :=
  (c.nodesOf n).flatMap (fun m =>
    match m.type with
    | some .safeOut => [x.cmds.getD (leAt m.body 4 1) 0]
    | some .remoteOut => m.remoteBits.map (fun i => x.remote.getD i 0)
    | _ => [])

/-- The state signature (R132). -/
def Container.signature (c : Container) (n p : Nat) (x : CellImage) : Nat :=
  crc64 (n * 2 ^ 32 + p) ((c.nodesOf n).flatMap (fun m =>
    match m.type with
    | none => []
    | some t =>
      let v := x.nodes.getD (m.head - (c.cell n).first) {}
      sigBytes t v.outs v.state))

/-- The byte of the mirror detail (R269): the outputs of the node at offset `d - 1`. -/
def detailByte (x : CellImage) (d : Nat) : Option Nat :=
  if d = 0 then none else some (bitsToNat (((x.nodes.getD (d - 1) {}).outs).map (· == 1)))

/-! ### Two versions of a cell (R278, R280) -/

/-- The offsets and words of a cell that other cells reference in a container. -/
def Container.externals (c : Container) (n : Nat) : List Nat :=
  (c.cellsInUse.filter (· != n)).flatMap (fun k => (c.latchRefs k).filterMap (fun r =>
    match c.producer r with
    | some m => if m.cell = n then (match c.resolve k r with
        | .image key _ => some key
        | _ => none) else none
    | none => none))

/-- The value of an external result in an image. -/
def CellImage.external (x : CellImage) (key : Nat) : Nat :=
  if keyWord 0 ≤ key then x.words.getD (key - keyWord 0) 0
  else if 2 ^ 21 ≤ key then x.out (key % 2 ^ 20)
  else match sigRange key with
    | .field ch _ => x.cmds.getD ch 0
    | .remoteOut k b => x.remote.getD (64 * k + b) 0
    | _ => 0

/-- The comparison of R278. -/
def sameResults (old new : Container) (n : Nat) (x y : CellImage) : Bool :=
  old.vectorOf n x == new.vectorOf n y &&
    ((old.externals n ++ new.externals n).eraseDups).all (fun k => x.external k == y.external k)

/-- The carry map: each node of the new version takes state and outputs from its partner in `x`, or keeps those of `own`. -/
def carryMap (old new : Container) (n : Nat) (x own : CellImage) : CellImage :=
  let partner := fun (m : NodeRec) => (old.nodesOf n).find? (fun k => k.tag == m.tag && k.code == m.code && k.span == m.span)
  (new.nodesOf n).foldl (fun (acc : CellImage) m =>
    let h := m.head - (new.cell n).first
    let src := match partner m with
      | some _ => x
      | none => own
    let from_ := (partner m).getD m
    let fromH := match partner m with
      | some k => k.head - (old.cell n).first
      | none => h
    let acc : CellImage := { acc with nodes := acc.nodes.put h (src.nodes.getD fromH {}) }
    let acc : CellImage := match m.word?, from_.word? with
      | some w, some v => { acc with words := acc.words.put w (src.words.getD v 0) }
      | _, _ => acc
    let acc : CellImage := { acc with
      cmds := (boundChannels new m).foldl (fun t ch => t.put ch (src.cmds.getD (leAt from_.body 4 1) 0)) acc.cmds }
    { acc with remote := (m.remoteBits.zip from_.remoteBits).foldl (fun t p => t.put p.1 (src.remote.getD p.2 0)) acc.remote }) {}

end Sys2Proof.Machine
end

