-- ==== Sys2Proof/Machine/Cells.lean ====
section
/-! DEFINITION. Cells in their periods: boundary, evaluation, reconciliation and the sources that follow (05: R126 to R134; 08: R189,
R190; 12: R278 to R282). -/

namespace Sys2Proof.Machine

/-! ### Runs -/

/-- The cell becomes safe: every evaluation under way counts as one of a cell held safe (R128). -/
def CellSide.makeSafe (x : CellSide) (init : CellImage) (tick : Nat) (fresh : Bool) : CellSide :=
  { x with
    work := init, img := init, shadowWork := {}, first := true, lastLatch := [], pub := none, pubRemote := [], remote := [], kept := false,
    heldAt := if fresh then tick else x.heldAt, runFrom := none, runDone := false, resetOn := true,
    runs := x.runs.map (fun r => { r with safe := true, late := false, result := some init, catchUp := false, isShadow := false }) }

/-- The requests of the outputs that a cell binds; they enter the token streams of the channels read back by now (Table 3.17). -/
def State.setReqs (s : State) (sd : Side) (chans : List Nat) (f : Nat → Bool) : State :=
  chans.foldl (fun s c => s.setView sd c { s.view sd c with req := f c, taken := (s.view sd c).ready }) s

/-- The channels that any version of the cell binds. -/
def State.boundBy (s : State) (n : Nat) : List Nat :=
  let olds := match s.cfg.live with
    | some l => l.olds.flatMap (fun r => r.cont.outChans n)
    | none => []
  (s.runCont.outChans n ++ s.nextCont.outChans n ++ olds).eraseDups

/-- The output command of a running cell at its boundary: a rewrite of the requests and the remote output bits; without one the token unit
keeps the requests for one period on side A and drops them on side B (R190), and the remote output bits go off (R30). -/
def State.applyRequests (s : State) (sd : Side) (n : Nat) : State :=
  let x := s.cell sd n
  match (if s.cellRuns sd n then x.pub else none) with
  | some cmds =>
    (s.setReqs sd (s.boundBy n) (fun c => cmds.getD c 0 == 1)).setCell sd n
      { x with pub := none, remote := x.pubRemote, kept := false }
  | none =>
    if sd = .a ∧ !x.kept then
      (s.setReqs sd (s.boundBy n) (fun c => (s.view sd c).req)).setCell sd n { x with pub := none, remote := [], kept := true }
    else (s.setReqs sd (s.boundBy n) (fun _ => false)).setCell sd n { x with pub := none, remote := [] }

/-- An evaluation of the cell is still to be completed. -/
def CellSide.evaluating (x : CellSide) : Bool := x.runs.any (fun r => r.result.isNone)

/-- One channel's part of a boundary: its state, its requests and its images. At a swap the carry map waits for the last old period where
its evaluation is not complete yet (R280); `old` is the container that the channel has run the cell from. A reset run counts in SAFE_WAIT
when it starts after the tick of the boundary that enters it (R129, log 81). -/
def State.boundarySide (s : State) (sd : Side) (n : Nat) (st : CellState) (old : Container) (versionNew : Bool) : State :=
  let x0 := s.cell sd n
  let c := s.sideCont sd n
  let x := { x0 with prior := x0.st, st := st, detail := s.params.detail.getD n 0 }
  match st with
  | .unused => (s.setReqs sd (s.boundBy n) (fun _ => false)).setCell sd n { prior := x0.st }
  | .held =>
    let x := if x0.st != .held || versionNew then x.makeSafe (initImage c n) s.time.tick true else x
    (s.setReqs sd (s.boundBy n) (fun _ => false)).setCell sd n x
  | .wait =>
    let x := if x0.st != .wait then
        { x.makeSafe (initImage c n) s.time.tick false with heldAt := x0.heldAt, resetOn := s.resetSignal sd n } else x
    (s.setReqs sd (s.boundBy n) (fun _ => false)).setCell sd n x
  | .run =>
    if x0.st = .run then (s.setCell sd n x).applyRequests sd n
    else if x0.st = .shadow then
      let x := if x.evaluating then x else { x with work := carryMap old c n x.work x.shadowWork, shadowWork := {} }
      let x := { x with disc := 0, sigc := 0 }
      (s.setCell sd n x).applyRequests sd n
    else
      (s.setReqs sd (s.boundBy n) (fun _ => false)).setCell sd n (x.makeSafe (initImage c n) s.time.tick false)
  | .shadow =>
    let x := if x0.st = .run then
        { x with shadowWork := carryMap old s.nextCont n x.work (initImage s.nextCont n) } else x
    (s.setCell sd n x).applyRequests sd n

/-- Ticks from this boundary to the next one of a grid: less than a period where a direct change of k takes effect between two
boundaries of the new grid (R395, log 99). -/
def State.toNextBoundary (s : State) (e : CellEntry) : Nat :=
  e.ticks - (s.time.tick - s.time.origin.getD 0) % max 1 e.ticks

/-- The latch of the period that begins: a new evaluation of the cell in one channel. It takes the inputs of the new version too while a
shadow run is at hand, so that its PREV references find their values at b₀ (R107, R278). -/
def State.latchSide (s : State) (sd : Side) (n p : Nat) : State :=
  let x := s.cell sd n
  let c := s.sideCont sd n
  let e := c.cell n
  let len := if e.retry then s.toNextBoundary e + e.ticks else s.toNextBoundary e
  let safe := x.st == .held || x.st == .wait
  let run : CellRun := { p := p, start := s.time.tick, recon := s.time.tick + len - 1, ver := (s.line n).version sd, safe := safe }
  if x.st = .unused then s
  else if safe then s.setCell sd n { x with runs := x.runs ++ [{ run with result := some x.img }] }
  else
    let late := decide (s.evaluator sd n ∈ s.pairs.takeover) || s.moving sd n
    let shadow := x.st == .shadow
    let latch : Tab Nat := if late then [] else
      let t : Tab Nat := s.latchOf sd n x.first c
      if shadow then (s.latchOf sd n x.first s.nextCont).foldl (fun (t : Tab Nat) e => t.put e.1 e.2) t
      else if (s.line n).record.any (fun r => r.kind == .shadow) then
        (s.latchOf sd n x.first s.nextCont).foldl (fun (t : Tab Nat) e => if (t.get? e.1).isNone then t.put e.1 e.2 else t) t
      else t
    let run := { run with first := x.first, late := late, latch := latch, prev := x.lastLatch, takeover := late, isShadow := shadow }
    let s := s.setCell sd n { x with runs := x.runs ++ [run], lastLatch := latch, first := false }
    ((c.okConns n) ++ c.depConns n).foldl (fun s k => s.connLatched sd k n) s

/-- The cell's version and its course after this boundary: a record takes effect, a shadow ends or swaps, a removed cell is
released (R276 to R282). -/
def State.boundaryLine (s : State) (n : Nat) (stA stB : CellState) : CellLine :=
  let ln := s.line n
  let shadow := stA == .shadow || stB == .shadow
  let ends := fun (sd : Side) (st : CellState) => ((s.cell sd n).st == .shadow && st != .shadow) || ln.toTransition
  let endA := ends .a stA
  let endB := ends .b stB
  let waits := stA == .held || stB == .held
  let ln : CellLine := match s.recordDue n with
    | some r =>
      let changed : List Nat := match s.cfg.live with
        | some l => l.chanAt.map (fun e => e.1)
        | none => []
      let ln : CellLine := { ln with record := none }
      if r.kind = .removed then { ln with removeAt := some (s.time.tick + (s.gridEntry n).ticks) }
      else
        let ln : CellLine := { ln with ver := if stA = .shadow then ln.ver else 1, verB := if stB = .shadow then ln.verB else 1 }
        if shadow then
          { ln with swapAt := some (s.time.tick + r.periods * (s.gridEntry n).ticks), clean := 0, toTransition := false }
        else { ln with waitChans := changed.filter (fun c => decide (c ∈ s.nextCont.depChans n)) }
    | none => ln
  let ln : CellLine := if ln.removeAt = some s.time.tick then { ln with removeAt := none, ver := 1, verB := 1 } else ln
  let ln := if endA then { ln with ver := 1 } else ln
  let ln := if endB then { ln with verB := 1 } else ln
  let ln := if (endA || endB) && !shadow then { ln with swapAt := none, toTransition := false } else ln
  let ln := if !waits then { ln with waitChans := [] } else ln
  let live := s.cfg.live.isSome
  { ln with ver := if live then ln.ver else 0, verB := if live then ln.verB else 0, entry := false, lineSeen := s.lineActive n,
            lastBoundary := some s.time.tick,
            handAt := match ln.handAt with
              | some t => if t ≤ s.time.tick then none else some t
              | none => none }

/-- What a period number is ahead of a grid of `new` ticks, so that it runs on from one of `old` ticks (R132); `t` is the time since the
cell-timing origin. -/
def gridShift (t : Nat) (off : Int) (old new : Nat) : Int :=
  if old = 0 ∨ new = 0 then off else (t / old : Nat) + off - (t / new : Nat)

/-- The lines of the cells for a configuration that replaces the one they run from: nothing but their period numbers, which run on (R132). -/
def State.linesFor (s : State) (new : Container) : Tab CellLine :=
  let off := fun (n : Nat) => match s.time.origin with
    | none => (s.line n).pOff
    | some o => gridShift (s.time.tick - o) (s.line n).pOff (if s.inUse n then ((s.cellCont n).cell n).ticks else 0) (new.cell n).ticks
  ((List.range 256).filter (fun n => off n != 0)).map (fun n => (n, ({ pOff := off n } : CellLine)))

/-- The number of the period that begins, and how far it is ahead of the cell's grid from here on (R132, R134): it runs on where the
version that takes effect has another period. -/
def State.periodNumber (s : State) (n : Nat) (ln : CellLine) : Nat × Int :=
  let t := s.time.tick - s.time.origin.getD 0
  let now := (t / max 1 (s.gridEntry n).ticks : Nat) + (s.line n).pOff
  let k : CellEntry := match s.versionCont ln.ver with
    | some r => r.cont.cell n
    | none => default
  let off := if (s.cell .a n).st = .unused then (s.line n).pOff else gridShift t (s.line n).pOff (s.gridEntry n).ticks k.ticks
  ((now % 2 ^ 32).toNat, off)

/-- The evaluator of a channel takes its checkpoint at the boundary (R186); the cells with an evaluation to complete are its queue. -/
def State.cellCheckpoint (s : State) (sd : Side) (n : Nat) : State :=
  let role := s.evaluator sd n
  let q := s.hardware role
  if (s.pair q).inReset then s
  else s.checkpoint q (s.cellsInUse.filter (fun k => s.evaluator sd k == role && (s.cell sd k).runs.any (fun r => r.result.isNone)))

/-- CELL_BOUNDARY (R126): the record, the state of R129 or R34, the requests of the period that ends, and the latch of the one that
begins. CELL.SWAP and CELL.TRANSITION are raised here (R279, R281). -/
def execCellBoundary (n : Nat) (s : State) : Host.Outcome State Fault Refusal :=
  .next (if !s.boundaryDue n then s
    else
      let before := (s.cell .a n).st
      let stA := s.stateAfter .a n
      let stB := s.stateAfter .b n
      let rec_ := s.recordDue n
      let transition := (s.line n).toTransition || (rec_.any (fun r =>
        (r.kind == .direct || r.kind == .shadow) && stA != .shadow))
      let swap := before == .shadow && stA == .run
      let oldA := s.sideCont .a n
      let oldB := s.sideCont .b n
      let ln := s.boundaryLine n stA stB
      let newA := rec_.isSome || ln.ver != (s.line n).ver
      let newB := rec_.isSome || ln.verB != (s.line n).verB
      let (p, pOff) := s.periodNumber n ln
      let s := s.setLine n { ln with p := p, pOff := pOff }
      let s := (s.boundarySide .a n stA oldA newA).boundarySide .b n stB oldB newB
      let s := (s.latchSide .a n p).latchSide .b n p
      let s := (s.cellCheckpoint .a n).cellCheckpoint .b n
      let s := if swap then s.event (bCELL n) (cellIx n 5) n else s
      (if transition then s.event (bCELL n) (cellIx n 6) n else s).purgeHolds)

/-! ### Evaluation -/

/-- The oldest evaluation of a cell that has not been completed. -/
def CellSide.pendingRun (x : CellSide) : Option CellRun := x.runs.find? (fun r => r.result.isNone)

/-- Replace the run that started at a tick. -/
def CellSide.putRun (x : CellSide) (r : CellRun) : CellSide :=
  { x with runs := x.runs.map (fun y => if y.start = r.start then r else y) }

/-- The container that an evaluation runs from. -/
def State.verCont (s : State) (v : Nat) : Container := ((s.versionCont v).map (·.cont)).getD default

/-- An evaluation ends: its image is the next one (R186). One whose reconciliation point has passed updates the image at once
and is over (R189). A re-run that ends after b₀ or after the swap boundary is the last old period that the carry map applies to (R278,
R280). -/
def State.finishRun (s : State) (sd : Side) (n : Nat) (r : CellRun) (used : Nat) : State :=
  let s := s.addLoad (s.evaluator sd n) used
  let x := s.cell sd n
  let ln := s.line n
  let c := s.verCont r.ver
  let img := evalCell c n r x.work
  let shadow := if r.isShadow && s.shadowRuns sd n then some (evalCell s.nextCont n r x.shadowWork) else none
  let r := { r with result := some img, shadow := shadow, used := used }
  let now := ln.version sd
  let own := shadow.getD x.shadowWork
  let more := x.runs.any (fun y => y.result.isNone && y.start != r.start && y.ver == r.ver)
  let swapped := r.ver != now && !more
  let work := if swapped then carryMap c (s.verCont now) n img own else img
  let own := if swapped then {}
    else if x.st = .shadow ∧ !r.isShadow ∧ r.ver = now then carryMap c s.nextCont n img (initImage s.nextCont n) else own
  let x := { x with work := work, shadowWork := own, usedMax := max x.usedMax used }
  let passed := match ln.lastRecon with
    | some t => decide (r.recon ≤ t)
    | none => false
  if passed then s.setCell sd n { x with img := img, runs := x.runs.filter (fun y => y.start != r.start) }
  else s.setCell sd n (x.putRun r)

/-- CELL_EVALUATION_DONE: a working evaluator completes the oldest evaluation; `used` is the evaluation time used (R21). -/
def execCellEvaluationDone (sd : Side) (n used : Nat) (s : State) : Host.Outcome State Fault Refusal :=
  .next (match (s.cell sd n).pendingRun with
    | none => s
    | some r => if r.late ∨ !s.cellRuns sd n then s else s.finishRun sd n r used)

/-! ### Reconciliation (R130 to R133) -/

/-- The evaluation whose reconciliation point falls on this tick. -/
def State.dueRun (s : State) (sd : Side) (n : Nat) : Option CellRun :=
  (s.cell sd n).runs.find? (fun r => r.recon == s.time.tick)

/-- A channel's half of the exchange: absent while its evaluator is down, and for an evaluation that is not completed or is a
catch-up run (R128, R189). -/
def State.halfOf (s : State) (sd : Side) (n : Nat) : Option Half :=
  match s.dueRun sd n with
  | none => none
  | some r =>
    if !s.cellRuns sd n ∨ r.catchUp then none
    else match r.result with
      | none => none
      | some img =>
        let c := s.verCont r.ver
        let zero := (c.vectorOf n img).map (fun _ => 0)
        some ⟨if r.safe then zero else c.vectorOf n img, c.signature n r.p img, r.p,
          match r.shadow with
          | some y => sameResults c s.nextCont n img y
          | none => false⟩

/-- The counts of R131 and R133 after an exchange. -/
def nextCounts (mine other : Option Half) (disc sigc : Nat) : Nat × Nat :=
  match mine, other with
  | some a, some b =>
    if a.vector ≠ b.vector ∨ a.p ≠ b.p then (disc + 1, 0)
    else (0, if a.signature ≠ b.signature then sigc + 1 else 0)
  | _, _ => (disc + 1, 0)

/-- One channel's part of a reconciliation point. A vector that was not available commands nothing ON (R30): after a lockstep retry or
a takeover the requests are left to the token unit (R190), otherwise they are off. -/
def State.reconSide (s : State) (sd : Side) (n : Nat) (mine other : Option Half) (clean : Nat) (verdict : Option Bool) : State :=
  let x := s.cell sd n
  match s.dueRun sd n with
  | none => s
  | some r =>
    let off := (s.boundBy n).map (fun c => (c, 0))
    let k := nextCounts mine other x.disc x.sigc
    let x := { x with half := mine, disc := k.1, sigc := k.2 }
    let x := match r.result with
      | some img =>
        { x with img := img, runs := x.runs.filter (fun y => y.start != r.start),
                 pub := if r.safe || !s.cellRuns sd n then none
                   else if r.catchUp then (if r.rerun || r.takeover then none else some off)
                   else some img.cmds,
                 pubRemote := if r.safe || r.catchUp then [] else img.remote }
      | none =>
        { x.putRun { r with catchUp := true } with
          pub := if r.rerun || r.takeover || !s.cellRuns sd n then none else some off, pubRemote := [] }
    let m := x.mirror
    let snap : Snapshot :=
      { st := x.st, vector := (mine.map (·.vector)).getD m.vector, signature := (mine.map (·.signature)).getD m.signature,
        disc := x.disc, sigc := x.sigc, used := r.used, detail := detailByte x.img x.detail, clean := clean,
        verdict := verdict }
    s.setCell sd n { x with mirrorNext := some snap }

/-- RECONCILIATION_POINT: in the tick before the boundary at which the command applies; the verdict of a shadow period is taken
from both halves (R279). -/
def execReconciliationPoint (n : Nat) (s : State) : Host.Outcome State Fault Refusal :=
  .next (
    let ln := s.line n
    let ra := s.dueRun .a n
    let rb := s.dueRun .b n
    if ln.lastRecon = some s.time.tick ∨ (ra.isNone ∧ rb.isNone) then s
    else
      let a := s.halfOf .a n
      let b := s.halfOf .b n
      let shadow := ra.any (·.isShadow) || rb.any (·.isShadow)
      let clean := a.any (·.shadowEq) && b.any (·.shadowEq)
      let ln := { ln with lastRecon := some s.time.tick,
                          clean := if shadow && clean then ln.clean + 1 else ln.clean,
                          toTransition := ln.toTransition || (shadow && !clean) }
      let s := s.setLine n ln
      let verdict := if shadow then some clean else none
      (s.reconSide .a n a b ln.clean verdict).reconSide .b n b a ln.clean verdict)

/-! ### Sources -/

/-- WINDOW_MISS (R127): an evaluation that no lockstep retry has interrupted is not complete at its reconciliation point. -/
def execWindowMiss (sd : Side) (n : Nat) (s : State) : Host.Outcome State Fault Refusal :=
  .next (
    let x := s.cell sd n
    match x.runs.find? (fun r => r.result.isNone && !r.rerun && !r.missed && decide (r.recon ≤ s.time.tick)) with
    | none => s
    | some r =>
      (s.setCell sd n (x.putRun { r with missed := true, catchUp := true })).event (bCELL n) (cellIx n 2) n)

/-- AB_DISCREPANCY (R131). -/
def execAbDiscrepancy (sd : Side) (n : Nat) (s : State) : Host.Outcome State Fault Refusal :=
  .next (if ((s.sideCont sd n).cell n).limit + 1 ≤ (s.cell sd n).disc then s.event (bCELL n) (cellIx n 0) n else s)

/-- SIG_MISMATCH (R133). -/
def execSigMismatch (sd : Side) (n : Nat) (s : State) : Host.Outcome State Fault Refusal :=
  .next (if 2 ≤ (s.cell sd n).sigc then s.event (bCELL n) (cellIx n 1) n else s)

/-- The deadline of a re-run has passed: the reconciliation point with a retry slot, the next latch without (R189). -/
def State.rerunLate (s : State) (n : Nat) (r : CellRun) : Bool :=
  let e := (s.verCont r.ver).cell n
  if e.retry then (match (s.line n).lastRecon with
    | some t => decide (r.recon ≤ t)
    | none => false)
  else decide (r.start + e.ticks ≤ s.time.tick)

/-- CATCHUP_LATE (R189). -/
def execCatchupLate (sd : Side) (n : Nat) (s : State) : Host.Outcome State Fault Refusal :=
  .next (if (s.cell sd n).runs.any (fun r => r.result.isNone && r.rerun && !r.takeover && s.rerunLate n r) then
      s.event (bCELL n) (cellIx n 3) n
    else s)

end Sys2Proof.Machine
end

