-- ==== Sys2Proof/Machine/FieldDie.lean ====
section
/-! DEFINITION. The field dies (03: R56 to R84; 15: R331 to R333): classes, frames, switches, lockouts. -/

namespace Sys2Proof.Machine

/-! ### Classes (R57, R58, R397) -/

/-- A comparator with a rising and a falling threshold (R57). The ranges of its thresholds decide where they can. -/
def comparator (was : Bool) (mv riseLo riseHi fallLo fallHi : Int) (t : Int × Int) : Bool :=
  if was then (if fallHi ≤ mv then true else if mv < fallLo then false else decide (t.2 ≤ mv))
  else (if riseHi < mv then true else if mv ≤ riseLo then false else decide (t.1 < mv))

/-- The rising and the falling threshold of a channel's Type 3 comparator in mV: constants anywhere in the ranges of Table 3.5, 1.0 to
3.0 V apart. -/
def type3Thresholds (c : Nat) : Int × Int :=
  let rise := 8000 + Config.inputRise c % 2301
  let lo := max 5700 (rise - 3000)
  let hi := min 8000 (rise - 1000)
  ((rise : Int), ((lo + Config.inputFall c % (hi - lo + 1) : Nat) : Int))

/-- The same thresholds through the divider of Type 1 (R57), inside the ranges that Table 3.5 rounds. -/
def type1Thresholds (c : Nat) : Int × Int :=
  let t := type3Thresholds c
  (min 14400 (t.1 * 14 / 10), max 8000 (t.2 * 14 / 10))

/-- The Type 3 or Type 1 comparator of a channel (Table 3.5). -/
def inputComparator (mode c : Nat) (was : Bool) (mv : Int) : Bool :=
  if mode = mIN_T1 then comparator was mv 11200 14400 8000 11200 (type1Thresholds c)
  else comparator was mv 8000 10300 5700 8000 (type3Thresholds c)

/-- The class of a monitored contact (Table 3.6) at a land voltage, the boundaries below 8 V scaled by VFg / 24 V; inside a
boundary zone one of the two neighbours, freely. -/
def monitoredClass (mv vf : Int) (free : Bool) : Nat :=
  let above := fun (b : Int) => decide (b * vf ≤ mv * 24000)
  if 11000 ≤ mv then clON
  else if 8000 ≤ mv then (if free then clON else clUNDEF)
  else if above 5100 then clUNDEF
  else if above 5000 then (if free then clUNDEF else clOPEN)
  else if above 1500 then clOPEN
  else if above 1450 then (if free then clOPEN else clUNDEF)
  else if above 1050 then clUNDEF
  else if above 1000 then (if free then clUNDEF else clBREAK)
  else clBREAK

/-- The class a marked slot samples. `comp` is the comparator's state. -/
def sampleClass (mode : Nat) (comp : Bool) (smp : LandSample) (vf : Int) (free : Bool) : Nat :=
  if mode = mOFF ∨ 8 ≤ mode then clNONE
  else if mode = mIN_MON then monitoredClass smp.landMv vf free
  else if mode = mIN_T1 ∨ mode = mIN_T3 then (if comp then clON else clOFF)
  else if comp ∧ smp.convMv ≤ 5000 then clUNDEF
  else if !comp ∧ 11000 ≤ smp.convMv then clUNDEF
  else if comp then clON
  else clOFF

/-! ### Registers and the status frame -/

/-- A lockout holds the channel (R64, R69). -/
def lockedOut (d : DieSt) (ch : DieCh) : Bool := ch.ol || ch.ot || d.uv || d.ov

/-- The channel registers of Table 3.16. -/
def dieReg (d : DieSt) (ch : DieCh) (a : Nat) : Nat :=
  match a with
  | 0x0 => ch.mode
  | 0x1 => 2 * ch.slew + ch.lead
  | 0x2 => b2n ch.ot * 8 + b2n ch.ol * 4 + b2n d.ov * 2 + b2n d.uv
  | 0xE => 0x01
  | 0xF => ch.echo
  | _ => 0

/-- EXT of a RUN slot (Table 3.15). -/
def dieExt (d : DieSt) (ch : DieCh) (sel : Nat) : Nat :=
  if sel < 0x10 then dieReg d ch sel
  else if sel = 0x10 then d.vfCode % 64
  else if sel = 0x11 then d.vfCode / 64
  else if sel = 0x12 then d.tempCode % 64
  else if sel = 0x13 then d.tempCode / 64
  else 0

/-- The answer to a command frame. -/
def dieStatus (d : DieSt) (ch : DieCh) (fcnt cls icode : Nat) (mid : Bool) (ext : Nat) : BitVec 40 :=
  StatusFrame.pack
    { state := if !ch.synced then 2 else if lockedOut d ch then 3 else 1,
      fcnt := fcnt, cls := if ch.synced then cls else clNONE, icode := icode, mid := mid, swa := ch.swA, swb := ch.swB,
      ol := ch.ol, ot := ch.ot, uv := d.uv, ov := d.ov, atokBad := ch.atokBad, btokBad := ch.btokBad, ext := ext }

/-- Both switches open; a slice under way is aborted (R333). -/
def DieCh.open (ch : DieCh) : DieCh :=
  { ch with swA := false, swB := false, slice := ch.slice.map (fun x => { x with aborted := true }) }

/-- The channel leaves SYNCED (R79, R81). The run of OFF frames of R64 counts accepted frames only, so it stands. -/
def DieCh.unsync (ch : DieCh) : DieCh := { ch.open with synced := false, prevOnA := false, prevOnB := false }

/-- R70: a side's switch needs its OFF token again. -/
def DieCh.rearm (ch : DieCh) : DieCh := { ch with armA := false, armB := false }

/-- Table 3.1: in these modes the switches may close. -/
def modeDrives (m : Nat) : Bool := m == 4 || m == 5 || m == 6 || m == 7

/-- A slot 1 frame with a slice code that opens no switch of the channel starts a slice (R332, R333): an ON token in it waits for the
slice to end (R84). `opened`: the frame opens a switch. -/
def DieCh.startsSlice (ch : DieCh) (slot1 opened : Bool) (f : BitVec 40) : Bool :=
  slot1 && !opened && ch.slice.isNone && frBits f 39 38 == tyRUN && !cmdTick f && decide (0x18 ≤ cmdSel f)

/-- The tokens of an accepted frame with counter n, and the next history: every side's switch opens on a token that is not
its ON token; it closes on the second ON token at d = 1 when nothing holds it (R80, R84). `opens`: a cause other than the
tokens opens both. -/
def DieCh.takeTokens (ch : DieCh) (d : DieSt) (c n step : Nat) (slot1 : Bool) (f : BitVec 40) (opens : Bool) : DieCh :=
  let atok := frBits f 32 27
  let btok := frBits f 26 21
  let aOn := atok == token .a n true c
  let aOff := atok == token .a n false c
  let bOn := btok == token .b n true c
  let bOff := btok == token .b n false c
  let opened := (ch.swA && !aOn) || (ch.swB && !bOn)
  let may := !opens && step == 1 && !lockedOut d ch && ch.slice.isNone && !ch.startsSlice slot1 opened f && modeDrives ch.mode
  { ch with
    nLast := BitVec.ofNat 16 n,
    swA := aOn && !opens && (ch.swA || (may && ch.prevOnA && ch.armA)),
    swB := bOn && !opens && (ch.swB || (may && ch.prevOnB && ch.armB)),
    prevOnA := aOn, prevOnB := bOn,
    armA := ch.armA || aOff, armB := ch.armB || bOff,
    atokBad := !aOn && !aOff, btokBad := !bOn && !bOff,
    offRun := if aOff && bOff then ch.offRun + 1 else 0 }

/-! ### Frames -/

/-- The comparator follows the land (R57). -/
def DieCh.compare (ch : DieCh) (c : Nat) (smp : LandSample) : DieCh :=
  { ch with comp := inputComparator ch.mode c ch.comp smp.landMv }

/-- Slot 1 of a tick is under way, in which alone a slice starts (R332). -/
def State.inSlot1 (s : State) : Bool := s.time.slotInTick == 2

/-- What a marked slot samples and converts (R75, R58, R397): the class, the current and the group's VF and temperature
codes. -/
def State.dieSample (s : State) (c : Nat) (smp : LandSample) : State :=
  let g := c / 16
  let d := { s.die g with vfCode := min 4095 (smp.vfMv / 10), tempCode := Config.dieTemp s.free % 4096 }
  let ch := s.chan c
  let s := (s.setDie g d).setChan c
    { ch with cls := sampleClass ch.mode ch.comp smp (10 * d.vfCode) (Config.freeBit (s.free + 1)), icode := min 255 smp.current }
  { s with free := s.free + 2 }

/-- The slice under way ends aborted (R333). -/
def DieCh.cut (ch : DieCh) (tick : Nat) : DieCh :=
  { ch with slice := none, cutAt := if ch.slice.isSome then some tick else ch.cutAt }

/-- A slot in which the die accepts no frame: no answer, and a slice under way is aborted (R71, R333). -/
def State.dieSilent (s : State) (c : Nat) : State := s.setChan c { (s.chan c).cut s.time.tick with answer := none }

/-- The midpoint readback (R62): above VFg / 2. -/
def midRead (smp : LandSample) : Bool := decide (smp.vfMv < 2 * smp.midMv)

/-- The answer to a frame that carries no slice step: an aborted slice answers it with NO_DATA, ICODE 0 and MID 0 (R333). -/
def DieCh.reply (ch : DieCh) (tick : Nat) (d : DieSt) (fcnt : Nat) (mid wasSlice : Bool) (ext : Nat) : DieCh :=
  { ch.cut tick with
            answer := some (if wasSlice then dieStatus d ch fcnt clNONE 0 false ext else dieStatus d ch fcnt ch.cls ch.icode mid ext) }

/-- One frame at a live die: comparator, the sample of a marked slot, which the TICK bit orders before the CRC is checked (Table 3.10), CRC
level, synchronisation and sequence (R71, R79). `take` is the effect of an
accepted frame with its n and d. The sequence check of R79 excepts no TYPE, so a SYNC at d = 0 or d ≥ 11 makes a SYNCED channel
UNSYNC, and the next SYNC synchronises it (log 98). -/
def State.dieFrame (s : State) (c : Nat) (ty : Nat) (f : BitVec 40) (smp : LandSample)
    (take : State → Nat → Nat → State) : State :=
  if !(s.die (c / 16)).alive ∨ (cmdOk f ∧ frBits f 39 38 ≠ ty) then s
  else
    let s := s.setChan c ((s.chan c).compare c smp)
    let s := if cmdTick f then s.dieSample c smp else s
    if !cmdOk f then s.dieSilent c
    else
      let ch := s.chan c
      let d := (cmdFcnt f + 16 - ch.nLast.toNat % 16) % 16
      let answer := fun (x : DieCh) =>
        s.setChan c ({ x with atokBad := false, btokBad := false }.reply s.time.tick (s.die (c / 16)) (cmdFcnt f) (midRead smp) ch.slice.isSome 0)
      if ch.synced ∧ (d = 0 ∨ 11 ≤ d) then answer ch.unsync
      else if ty = tySYNC then take s (frBits f 20 9 * 16 + cmdFcnt f) 0
      else if !ch.synced then answer ch
      else take s ((ch.nLast.toNat + d) % 65536) d

/-- A channel slice in an accepted RUN frame of an unmarked slot (R331 to R333): the channel's slice after it, and the
frame's ICODE and MID when the slice gives them. `was` is the channel before the frame's tokens. -/
def sliceStep (was ch : DieCh) (slot1 : Bool) (sel result : Nat) : Option DieSlice × Option (Nat × Bool) :=
  let opened := (was.swA && !ch.swA) || (was.swB && !ch.swB)
  match was.slice with
  | none => if slot1 ∧ 0x18 ≤ sel ∧ !opened then (some ⟨sel, 1, false⟩, some (result, false)) else (none, none)
  | some x =>
    if x.aborted ∨ opened ∨ sel ≠ x.sel then (none, some (0, false)) else (some { x with step := 2 }, some (result, true))

/-- A slice has ended before the frame of another slot than 2: one whose steps have both run is complete, any other was aborted, since no
frame was accepted in slot 2 (R333). -/
def DieCh.endSlice (ch : DieCh) (tick : Nat) : DieCh :=
  match ch.slice with
  | none => ch
  | some x => if x.step = 2 ∧ !x.aborted then { ch with slice := none } else ch.cut tick

/-- The answer of a field die that runs the rows of a unit slice carries a result of the rows in an unmarked slot (R341): its value and
end marker are open, since the spec does not say which frame carries which result. -/
def State.unitFrame (s : State) : Nat × Bool := (Config.freeNat s.free % 256, Config.freeBit (s.free + 1))

/-- Slice code 0x1D on the coupler of Fg.00 while every channel of the group has mode OFF and both switches open starts the unit slice of
the group (R341). -/
def State.startsUnit (s : State) (c sel : Nat) : Bool := c % 16 == 0 && sel == 0x1D && s.groupQuiet (c / 16)

/-- FD_RUN_FRAME (R80, R331 to R333, R341). -/
def execFdRunFrame (c : Nat) (frame : BitVec 40) (smp : LandSample) (s : State) : Host.Outcome State Fault Refusal :=
  .next (s.dieFrame c tyRUN frame smp (fun s n d =>
    let die := s.die (c / 16)
    let was := s.chan c
    let ch := was.takeTokens die c n d s.inSlot1 frame false
    let sel := cmdSel frame
    let unit := !cmdTick frame && (die.unitRun || s.startsUnit c sel)
    let (sl, res) := if cmdTick frame then (none, none)
      else if unit then (none, some s.unitFrame)
      else sliceStep was ch s.inSlot1 sel (Config.sliceResult sel (n % 8) c (if was.slice.isSome then 2 else 1) s.free % 256)
    let ch := { ch with slice := sl, cutAt := if was.slice.isSome && sl.isNone then some s.time.tick else ch.cutAt }
    let (cls, icode, mid) : Nat × Nat × Bool := match res with
      | some (r, m) => (clNONE, r, m)
      | none => (ch.cls, ch.icode, midRead smp)
    let s : State := { s with free := s.free + 2 }
    let s := if unit then s.setDie (c / 16) { die with unitRun := true } else s
    s.setChan c { ch with answer := some (dieStatus die ch (cmdFcnt frame) cls icode mid (dieExt die ch sel)) }))

/-- FD_SYNC_FRAME (R79, R84): a SYNC while SYNCED needs the full re-arm. On the coupler of Fg.00 it ends a unit slice (R341). -/
def execFdSyncFrame (c : Nat) (frame : BitVec 40) (smp : LandSample) (s : State) : Host.Outcome State Fault Refusal :=
  .next (s.dieFrame c tySYNC frame smp (fun s n d =>
    let die := s.die (c / 16)
    let ch := s.chan c
    let was := ch.synced
    let s := if c % 16 = 0 then s.setDie (c / 16) { die with unitRun := false } else s
    let ch' := { ch.takeTokens die c n d s.inSlot1 frame true with prevOnA := false, prevOnB := false, synced := true }
    let ch' := if was then ch'.rearm else ch'
    s.setChan c (ch'.reply s.time.tick die (cmdFcnt frame) (midRead smp) ch.slice.isSome 0)))

/-- FD_CFG_FRAME (R80, Tables 3.12 and 3.16): the register is written and both switches open. -/
def execFdCfgFrame (c : Nat) (frame : BitVec 40) (smp : LandSample) (s : State) : Host.Outcome State Fault Refusal :=
  .next (s.dieFrame c tyCFG frame smp (fun s n d =>
    let die := s.die (c / 16)
    let was := s.chan c
    let ch := was.takeTokens die c n d s.inSlot1 frame true
    let addr := frBits frame 20 17
    let data := frBits frame 16 11
    let ch := { ch with echo := data }
    let ch := if addr = 0 then { ch with mode := data % 16 }
      else if addr = 1 then { ch with slew := data / 2 % 2, lead := data % 2 }
      else ch
    s.setChan c (ch.reply s.time.tick die (cmdFcnt frame) (midRead smp) was.slice.isSome 0)))

/-! ### Watchdog and supply -/

/-- FIELD_WATCHDOG_EXPIRY (R81). -/
def execFieldWatchdogExpiry (c : Nat) (s : State) : Host.Outcome State Fault Refusal :=
  .next (if (s.die (c / 16)).alive then s.setChan c (s.chan c).unsync else s)

/-- A supply trip point of a die in mV, anywhere in its tolerance (Table 3.9). -/
def tripPoint (g k lo hi : Nat) : Int := (lo + Config.vfTrip g k % (hi - lo + 1) : Nat)

/-- Apply a change to every channel of a group. -/
def State.groupChans (s : State) (g : Nat) (f : DieCh → DieCh) : State :=
  (List.range 16).foldl (fun s i => s.setChan (16 * g + i) (f (s.chan (16 * g + i)))) s

/-- A channel without the registers of its die; a slice under way has ended with them. -/
def DieCh.powerUp (tick : Nat) (ch : DieCh) : DieCh := { cutAt := (ch.cut tick).cutAt }

/-- FD_POWER_ON (R69, R82): UNSYNC, mode OFF, in lockout when VFg is outside the re-enable and overvoltage thresholds. -/
def execFdPowerOn (g : Nat) (vfMv : Nat) (s : State) : Host.Outcome State Fault Refusal :=
  .next (if (s.die g).alive then s
    else (s.groupChans g (DieCh.powerUp s.time.tick)).setDie g
      { alive := true, uv := decide ((vfMv : Int) < tripPoint g 1 17700 18300),
        ov := decide (tripPoint g 2 31500 32500 < (vfMv : Int)) })

/-- FD_SUPPLY_LOSS (R69, Table 4.9): the die stops, its registers are lost and every switch is open. -/
def execFdSupplyLoss (g : Nat) (s : State) : Host.Outcome State Fault Refusal :=
  .next ((s.groupChans g (DieCh.powerUp s.time.tick)).setDie g {})

/-- VF_UNDER_LOCKOUT (R69, Table 3.9). -/
def execVfUnderLockout (g : Nat) (s : State) : Host.Outcome State Fault Refusal :=
  .next (if (s.die g).alive then (s.groupChans g DieCh.open).setDie g { s.die g with uv := true } else s)

/-- VF_OVER_LOCKOUT (R69, Table 3.9). -/
def execVfOverLockout (g : Nat) (s : State) : Host.Outcome State Fault Refusal :=
  .next (if (s.die g).alive then (s.groupChans g DieCh.open).setDie g { s.die g with ov := true } else s)

/-- VF_UNDER_RELEASE (R69, R70). -/
def execVfUnderRelease (g : Nat) (s : State) : Host.Outcome State Fault Refusal :=
  .next (if (s.die g).uv then (s.groupChans g DieCh.rearm).setDie g { s.die g with uv := false } else s)

/-- VF_OVER_RELEASE (R69, R70). -/
def execVfOverRelease (g : Nat) (s : State) : Host.Outcome State Fault Refusal :=
  .next (if (s.die g).ov then (s.groupChans g DieCh.rearm).setDie g { s.die g with ov := false } else s)

/-- OVERLOAD_TIMEOUT (R64, log 111). -/
def execOverloadTimeout (c : Nat) (s : State) : Host.Outcome State Fault Refusal :=
  .next (if (s.die (c / 16)).alive then s.setChan c { (s.chan c).open with ol := true, offRun := 0 } else s)

/-- OVERTEMP (R64). The latest of an overload and an overtemperature starts the one count of OFF frames (log 111). -/
def execOvertemp (c : Nat) (s : State) : Host.Outcome State Fault Refusal :=
  .next (if (s.die (c / 16)).alive then s.setChan c { (s.chan c).open with ot := true, offRun := 0 } else s)

/-- OVERLOAD_LOCKOUT_END (R64, R70): the junction is below 140 °C, and the die has counted 1,000 OFF frames. -/
def execOverloadLockoutEnd (c : Nat) (s : State) : Host.Outcome State Fault Refusal :=
  .next (
    let ch := s.chan c
    if (ch.ol || ch.ot) ∧ 1000 ≤ ch.offRun then s.setChan c { ch.rearm with ol := false, ot := false } else s)

end Sys2Proof.Machine
end

