-- ==== Sys2Proof/Machine/Transport.lean ====
section
/-! DEFINITION. Host transactions (11_host_mailbox R247 to R250, R253, R254): each either rejected whole or carried out. While
PD8 is off or its clock is gated, a transaction is unanswered (Table 17.2, R376). -/

namespace Sys2Proof.Machine

/-- A rejected transaction (R249). -/
def State.reject (s : State) (reason : Nat) : State :=
  let s : State := { s with host := { s.host with
    lastReject := reason, rejectCount := (s.host.rejectCount + 1) % 16, rejected := (s.host.rejected + 1) % 2 ^ 32 } }
  s.event bHOST 1 reason

/-- The transaction as the lands take it: in SPI the mode follows HSCK (R247); in xSPI the complement and the address must be
right, else the transaction is rejected (R248, R249). -/
def State.transaction (s : State) (t : Txn) (act : State → State) : State :=
  if !s.on 8 || !s.clocked then { s with host := { s.host with out := [] } }
  else if s.host.iface = .xspi then (if t.xspiOk then act s else s.reject jXSPI)
  else act { s with host := { s.host with iface := if t.sckHigh then .spi3 else .spi0 } }

/-- The bytes a read returns past the end of what the spec defines: free values. -/
def freeBytes (from_ n : Nat) : List Byte := (List.range n).map (fun k => byte (Config.freeNat (from_ + k)))

/-- R249, R253: check order of the list of R249; acceptance holds the tag and queues the request, and with READY 0 HOST answers
NOT_READY (Table 11.2). The Status field of the header, 0 in a request, is not looked at (log 98). -/
def acceptRequest (bytes : List Byte) (s : State) : State :=
  let len := leAt bytes 0 2
  let tag := leAt bytes 2 1
  if bytes.length < 16 ∨ len < 16 ∨ 4096 < len ∨ len ≠ bytes.length then s.reject jLENGTH
  else if leAt bytes 12 4 ≠ crc32Ether (bytes.take 12 ++ zeros 4 ++ bytes.drop 16) then s.reject jCRC
  else if 31 < tag then s.reject jTAG
  else if tag ∈ s.host.held then s.reject jHELD
  else
    let r : Request := { tag := tag, version := leAt bytes 3 1, cmd := leAt bytes 4 2, session := leAt bytes 8 4,
                         payload := bytes.drop 16, captured := false, st := s.dev.st.code }
    let s : State := { s with host := { s.host with accepted := (s.host.accepted + 1) % 2 ^ 32 } }
    if s.host.ready then { s with host := { s.host with queue := s.host.queue ++ [r] } }
    else s.respond r stNOT_READY []

/-- READ_RSP: the head response from byte 0; it stays at the head (R254). -/
def execReadRsp (t : Txn) (count : Nat) (s : State) : Host.Outcome State Fault Refusal :=
  .next (s.transaction t (fun s =>
    let have_ := match s.host.rsp with
      | [] => []
      | r :: _ => r.bytes.take count
    let extra := count - have_.length
    { s with host := { s.host with out := have_ ++ freeBytes s.free extra }, free := s.free + extra }))

/-- READ_STATUS: the eight bytes of Table 11.2; reading clears the event bits (RC). -/
def execReadStatus (t : Txn) (s : State) : Host.Outcome State Fault Refusal :=
  .next (s.transaction t (fun s =>
    { s with host := { s.host with out := s.transportStatus, evHandover := false, evHsTimeout := false, evState := false,
                                   evFault := false, evReady := false } }))

/-- RSP_RELEASE: removes the head and frees its tag (R254). -/
def execRspRelease (t : Txn) (tag : Nat) (s : State) : Host.Outcome State Fault Refusal :=
  .next (s.transaction t (fun s =>
    match s.host.rsp with
    | [] => s.reject jRELEASE
    | r :: rest => if r.tag = tag then { s with host := { s.host with rsp := rest } } else s.reject jRELEASE))

/-- ENTER_XSPI is an SPI opcode (Table 11.1). -/
def execEnterXspi (t : Txn) (s : State) : Host.Outcome State Fault Refusal :=
  .next (s.transaction t (fun s =>
    if s.host.iface = .xspi then s.reject jOPCODE else { s with host := { s.host with iface := .xspi } }))

/-- RETURN_SPI is an xSPI opcode. -/
def execReturnSpi (t : Txn) (s : State) : Host.Outcome State Fault Refusal :=
  .next (s.transaction t (fun s =>
    if s.host.iface = .xspi then { s with host := { s.host with iface := .spi0 } } else s.reject jOPCODE))

/-- The opcodes of Table 11.1 that the interface in use knows. -/
def knownOpcode (i : Iface) (op : Byte) : Bool :=
  op == 0x02 || op == 0x0B || op == 0x05 || op == 0x0D || (if i = .xspi then op == 0xFF else op == 0xE8)

/-- A transaction with an opcode the interface in use does not know (R249); a known one is another command's (log 5). -/
def execUnknownOpcodeTransaction (t : Txn) (opcode : Byte) (s : State) : Host.Outcome State Fault Refusal :=
  .next (if knownOpcode s.host.iface opcode then s else s.transaction t (fun s => s.reject jOPCODE))

end Sys2Proof.Machine
end

