-- ==== Sys2Proof/Machine/Mailbox.lean ====
section
/-! DEFINITION. How a captured request is served (R254 to R257): which command is defined in which version, which state serves
it, and the order of the checks every service shares. -/

namespace Sys2Proof.Machine

/-- Command codes of Table 11.5 with the version they need. -/
def cmdVersion (code : Nat) : Option Nat :=
  if code ∈ [0x01, 0x10, 0x11, 0x20, 0x21, 0x22, 0x30, 0x31, 0x32, 0x33, 0x34, 0x35, 0x38, 0x40, 0x41, 0x42, 0x50, 0x51,
      0x60, 0x61, 0x70, 0x71] then some 1
  else if code ∈ [0x80, 0x81, 0x82, 0x90, 0xA0, 0xA1, 0xB0, 0xB1, 0xB2, 0xB3, 0xB4, 0xC0, 0xC1, 0xC2, 0xD0] then some 1
  else if code ∈ [0x12, 0x13, 0x91] then some 2
  else none

/-- Commands of class L, also served in LATCHED. -/
def cmdL : List Nat := [0x01, 0x10, 0x11, 0x12, 0x20, 0x80, 0x81]
/-- Commands of class R, read-only services, served in VERIFY. -/
def cmdR : List Nat := [0x13, 0x38, 0x41, 0x50, 0x51, 0x61, 0x70, 0x91, 0xA0, 0xB0, 0xB2, 0xC2, 0xD0]
/-- Services of the ROM kind of MAINTENANCE (Table 2.8). -/
def cmdRom : List Nat := [0x01, 0x10, 0x11, 0x12, 0x20, 0x21, 0xC0, 0xC1, 0xB0, 0xB2, 0x80, 0x81, 0xD0]
/-- Services that the firmware kind adds. -/
def cmdFw : List Nat := [0xB1, 0xB3, 0xB4, 0x30, 0x31, 0x32, 0x33, 0x34, 0x35, 0xA0, 0xA1, 0x90]

/-- The status that the device state gives a command before it is looked at: none when the state serves it (Tables 2.1 and
2.8, R47, R257). SAFE in CONFIGURE is no trigger of Table 2.3 (R33). -/
def State.stateRefuses (s : State) (code : Nat) : Option Nat :=
  let wrong := fun (ok : Bool) => if ok then none else some stWRONG_STATE
  match s.dev.st with
  | .run => none
  | .safe => none
  | .boot => if code = 0x01 then none else some stNOT_READY
  | .maintenance => wrong (decide (code ∈ cmdRom) || (s.dev.maint == .firmware && decide (code ∈ cmdFw)))
  | .configure => wrong (!(code == 0x40 || code == 0x42 || code == 0x41))
  | .verify => wrong (decide (code ∈ cmdL) || decide (code ∈ cmdR))
  | .latched => wrong (decide (code ∈ cmdL))
  | _ => some stNOT_READY

/-- A fuse operation or a full flush is served to its end before the requests behind it (R254 names the commands that do not
block). -/
def State.serveBlocked (s : State) : Bool := s.host.waiting.any (fun w => w.on == .fuse || w.on == .oxbFlush)

/-- The oldest request, when it can be served now and carries this command. -/
def State.front (s : State) (code : Nat) : Option Request :=
  if s.serveBlocked || s.host.paused || !s.host.ready || !s.on 8 || !s.supRuns then none
  else match s.host.queue with
    | [] => none
    | r :: _ => if r.captured && r.cmd == code then some r else none

def State.popRequest (s : State) : State := { s with host := { s.host with queue := s.host.queue.tail } }

/-- The session checks (R255): status when they fail. -/
def State.sessionBad (s : State) (r : Request) : Bool :=
  s.host.session == 0 || r.session != s.host.session || r.version != s.host.version

/-- Answer the captured requests at the front whose command no service has (R254 to R256). -/
def State.answerUnknown : Nat → State → State
  | 0, s => s
  | n + 1, s =>
    if s.serveBlocked || s.host.paused || !s.host.ready || !s.on 8 || !s.supRuns then s
    else match s.host.queue with
      | [] => s
      | r :: _ =>
        if r.captured && (cmdVersion r.cmd).isNone then
          let s := s.popRequest
          State.answerUnknown n (s.respond r (if s.sessionBad r then stBAD_SESSION else stUNKNOWN_CMD) [])
        else s

def State.settle (s : State) : State := s.answerUnknown s.host.queue.length

/-- Serve the oldest request when it carries this command: BAD_SESSION, UNKNOWN_CMD, the state, the payload's form, then the
service (R255, R256, R257, R47). A class L write that took effect at its acceptance is only answered (R267). -/
def State.serve (s : State) (code : Nat) (formOk : Request → Bool) (act : Request → State → State) : State :=
  match s.front code with
  | none => s
  | some r =>
    let s := s.popRequest
    let s :=
      if r.done then act r s
      else if s.sessionBad r then s.respond r stBAD_SESSION []
      else if s.host.version < (cmdVersion code).getD 1 then s.respond r stUNKNOWN_CMD []
      else match s.stateRefuses code with
        | some st => s.respond r st []
        | none => if formOk r then act r s else s.respond r stBAD_FORMAT []
    s.settle

/-- A payload of exactly `n` bytes. -/
def lenIs (n : Nat) (r : Request) : Bool := r.payload.length == n

/-- A block-ID payload: ID, three reserved bytes. -/
def blockForm (n : Nat) (r : Request) : Bool :=
  r.payload.length == n && isBlock (leAt r.payload 0 1) && allZero ((r.payload.drop 1).take 3)

end Sys2Proof.Machine
end

