-- ==== Sys2Proof/Machine/RosOps.lean ====
section
/-! DEFINITION. Rosemary's operations (16_rosemary_fuses): the sense decision, regions, seals and locks, the checks before an
operation, its end, and the order of the parties. -/

namespace Sys2Proof.Machine

/-! ### Regions (Table 16.1) -/

/-- Region code of a word; 5 for the spare words. -/
def regionOf (w : Nat) : Nat :=
  if w < 1024 then 0 else if w < 1280 then 1 else if w < 3584 then 2 else if w < 3648 then 3 else if w < 3664 then 4 else 5

/-- First word, lock word and seal word of a region that has them. -/
def regionWords (r : Nat) : Option (Nat × Nat × Nat) :=
  if r = 0 then some (0, 1022, 1023) else if r = 2 then some (1280, 3582, 3583) else if r = 4 then some (3648, 3662, 3663)
  else none

/-! ### Sensing (Table 16.3) -/

def eccValue : EccRead → Option DWord
  | .clean v => some v
  | .corrected v => some v
  | .uncorrectable => none

def eccClean (r : EccRead) (v : DWord) : Bool := decide (r = .clean v)

/-- The value used, and whether the word is decided as marginal or bad. -/
def senseDecide : Sense → DWord × Bool × Bool
  | .equal (.clean v) => (v, false, false)
  | .equal (.corrected v) => (v, true, false)
  | .equal .uncorrectable => (0, false, true)
  | .unequal n m0 m1 =>
    match eccValue n with
    | some v => if eccClean m0 v || eccClean m1 v then (v, true, false) else (0, false, true)
    | none => (0, false, true)

/-- The normal read shows some of the 72 bits as 1 (R348). -/
def showsBit : Sense → Bool
  | .equal r => r != .clean 0
  | .unequal n _ _ => n != .clean 0

/-- The shadow of a word after a sensing. -/
def senseWord (f : FuseWord) (x : Sense) : ShadowWord :=
  let d := senseDecide x
  { val := d.1, prog := f.prog || showsBit x, marginal := d.2.1, bad := d.2.2 }

/-! ### Seals and locks (R358, R359) -/

/-- The CRC-64 over the words of a region but its lock and seal words, from the shadow. -/
def State.regionCrc (s : State) (r : Nat) : Nat :=
  match regionWords r with
  | none => 0
  | some (first, lock, sealW) =>
    ((List.range (sealW - first)).map (· + first)).foldl
      (fun crcv w => if w = lock then crcv else crc64 crcv (leBytes 8 (s.shadow w).val.toNat)) 0

def sealValue (r crcv : Nat) : Nat := 0xA5 * 2 ^ 56 + r * 2 ^ 48 + crcv % 2 ^ 48
def lockValue (r : Nat) : Nat := 0xC3 * 2 ^ 56 + r * 2 ^ 48

/-- The region's seal word is programmed. -/
def State.sealed (s : State) (r : Nat) : Bool :=
  match regionWords r with
  | none => false
  | some (_, _, sealW) => (s.shadow sealW).prog

/-- The seal decodes from the present shadow (R352, R359). -/
def State.validSeal (s : State) (r : Nat) : Bool :=
  match regionWords r with
  | none => false
  | some (_, _, sealW) => (s.shadow sealW).prog && (s.shadow sealW).val.toNat == sealValue r (s.regionCrc r)

/-- The region's lock word is programmed, with any value. -/
def State.locked (s : State) (r : Nat) : Bool :=
  match regionWords r with
  | none => false
  | some (_, lock, _) => (s.shadow lock).prog

/-- The words of a region, ascending. -/
def regionRange (r : Nat) : List Nat :=
  match regionWords r with
  | none => []
  | some (first, _, sealW) => (List.range (sealW + 1 - first)).map (· + first)

/-- The integrity failure of a sealed region (R352, R362): the first failing word, 0xFFF for a checksum without one. -/
def State.integrityFailure (s : State) (r : Nat) : Option Nat :=
  if !s.sealed r then none
  else match (regionRange r).find? (fun w => (s.shadow w).bad) with
    | some w => some w
    | none =>
      match regionWords r with
      | none => none
      | some (_, _, sealW) =>
        if (s.shadow sealW).val.toNat / 2 ^ 48 ≠ 0xA500 + r then some sealW
        else if s.validSeal r then none else some 0xFFF

/-! ### Epochs (R360) -/

/-- The fused bundle epoch. -/
def State.fusedEpoch (s : State) : Nat :=
  ((List.range 128).filter (fun i => (s.shadow (1024 + i)).prog)).foldl (fun _ i => i + 1) 0

def epochValue (e : Nat) : Nat := 0x4550000000000000 + e

/-- The manifest epoch of the running bundle. -/
def State.manifestEpoch (s : State) : Nat := ((s.bundles.manifest).map (·.epoch)).getD 0

/-! ### Operations (R354 to R356) -/

/-- The programming conditions of R356. -/
def State.fuseConditions (s : State) : Bool :=
  decide (2500 ≤ s.pwr.vsup) && decide (s.pwr.vsup ≤ 3600) && decide (0 ≤ s.pwr.tj) && decide (s.pwr.tj ≤ 85) &&
    s.pwr.warning.isNone

/-- Table 16.1 opens the word to the party (R349, R358, R360): CU to the host until it is sealed, except the lock word. -/
def State.openTo (s : State) (p : RosParty) (w : Nat) (data : DWord) : Bool :=
  match p with
  | .tl => decide (3584 ≤ w) && decide (w < 3648)
  | .epoch => decide (1024 ≤ w) && decide (w < 1152)
  | .host =>
    if 1280 ≤ w ∧ w < 3584 then !s.sealed 2 || w == 3582
    else if 1024 ≤ w ∧ w < 1152 then
      w == 1024 + s.fusedEpoch && data.toNat == epochValue (s.fusedEpoch + 1) &&
        decide (s.fusedEpoch + 1 ≤ s.manifestEpoch)
    else false

/-- RESULT codes of ROS_CMD. -/
def rrOK : Nat := 0
def rrCONDITIONS : Nat := 1
def rrVERIFY : Nat := 2
def rrCLOSED : Nat := 3
def rrADDRESS : Nat := 4

/-- Answer the mailbox request behind an operation. -/
def State.fuseAnswer (s : State) (j : RosJob) (status : Nat) (payload : List Byte) : State :=
  if j.answer then (s.answer .fuse status payload).settle else s

/-- An operation refused before its first pulse, with its RESULT and mailbox status (R355 steps 1 and 2, R358, R359). -/
def State.fuseRefusal (s : State) (j : RosJob) : Option (Nat × Nat) :=
  match j.kind with
  | .program =>
    if (s.shadow j.target).prog || !s.openTo j.party j.target j.data then some (rrCLOSED, stFUSE_CLOSED)
    else if !s.fuseConditions then some (rrCONDITIONS, stFUSE_CONDITIONS) else none
  | .sealOp =>
    if (regionWords j.word).isNone then some (rrADDRESS, stBAD_FORMAT)
    else if j.word ≠ 2 ∨ (s.shadow j.target).prog then some (rrCLOSED, stFUSE_CLOSED)
    else if !s.fuseConditions then some (rrCONDITIONS, stFUSE_CONDITIONS) else none
  | .lockOp =>
    if (regionWords j.word).isNone then some (rrADDRESS, stBAD_FORMAT)
    else if j.word ≠ 2 ∨ (s.shadow j.target).prog then some (rrCLOSED, stFUSE_CLOSED)
    else if !s.validSeal j.word then some (rrCLOSED, stFUSE_NO_SEAL)
    else if !s.fuseConditions then some (rrCONDITIONS, stFUSE_CONDITIONS) else none
  | .verify => none

/-- What a refused operation leaves with its party: Oxbow retries later (R328), SUP raises EPOCH_PENDING for an epoch that has not been
raised meanwhile (R43, R360). -/
def State.partyRefused (s : State) (j : RosJob) : State :=
  match j.party with
  | .tl => { s with oxb := { s.oxb with tlPending := true, tlTriedAt := s.time.tick } }
  | .epoch => if s.manifestEpoch ≤ s.fusedEpoch then s else s.raise bSUP 7 0 whoDev
  | .host => s

/-- The controller takes one operation: refused with its RESULT, or under way with BUSY set. The data registers hold the
target, as SUP writes them before ROS_CMD (R354); a seal's value comes from the shadow as it then stands (R358). -/
def State.takeJob (s : State) (j0 : RosJob) : State :=
  let j := if j0.kind = .sealOp then { j0 with data := BitVec.ofNat 64 (sealValue j0.word (s.regionCrc j0.word)) } else j0
  let s : State := { s with
    ros := { s.ros with
      op := j.kind.code, word := j.word, dataLo := (j.data.toNat : Nat), dataHi := ((j.data.toNat / 2 ^ 32 : Nat)) } }
  match s.fuseRefusal j with
  | some (res, st) =>
    let s : State := { s with ros := { s.ros with result := res, retries := 0 } }
    (s.partyRefused j).fuseAnswer j st []
  | none => { s with ros := { s.ros with busy := true, running := some j, retries := 0 } }

def RosParty.rank : RosParty → Nat
  | .tl => 0 | .epoch => 1 | .host => 2

/-- The waiting operation that runs next: TL, then the epoch, then the host (R363). -/
def nextJob (js : List RosJob) : Option RosJob :=
  (js.find? (fun j => j.party == .tl)).or ((js.find? (fun j => j.party == .epoch)).or js.head?)

/-- Ask for an operation: taken at once, or behind the one under way. -/
def State.askJob (s : State) (j : RosJob) : State :=
  if s.ros.busy then { s with ros := { s.ros with waiting := s.ros.waiting ++ [j] } } else s.takeJob j

/-- Start waiting operations until one is under way. -/
def State.drainJobs : Nat → State → State
  | 0, s => s
  | n + 1, s =>
    if s.ros.busy then s
    else match nextJob s.ros.waiting with
      | none => s
      | some j => State.drainJobs n ({ s with ros := { s.ros with waiting := s.ros.waiting.erase j } }.takeJob j)

/-- R355 steps 4 to 7 over the pairs of margin reads, one pair after each pulse: retries used and success; none while the
reads do not yet end the operation. -/
def pulseOutcome : Nat → List ProgRead → Option (Nat × Bool)
  | _, [] => none
  | r, .target :: _ => some (r, true)
  | r, .extraOne :: _ => some (r, false)
  | r, .weak :: rest => if r = 8 then some (r, false) else pulseOutcome (r + 1) rest

/-- Sources of a word's sense decision outside a start-up sensing. -/
def State.senseSources (s : State) (w : Nat) : State :=
  let x := s.shadow w
  if x.bad then
    (if s.sealed (regionOf w) then s.raise bROS 0 (regionOf w) whoDev else s.raise bROS 2 w whoDev)
  else if x.marginal then s.event bROS 1 w else s

/-- TL words programmed (ROS W2). -/
def State.tlUsed (s : State) : Nat :=
  ((List.range 64).filter (fun i => (s.shadow (3584 + i)).prog)).length

/-- The end of an operation (R355): RESULT, RETRIES, the word sensed into its shadow, the sources, the FUSE_PROGRAM record, the answer,
and the next operation. The word is programmed when a bit of it was pulsed or reads 1 (R348, log 104); PROGRAM_FAIL follows 8 retries
only. -/
def State.endJob (s : State) (j : RosJob) (retries : Nat) (ok : Bool) (final : Sense) : State :=
  let d := senseDecide final
  let fw : FuseWord := { data := if ok then j.data else d.1, prog := (s.ros.fuses.getD j.target {}).prog || j.data != 0 || showsBit final }
  let s : State := { s with ros := { s.ros with
    busy := false, running := none, result := if ok then rrOK else rrVERIFY, retries := retries,
    fuses := s.ros.fuses.put j.target fw, shadow := s.ros.shadow.put j.target (senseWord fw final) } }
  let s := s.senseSources j.target
  let s := if ok || decide (retries < 8) then s else s.event bROS 3 j.target
  let s := s.marker oxFUSE_PROGRAM j.target (regionOf j.target) retries
  let s := match j.party with
    | .tl =>
      let s : State := { s with oxb := { s.oxb with tlPending := false, tlDone := true } }
      if s.tlUsed = 64 then s.raise bOXB 4 0 whoDev else s
    | .epoch => s.clear bSUP 7 0 whoDev
    | .host => if 1024 ≤ j.target ∧ j.target < 1152 ∧ s.manifestEpoch ≤ s.fusedEpoch then
        s.clear bSUP 7 0 whoDev else s
  let s := s.fuseAnswer j (if ok then stOK else stFUSE_VERIFY_FAIL)
    (if ok ∧ j.kind = .program then leBytes 1 retries ++ zeros 3 else [])
  s.drainJobs s.ros.waiting.length

/-- Oxbow programs the lowest unprogrammed TL word (R328, Table 14.11), at most once per power cycle. -/
def State.askTl (s : State) : State :=
  if s.oxb.tlDone then s
  else match s.oxb.storeFail with
    | none => s
    | some code =>
      match (List.range 64).find? (fun i => !(s.shadow (3584 + i)).prog) with
      | none => { s with oxb := { s.oxb with tlPending := false } }.raise bOXB 4 0 whoDev
      | some i =>
        let v := code * 2 ^ 48 + (s.pwr.powerCycles % 2 ^ 16) * 2 ^ 32 + s.oxb.failedAt
        let s : State := { s with oxb := { s.oxb with tlTriedAt := s.time.tick } }
        if s.ros.running.any (fun j => j.party == .tl) || s.ros.waiting.any (fun j => j.party == .tl) then s
        else s.askJob ⟨.tl, .program, 3584 + i, 3584 + i, BitVec.ofNat 64 v, false⟩

/-- An epoch raise is under way or waiting. -/
def State.epochAsked (s : State) : Bool := (s.ros.running.toList ++ s.ros.waiting).any (fun j => j.party == .epoch)

/-- SUP raises the fused epoch to the running bundle's, once (R43, R363). -/
def State.askEpoch (s : State) : State :=
  let e := s.manifestEpoch
  if e ≤ s.fusedEpoch ∨ s.bundles.running.isNone ∨ s.epochAsked then s
  else s.askJob ⟨.epoch, .program, 1024 + e - 1, 1024 + e - 1, BitVec.ofNat 64 (epochValue e), false⟩

end Sys2Proof.Machine
end

