-- ==== Sys2Proof/Machine/OxbOps.lean ====
section
/-! DEFINITION. The flush, the areas and the mount of Oxbow (14_oxbow R318 to R329). -/

namespace Sys2Proof.Machine

def firstSlots : Nat := 131072
def tailSlots : Nat := 524288
def totGeneral : Nat := 30720
def totSlots : Nat := 32768
def spareBlocks : Nat := 768

/-! ### Totals (R323) -/

/-- A copy whose CRC verifies (R323). -/
def validCopy (c : Option OxbRec) : Option OxbRec := c.filter (fun r => r.damaged.isNone)

/-- The copy of an entry whose CRC verifies and whose generation is higher. -/
def TotEntry.newest (e : TotEntry) : Option OxbRec :=
  match validCopy e.copy0, validCopy e.copy1 with
  | some a, some b => if a.seq < b.seq then some b else some a
  | some a, none => some a
  | none, b => b

/-- What a read of an entry returns: its newer valid copy, or with none of them valid a copy as it was read (R311, log 104). -/
def TotEntry.shown (e : TotEntry) : Option OxbRec := e.newest.or (e.copy0.or e.copy1)

/-- Replace the older copy, or one that is not valid. -/
def TotEntry.write (e : TotEntry) (r : OxbRec) : TotEntry :=
  match validCopy e.copy0, validCopy e.copy1 with
  | none, _ => { e with copy0 := some r }
  | some _, none => { e with copy1 := some r }
  | some a, some b => if a.seq < b.seq then { e with copy0 := some r } else { e with copy1 := some r }

/-- The copies of an entry that fail their CRC. -/
def TotEntry.broken (e : TotEntry) : List OxbRec := (e.copy0.toList ++ e.copy1.toList).filter (fun r => r.damaged.isSome)

def addBins (a b : List Nat) : List Nat := (List.range 12).map (fun i => min 0xFFFF (a.getD i 0 + b.getD i 0))

/-- Fold a record into the newer copy of its entry; `inst` and `fl` are those of the entry, `cycles` the power-cycle count at the
fold (Table 14.2). -/
def foldRecord (old : Option OxbRec) (r : OxbRec) (inst fl cycles : Nat) : OxbRec :=
  match old with
  | none => { r with format := 2, inst := inst, supp := 0, seq := 0, cycles := cycles, flags := r.flags ||| fl }
  | some o =>
    let bins := addBins o.bins r.bins
    let full := 0xFFFFFFFF ≤ o.count + r.count || bins.any (· == 0xFFFF)
    { o with seq := (o.seq + 1) % 2 ^ 32, stop := r.stop, cycles := cycles, count := min 0xFFFFFFFF (o.count + r.count),
             lo := min o.lo r.lo, hi := max o.hi r.hi, bins := bins,
             flags := o.flags ||| r.flags ||| fl ||| (if full then fgSATURATED else 0) }

/-- The entry of a pair (general) or of a code (overflow), if it exists. -/
def findTotal (t : Tab TotEntry) (code inst : Nat) (ovf : Bool) : Option Nat :=
  (t.find? (fun e => match e.2.shown with
    | some r => r.code == code && r.inst == inst && (decide (totGeneral ≤ e.1) == ovf)
    | none => false)).map (·.1)

/-- Fold one record into Totals: its pair's entry, a new general entry, or the code-level entry. A record that fails its CRC is passed
over (log 104). -/
def OxbMram.fold (m : OxbMram) (cycles : Nat) (r : OxbRec) : OxbMram :=
  let ovf := r.flags / fgOVERFLOW % 2 == 1
  let put := fun (i inst fl : Nat) =>
    let e := m.totals.getD i {}
    { m with totals := m.totals.put i (e.write (foldRecord e.newest r inst fl cycles)), totHigh := some r.seq }
  let general := (m.totals.filter (fun e => decide (e.1 < totGeneral))).length
  let special := (m.totals.filter (fun e => decide (totGeneral ≤ e.1))).length
  let overflow : OxbMram :=
    match findTotal m.totals r.code 0xFFFF true with
    | some i => put i 0xFFFF fgOVERFLOW
    | none => if totGeneral + special < totSlots then put (totGeneral + special) 0xFFFF fgOVERFLOW
              else { m with totHigh := some r.seq }
  if r.damaged.isSome then { m with totHigh := some r.seq }
  else if ovf then overflow
  else match findTotal m.totals r.code r.inst false with
    | some i => put i r.inst 0
    | none => if general < totGeneral then put general r.inst 0 else overflow

/-- Write one record (R318 steps 1 and 2, R322); the power-fail sequence leaves Firstwater and Totals for the mount (R320). -/
def OxbMram.write (m : OxbMram) (cycles : Nat) (r0 : OxbRec) (power : Bool) : OxbMram :=
  let r := { r0 with seq := m.nextSeq, damaged := none }
  let m := { m with tail := m.tail.put (r.seq % tailSlots) r, nextSeq := (m.nextSeq + 1) % 2 ^ 32 }
  if power then { m with unfolded := m.unfolded ++ [r.seq] }
  else
    let m := if r.seq < firstSlots ∧ (m.first.get? r.seq).isNone then { m with first := m.first.put r.seq r } else m
    m.fold cycles r

/-- The sequences Tailwater holds, oldest first. -/
def OxbMram.oldest (m : OxbMram) : Nat := (m.nextSeq + 2 ^ 32 - m.tail.length) % 2 ^ 32

def OxbMram.tailFrom (m : OxbMram) (first count : Nat) : List OxbRec :=
  let off := (first + 2 ^ 32 - m.oldest) % 2 ^ 32
  let start := if off < m.tail.length then first else if 2 ^ 31 ≤ off then m.oldest else m.nextSeq
  let left := (m.nextSeq + 2 ^ 32 - start) % 2 ^ 32
  (List.range (min count left)).filterMap (fun k => m.tail.get? ((start + k) % 2 ^ 32 % tailSlots))

/-- The Tailwater records that Totals does not hold yet: those newer than its high-water sequence, and those that a power-fail sequence
left for this mount, also where routine work has gone on since (R320, R322, log 104). -/
def OxbMram.toFold (m : OxbMram) : List OxbRec :=
  let newer := fun (r : OxbRec) => match m.totHigh with
    | none => true
    | some h => decide ((r.seq + 2 ^ 32 - h) % 2 ^ 32 ≠ 0) && decide ((r.seq + 2 ^ 32 - h) % 2 ^ 32 < 2 ^ 31)
  (m.tailFrom m.oldest m.tail.length).filter (fun r => decide (r.seq ∈ m.unfolded) || newer r)

/-- The copies of Totals that a fold of a record reads and whose CRC fails. -/
def OxbMram.foldReads (m : OxbMram) (r : OxbRec) : List OxbRec :=
  let ovf := r.flags / fgOVERFLOW % 2 == 1
  match findTotal m.totals r.code (if ovf then 0xFFFF else r.inst) ovf with
  | some i => (m.totals.getD i {}).broken
  | none => []

/-- The high-water sequence never goes back. -/
def laterSeq (a b : Option Nat) : Option Nat :=
  match a, b with
  | some x, some y => if (y + 2 ^ 32 - x) % 2 ^ 32 < 2 ^ 31 then some y else some x
  | some x, none => some x
  | none, b => b

/-- The repairs of a mount (R322): Firstwater copies and Totals folds that a power loss left open, with the damaged copies that the
folds have read (R311). -/
def OxbMram.repair (m : OxbMram) (cycles : Nat) : OxbMram × List OxbRec :=
  let recs := m.tailFrom m.oldest m.tail.length
  let m := recs.foldl (fun m r =>
    if r.seq < firstSlots ∧ (m.first.get? r.seq).isNone then { m with first := m.first.put r.seq r } else m) m
  let done := m.toFold.foldl (fun (x : OxbMram × List OxbRec) r => (x.1.fold cycles r, x.2 ++ x.1.foldReads r)) (m, [])
  ({ done.1 with unfolded := [], totHigh := laterSeq m.totHigh done.1.totHigh }, done.2)

/-! ### Records read back (R311) -/

/-- A record's place returns other bytes than were written; only bytes that fail the CRC make it a damaged record. -/
def OxbMram.damage (m : OxbMram) (d : RecordDamage) : OxbMram :=
  let hit := fun (r : OxbRec) => ({ r with damaged := some d.bytes } : OxbRec)
  let at_ := fun (t : Tab OxbRec) =>
    match t.get? d.slot with
    | some r => t.put d.slot (hit r)
    | none => t
  if recordCrcOk d.bytes then m
  else if d.area = 0 then { m with first := at_ m.first }
  else if d.area = 1 then { m with tail := at_ m.tail }
  else if d.area = 2 then
    match m.totals.get? d.slot with
    | none => m
    | some e =>
      let e' : TotEntry := if d.copy = 0 then { e with copy0 := e.copy0.map hit } else { e with copy1 := e.copy1.map hit }
      { m with totals := m.totals.put d.slot e' }
  else if d.area = 3 then
    { m with image := (List.range m.image.length).filterMap (fun i =>
        (m.image[i]?).map (fun o => if i = d.slot then { o with rcd := hit o.rcd } else o)) }
  else m

/-- The records of MRAM read back as the report has them. -/
def State.takeDamage (s : State) (ds : List RecordDamage) : State :=
  { s with oxb := { s.oxb with mram := ds.foldl OxbMram.damage s.oxb.mram } }

/-- Records of an area have been read back: each that fails its CRC raises RECORD_CRC. -/
def State.readBack (s : State) (area : Nat) (rs : List OxbRec) : State :=
  (rs.filter (fun r => r.damaged.isSome)).foldl (fun s _ => s.event bOXB 3 area) s

/-! ### Flushes (R318 to R320) -/

/-- Oxbow has stopped at the end of the power-fail sequence (R320 step 4). -/
def OxbSt.stopped (o : OxbSt) : Bool := o.frozen && o.running.isNone

/-- Oxbow is mounted, powered and clocked, and has not stopped (R320, R376: no flush runs without CLK_FAB). -/
def State.oxbRuns (s : State) : Bool := s.oxb.mounted && s.on 11 && s.clk.pllLocked && !s.clk.gated && !s.oxb.stopped

/-- Write the triple copies (R325). -/
def State.writeCopies (s : State) : State :=
  if s.oxb.storeFail = some 0x10 then s
  else { s with oxb := { s.oxb with mram := { s.oxb.mram with
    seconds := List.replicate 3 s.pwr.opSeconds, cycles := List.replicate 3 s.pwr.powerCycles,
    late := List.replicate 3 s.pwr.late } } }

/-- The next burst of 16 leaves the queue (R319); its slots take the records that wait for one. -/
def State.nextBurst (s : State) : State :=
  ({ s with oxb := { s.oxb with inFlight := s.oxb.dirty.take 16, dirty := s.oxb.dirty.drop 16 } } : State).closeWaiting

/-- A flush starts: a full one closes the open records with PARTIAL; the first burst of 16 is in flight. -/
def State.startFlush (s : State) (k : FlushKind) : State :=
  let s : State := { s with oxb := { s.oxb with running := some k, trigger := none, lastStart := some s.time.tick, flushed := 0 } }
  let s := if k = .routine then s else s.closeAll fgPARTIAL
  let s := s.nextBurst
  if s.oxb.tlPending then ({ s with oxb := { s.oxb with tlAsk := false } } : State).askTl else s

/-- One record has passed its write-verify (R318, R319). -/
def State.writeRecord (s : State) (k : FlushKind) (r : OxbRec) : State :=
  let bad := if k = .powerFail then [] else s.oxb.mram.foldReads r
  ({ s with oxb := { s.oxb with
    mram := s.oxb.mram.write s.pwr.powerCycles r (k == .powerFail), flushed := s.oxb.flushed + 1 } } : State).readBack 2 bad

/-- The burst in flight has passed its write-verify, and the next one starts. With the store failed nothing is written. -/
def State.burst (s : State) : State :=
  match s.oxb.running with
  | none => s
  | some k =>
    if s.oxb.storeFail.isSome ∨ s.oxb.inFlight.isEmpty then s
    else
      (s.oxb.inFlight.foldl (fun (s : State) r => s.writeRecord k r) { s with oxb := { s.oxb with inFlight := [] } }).nextBurst

/-- The TL word that a flush trigger has asked for again (R328). -/
def State.tickTl (s : State) : State :=
  if s.oxb.tlAsk && s.oxbRuns then
    let s : State := { s with oxb := { s.oxb with tlAsk := false } }
    if s.oxb.tlPending then s.askTl else s
  else s

/-- The bursts of one tick: 20 of 1,024 bytes, a little over the 400 MB/s of R319 (log 91). -/
def State.tickFlush (s0 : State) : State :=
  let s := s0.tickTl
  if s.oxb.running.isNone || !s.oxbRuns then s else (List.range 20).foldl (fun s _ => s.burst) s

/-- The store has failed (R328). -/
def State.storeFails (s : State) (code : Nat) : State :=
  if s.oxb.storeFail.isSome then s
  else
    let s : State := { s with oxb := { s.oxb with storeFail := some code, failedAt := s.pwr.opSeconds, tlPending := true } }
    (s.raise bOXB 1 code whoDev).askTl

/-- Write-verify failures of a flush (R324, R328): each remaps a block, given by its area and number, to the next free spare and
rewrites it there, or fails the store. -/
def State.verifyFailures (s : State) (blocks : List (Nat × Nat)) : State :=
  blocks.foldl (fun s b =>
    if s.oxb.mram.remap.length < spareBlocks then
      { s with oxb := { s.oxb with mram := { s.oxb.mram with remap := s.oxb.mram.remap ++ [b] } } }.event bOXB 2 b.1
    else s.storeFails (b.1 + 1)) s

/-- Write everything in flight and in the queue. -/
def State.writeAll (s : State) (k : FlushKind) : State :=
  (s.oxb.inFlight ++ s.oxb.dirty).foldl (fun (s : State) r => s.writeRecord k r) { s with oxb := { s.oxb with inFlight := [], dirty := [] } }

/-- The end of a flush: what its bursts have not written yet, the records of a full flush that waited for a slot, the pending image and
the copies. When the store has failed, the rest stays in the queue (R329, R330): all of it but the first `verified` records. -/
def State.endFlush (s : State) (k : FlushKind) (verified : Nat) : State :=
  if s.oxb.storeFail.isSome then
    let all := s.oxb.inFlight ++ s.oxb.dirty
    (((all.take verified).foldl (fun (s : State) r => s.writeRecord k r) s).requeue (all.drop verified)).closeWaiting.writeCopies
  else
    let s := (s.writeAll k).closeWaiting
    let s := if k = .routine then s else s.writeAll k
    ({ s with oxb := { s.oxb with
      running := none,
      mram := { s.oxb.mram with image := s.oxb.openRecs, marked := !s.oxb.openRecs.isEmpty } } } : State).writeCopies

/-! ### The mount (R322, R325) -/

/-- Two of the three copies differ. -/
def copiesDiffer (l : List Nat) : Bool := l.any (fun x => x != l.headD 0)

def majorityOf (l : List Nat) : Nat := majority3 (l.getD 0 0) (l.getD 1 0) (l.getD 2 0)

/-- PWR takes the lifetime values (R325): the majority of the copies plus the seconds since release, with the monitors rebased, and
the late counter, which PD0 still holds after a recovery reset (R320). `secs` and `cycs` are the copies as they are read. -/
def State.takeLifetime (s : State) (secs cycs : List Nat) : State :=
  let base := majorityOf secs
  let s : State := { s with pwr := { s.pwr with opSeconds := min 0xFFFFFFFF (base + s.pwr.sinceRelease), powerCycles := majorityOf cycs,
                                                late := max s.pwr.late (majorityOf s.oxb.mram.late) } }
  let s : State := { s with pairs := { s.pairs with pairs := s.pairs.pairs.map (fun e =>
    (e.1, { e.2 with monitor := e.2.monitor.map (fun m =>
      if m.early then { m with second := m.second + base, early := false } else m) })) } }
  let s := if copiesDiffer secs then s.event bPWR 4 0 else s
  if copiesDiffer cycs then s.event bPWR 4 1 else s

/-- Count an occurrence of ROS that came before the mount (R351): one still live awaits its bin, an ended event goes to bin 0,
where an event that nothing extends lands at the latest 100 µs after it. -/
def State.countEarly (s : State) (i inst : Nat) : State :=
  let (s, r) := s.oxbCount (faultCode bROS i) inst (s.effective bROS i inst).1 false
  if s.isLive bROS i inst then
    { s with faults := { s.faults with live := s.faults.live.map (fun l =>
        if l.block = bROS ∧ l.index = i ∧ l.inst = inst then { l with inRec := some r } else l) } }
  else match s.openRec (faultCode bROS i) r with
    | some o => s.setOpen { o with rcd := o.rcd.bin 0 1 }
    | none => s

/-- Oxbow mounts: damaged records are reported, repairs, the pending image's records recovered, early occurrences of ROS counted, the
power-cycle count advanced, and the START record (R322, R325, R351). -/
def State.mount (s : State) : State :=
  let s : State := { s with pwr := { s.pwr with powerCycles := min 0xFFFFFFFF (s.pwr.powerCycles + 1) } }
  let s := (s.readBack 1 (s.oxb.mram.tailFrom s.oxb.mram.oldest s.oxb.mram.tail.length)).readBack 3 (s.oxb.mram.image.map (·.rcd))
  let (m, bad) := s.oxb.mram.repair s.pwr.powerCycles
  let s := s.readBack 2 bad
  let recovered := if m.marked then (m.image.filter (fun o => o.rcd.damaged.isNone)).map (fun o =>
      ({ o.rcd with flags := o.rcd.flags ||| fgRECOVERED, stop := s.pwr.opSeconds, cycles := s.pwr.powerCycles } : OxbRec))
    else []
  let s : State := { s with
    oxb := { s.oxb with mram := { m with image := [], marked := false }, mounted := true,
                        hourlyFrom := s.pwr.opSeconds, lastSampleTick := s.time.tick },
    time := { s.time with mountTick := some (s.time.tick + 1), mountSeconds := s.pwr.opSeconds } }
  let s := s.requeue (s.oxb.dirty ++ recovered)
  let s := s.marker oxSTART 0 s.pwr.resetCause (min s.pwr.late 0x7FFF)
  let s : State := { s with pwr := { s.pwr with late := 0 } }
  let s := s.faults.early.foldl (fun s e => s.countEarly e.1 e.2) s
  let s := s.faults.earlyMore.foldl (fun s e => (List.range e.2).foldl (fun s _ => s.countEarly e.1 0xFFFF) s) s
  let s : State := { s with faults := { s.faults with early := [], earlyMore := [] } }
  let s : State := if s.tlUsed = 64 then s.raise bOXB 4 0 whoDev else s
  s.writeCopies

end Sys2Proof.Machine
end

