-- ==== Sys2Proof/Machine/Lifecycle.lean ====
section
/-! DEFINITION. Reset and loss of power: what survives (R270, R292, R325, R356, R368), and the start of the power-up
sequence (Table 17.3). -/

namespace Sys2Proof.Machine

/-- The banks without what SUP keeps of them in SRAM. -/
def ConfigSt.stored (c : ConfigSt) : ConfigSt := { bank0 := c.bank0, bank1 := c.bank1, active := c.active }

def BundleSt.stored (b : BundleSt) : BundleSt := { bank0 := b.bank0, bank1 := b.bank1 }

/-- The parameter items kept in MRAM, without writes that wait for their owner's boundary (R270). -/
def ParamSt.stored (p : ParamSt) : ParamSt := { p with calDue := [] }

/-- The hardware behind a role after a handover (R285). -/
def PairsSt.hardwareOf (p : PairsSt) (role : Nat) : Nat :=
  if p.swapped then (if role = bSUP then bSTB else if role = bSTB then bSUP else role) else role

/-- The pairs after a reset: only the retirement monitors remain, each with its hardware (R192, R193, R285). -/
def PairsSt.stored (p : PairsSt) : PairsSt :=
  let kept := p.pairs.filter (fun e => !e.2.monitor.isEmpty)
  { pairs := kept.foldl (fun (t : Tab PairSt) e => t.put (p.hardwareOf e.1) { monitor := e.2.monitor }) [] }

/-- Fault status of PD0, which survives a chip reset: the words and live instances of PWR and CLK, each stale until its detector has
run (R292). INJECTED reads 0 outside FACTORY_TEST (R304). -/
def FaultSt.pd0 (f : FaultSt) : FaultSt :=
  { words := (f.words.filter (fun e => e.1 == bPWR || e.1 == bCLK)).map (fun e => (e.1, { e.2 with injected := 0 })),
    live := (f.live.filter (fun l => l.block == bPWR || l.block == bCLK)).map (fun l => { l with inRec := none, stale := true }),
    holds := f.holds.filter (fun h => h.block == bPWR || h.block == bCLK) }

/-- The field: the dies run on by themselves (17), the logic side starts anew. -/
def FieldSt.dieSide (f : FieldSt) : FieldSt := { dies := f.dies, chans := f.chans }

/-- JTAG_LOCK as the fuses have it (Table 16.2): it binds from the reset after its programming on, before the array is sensed (R391). -/
def fusedLock (fuses : Tab FuseWord) : Bool := (fuses.getD 1284 {}).data.getLsbD 0

/-- The fuses, and an operation under way, which ends in the controller in PD0 (R356); it answers nobody any more. -/
def RosSt.kept (r : RosSt) : RosSt :=
  { fuses := r.fuses, shadow := r.shadow, jtagLocked := r.jtagLocked || fusedLock r.fuses,
    busy := r.busy, running := r.running.map (fun j => { j with answer := false }) }

/-- A chip reset with its RESET_CAUSE (row 2 of Table 2.3). Kept: MRAM, the fuses, PD0 and the TAP. -/
def State.chipReset (s : State) (cause : Nat) : State :=
  { time := { tick := s.time.tick },
    faults := s.faults.pd0,
    pairs := s.pairs.stored,
    cfg := s.cfg.stored,
    params := s.params.stored,
    field := s.field.dieSide,
    oxb := { mram := s.oxb.mram, tlDone := s.oxb.tlDone },
    ros := s.ros.kept,
    pwr := { s.pwr with resetCause := cause, pfailSeen := false, domains := [0], shed := false, shedDone := false,
                        warning := none, holdPhase := none, errpPhase := true, sinceRelease := 0 },
    bundles := s.bundles.stored,
    jtag := s.jtag,
    pending := s.pending, free := s.free }

/-- VSUP below VBOR (row 1, R367): everything outside MRAM, the fuses and the field dies is lost. A fuse word whose pulses were cut
off is programmed with a value the spec does not state. -/
def State.powerLost (s : State) : State :=
  let fuses := match s.ros.running with
    | none => s.ros.fuses
    | some j => if j.data = 0 then s.ros.fuses else s.ros.fuses.put j.target ⟨BitVec.ofNat 64 (Config.freeNat s.free), true⟩
  { dev := { st := .off },
    pairs := s.pairs.stored,
    cfg := s.cfg.stored,
    params := s.params.stored,
    field := s.field.dieSide,
    oxb := { mram := s.oxb.mram },
    ros := { fuses := fuses, jtagLocked := fusedLock fuses },
    pwr := { domains := [], resetNLow := s.pwr.resetNLow },
    bundles := s.bundles.stored,
    pending := s.pending, free := s.free + 1 }

/-- Shedding (R371): PD1 to PD10 lose their contents; PD0 and PD11 run on, and the device stays in SAFE. -/
def State.shedDomains (s : State) : State :=
  { s with
    pwr := { s.pwr with domains := s.pwr.domains.filter (fun d => d == 0 || d == 11), shed := true, shedDone := s.pwr.shedDone || s.oxb.running.isNone },
    dev := { s.dev with loaded := false },
    host := {}, hs := {}, cells := {}, weir := {}, rif := {}, mems := {},
    cfg := s.cfg.stored, bundles := { s.bundles.stored with running := s.bundles.running, manifest := s.bundles.manifest },
    field := s.field.dieSide,
    pairs := s.pairs.stored,
    faults := { s.faults with
      words := s.faults.words.filter (fun e => decide (e.1 ∈ [bPWR, bCLK, bROS, bOXB])),
      live := s.faults.live.filter (fun l => decide (l.block ∈ [bPWR, bCLK, bROS, bOXB])) },
    ros := { s.ros with running := s.ros.running.map (fun j => { j with answer := false }), waiting := [] } }

/-- The domains of step 4 of Table 17.3; with the latch set only PD1, PD9 and PD11 of them (PD8 follows at the end of
sensing). -/
def State.powerUpDomains (s : State) : State :=
  let ds := if s.pwr.latch then [9, 11, 1] else [9, 10, 11, 1, 2, 3, 4, 5, 6]
  ds.foldl (fun s d => s.domainOn d) s

/-- Step 2 of Table 2.4 and its retries (R38): the PLL lock and the ratio check decide the hold reason. The SerDes multiplier locks with
them; a loss is seen again by its own command (R292, log 98). -/
def State.clockCheck (s : State) (pllLocked : Bool) (ratioDev : Int) : State :=
  let s : State := { s with clk := { s.clk with pllLocked := pllLocked, gated := false, ratioDev := ratioDev, serdesLocked := true } }
  let hold := fun (s : State) (r : Nat) => ({ s with dev := { s.dev with hold := r, holdRegion := 0, holdWord := 0 } } : State)
  let s := s.clear bCLK 3 0 whoDev
  if !pllLocked then hold (s.raise bCLK 0 0 whoDev) 2
  else
    let s := s.clear bCLK 0 0 whoDev
    if ratioDev < -200 ∨ 200 < ratioDev then hold (s.raise bCLK 1 0 whoDev) 3
    else
      let s := hold (s.clear bCLK 1 0 whoDev) 0
      ({ s with pwr := { s.pwr with holdPhase := none } } : State).powerUpDomains

end Sys2Proof.Machine
end

