-- ==== Sys2Proof/Machine/CfgOps.lean ====
section
/-! DEFINITION. Bundles (R39 to R44), configuration banks, and the certificate as the device issues it (R45, R46, R176 to
R181). -/

namespace Sys2Proof.Machine

/-! ### Identity and keys (Table 16.2) -/

/-- `n` fuse words as bytes, each word little-endian (as words 3 to 6 hold their digest). -/
def State.fuseBytes (s : State) (first n : Nat) : List Byte :=
  (List.range n).flatMap (fun i => leBytes 8 (s.shadow (first + i)).val.toNat)

def State.identity (s : State) : Nat := (s.shadow 0).val.toNat
def State.stepping (s : State) : Nat := (s.shadow 1).val.toNat % 65536
def State.baseMac (s : State) : Nat := (s.shadow 2).val.toNat % 2 ^ 48
def State.publicKey (s : State) : List Byte := s.fuseBytes 20 8

/-- The commit key state of IDENTITY (R350). -/
def State.commitKeyState (s : State) : Nat :=
  if ((List.range 4).all (fun i => !(s.shadow (1280 + i)).prog)) then 0 else if s.sealed 2 then 2 else 1

/-! ### Bundles (R39 to R41) -/

/-- The manifest of Table 2.7, when its magic and format are right. -/
def readManifest (m : List Byte) : Option Manifest :=
  if m.length ≠ 128 ∨ m.take 4 ≠ [0x46, 0x59, 0x4D, 0x46] ∨ leAt m 4 2 ≠ 1 then none
  else if 127 < leAt m 12 2 ∨ leAt m 26 1 < 1 ∨ 8 < leAt m 26 1 ∨ 8 < leAt m 27 1 then none
  else some
    { version := leAt m 8 4, epoch := leAt m 12 2, planeEpoch := leAt m 14 2, translator := leAt m 16 4,
      graphMin := leAt m 20 2, graphMax := leAt m 22 2, mailbox := leAt m 24 2 % 4,
      steppings := (List.range (leAt m 26 1)).map (fun i => leAt m (28 + 2 * i) 2),
      coexist := (List.range (leAt m 27 1)).map (fun i => (leAt m (44 + 8 * i) 4, leAt m (48 + 8 * i) 4)) }

/-- One directory entry of a bundle: its component, when type, place and hash are right. -/
def bundleComponent (bs : List Byte) (i : Nat) : Option (Nat × List Byte) :=
  let e := 32 + 48 * i
  let off := leAt bs (e + 4) 4
  let len := leAt bs (e + 8) 4
  let body := (bs.drop off).take len
  if off % 16 ≠ 0 ∨ off < 272 ∨ bs.length < off + len + 128 then none
  else if sha256 body ≠ (bs.drop (e + 16)).take 32 then none
  else some (leAt bs e 2, body)

/-- The components of a bundle with the right header, hashes, key and signature (R39, R41). -/
def State.bundleParts (s : State) (bs : List Byte) : Option (List (Nat × List Byte)) :=
  let len := bs.length
  if len < 400 ∨ 12582912 < len ∨ bs.take 4 ≠ [0x46, 0x59, 0x46, 0x42] ∨ leAt bs 4 2 ≠ 1 ∨ leAt bs 6 2 ≠ 5 ∨ leAt bs 8 4 ≠ len then none
  else
    let parts := (List.range 5).filterMap (bundleComponent bs)
    let key := (bs.drop (len - 128)).take 64
    let sig := bs.drop (len - 64)
    if parts.length ≠ 5 ∨ !((List.range 5).all (fun t => parts.any (fun p => p.1 == t + 1))) then none
    else if sha256 key ≠ s.fuseBytes 3 4 then none
    else if !ecdsaVerify key (bs.take (len - 64)) sig then none
    else some parts

/-- The checks of R41: the manifest, or the status that names the failure. -/
def State.bundleCheck (s : State) (bs : List Byte) : Except Nat Manifest :=
  match s.bundleParts bs with
  | none => .error stFW_BAD
  | some parts =>
    match readManifest (((parts.find? (fun p => p.1 == 5)).map (·.2)).getD []) with
    | none => .error stFW_BAD
    | some m =>
      if m.epoch < s.fusedEpoch then .error stFW_ROLLBACK
      else if s.stepping ∉ m.steppings then .error stFW_STEPPING
      else .ok m

/-- The manifest of a bank that the ROM accepts. -/
def State.acceptedBank (s : State) (i : Nat) : Option Manifest :=
  match s.bundleCheck (s.bundles.bank i).bytes with
  | .ok m => some m
  | .error _ => none

/-- The bank the ROM boots, with its manifest, and whether the bank with the higher number failed while this one passed
(R41). -/
def State.romSelect (s : State) : Option (Nat × Manifest × Bool) :=
  let higher := if s.bundles.bank0.activation < s.bundles.bank1.activation then 1 else 0
  match s.acceptedBank higher, s.acceptedBank (1 - higher) with
  | some m, _ => some (higher, m, false)
  | none, some m => some (1 - higher, m, s.bundles.bank0.activation != s.bundles.bank1.activation)
  | none, none => none

/-- The inactive bundle bank (R41). -/
def State.inactiveBundle (s : State) : Nat :=
  match s.bundles.running with
  | some i => 1 - i
  | none => if s.bundles.bank1.activation < s.bundles.bank0.activation then 1 else 0

/-! ### Configuration banks (R45, R260) -/

/-- The newer configuration bank, and the inactive one: bank 0 while nothing is committed (log 15). -/
def ConfigSt.newer (c : ConfigSt) : Nat := if c.bank0.sequence < c.bank1.sequence then 1 else 0
def ConfigSt.inactive (c : ConfigSt) : Nat :=
  if c.bank0.sequence = 0 ∧ c.bank1.sequence = 0 then 0 else 1 - c.newer
def ConfigSt.newerBank (c : ConfigSt) : ConfigBank := c.bank c.newer
/-- The commit sequence number of the newer bank (SUP W4). -/
def ConfigSt.sequence (c : ConfigSt) : Nat := c.newerBank.sequence

/-- The settings the container checks read. -/
def State.checkEnv (s : State) : CheckEnv :=
  let m := s.bundles.manifest.getD default
  { epochMin := m.graphMin, epochMax := m.graphMax, portModes := s.params.ports.map (·.mode),
    portIps := s.params.ports.map (·.ip), identity := s.identity }

/-- The evaluators that are absent: retired, with STB not standing in (R172, R176). -/
def State.absentEvaluators (s : State) : List Nat :=
  [bSA0, bSA1, bBR0, bBR1].filter (fun p => (s.pair p).retired && s.pairs.stbFor != some p)

/-- The switch-off time in force: the latest measurement, 0 when there is none (R168). -/
def State.tOffOf (s : State) (c : Nat) : Nat := (s.rif.tOff.get? c).getD (s.params.cal.getD c {}).tOff

/-- What admission reads at acceptance (R176). -/
def State.admitEnv (s : State) (formA formB : Nat) (keptCells keptPulses : List (Nat × Nat × Nat)) : AdmitEnv :=
  { unusable := (s.rif.units.filter (fun e => e.2.unusable)).map (·.1),
    tOff := (List.range 64).map s.tOffOf,
    absent := s.absentEvaluators, keptCells := keptCells, keptPulses := keptPulses,
    formA := formA, formB := formB, portModes := s.params.ports.map (·.mode), stbIn := s.pairs.stbFor.isSome }

/-- The header of a form (Table 5.17), by side: 0 for the A-form, 1 for the B-form. -/
def Form.header (f : Form) (side : Nat) : List Byte :=
  [0x46, 0x59, 0x43, byte (0x41 + side)] ++ leBytes 2 1 ++ zeros 2 ++ leBytes 4 f.length ++ leBytes 4 f.translator ++
    f.containerHash.take 32 ++ zeros 16

/-- Header and body of a form; the body is the bundle's own. -/
def Form.content (f : Form) (side : Nat) : List Byte :=
  f.header side ++
    (List.range (f.length - 96)).map (fun k => byte (Config.formByte side (leVal f.containerHash) f.translator k))

/-- A form as its cache area holds it: header, body and form hash (R124). -/
def Form.bytes (f : Form) (side : Nat) : List Byte := f.content side ++ f.hash

/-- The form that a translator of a version writes; its length is the bundle's own, no less than header and form hash. -/
def formOf (side : Nat) (hash : List Byte) (translator : Nat) : Form :=
  let f : Form := { containerHash := hash, translator := translator, length := max 96 (Config.formLength side (leVal hash)),
                    hash := [], intact := true }
  { f with hash := sha256 (f.content side) }

/-- The form that the running bundle's translator writes (R124). -/
def State.newForm (s : State) (side : Nat) (hash : List Byte) : Form :=
  formOf side hash (s.bundles.manifest.getD default).translator

/-- A translator's verdict: that of steps 5 to 10, or the one a fault made of it. -/
def verdictOf (fault : Option Verdict) (spec : Option CfgRefusal) : Option CfgRefusal :=
  match fault with
  | none => spec
  | some .accept => none
  | some (.refuse code kind index) => some (refusal code kind index)

/-! ### Certificates (R180, R181) -/

def State.certInfo (s : State) (signed : Bool) (sequence : Nat) : CertInfo :=
  let m := s.bundles.manifest.getD default
  { signed := signed, bundleVersion := m.version, translatorVersion := m.translator, sequence := sequence,
    opSeconds := s.pwr.opSeconds, cycles := s.pwr.powerCycles, identity := s.identity,
    degradedNow := [bSA0, bSA1, bBR0, bBR1].any (fun p => (s.pair p).retired), stbIn := s.pairs.stbFor.isSome }

/-- Issue a signed certificate; the nonce is the device's own. -/
def State.signCert (s : State) (c : Container) (a : Admitted) (sequence : Nat) : List Byte × State :=
  let body := certBody c a (s.certInfo true sequence)
  (body ++ ecdsaSign (beVal (s.fuseBytes 16 4)) (1 + Config.ecdsaNonce s.free % (p256N - 1)) body, { s with free := s.free + 1 })

/-- Loads of the four evaluators under a placement, in units of 0.01 % (Table 7.8). -/
def placedLoads (c : Container) (cells : List CertCell) : List Nat :=
  let one := fun (side : EvalSide) (isA : Bool) (e : Nat) =>
    loadUnits side ((cells.filter (fun k => (if isA then k.sage else k.braid) == e)).foldl (fun (acc : Rat × Rat) k =>
      let u := cellLoad (c.cell k.cell) (if isA then k.costA else k.costB) side.rate
      (acc.1 + u.1, acc.2 + u.2)) (0, 0))
  [one sageSide true 0, one sageSide true 1, one braidSide false 0, one braidSide false 1]

/-- The certificate reissued after a retirement has moved cells (R181): the same hash and WCRT values, the new placement and the
flags of the moment. The stored certificate is that of the configuration whose commit tick was the last (R275). -/
def State.reissueCert (s : State) : State :=
  match s.devCfg with
  | none => s
  | some run =>
    let bank := s.cfg.bank s.cfg.active
    let old := bank.cert
    if old.length < 192 then s
    else
      let i := s.certInfo true run.sequence
      let keep := leAt old 12 4 % 64
      let outs := leAt old 68 2
      let cells := run.cells.flatMap (fun k => leBytes 1 k.cell ++ leBytes 1 k.sage ++ leBytes 1 k.braid ++
        leBytes 1 (b2n k.retry) ++ leBytes 4 k.costA ++ leBytes 4 k.costB)
      let body := old.take 12 ++ leBytes 4 (keep + 64 * b2n i.degradedNow + 128 * b2n i.stbIn) ++ (old.drop 16).take 32 ++
        leBytes 4 i.bundleVersion ++ leBytes 4 i.translatorVersion ++ leBytes 4 i.sequence ++ leBytes 4 i.opSeconds ++
        leBytes 4 i.cycles ++ (old.drop 68).take 4 ++
        (placedLoads run.cont run.cells).flatMap (fun l => leBytes 2 l) ++ (old.drop 80).take (48 + 32 * outs) ++ cells
      let cert := body ++ ecdsaSign (beVal (s.fuseBytes 16 4)) (1 + Config.ecdsaNonce s.free % (p256N - 1)) body
      { s with cfg := s.cfg.setBank s.cfg.active { bank with cert := cert }, free := s.free + 1 }

/-- A draft: not signed, the signature all 0. -/
def State.draftCert (s : State) (c : Container) (a : Admitted) : List Byte := certBody c a (s.certInfo false 0) ++ zeros 64

/-- The stored certificate is valid for a configuration hash (step 10 of Table 2.4). -/
def State.certValid (s : State) (cert hash : List Byte) : Bool :=
  let n := cert.length
  decide (192 ≤ n) && ((cert.drop 16).take 32 == hash) && ecdsaVerify s.publicKey (cert.take (n - 64)) (cert.drop (n - 64))

/-- The placements that a valid certificate carries. -/
def certCells (cert : List Byte) : List CertCell :=
  let outs := leAt cert 68 2
  (List.range (leAt cert 70 2)).map (fun i =>
    let o := 128 + 32 * outs + 12 * i
    ⟨leAt cert o 1, leAt cert (o + 1) 1, leAt cert (o + 2) 1, leAt cert (o + 3) 1 % 2 == 1, leAt cert (o + 4) 4, leAt cert (o + 8) 4⟩)

end Sys2Proof.Machine
end

