-- ==== Sys2Proof/Machine/RifOps.lean ====
section
/-! DEFINITION. Riffle's own rules (15): coverage, signatures, verdicts, unusable marks, and what a request is answered. -/

namespace Sys2Proof.Machine

/-! ### Coverage (R334, R335) -/

/-- Passes of a program per coverage round (Table 15.3). -/
def required (mode sel : Nat) : Nat :=
  if mode = mOFF then 0
  else if sel = 0x18 then 1000
  else if sel = 0x19 then (if mode = mIN_MON then 500 else 0)
  else if sel = 0x1A then (if mode ≤ 3 then 500 else 1000)
  else if sel = 0x1B then (if mode = mOUT_SAFE ∨ mode = mOUT_PAIR then 1000 else if mode ≤ 3 then 0 else 500)
  else if sel = 0x1C ∨ sel = 0x1D then (if mode = mOUT_SAFE ∨ mode = mOUT_PAIR then 500 else 250)
  else 0

def passKey (sel v : Nat) : Nat := 8 * (sel - 0x18) + v % 8

/-- Passes of a program in this round. -/
def Coverage.total (k : Coverage) (sel : Nat) : Nat := ((List.range 8).map (fun v => k.passes.getD (passKey sel v) 0)).sum

/-- A variant of a program still counts in this round: the passes are spread evenly over the variants. -/
def Coverage.open (k : Coverage) (mode sel v : Nat) : Bool :=
  decide (k.total sel < required mode sel) && decide (k.passes.getD (passKey sel v) 0 < (required mode sel + 7) / 8)

/-- The program furthest behind its share at a variant (R336). -/
def Coverage.behind (k : Coverage) (mode v : Nat) : Option Nat :=
  let less := fun (a b : Nat) =>
    decide (k.passes.getD (passKey a v) 0 * required mode b < k.passes.getD (passKey b v) 0 * required mode a)
  (List.range 6).foldl (fun best i =>
    let sel := 0x18 + i
    if !k.open mode sel v then best
    else match best with
      | none => some sel
      | some b => if less sel b then some sel else best) none

/-- A pass counts in the round; the round that ends starts the next with a deadline 30 s later and ends the overdue sources
(R334, R335). -/
def State.coverPass (s : State) (c sel v : Nat) : State :=
  let mode := (s.chanEntry c).mode
  let k := s.cov c
  let k := if k.open mode sel v then { k with passes := k.passes.put (passKey sel v) (k.passes.getD (passKey sel v) 0 + 1) } else k
  let done := mode != mOFF && (List.range 6).all (fun i => decide (required mode (0x18 + i) ≤ k.total (0x18 + i)))
  if done then
    let s := s.setCov c { k with passes := [], deadline := k.deadline.map (fun _ => s.rif.clock + 30) }
    (s.clear bRIF 1 (unitNo 0 c) whoDev).clear bRIF 2 (unitNo 0 c) whoDev
  else s.setCov c k

/-- Seconds past a channel's deadline. -/
def State.overdue (s : State) (c : Nat) : Nat :=
  match (s.cov c).deadline with
  | some d => s.rif.clock - d
  | none => 0

/-! ### Signatures (R338) -/

/-- The band byte of a step: point k in bits 2k + 1:2k. -/
def bandByte (code : Nat → Nat) : Byte := byte (code 0 + 4 * code 1 + 16 * code 2 + 64 * code 3)

/-- The signature of a slice. -/
def sliceSig (sel v c : Nat) (bands : List Byte) (count : Nat) (marker : Bool) : Nat :=
  crc 32 0x04C11DB7 0xFFFFFFFF ([byte sel, byte v, byte c] ++ bands ++ [byte count, byte (b2n marker)])

/-- The points that a step of a program measures (Table 15.1): the four thresholds or ladder points of THRESH and WINDOW, the VF monitor
and the second temperature sensor in step 2 of GROUPREF, else one. -/
def slicePoints (sel step : Nat) : Nat :=
  if sel = 0x18 ∨ sel = 0x19 then 4 else if sel = 0x1D ∧ step = 1 then 2 else 1

/-- The band of point k of a step's raw result: for THRESH and WINDOW bit k of the result against the expected bit, else below, inside or
above the point's window (R338). -/
def SliceRun.band (r : SliceRun) (step raw k : Nat) : Nat :=
  if r.sel = 0x18 ∨ r.sel = 0x19 then
    b2n (raw.testBit k == Config.sliceExpect r.sel r.variant r.chan step k)
  else Config.sliceBand r.sel r.variant r.chan step raw k % 3

/-- The signature as received: each step's result is banded with the points of that step. -/
def SliceRun.got (r : SliceRun) : Nat :=
  let bands := r.results.map (fun x => bandByte (fun k => if k < slicePoints r.sel x.1 then r.band x.1 x.2 k else 3))
  sliceSig r.sel r.variant r.chan bands r.results.length r.marker

/-- The expected signature: every measured point inside its window, two steps and the marker. -/
def SliceRun.want (r : SliceRun) : Nat :=
  let bands := [0, 1].map (fun i => bandByte (fun k => if k < slicePoints r.sel i then 1 else 3))
  sliceSig r.sel r.variant r.chan bands 2 true

/-! ### Unusable units (R345) -/

def State.markUnusable (s : State) (u : Nat) : State :=
  (s.setUnit u { s.unit u with unusable := true }).raise bRIF 0 u whoDev

def State.clearUnusable (s : State) (u : Nat) : State :=
  (s.setUnit u { s.unit u with unusable := false }).clear bRIF 0 u whoDev

/-- Count a result of a unit: 0 pass, 1 fail, 2 aborted, 3 skipped. -/
def State.unitResult (s : State) (u res : Nat) : State :=
  let r := s.unit u
  s.setUnit u (match res with
    | 0 => { r with last := 0, passes := r.passes + 1, lastPass := s.pwr.opSeconds }
    | 1 => { r with last := 1, fails := r.fails + 1 }
    | 2 => { r with last := 2, aborts := r.aborts + 1 }
    | _ => { r with last := 3, skips := r.skips + 1 })

/-- A slice or check that its run conditions forbid: counted, and SLICE_SKIP raised (R337). -/
def State.countSkip (s : State) (u : Nat) : State :=
  (({ s with rif := { s.rif with skipped := s.rif.skipped + 1 } } : State).unitResult u 3).event bRIF 4 u

/-! ### Requests (R346) -/

/-- SELFTEST_REQUEST answers; a pass clears the unit's mark (R345). -/
def State.finishSelfTest (s : State) : State :=
  match s.rif.selfTest with
  | none => s
  | some t =>
    let s : State := { s with rif := { s.rif with selfTest := none } }
    let s := s.answer .selfTest stOK t.payload
    if t.result = 0 then s.clearUnusable (unitNo t.kind t.index) else s

/-- A program of the requested channel is done; the others are still to run. -/
def State.selfTestStep (s : State) (t : SelfTest) (sel : Nat) : State :=
  let left := t.left.erase sel
  let s : State := { s with rif := { s.rif with selfTest := some { t with left := left } } }
  if left.isEmpty then s.finishSelfTest else s

/-! ### Verdicts (R339, R340) -/

/-- The die aborted the slice of this grant: in its tick, or it holds it still, aborted or with step 2 to come (R333). -/
def State.dieCut (s : State) (c : Nat) : Bool :=
  let ch := s.chan c
  (ch.cutAt.isSome && ch.cutAt == s.rif.sliceTick) ||
    (match ch.slice with
     | some x => x.aborted || x.step == 1
     | none => false)

/-- The slice ends: its verdict, and the grant returns. Two failures in succession of one code and variant make the channel unusable;
other slices that come between them change nothing (R340). -/
def State.judgeSlice (s : State) : State :=
  match s.rif.slice with
  | none => s
  | some r =>
    let u := unitNo 0 r.chan
    let stopped := r.final && !r.marker && r.results.getLast?.map (·.2) == some 0
    let aborted := r.aborted || !r.started || s.dieCut r.chan || stopped
    let got := r.got
    let want := r.want
    let pass := r.marker && r.results.length == 2 && got == want
    let coverage := decide (r.sel ≤ 0x1D)
    let s : State := { s with rif := { s.rif with slice := none, granted := false } }
    let asked := if r.forRequest then s.rif.selfTest else none
    let k := s.cov r.chan
    if aborted then
      let s := if r.aborted then s else (s.unitResult u 2).event bRIF 3 u
      match asked with
      | some t => s.selfTestStep { t with aborted := true, sig := got, expected := want } r.sel
      | none => s
    else if pass then
      let s := s.unitResult u 0
      let s := s.setCov r.chan { k with
        repeats := k.repeats.erase (r.sel, r.variant),
        verified := if s.dev.st = .verify ∧ coverage then setMem k.verified r.sel else k.verified }
      let s := if coverage then s.coverPass r.chan r.sel r.variant else s
      let s := match s.rif.cal with
        | some x =>
          if x.left.head? ≠ some r.chan then s
          else if r.sel = 0x1E then { s with rif := { s.rif with cal := some { x with measured := true } } }
          else if r.sel = 0x1F ∧ x.measured then { s with rif := { s.rif with cal := some { x with verified := true } } }
          else s
        | none => s
      match asked with
      | some t => s.selfTestStep { t with sig := got, expected := want } r.sel
      | none => s
    else
      let s := s.unitResult u 1
      if (r.sel, r.variant) ∈ k.repeats then
        let s := (s.setCov r.chan { k with repeats := k.repeats.erase (r.sel, r.variant) }).markUnusable u
        match asked with
        | some t => s.selfTestStep { t with failed := true, sig := got, expected := want } r.sel
        | none => s
      else
        let s := s.setCov r.chan { k with repeats := k.repeats ++ [(r.sel, r.variant)] }
        match asked with
        | some t => { s with rif := { s.rif with selfTest := some { t with sig := got, expected := want } } }
        | none => s

/-- A status frame with a valid CRC arrives from the channel of the slice (R332, R338): once per slot, whichever channel reports it. It is
a slice status frame where its CLASS is NO_DATA. -/
def State.sliceFrame (s : State) (c : Nat) (icode : Nat) (mid noData : Bool) : State :=
  match s.rif.slice with
  | none => s
  | some r =>
    let i := s.time.slotInTick - 1
    if r.chan ≠ c ∨ (i ≠ 1 ∧ i ≠ 2) ∨ r.slot = s.time.slotNo then s
    else
      let r := { r with results := if noData then r.results ++ [(i - 1, icode)] else r.results, marker := noData && mid,
                        slot := s.time.slotNo, started := if i = 1 then noData else r.started,
                        final := r.final || (i == 2 && noData) }
      let s : State := { s with rif := { s.rif with slice := some r } }
      if i = 2 then s.judgeSlice else s

/-! ### Run conditions and the choice of a slice (R336, R337) -/

/-- The run conditions of the logic side and, for a group, of its supply and temperature as channel A reads them. -/
def State.sliceMayRun (s : State) (g : Option Nat) : Bool :=
  decide (1750 ≤ s.pwr.vsup) && decide (s.pwr.vsup ≤ 3600) && decide (-200 ≤ s.clk.ratioDev) && decide (s.clk.ratioDev ≤ 200) &&
  decide (-40 ≤ s.pwr.tj) && decide (s.pwr.tj ≤ 125) &&
  (match g with
   | none => true
   | some g =>
     let v := s.gview .a g
     v.vfValid && decide (1920 ≤ v.vfCode) && decide (v.vfCode ≤ 3000) && decide (192 ≤ v.tempCode) && decide (v.tempCode ≤ 1512))

/-- Riffle runs slices on its own in these states (R335, R341, R343). -/
def DevState.covers : DevState → Bool
  | .verify => true | .run => true | .safe => true
  | _ => false

/-- The channels that can carry a slice: in use, the group's unit slices done, and their coupler in operation, with a first reading of
VF. -/
def State.sliceable (s : State) (c : Nat) : Bool :=
  (s.chanEntry c).mode != mOFF && !s.groupSliceDue (c / 16) && (s.coupler c).step == 7 && (s.gview .a (c / 16)).vfTick.isSome

/-- The passes of a channel's round that an even pace up to its deadline would have reached are not all there (log 106). -/
def State.behindPace (s : State) (c : Nat) : Bool :=
  match (s.cov c).deadline with
  | none => false
  | some d =>
    let mode := (s.chanEntry c).mode
    let sum := fun (f : Nat → Nat) => ((List.range 6).map (fun i => f (0x18 + i))).sum
    decide (30 * sum (fun sel => min (required mode sel) ((s.cov c).total sel)) < sum (required mode) * (s.rif.clock + 30 - d))

/-- The channel with the nearest deadline of those with something to run at a variant. -/
def State.nearest (s : State) (v : Nat) : Option (Nat × Nat) :=
  let better := fun (a b : Nat) =>
    match (s.cov a).deadline, (s.cov b).deadline with
    | some x, some y => decide (x < y)
    | some _, none => true
    | _, _ => false
  (List.range 64).foldl (fun best c =>
    match (s.cov c).behind (s.chanEntry c).mode v with
    | none => best
    | some sel =>
      if !s.sliceable c ∨ (s.cov c).deadline.isNone then best
      else match best with
        | none => some (c, sel)
        | some (b, x) => if better c b then some (c, sel) else some (b, x)) none

/-- What Riffle runs in slot 1 with variant v: a repeat, a requested program, a start-up program once the unit slices are done (R343), or
coverage; the result says whether a request asked for it. A request and a start-up program wait for the repeat of that program alone
(R340). -/
def State.chooseSlice (s : State) (v : Nat) : Option (Nat × Nat × Bool) :=
  let asked := fun (c sel : Nat) =>
    match s.rif.selfTest with
    | some t => t.kind == 0 && t.index == c && t.left.head? == some sel
    | none => false
  let again := (List.range 64).findSome? (fun c =>
    if s.sliceable c then ((s.cov c).repeats.find? (fun x => x.2 == v)).map (fun x => (c, x.1, asked c x.1)) else none)
  let request := match s.rif.selfTest with
    | some t =>
      if t.kind = 0 then
        t.left.head?.bind (fun sel => if (s.cov t.index).repeats.any (fun x => x.1 == sel) then none else some (t.index, sel, true))
      else none
    | none => none
  let start := if s.dev.st = .verify ∧ s.dev.verifyCause ≠ .restart ∧ s.unitSlicesDone then
      (List.range 64).findSome? (fun c =>
        if !s.sliceable c ∨ (s.unit (unitNo 0 c)).unusable then none
        else (([0x18, 0x19, 0x1A, 0x1B, 0x1C, 0x1D].filter (fun p => decide (0 < required (s.chanEntry c).mode p) &&
            decide (p ∉ (s.cov c).verified) && !(s.cov c).repeats.any (fun x => x.1 == p))).head?).map (fun sel => (c, sel, false)))
    else none
  let cover := if s.dev.st = .run ∨ s.dev.st = .safe then (s.nearest v).map (fun x => (x.1, x.2, false)) else none
  again.or (request.or (start.or cover))

/-- A slice that its run conditions forbid: counted, and SLICE_SKIP raised (R337). It passes nothing; a start-up program is
left behind, so that VERIFY ends (R37). The tick is used up (log 106). -/
def State.skipSlice (s : State) (c sel : Nat) (forRequest : Bool) : State :=
  let u := unitNo 0 c
  let s := ({ s with rif := { s.rif with sliceTick := some s.time.tick } } : State).countSkip u
  let s := if s.dev.st = .verify then s.setCov c { s.cov c with verified := setMem (s.cov c).verified sel } else s
  match (if forRequest then s.rif.selfTest else none) with
  | some t => s.selfTestStep { t with skipped := true } sel
  | none => s

end Sys2Proof.Machine
end

