-- ==== Sys2Proof/Machine/FieldSlot.lean ====
section
/-! DEFINITION. The coupler slot on the logic side (R71 to R73, R78, R82) and the start of a channel slice (R331, R336). -/

namespace Sys2Proof.Machine

/-- The coupler interfaces send frames: clocks run, both channels have their memories, and the device has left RESET. -/
def State.slotsRun (s : State) : Bool :=
  s.clocked && s.on 9 && s.on 10 && s.dev.st != .off && s.dev.st != .reset

/-- A side heard a valid status frame of the channel in the last slot. -/
def State.heardBy (s : State) (sd : Side) (c : Nat) : Bool := (s.view sd c).heard == some s.time.slotNo

/-- The step of Table 3.17 that the coupler's next frame belongs to. -/
def State.nextStep (s : State) (c : Nat) : Nat :=
  let k := s.coupler c
  let a := s.view .a c
  let b := s.view .b c
  let heard := s.heardBy .a c || s.heardBy .b c
  let unsync := (s.heardBy .a c && a.state == 2) || (s.heardBy .b c && b.state == 2)
  match k.goto with
  | some x => x
  | none =>
    if k.step = 0 then (if heard then 1 else 0)
    else if k.step = 1 then 2
    else if unsync then 1
    else if k.step < 6 then k.step + 1
    else if k.step = 6 then
      (if a.rb0 && a.rb1 && b.rb0 && b.rb1 then (if a.ready && b.ready then 7 else 6) else if heard then 1 else 0)
    else 7

/-- Move a coupler to its next step; before the readback both channels hold their tokens OFF. -/
def State.advanceCoupler (s : State) (c : Nat) : State :=
  let k := s.nextStep c
  let off := fun (v : View) => if k ≤ 3 then { v with rb0 := false, rb1 := false, ready := false, taken := false }
    else if k = 7 ∧ (s.coupler c).step ≠ 7 then { v with sampleAge := 0 } else v
  let s := s.setCoupler c { step := k, goto := none, frame := none }
  (s.setView .a c (off (s.view .a c))).setView .b c (off (s.view .b c))

/-- SEL of a RUN frame in operation: in slot i of a tick the lockout register, the halves of VF and of the die temperature, or
the code of the channel's slice; on Fg.00 while a unit slice of the group is under way, code 0x1D in slot 1 (R341). -/
def State.operatingSel (s : State) (c i : Nat) : Nat :=
  let usual := [2, 0x10, 0x11, 0x12, 0x13].getD i 2
  if c % 16 = 0 ∧ i = 1 ∧ c / 16 ∈ s.rif.groupSlices then 0x1D
  else match s.rif.slice with
  | some r => if r.chan = c ∧ (i = 1 ∨ i = 2) ∧ !r.aborted then r.sel else usual
  | none => usual

/-- The command frame of a channel in slot i with counter n. -/
def State.slotFrame (s : State) (c i n : Nat) : BitVec 40 :=
  let tok := fun (sd : Side) => token sd n (s.tokenOn sd c) c
  let (ty, aux) : Nat × Nat := match (s.coupler c).step with
    | 1 => (tySYNC, n / 16 % 4096 * 2)
    | 2 => (tyCFG, s.wantMode c * 8)
    | 3 => (tyCFG, 512 + s.wantReg1 c * 8)
    | 5 => (tyRUN, 0x1 * 256)
    | 6 => (tyRUN, 0x2 * 256)
    | 7 => (tyRUN, s.operatingSel c i * 256)
    | _ => (tyRUN, 0)
  commandFrame ty (i == 0) n (tok .a) (tok .b) aux

/-- A pulse under way loses its verdict when either channel's request goes OFF (R91, R102). -/
def State.watchPulse (s : State) (h : Nat) : State :=
  let both := s.reqOn .a h && s.reqOn .b h
  let one := fun (s : State) (sd : Side) =>
    match (s.view sd h).pulse with
    | some r => s.setView sd h { s.view sd h with pulse := some { r with reqOk := r.reqOk && both } }
    | none => s
  one (one s .a) .b

/-- The slices in the field dies end before the frames of every slot but slot 2 (R332, R333). -/
def State.endSlices (s : State) : State :=
  s.field.chans.foldl (fun s e => s.setChan e.1 (e.2.endSlice s.time.tick)) s

/-- COUPLER_SLOT: every coupler sends its command frame. The frame counter n advances once a slot on all couplers. -/
def execCouplerSlot (s : State) : Host.Outcome State Fault Refusal :=
  .next (if !s.slotsRun ∨ 5 ≤ s.time.slotInTick then s
    else
      let i := s.time.slotInTick
      let s := (List.range 64).foldl State.advanceCoupler s.closeSlots
      let n := (s.time.frameN + 1) % 65536
      let s : State := { s with time := { s.time with slotInTick := i + 1, slotNo := s.time.slotNo + 1, frameN := n } }
      let s := (List.range 64).foldl State.watchPulse s
      let s := (List.range 64).foldl (fun s c => s.setCoupler c { s.coupler c with frame := some (s.slotFrame c i n) }) s
      let s := if i = 2 then s else s.endSlices
      if i = 3 then s.judgeSlice else s)

/-- A coverage slice needs this tick: a repeat, a requested or start-up program, or one of a channel behind its pace (R287, R336,
R347; log 106). -/
def State.coverageNeeds (s : State) (v : Nat) : Bool :=
  (match s.chooseSlice v with
   | some (c, sel, asked) => asked || (s.cov c).repeats.contains (sel, v) || s.dev.st == .verify
   | none => false) ||
  (List.range 64).any (fun c => s.sliceable c && s.behindPace c && ((s.cov c).behind (s.chanEntry c).mode v).isSome)

/-- The slice that slot 1 of this tick could carry. -/
def State.sliceNow (s : State) (calibrate : Bool) : Option (Nat × Nat × Bool) :=
  let v := (s.time.frameN + 1) % 65536 % 8
  let due := s.chooseSlice v
  match s.rif.cal with
  | none => due
  | some x =>
    if calibrate ∧ !s.coverageNeeds v then x.left.head?.map (fun c => (c, if x.measured then 0x1F else 0x1E, false)) else due

/-- CHANNEL_SLICE_START: between slot 0 and slot 1 of a tick without pulse slots (R336, R337, R343, R346). `calibrate`: Riffle gives
the tick to a calibration, where no coverage slice needs it (R287). A requested program whose channel cannot carry a slice is skipped. -/
def execChannelSliceStart (calibrate : Bool) (s : State) : Host.Outcome State Fault Refusal :=
  .next (if !s.slotsRun ∨ s.time.slotInTick ≠ 1 ∨ s.rif.granted ∨ s.rif.slice.isSome ∨ s.anyPulse ∨
      s.rif.sliceTick = some s.time.tick ∨ s.rif.logicTick = some s.time.tick then s
    else match s.sliceNow calibrate with
      | none => s
      | some (c, sel, asked) =>
        if !s.sliceMayRun (some (c / 16)) ∨ (asked ∧ !s.sliceable c) then s.skipSlice c sel asked
        else
          let v := (s.time.frameN + 1) % 65536 % 8
          { s with rif := { s.rif with
            granted := true, sliceTick := some s.time.tick, slices := sat16 (s.rif.slices + 1),
            slice := some { chan := c, sel := sel, variant := v, slot := s.time.slotNo, results := [], marker := false,
                            started := true, aborted := false, forRequest := asked } } })

end Sys2Proof.Machine
end

