-- ==== Sys2Proof/Machine/FieldView.lean ====
section
/-! DEFINITION. What each channel makes of the status frames it checks (R83, R93, R94, R69, R82), and the detectors that follow
from them (03, 04). -/

namespace Sys2Proof.Machine

/-- A converter code through the coefficients in force at this tick's sample (R288). Those of a fresh channel change
nothing. -/
def State.calCode (s : State) (c raw : Nat) : Nat :=
  let k := match s.params.calDue.find? (fun d => d.chan == c && decide (s.time.tick < d.at_)) with
    | some d => d.cal
    | none => s.params.cal.getD c {}
  if k.gain = 0x10000#32 ∧ k.offset = 0#32 then raw else Config.calibrated k.gain.toNat k.offset.toNat raw

/-! ### The readback of Table 3.17 (R82) -/

/-- The answer to a readback frame of step 4, 5 or 6. -/
def State.readback (s : State) (sd : Side) (c : Nat) (x : StatusFrame) : State :=
  let v := s.view sd c
  let b := fgBlock (c / 16)
  if x.state = 2 then s.setView sd c { v with ready := false, taken := false }
  else match (s.coupler c).step with
    | 4 =>
      let ok := x.ext == s.wantMode c
      let s := s.setView sd c { v with rb0 := ok }
      if ok then s else s.raise b 12 c (Side.bit sd)
    | 5 =>
      let ok := x.ext == s.wantReg1 c
      let s := s.setView sd c { v with rb1 := ok }
      if !ok then s.raise b 12 c (Side.bit sd) else if v.rb0 then s.clear b 12 c (Side.bit sd) else s
    | 6 =>
      let ok := v.rb0 && v.rb1 && x.ext % 16 == 0
      s.setView sd c { v with ready := ok, taken := v.taken && ok }
    | _ => s

/-! ### Values through EXT (R77, R69, R101) -/

/-- One reading of VFg: the runs below and above the low-warning threshold, at most one reading a tick. -/
def GroupView.vfReading (v : GroupView) (code threshold tick : Nat) : GroupView :=
  if v.vfTick = some tick then v
  else
    { v with vfCode := code, vfValid := true, vfTick := some tick,
             lowRun := if code < threshold then v.lowRun + 1 else 0,
             highRun := if threshold + 30 ≤ code then v.highRun + 1 else 0,
             minVf := some (min code (v.minVf.getD code)) }

/-- The low-warning threshold of a group in VF codes of 10 mV, as the tick edge found it (R289). -/
def State.vfThreshold (s : State) (g : Nat) : Nat := 10 * s.field.vfLow.getD g 192

/-- EXT of an accepted answer in a group view: the halves of a 12-bit value count when their slots are consecutive (R77). -/
def GroupView.ext (v : GroupView) (slot tick threshold sel ext : Nat) : GroupView :=
  let pair := fun (lo : Nat) =>
    match v.half with
    | some h => if h.sel = lo ∧ h.slot + 1 = slot then some (h.value + 64 * ext) else none
    | none => none
  if sel = 0x10 ∨ sel = 0x12 then { v with half := some ⟨sel, ext, slot⟩ }
  else if sel = 0x11 then
    match pair 0x10 with
    | some code => v.vfReading code threshold tick
    | none => v
  else if sel = 0x13 then
    match pair 0x12 with
    | some code => { v with tempCode := code, maxTemp := some (max code (v.maxTemp.getD code)) }
    | none => v
  else v

/-- What the EXT of an answer makes of a group view; only that of a RUN frame at a synchronised die carries a value. -/
def State.extOf (s : State) (g : Nat) (cmd : BitVec 40) (x : StatusFrame) (v : GroupView) : GroupView :=
  if frBits cmd 39 38 == tyRUN && x.state != 2 then v.ext s.time.slotNo s.time.tick (s.vfThreshold g) (cmdSel cmd) x.ext else v

/-! ### Checks on a sample (R93, R94) -/

/-- W of a channel, 200 µs where it has none (R93). -/
def offWait (e : ChanEntry) : Nat := if e.mode = mOUT_STD then 200 else e.widthUs

/-- The off-state check (R93). -/
def State.offStateCheck (s : State) (sd : Side) (c : Nat) : State :=
  let e := s.chanEntry c
  let v := s.view sd c
  let b := fgBlock (c / 16)
  let who := Side.bit sd
  let due := match v.openSince with
    | some t => !s.reqOn .a c && !s.reqOn .b c && decide (offWait e ≤ 10 * (s.time.slotNo - t))
    | none => false
  if !due then s
  else
    let s := s.condition b 0 c who (v.cls == clON)
    let s :=
      if v.swaHeld then
        (if v.cls = clOFF ∧ !v.mid then (s.setView sd c { s.view sd c with swaHeld := false }).clear b 1 c who else s)
      else s.condition b 1 c who (v.cls == clOFF && v.mid)
    if v.swbHeld then (s.setView sd c { s.view sd c with swbHeld := false }).clear b 2 c who else s

/-- The on-state check (R94) and the run of the open-load time. An on-state sample with land UNDEF and ICODE below 2 is none of those
that restart the time, and advances it as little (log 98). -/
def State.onStateCheck (s : State) (sd : Side) (c : Nat) : State :=
  let v := s.view sd c
  let b := fgBlock (c / 16)
  let who := Side.bit sd
  let run := if v.swa && v.swb then v.onRun + 1 else 0
  let on := decide (2 ≤ run)
  let load := if v.pulseBit ∨ (on ∧ v.cls = clUNDEF ∧ v.icode < 2) then v.openLoad
    else if on && v.cls == clON && decide (v.icode < 2) then v.openLoad + 1 else 0
  let s := s.setView sd c { v with onRun := run, openLoad := load }
  if !on then s
  else
    let s := if !v.mid then (s.setView sd c { s.view sd c with swaHeld := true }).raise b 1 c who else s
    let s := if v.mid ∧ v.cls = clOFF ∧ v.icode < 2 then
        (s.setView sd c { s.view sd c with swbHeld := true }).raise b 2 c who else s
    if 2 ≤ v.icode then s.clear b 6 c who else s

/-! ### STATUS_FRAME -/

/-- The previous or new agreed sample enters the filter, unless R61 excludes it. -/
def View.filterTick (v : View) (e : ChanEntry) : View :=
  if e.mode = mOFF ∨ v.cls = clNONE ∨ (e.isInput ∧ v.pulseBit) then v else v.filterSample (filterClass e v.cls)

/-- A view after an absent frame (R83): the marked slot repeats the previous agreed sample. -/
def State.absentView (s : State) (c : Nat) (marked : Bool) (v : View) : View :=
  let v := { v with frameAge := v.frameAge + 1, slot := s.time.slotNo }
  if marked then
    ({ v with lastSample := { at_ := s.time.tick },
              sampleAge := if (s.coupler c).step = 7 then v.sampleAge + 1 else 0 } : View).filterTick (s.chanEntry c)
  else v

/-- An absent frame (R83): a group of which no coupler answers has no VF reading any more (R396). -/
def State.noStatus (s : State) (sd : Side) (c : Nat) (marked : Bool) : State :=
  let s := s.setView sd c (s.absentView c marked (s.view sd c))
  let g := c / 16
  let silent := (List.range 16).all (fun i =>
    let x := s.view sd (16 * g + i)
    x.slot == s.time.slotNo && x.heard != some s.time.slotNo)
  if silent then s.setGview sd g { s.gview sd g with vfValid := false } else s

/-- A view after the bits of a frame that passed the checks of R83. -/
def State.answeredView (s : State) (cmd : BitVec 40) (x : StatusFrame) (v : View) : View :=
  let sliceSel := frBits cmd 39 38 == tyRUN && decide (0x18 ≤ cmdSel cmd)
  { v with
    state := x.state, frameAge := 0, heard := some s.time.slotNo, slot := s.time.slotNo,
    mid := if sliceSel && x.cls == clNONE then v.mid else x.mid, swa := x.swa, swb := x.swb,
    ol := x.ol, ot := x.ot, uv := x.uv, ov := x.ov,
    openSince := if x.swa || x.swb then none else v.openSince.or (some s.time.slotNo) }

/-- A view after the sample of a marked slot. -/
def State.sampledView (s : State) (c : Nat) (x : StatusFrame) (v : View) : View :=
  let usable := x.cls != clNONE
  let code := s.calCode c x.icode
  let seen : Seen := { at_ := s.time.tick, valid := usable, cls := x.cls, icode := code, swa := x.swa, swb := x.swb, mid := x.mid,
                       synced := x.state == 1, lockout := x.state == 3 || x.ol || x.ot || x.uv || x.ov }
  ({ v with lastSample := seen, icode := code, maxI := max code v.maxI,
            cls := if usable then x.cls else v.cls,
            sampleAge := if usable then 0 else if (s.coupler c).step = 7 then v.sampleAge + 1 else 0 } : View).filterTick
    (s.chanEntry c)

/-- The sample of a marked slot, and the checks on it. -/
def State.sampleStatus (s : State) (sd : Side) (c : Nat) (x : StatusFrame) : State :=
  let s := s.setView sd c (s.sampledView c x (s.view sd c))
  if x.cls != clNONE ∧ (s.chanEntry c).drives then (s.offStateCheck sd c).onStateCheck sd c else s

/-! ### The two pairs of a channel (R26, R184, R185) -/

/-- One capture of an input by a pair: a disagreement is counted, an input that agrees again ends AGR_PERSIST (R185). -/
def State.capture (s : State) (p kind index : Nat) (bad : Bool) : State :=
  let k := s.pair p
  let mine := fun (a : AgrCount) => a.kind == kind && a.index == index
  let counted := if k.agr.any mine then k.agr.map (fun a => if mine a then { a with count := a.count + 1 } else a)
    else k.agr ++ [⟨kind, index, 1⟩]
  if bad then s.setPair p { k with agr := counted }
  else if k.agr.any mine then
    (s.setPair p { k with agr := k.agr.filter (fun a => !mine a) }).clear (s.roleOf p) 2 (kind * 4096 + index % 4096) whoDev
  else s

/-- A group none of whose couplers has given a pair a frame in this slot has no VF reading for that pair any more (R396, R26). -/
def State.pairGroupSilence (s : State) (sd : Side) (role g : Nat) : State :=
  let silent := (List.range 16).all (fun i =>
    (s.view sd (16 * g + i)).slot == s.time.slotNo && decide (0 < (s.pairView sd role (16 * g + i)).frameAge))
  if silent then s.setPairGroup sd role g { s.pairGroup sd role g with vfValid := false } else s

/-- One pair of a channel takes a frame on which its copies agree (`off` false), or for which they do not and which is absent for it.
`v` and `gv` are the channel's views before the frame, `ok` and `gok` what the frame makes of a view. -/
def State.pairFrame (s : State) (sd : Side) (c : Nat) (marked off : Bool) (v : View) (gv : GroupView) (ok : View → View)
    (gok : GroupView → GroupView) (role : Nat) : State :=
  let g := c / 16
  let was := s.field.pairViews.get? (8 * c + role)
  let gwas := s.field.pairGroups.get? (8 * g + role)
  let s := if was.isNone && !off then s
    else
      let x := v.withPair (was.getD v.pairPart)
      s.setPairView sd role c (if off then s.absentView c marked x else ok x).pairPart
  let s := if gwas.isNone && !off then s
    else
      let y := gv.withPair (gwas.getD gv.pairPart)
      s.setPairGroup sd role g (if off then y else gok y).pairPart
  if off then s.pairGroupSilence sd role g else s

/-- The pairs of a channel take a frame: each captures it, and for one whose copies disagreed on it (`dis`) it is absent. -/
def State.pairFrames (s : State) (sd : Side) (c : Nat) (marked : Bool) (dis : List Nat) (v : View) (gv : GroupView) (ok : View → View)
    (gok : GroupView → GroupView) : State :=
  (rolesOf sd).foldl (fun s role =>
    let off := decide (s.hardware role ∈ dis)
    (s.capture (s.hardware role) 0 c off).pairFrame sd c marked off v gv ok gok role) s

/-- The pairs of a channel in a slot without a frame to capture. -/
def State.pairSilence (s : State) (sd : Side) (c : Nat) (marked : Bool) (v : View) : State :=
  (rolesOf sd).foldl (fun s role =>
    let s := match s.field.pairViews.get? (8 * c + role) with
      | none => s
      | some p => s.setPairView sd role c (s.absentView c marked (v.withPair p)).pairPart
    match s.field.pairGroups.get? (8 * (c / 16) + role) with
    | none => s
    | some _ => s.pairGroupSilence sd role (c / 16)) s

/-- The copies of every working pair of the channel disagreed on a frame: it is absent for the channel itself (R26). -/
def State.noPairTakes (s : State) (sd : Side) (dis : List Nat) : Bool :=
  let work := (rolesOf sd).filter (s.pairRuns ·)
  !work.isEmpty && work.all (fun role => decide (s.hardware role ∈ dis))

/-- What R83 calls lost: two ticks without a usable sample from a coupler in operation, or 20 slots without a valid frame. -/
def couplerLost (step sampleAge frameAge : Nat) : Bool := (step == 7 && decide (2 ≤ sampleAge)) || decide (20 ≤ frameAge)

/-- A pair of the channel has lost the coupler. -/
def State.pairLost (s : State) (sd : Side) (c : Nat) : Bool :=
  (rolesOf sd).any (fun role => couplerLost (s.coupler c).step (s.pairView sd role c).sampleAge (s.pairView sd role c).frameAge)

/-- VF_MISSING ends when every channel in use is SYNCED and read back right (Table 4.9). -/
def State.groupBack (s : State) (sd : Side) (g : Nat) : State :=
  if s.holds (fgBlock g) 18 g (Side.bit sd) ∧
      (List.range 16).all (fun i =>
        let c := 16 * g + i
        let v := s.view sd c
        (s.chanEntry c).mode == mOFF || (v.state == 1 && v.rb0 && v.rb1)) then
    s.clear (fgBlock g) 18 g (Side.bit sd)
  else s

/-- A frame that passed the checks of R83. -/
def State.goodStatus (s : State) (sd : Side) (c : Nat) (cmd : BitVec 40) (x : StatusFrame) : State :=
  let g := c / 16
  let b := fgBlock g
  let who := Side.bit sd
  let s := s.setView sd c (s.answeredView cmd x (s.view sd c))
  let s := s.readback sd c x
  let s := s.condition b 16 g who x.uv
  let s := s.condition b 17 g who x.ov
  let s := s.condition b 8 c who x.ol
  let s := s.condition b 9 c who x.ot
  let bad := match sd with
    | .a => x.atokBad
    | .b => x.btokBad
  let s := if bad then s.event b 11 c else s
  let s := s.setGview sd g (s.extOf g cmd x (s.gview sd g))
  let s := s.sliceFrame c x.icode x.mid (x.cls == clNONE)
  let s := if cmdTick cmd then s.sampleStatus sd c x else s
  s.groupBack sd g

/-- What a good frame makes of a view, its marked sample included. -/
def State.frameView (s : State) (c : Nat) (cmd : BitVec 40) (x : StatusFrame) (v : View) : View :=
  let v := s.answeredView cmd x v
  if cmdTick cmd then s.sampledView c x v else v

/-- COUPLER_LOST ends at a usable marked sample, unless a pair of the channel still misses its samples (R83), also after a supply loss
(R101, log 111). -/
def State.couplerBack (s : State) (sd : Side) (c : Nat) (cmd : BitVec 40) (x : StatusFrame) : State :=
  if cmdTick cmd ∧ x.cls ≠ clNONE ∧ !s.pairLost sd c then s.clear (fgBlock (c / 16)) 14 c (Side.bit sd) else s

/-- STATUS_FRAME: a channel checks the answer to this slot's command frame; `none` is silence on the coupler. `dis` are the pairs
whose two copies captured unequal halves of it (R184): it is absent for those, and for the channel where no working pair took it (R26). -/
def execStatusFrame (sd : Side) (c : Nat) (frame : Option (BitVec 40)) (dis : List Nat) (s : State) :
    Host.Outcome State Fault Refusal :=
  .next (match (s.coupler c).frame with
    | none => s
    | some cmd =>
      let v := s.view sd c
      let gv := s.gview sd (c / 16)
      let marked := cmdTick cmd
      if !s.slotsRun ∨ v.slot = s.time.slotNo then s
      else match frame with
        | none => (s.noStatus sd c marked).pairSilence sd c marked v
        | some f =>
          let x := readStatus f
          let absent := fun (s : State) => (s.noStatus sd c marked).pairFrames sd c marked dis v gv (s.absentView c marked) id
          if !statusOk f cmd then absent (s.event (fgBlock (c / 16)) 13 c)
          else if s.noPairTakes sd dis then absent s
          else ((s.goodStatus sd c cmd x).pairFrames sd c marked dis v gv (s.frameView c cmd x) (s.extOf (c / 16) cmd x)).couplerBack
            sd c cmd x)

/-! ### Detectors -/

/-- COUPLER_LOST_DETECT (R83). -/
def execCouplerLostDetect (sd : Side) (c : Nat) (s : State) : Host.Outcome State Fault Refusal :=
  .next (
    let v := s.view sd c
    if (s.chanEntry c).mode ≠ mOFF ∧ (couplerLost (s.coupler c).step v.sampleAge v.frameAge ∨ s.pairLost sd c) then
      s.raise (fgBlock (c / 16)) 14 c (Side.bit sd)
    else s)

/-- The last valid frames of a group's couplers lie within 20 slots of one another (R83); so do those of couplers none of which has ever
been heard (log 111). -/
def closeFrames (hs : List (Option Nat)) : Bool :=
  let some' := hs.filterMap id
  some'.isEmpty || (some'.length == hs.length && decide (some'.foldl max 0 - some'.foldl min (some'.headD 0) ≤ 20))

/-- VF_MISSING_DETECT (R83). -/
def execVfMissingDetect (sd : Side) (g : Nat) (s : State) : Host.Outcome State Fault Refusal :=
  .next (
    let vs := (List.range 16).map (fun i => s.view sd (16 * g + i))
    if vs.all (fun v => decide (20 ≤ v.frameAge)) ∧ closeFrames (vs.map (·.heard)) then
      s.raise (fgBlock g) 18 g (Side.bit sd)
    else s)

/-- VF_LOW_ENTER (R69). -/
def execVfLowEnter (sd : Side) (g : Nat) (s : State) : Host.Outcome State Fault Refusal :=
  .next (
    let v := s.gview sd g
    if 8 ≤ v.lowRun ∧ !v.vfLow then (s.setGview sd g { v with vfLow := true }).raise (fgBlock g) 15 g (Side.bit sd) else s)

/-- VF_LOW_LEAVE (R69). -/
def execVfLowLeave (sd : Side) (g : Nat) (s : State) : Host.Outcome State Fault Refusal :=
  .next (
    let v := s.gview sd g
    if 8 ≤ v.highRun ∧ v.vfLow then (s.setGview sd g { v with vfLow := false }).clear (fgBlock g) 15 g (Side.bit sd) else s)

/-- GROUP_OVERLOAD_TIMEOUT (R68): 10 ms, counted over the ticks from the first to the 201st. -/
def execGroupOverloadTimeout (sd : Side) (g : Nat) (s : State) : Host.Outcome State Fault Refusal :=
  .next (if 201 ≤ (s.gview sd g).overTicks then s.raise (fgBlock g) 10 g (Side.bit sd) else s)

/-- GROUP_OVERLOAD_CLEAR (R68). -/
def execGroupOverloadClear (sd : Side) (g : Nat) (s : State) : Host.Outcome State Fault Refusal :=
  .next (if 201 ≤ (s.gview sd g).underTicks then s.clear (fgBlock g) 10 g (Side.bit sd) else s)

/-- The sources that follow the filtered class of a monitored contact (Table 4.6). -/
def State.monitoredSources (s : State) (sd : Side) (c : Nat) : State :=
  let mon := (s.chanEntry c).mode == mIN_MON
  let f := (s.view sd c).filt
  let b := fgBlock (c / 16)
  (s.condition b 4 c (Side.bit sd) (mon && f == clBREAK)).condition b 5 c (Side.bit sd) (mon && f == clUNDEF)

/-- The filter of a view changes when its run is long enough (R59). -/
def View.filterChange (v : View) (e : ChanEntry) : View :=
  if e.mode ≠ mOFF ∧ v.cand ≠ v.filt ∧ !gapRun e v ∧ filterCount e + 1 ≤ v.count then { v with filt := v.cand, count := 0 } else v

/-- The filter of a gap-tolerant view goes OFF (R60). -/
def View.gapOff (v : View) (e : ChanEntry) : View :=
  if gapRun e v ∧ max (filterCount e) e.gap + 1 ≤ v.count then { v with filt := clOFF, count := 0 } else v

/-- A change of a channel's view, and of what its pairs hold apart from it. -/
def State.mapViews (s : State) (sd : Side) (c : Nat) (f : View → View) : State :=
  let v := s.view sd c
  let kept := (rolesOf sd).filterMap (fun role => (s.field.pairViews.get? (8 * c + role)).map (fun p => (role, p)))
  if f v = v ∧ kept.all (fun e => (f (v.withPair e.2)).pairPart == e.2) then s
  else kept.foldl (fun s e => s.setPairView sd e.1 c (f (v.withPair e.2)).pairPart) (s.setView sd c (f v))

/-- INPUT_FILTER_CHANGE (R59). -/
def execInputFilterChange (sd : Side) (c : Nat) (s : State) : Host.Outcome State Fault Refusal :=
  .next (
    let e := s.chanEntry c
    let t := s.mapViews sd c (fun v => v.filterChange e)
    if (s.view sd c).filterChange e ≠ s.view sd c then t.monitoredSources sd c else t)

/-- GAP_TOLERANCE_OFF (R60). -/
def execGapToleranceOff (sd : Side) (c : Nat) (s : State) : Host.Outcome State Fault Refusal :=
  .next (s.mapViews sd c (fun v => v.gapOff (s.chanEntry c)))

/-- OPEN_LOAD_TIMEOUT (R94): 100 ms, counted over the on-state samples from the first to the 2,001st. -/
def execOpenLoadTimeout (sd : Side) (c : Nat) (s : State) : Host.Outcome State Fault Refusal :=
  .next (if (s.chanEntry c).drives ∧ 50 ≤ (s.chanEntry c).current ∧ 2001 ≤ (s.view sd c).openLoad then
      s.raise (fgBlock (c / 16)) 6 c (Side.bit sd)
    else s)

end Sys2Proof.Machine
end

