-- ==== Sys2Proof/Machine/Startup.lean ====
section
/-! DEFINITION. Start-up from BOOT to RUN (Table 2.4), and the services that leave and reach SAFE (R33, R34, R50, R51). -/

namespace Sys2Proof.Machine

/-! ### Entering MAINTENANCE, VERIFY and RUN -/

/-- MAINTENANCE of a kind, with the failed check it reports (R45, R46, R181). -/
def State.enterMaintenance (s : State) (k : Maint) (code : Option CfgRefusal) : State :=
  let s : State := { s with dev := { s.dev with maint := k, maintCode := code, loaded := false } }
  s.enter .maintenance 0

/-- VERIFY: both channels re-verify their forms and Riffle runs its start-up slices (steps 8 and 9); the couplers write mode
OFF for a group slice, or the new binding. No connection is open in VERIFY (R227, R341). -/
def State.enterVerify (s : State) (cause : VerifyCause) : State :=
  let s : State := { s with
    dev := { s.dev with verifyCause := cause, verifySafe := false, formOk := [false, false], formVerdict := [], certOk := false },
    rif := { s.rif with
      unitsDone := if cause = .restart then s.rif.unitsDone.filter (fun u => decide (u ∉ s.faults.s3Units)) else [],
      coverage := if cause = .restart then s.rif.coverage
        else s.rif.coverage.map (fun e => (e.1, { repeats := e.2.repeats })) } }
  let s : State := { s with cells := { s.cells with sides := s.cells.sides.map (fun e => (e.1, { e.2 with runs := [] })) } }
  let s := (s.enter .verify 0).connResetAll
  (List.range 64).foldl (fun s c =>
    if (s.coupler c).step ≠ 0 ∧ (cause ≠ .restart ∨ s.groupSliceDue (c / 16)) then s.restartCoupler c 2 else s) s

/-- Every cell in use takes its initial values at its first boundary on or after this edge (R34), its outputs commanded off; a line active
at the edge counts as active since it; a shadow that ran ends with its new version (R289). -/
def State.startCells (s : State) : State :=
  (s.cellsInUse).foldl (fun s n =>
    let ln := s.line n
    let s := s.setLine n { ln with entry := true, lineSeen := s.lineActive n, toTransition := false, swapAt := none,
                                   ver := if ln.swapAt.isSome then 1 else ln.ver, verB := if ln.swapAt.isSome then 1 else ln.verB }
    let one := fun (s : State) (sd : Side) =>
      let s := s.setReqs sd (s.boundBy n) (fun _ => false)
      s.setCell sd n { (s.cell sd n).makeSafe (initImage (s.cellCont n) n) s.time.tick false with st := .held }
    one (one s .a) .b) s

/-- The device enters RUN (R34, R43, R335): the cells start, channels in use without a coverage deadline get their first one (at the first
entry after a VERIFY, be it through SAFE), and SUP raises the fused epoch. -/
def State.enterRun (s : State) : State :=
  let s := (s.enter .run 0).startCells
  let s := (List.range 64).foldl (fun s c =>
    if (s.chanEntry c).mode ≠ 0 ∧ (s.cov c).deadline.isNone then
      s.setCov c { s.cov c with deadline := some (s.rif.clock + 30) } else s) s
  s.askEpoch

/-! ### Start-up rows -/

/-- ROM_BANK_CHECK: step 5 (R41, row 6); in MAINTENANCE (ROM) the operating time takes its lifetime value (R325). `secondsErr`
are the errors of the three copies as they are read. -/
def execRomBankCheck (secondsErr : List Word) (s : State) : Host.Outcome State Fault Refusal :=
  .next (if s.dev.st ≠ .boot ∨ s.bundles.running.isSome ∨
      !([1, 2, 3, 4, 5, 6].all (fun p => (s.pair p).selfTestOk)) then s
    else match s.romSelect with
      | none =>
        let secs := (List.range 3).map (fun i => s.oxb.mram.seconds.getD i 0 ^^^ (secondsErr.getD i 0).toNat)
        ((s.takeLifetime secs s.oxb.mram.cycles).enterMaintenance .rom none).romService
      | some (bank, m, fallback) =>
        let s : State := { s with
          bundles := { s.bundles with running := some bank, manifest := some m },
          dev := { s.dev with bundleFallback := fallback } }
        if fallback then s.event bSUP 6 bank else s)

/-- SUP_IMAGE_START: step 6: the supervisor runs, Oxbow mounts, the mailbox is ready; PD7 comes on with a port mode that is
not OFF (Table 17.3). Without SUP, as after shedding, nothing starts. -/
def execSupImageStart (secondsErr cyclesErr : List Word) (s : State) : Host.Outcome State Fault Refusal :=
  .next (if s.dev.st ≠ .boot ∨ s.bundles.running.isNone ∨ s.oxb.mounted ∨ !s.supRuns then s
    else
      let read := fun (copies : List Nat) (errs : List Word) =>
        (List.range 3).map (fun i => copies.getD i 0 ^^^ (errs.getD i 0).toNat)
      let s := s.takeLifetime (read s.oxb.mram.seconds secondsErr) (read s.oxb.mram.cycles cyclesErr)
      let s := s.mount
      let s := if s.params.ports.any (fun p => p.mode != 0) then s.weirStart else s
      let s := (blockIds.filter (fun b => b != bWEIR || s.on 7)).foldl State.loadMask s
      { s with host := { s.host with ready := true, rom := false, evReady := true } })

/-- CONFIG_BANK_SELECT: step 7 (R45): the newer bank, never the older one. -/
def execConfigBankSelect (s : State) : Host.Outcome State Fault Refusal :=
  .next (if s.dev.st ≠ .boot ∨ !s.oxb.mounted ∨ !s.supRuns then s
    else
      let b := s.cfg.newerBank
      let env := s.checkEnv
      if b.bytes.length < 32 ∨ b.bytes.drop (b.bytes.length - 32) ≠ containerHash b.bytes ∨ b.hash ≠ containerHash b.bytes then
        s.enterMaintenance .firmware (some (refusal cHASH kNone 0))
      else if leAt b.bytes 12 2 < env.epochMin ∨ env.epochMax < leAt b.bytes 12 2 then
        s.enterMaintenance .firmware (some (refusal cEPOCH kNone 0))
      else
        let s : State := { s with cfg := { s.cfg with active := s.cfg.newer, running := some ⟨readContainer b.bytes, b.sequence, [], []⟩ } }
        s.enterVerify .start)

/-- The form of a side in a bank. -/
def ConfigBank.form (b : ConfigBank) : Side → Option Form
  | .a => b.formA
  | .b => b.formB

def ConfigBank.setForm (b : ConfigBank) (sd : Side) (f : Form) : ConfigBank :=
  match sd with
  | .a => { b with formA := some f }
  | .b => { b with formB := some f }

/-- A channel has the form it needs (step 8). -/
def State.formReady (s : State) (sd : Side) : State :=
  { s with dev := { s.dev with formOk := s.dev.formOk.set (Side.ix sd) true } }

/-- The verdict of a channel that has translated anew. -/
def State.formVerdictOf (s : State) (sd : Side) : Option (Option CfgRefusal) :=
  (s.dev.formVerdict.find? (fun e => e.1 == Side.ix sd)).map (·.2)

/-- Both channels have come to the end of step 8 and a translator has refused the container: MAINTENANCE (firmware) with the
A-translator's refusal before the B-loader's, and SUP.XLATE_DIVERGE where both have judged and differ (R46, R125). -/
def State.formsJudged (s : State) : State :=
  let a := s.formVerdictOf .a
  let b := s.formVerdictOf .b
  let done := fun (sd : Side) (v : Option (Option CfgRefusal)) => s.dev.formOk.getD (Side.ix sd) false || v.isSome
  match (a.join).or b.join with
  | none => s
  | some r =>
    if !(done .a a && done .b b) then s
    else
      let s := if a.isSome ∧ b.isSome ∧ a ≠ b then s.event bSUP 8 0 else s
      if s.dev.st = .verify then s.enterMaintenance .firmware (some r) else s

/-- FORM_REVERIFY: step 8 (R46). `intact` is the verdict of the cached form's own hash, `fault` the verdict of a translator that a fault
has turned (R125); without a usable form the channel translates again. -/
def execFormReverify (sd : Side) (intact : Bool) (fault : Option Verdict) (s : State) : Host.Outcome State Fault Refusal :=
  .next (match s.cfg.running with
    | none => s
    | some run =>
      if s.dev.st ≠ .verify then s
      else
        let bank := s.cfg.bank s.cfg.active
        let tr := (s.bundles.manifest.getD default).translator
        let good := match bank.form sd with
          | some f => intact && f.intact && f.containerHash == run.cont.hash && f.translator == tr
          | none => false
        if good then (s.formReady sd).formsJudged
        else
          let env := s.checkEnv
          match checkSteps1to4 bank.bytes bank.bytes.length env with
          | some r => s.enterMaintenance .firmware (some r)
          | none =>
            let v := verdictOf fault (checkSteps5to10 bank.bytes run.cont env)
            let others := s.dev.formVerdict.filter (fun e => e.1 != Side.ix sd)
            let s : State := { s with dev := { s.dev with formVerdict := others ++ [(Side.ix sd, v)] } }
            (if v.isSome then s
             else ({ s with cfg := s.cfg.setBank s.cfg.active (bank.setForm sd (s.newForm (Side.ix sd) run.cont.hash)) } : State).formReady
              sd).formsJudged)

/-- The programs a mode runs (Table 15.3): slice codes. -/
def modePrograms (mode : Nat) : List Nat :=
  if mode = mIN_T1 ∨ mode = mIN_T3 then [0x18, 0x1A, 0x1C, 0x1D]
  else if mode = mIN_MON then [0x18, 0x19, 0x1A, 0x1C, 0x1D]
  else if mode = mOFF then []
  else [0x18, 0x1A, 0x1B, 0x1C, 0x1D]

/-- Riffle's part of VERIFY is done (step 9, R37, R343): the unit slices of every group and SerDes port in use, then one run of
each program of every channel in use; a silent group and an unusable unit delay nothing. After RESTART only the named units
repeat (R51). -/
def State.riffleReady (s : State) : Bool :=
  let c := s.runCont
  let chans := s.dev.verifyCause == .restart || (List.range 64).all (fun i =>
    (modePrograms (c.chan i).mode).all (fun p => decide (p ∈ (s.cov i).verified)) || (s.unit (unitNo 0 i)).unusable ||
      (s.unit (unitNo 1 (i / 16))).unusable || !(s.die (i / 16)).alive)
  s.unitSlicesDone && chans

/-- A pair that evaluates: not retired, or STB stands in for it. -/
def State.hasEvaluator (s : State) (role : Nat) : Bool := !(s.pair role).retired || s.pairs.stbFor == some role

/-- The other evaluator of a channel. -/
def otherRole (sd : Side) (e : Nat) : Nat :=
  match sd with
  | .a => bSA0 + (1 - e)
  | .b => bBR0 + (1 - e)

/-- A placement with the cells of one evaluator moved to the other of its channel. -/
def RunCfg.moved (r : RunCfg) (sd : Side) (from_ : Nat) : RunCfg :=
  let move := fun (k : CertCell) =>
    match sd with
    | .a => if k.sage = from_ then { k with sage := 1 - from_ } else k
    | .b => if k.braid = from_ then { k with braid := 1 - from_ } else k
  { r with cells := r.cells.map move }

/-- The placements of every configuration in hand move, and the certificate is reissued (R197, R181). -/
def State.placeMoved (s : State) (sd : Side) (from_ : Nat) : State :=
  ({ s with cfg := { s.cfg with
      running := s.cfg.running.map (fun r => r.moved sd from_),
      live := s.cfg.live.map (fun l =>
        { l with next := l.next.moved sd from_, prior := l.prior.map (fun r => r.moved sd from_),
                 early := l.early.map (fun e => { e with next := e.next.moved sd from_ }),
                 olds := l.olds.map (fun r => r.moved sd from_) }) } } : State).reissueCert

/-- The cells that the configuration in force places on an evaluator. -/
def State.placedOn (s : State) (sd : Side) (role : Nat) : List Nat :=
  match s.devCfg with
  | none => []
  | some r => (r.cells.filter (fun k => k.role sd == role && (r.cont.cell k.cell).inUse)).map (·.cell)

/-- A configuration admitted with an evaluator that has retired since its acceptance: at its commit boundary the cells placed there move,
or go safe as at the retirement (R179, R197). -/
def State.placeRetired (s : State) : State :=
  [bSA0, bSA1, bBR0, bBR1].foldl (fun s p =>
    match evaluatorSide p with
    | none => s
    | some (sd, e) =>
      let ns := s.placedOn sd p
      if s.hasEvaluator p ∨ ns.isEmpty then s
      else if s.devCont.singleTol ∧ s.hasEvaluator (otherRole sd e) then s.placeMoved sd e
      else ns.foldl (fun s n => s.raise (bCELL n) (cellIx n 4) n whoDev) s) s

/-- CERT_CHECK: step 10 (R181): the stored certificate, or a new one after steps 11 to 20; then the placements and the initial
commit records, with the policies in force from here on (R275). A container whose pulses find no place anew runs without pulses (R87, log 98). -/
def execCertCheck (s : State) : Host.Outcome State Fault Refusal :=
  .next (match s.cfg.running with
    | none => s
    | some run =>
      if s.dev.st ≠ .verify ∨ s.dev.formOk ≠ [true, true] ∨ !s.riffleReady then s
      else
        let bank := s.cfg.bank s.cfg.active
        let load := fun (s : State) (cells : List CertCell) (pulses : List (Nat × Nat × Nat)) =>
          ({ s with cfg := { s.cfg with running := some { run with cells := cells, pulses := pulses } },
                    dev := { s.dev with certOk := true, loaded := true } } : State).rejudge.placeRetired
        if s.certValid bank.cert run.cont.hash then
          load s (certCells bank.cert)
            (match placePulses run.cont [] with
             | .ok p => p
             | .error _ => [])
        else
          let fl := fun (f : Option Form) => (f.map (·.length)).getD 0
          let a := admission run.cont (s.admitEnv (fl bank.formA) (fl bank.formB) [] [])
          match a.refusal with
          | some r => s.enterMaintenance .firmware (some r)
          | none =>
            let (cert, s) := s.signCert run.cont a run.sequence
            let s : State := { s with cfg := s.cfg.setBank s.cfg.active { bank with cert := cert } }
            load s a.cells a.pulses)

/-- The SAFE reason with which VERIFY ends, if any (row 12, row 10, R257, R41): of several, those that need RESTART come first. A source
at S3 that occurred before VERIFY holds the device-safe line, so VERIFY at start-up ends as row 15 has it (log 102). -/
def State.verifyReason (s : State) : Option Nat :=
  if s.dev.verifySafe then some sHOST
  else match s.dev.verifyCause with
    | .newConfig => some sNEWCFG
    | .restart => none
    | .start =>
      if s.dev.s3InSafe then some (if s.isLive bPWR 0 0 || s.isLive bPWR 0 1 then sPFAIL else sFAULT)
      else if s.pwr.resetCause ≠ 0 ∧ s.pwr.resetCause ≠ 1 then some sCAUSE
      else if s.dev.bundleFallback then some sFALLBACK
      else if s.runCont.startHost then some sSTART
      else none

/-- VERIFY_EXIT: step 11. The first exit after a reset sets the origin of cell timing (R395). -/
def execVerifyExit (s : State) : Host.Outcome State Fault Refusal :=
  .next (if s.dev.st ≠ .verify ∨ !s.dev.certOk then s
    else
      let s : State := { s with
        time := { s.time with origin := s.time.origin.or (some s.time.tick) },
        faults := { s.faults with s3Units := [] } }
      match s.verifyReason with
      | none => s.enterRun
      | some r => (s.enter .safe r).startCells)

/-! ### RUN, SAFE, RESTART -/

/-- The SAFE reasons that RUN leaves (Table 2.2). -/
def leftByRun (reason : Nat) : Bool := reason == sHOST || reason == sSTART || reason == sNEWCFG

/-- RUN is allowed now (row 17, R294). -/
def State.runAllowed (s : State) : Bool :=
  s.dev.st == .safe && !s.liveAtLeast 3 && leftByRun s.dev.safeReason && !s.dev.s3InSafe

def State.restartAllowed (s : State) : Bool :=
  s.dev.st == .safe && !s.liveAtLeast 3 && (!leftByRun s.dev.safeReason || s.dev.s3InSafe) && !s.dev.noSupervisor

/-- The request was accepted before the device left VERIFY (R50). -/
def Request.beforeExit (r : Request) : Bool := r.st == DevState.verify.code || r.st == DevState.boot.code

/-- RUN: accepted, and taken at the next tick edge. -/
def execRun (s : State) : Host.Outcome State Fault Refusal :=
  .next (s.serve 0x40 (lenIs 0) (fun r s =>
    if s.runAllowed && !r.beforeExit then s.wait r .run else s.respond r stWRONG_STATE []))

/-- SAFE: row 16 from RUN; in VERIFY it makes row 12 end in SAFE; in SAFE it changes nothing but a RUN accepted before it
(R50). -/
def execSafe (s : State) : Host.Outcome State Fault Refusal :=
  .next (s.serve 0x41 (lenIs 0) (fun r s =>
    let s := match s.dev.st with
      | .run => s.enter .safe sHOST
      | .verify => { s with dev := { s.dev with verifySafe := true } }
      | _ => s.answer .run stOK s.statePayload
    s.respond r stOK s.statePayload))

end Sys2Proof.Machine
end

