-- ==== Sys2Proof/Machine/Riffle.lean ====
section
/-! DEFINITION. Riffle's remaining commands (15, 12 R287 to R289): overdue coverage, the logic-side checks, the unit slices of the
field groups, the self-test services and calibration. -/

namespace Sys2Proof.Machine

/-! ### Coverage and logic services -/

/-- An overdue source of a channel: the deadlines run in RUN and SAFE only. -/
def State.overdueRaise (s : State) (c i bound : Nat) : State :=
  if (s.dev.st = .run ∨ s.dev.st = .safe) ∧ (s.chanEntry c).mode ≠ mOFF ∧ (s.cov c).deadline.isSome ∧ bound ≤ s.overdue c then
    s.raise bRIF i (unitNo 0 c) whoDev
  else s

/-- COVERAGE_LATE (R335). -/
def execCoverageLate (c : Nat) (s : State) : Host.Outcome State Fault Refusal := .next (s.overdueRaise c 1 120)

/-- COVERAGE_LOST (R335). -/
def execCoverageLost (c : Nat) (s : State) : Host.Outcome State Fault Refusal := .next (s.overdueRaise c 2 600)

/-- One logic-side check: its run of failures, and the mark after two in succession. -/
def State.logicCheck (s : State) (i : Nat) (ok : Bool) : State :=
  let n := if ok then 0 else s.rif.logicFails.getD i 0 + 1
  let s : State := { s with rif := { s.rif with logicFails := s.rif.logicFails.set i n } }
  if 2 ≤ n then s.markUnusable (unitNo 3 i) else s

/-- The verdicts of the checks (R344): the supply monitor and the power-fail comparator against VPFW, the second temperature sensor against
T_j, and the second count against CLK's ratio. -/
def State.supplyOk (s : State) (r : LogicReadings) : Bool :=
  let near := fun (mv : Nat) => decide (mv ≤ s.params.vpfw + 50) && decide (s.params.vpfw ≤ mv + 50)
  near r.monitorMv && near r.tripMv
def State.tempOk (s : State) (r : LogicReadings) : Bool := decide ((r.temp2 - s.pwr.tj).natAbs ≤ 5)
def State.clockOk (s : State) (r : LogicReadings) : Bool := decide ((r.ratio2 - s.clk.ratioDev).natAbs ≤ 20)

/-- LOGIC_SERVICE_CHECK: the three checks of R344, once in an operating second, in a tick without a channel slice; skipped where their
run conditions fail (R337). -/
def execLogicServiceCheck (r : LogicReadings) (s : State) : Host.Outcome State Fault Refusal :=
  .next (if !s.oxb.mounted ∨ !s.clocked ∨ s.rif.slice.isSome ∨ s.rif.sliceTick = some s.time.tick ∨
      s.rif.logicAt = some s.pwr.opSeconds then s
    else
      let s : State := { s with rif := { s.rif with logicAt := some s.pwr.opSeconds, logicTick := some s.time.tick } }
      if !s.sliceMayRun none then ((s.countSkip (unitNo 3 0)).countSkip (unitNo 3 1)).countSkip (unitNo 3 2)
      else ((s.logicCheck 0 (s.supplyOk r)).logicCheck 1 (s.tempOk r)).logicCheck 2 (s.clockOk r))

/-! ### Field-group unit slices (R341, R343) -/

/-- The couplers of a group that have heard their die go to a step of Table 3.17. -/
def State.groupCouplers (s : State) (g k : Nat) : State :=
  (List.range 16).foldl (fun s i =>
    if (s.coupler (16 * g + i)).step = 0 then s else s.restartCoupler (16 * g + i) k) s

/-- The request for a unit's slice is answered with its result and last signature. -/
def State.unitAnswer (s : State) (kind index res sig expected : Nat) : State :=
  match s.rif.selfTest with
  | none => s
  | some t =>
    if t.kind ≠ kind ∨ t.index ≠ index then s
    else
      let t : SelfTest := { t with failed := res == 1, aborted := res == 2, skipped := res == 3, sig := sig, expected := expected }
      { s with rif := { s.rif with selfTest := some t } }.finishSelfTest

/-- A running cell or an open connection uses the unit (R341). -/
def State.unitInUse (s : State) (kind index : Nat) : Bool :=
  let live := fun (x : CellState) => x == .run || x == .shadow
  let open_ := fun (x : ConnState) => x == .opening || x == .run
  (s.scope bRIF 0 (unitNo kind index)).any (fun n => live (s.cell .a n).st || live (s.cell .b n).st) ||
    (kind == 2 && s.connsInUse.any (fun n => (s.connEntry n).port == index &&
      (open_ (s.conn .a n).st || open_ (s.conn .b n).st)))

/-- A request asks for this unit slice. -/
def State.unitAsked (s : State) (kind index : Nat) : Bool :=
  match s.rif.selfTest with
  | some t => t.kind == kind && t.index == index
  | none => false

/-- The unit of a request has come into use before its slice: UNIT_IN_USE (R341). -/
def State.refuseInUse (s : State) (kind index : Nat) : State :=
  if s.unitAsked kind index then ({ s with rif := { s.rif with selfTest := none } } : State).answer .selfTest stUNIT_IN_USE [] else s

/-- A group's unit slice is counted as skipped (R337); at start-up it is then left behind (R37). -/
def State.skipGroup (s : State) (g : Nat) : State :=
  let u := unitNo 1 g
  let s := s.countSkip u
  let s : State := if s.dev.st = .verify then { s with rif := { s.rif with unitsDone := setMem s.rif.unitsDone u } } else s
  (s.unitAnswer 1 g 3 0 0).groupCouplers g 2

/-- FIELD_UNIT_SLICE: from now on the coupler of Fg.00 carries slice code 0x1D, once the slice is due and its group has mode OFF; the die
starts at that frame (`startsUnit`). A requested slice whose
die is silent is skipped, one whose group is in use by now is answered UNIT_IN_USE (R341, R346; log 106). -/
def execFieldUnitSlice (g : Nat) (s : State) : Host.Outcome State Fault Refusal :=
  .next (
    let silent := !(s.die g).alive || (s.coupler (16 * g)).step == 0
    if !s.groupSliceDue g ∨ g ∈ s.rif.groupSlices then s
    else if silent then (if s.unitAsked 1 g then s.skipGroup g else s)
    else if s.unitInUse 1 g then (s.refuseInUse 1 g).groupCouplers g 2
    else if (s.coupler (16 * g)).step ≠ 7 ∨ !s.groupQuiet g ∨ (s.gview .a g).vfTick.isNone then s
    else if !s.sliceMayRun (some g) then s.skipGroup g
    else
      { s with rif := { s.rif with groupSlices := setMem s.rif.groupSlices g } })

/-- The band of a reading against its window (R338). -/
def bandOf (lo hi x : Int) : Nat := if x < lo then 0 else if x ≤ hi then 1 else 2

/-- The tolerances of the supply comparators that row 3 tests (Tables 15.4 and 3.9). -/
def tripWindow (i : Nat) : Int × Int :=
  [(15700, 16300), (17700, 18300), (30700, 31300), (31500, 32500), (8500, 10000)].getD i (0, 0)

/-- The bands of the points that a row of Table 15.4 measures, in its pass columns; row 6 measures one point per channel, inside when all
its slices passed. -/
def unitBands (r : UnitRows) (row : Nat) : List Nat :=
  match row with
  | 0 => [bandOf (-50) 50 r.refDev]
  | 1 => (List.range 16).map (fun i => (r.ladder[i]?.map (bandOf (-2) 2)).getD 3)
  | 2 => (List.range 5).map (fun i => (r.trips[i]?.map (fun (x : Nat) => bandOf (tripWindow i).1 (tripWindow i).2 x)).getD 3)
  | 3 => [bandOf (-5) 5 (r.temp1 - r.temp2)]
  | 4 => (List.range 16).map (fun i => (r.tOff[i]?.map (fun (x : Nat) => bandOf 0 40 x)).getD 3)
  | _ => (List.range 16).map (fun i => if r.failed.any (fun x => x.1 % 16 == i) then 0 else 1)

/-- The points of each row, and the steps that carry them, four points a step (R338). -/
def rowPoints (row : Nat) : Nat := [1, 16, 5, 1, 16, 16].getD row 0
def rowSteps (row : Nat) : Nat := (rowPoints row + 3) / 4

/-- The band bytes of a row's steps; a point that is not there counts as not measured. -/
def rowBytes (row : Nat) (bands : List Nat) : List Byte :=
  (List.range (rowSteps row)).map (fun i => bandByte (fun k => bands.getD (4 * i + k) 3))

/-- The signature of a row (R341, R338): its head, the band bytes of the steps received, their count and the end marker. -/
def rowSig (g row : Nat) (bands : List Nat) (count : Nat) (marker : Bool) : Nat :=
  crc 32 0x04C11DB7 0xFFFFFFFF (beBytes 3 (Config.unitHead g row) ++ (rowBytes row bands).take count ++ [byte count, byte (b2n marker)])

/-- The signature of a row as received, and the expected one: every point inside its window, every step and the marker. -/
def unitGot (r : UnitRows) (g row : Nat) : Nat :=
  let f := r.frames.getD row (0, false)
  rowSig g row (unitBands r row) f.1 f.2
def rowWant (g row : Nat) : Nat := rowSig g row (List.replicate (rowPoints row) 1) (rowSteps row) true

/-- The verdict of a row (R339): the end marker, every step and the expected signature. -/
def rowPass (g : Nat) (r : UnitRows) (row : Nat) : Bool :=
  let f := r.frames.getD row (0, false)
  f.2 && f.1 == rowSteps row && unitGot r g row == rowWant g row

/-- The verdict of the six rows of Table 15.4 (R341). -/
def unitPass (g : Nat) (r : UnitRows) : Bool := (List.range 6).all (rowPass g r)

/-- FIELD_UNIT_SLICE_DONE: the SYNC that ends the slice in the die, the verdict of the six rows, the stored switch-off times, and Table 3.17
from step 3. A slice whose group
came into use while it ran is aborted (R341, log 106). -/
def execFieldUnitSliceDone (g : Nat) (r : UnitRows) (s : State) : Host.Outcome State Fault Refusal :=
  .next (if g ∉ s.rif.groupSlices then s
    else
      let u := unitNo 1 g
      let res := if s.unitInUse 1 g then 2 else if (s.die g).unitRun && unitPass g r then 0 else 1
      let tOff := (List.range 16).foldl (fun t i =>
        match r.tOff[i]? with
        | some v => t.put (16 * g + i) v
        | none => t) s.rif.tOff
      let s : State := { s with rif := { s.rif with
        groupSlices := setDel s.rif.groupSlices g, unitsDone := setMem s.rif.unitsDone u, tOff := tOff } }
      let s := s.unitResult u res
      let s := if res = 1 then s.markUnusable u else if res = 2 then s.event bRIF 3 u else s
      (s.unitAnswer 1 g res (unitGot r g 5) (rowWant g 5)).groupCouplers g 1)

/-! ### SELFTEST_REQUEST and SELFTEST_REPORT (R346) -/

/-- Unit kind and index; N0 has no unit slice (R342). -/
def unitForm (r : Request) : Bool :=
  let k := leAt r.payload 0 1
  let i := leAt r.payload 1 1
  lenIs 4 r && leAt r.payload 2 2 == 0 &&
    ((k == 0 && decide (i < 64)) || (k == 1 && decide (i < 4)) || (k == 2 && decide (1 ≤ i) && decide (i < 3)))

/-- SELFTEST_REQUEST: a channel's programs, or a unit slice, answered when done; one request at a time. A channel of mode OFF has
no program to run, so that its request passes at once. -/
def execSelftestRequest (s : State) : Host.Outcome State Fault Refusal :=
  .next (s.serve 0x90 unitForm (fun r s =>
    let k := leAt r.payload 0 1
    let i := leAt r.payload 1 1
    if s.rif.selfTest.isSome then s.respond r stBUSY_RETRY []
    else if k ≠ 0 ∧ s.unitInUse k i then s.respond r stUNIT_IN_USE []
    else
      let left := if k = 0 then modePrograms (s.chanEntry i).mode else []
      let t : SelfTest := { kind := k, index := i, left := left, failed := false, aborted := false, skipped := false,
                            sig := 0, expected := 0 }
      let s : State := { s.wait r .selfTest with rif := { s.rif with selfTest := some t } }
      if k = 0 ∧ left.isEmpty then s.finishSelfTest
      else if k = 1 then s.groupCouplers i 2
      else s))

/-- The unit or the group or port that holds it is marked unusable (R345). -/
def State.unitMarked (s : State) (kind index : Nat) : Bool :=
  (s.unit (unitNo kind index)).unusable || (kind == 0 && (s.unit (unitNo 1 (index / 16))).unusable)

/-- SELFTEST_REPORT: a unit's history. -/
def execSelftestReport (s : State) : Host.Outcome State Fault Refusal :=
  .next (s.serve 0x91 unitForm (fun r s =>
    let k := leAt r.payload 0 1
    let i := leAt r.payload 1 1
    let u := s.unit (unitNo k i)
    s.respond r stOK (leBytes 1 u.last ++ [byte (b2n (s.unitMarked k i)), 0, 0] ++ leBytes 4 u.lastPass ++ leBytes 4 u.passes ++
      leBytes 4 u.fails ++ leBytes 4 u.aborts ++ leBytes 4 u.skips)))

/-! ### Calibration (R287 to R289) -/

/-- CAL_READ: the coefficients, the switch-off time in force and the operating second of the calibration. -/
def execCalRead (s : State) : Host.Outcome State Fault Refusal :=
  .next (s.serve 0xA0 (fun r => lenIs 4 r && decide (leAt r.payload 0 1 < 64) && allZero (r.payload.drop 1)) (fun r s =>
    let c := leAt r.payload 0 1
    let k := s.params.cal.getD c {}
    s.respond r stOK (leBytes 4 k.gain.toNat ++ leBytes 4 k.offset.toNat ++ leBytes 2 (s.tOffOf c) ++ [0, 0] ++
      leBytes 4 k.seconds)))

/-- CAL_START ends when no channel is left: the counts of updated and failed channels. -/
def State.calEnd (s : State) : State :=
  match s.rif.cal with
  | some x =>
    if x.left.isEmpty then
      ({ s with rif := { s.rif with cal := none } } : State).answer .cal stOK (leBytes 2 x.ok.length ++ leBytes 2 x.failed.length)
    else s
  | none => s

/-- A live commit changes the channel (R289). -/
def State.liveChanges (s : State) (c : Nat) : Bool :=
  match s.cfg.live with
  | some l => l.chanAt.any (fun e => e.1 == c)
  | none => false

/-- The channels that a live commit changes leave a calibration as failed, with no source raised (R289). -/
def State.calDrop (s : State) : State :=
  match s.rif.cal with
  | none => s
  | some x =>
    let out := x.left.filter s.liveChanges
    let left := x.left.filter (fun c => !s.liveChanges c)
    let same := left.head? == x.left.head?
    ({ s with rif := { s.rif with cal := some { x with left := left, failed := x.failed ++ out, measured := same && x.measured,
                                                       verified := same && x.verified } } } : State).calEnd

/-- CAL_START: one channel, or every channel in use in ascending index; one run at a time. -/
def execCalStart (s : State) : Host.Outcome State Fault Refusal :=
  .next (s.serve 0xA1 (fun r => lenIs 4 r && (decide (leAt r.payload 0 1 < 64) || leAt r.payload 0 1 == 0xFF) &&
      allZero (r.payload.drop 1)) (fun r s =>
    let c := leAt r.payload 0 1
    if s.rif.cal.isSome then s.respond r stBUSY_RETRY []
    else
      let left := if c = 0xFF then rangeFilter 64 (fun i => (s.chanEntry i).mode != 0) else [c]
      let x : CalRun := { left := left, measured := false, verified := false, ok := [], failed := [] }
      ({ s.wait r .cal with rif := { s.rif with cal := some x } } : State).calDrop.calEnd))

/-- CAL_CHANNEL_DONE: coefficients whose verify slice passed are written to MRAM and reach the channels two ticks later; else the
old ones stay and FGg.CAL_FAIL is raised. -/
def execCalChannelDone (c : Nat) (r : CalResult) (s : State) : Host.Outcome State Fault Refusal :=
  .next (match s.rif.cal with
    | none => s
    | some x =>
      if x.left.head? ≠ some c then s
      else
        let old := s.params.cal.getD c {}
        let out := (s.chanEntry c).drives
        let pass := x.measured && x.verified && r.readingsInside && (!out || decide (r.tOff ≤ 40))
        let x' : CalRun := { x with left := x.left.tail, measured := false, verified := false,
                                    ok := if pass then x.ok ++ [c] else x.ok, failed := if pass then x.failed else x.failed ++ [c] }
        let s : State := { s with rif := { s.rif with cal := some x' } }
        let s :=
          if pass then
            let k : Cal := { gain := r.gain, offset := r.offset, tOff := if out then r.tOff else old.tOff, seconds := s.pwr.opSeconds }
            let due : CalDue := { chan := c, cal := old, at_ := s.time.tick + 2 }
            { s with params := { s.params with cal := s.params.cal.put c k,
                                               calDue := s.params.calDue.filter (fun d => d.chan != c) ++ [due] },
                     rif := { s.rif with tOff := if out then s.rif.tOff.put c r.tOff else s.rif.tOff } }
          else s.event (0x10 + c / 16) 19 c
        s.calEnd)

end Sys2Proof.Machine
end

