-- ==== Sys2Proof/Machine/Pairs.lean ====
section
/-! DEFINITION. The lockstep pairs (08): mismatch, restore, retirement, STB standing in, the comparator test, agreement that fails
for good, and the memories' guards and ECC (01, 08, 13). -/

namespace Sys2Proof.Machine

/-- The cells that a role evaluates. -/
def State.cellsOf (s : State) (role : Nat) : List Nat :=
  match evaluatorSide role with
  | none => []
  | some (sd, _) => s.cellsInUse.filter (fun n => s.evaluator sd n == role)

/-- Mark the evaluations that another pair takes over (Table 8.6, steps 6 and 7). -/
def State.takeOverRuns (s : State) (sd : Side) (ns : List Nat) : State :=
  ns.foldl (fun s n =>
    let x := s.cell sd n
    s.setCell sd n { x with runs := x.runs.map (fun r => if r.result.isNone then { r with takeover := true } else r) }) s

/-! ### What STB was doing (R194, R272, R286, R289) -/

/-- The handover is abandoned before its step 4 (R286). -/
def State.abandonHandover (s : State) : State :=
  match s.bundles.handover with
  | none => s
  | some h =>
    if h.stage = .switching then s
    else
      let s : State := { s with
        bundles := { s.bundles with handover := none },
        pairs := { s.pairs with stb := if s.pairs.stb = .handover then .free else s.pairs.stb },
        host := { s.host with paused := false, evHandover := s.host.evHandover || s.host.paused } }
      (s.event bSUP 9 0).answer .activate stFW_BAD []

/-- Live-change work of STB ends: the A-translation, or the shadow runs, whose cells take the safe transition. -/
def State.endStbWork (s : State) : State :=
  match s.pairs.stb with
  | .translation =>
    { s with pairs := { s.pairs with stb := .free },
             cfg := { s.cfg with trans := s.cfg.trans.map (fun t => { t with activeA := false, doneA := false }) } }
  | .shadows =>
    let ns := s.cellsInUse.filter (fun n => (s.cell .a n).st == .shadow || (s.cell .b n).st == .shadow)
    let s := ns.foldl (fun s n => s.setLine n { s.line n with toTransition := true }) s
    { s with pairs := { s.pairs with stb := .free } }
  | _ => s

/-! ### Retirement (R192 to R198) -/

/-- STB can stand in: the first four conditions of R194. -/
def State.stbCanStandIn (s : State) : Bool :=
  (s.pair bSTB).selfTestOk && !(s.pair bSTB).retired && s.pairs.stbFor.isNone && s.pairs.stb != .handover

/-- A pair's checkpoint slots, tick-service records and agreement buffer as another pair finds them (step 3 of Table 8.6). -/
def PairSt.takeContext (k src : PairSt) : PairSt :=
  { k with slot0 := src.slot0, slot1 := src.slot1, ckptNewer := src.ckptNewer, record0 := src.record0, record1 := src.record1,
           recordNewer := src.recordNewer, hostAgreed := src.hostAgreed }

/-- STB takes over a role (Table 8.6); it restores the retired pair's newer valid slot until PAIR_RESTORE_DONE. -/
def State.standIn (s : State) (role : Nat) : State :=
  let s := s.endStbWork
  let ns := s.cellsOf role
  let s : State := { s with pairs := { s.pairs with
    stb := .standIn, stbFor := some role,
    takeover := if (evaluatorSide role).isSome then setMem s.pairs.takeover role else s.pairs.takeover } }
  let s := match evaluatorSide role with
    | some (sd, _) => s.takeOverRuns sd ns
    | none => s
  s.setPair bSTB { (s.pair bSTB).takeContext (s.pair role) with inReset := true, interrupted := none }

/-- The cells of a role move to the other evaluator of its channel, which takes them over by steps 3 to 7 of Table 8.6, and the
certificate is reissued (R197, R181). -/
def State.moveCells (s : State) (sd : Side) (from_ : Nat) : State :=
  let ns := s.cellsOf (match sd with
    | .a => bSA0 + from_
    | .b => bBR0 + from_)
  let s := s.takeOverRuns sd ns
  let role := match sd with
    | .a => bSA0 + from_
    | .b => bBR0 + from_
  ({ s with pairs := { s.pairs with moves := s.pairs.moves ++ [⟨role, ns, false⟩] } } : State).placeMoved sd from_

/-- Without a supervisor HOST answers every request with NOT_READY, those it holds and those to come (R198). -/
def State.noSupervisor (s : State) : State :=
  let open_ := s.host.waiting.map (·.req) ++ s.host.queue
  let s : State := { s with host := { s.host with ready := false, queue := [], waiting := [] } }
  open_.foldl (fun s r => s.respond r stNOT_READY []) s

/-- A retirement that STB does not cover (Table 8.7). -/
def State.withoutStb (s : State) (role : Nat) : State :=
  if role = bSUP then
    let s : State := { s with dev := { s.dev with noSupervisor := true } }
    s.noSupervisor.raise bSUP 5 0 whoDev
  else match evaluatorSide role with
    | none => s
    | some (sd, e) =>
      if s.devCont.singleTol ∧ s.hasEvaluator (otherRole sd e) then s.moveCells sd e
      else (s.cellsOf role).foldl (fun s n => s.raise (bCELL n) (cellIx n 4) n whoDev) s

/-- A pair is retired (R193): it stays in reset and its domain goes off; STB stands in, or Table 8.7 applies. -/
def State.retirePair (s : State) (p : Nat) : State :=
  let role := s.roleOf p
  let s := s.setPair p { s.pair p with retired := true, inReset := true }
  let s : State := { s with pairs := { s.pairs with retiredAt := some (p, s.time.tick, s.time.slotNo) } }
  let s := (s.raise p 1 0 whoDev).domainOff (pairDomain p)
  if p = bSTB then
    let s := s.endStbWork.abandonHandover
    if role = bSTB then s
    else
      let s := s.setPair role ((s.pair role).takeContext (s.pair bSTB))
      let s : State := { s with pairs := { s.pairs with stbFor := none, stb := .free } }
      s.withoutStb role
  else
    let s := if p = bSUP ∨ p = bSA0 ∨ p = bSA1 then s.abandonHandover else s
    if (p = bSUP ∨ p = bSA0 ∨ p = bSA1) ∧ s.stbCanStandIn then s.standIn p else s.withoutStb p

/-! ### Mismatch and restore (R188 to R192) -/

/-- The marks lie within a number of operating seconds (R192): by whole seconds, and by ticks where the seconds differ by exactly
that number. A mark that still counts from reset release and one of the loaded history have no common count before step 6 of
Table 2.4, so they are not taken together. -/
def within (now m : Mark) (seconds : Nat) : Bool :=
  let d := now.second - m.second
  now.early == m.early && decide (m.second ≤ now.second) &&
    (decide (d < seconds) || (d == seconds && decide (now.tick - m.tick ≤ seconds * tSEC)))

/-- The monitor retires the pair at this mismatch. -/
def retires (marks : List Mark) (now : Mark) : Bool :=
  marks.any (fun m => within now m 10) || (marks.length == 3 && marks.all (fun m => within now m 86400))

/-- What the lanes of a comparator group carry (Table 8.1). -/
inductive LaneUse where
  | memoryPort (k : Nat)
  | fabricBus
  | exchange
  | interrupts
  | debugTrace
  | checkpointMarks
deriving DecidableEq, Repr

/-- The allocation of the 96 lane groups (Table 8.1). -/
def laneUse (group : Nat) : Option LaneUse :=
  if group < 24 then some (.memoryPort 0)
  else if group < 48 then some (.memoryPort 1)
  else if group < 64 then some .fabricBus
  else if group < 80 then some .exchange
  else if group < 88 then some .interrupts
  else if group < 92 then some .debugTrace
  else if group < 96 then some .checkpointMarks
  else none

/-- A role runs the version in force of a cell. -/
def State.evaluates (s : State) (role n : Nat) : Bool :=
  s.inUse n && (evaluatorSide role).any (fun e => s.evaluator e.1 n == role)

/-- A pair runs the new version of a cell in SHADOW (R278). -/
def State.shadows (s : State) (p n : Nat) : Bool :=
  s.inUse n &&
    ((p == bSTB && s.pairs.stb == .shadows && (s.cell .a n).st == .shadow) ||
      ((s.cell .b n).st == .shadow && (placeOf (s.cfg.live.map (·.next)) n).role .b == s.roleOf p))

/-- Retiring mismatches of two pairs in the same cycle (R202): STB leaves the pair with the higher block ID that it has just begun to
stand in for, and Table 8.7 applies to that one. -/
def State.preferLower (s : State) (p : Nat) : State :=
  match s.pairs.retiredAt with
  | some (q, tick, slot) =>
    if tick = s.time.tick ∧ slot = s.time.slotNo ∧ p < q ∧ p ≤ bSA1 ∧ s.pairs.stbFor = some q then
      let s : State := { s with pairs := { s.pairs with stb := .free, stbFor := none, takeover := setDel s.pairs.takeover q } }
      (s.setPair bSTB { s.pair bSTB with inReset := false }).withoutStb q
    else s
  | none => s

/-- The slices that SUP has requested are aborted (R347): of a SELFTEST_REQUEST or of a CAL_START. -/
def State.abortRequested (s : State) : State :=
  let s := match s.rif.slice with
    | some r => if r.forRequest ∨ 0x1E ≤ r.sel then s.abortSlice else s
    | none => s
  match s.rif.selfTest with
  | some t => if t.kind = 1 ∧ t.index ∈ s.rif.groupSlices then s.abortUnitSlice t.index else s
  | none => s

/-- LOCKSTEP_MISMATCH: steps 1 and 2 of Table 8.4. `cell` is the cell whose evaluation was running, `same` says that another pair's
mismatch was flagged in the same cycle just before. -/
def execLockstepMismatch (p : Nat) (cell : Option Nat) (group : Nat) (same : Bool) (s : State) : Host.Outcome State Fault Refusal :=
  .next (if !isPair p ∨ !s.on (pairDomain p) ∨ (s.pair p).inReset ∨ (s.pair p).retired ∨ (laneUse group).isNone then s
    else
      let role := s.roleOf p
      let running := cell.bind (fun n => if s.evaluates role n then some n else none)
      let named := cell.bind (fun n => if s.evaluates role n || s.shadows p n then some n else none)
      let k := s.pair p
      let now : Mark := ⟨s.pwr.opSeconds, s.time.tick, !s.oxb.mounted && s.dev.maint != .rom⟩
      let s := s.setPair p { k with mismatches := sat16 (k.mismatches + 1), lastGroup := group,
                                    monitor := (k.monitor ++ [now]).drop (k.monitor.length - 2) }
      let s := s.event p 0 (if p = bSUP then 0xFFFF else named.getD 0xFFFF)
      let s := if role = bSUP then s.abortRequested else s
      if retires k.monitor now then (if same then s.preferLower p else s).retirePair p else s.pairReset p running)

/-- The interrupted evaluation runs again: in the retry slot, or as a catch-up run (R189). -/
def State.rerun (s : State) (sd : Side) (n : Nat) : State :=
  let x := s.cell sd n
  match x.pendingRun with
  | none => s
  | some r =>
    let retry := ((s.verCont r.ver).cell n).retry
    s.setCell sd n (x.putRun { r with rerun := true, catchUp := r.catchUp || !retry })

/-- A tick-service record that cannot be repeated (R187): the pair goes on from its other record `r`; every status frame since that
record counts as absent, as in R83, and the watchdogs of the affected connections start from the restore. -/
def State.tickRecordLost (s : State) (sd : Side) (role : Nat) (r : TickRecord) : State :=
  let missed := 5 * (s.time.tick - r.tick) + s.time.slotInTick
  let s := (List.range 64).foldl (fun (s : State) c =>
    let v := (s.view sd c).withPair (r.views.getD c {})
    let lost := (List.range missed).foldl (fun v i => s.absentView c (i % 5 == 0) v) v
    if r.views.length ≤ c ∨ (s.chanEntry c).mode = mOFF then s else s.setPairView sd role c lost.pairPart) s
  let s := r.groups.zipIdx.foldl (fun (s : State) e => s.setPairGroup sd role e.2 e.1) s
  let s := r.resets.foldl (fun (s : State) e =>
    s.setCell sd e.1 { s.cell sd e.1 with runFrom := e.2.runFrom, runDone := e.2.runDone, resetOn := e.2.resetOn }) s
  s.connsInUse.foldl (fun s n =>
    let k := s.conn sd n
    s.setConn sd n { k with wdStart := s.time.tick }) s

/-- The slot that a restore uses (R187): the newer closed one that can be read. -/
def PairSt.restoreSlot (k : PairSt) (rep : RestoreReport) : Option Nat :=
  let newer := k.ckptNewer
  if (k.slot newer).closed && !rep.newerSlotBad then some newer
  else if (k.slot (1 - newer)).closed && !rep.olderSlotBad then some (1 - newer)
  else none

/-- No slot has ever been closed: the pair starts anew, and nothing of it can be lost (log 100). -/
def PairSt.noCheckpoint (k : PairSt) : Bool := !k.slot0.closed && !k.slot1.closed

/-- A survivor has restored the context of cells that move to it (step 3 of Table 8.6): unreadable images, and every moved cell when
neither slot of the retired pair can be read, raise CKPT_LOST (R187, log 100). -/
def State.moveRestored (s : State) (m : Move) (rep : RestoreReport) : State :=
  let k := s.pair m.role
  let lost := if (k.restoreSlot rep).isNone && !k.noCheckpoint then m.cells else rep.badCells.filter (fun n => decide (n ∈ m.cells))
  let s : State := { s with pairs := { s.pairs with
    moves := s.pairs.moves.map (fun x => if x.role = m.role then { x with restored := true } else x) } }
  match evaluatorSide m.role with
  | none => s
  | some (sd, _) => lost.foldl (fun s n => s.event (s.evaluator sd n) 3 n) s

/-- The cell that a role was evaluating when a block reset came at a tick: the oldest evaluation that it had not completed (R296,
log 103). -/
def State.runningAt (s : State) (sd : Side) (role tick : Nat) : Option Nat :=
  let open_ := (s.cellsOf role).filterMap (fun n =>
    (s.cell sd n).pendingRun.bind (fun r => if r.late || tick < r.start then none else some (r.start, n)))
  (open_.mergeSort (fun a b => decide (a.1 ≤ b.1))).head?.map (·.2)

/-- The counts of disagreements that a restore finds in its slot; those that are live are held outside the pair (log 100). -/
def PairSt.agrFrom (k : PairSt) (slot : CkptSlot) : List AgrCount :=
  let same := fun (a b : AgrCount) => a.kind == b.kind && a.index == b.index
  k.agr.filterMap (fun a => if 3 ≤ a.count then some a else slot.agr.find? (same a))

/-- A pair in reset resumes from its slot (steps 3 to 5 of Table 8.4); with a bad tick-service record it goes on from the other one. -/
def State.pairRestored (s : State) (p : Nat) (rep : RestoreReport) : State :=
  let role := s.roleOf p
  let k := s.pair p
  let agr := match k.restoreSlot rep with
    | some i => k.agrFrom (k.slot i)
    | none => k.agr
  let other := 1 - k.recordNewer
  let s := s.setPair p { k with inReset := false, interrupted := none, resetAt := none, ckptNewer := (k.restoreSlot rep).getD k.ckptNewer,
                                agr := agr, recordNewer := if rep.tickRecordBad then other else k.recordNewer }
  let s := if role = bSUP then
      let s := s.faults.nmi.foldl State.faultHandler s
      { s with faults := { s.faults with nmi := [] } }
    else s
  match evaluatorSide role with
  | none => s
  | some (sd, _) =>
    let s := if rep.tickRecordBad && !rep.repeatable then s.tickRecordLost sd role (k.record other) else s
    let bad := rep.badCells.filter (fun n => decide (n ∈ s.cellsOf role))
    let s := bad.foldl (fun s n => s.event role 3 n) s
    match k.interrupted.or (k.resetAt.bind (s.runningAt sd role)) with
    | some n => if n ∈ bad then s else s.rerun sd n
    | none => s

/-- PAIR_RESTORE_DONE: the restore of a pair in reset, or of a retired pair's context by the survivor of its channel (R187, R197). -/
def execPairRestoreDone (p : Nat) (rep : RestoreReport) (s : State) : Host.Outcome State Fault Refusal :=
  .next (match s.pairs.moves.find? (fun m => m.role == p && !m.restored) with
    | some m => s.moveRestored m rep
    | none =>
      let k := s.pair p
      if !isPair p ∨ !k.inReset ∨ k.retired ∨ !s.on (pairDomain p) then s
      else if (k.restoreSlot rep).isNone ∧ !k.noCheckpoint then s.retirePair p
      else s.pairRestored p rep)

/-! ### The comparator injection test (R199, R200) -/

/-- The lanes inverted in a step (Table 8.8). -/
def laneInverted (step group lane : Nat) : Bool :=
  if step = 0 ∨ 160 ≤ step then false
  else if step ≤ 32 then lane == step - 1
  else if step ≤ 63 then lane == step - 33 || lane == step - 32
  else group == step - 64 && (lane == 0 || lane == 31)

/-- A report that names a fault: a lane reported but not inverted, or inverted and not reported. -/
def LaneReport.wrong (r : LaneReport) : Bool :=
  decide (r.step ≤ 160 ∧ r.group < 96 ∧ r.lane < 32) && r.reported != laneInverted r.step r.group r.lane

/-- The first failing lane group: of the earliest step, the lowest. -/
def firstFailing (rs : List LaneReport) : Option Nat :=
  ((rs.filter LaneReport.wrong).mergeSort (fun a b => decide (a.step < b.step) || (a.step == b.step && decide (a.group ≤ b.group)))).head?.map
    (·.group)

/-- CMP_INJECTION_TEST (step 4 of Table 2.4): one pair after the other. -/
def execCmpInjectionTest (p : Nat) (reports : List LaneReport) (s : State) : Host.Outcome State Fault Refusal :=
  .next (if !isPair p ∨ s.dev.st ≠ .boot ∨ !s.on (pairDomain p) ∨ (s.pair p).selfTestOk ∨
      !((List.range p).all (fun q => q == 0 || (s.pair q).selfTestOk)) then s
    else match firstFailing reports with
      | some g => s.event p 4 g
      | none => s.setPair p { s.pair p with selfTestOk := true })

/-! ### Agreement, guards and ECC -/

/-- AGR_PERSIST_COUNT (R185): the third successive disagreement on an input. -/
def execAgrPersistCount (p kind index : Nat) (s : State) : Host.Outcome State Fault Refusal :=
  .next (if (s.pair p).agr.any (fun a => a.kind == kind && a.index == index && decide (3 ≤ a.count)) then
      s.raise (s.roleOf p) 2 (kind * 4096 + index % 4096) whoDev
    else s)

/-- The memory of a channel: MEMA holds SRAM-A and SRAM-S, MEMB holds SRAM-B (Table 1.2). -/
def memBlock : Side → Nat
  | .a => bMEMA
  | .b => bMEMB

/-- ECC_UNCORRECTABLE (R187, Table 13.12), outside a checkpoint restore. -/
def execEccUncorrectable (sd : Side) (initiator : Nat) (place : EccPlace) (s : State) : Host.Outcome State Fault Refusal :=
  .next (if !s.on (match sd with
      | .a => 9
      | .b => 10) then s
    else match place with
      | .cellImage n => if s.inUse n then s.event (memBlock sd) 2 n else s
      | .elsewhere => s.event (memBlock sd) 3 initiator)

/-! ### Memory rights (R14, R18, R193, Table 1.3) -/

/-- The guard of a region: 0 SRAM-A and SRAM-S (MEMA), 1 SRAM-B, 2 Weir SRAM, 3 the Oxbow buffer; MRAM has none. -/
def regionGuard : MemRegion → Option Nat
  | .channel .a | .inputImage .a _ | .shadowWindow | .rxWindow .a | .txWindow .a => some 0
  | .mirror _ | .hostImage | .commitRecords | .supervisor | .handoverWindow => some 0
  | .channel .b | .inputImage .b _ | .rxWindow .b | .txWindow .b => some 1
  | .weirTables | .weirRest => some 2
  | .oxbBuffer => some 3
  | .containers _ | .formCache _ _ | .oxbAreas | .mramRest => none

/-- The rights of an evaluator of a channel: reading and writing. -/
def evaluatorRights (sd : Side) : MemRegion → Bool × Bool
  | .channel x | .inputImage x _ | .rxWindow x | .txWindow x | .formCache x _ => (x == sd, x == sd)
  | .shadowWindow => (sd == .a, sd == .a)
  | .mirror x => (false, x == sd)
  | .hostImage | .commitRecords | .containers _ => (true, false)
  | _ => (false, false)

/-- STB hosts the new supervisor: from the start of its image to the handover point (steps 1 to 3 of Table 12.5). -/
def State.hostsNew (s : State) : Bool := s.pairs.stb == .handover && s.bundles.handover.any (fun h => h.stage == .starting)

/-- The rights of SUP. While STB hosts the new supervisor, SUP writes the handover window only in the mailbox pause, in which step 3 of
Table 12.5 has it write its final state there; at any other time it has all of SRAM-S (Table 1.3, R285, log 108). -/
def State.supRights (s : State) : MemRegion → Bool × Bool
  | .mirror _ | .hostImage | .commitRecords | .supervisor | .weirTables | .containers _ | .oxbAreas | .mramRest => (true, true)
  | .handoverWindow => (true, !s.hostsNew || s.host.paused)
  | .oxbBuffer => (true, false)
  | _ => (false, false)

/-- The rights of STB while it stands in for nobody: those of its own row, and those of R285 while it hosts the new supervisor. -/
def State.stbRights (s : State) : MemRegion → Bool × Bool
  | .inputImage .a n => ((s.cell .a n).st == .shadow, false)
  | .shadowWindow => (true, true)
  | .formCache .a i => (i != s.cfg.active, i != s.cfg.active)
  | .commitRecords | .containers _ => (true, false)
  | .handoverWindow => (s.hostsNew, s.hostsNew)
  | .mirror _ | .hostImage | .supervisor => (s.hostsNew, false)
  | _ => (false, false)

/-- The power domain of the hardware behind an initiator. -/
def State.initiatorDomain (s : State) (id : Nat) : Nat :=
  if id = bWEIR then 7 else if id = bOXB then 11 else pairDomain (s.hardware id)

/-- The rights that the port guards give a block ID now: an initiator whose domain is off has none (R368); a retired pair has lost its
own, unless STB stands in for it, and STB then has no others. -/
def State.rights (s : State) (id : Nat) (r : MemRegion) : Bool × Bool :=
  if !s.on (s.initiatorDomain id) then (false, false)
  else if id = bWEIR then
    (match r with
     | .rxWindow _ => (false, true)
     | .txWindow _ => (true, false)
     | .weirTables | .weirRest => (true, true)
     | _ => (false, false))
  else if id = bOXB then (r == .oxbBuffer || r == .oxbAreas, r == .oxbBuffer || r == .oxbAreas)
  else if !s.hasEvaluator id then (false, false)
  else if id = bSUP then s.supRights r
  else if id = bSTB then (if s.pairs.stbFor.isSome then (false, false) else s.stbRights r)
  else match evaluatorSide id with
    | some (sd, _) => evaluatorRights sd r
    | none => (false, false)

/-- PORT_GUARD_BLOCK (R18): an access outside the initiator's rights changes nothing, a blocked read returns 0, and the guard raises its
source with the initiator as instance. An access inside the rights is not blocked. -/
def execPortGuardBlock (initiator : Nat) (region : MemRegion) (write : Bool) (s : State) : Host.Outcome State Fault Refusal :=
  .next (
    let r := s.rights initiator region
    match regionGuard region with
    | none => s
    | some g =>
      let b := if g = 0 then bMEMA else if g = 1 then bMEMB else if g = 2 then bWEIR else bOXB
      let d := if g = 0 then 9 else if g = 1 then 10 else if g = 2 then 7 else 11
      if !s.on d ∨ (if write then r.2 else r.1) then s
      else
        let m := { s.mems with lastBlock := some ⟨g, initiator, write, 0⟩ }
        let m : MemSt := if g = 0 then { m with blocksA := sat16 (m.blocksA + 1) }
          else if g = 1 then { m with blocksB := sat16 (m.blocksB + 1) } else m
        ({ s with mems := m } : State).event b 0 initiator)

end Sys2Proof.Machine
end

