-- ==== Sys2Proof/Machine/Staging.lean ====
section
/-! DEFINITION. Staging a container, checking it and asking for its commit (11: R259, R261; 07: R176 to R180; 12: R272, R273). -/

namespace Sys2Proof.Machine

/-! ### Staged bytes -/

/-- Bytes written at an offset: addresses stay strictly rising. -/
def stageWrite (mem : List Host.Cell) (off : Nat) (bs : List Byte) : List Host.Cell :=
  mem.filter (fun c => decide (c.1 < off)) ++ (bs.zipIdx.map (fun p => (off + p.2, p.1))) ++
    mem.filter (fun c => decide (off + bs.length ≤ c.1))

/-- Every byte of the staging has been written. -/
def Staging.full (t : Staging) : Bool := t.mem.length == t.length

def Staging.bytes (t : Staging) : List Byte := t.mem.map (·.2)

/-- An open staging, and an ended one. -/
def stagingOpen (t : Option Staging) : Bool := t.any (fun x => !x.ended)
def stagingEnded (t : Option Staging) : Bool := t.any (·.ended)

/-- A configuration refusal as an answer. -/
def State.refuseCfg (s : State) (r : Request) (x : CfgRefusal) : State := s.respond r x.code x.payload

/-! ### Translations in RUN (R272) -/

/-- Both translations of the staged container start: the A-translator takes STB. -/
def State.startTranslations (s : State) : State :=
  { s with pairs := { s.pairs with stb := .translation },
           cfg := { s.cfg with trans := some ⟨true, false, (s.cfg.trans.map (·.doneB)).getD false⟩ } }

/-- The translations of a discarded staging end. -/
def State.dropTranslations (s : State) : State :=
  { s with pairs := { s.pairs with stb := if s.pairs.stb = .translation ∧ s.cfg.trans.isSome then .free else s.pairs.stb },
           cfg := { s.cfg with trans := none } }

/-- Both forms of the staged container are there. -/
def State.translated (s : State) : Bool :=
  match s.cfg.trans with
  | some t => t.doneA && t.doneB
  | none => false

/-- LIVE_TRANSLATION_DONE: one form is written into the cache area of the inactive bank; STB is free again after the A-form. -/
def execLiveTranslationDone (sd : Side) (s : State) : Host.Outcome State Fault Refusal :=
  .next (match s.cfg.trans, s.cfg.staging with
    | some t, some x =>
      let ready := match sd with
        | .a => t.activeA && !t.doneA
        | .b => !t.doneB
      if !ready then s
      else
        let i := s.cfg.inactive
        let form := s.newForm (Side.ix sd) x.hash
        let t : LiveTranslation := match sd with
          | .a => { t with activeA := false, doneA := true }
          | .b => { t with doneB := true }
        { s with
          cfg := { s.cfg.setBank i ((s.cfg.bank i).setForm sd form) with trans := some t },
          pairs := { s.pairs with stb := if sd = .a ∧ s.pairs.stb = .translation then .free else s.pairs.stb } }
    | _, _ => s)

/-! ### Staging (R259) -/

/-- CFG_STAGE_BEGIN: row 9 of Table 2.3 from MAINTENANCE (firmware) and SAFE. -/
def execCfgStageBegin (s : State) : Host.Outcome State Fault Refusal :=
  .next (s.serve 0x30 (fun r => lenIs 4 r && decide (leAt r.payload 0 4 ≤ maxContainer)) (fun r s =>
    if s.cfg.admission.isSome then s.respond r stBUSY_RETRY []
    else
      let s := s.dropTranslations
      let s : State := { s with cfg := { s.cfg with staging := some ⟨leAt r.payload 0 4, [], false, []⟩ } }
      let s : State :=
        if s.dev.st = .safe ∨ s.dev.st = .maintenance then
          ({ s with dev := { s.dev with configFrom := some (s.dev.st, s.dev.maint, s.dev.safeReason, s.dev.s3InSafe) } } : State).enter
            .configure 0
        else s
      s.respond r stOK []))

/-- CFG_STAGE_DATA. -/
def execCfgStageData (s : State) : Host.Outcome State Fault Refusal :=
  .next (s.serve 0x31 (fun r => decide (9 ≤ r.payload.length) && decide (r.payload.length ≤ 4080) && allZero ((r.payload.drop 4).take 4))
    (fun r s =>
      let off := leAt r.payload 0 4
      let data := r.payload.drop 8
      if s.cfg.admission.isSome then s.respond r stBUSY_RETRY []
      else match s.cfg.staging with
        | none => s.respond r stNOT_STAGED []
        | some t =>
          if t.ended then s.respond r stWRONG_STATE []
          else if t.length < off + data.length then s.respond r stBAD_FORMAT []
          else ({ s with cfg := { s.cfg with staging := some { t with mem := stageWrite t.mem off data } } } : State).respond r stOK []))

/-- CFG_STAGE_END: the staging ends when steps 1 and 2 pass and the hash is that of the request; in RUN the translations start. -/
def execCfgStageEnd (s : State) : Host.Outcome State Fault Refusal :=
  .next (s.serve 0x32 (lenIs 32) (fun r s =>
    match s.cfg.staging with
    | none => s.respond r stNOT_STAGED []
    | some t =>
      if t.ended then s.respond r stWRONG_STATE []
      else
        let bs := t.bytes
        if !t.full ∨ !headerOk bs t.length then s.refuseCfg r (refusal cFORMAT kNone 0)
        else
          let trailer := bs.drop (bs.length - 32)
          if trailer ≠ containerHash bs ∨ trailer ≠ r.payload then s.refuseCfg r (refusal cHASH kNone 0)
          else
            let s : State := { s with cfg := { s.cfg with staging := some { t with ended := true, hash := trailer } } }
            if s.dev.st ≠ .run then s.respond r stOK []
            else if s.stbAvailable then s.startTranslations.respond r stOK []
            else s.refuseCfg r (refusal cNO_STANDBY kNone 0)))

/-- CFG_ABORT: row 11 of Table 2.3 from CONFIGURE. -/
def execCfgAbort (s : State) : Host.Outcome State Fault Refusal :=
  .next (s.serve 0x35 (lenIs 0) (fun r s =>
    if s.cfg.admission.isSome then s.respond r stBUSY_RETRY []
    else
      let s := s.dropTranslations
      let s : State := { s with cfg := { s.cfg with staging := none } }
      let s : State := match s.dev.st, s.dev.configFrom with
        | .configure, some (st, m, reason, s3) =>
          let s := ({ s with dev := { s.dev with maint := m } } : State).enter st reason
          { s with dev := { s.dev with s3InSafe := s3 || s.dev.s3InSafe, configFrom := none } }
        | _, _ => s
      s.respond r stOK []))

/-! ### The checks of a container (R119, R125, R176) -/

/-- Steps 1 to 20: the refusal, whether the translators' verdicts differ, and what admission found. -/
def judge (bs : List Byte) (chk : CheckEnv) (env : AdmitEnv) (aFault bFault : Option Verdict) :
    Option CfgRefusal × Bool × Option Admitted :=
  match checkSteps1to4 bs bs.length chk with
  | some r => (some r, false, none)
  | none =>
    let c := readContainer bs
    let spec := checkSteps5to10 bs c chk
    let a := verdictOf aFault spec
    let b := verdictOf bFault spec
    match a.or b with
    | some r => (some r, a != b, none)
    | none => let x := admission c env; (x.refusal, false, some x)

/-! ### What a live commit leaves alone (R274) -/

/-- A node record with its node-output references by owner and offset. -/
def canonNode (c : Container) (m : NodeRec) : Nat × Nat × Nat × List Byte × List (Nat × Nat × Nat × Nat) :=
  let refs := m.inputs.map (fun f =>
    let r := refAt m.body f.1
    match c.resolve 256 r with
    | .image key true =>
      if refKind r = 1 ∧ 2 ^ 21 ≤ key ∧ key < keyWord 0 then (f.1, r / 2 ^ 20, 1, key) else (f.1, r / 2 ^ 20, 0, refIndex r)
    | _ => (f.1, r / 2 ^ 20, 0, refIndex r))
  let blank := m.inputs.foldl (fun (b : List Byte) f => b.take f.1 ++ zeros 4 ++ b.drop (f.1 + 4)) m.body
  (m.code, m.span, m.tag, blank, refs)

/-- The entry without Name, First record and Shadow periods. -/
def canonEntry (e : CellEntry) : CellEntry := { e with first := 0, name := [], shadowN := 0 }

def canonEqual (a b : Container) (n : Nat) : Bool :=
  canonEntry (a.cell n) == canonEntry (b.cell n) && (a.nodesOf n).map (canonNode a) == (b.nodesOf n).map (canonNode b)

/-- The response-limit entries of a cell. -/
def Container.limitsOf (c : Container) (n : Nat) : List LimitEntry :=
  let chans := c.outChans n
  let bits := (c.nodesOf n).flatMap NodeRec.remoteBits
  c.limits.filter (fun l =>
    (match l.channel? with
     | some ch => decide (ch ∈ chans)
     | none => false) || l.bits.any (fun b => decide (b ∈ bits)))

def sameSet (a b : List Nat) : Bool := a.all (fun x => decide (x ∈ b)) && b.all (fun x => decide (x ∈ a))

/-- Connection and partner entry of a connection. -/
def sameConn (a b : Container) (n : Nat) : Bool :=
  a.conn n == b.conn n && a.partner (a.conn n).partner == b.partner (b.conn n).partner

def depsEqual (a b : Container) (n : Nat) : Bool :=
  sameSet (a.depChans n) (b.depChans n) && (a.depChans n).all (fun c => a.chan c == b.chan c) &&
    sameSet (a.depConns n) (b.depConns n) && (a.depConns n).all (sameConn a b) && a.limitsOf n == b.limitsOf n

/-- The items of the output vector (R130). -/
def Container.vectorItems (c : Container) (n : Nat) : List Nat :=
  (c.nodesOf n).flatMap (fun m =>
    match m.type with
    | some .safeOut => [leAt m.body 4 1]
    | some .remoteOut => m.remoteBits.map (· + 64)
    | _ => [])

/-- The class of a cell in a live commit (Table 12.3): none for an unchanged cell, and for one in neither container. A changed
shadowable cell is `shadow` before the question of room (R277). -/
def changeClass (a b : Container) (n : Nat) : Option RecordKind :=
  match (a.cell n).inUse, (b.cell n).inUse with
  | false, false => none
  | false, true => some .added
  | true, false => some .removed
  | true, true =>
    if canonEqual a b n then (if depsEqual a b n then none else some .direct)
    else if depsEqual a b n ∧ (a.cell n).k = (b.cell n).k ∧ (a.cell n).retry = (b.cell n).retry ∧ a.vectorItems n = b.vectorItems n then
      some .shadow
    else some .direct

/-- The placements that a live commit keeps (R172, R87). -/
def RunCfg.keptCells (r : RunCfg) (c : Container) : List (Nat × Nat × Nat) :=
  (r.cells.filter (fun k => (c.cell k.cell).inUse && (changeClass r.cont c k.cell).isNone)).map (fun k => (k.cell, k.sage, k.braid))

def RunCfg.keptPulses (r : RunCfg) (c : Container) : List (Nat × Nat × Nat) :=
  r.pulses.filter (fun p => r.cont.chan p.1 == c.chan p.1 &&
    ((c.chan p.1).mode != mOUT_PAIR || r.cont.chan (p.1 + 1) == c.chan (p.1 + 1)))

/-- The configuration that a live commit changes: the one of an earlier live commit that is not over yet, else the running one. -/
def State.baseCfg (s : State) : Option RunCfg := (s.cfg.live.map (·.next)).or s.cfg.running

/-- What admission reads for the staged container, as it stands now (R176). -/
def State.stagedEnv (s : State) (bs : List Byte) (live : Bool) : AdmitEnv :=
  let side := fun (k : Nat) => Config.formLength k (leVal (containerHash bs))
  match s.baseCfg, live with
  | some r, true => s.admitEnv (side 0) (side 1) (r.keptCells (readContainer bs)) (r.keptPulses (readContainer bs))
  | _, _ => s.admitEnv (side 0) (side 1) [] []

/-! ### CFG_CHECK and CFG_COMMIT -/

/-- Some cell of an earlier live commit is in SHADOW in a channel (R273). -/
def State.shadowing (s : State) : Bool := s.cfg.live.isSome && s.cellsInUse.any (fun n => (s.cell .a n).st == .shadow || (s.cell .b n).st == .shadow)

/-- The first judgement of R259: BUSY_RETRY, or CFG_NO_STANDBY, before anything else; an ended A-translation starts again
(R272). -/
def State.liveBusy (s : State) : Option (Nat × List Byte × State) :=
  if s.cfg.admission.isSome then some (stBUSY_RETRY, [], s)
  else if s.dev.st ≠ .run then none
  else if s.bundles.handover.isSome ∨ s.shadowing then some (stBUSY_RETRY, [], s)
  else if !stagingEnded s.cfg.staging ∨ s.translated then none
  else if s.cfg.trans.any (·.activeA) then some (stBUSY_RETRY, [], s)
  else if s.cfg.trans.any (·.doneA) then some (stBUSY_RETRY, [], s)
  else if s.stbAvailable then some (stBUSY_RETRY, [], s.startTranslations)
  else some (cNO_STANDBY, (refusal cNO_STANDBY kNone 0).payload, s)

/-- CFG_CHECK: the draft certificate is kept, one that misses a limit too (R180); a check that ends before its response chains are computed
keeps the draft that there was (log 112). -/
def execCfgCheck (aFault bFault : Option Verdict) (s : State) : Host.Outcome State Fault Refusal :=
  .next (s.serve 0x33 (lenIs 0) (fun r s =>
    match s.liveBusy, s.cfg.staging with
    | some (st, pl, s), _ => s.respond r st pl
    | none, none => s.respond r stNOT_STAGED []
    | none, some t =>
      if !t.ended then s.respond r stNOT_STAGED []
      else
        let bs := t.bytes
        let (ref_, diverge, adm) := judge bs s.checkEnv (s.stagedEnv bs (s.dev.st == .run)) aFault bFault
        let s := if diverge then s.event bSUP 8 0 else s
        let s : State := match adm with
          | some a => if a.refusal.isSome && a.cells.isEmpty && a.outputs.isEmpty then s else { s with cfg := { s.cfg with draft := s.draftCert (readContainer bs) a } }
          | none => s
        match ref_ with
        | some x => s.refuseCfg r x
        | none => s.respond r stOK (leBytes 4 s.cfg.draft.length)))

/-- The commit sequence number that the next commit gets. -/
def State.nextSequence (s : State) : Nat := ((s.cfg.live.map (·.next.sequence)).getD s.cfg.sequence) + 1

/-- The authorisation of R261. -/
def State.authorised (s : State) (hash : List Byte) (auth : Bool) (code : List Byte) : Bool :=
  let right := code == hmacSha256 (s.fuseBytes 1280 4) (hash ++ leBytes 8 s.identity ++ leBytes 4 s.nextSequence)
  match s.commitKeyState with
  | 0 => !auth
  | 1 => !auth || right
  | _ => auth && right

/-- CFG_COMMIT: the four judgements of R259; then the admission runs and the request waits for it (R260). -/
def execCfgCommit (s : State) : Host.Outcome State Fault Refusal :=
  .next (s.serve 0x34 (fun r => lenIs 68 r && decide (leAt r.payload 32 4 < 2) &&
      (leAt r.payload 32 4 == 1 || allZero (r.payload.drop 36))) (fun r s =>
    match s.liveBusy, s.cfg.staging with
    | some (st, pl, s), _ => s.respond r st pl
    | none, none => s.respond r stNOT_STAGED []
    | none, some t =>
      if !t.ended then s.respond r stNOT_STAGED []
      else if t.hash ≠ r.payload.take 32 then s.refuseCfg r (refusal cHASH kNone 0)
      else if !s.authorised t.hash (leAt r.payload 32 4 == 1) (r.payload.drop 36) then s.respond r stNOT_AUTHORISED []
      else if s.dev.st ≠ .run ∧ s.dev.st ≠ .configure then s.respond r stWRONG_STATE []
      else
        let live := s.dev.st == .run
        let bs := t.bytes
        let a : Admission := ⟨r.tag, live, bs, s.stagedEnv bs live, s.checkEnv⟩
        { s.wait r .commit with cfg := { s.cfg with admission := some a } }))

/-- CERT_READ (R180). -/
def execCertRead (s : State) : Host.Outcome State Fault Refusal :=
  .next (s.serve 0x38 (fun r => lenIs 12 r && decide (leAt r.payload 0 1 < 2) && allZero ((r.payload.drop 1).take 3) &&
      decide (1 ≤ leAt r.payload 8 4 ∧ leAt r.payload 8 4 ≤ 4072)) (fun r s =>
    let cert := if leAt r.payload 0 1 = 0 then s.cfg.newerBank.cert else s.cfg.draft
    s.respond r stOK (leBytes 4 cert.length ++ zeros 4 ++ (cert.drop (leAt r.payload 4 4)).take (leAt r.payload 8 4))))

end Sys2Proof.Machine
end

