-- ==== Sys2Proof/Machine/LiveChange.lean ====
section
/-! DEFINITION. A commit takes effect (11: R260; 12: R270, R274 to R283): the end of the admission, the commit records of a live
change, its commit tick, and its end. -/

namespace Sys2Proof.Machine

/-! ### Shared effects of a commit -/

/-- The starting intervals of a recorder policy section (R270, R315). -/
def recorderIntervals (c : Container) : Tab Nat := c.recorder.foldl (fun (t : Tab Nat) e => t.put e.code e.interval) []

/-- Oxbow intervals and mirror details after a commit (R270): the intervals follow a changed recorder section; changed and
removed cells lose their detail. -/
def State.commitItems (s : State) (old : Option Container) (new : Container) : State :=
  let sameRec := match old with
    | some o => o.recorder == new.recorder
    | none => false
  let touched := fun (n : Nat) => match old with
    | none => true
    | some o => match changeClass o new n with
      | some .added => false
      | some _ => true
      | none => !(new.cell n).inUse
  { s with params := { s.params with
      oxbInterval := if sameRec then s.params.oxbInterval else recorderIntervals new,
      detail := s.params.detail.filter (fun e => !touched e.1) } }

/-- The COMMIT marker (R313): sequence number and check code of the configuration. -/
def State.commitMarker (s : State) (sequence : Nat) (hash : List Byte) : State :=
  let half := fun (o : Nat) => signed16 (beAt hash o 2)
  s.marker oxCOMMIT (sequence % 65536) (half 0) (half 2)

/-- The bank of a commit with everything it holds (R110, R181, R260). -/
def State.committedBank (s : State) (i : Nat) (bytes : List Byte) (sequence : Nat) (cert : List Byte) : ConfigBank :=
  let hash := containerHash bytes
  let form := fun (sd : Side) => match (s.cfg.bank i).form sd with
    | some f => if f.containerHash = hash then f else s.newForm (Side.ix sd) hash
    | none => s.newForm (Side.ix sd) hash
  { bytes := bytes, sequence := sequence, hash := hash, formA := some (form .a), formB := some (form .b), cert := cert }

/-! ### The commit records of a live change (R276, R277) -/

/-- The first commit boundary of a cell (R276): two periods after the start of its present one, on its grid. -/
def State.firstBoundary (s : State) (e : CellEntry) : Nat :=
  let t := max 1 e.ticks
  let o := s.time.origin.getD 0
  s.time.tick - (s.time.tick - o) % t + 2 * t

/-- The loads of a placement on one evaluator. -/
def placedLoad (c : Container) (cells : List CertCell) (side : EvalSide) (isA : Bool) (e : Nat) : Rat × Rat :=
  (cells.filter (fun k => (if isA then k.sage else k.braid) == e)).foldl (fun (acc : Rat × Rat) k =>
    let u := cellLoad (c.cell k.cell) (if isA then k.costA else k.costB) side.rate
    (acc.1 + u.1, acc.2 + u.2)) (0, 0)

/-- The cells that find room for a shadow run, ascending (R277): STB at the admitted limit, and the new Braid evaluators at 100 % of
their rate. -/
def shadowRoom (c : Container) (cells : List CertCell) (stb : Bool) (ns : List Nat) : List Nat :=
  let start : (Rat × Rat) × (Rat × Rat) × (Rat × Rat) × List Nat :=
    ((0, 0), placedLoad c cells braidSide false 0, placedLoad c cells braidSide false 1, [])
  (ns.foldl (fun acc n =>
    let k := (cells.find? (fun k => k.cell == n)).getD default
    let ua := cellLoad (c.cell n) k.costA sageSide.rate
    let ub := cellLoad (c.cell n) k.costB braidSide.rate
    let a := (acc.1.1 + ua.1, acc.1.2 + ua.2)
    let old := if k.braid = 0 then acc.2.1 else acc.2.2.1
    let b := (old.1 + ub.1, old.2 + ub.2)
    if stb && loadOk sageSide.limit a && loadOk (1000 * braidSide.rate) b then
      (a, if k.braid = 0 then b else acc.2.1, if k.braid = 0 then acc.2.2.1 else b, acc.2.2.2 ++ [n])
    else acc) start).2.2.2

/-- What a live commit does to each cell it touches, as against what the cell runs now, with its boundary. -/
def State.liveRecords (s : State) (next : RunCfg) : List (Nat × CommitRecord) :=
  let classes : List (Nat × RecordKind) :=
    (List.range 256).filterMap (fun n => (changeClass (s.cellCont n) next.cont n).map (fun k => (n, k)))
  let room := shadowRoom next.cont next.cells s.stbAvailable ((classes.filter (fun e => e.2 == .shadow)).map (·.1))
  classes.map (fun (e : Nat × RecordKind) =>
    let n := e.1
    let kind := if e.2 = .shadow ∧ n ∉ room then RecordKind.direct else e.2
    let entry := if kind = .added then next.cont.cell n else (s.cellCont n).cell n
    let k := (next.cells.find? (fun k => k.cell == n)).getD default
    (n, ⟨s.firstBoundary entry, kind, k.sage, k.braid, (next.cont.cell n).shadows⟩))

/-- The boundary at which a changed channel or connection takes effect: the latest first boundary of the cells that depend on it,
or the commit tick (R283, R275, R228). -/
def changeBoundary (records : List (Nat × CommitRecord)) (commitTick : Nat) (depends : Nat → Bool) : Nat :=
  match (records.filter (fun e => depends e.1)).map (fun e => e.2.at_) with
  | [] => commitTick
  | t :: ts => ts.foldl max t

/-- Whether a connection keeps what is in force for it. -/
def State.keepsConn (s : State) (next : Container) (n : Nat) : Bool :=
  s.connEntry n == next.conn n && s.partnerOf n == next.partner (next.conn n).partner

/-- The live commit with its records. One that joins an earlier commit (R20) touches the cells, channels and connections that differ
from that commit's container; the earlier boundaries of the others stand. -/
def State.liveCommit (s : State) (earlier : Option LiveCommit) (run next : RunCfg) (bytes cert : List Byte) :
    LiveCommit × List (Nat × CommitRecord) :=
  let base := match earlier with
    | some l => l.next
    | none => run
  let records := (s.liveRecords next).filter (fun e => (changeClass base.cont next.cont e.1).isSome)
  let tick := match records.map (fun e => e.2.at_) with
    | [] => if s.time.slotInTick = 0 then s.time.tick + 2 else s.time.tick + 3
    | t :: ts => ts.foldl min t
  let depChan := fun (c n : Nat) => decide (c ∈ (s.cellCont n).depChans n) || decide (c ∈ next.cont.depChans n)
  let depConn := fun (c n : Nat) => decide (c ∈ (s.cellCont n).depConns n) || decide (c ∈ next.cont.depConns n)
  let chans := (List.range 64).filter (fun c => base.cont.chan c != next.cont.chan c)
  let conns := (List.range (max base.cont.conns.length next.cont.conns.length)).filter (fun n => !sameConn base.cont next.cont n)
  let keep := fun (at_ : LiveCommit → List (Nat × Nat)) (changed : List Nat) =>
    ((earlier.map at_).getD []).filter (fun e => decide (e.1 ∉ changed))
  let newChans := chans.filter (fun c => s.chanEntry c != next.cont.chan c)
  let newConns := conns.filter (fun n => !s.keepsConn next.cont n)
  let was := earlier.getD default
  let l : LiveCommit :=
    { next := next, bytes := bytes, commitTick := tick, ticked := false, cert := cert,
      chanAt := keep LiveCommit.chanAt chans ++ newChans.map (fun c => (c, changeBoundary records tick (depChan c))),
      connAt := keep LiveCommit.connAt conns ++ newConns.map (fun n => (n, changeBoundary records tick (depConn n))),
      prior := if was.ticked then some was.next else was.prior,
      early := if was.ticked ∨ earlier.isNone then [] else was.early ++ [⟨was.next, was.bytes, was.commitTick, was.cert⟩],
      olds := match earlier with
        | some e => e.olds ++ [e.next]
        | none => [],
      chanOld := (chans.filter s.chanPassed).foldl (fun t c => t.put c (s.chanEntry c, s.placement c)) was.chanOld,
      connOld := (conns.filter s.connPassed).foldl (fun t n => t.put n (s.connEntry n, s.partnerOf n)) was.connOld }
  (l, records)

/-- The cells that already run the earlier commit's configuration keep it under its new number (R20). -/
def State.renumber (s : State) (l : LiveCommit) : State :=
  let k := l.olds.length + 2
  let f := fun (v : Nat) => if v = 1 then k else v
  { s with cells := { s.cells with
      sides := s.cells.sides.map (fun e => (e.1, { e.2 with runs := e.2.runs.map (fun r => { r with ver := f r.ver }) })),
      lines := s.cells.lines.map (fun e => (e.1, { e.2 with ver := f e.2.ver, verB := f e.2.verB })) } }

/-! ### A second live commit (R20) -/

/-- A pending record of a cell may still be replaced: its boundary is at least two periods away. -/
def State.replaceable (s : State) (n : Nat) : Bool :=
  (s.line n).record.all (fun r => decide (s.firstBoundary (s.gridEntry n) ≤ r.at_))

/-- No course of an earlier commit is under way in a cell: its record is still to come, or over. -/
def State.settled (s : State) (n : Nat) : Bool :=
  let ln := s.line n
  ln.ver == ln.verB && ln.swapAt.isNone && ln.removeAt.isNone && !ln.toTransition

/-- Nothing of an earlier commit has taken effect in a cell. -/
def State.untouched (s : State) (n : Nat) : Bool := (s.line n).ver == 0 && s.settled n

/-- A cell that goes back to what it runs is placed where it runs. -/
def State.samePlace (s : State) (next : RunCfg) (n : Nat) : Bool :=
  (changeClass (s.cellCont n) next.cont n).isSome ||
    ((placeOf (s.cellCfg n) n).sage == (placeOf (some next) n).sage && (placeOf (s.cellCfg n) n).braid == (placeOf (some next) n).braid)

/-- Every record of an earlier commit whose commit tick is still to come is replaced by the new commit's. -/
def State.replacesLive (s : State) (l : LiveCommit) (next : RunCfg) : Bool :=
  !l.ticked && l.olds.isEmpty && (l.chanAt ++ l.connAt).all (fun e => decide (s.time.tick < e.2)) &&
    (List.range 256).all (fun n => s.replaceable n && s.untouched n && s.samePlace next n)

/-- The placement of a channel whose boundary has passed is in force: the next base frame has begun (R102). -/
def State.placementDue (s : State) (at_ : Nat) : Bool :=
  let o := s.time.origin.getD 0
  decide ((at_ - o + 199) / 200 * 200 + o ≤ s.time.tick)

/-- The new commit joins an earlier one: each cell that it changes as against that commit has no course under way, and where a record of
it is pending, that record can be replaced. The records of the other cells stand. -/
def State.joinsLive (s : State) (l : LiveCommit) (next : RunCfg) : Bool :=
  (List.range 256).all (fun n =>
    (changeClass l.next.cont next.cont n).isNone || (s.replaceable n && s.settled n && s.samePlace next n)) &&
  l.chanAt.all (fun e => decide (s.time.tick < e.2) || s.placementDue e.2 || l.next.cont.chan e.1 == next.cont.chan e.1)

/-- A live commit waits where it would need the replacement of a record that is too near, or a change of a cell whose course is not
over. -/
def State.liveWaits (s : State) (next : RunCfg) : Bool :=
  match s.cfg.live with
  | none => false
  | some l => !s.replacesLive l next && !s.joinsLive l next

/-- An earlier live commit of which nothing has taken effect gives way: its records are withdrawn. -/
def State.withdrawLive (s : State) : State :=
  { s with
    cfg := { s.cfg with live := none },
    cells := { s.cells with lines := s.cells.lines.map (fun e => (e.1, { e.2 with record := none })) },
    pairs := { s.pairs with stb := if s.pairs.stb = .shadows then .free else s.pairs.stb } }

/-! ### ADMISSION_COMPLETE -/

/-- The commit of a container from CONFIGURE (row 10, R260): the bank is the newer one, and VERIFY follows. -/
def State.commitNow (s : State) (a : Admission) (x : Admitted) : State :=
  let c := readContainer a.bytes
  let seq := s.nextSequence
  let i := s.cfg.inactive
  let old := s.cfg.running.map (·.cont)
  let (cert, s) := s.signCert c x seq
  let bank := s.committedBank i a.bytes seq cert
  let s := s.commitItems old c
  let banks := s.cfg.setBank i bank
  let run : RunCfg := { cont := c, sequence := seq, cells := x.cells, pulses := x.pulses }
  let s : State := { s with
    cfg := { bank0 := banks.bank0, bank1 := banks.bank1, active := i, running := some run, draft := s.cfg.draft },
    cells := { lines := s.linesFor c }, dev := { s.dev with configFrom := none, loaded := false } }
  let s := s.commitMarker seq bank.hash
  (s.answer .commit stOK (leBytes 4 seq ++ zeros 4)).enterVerify .newConfig

/-- A live commit (R275, R276): the records name their boundaries, and the request is answered. -/
def State.commitLive (s : State) (a : Admission) (x : Admitted) (run : RunCfg) : State :=
  let c := readContainer a.bytes
  let seq := s.nextSequence
  let next : RunCfg := ⟨c, seq, x.cells, x.pulses⟩
  let (cert, s) := s.signCert c x seq
  let s := if s.cfg.live.any (fun l => s.replacesLive l next) then s.withdrawLive else s
  let (l, records) := s.liveCommit s.cfg.live run next a.bytes cert
  let s : State := match s.cfg.live with
    | some e => ((List.range 256).filter (fun n => (changeClass e.next.cont c n).isSome)).foldl
        (fun (s : State) n => s.setLine n { s.line n with record := none }) (s.renumber e)
    | none => s
  let s := records.foldl (fun s e => s.setLine e.1 { s.line e.1 with record := some e.2 }) s
  let s : State := { s with
    cfg := { s.cfg with live := some l, admission := none, staging := none, trans := none },
    pairs := { s.pairs with stb := if records.any (fun e => e.2.kind == .shadow) then .shadows else s.pairs.stb } }
  let i := s.cfg.inactive
  let s : State := if l.early.isEmpty then { s with cfg := s.cfg.setBank i { s.cfg.bank i with bytes := a.bytes, hash := c.hash } } else s
  let tau := (l.commitTick - s.time.tau0.getD 0) % 2 ^ 32
  (s.calDrop).answer .commit stOK (leBytes 4 seq ++ leBytes 4 tau)

/-- ADMISSION_COMPLETE: `aFault` and `bFault` are the verdicts of a translator that a fault has turned. A live commit that would need a
record inside the distance of R20 waits for the pending boundary. -/
def execAdmissionComplete (aFault bFault : Option Verdict) (s : State) : Host.Outcome State Fault Refusal :=
  .next (match s.cfg.admission with
    | none => s
    | some a =>
      let (ref_, diverge, adm) := judge a.bytes a.check a.env aFault bFault
      let waits := match adm, s.cfg.running with
        | some x, some _ => ref_.isNone && a.live && s.liveWaits ⟨readContainer a.bytes, s.nextSequence, x.cells, x.pulses⟩
        | _, _ => false
      if waits then s
      else
        let s := if diverge then s.event bSUP 8 0 else s
        match ref_, adm with
        | some r, _ => ({ s with cfg := { s.cfg with admission := none } } : State).answer .commit r.code r.payload
        | none, none => s
        | none, some x =>
          if a.live then
            match s.cfg.running with
            | some run => s.commitLive a x run
            | none => s
          else s.commitNow a x)

/-! ### COMMIT_TICK (R275) -/

/-- A commit tick: policies, flags, the certificate and the bank of a live commit take effect; `l` is the live commit after it. -/
def State.tickCommit (s : State) (x : PendingTick) (l : LiveCommit) : State :=
  let i := s.cfg.inactive
  let bank := s.committedBank i x.bytes x.next.sequence x.cert
  let s := s.commitItems (some s.devCont) x.next.cont
  let s : State := { s with cfg := { s.cfg.setBank i bank with active := i, live := some l } }
  let s := s.commitMarker x.next.sequence bank.hash
  let s := if certCells x.cert = x.next.cells then s else s.reissueCert
  s.rejudge.placeRetired

/-- The commit tick of the latest live commit; one of an earlier commit that is still to come has nothing left to bring (R20). -/
def State.lastTick (s : State) (l : LiveCommit) : State :=
  s.tickCommit ⟨l.next, l.bytes, l.commitTick, l.cert⟩ { l with ticked := true, early := [] }

/-- COMMIT_TICK: that of the latest live commit, or of an earlier one that it has joined before its tick. -/
def execCommitTick (s : State) : Host.Outcome State Fault Refusal :=
  .next (match s.cfg.live with
    | none => s
    | some l =>
      match l.early with
      | x :: rest =>
        if x.commitTick ≤ s.time.tick ∧ x.commitTick < l.commitTick then s.tickCommit x { l with early := rest, prior := some x.next }
        else if l.ticked ∨ s.time.tick < l.commitTick then s
        else s.lastTick l
      | [] => if l.ticked ∨ s.time.tick < l.commitTick then s else s.lastTick l)

/-! ### The end of a live commit -/

/-- Every record, boundary and shadow of the live commit is over. -/
def State.liveOver (s : State) (l : LiveCommit) : Bool :=
  l.ticked && l.chanAt.all (fun e => s.placementDue e.2) &&
    l.connAt.all (fun e => decide (e.2 ≤ s.time.tick)) &&
    (List.range 256).all (fun n =>
      let ln := s.line n
      let same := fun (v : Nat) => (changeClass (s.verCont v) l.next.cont n).isNone
      ln.record.isNone && ln.removeAt.isNone && ln.swapAt.isNone && !ln.toTransition &&
        [Side.a, Side.b].all (fun sd => same (ln.version sd) && (s.cell sd n).runs.all (fun r => same r.ver)))

/-- The committed configuration is the running one. -/
def State.finishLive (s : State) : State :=
  match s.cfg.live with
  | none => s
  | some l =>
    if !s.liveOver l then s
    else
      { s with
        cfg := { s.cfg with running := some l.next, live := none },
        cells := { s.cells with
          sides := s.cells.sides.map (fun e => (e.1, { e.2 with runs := e.2.runs.map (fun r => { r with ver := 0 }) })),
          lines := s.cells.lines.map (fun e => (e.1, { e.2 with ver := 0, verB := 0 })) } }

/-! ### RESTART (R51, R289) -/

/-- RESTART starts every cell from the committed container (R289): the commit tick, the bindings and the versions that a live commit has
still to bring take effect at once, and the period numbers run on. -/
def State.closeLive (s : State) : State :=
  match s.cfg.live with
  | none => s
  | some l =>
    let s := if l.ticked then s else s.lastTick l
    let s := (l.chanAt.filter (fun e => decide (s.time.tick < e.2))).foldl (fun s e => s.changeChannel e.1) s
    let lines := s.linesFor s.nextCont
    { s with
      cfg := { s.cfg with running := s.cfg.live.map (·.next), live := none },
      cells := { s.cells with lines := lines, sides := s.cells.sides.filter (fun e => (s.nextCont.cell (e.1 / 2)).inUse) },
      pairs := { s.pairs with stb := if s.pairs.stb = .shadows then .free else s.pairs.stb } }

/-- A severity that a policy has lowered while its instance was live no longer holds the lines as S3 does: that effect ends with the
RESTART (Table 13.2). -/
def State.endS3 (s : State) : State :=
  { s with faults := { s.faults with live := s.faults.live.map (fun l => if 3 ≤ l.sev then { l with sev := s.sevNow l } else l) } }

/-- RESTART: the device-safe line and the S3 holds end, and VERIFY runs again (row 17, R51, R293, R301). -/
def execRestart (s : State) : Host.Outcome State Fault Refusal :=
  .next (s.serve 0x42 (lenIs 0) (fun r s =>
    if s.restartAllowed then
      let s := s.wait r .restart
      let s : State := { s with
        dev := { s.dev with safeLine := false, s3InSafe := false },
        faults := { s.faults with holds := s.faults.holds.filter (fun h => h.sev != 3) } }
      (s.endS3.enterVerify .restart).closeLive
    else s.respond r stWRONG_STATE []))

/-! ### STB after the shadows -/

/-- STB is free again when the last shadow has ended (R194), the re-run of its last period with it (R279). -/
def State.freeShadows (s : State) : State :=
  let pendingShadow := (List.range 256).any (fun n =>
    (s.line n).record.any (fun r => r.kind == .shadow) || (s.cell .a n).st == .shadow || (s.cell .b n).st == .shadow ||
      (s.cell .a n).runs.any (fun r => r.isShadow && r.result.isNone))
  if s.pairs.stb = .shadows ∧ !pendingShadow then { s with pairs := { s.pairs with stb := .free } } else s

end Sys2Proof.Machine
end

