-- ==== Sys2Proof/Machine/Firmware.lean ====
section
/-! DEFINITION. Firmware bundles: staging, activation through a reset, and the handover through STB (02: R39 to R44; 11: R259,
R265; 12: R284 to R286). -/

namespace Sys2Proof.Machine

/-! ### Staging (R259, R41) -/

/-- The three phases of FW_STAGE share one command code; each acts on a request of its own phase, and a phase that Table 11.5 does
not name is a format error. -/
def State.fwFront (s : State) (phase : Nat) : Bool :=
  match s.front 0xC0 with
  | none => false
  | some r => min 3 (leAt r.payload 0 1) == phase || (phase == 0 && decide (r.payload.isEmpty ∨ 3 ≤ leAt r.payload 0 1))

/-- The form every phase has: phase, three reserved bytes, a 32-bit value. -/
def fwForm (phase : Nat) (r : Request) : Bool :=
  decide (8 ≤ r.payload.length) && leAt r.payload 0 1 == phase && allZero ((r.payload.drop 1).take 3)

/-- Longest bundle (Table 2.6). -/
def maxBundle : Nat := 12582912

/-- The inactive bundle bank holds what has been written of the staging: a bundle only once no byte is missing. -/
def State.putStaging (s : State) (t : Staging) : State :=
  let i := s.inactiveBundle
  let b := s.bundles.setBank i { s.bundles.bank i with bytes := if t.full then t.bytes else [] }
  { s with bundles := { b with staging := some t } }

/-- FW_STAGE, phase 0. -/
def execFwStageBegin (s : State) : Host.Outcome State Fault Refusal :=
  .next (if !s.fwFront 0 then s
    else s.serve 0xC0 (fun r => fwForm 0 r && lenIs 8 r && decide (leAt r.payload 4 4 ≤ maxBundle)) (fun r s =>
      if s.bundles.handover.isSome then s.respond r stBUSY_RETRY []
      else (s.putStaging ⟨leAt r.payload 4 4, [], false, []⟩).respond r stOK []))

/-- FW_STAGE, phase 1. -/
def execFwStageData (s : State) : Host.Outcome State Fault Refusal :=
  .next (if !s.fwFront 1 then s
    else s.serve 0xC0 (fun r => fwForm 1 r && decide (9 ≤ r.payload.length ∧ r.payload.length ≤ 4080)) (fun r s =>
      let off := leAt r.payload 4 4
      let data := r.payload.drop 8
      match s.bundles.staging with
      | none => s.respond r stNOT_STAGED []
      | some t =>
        if t.ended then s.respond r stWRONG_STATE []
        else if t.length < off + data.length then s.respond r stBAD_FORMAT []
        else (s.putStaging { t with mem := stageWrite t.mem off data }).respond r stOK []))

/-- FW_STAGE, phase 2: the checks of R41. -/
def execFwStageEnd (s : State) : Host.Outcome State Fault Refusal :=
  .next (if !s.fwFront 2 then s
    else s.serve 0xC0 (fun r => fwForm 2 r && lenIs 8 r && leAt r.payload 4 4 == 0) (fun r s =>
      match s.bundles.staging with
      | none => s.respond r stNOT_STAGED []
      | some t =>
        if t.ended then s.respond r stWRONG_STATE []
        else if !t.full then s.respond r stFW_BAD []
        else match s.bundleCheck t.bytes with
          | .error e => s.respond r e []
          | .ok m => (s.putStaging { t with ended := true }).respond r stOK (leBytes 4 m.version ++ leBytes 2 m.epoch ++ zeros 2)))

/-! ### Activation (R44, R284) -/

/-- A version lies in one of the coexistence ranges. -/
def inRanges (v : Nat) (rs : List (Nat × Nat)) : Bool := rs.any (fun r => decide (r.1 ≤ v ∧ v ≤ r.2))

/-- A handover from the running bundle to the staged one is allowed (R44). -/
def State.handoverAllowed (s : State) (old new : Manifest) : Bool :=
  inRanges new.version old.coexist && inRanges old.version new.coexist && old.planeEpoch == new.planeEpoch && s.stbAvailable

/-- The activation number of a bank becomes the other bank's number plus 1 (R41). -/
def State.activate (s : State) (i : Nat) : State :=
  { s with bundles := s.bundles.setBank i { s.bundles.bank i with activation := ((s.bundles.bank (1 - i)).activation + 1) % 2 ^ 32 } }

/-- The BUNDLE marker (R313): bank, major and minor, patch. -/
def State.bundleMarker (s : State) (bank : Nat) (m : Manifest) : State :=
  s.marker oxBUNDLE bank (signed16 (m.version / 65536)) (signed16 (m.version % 65536))

/-- The BUNDLE record of an activation by reset is in Tailwater before the reset (Table 14.1: once per activation); its fold is left to
the mount (R322, log 104). -/
def State.recordBundle (s : State) (bank : Nat) (m : Manifest) : State :=
  if s.oxb.storeFail.isSome || !s.on 11 || !s.clocked then s
  else
    let r := s.markerRecord oxBUNDLE bank (signed16 (m.version / 65536)) (signed16 (m.version % 65536))
    { s with oxb := { s.oxb with mram := s.oxb.mram.write s.pwr.powerCycles r true } }

/-- Path 1: the answer, then a chip reset at which only this answer survives (R265). -/
def State.activateByReset (s : State) (r : Request) (m : Manifest) : State :=
  let i := s.inactiveBundle
  let s := (s.activate i).recordBundle i m
  let t := s.chipReset 3
  { t with host := { t.host with rsp := [r.response s.host.session stOK (leBytes 1 1 ++ zeros 3)] } }

/-- Path 0: STB leaves its self-check loop, for the new translator or for the new supervisor (R284, R285). -/
def State.startHandover (s : State) (r : Request) (old new : Manifest) : State :=
  let stage := if old.translator = new.translator then HandStage.starting else .translating
  { s.wait r .activate with
    bundles := { s.bundles with handover := some ⟨stage, s.inactiveBundle, s.time.tick⟩ },
    pairs := { s.pairs with stb := .handover } }

/-- FW_ACTIVATE. -/
def execFwActivate (s : State) : Host.Outcome State Fault Refusal :=
  .next (s.serve 0xC1 (lenIs 4) (fun r s =>
    match s.bundles.staging with
    | none => s.respond r stNOT_STAGED []
    | some t =>
      if !t.ended then s.respond r stNOT_STAGED []
      else match s.bundleCheck t.bytes with
        | .error e => s.respond r e []
        | .ok m =>
          if m.version ≠ leAt r.payload 0 4 then s.respond r stFW_VERSION []
          else if s.dev.st = .safe ∨ s.dev.st = .maintenance then s.activateByReset r m
          else match s.dev.st, s.bundles.manifest with
            | .run, some old => if s.handoverAllowed old m then s.startHandover r old m else s.respond r stFW_NEEDS_SAFE []
            | _, _ => s.respond r stFW_NEEDS_SAFE []))

/-- FW_INFO: of a bank the ROM would not accept, the manifest's fields are open. -/
def execFwInfo (s : State) : Host.Outcome State Fault Refusal :=
  .next (s.serve 0xC2 (lenIs 0) (fun r s =>
    let one := fun (i : Nat) => match s.acceptedBank i with
      | some m => leBytes 1 1 ++ zeros 1 ++ leBytes 2 m.epoch ++ leBytes 4 m.version ++ leBytes 4 (s.bundles.bank i).activation
      | none => zeros 2 ++ freeBytes (s.free + 6 * i) 6 ++ leBytes 4 (s.bundles.bank i).activation
    { s.respond r stOK (one 0 ++ one 1) with free := s.free + 12 }))

/-! ### The handover (R284 to R286) -/

/-- The manifest of the bundle a handover leads to. -/
def State.newManifest (s : State) : Option Manifest :=
  match s.bundles.handover with
  | none => none
  | some h => s.acceptedBank h.bank

/-- HANDOVER_FORMS_READY: a copy of the running container with the new translator's forms becomes the newer configuration bank, and
the new supervisor starts. A live commit under way has the inactive bank until it ends, and the forms are those of the container it
leaves running (log 108). The new translators take a container that admission has accepted: no verdict of theirs enters here (log 108). -/
def execHandoverFormsReady (s : State) : Host.Outcome State Fault Refusal :=
  .next (match s.bundles.handover, s.newManifest, s.cfg.running with
    | some h, some m, some run =>
      if h.stage ≠ .translating ∨ s.cfg.live.isSome then s
      else
        let old := s.cfg.bank s.cfg.active
        let i := 1 - s.cfg.active
        let bank := { old with sequence := s.cfg.sequence + 1, formA := some (formOf 0 run.cont.hash m.translator),
                               formB := some (formOf 1 run.cont.hash m.translator) }
        let cfg := s.cfg.setBank i bank
        { s with
          cfg := { cfg with active := i, staging := none, trans := none, running := some { run with sequence := s.cfg.sequence + 1 } },
          bundles := { s.bundles with handover := some { h with stage := .starting, start := s.time.tick } } }
    | _, _, _ => s)

/-- A host-signal write that is refused before its flip has no effect (R265). -/
def HostSigSt.undo (h : HostSigSt) : HostSigSt :=
  match h.before with
  | none => h
  | some b => { h with inactive := b.inactive, flipDue := b.flipDue, holdMs := b.holdMs, lastWrite := b.lastWrite, before := none }

/-- The waiting requests that the old supervisor cannot finish (R265). -/
def State.refuseBegun (s : State) : State :=
  let s := [WaitFor.run, .restart, .commit, .selfTest, .cal, .fuse, .hostSig, .oxbFlush].foldl (fun s w => s.answer w stBUSY_RETRY []) s
  { s with
    hs := s.hs.undo,
    cfg := { s.cfg with admission := none },
    rif := { s.rif with selfTest := none, cal := none },
    ros := { s.ros with running := s.ros.running.map (fun j => { j with answer := false }),
                        waiting := s.ros.waiting.map (fun j => { j with answer := false }) } }

/-- The hardware of SUP and STB change roles, each with its monitor (R285). -/
def State.swapRoles (s : State) : State :=
  let sup := s.pair bSUP
  let stb := s.pair bSTB
  let s := (s.setPair bSUP stb).setPair bSTB sup
  { s with pairs := { s.pairs with swapped := !s.pairs.swapped } }

/-- HANDOVER_POINT: step 4 of Table 12.5, or a new supervisor that fails a check of its own start; 500 ms after the reference the handover
is abandoned instead (R286). -/
def execHandoverPoint (startOk : Bool) (s : State) : Host.Outcome State Fault Refusal :=
  .next (match s.bundles.handover, s.newManifest with
    | some h, some m =>
      if h.stage ≠ .starting then s
      else if !startOk ∨ h.start + 10000 ≤ s.time.tick then s.abandonHandover
      else
        let s := s.refuseBegun.swapRoles.activate h.bank
        let s : State := { s with
          bundles := { s.bundles with running := some h.bank, manifest := some m, staging := none,
                                      handover := some { h with stage := .switching } },
          host := { s.host with paused := false, evHandover := true },
          weir := { s.weir with tablesBank := if s.on 7 then some h.bank else none } }
        let s := s.bundleMarker h.bank m
        let s := s.cellsInUse.foldl (fun s n => s.setLine n { s.line n with handAt := some (s.firstBoundary ((s.cellCont n).cell n)) }) s
        let s := if s.dev.st = .run then s.askEpoch else s
        (s.answer .activate stOK (zeros 4)).settle
    | _, _ => s)

/-- HANDOVER_TIMEOUT: step 4 is not reached within 500 ms (R286). -/
def execHandoverTimeout (s : State) : Host.Outcome State Fault Refusal :=
  .next (match s.bundles.handover with
    | none => s
    | some h => if h.stage = .starting ∧ h.start + 10000 ≤ s.time.tick then s.abandonHandover.settle else s)

/-- HANDOVER_COMPLETE: every cell has switched; the old SUP hardware passes the comparator test and becomes STB (R285 step 6,
R199). -/
def execHandoverComplete (reports : List LaneReport) (s : State) : Host.Outcome State Fault Refusal :=
  .next (match s.bundles.handover with
    | none => s
    | some h =>
      if h.stage ≠ .switching ∨ s.cellsInUse.any (fun n => (s.line n).handAt.isSome) then s
      else
        let s : State := { s with
          bundles := { s.bundles with handover := none },
          pairs := { s.pairs with stb := if s.pairs.stb = .handover then .free else s.pairs.stb } }
        match firstFailing reports with
        | some g => (s.setPair bSTB { s.pair bSTB with selfTestOk := false }).event bSTB 4 g
        | none => s.setPair bSTB { s.pair bSTB with selfTestOk := true })

end Sys2Proof.Machine
end

