-- ==== Sys2Proof/Machine/Weir.lean ====
section
/-! DEFINITION. Weir's commands (10_weir_ports, and the carriage of 09_millrace): assembly and transmission, reception, ARP, PAUSE,
links and the port unit slice. -/

namespace Sys2Proof.Machine

/-! ### Assembly (R204, R210, R211) -/

/-- The carriage of a connection's frames, from what channel A has learned; an unlearned partner is sent to the broadcast
addresses. -/
def State.carriage (s : State) (n : Nat) : Carriage :=
  let e := s.connEntry n
  let p := s.partnerOf n
  let l := s.learnedAddr .a e.partner e.port
  let mac := (l.map (·.mac)).getD macBroadcast
  let ip := (l.bind (·.ip)).getD 0xFFFFFFFF
  { dst := mac, src := s.portMac e.port, tci := if e.tagged then some e.tci else none, etherType := s.params.etherType,
    udp := if p.udp then some ((s.params.port e.port).ip, ip, s.params.udpPort) else none }

/-- The fields of the DATA PDU that a channel builds next: v_t has advanced (R216). -/
def State.dataPdu (s : State) (sd : Side) (n : Nat) : DataPdu :=
  let c := s.conn sd n
  let x := c.session.getD default
  let e := s.connEntry n
  { handle := x.handle, seq := (c.vt + 1).toNat % 65536, echo := c.vr.toNat % 65536,
    fsv := s.dev.st == .safe || s.dev.st == .latched, echoValid := c.echoValid,
    data := s.remoteOut sd n % 2 ^ e.outBits }

/-- The virtual prefix of a channel's next DATA PDU (Table 9.6). -/
def State.dataPrefix (s : State) (sd : Side) (n : Nat) : List Byte :=
  let c := s.conn sd n
  let x := c.session.getD default
  virtualPrefix (s.connEntry n).uid x.nO.toNat x.nR.toNat x.opener (c.vt + 1).toNat

/-- A channel has built its PDU (R216). -/
def State.advanceVt (s : State) (sd : Side) (n : Nat) : State :=
  if s.buildsData sd n then s.setConn sd n { s.conn sd n with vt := (s.conn sd n).vt + 1 } else s

/-- A PDU that both channels wrote their halves of. -/
structure Assembled where
  conn : Nat
  gen : Nat
  port : Nat
  carriage : Carriage
  bytes : List Byte
deriving DecidableEq, Repr, Inhabited

/-- The PDU of a due connection, when both windows hold its half. -/
def State.assemble (s : State) (n : Nat) : Option Assembled :=
  if s.buildsData .a n && s.buildsData .b n then
    let gen := ((s.conn .a n).session.getD default).gen
    some { conn := n, gen := gen, port := (s.connEntry n).port, carriage := s.carriage n,
           bytes := withCrcs gen ((s.dataPdu .a n).body gen) ((s.dataPdu .b n).body gen) (s.dataPrefix .a n) (s.dataPrefix .b n) }
  else none

/-- The DATA frames of the due PDUs: M2 PDUs of one port and carriage share a frame, up to 16 in ascending order. -/
def dataFrames : Nat → List Assembled → List (List Assembled)
  | 0, _ => []
  | _, [] => []
  | fuel + 1, x :: rest =>
    if x.gen ≠ 2 then [x] :: dataFrames fuel rest
    else
      let same := fun (y : Assembled) => y.gen == 2 && y.port == x.port && y.carriage == x.carriage
      let mine := (rest.filter same).take 15
      (x :: mine) :: dataFrames fuel (rest.filter (fun y => !(mine.any (fun z => z.conn == y.conn))))

/-- A frame's bytes in its carriage, padded to the least length. -/
def carried (c : Carriage) (payload : List Byte) : List Byte := padFrame (carry c payload)

/-- Queue one DATA frame: stale at the next transmit tick of any of its connections (R241). -/
def State.queueData (s : State) (f : List Assembled) : State :=
  match f with
  | [] => s
  | x :: _ =>
    let payload := frameHeader (if x.gen = 2 then ftDATA2 else ftDATA1) f.length x.gen ++ f.flatMap (·.bytes)
    let next := f.foldl (fun m y => min m (5 * (s.connEntry y.conn).period)) (5 * (s.connEntry x.conn).period)
    s.queueFrame x.port { kind := .data, bytes := carried x.carriage payload, conns := f.map (·.conn), deadline := s.time.tick + next }

/-- The control PDU that a channel's connection owes in this tick. In LATCHED no OPEN is sent, and what an OPEN_ACK was due for is refused
with reason 6 (R227). -/
def State.owedControl (s : State) (sd : Side) (n : Nat) : Option DueControl :=
  match (s.conn sd n).due with
  | none => none
  | some d =>
    if s.time.tick < d.at_ then none
    else if s.dev.st != .latched then some d
    else if d.ftype = ftOPEN then none
    else if d.ftype = ftACK then some { d with ftype := ftREFUSE, nR := 0, reason := 6 }
    else some d

/-- A channel's half of a control PDU that is due in this tick. -/
def State.dueControl (s : State) (sd : Side) (n : Nat) : Option DueControl := if s.sideRuns sd then s.owedControl sd n else none

def State.ctlBody (s : State) (n : Nat) (d : DueControl) : List Byte :=
  ({ handle := d.handle, sender := n, senderId := s.identity, nO := d.nO.toNat, nR := d.nR.toNat, bitsO := d.bitsO,
     bitsR := d.bitsR, period := d.period, reason := d.reason } : CtlPdu).body

/-- A control PDU's tick has come: it is due no longer. A session whose OPEN_ACK became a REFUSE in LATCHED is refused (row 8). -/
def State.controlSent (s : State) (sd : Side) (n : Nat) : State :=
  let c := s.conn sd n
  let refused := s.dev.st == .latched && c.due.any (fun d => d.ftype == ftACK)
  let s := s.setConn sd n { c with due := none, reason := if refused then 6 else c.reason }
  if refused then s.connEnter sd n .refused else s

/-- Send the control PDU of a connection, when both halves are there (R211, R221); one that lacks a half counts under TX_HALF. -/
def State.sendControl (s : State) (n : Nat) : State :=
  let a := s.dueControl .a n
  let b := s.dueControl .b n
  let owed := (s.owedControl .a n).isSome || (s.owedControl .b n).isSome
  let sent := fun (s : State) (sd : Side) => if (s.owedControl sd n).isSome then s.controlSent sd n else s
  let s := sent (sent s .a) .b
  match a, b with
  | none, none => if owed then s.event bWEIR 10 n else s
  | some x, some y =>
    let uid := (s.connEntry n).uid
    let pre := ctlPrefix uid (x.ftype == ftOPEN)
    let preB := ctlPrefix uid (y.ftype == ftOPEN)
    let payload := frameHeader x.ftype 1 x.gen ++ withCrcs x.gen (s.ctlBody n x) (s.ctlBody n y) pre preB
    s.queueFrame (s.connEntry n).port
      { kind := .control, bytes := carried (s.carriage n) payload, conns := [n], deadline := s.time.tick + tMS }
  | _, _ => s.event bWEIR 10 n

/-- PDU_TRANSMIT: once in a tick, for every connection due in it (R210, R211, R239): DATA frames first, then control PDUs. -/
def execPduTransmit (s : State) : Host.Outcome State Fault Refusal :=
  .next (if !s.weirOn ∨ !s.dev.st.connects ∨ s.weir.txTick = some s.time.tick then s
    else
      let s : State := { s with weir := { s.weir with txTick := some s.time.tick } }
      let due := s.connsInUse.filter s.txDue
      let built := due.filterMap s.assemble
      let half := due.filter (fun n => (s.sendsData .a n || s.sendsData .b n) && !(s.buildsData .a n && s.buildsData .b n))
      let s := due.foldl (fun s n => (s.advanceVt .a n).advanceVt .b n) s
      let s := half.foldl (fun s n => s.event bWEIR 10 n) s
      let s := (dataFrames built.length built).foldl State.queueData s
      s.connsInUse.foldl State.sendControl s)

/-! ### ANNOUNCE (R206, R207) -/

/-- The Generations field of a port's ANNOUNCE. -/
def State.announceGens (s : State) (port : Nat) : Nat :=
  let mine := s.connsInUse.filter (fun n => (s.connEntry n).port == port)
  b2n (mine.any (fun n => (s.connEntry n).m1 && (s.partnerOf n).m1)) +
    2 * b2n (mine.any (fun n => (s.connEntry n).m2 && (s.partnerOf n).m2))

/-- The carriages of a port's ANNOUNCE: Ethernet II, UDP or both, as its partner entries select; untagged and once per TCI. -/
def State.announceCarriages (s : State) (port : Nat) : List Carriage :=
  let mine := s.connsInUse.filter (fun n => (s.connEntry n).port == port)
  let tcis := none :: ((mine.filter (fun n => (s.connEntry n).tagged)).map (fun n => some (s.connEntry n).tci)).eraseDups
  let udp := some ((s.params.port port).ip, 0xFFFFFFFF, s.params.udpPort)
  let kinds : List (Option (Nat × Nat × Nat)) :=
    (if mine.any (fun n => !(s.partnerOf n).udp) then [none] else []) ++ (if mine.any (fun n => (s.partnerOf n).udp) then [udp] else [])
  kinds.flatMap (fun u => tcis.map (fun t =>
    { dst := macBroadcast, src := s.portMac port, tci := t, etherType := s.params.etherType, udp := u }))

/-- ANNOUNCE_TRANSMIT: on a port with a connection that is not in RUN in channel A, every 100 ms. -/
def execAnnounceTransmit (port : Nat) (s : State) : Host.Outcome State Fault Refusal :=
  .next (
    let mine := s.connsInUse.filter (fun n => (s.connEntry n).port == port)
    let phase := match s.tau with
      | some t => t % 2000 == 100 * port
      | none => false
    if !s.weirOn ∨ !s.dev.st.opens ∨ !phase ∨ !s.sideRuns .a ∨ !(mine.any (fun n => (s.conn .a n).st != .run)) then s
    else
      let body := announceFrame s.identity (s.devCont.hash.take 4) (s.announceGens port)
      (s.announceCarriages port).foldl (fun s c =>
        s.queueFrame port { kind := .control, bytes := carried c body, conns := [], deadline := s.time.tick + tMS }) s)

/-! ### The wire (R236, R240, R241) -/

/-- FRAME_TX_DONE: the frame on the wire has left with its FCS, and its slot is free; a pause that came meanwhile starts. -/
def execFrameTxDone (port : Nat) (s : State) : Host.Outcome State Fault Refusal :=
  .next (
    let p := s.port port
    match p.wire with
    | none => s
    | some f =>
      if !s.weirOn then s
      else
        let pause := match p.pauseNext with
          | some ns => if ns = 0 then none else some (s.nowNs + ns)
          | none => p.pause
        (s.setPort port { p with wire := none, macOut := f.bytes ++ leBytes 4 (crc32Ether f.bytes), pause := pause,
                                 pauseNext := none }).startTx port)

/-- The queued frames whose deadline lies before a tick are discarded and counted. -/
def State.discardStale (s : State) (port before : Nat) : State :=
  let p := s.port port
  let stale := p.queue.filter (fun f => decide (f.deadline < before))
  let s := s.setPort port { p with queue := p.queue.filter (fun f => decide (before ≤ f.deadline)) }
  stale.foldl (fun s f =>
    if f.kind = .data then f.conns.foldl (fun s n => s.event bWEIR 19 n) s else s.event bWEIR 19 0xFFFF) s

/-- A pause that has run out by now is over, and the head of the queue starts. -/
def State.pauseOver (s : State) (port : Nat) : State :=
  match (s.port port).pause with
  | none => s
  | some t => if t ≤ s.nowNs then (s.setPort port { s.port port with pause := none }).startTx port else s

/-- TX_STALE_DISCARD: the queued frames whose deadline has come are discarded and counted; one whose start falls on its deadline starts
(R246). -/
def execTxStaleDiscard (port : Nat) (s : State) : Host.Outcome State Fault Refusal :=
  .next (if !s.weirOn then s
    else (((s.discardStale port s.time.tick).pauseOver port).discardStale port (s.time.tick + 1)).startTx port)

/-- PAUSE_END: the pause runs out within the present slot. -/
def execPauseEnd (port : Nat) (s : State) : Host.Outcome State Fault Refusal :=
  .next (match (s.port port).pause with
    | none => s
    | some t => if t < s.nowNs + 10000 then (s.setPort port { s.port port with pause := none }).startTx port else s)

/-! ### Reception (R235, R242) -/

/-- The VIDs of a port's TAGGED connection entries. -/
def State.portVids (s : State) (port : Nat) : List Nat :=
  ((s.connsInUse.filter (fun n => (s.connEntry n).port == port && (s.connEntry n).tagged)).map
    (fun n => (s.connEntry n).tci % 4096)).eraseDups

/-- FRAME_RECEIVED: `bytes` is the frame with its FCS. What ends while the link is down is a frame that the loss has cut: it fails its FCS
(R246). -/
def execFrameReceived (port : Nat) (bytes : List Byte) (s : State) : Host.Outcome State Fault Refusal :=
  .next (
    let p := s.port port
    if !s.weirOn then s
    else if !p.linkUp then (if (s.params.port port).mode = 0 then s else s.event bWEIR 13 port)
    else if 256 ≤ p.buffers.length then s.event bWEIR 14 port
    else match parseFrame bytes with
      | none => s.event bWEIR 13 port
      | some f =>
        match filterKind f (s.portMac port) (s.params.port port).ip s.params.etherType s.params.udpPort (s.portVids port) with
        | none => s.event bWEIR 13 port
        | some k =>
          let b : RxBuf := { id := p.nextBuf, kind := k, frame := f, arrival := s.time.tick, handled := false, todoA := [],
                             todoB := [], waitA := 0, waitB := 0 }
          (s.setPort port { p with buffers := p.buffers ++ [b], nextBuf := p.nextBuf + 1 }).pauseTx port false)

/-- The oldest buffer of a kind that waits to be handled. -/
def Port.oldest (p : Port) (kind : Nat → Bool) : Option RxBuf := p.buffers.find? (fun b => !b.handled && kind b.kind)

/-- A buffer is released. -/
def State.dropBuffer (s : State) (port id : Nat) : State :=
  let p := s.port port
  (s.setPort port { p with buffers := p.buffers.filter (fun b => b.id != id) }).pauseTx port false

/-- The reply to an ARP request for the port's address (R234). -/
def arpReply (mac ip : Nat) (f : RxParsed) : Option (List Byte) :=
  let a := f.payload
  if ip ≠ 0 ∧ beAt a 0 2 = 1 ∧ beAt a 2 2 = 0x0800 ∧ beAt a 4 2 = 0x0604 ∧ beAt a 6 2 = 1 ∧ beAt a 24 4 = ip ∧ 28 ≤ a.length then
    let sha := beAt a 8 6
    some (padFrame (beBytes 6 sha ++ beBytes 6 mac ++
      tagBytes (f.tci.map (fun t => t % 4096 + t / 8192 * 8192)) ++ [0x08, 0x06, 0, 1, 8, 0, 6, 4, 0, 2] ++
      beBytes 6 mac ++ beBytes 4 ip ++ beBytes 6 sha ++ beBytes 4 (beAt a 14 4)))
  else none

/-- ARP_REQUEST: the oldest ARP frame of the port; at most four replies hold slots (R234, R240). -/
def execArpRequest (port : Nat) (s : State) : Host.Outcome State Fault Refusal :=
  .next (
    let p := s.port port
    match p.oldest (· == rxARP) with
    | none => s
    | some b =>
      if !s.weirOn then s
      else
        let s := s.dropBuffer port b.id
        match arpReply (s.portMac port) (s.params.port port).ip b.frame with
        | none => s
        | some bytes =>
          if !(s.port port).slotFree .arp then s.event bWEIR 17 port
          else s.queueFrame port { kind := .arp, bytes := bytes, conns := [], deadline := s.time.tick + tMS })

/-- PAUSE_FRAME: the oldest PAUSE frame of the port is counted, and honoured when PAUSE_RX is 1, capped at PAUSE_MAX. -/
def execPauseFrame (port : Nat) (s : State) : Host.Outcome State Fault Refusal :=
  .next (
    let p := s.port port
    match p.oldest (· == rxPAUSE) with
    | none => s
    | some b =>
      if !s.weirOn then s
      else
        let cfg := s.params.port port
        let s := (s.dropBuffer port b.id).event bWEIR 16 port
        if cfg.pauseRx = 0 then s
        else
          let ns := min (pauseNs cfg.mode (beAt b.frame.payload 2 2)) (1000 * cfg.pauseMax)
          let p := s.port port
          if p.wire.isSome then s.setPort port { p with pauseNext := some ns }
          else (s.setPort port { p with pause := if ns = 0 then none else some (s.nowNs + ns) }).startTx port)

/-- A kept frame taken out of its carriage: the Millrace bytes, what the UDP header says, and the source IPv4 address of a UDP frame. -/
def RxBuf.millrace (b : RxBuf) : List Byte × Option (Nat × Nat) × Option Nat :=
  let p := b.frame.payload
  if b.kind = rxUDP then
    let total := beAt p 2 2
    let len := beAt p 24 2
    if total = len + 20 ∧ 8 ≤ len ∧ total ≤ p.length then ((p.take total).drop 28, some (len - 8, p.length - total), some (beAt p 12 4))
    else ([], some (0, 0), some (beAt p 12 4))
  else (p, none, none)

/-- MILLRACE_FRAME: the header check of R205, then the descriptors of its PDUs go to both channels (R239). -/
def execMillraceFrame (port : Nat) (s : State) : Host.Outcome State Fault Refusal :=
  .next (
    let p := s.port port
    match p.oldest (fun k => k == rxMILL || k == rxUDP) with
    | none => s
    | some b =>
      if !s.weirOn then s
      else
        let (bs, udp, ip) := b.millrace
        if !millraceFrameOk bs b.frame.wire b.frame.tci.isSome udp then (s.dropBuffer port b.id).event bWEIR 11 port
        else
          let ds := (framePdus bs).map (fun pdu =>
            ({ ftype := leAt bs 0 1, gen := leAt bs 2 1, bytes := pdu, mac := b.frame.src, ip := ip, arrival := b.arrival,
               buffer := b.id, captured := false, tried := 0, triedAt := none } : Descriptor))
          let b' := { b with handled := true, todoA := ds, todoB := ds }
          (s.setPort port { p with buffers := p.buffers.map (fun x => if x.id = b.id then b' else x) }).copyDescriptors port)

/-- RX_PICKUP_TIMEOUT: the buffers that have waited 8 ticks are released, and their descriptors are lost to the channel that
missed them. -/
def execRxPickupTimeout (port : Nat) (s : State) : Host.Outcome State Fault Refusal :=
  .next (if !s.weirOn then s
    else
      let p := s.port port
      let late := (p.buffers.filter (fun b => b.handled && decide (b.arrival + 8 ≤ s.time.tick))).map (·.id)
      let s := s.setPort port { p with buffers := p.buffers.filter (fun b => !(b.id ∈ late)) }
      let keep := fun (d : Descriptor) => d.captured || !(d.buffer ∈ late)
      let s := (s.setWindow .a port ((s.window .a port).filter keep)).setWindow .b port ((s.window .b port).filter keep)
      let s := late.foldl (fun s _ => s.event bWEIR 15 port) s
      if late.isEmpty then s else s.pauseTx port false)

/-! ### Links -/

/-- LINK_DOWN (R243). -/
def execLinkDown (port : Nat) (s : State) : Host.Outcome State Fault Refusal :=
  .next (if s.weirOn && (s.port port).linkUp then s.dropLink port else s)

/-- The link of a port can come up: it has a mode, and the SerDes multiplier runs where the mode needs it (R376). -/
def State.linkPossible (s : State) (port : Nat) : Bool :=
  let m := (s.params.port port).mode
  s.weirOn && m != 0 && (m == 1 || s.clk.serdesLocked)

/-- LINK_UP (R243). -/
def execLinkUp (port : Nat) (s : State) : Host.Outcome State Fault Refusal :=
  .next (if s.linkPossible port then s.raiseLink port else s)

/-- MDIO_POLL: bit 2 of the PHY's register 1 is N0's link state (R399). -/
def execMdioPoll (linkBit : Bool) (s : State) : Host.Outcome State Fault Refusal :=
  .next (if !s.weirOn ∨ (s.params.port 0).mode = 0 then s
    else if linkBit then (if s.linkPossible 0 then s.raiseLink 0 else s)
    else if (s.port 0).linkUp then s.dropLink 0 else s)

/-- SERDES_LOCK_LOSS: the links that use the multiplier drop, whatever the main PLL does (R376). -/
def execSerdesLockLoss (s : State) : Host.Outcome State Fault Refusal :=
  .next (if !s.clk.pllLocked && !s.clk.serdesLocked then s
    else
      let s : State := { s with clk := { s.clk with serdesLocked := false } }
      let s := s.raise bCLK 3 0 whoDev
      [0, 1, 2].foldl (fun s k => if (s.port k).linkUp && 2 ≤ (s.params.port k).mode then s.dropLink k else s) s)

/-- SERDES_LOCK_REGAINED (R376). -/
def execSerdesLockRegained (s : State) : Host.Outcome State Fault Refusal :=
  .next (if !s.clk.pllLocked ∨ s.clk.serdesLocked then s
    else ({ s with clk := { s.clk with serdesLocked := true } } : State).clear bCLK 3 0 whoDev)

/-! ### The port unit slice (R342, R244) -/

/-- PORT_UNIT_SLICE: 64 frames through the loop-back of N1 or N2, the verdict, and the restart of the link. One that its run
conditions forbid is counted as skipped, and one whose port a cell or connection uses by now is answered UNIT_IN_USE (R244, R341). -/
def execPortUnitSlice (port goodFrames : Nat) (signature expected : Word) (s : State) : Host.Outcome State Fault Refusal :=
  .next (
    let u := unitNo 2 port
    if port = 0 ∨ !s.portSliceDue port then s
    else if !s.weirOn ∨ (s.params.port port).mode = 0 then
      (if s.unitAsked 2 port then (s.countSkip u).unitAnswer 2 port 3 0 0 else s)
    else if s.unitInUse 2 port then s.refuseInUse 2 port
    else
      let s : State := { s with rif := { s.rif with unitsDone := if s.dev.st = .verify then setMem s.rif.unitsDone u else s.rif.unitsDone } }
      if !s.sliceMayRun none then
        (s.countSkip u).unitAnswer 2 port 3 0 0
      else
        let pass := goodFrames == 64 && signature == expected
        let s := s.unitResult u (if pass then 0 else 1)
        let s := if pass then s else s.markUnusable u
        (s.restartPort port).unitAnswer 2 port (if pass then 0 else 1) signature.toNat expected.toNat)

end Sys2Proof.Machine
end

