-- ==== Sys2Proof/Machine/Millrace.lean ====
section
/-! DEFINITION. The connections' commands (09_millrace): each channel checks what it has captured by itself. -/

namespace Sys2Proof.Machine

/-! ### Captured descriptors -/

/-- The oldest captured descriptor of a frame type that this tick may still look at. -/
def State.captured (s : State) (sd : Side) (port : Nat) (ft : Nat → Bool) : Option Descriptor :=
  (s.window sd port).find? (fun d => d.captured && ft d.ftype && d.triedAt != some s.time.tick)

/-- Change the first descriptor equal to `d`, or take it out. -/
def replaceFirst (d : Descriptor) (new : Option Descriptor) : List Descriptor → List Descriptor
  | [] => []
  | x :: xs => if x = d then (match new with
      | some y => y :: xs
      | none => xs) else x :: replaceFirst d new xs

def State.takeDescriptor (s : State) (sd : Side) (port : Nat) (d : Descriptor) : State :=
  s.setWindow sd port (replaceFirst d none (s.window sd port))

/-- Run a check on the oldest captured descriptor of a type, which it takes out of the window. -/
def State.onCaptured (s : State) (sd : Side) (port : Nat) (ft : Nat → Bool) (act : Descriptor → State → State) : State :=
  if !s.sideRuns sd || !s.dev.st.connects then s
  else match s.captured sd port ft with
    | none => s
    | some d => act d (s.takeDescriptor sd port d)

/-! ### DATA (R216, R218, R219, R230) -/

/-- A rejection by the channel's own CRC: the fourth within 1 s raises CRC_RATE and takes a connection in RUN to LOST (R219, row 12 of
Table 9.10). -/
def State.crcReject (s : State) (sd : Side) (n : Nat) : State :=
  let c := s.conn sd n
  let s := s.event bWEIR (match sd with
    | .a => 6
    | .b => 7) n
  let recent := c.rejects.filter (fun t => decide (s.time.tick < t + tSEC)) ++ [s.time.tick]
  if recent.length < 4 then s.setConn sd n { c with rejects := recent }
  else
    let s := (s.setConn sd n { c with rejects := [] }).event bWEIR 2 n
    if c.st = .run then s.connLose sd n else s

/-- An accepted DATA PDU: its data wait for the next latch (R134), and it restarts the watchdog, or brings RUN, when it passes the
echo check. -/
def State.dataAccepted (s : State) (sd : Side) (n d : Nat) (p : DataPdu) : State :=
  let c := s.conn sd n
  let e := s.connEntry n
  let before := if c.accepted = some s.time.tick then c.before else ({ run := c.st == .run, data := c.data, fsv := c.fsv } : ConnInput)
  let ok := echoOk c p e.period e.wd
  let s := s.setConn sd n { c with vr := c.vr + BitVec.ofNat 32 d, echoValid := true, data := BitVec.ofNat 64 p.data, fsv := p.fsv,
                                   accepted := some s.time.tick, before := before,
                                   wdStart := if ok then s.time.tick else c.wdStart }
  if ok && c.st == .opening && s.dev.st != .latched then s.connEnter sd n .run else s

/-- DATA_PDU_ACCEPT: the checks of Table 9.8 in order. -/
def execDataPduAccept (sd : Side) (port : Nat) (s : State) : Host.Outcome State Fault Refusal :=
  .next (s.onCaptured sd port (fun t => t == ftDATA1 || t == ftDATA2) (fun ds s =>
    let p := readData ds.gen ds.bytes
    let n := p.handle
    let inUse := decide (n ∈ s.connsInUse)
    let c := s.conn sd n
    let e := s.connEntry n
    match (if inUse && e.port == port && (c.st == .opening || c.st == .run) then c.session else none) with
    | none => s.event bWEIR 8 (if inUse then n else 0xFFFF)
    | some _ =>
      match s.dataStep sd n ds with
      | none => s.event bWEIR 8 n
      | some (x, d) =>
        if !s.dataCrcOk sd n ds x d then s.crcReject sd n
        else if !dataReservedOk ds.gen ds.bytes e.inBits then s.event bWEIR 5 n
        else s.dataAccepted sd n d p))

/-- A captured DATA PDU of the connection that fails the channel's own CRC. -/
def State.crcFails (s : State) (sd : Side) (n : Nat) (ds : Descriptor) : Bool :=
  match s.dataStep sd n ds with
  | none => false
  | some (x, d) => ds.captured && !s.dataCrcOk sd n ds x d

/-- CONN_WATCHDOG_EXPIRY (R218). The CRC failures captured in the same tick count for R219 with it (R230). -/
def execConnWatchdogExpiry (sd : Side) (n : Nat) (s : State) : Host.Outcome State Fault Refusal :=
  .next (
    if !s.connExpired sd n then s
    else
      let port := (s.connEntry n).port
      let bad := if s.sideRuns sd then (s.window sd port).filter (s.crcFails sd n) else []
      let s := bad.foldl (fun s d => (s.takeDescriptor sd port d).crcReject sd n) s
      if (s.conn sd n).st = .run then s.connLose sd n else s)

/-! ### ANNOUNCE (R208, rows 2 to 5) -/

/-- A matching ANNOUNCE at one connection. -/
def State.announceAt (s : State) (sd : Side) (equal : Bool) (gens : Nat) (n : Nat) : State :=
  let c := { s.conn sd n with heardAt := some s.time.tick, partnerGens := gens }
  let s := s.setConn sd n c
  let usable := !s.opener n || (s.openGen sd n).isSome
  if !equal then
    (if c.st = .absent ∨ c.st = .announced ∨ c.st = .lost ∨ c.st = .refused then s.connEnter sd n .mismatch else s)
  else match c.st with
    | .mismatch => s.connEnter sd n .announced
    | .refused => if usable then s.connEnter sd n .announced else s
    | .absent => if usable then s.connEnter sd n .announced else s.connEnter sd n .refused
    | .announced => if usable then s else s.connEnter sd n .refused
    | .lost => if usable then s.connEnter sd n .announced else s.connEnter sd n .refused
    | _ => s

/-- ANNOUNCE_RECEIVED: matched against the channel's own partner table; reserved bits that are not 0 leave it unmatched, and so does a
GEN other than 0 (log 105). -/
def execAnnounceReceived (sd : Side) (port : Nat) (s : State) : Host.Outcome State Fault Refusal :=
  .next (s.onCaptured sd port (· == ftANNOUNCE) (fun ds s =>
    let identity := leAt ds.bytes 0 8
    let gens := leAt ds.bytes 12 1
    let mine := s.connsInUse.filter (fun n => (s.partnerOf n).inUse && (s.partnerOf n).identity == identity)
    let parts := (s.runCont.partners ++ s.nextCont.partners).filter (fun p => p.inUse && p.identity == identity)
    if gens / 4 ≠ 0 ∨ leAt ds.bytes 13 3 ≠ 0 ∨ ds.gen ≠ 0 then s
    else if parts.isEmpty then (s.seeUnknown sd identity port).event bWEIR 9 (identity % 65536)
    else
      let here := mine.filter (fun n => (s.connEntry n).port == port)
      let s := ((here.map (fun n => (s.connEntry n).partner)).eraseDups).foldl (fun s p => s.learn sd p port ds.mac ds.ip) s
      here.foldl (fun s n => s.announceAt sd ((s.partnerOf n).check == (ds.bytes.drop 8).take 4) gens n) s))

/-- ANNOUNCE_TIMEOUT (row 13), while connections run (R227). -/
def execAnnounceTimeout (sd : Side) (n : Nat) (s : State) : Host.Outcome State Fault Refusal :=
  .next (
    let c := s.conn sd n
    let waiting := c.st == .announced || c.st == .mismatch || c.st == .refused
    if s.dev.st.connects && waiting && decide (c.heardAt.getD c.since + 6000 ≤ s.time.tick) then s.connEnter sd n .absent else s)

/-! ### Opening (R220 to R225) -/

/-- The tick in which a control PDU written now is sent: this one until WEIR has assembled it, else the next. -/
def State.sendTick (s : State) : Nat := if s.weir.txTick = some s.time.tick then s.time.tick + 1 else s.time.tick

/-- OPEN_SEND (row 6): the opener leaves ANNOUNCED at the next tick; without a usable generation it refuses. -/
def execOpenSend (sd : Side) (n : Nat) (s : State) : Host.Outcome State Fault Refusal :=
  .next (
    let c := s.conn sd n
    if c.st ≠ .announced ∨ !s.opener n ∨ !s.dev.st.opens ∨ !s.sideRuns sd ∨ s.time.tick ≤ c.since ∨ n ∉ s.connsInUse then s
    else match s.openGen sd n with
      | none => s.connEnter sd n .refused
      | some g =>
        let e := s.connEntry n
        let t := s.sendTick
        let d : DueControl := { ftype := ftOPEN, gen := g, handle := 0xFFFF, nO := s.nonce t, nR := 0, bitsO := e.outBits,
                                bitsR := e.inBits, period := e.period, reason := 0, at_ := t }
        (s.setConn sd n { c with due := some d, pendingOpen := some ⟨s.nonce t, g⟩, sentAt := t, session := none }).connEnter sd n .opening)

/-- The reason to refuse an OPEN, if any (Table 9.11). -/
def State.refuseReason (s : State) (sd : Side) (n gen : Nat) (p : CtlPdu) : Option Nat :=
  let e := s.connEntry n
  let q := s.partnerOf n
  if !(if gen = 1 then e.m1 && q.m1 else e.m2 && q.m2) then some 1
  else if gen = 1 ∧ (32 < p.bitsO ∨ 32 < p.bitsR) then some 2
  else if p.bitsO ≠ e.inBits ∨ p.bitsR ≠ e.outBits then some 3
  else if p.period ≠ e.period then some 4
  else if (s.conn sd n).st = .mismatch then some 5
  else if !s.dev.st.opens then some 6
  else none

/-- An accepted OPEN at the responder (R224, rows 7 and 8). From RUN, the cells that read the connection still see one latch of
safe values. -/
def State.openAccepted (s : State) (sd : Side) (n port : Nat) (ds : Descriptor) (p : CtlPdu) : State :=
  let e := s.connEntry n
  let s := s.learn sd e.partner port ds.mac ds.ip
  let c := s.conn sd n
  let t := s.time.tick + 1
  let d : DueControl := { ftype := ftREFUSE, gen := ds.gen, handle := p.sender, nO := BitVec.ofNat 32 p.nO, nR := 0, bitsO := p.bitsO,
                          bitsR := p.bitsR, period := p.period, reason := 0, at_ := t }
  match s.refuseReason sd n ds.gen p with
  | some r => (s.setConn sd n { c with due := some { d with reason := r }, reason := r }).connEnter sd n .refused
  | none =>
    let x : Session := { nO := BitVec.ofNat 32 p.nO, nR := s.nonce t, gen := ds.gen, handle := p.sender, opener := false }
    let lost := if c.st = .run then s.cellsInUse.filter (fun m => decide (n ∈ (s.cellCont m).depConns m)) else c.lostFor
    let c := { c.startSession x with due := some { d with ftype := ftACK, nR := s.nonce t }, sentAt := t, lostFor := lost }
    (s.setConn sd n c).connEnter sd n .opening

/-- A control PDU that a channel's own CRC verifies for a connection. -/
def State.ctlCrcOk (s : State) (sd : Side) (n : Nat) (fromOpener : Bool) (ds : Descriptor) : Bool :=
  ownCrcOk ds.gen (sd == .a) (ctlPrefix (s.connEntry n).uid fromOpener) 28 ds.bytes

/-- What a channel may still check of its 64 entries of this tick (R224). -/
def State.searchLeft (s : State) (sd : Side) : Nat :=
  let x := match sd with
    | .a => s.weir.searchA
    | .b => s.weir.searchB
  if x.tick = s.time.tick then 64 - x.count else 64

/-- A channel has checked entries in this tick. -/
def State.searchTook (s : State) (sd : Side) (count : Nat) : State :=
  let x : OpenSearch := ⟨s.time.tick, 64 - s.searchLeft sd + count⟩
  match sd with
  | .a => { s with weir := { s.weir with searchA := x } }
  | .b => { s with weir := { s.weir with searchB := x } }

/-- OPEN_RECEIVED: a channel checks at most 64 entries in a tick, for whatever OPENs; the search goes on in the next. -/
def execOpenReceived (sd : Side) (port : Nat) (s : State) : Host.Outcome State Fault Refusal :=
  .next (s.onCaptured sd port (· == ftOPEN) (fun ds s =>
    let p := readCtl ds.bytes
    let all := s.connsInUse.filter (fun n => (s.connEntry n).port == port && (s.partnerOf n).identity == p.senderId && !s.opener n)
    let now := (all.drop ds.tried).take (s.searchLeft sd)
    if !ctlReservedOk ftOPEN ds.bytes then s
    else match now.find? (fun n => s.ctlCrcOk sd n true ds) with
      | some n =>
        let s := s.searchTook sd (now.idxOf n + 1)
        if openFrom (s.conn sd n).st (s.opener n) then s.openAccepted sd n port ds p else s
      | none =>
        let s := s.searchTook sd now.length
        if all.length ≤ ds.tried + now.length then s
        else s.setWindow sd port (s.window sd port ++ [{ ds with tried := ds.tried + now.length, triedAt := some s.time.tick }])))

/-- The opener's connection that an answer names, when it matches the pending OPEN (R224). -/
def State.answered (s : State) (sd : Side) (port : Nat) (ds : Descriptor) (p : CtlPdu) : Option Nat :=
  let n := p.handle
  let c := s.conn sd n
  match c.pendingOpen with
  | some o =>
    if n ∈ s.connsInUse ∧ c.st = .opening ∧ c.session = none ∧ (s.connEntry n).port = port ∧ (s.partnerOf n).identity = p.senderId ∧
        o.nO = BitVec.ofNat 32 p.nO ∧ o.gen = ds.gen ∧ s.ctlCrcOk sd n false ds then some n else none
  | none => none

/-- OPEN_ACK_RECEIVED: the session starts (R224). -/
def execOpenAckReceived (sd : Side) (port : Nat) (s : State) : Host.Outcome State Fault Refusal :=
  .next (s.onCaptured sd port (· == ftACK) (fun ds s =>
    let p := readCtl ds.bytes
    match (if ctlReservedOk ftACK ds.bytes then s.answered sd port ds p else none) with
    | none => s
    | some n =>
      let s := s.learn sd (s.connEntry n).partner port ds.mac ds.ip
      let x : Session := { nO := BitVec.ofNat 32 p.nO, nR := BitVec.ofNat 32 p.nR, gen := ds.gen, handle := p.sender, opener := true }
      s.setConn sd n { (s.conn sd n).startSession x with pendingOpen := none }))

/-- REFUSE_RECEIVED (row 10). -/
def execRefuseReceived (sd : Side) (port : Nat) (s : State) : Host.Outcome State Fault Refusal :=
  .next (s.onCaptured sd port (· == ftREFUSE) (fun ds s =>
    let p := readCtl ds.bytes
    match (if ctlReservedOk ftREFUSE ds.bytes then s.answered sd port ds p else none) with
    | none => s
    | some n =>
      let s := s.learn sd (s.connEntry n).partner port ds.mac ds.ip
      (s.setConn sd n { s.conn sd n with reason := p.reason, due := none }).connEnter sd n .refused))

/-- OPENING_TIMEOUT (row 11): 100 ms since OPEN or OPEN_ACK was sent, while connections run (R227). -/
def execOpeningTimeout (sd : Side) (n : Nat) (s : State) : Host.Outcome State Fault Refusal :=
  .next (
    let c := s.conn sd n
    if s.dev.st.connects ∧ c.st = .opening ∧ c.sentAt + 2000 ≤ s.time.tick then s.connEnter sd n .announced else s)

end Sys2Proof.Machine
end

