-- ==== Sys2Proof/Machine/Oxbow.lean ====
section
/-! DEFINITION. Oxbow's commands (14_oxbow) and its mailbox services (R326). -/

namespace Sys2Proof.Machine

/-- RECORD_CLOSE: the window of an open record has reached its interval (R314). -/
def execRecordClose (code inst : Nat) (s : State) : Host.Outcome State Fault Refusal :=
  .next (match s.openRec code inst with
    | none => s
    | some o => if o.rcd.start + o.interval ≤ s.pwr.opSeconds then s.closeRecord o 0 else s)

/-- FLUSH_START: the flush of the strongest waiting trigger (R318). -/
def execFlushStart (s : State) : Host.Outcome State Fault Refusal :=
  .next (if !s.oxbRuns || s.oxb.running.isSome then s
    else match s.oxb.trigger with
      | none => s
      | some k => s.startFlush k)

/-- FLUSH_DEFERRED: the delay of the one-per-second spacing has ended (Table 14.8). -/
def execFlushDeferred (s : State) : Host.Outcome State Fault Refusal :=
  .next (match s.oxb.deferredAt with
    | none => s
    | some t =>
      if !s.oxbRuns || s.oxb.running.isSome || decide (s.time.tick < t) then s
      else
        let k := s.oxb.trigger.getD .routine
        { s with oxb := { s.oxb with deferredAt := none } }.startFlush k)

/-- FLUSH_HOURLY: every 3,600 operating seconds from the mount. -/
def execFlushHourly (s : State) : Host.Outcome State Fault Refusal :=
  .next (if !s.oxbRuns ∨ s.pwr.opSeconds < s.oxb.hourlyFrom + 3600 then s
    else
      let s : State := { s with oxb := { s.oxb with hourlyFrom := s.oxb.hourlyFrom + 3600 } }
      if s.oxb.running.isSome then s.flushTrigger .routine else s.startFlush (s.oxb.trigger.getD .routine))

/-- FLUSH_DONE: the flush ends (R318 to R320, R328); OXB_FLUSH is answered with the records it wrote. After the power-fail
sequence Oxbow stops when the domains were shed, and resumes once the warning is over (R372). -/
def execFlushDone (r : FlushReport) (s : State) : Host.Outcome State Fault Refusal :=
  .next (match s.oxb.running with
    | none => s
    | some k =>
      let failed := s.oxb.storeFail.isSome
      let s := (s.takeDamage r.damage).verifyFailures r.verifyFailed
      let s := if r.controllerFailed then s.storeFails 0x10 else s
      let s := s.endFlush k (if failed then 0 else r.verified)
      let s := if k = .powerFail then
          (if s.pwr.shed then { s with pwr := { s.pwr with shedDone := true } }
           else if s.pwr.warning.isSome then s
           else { s with oxb := { s.oxb with frozen := false } })
        else s
      if k = .routine ∨ s.oxb.trigger = some .full then s
      else (s.answer .oxbFlush stOK (leBytes 4 s.oxb.flushed)).settle)

/-- TL_RETRY: every 60 s while the TL word is not programmed (R328). -/
def execTlRetry (s : State) : Host.Outcome State Fault Refusal :=
  .next (if s.oxb.tlPending && decide (s.oxb.tlTriedAt + 60 * tSEC ≤ s.time.tick) then s.askTl else s)

/-- Oxbow writes the triple copies each second (R325): it is mounted, or the ROM kind of MAINTENANCE has read them, and it has not
stopped at the end of the power-fail sequence (R320). -/
def State.copiesRun (s : State) : Bool :=
  s.on 11 && s.clocked && (s.oxb.mounted || (s.dev.st == .maintenance && s.host.rom)) && !s.oxb.stopped

/-- OPERATING_SECOND: the count advances with saturation, and the copies follow (R325). -/
def execOperatingSecond (s : State) : Host.Outcome State Fault Refusal :=
  .next (if s.dev.st = .off ∨ !s.dev.released then s
    else
      let s : State := { s with
        pwr := { s.pwr with opSeconds := min 0xFFFFFFFF (s.pwr.opSeconds + 1), sinceRelease := s.pwr.sinceRelease + 1 },
        rif := if s.dev.st = .run ∨ s.dev.st = .safe then { s.rif with clock := s.rif.clock + 1 } else s.rif }
      let s := [2, 3, 4, 5].foldl (fun s p => s.setPair p (s.pair p).endSecond) s
      if s.copiesRun then s.writeCopies else s)

/-! ### Services -/

/-- OXB_INFO. -/
def execOxbInfo (s : State) : Host.Outcome State Fault Refusal :=
  .next (s.serve 0x80 (lenIs 0) (fun r s =>
    let m := s.oxb.mram
    let nothing := (List.range 4).map (fun k => byte (Config.freeNat (s.free + k)))
    let range := fun (n cap old new : Nat) =>
      leBytes 4 n ++ leBytes 4 cap ++ (if n = 0 then nothing ++ nothing else leBytes 4 old ++ leBytes 4 new)
    let firstNew := m.first.foldl (fun _ e => e.1) 0
    let firstOld := (m.first.head?.map (·.1)).getD 0
    let body := range m.first.length firstSlots firstOld firstNew ++
      range m.tail.length tailSlots m.oldest ((m.nextSeq + 2 ^ 32 - 1) % 2 ^ 32) ++
      leBytes 4 m.totals.length ++ leBytes 4 totSlots ++ leBytes 4 0 ++
      (match m.totHigh with
       | some h => leBytes 4 h
       | none => nothing)
    { s with free := s.free + 4 }.respond r stOK (body ++ leBytes 4 s.dirtyBytes)))

/-- The records OXB_READ returns (R326, R329): area 3 is the dirty queue oldest first, then the open records as snapshots. -/
def State.oxbRecords (s : State) (area first count : Nat) : List OxbRec :=
  let m := s.oxb.mram
  if area = 3 then
    if s.host.rom && s.dev.st == .maintenance then []
    else
      let snap := s.oxb.openRecs.map (fun o =>
        { o.rcd with flags := o.rcd.flags ||| fgOPEN, stop := s.pwr.opSeconds, cycles := s.pwr.powerCycles })
      ((s.oxb.inFlight ++ s.oxb.dirty ++ snap).drop first).take count
  else if s.oxb.storeFail = some 0x10 then []
  else if area = 0 then (List.range count).filterMap (fun k => m.first.get? (first + k))
  else if area = 1 then m.tailFrom first count
  else (List.range count).filterMap (fun k => (m.totals.get? (first + k)).bind TotEntry.shown)

/-- What OXB_READ reads back from MRAM (R311): of Totals both copies of each entry. -/
def State.oxbReadBack (s : State) (area first count : Nat) : State :=
  if area = 3 ∨ s.oxb.storeFail = some 0x10 then s
  else if area = 2 then
    s.readBack 2 ((List.range count).flatMap (fun k => (s.oxb.mram.totals.getD (first + k) {}).broken))
  else s.readBack area (s.oxbRecords area first count)

/-- OXB_READ: `damage` are the places of MRAM that return other bytes than were written. -/
def execOxbRead (damage : List RecordDamage) (s : State) : Host.Outcome State Fault Refusal :=
  .next (s.serve 0x81
    (fun r => lenIs 12 r && decide (leAt r.payload 0 1 < 4) && allZero ((r.payload.drop 1).take 3) &&
      (decide (leAt r.payload 0 1 ≠ 0) || decide (leAt r.payload 4 4 < firstSlots)) &&
      decide (1 ≤ leAt r.payload 8 4) && decide (leAt r.payload 8 4 ≤ 63))
    (fun r s =>
      let s := s.takeDamage damage
      let rs := s.oxbRecords (leAt r.payload 0 1) (leAt r.payload 4 4) (leAt r.payload 8 4)
      let s := s.oxbReadBack (leAt r.payload 0 1) (leAt r.payload 4 4) (leAt r.payload 8 4)
      s.respond r stOK (leBytes 4 rs.length ++ zeros 4 ++ rs.flatMap OxbRec.bytes)))

/-- OXB_FLUSH: answered when the full flush ends. -/
def execOxbFlush (s : State) : Host.Outcome State Fault Refusal :=
  .next (s.serve 0x82 (lenIs 0) (fun r s => (s.wait r .oxbFlush).flushTrigger .full))

/-- OPTIME. -/
def execOptime (s : State) : Host.Outcome State Fault Refusal :=
  .next (s.serve 0xD0 (lenIs 0) (fun r s => s.respond r stOK (leBytes 4 s.pwr.opSeconds ++ leBytes 4 s.pwr.powerCycles)))

end Sys2Proof.Machine
end

