-- ==== Sys2Proof/Machine/Power.lean ====
section
/-! DEFINITION. Commands of the supplies, reset, clocks and the error pair (02, 13, 17). -/

namespace Sys2Proof.Machine

/-- POWER_ON: VSUP rises through VBOR (Table 17.3 steps 1 and 2): the device is in RESET with only PD0 on, and PWR has measured
VSUP and enabled or disabled the VPFW comparator (R370). From RESET it is the measurement of step 2, once. -/
def execPowerOn (vsupMv : Nat) (s : State) : Host.Outcome State Fault Refusal :=
  .next (
    let measured := fun (s : State) =>
      ({ s with pwr := { s.pwr with vsup := vsupMv, vpfwEnabled := decide (s.params.vpfw + 150 ≤ vsupMv) } } : State)
    if vsupMv < 1600 then s
    else if s.dev.st = .off then
      measured { s with dev := {}, pwr := { s.pwr with domains := [0], resetCause := 0 } }
    else if s.dev.st = .reset ∧ !s.dev.released ∧ s.pwr.vsup = 0 then measured s
    else s)

/-- VSUP_BROWNOUT: OFF from any state; the latch is cleared (row 1). -/
def execVsupBrownout (s : State) : Host.Outcome State Fault Refusal :=
  .next (if s.dev.st = .off then s else s.powerLost)

/-- RESET_N is held low: an EXTEST that is selected takes the lands (R391). -/
def State.holdReset (s : State) : State :=
  { s with pwr := { s.pwr with resetNLow := true }, jtag := { s.jtag with driving := decide (s.jtag.ir = 0) } }

/-- RESET_N_LOW: RESET from any powered state; while a power-on still waits for its release the cause stays power-on. -/
def execResetNLow (s : State) : Host.Outcome State Fault Refusal :=
  .next (if s.dev.st = .off then { s with pwr := { s.pwr with resetNLow := true } }
    else if s.dev.st = .reset ∧ !s.dev.released then s.holdReset
    else (s.chipReset 1).holdReset)

/-- FT counts as programmed while the factory-lock word is programmed (Table 16.2). -/
def State.ftProgrammed (s : State) : Bool := (s.ros.fuses.getD 3648 {}).prog

/-- RESET_RELEASE: steps 1 and 2 of Table 2.4, FACTORY_TEST under row 5 unless the latch is set (row 4 and R48), the strap source of R49.
EXTEST gives way to BYPASS before release (R391). -/
def execResetRelease (testmode pllLocked : Bool) (ratioDev : Int) (s : State) : Host.Outcome State Fault Refusal :=
  .next (if s.dev.st ≠ .reset ∨ s.dev.released then s
    else
      let s : State := { s with
        jtag := if s.pwr.resetNLow ∧ s.jtag.ir = 0 then { s.jtag with ir := 0xFF, dr := 0, driving := false } else s.jtag,
        pwr := { s.pwr with resetNLow := false, testmode := testmode, opSeconds := 0, sinceRelease := 0 },
        dev := { s.dev with released := true } }
      if testmode ∧ !s.ftProgrammed ∧ !s.pwr.latch then
        let s : State := { s with clk := { s.clk with pllLocked := pllLocked, gated := false, ratioDev := ratioDev } }
        s.enter .factoryTest 0
      else
        let s := s.condition bPWR 1 0 whoDev (testmode && s.ftProgrammed)
        s.clockCheck pllLocked ratioDev)

/-- HOLD_RETRY: in a clock hold the device retries every 10 ms (R38). -/
def execHoldRetry (pllLocked : Bool) (ratioDev : Int) (s : State) : Host.Outcome State Fault Refusal :=
  .next (if s.dev.st = .reset ∧ s.dev.released ∧ (s.dev.hold = 2 ∨ s.dev.hold = 3) then s.clockCheck pllLocked ratioDev else s)

/-- CRST_CHIP_RESET: after the flush of a CRST reaction (Table 13.4). -/
def execCrstChipReset (s : State) : Host.Outcome State Fault Refusal :=
  .next (if s.dev.crstPending && s.oxb.running.isNone && (!s.oxb.mounted || s.oxb.trigger != some .full) then s.chipReset 2
    else s)

/-! ### Power-fail warning (R370 to R372) -/

/-- PFAIL_WARNING: PFAIL occurs with the instance of the first to fire (R377); Oxbow freezes its table and starts its sequence
(Table 14.9). -/
def execPfailWarning (byPin : Bool) (s : State) : Host.Outcome State Fault Refusal :=
  .next (if s.dev.st = .off ∨ s.pwr.warning.isSome ∨ (!byPin ∧ !s.pwr.vpfwEnabled) then s
    else
      let inst := if byPin then 1 else 0
      let s : State := { s with pwr := { s.pwr with warning := some inst, pfailSeen := true } }
      let s := s.raise bPWR 0 inst whoDev
      if !s.oxbRuns then s
      else
        let s := match s.oxb.running with
          | none => s.startFlush .powerFail
          | some _ => s.flushTrigger .powerFail
        { s with oxb := { s.oxb with frozen := true, trigger := none, deferredAt := none } })

/-- DOMAIN_SHEDDING: the warning is still present after 20 µs. -/
def execDomainShedding (s : State) : Host.Outcome State Fault Refusal :=
  .next (if s.pwr.warning.isNone ∨ s.pwr.shed then s else s.shedDomains)

/-- The warning is over; one that a reset has interrupted is still live in PD0 (R292). -/
def State.warningOver (s : State) : State :=
  (({ s with pwr := { s.pwr with warning := none } } : State).clear bPWR 0 0 whoDev).clear bPWR 0 1 whoDev

/-- PFAIL_CLEAR: the warning clears before shedding; Oxbow resumes routine work when its sequence is at its end (R372). -/
def execPfailClear (s : State) : Host.Outcome State Fault Refusal :=
  .next (if s.pwr.shed then s
    else
      let s := s.warningOver
      if s.oxb.running = some .powerFail then s else { s with oxb := { s.oxb with frozen := false } })

/-- PFAIL_RECOVERY: after shedding and the end of Oxbow's sequence, PWR resets the chip; PFAIL_SEEN survives (R372). -/
def execPfailRecovery (s : State) : Host.Outcome State Fault Refusal :=
  .next (if s.pwr.shed ∧ s.pwr.shedDone then
      let t := s.warningOver.chipReset 2
      { t with pwr := { t.pwr with pfailSeen := s.pwr.pfailSeen } }
    else s)

/-! ### Rails and VSUP (R366) -/

/-- RAIL_FAULT. -/
def execRailFault (rail : Nat) (s : State) : Host.Outcome State Fault Refusal :=
  .next (if s.dev.st = .off ∨ 4 ≤ rail then s
    else { s with pwr := { s.pwr with railBad := setMem s.pwr.railBad rail } }.raise bPWR 3 rail whoDev)

/-- RAIL_RETURN. -/
def execRailReturn (rail : Nat) (s : State) : Host.Outcome State Fault Refusal :=
  .next ({ s with pwr := { s.pwr with railBad := setDel s.pwr.railBad rail } }.clear bPWR 3 rail whoDev)

/-- VSUP_HIGH. -/
def execVsupHigh (s : State) : Host.Outcome State Fault Refusal :=
  .next (if s.dev.st = .off then s
    else { s with pwr := { s.pwr with vsupHigh := true } }.raise bPWR 2 0 whoDev)

/-- VSUP_HIGH_END. -/
def execVsupHighEnd (s : State) : Host.Outcome State Fault Refusal :=
  .next ({ s with pwr := { s.pwr with vsupHigh := false } }.clear bPWR 2 0 whoDev)

/-! ### Clocks (R375, R376) -/

/-- PD0's part of a loss of lock: it sets the latch; in RESET the device holds for the lock again, and starts into LATCHED (R38, R376, log
109). -/
def State.lockLost (s : State) : State :=
  if s.dev.st = .reset then
    { s with pwr := { s.pwr with latch := true },
             dev := if s.dev.hold = 0 then { s.dev with hold := 2, holdRegion := 0, holdWord := 0 } else s.dev }
  else if s.dev.st = .factoryTest then s
  else { s with pwr := { s.pwr with latch := true } }

/-- PLL_LOCK_LOSS: the VCO clocks are gated, the latch is set; Oxbow stops, and after shedding its sequence is at its end (R376,
R377). -/
def execPllLockLoss (s : State) : Host.Outcome State Fault Refusal :=
  .next (if !s.clk.pllLocked then s
    else
      let s : State := { s with clk := { s.clk with pllLocked := false, gated := true } }
      let s := (s.raise bCLK 0 0 whoDev).lockLost
      let s := s.requeue (s.oxb.inFlight ++ s.oxb.dirty)
      { s with pwr := { s.pwr with shedDone := s.pwr.shedDone || s.pwr.shed } })

/-- The device is in operation: past RESET. -/
def State.operating (s : State) : Bool := s.dev.st != .off && s.dev.st != .reset

/-- A window outside ±5 %, and the count of windows outside ±2 %. -/
def State.judgeRatio (s : State) (outFive outTwo : Bool) : State :=
  if !s.operating then s
  else
    let s := s.condition bCLK 1 0 whoDev outFive
    if outTwo then
      let n := s.clk.outTwo + 1
      let s : State := { s with clk := { s.clk with outTwo := n } }
      if 2 ≤ n then s.raise bCLK 2 0 whoDev else s
    else { s with clk := { s.clk with outTwo := 0 } }.clear bCLK 2 0 whoDev

/-- RATIO_WINDOW_END: the deviation in units of 0.01 % (R375). -/
def execRatioWindowEnd (count : Nat) (s : State) : Host.Outcome State Fault Refusal :=
  .next (
    let d : Int := ((count : Int) - 400000) / 40
    let e : Int := (count : Int) - 400000
    let s : State := { s with clk := { s.clk with ratioDev := max (-32768) (min 32767 d) } }
    s.judgeRatio (decide (e < -20000) || decide (20000 < e)) (decide (e < -8000) || decide (8000 < e)))

/-- RATIO_WINDOW_TIMEOUT: a window that has not ended in time counts as outside ±5 % (R375). -/
def execRatioWindowTimeout (s : State) : Host.Outcome State Fault Refusal :=
  .next (s.judgeRatio true true)

/-! ### Fault liveness and the error pair (R291, R301 to R303, R361) -/

/-- EVENT_LIVE_EXPIRY: at the second tick edge after the latest event (R291). -/
def execEventLiveExpiry (block index inst : Nat) (s : State) : Host.Outcome State Fault Refusal :=
  .next (match s.faults.live.find? (fun l => l.block == block && l.index == index && l.inst == inst) with
    | none => s
    | some l =>
      match sourceOf block index with
      | none => s
      | some src => if !src.cond && decide (l.last + 2 ≤ s.time.tick) then (s.fall l).purgeHolds else s)

/-- ERRP_TOGGLE: the healthy pair in dynamic mode (R302). -/
def execErrpToggle (s : State) : Host.Outcome State Fault Refusal :=
  .next (if s.errpDynamic && !s.errpAsserted then { s with pwr := { s.pwr with errpPhase := !s.pwr.errpPhase } } else s)

/-- ERRP_READBACK_CHECK: a land has differed from its commanded level for more than 10 µs, or is seen right again. -/
def execErrpReadbackCheck (land : Nat) (differs : Bool) (s : State) : Host.Outcome State Fault Refusal :=
  .next (if s.dev.st = .off ∨ 2 ≤ land then s else s.condition bPWR 5 land whoDev differs)

/-- HOLD_PATTERN_FRAME: in a RESET hold the frame of n pulses repeats every 2 s; `ms` is how far MON_OSC stands in it (R361). -/
def execHoldPatternFrame (ms : Nat) (s : State) : Host.Outcome State Fault Refusal :=
  .next (if s.dev.st = .reset ∧ s.dev.hold ≠ 0 then { s with pwr := { s.pwr with holdPhase := some (ms % 2000) } } else s)

/-! ### JTAG (R362, R390, R391) -/

/-- The hold-reason register (R362). -/
def State.holdRegister (s : State) : Word :=
  if s.dev.hold = 0 then 0
  else BitVec.ofNat 32 (s.dev.hold * 2 ^ 28 + s.dev.holdRegion * 2 ^ 24 + s.dev.holdWord * 2 ^ 12)

/-- The instruction that a code selects (Table 18.9): BYPASS for a code that is not listed, and with JTAG_LOCK for the scan and debug
instructions. -/
def State.tapCode (s : State) (code : Nat) : Nat :=
  if code ∉ [0x00, 0x01, 0x02, 0x10, 0x20] then 0xFF
  else if s.ros.jtagLocked && decide (code ∈ [0x00, 0x01, 0x20]) then 0xFF
  else code

/-- Select an instruction and its data register. -/
def State.selectIr (s : State) (code : Nat) (dr : Word) : State :=
  if s.dev.st = .off then s
  else
    let c := s.tapCode code
    { s with jtag := { s.jtag with ir := c, dr := if c = 0xFF then 0 else dr, driving := decide (c = 0) && s.pwr.resetNLow } }

/-- A data register whose contents the spec does not state: the debug port. -/
def State.freeDr (s : State) : Word := BitVec.ofNat 32 (Config.freeNat s.free)

/-- A land of the chain at a level. -/
def setLand (v : BitVec 36) (i : Nat) (high : Bool) : BitVec 36 :=
  if high then v ||| BitVec.ofNat 36 (2 ^ i) else v &&& ~~~ BitVec.ofNat 36 (2 ^ i)

/-- What the boundary scan captures of its 36 lands, in the order of Table 18.2 (log 110): IRQ_N, RESET_N, ERR_P and ERR_N are at the levels
the model holds; those of the others come from the board and from clocked buses, and are free. -/
def State.landLevels (s : State) : BitVec 36 :=
  let v := BitVec.ofNat 36 (Config.freeNat s.free)
  setLand (setLand (setLand (setLand v 19 (!s.irqLow)) 20 (!s.pwr.resetNLow)) 22 s.errpLevels.1) 23 s.errpLevels.2

/-- A scan through the boundary-scan chain: the lands are captured, and what is shifted in is preloaded for them. -/
def State.boundaryScan (s : State) (code : Nat) (scanIn : BitVec 36) : State :=
  let t := { s with free := s.free + 1 }.selectIr code 0
  if s.dev.st ≠ .off ∧ t.jtag.ir = code then { t with jtag := { t.jtag with chain := s.landLevels, preload := scanIn } } else t

/-- EXTEST: drives the lands only while RESET_N is held low; at any other time it acts as SAMPLE/PRELOAD (R391). -/
def execExtest (scanIn : BitVec 36) (s : State) : Host.Outcome State Fault Refusal := .next (s.boundaryScan 0x00 scanIn)

/-- SAMPLE_PRELOAD. -/
def execSamplePreload (scanIn : BitVec 36) (s : State) : Host.Outcome State Fault Refusal := .next (s.boundaryScan 0x01 scanIn)

/-- IDCODE. -/
def execIdcode (s : State) : Host.Outcome State Fault Refusal := .next (s.selectIr 0x02 0x19640E4B)

/-- HOLD_REASON: read in RESET, and in every state with JTAG_LOCK (R362); elsewhere its value is open. -/
def execHoldReason (s : State) : Host.Outcome State Fault Refusal :=
  .next ({ s with free := s.free + 1 }.selectIr 0x10
    (if s.dev.st == DevState.reset || s.ros.jtagLocked then s.holdRegister else s.freeDr))

/-- DEBUG: the debug port; in FACTORY_TEST the factory injects faults through it (R304, log 101). -/
def execDebug (inject : List Injection) (s : State) : Host.Outcome State Fault Refusal :=
  .next (
    let t := { s with free := s.free + 1 }.selectIr 0x20 s.freeDr
    if t.jtag.ir = 0x20 then inject.foldl (fun s i => s.inject i.block i.index i.inst) t else t)

/-- BYPASS: code 0xFF, or one that Table 18.9 does not list (R390); a listed code has its own command. -/
def execBypass (code : Nat) (s : State) : Host.Outcome State Fault Refusal :=
  .next (if code ∈ [0x00, 0x01, 0x02, 0x10, 0x20] then s else s.selectIr code 0)

/-- TAP_RESET selects IDCODE. -/
def execTapReset (s : State) : Host.Outcome State Fault Refusal :=
  .next (if s.dev.st = .off then s else { s with jtag := { s.jtag with ir := 0x02, dr := 0x19640E4B, driving := false } })

end Sys2Proof.Machine
end

