-- ==== Sys2Proof/Machine/Pulses.lean ====
section
/-! DEFINITION. Test pulses: their start, the verdict at the evaluation sample, and the foreign-pulse test at the post-sample
(04: R88 to R98, R102). -/

namespace Sys2Proof.Machine

/-- The samples of all 64 channels as this side saw them last. -/
def State.samples (s : State) (sd : Side) : List Seen := (List.range 64).map (fun c => (s.view sd c).lastSample)

/-- A sample of this tick that no lockout, loss of synchronisation or absent frame touches (R91). -/
def Seen.clean (x : Seen) (tick : Nat) : Bool := x.valid && x.at_ == tick && x.synced && !x.lockout

/-- PULSE_SLOT_START: after the frames of slot 0 of the slot's first tick, each channel takes its pre-sample and decides whether
it makes its side's pulse (R88, R89). -/
def execPulseSlotStart (h : Nat) (s : State) : Host.Outcome State Fault Refusal :=
  .next (
    let e := s.pulseEntry h
    match s.baseFrame with
    | none => s
    | some (f, _) =>
      if s.holderOf h ≠ h ∨ s.pulseOffset h ≠ some 0 ∨ s.time.slotInTick ≠ 1 then s
      else
        let p := f / max e.period 1
        let both := s.reqOn .a h && s.reqOn .b h
        let one := fun (s : State) (sd : Side) =>
          let mine := e.mode == mTEST_SRC || p % 2 == Side.ix sd
          let run : PulseRun :=
            { start := s.time.tick, number := p, mode := e.mode, widthUs := e.widthUs, own := mine && s.reqOn sd h, req0 := s.reqOn sd h, reqOk := both,
              pre := s.samples sd, eval := [], evalDone := false, judged := false }
          s.setView sd h { s.view sd h with pulse := some run }
        one (one s .a) .b)

/-- The switches that a pulse opens: A-side, B-side or both (Table 4.4). -/
def pulseOpens (mode number : Nat) : Bool × Bool :=
  if mode = mTEST_SRC then (true, true) else if number % 2 = 0 then (true, false) else (false, true)

/-- The first output whose current rose while the holder pulsed (R96). -/
def State.currentPartner (s : State) (h : Nat) (pre eval : List Seen) : Option Nat :=
  (List.range 64).find? (fun y =>
    let a := pre.getD y {}
    let b := eval.getD y {}
    y != h && (s.chanEntry y).drives && a.valid && b.valid && a.swa && a.swb && b.swa && b.swb &&
      decide (a.icode + 2 ≤ b.icode))

/-- The verdict of a judged pulse, row by row (Table 4.5), and whether it passes. An OUT_PAIR is one holder under its lead: the sample
of the lead alone is mapped (log 36). -/
def State.pulseVerdict (s : State) (sd : Side) (h : Nat) (r : PulseRun) (eval : List Seen) : State × Bool :=
  let who := Side.bit sd
  let b := fgBlock (h / 16)
  let (opA, opB) := pulseOpens r.mode r.number
  let x := eval.getD h {}
  let holdA := fun (s : State) => (s.setView sd h { s.view sd h with swaHeld := true }).raise b 1 h who
  let holdB := fun (s : State) => (s.setView sd h { s.view sd h with swbHeld := true }).raise b 2 h who
  if x.swa ≠ !opA ∨ x.swb ≠ !opB then
    let s := if x.swa ≠ !opA then holdA s else s
    (if x.swb ≠ !opB then holdB s else s, false)
  else if x.cls = clON then
    match s.currentPartner h r.pre eval with
    | some y => ((s.event b 3 h).event (fgBlock (y / 16)) 3 y, false)
    | none => (s.raise b 0 h who, false)
  else if x.cls = clOFF ∧ opA ∧ x.mid then (holdA s, false)
  else if x.cls = clOFF ∧ !opA ∧ !x.mid then (holdA s, false)
  else (s, x.cls == clOFF)

/-- The inputs fed by a TEST_SRC holder (R98). -/
def State.fedBy (s : State) (h : Nat) : List Nat :=
  if (s.chanEntry h).mode ≠ mTEST_SRC then []
  else ((List.range 16).map (fun i => h - h % 16 + i)).filter (fun c =>
    (s.chanEntry c).isInput && (s.chanEntry c).source == h % 16 + 1)

def clIsOn (c : Nat) : Bool := c == clON || c == clOPEN
def clIsOff (c : Nat) : Bool := c == clOFF || c == clBREAK

/-- An input at the evaluation sample of its source (R98). -/
def State.fedInput (s : State) (sd : Side) (pre eval : List Seen) (c : Nat) : State :=
  let a := pre.getD c {}
  let b := eval.getD c {}
  let blk := fgBlock (c / 16)
  if !a.valid ∨ !b.valid ∨ !clIsOn a.cls then s
  else if clIsOn b.cls then (if a.icode + 2 ≤ b.icode then s else s.raise blk 0 c (Side.bit sd))
  else if clIsOff b.cls then s.clear blk 0 c (Side.bit sd)
  else s

/-- The count of pulses without a verdict, by the side of the pulse (R95); one whose request was OFF at s neither counts nor ends the
run (log 98). -/
def View.miss (v : View) (mode number : Nat) (verdict : Bool) (on : Bool) : View :=
  if mode ≠ mTEST_SRC ∧ number % 2 = 1 then
    { v with missB := if verdict then 0 else if on then v.missB + 1 else v.missB }
  else { v with missA := if verdict then 0 else if on then v.missA + 1 else v.missA }

/-- A pass records the switches that the pulse has tested (R92). -/
def View.cover (v : View) (r : PulseRun) : View :=
  let (opA, opB) := pulseOpens r.mode r.number
  { v with coverA := if opA then some r.start else v.coverA, coverB := if opB then some r.start else v.coverB }

/-- PULSE_EVALUATION: after the frames of slot 0 at s + W (R91, R92, R96, R98). Whether the requests have stayed ON is what every slot
up to this sample has found, so that a verdict of this sample takes none from the other channel (R85). -/
def execPulseEvaluation (sd : Side) (h : Nat) (s : State) : Host.Outcome State Fault Refusal :=
  .next (
    let v := s.view sd h
    match v.pulse with
    | none => s
    | some r =>
      if r.evalDone ∨ s.time.tick ≠ r.start + r.widthUs / 50 ∨ s.time.slotInTick ≠ 1 then s
      else
        let eval := s.samples sd
        let a := r.pre.getD h {}
        let b := eval.getD h {}
        let judged := r.reqOk && a.clean r.start && b.clean s.time.tick &&
          a.swa && a.swb && a.cls == clON
        let r := { r with eval := eval, evalDone := true, judged := judged }
        let (opA, opB) := pulseOpens r.mode r.number
        let row := b.swa != !opA || b.swb != !opB || b.cls == clON || b.cls == clOFF
        let s := s.setView sd h { (v.miss r.mode r.number (judged && row) r.req0) with pulse := some r }
        if !judged then s
        else
          let (s, pass) := s.pulseVerdict sd h r eval
          let s := if pass then (s.setView sd h ((s.view sd h).cover r)).clear (fgBlock (h / 16)) 7 h (Side.bit sd) else s
          (s.fedBy h).foldl (fun s c => s.fedInput sd r.pre eval c) s)

/-- Z sees a foreign pulse (R97). -/
def State.foreignPulse (s : State) (h z : Nat) (pre eval post : List Seen) : Bool :=
  let a := pre.getD z {}
  let b := eval.getD z {}
  let c := post.getD z {}
  let on := fun (x : Seen) => x.cls == clON || ((s.chanEntry z).mode == mIN_MON && x.cls == clOPEN)
  z != h && s.holderOf z != h && decide (z ∉ s.fedBy h) && a.valid && b.valid && c.valid && on a && on c && clIsOff b.cls

/-- PULSE_POST_SAMPLE: after the frames of slot 0 at s + W + 100 µs (R91, R97). -/
def execPulsePostSample (sd : Side) (h : Nat) (s : State) : Host.Outcome State Fault Refusal :=
  .next (
    let v := s.view sd h
    match v.pulse with
    | none => s
    | some r =>
      if !r.evalDone ∨ s.time.tick ≠ r.start + r.widthUs / 50 + 2 ∨ s.time.slotInTick ≠ 1 then s
      else
        let post := s.samples sd
        let whole := r.reqOk && (post.getD h {}).clean s.time.tick
        if !r.judged then s.setView sd h { v with pulse := none }
        else if !whole then s.setView sd h { v with pulse := none, foreign := [] }
        else
          let seen := rangeFilter 64 (fun z => s.foreignPulse h z r.pre r.eval post)
          let next : Tab Nat := seen.foldl (fun t z => t.put z (v.foreign.getD z 0 + 1)) []
          let s := s.setView sd h { v with pulse := none, foreign := next }
          seen.foldl (fun s z =>
            if 2 ≤ next.getD z 0 then (s.event (fgBlock (z / 16)) 3 z).event (fgBlock (h / 16)) 3 h else s) s)

/-- PULSE_OVERDUE_COUNT (R95). -/
def execPulseOverdueCount (sd : Side) (h : Nat) (s : State) : Host.Outcome State Fault Refusal :=
  .next (
    let v := s.view sd h
    if (s.chanEntry h).isPulsed ∧ (4 ≤ v.missA ∨ 4 ≤ v.missB) then s.raise (fgBlock (h / 16)) 7 h (Side.bit sd) else s)

end Sys2Proof.Machine
end

