-- ==== Sys2Proof/Machine/Rosemary.lean ====
section
/-! DEFINITION. Rosemary's commands (16_rosemary_fuses; the fuse services of Table 11.5). -/

namespace Sys2Proof.Machine

/-! ### The command register (R354) -/

/-- SUP, or STB in its place (R14), can write the registers of the controller: it works, and the array has been sensed. -/
def State.supWrites (s : State) : Bool := s.supRuns && s.ros.sensed

/-- The data registers as one word. -/
def RosSt.dataReg (r : RosSt) : DWord := BitVec.ofNat 64 (r.dataHi.toNat * 2 ^ 32 + r.dataLo.toNat)

/-- A write of OP to ROS_CMD: ignored while BUSY is 1. -/
def State.rosCmd (s : State) (k : RosOpKind) (word target : Nat) (data : DWord) : State :=
  if !s.supWrites || s.ros.busy then s else s.takeJob ⟨.host, k, word, target, data, false⟩

/-- ROS_PROGRAM: OP 0x1 with the data registers. -/
def execRosProgram (word : Nat) (s : State) : Host.Outcome State Fault Refusal :=
  .next (s.rosCmd .program (word % 4096) (word % 4096) s.ros.dataReg)

/-- ROS_VERIFY: OP 0x2 senses one word at both margins against the shadow (R353). -/
def execRosVerify (word : Nat) (differs : Bool) (s : State) : Host.Outcome State Fault Refusal :=
  .next (if !s.supWrites || s.ros.busy then s
    else
      let s : State := { s with ros := { s.ros with op := 2, word := word % 4096, result := rrOK } }
      if differs then s.event bROS 1 (word % 4096) else s)

/-- ROS_SEAL: OP 0x3 programs the region's seal word (R358). -/
def execRosSeal (region : Nat) (s : State) : Host.Outcome State Fault Refusal :=
  let r := region % 8
  .next (s.rosCmd .sealOp r (((regionWords r).map (·.2.2)).getD 0) (BitVec.ofNat 64 (sealValue r (s.regionCrc r))))

/-- ROS_LOCK: OP 0x4 programs the region's lock word (R359). -/
def execRosLock (region : Nat) (s : State) : Host.Outcome State Fault Refusal :=
  let r := region % 8
  .next (s.rosCmd .lockOp r (((regionWords r).map (·.2.1)).getD 0) (BitVec.ofNat 64 (lockValue r)))

/-- ROS_OPERATION_COMPLETE: the operation under way runs its pulses by R355 and ends (R356: also after a warning). -/
def execRosOperationComplete (reads : List ProgRead) (final : Sense) (s : State) : Host.Outcome State Fault Refusal :=
  .next (match s.ros.running with
    | none => s
    | some j =>
      match pulseOutcome 0 reads with
      | none => s
      | some (retries, ok) => s.endJob j retries ok final)

/-- A write of ROS_CMD (Table 16.4): OP and WORD are stored, and an OP that is not assigned is refused with RESULT 0b100; one of the
four operations has its own command and comes here in no well-formed write. -/
def State.rosCmdOther (s : State) (v : Word) : State :=
  let op := v.toNat / 2 ^ 20 % 16
  if s.ros.busy ∨ (1 ≤ op ∧ op ≤ 4) then s
  else { s with ros := { s.ros with op := op, word := v.toNat % 4096, result := if op = 0 then s.ros.result else rrADDRESS } }

/-- REGISTER_WRITE: a register without behaviour of its own. -/
def execRegisterWrite (r : RosReg) (v : Word) (s : State) : Host.Outcome State Fault Refusal :=
  .next (if !s.supWrites then s
    else match r with
      | .dataLo => { s with ros := { s.ros with dataLo := v } }
      | .dataHi => { s with ros := { s.ros with dataHi := v } }
      | .cmd => s.rosCmdOther v)

/-! ### Sensing (R351, R352) -/

/-- The shadow after a sensing: every word whose fuses or reads differ from an unprogrammed, clean one. -/
def sensedShadow (fuses : Tab FuseWord) (odd : List (Nat × Sense)) : Tab ShadowWord :=
  let base := fuses.foldl (fun t e => Tab.put t e.1 (senseWord e.2 (.equal (.clean e.2.data)))) ([] : Tab ShadowWord)
  odd.foldl (fun t e => if e.1 < 4096 then Tab.put t e.1 (senseWord (fuses.getD e.1 {}) e.2) else t) base

/-- Sources of the words outside sealed regions that are bad, and of the marginal ones. -/
def State.sensingSources (s : State) : State :=
  s.ros.shadow.foldl (fun s e =>
    if e.2.bad then (if s.sealed (regionOf e.1) then s else s.raise bROS 2 e.1 whoDev)
    else if e.2.marginal then s.event bROS 1 e.1 else s) s

/-- ROS_SENSING: step 3 of Table 2.4; BOOT without a hold reason, LATCHED with the latch set (rows 3 and 4, R48). -/
def execRosSensing (odd : List (Nat × Sense)) (s : State) : Host.Outcome State Fault Refusal :=
  .next (if s.dev.st ≠ .reset ∨ !s.dev.released ∨ s.dev.hold ≠ 0 ∨ s.ros.sensed then s
    else
      let s : State := { s with ros := { s.ros with shadow := sensedShadow s.ros.fuses odd, sensed := true } }
      let s : State := { s with ros := { s.ros with jtagLocked := (s.shadow 1284).val.getLsbD 0 } }
      let s := (s.sensingSources).domainOn 8
      let failures := [0, 2, 4].filterMap (fun r => (s.integrityFailure r).map (fun w => (r, w)))
      let s := failures.foldl (fun s f => s.raise bROS 0 f.1 whoDev) s
      match failures with
      | (r, w) :: _ => { s with dev := { s.dev with hold := 1, holdRegion := r, holdWord := w } }
      | [] => if s.pwr.latch then (s.enter .latched 0).romService else s.enter .boot 0)

/-! ### Fuse services (R357) -/

/-- FUSE_READ shows a word as 0 (R357, R359). -/
def State.fuseHidden (s : State) (w : Nat) : Bool :=
  (decide (16 ≤ w) && decide (w ≤ 19)) || (decide (1280 ≤ w) && decide (w ≤ 1283)) ||
    (match regionWords (regionOf w) with
     | none => false
     | some (_, lock, sealW) => s.locked (regionOf w) && w != lock && w != sealW)

def State.fuseShown (s : State) (w : Nat) : Nat := if s.fuseHidden w then 0 else (s.shadow w).val.toNat

/-- First and count of a word range. -/
def rangeForm (maxCount : Nat) (r : Request) : Bool :=
  let first := leAt r.payload 0 2
  let count := leAt r.payload 2 2
  r.payload.length == 4 && decide (1 ≤ count) && decide (count ≤ maxCount) && decide (first + count ≤ 4096)

/-- FUSE_READ. -/
def execFuseRead (s : State) : Host.Outcome State Fault Refusal :=
  .next (s.serve 0xB0 (rangeForm 256) (fun r s =>
    let ws := (List.range (leAt r.payload 2 2)).map (· + leAt r.payload 0 2)
    let bits := ws.map (fun w => (s.shadow w).marginal || (s.shadow w).bad)
    s.respond r stOK (ws.flatMap (fun w => leBytes 8 (s.fuseShown w)) ++ leBytes ((ws.length + 7) / 8) (bitsToNat bits))))

/-- FUSE_PROGRAM: one word by the host (R355, R349). -/
def execFuseProgram (s : State) : Host.Outcome State Fault Refusal :=
  .next (s.serve 0xB1 (fun r => lenIs 12 r && decide (leAt r.payload 0 2 < 4096) && leAt r.payload 2 2 == 0) (fun r s =>
    let w := leAt r.payload 0 2
    (s.wait r .fuse).askJob ⟨.host, .program, w, w, BitVec.ofNat 64 (leAt r.payload 4 8), true⟩))

/-- FUSE_VERIFY: the words of the range that differ at a margin (R353). It waits while another operation runs (R363). -/
def execFuseVerify (differ : List Nat) (s : State) : Host.Outcome State Fault Refusal :=
  .next (if s.ros.busy then s
    else s.serve 0xB2 (rangeForm 4096) (fun r s =>
      let first := leAt r.payload 0 2
      let count := leAt r.payload 2 2
      let bad := ((List.range count).map (· + first)).filter (fun w => decide (w ∈ differ))
      let s := bad.foldl (fun s w => s.event bROS 1 w) s
      s.respond r stOK (leBytes 2 bad.length ++ leBytes 2 (bad.headD 0xFFFF))))

/-- A region that FUSE_SEAL and FUSE_LOCK accept (R349). -/
def regionForm (r : Request) : Bool :=
  lenIs 4 r && allZero ((r.payload.drop 1).take 3) && (regionWords (leAt r.payload 0 1)).isSome

/-- FUSE_SEAL: OP 0x3 for the host (R358). -/
def execFuseSeal (s : State) : Host.Outcome State Fault Refusal :=
  .next (s.serve 0xB3 regionForm (fun r s =>
    let g := leAt r.payload 0 1
    (s.wait r .fuse).askJob
      ⟨.host, .sealOp, g, ((regionWords g).map (·.2.2)).getD 0, BitVec.ofNat 64 (sealValue g (s.regionCrc g)), true⟩))

/-- FUSE_LOCK: OP 0x4 for the host (R359). -/
def execFuseLock (s : State) : Host.Outcome State Fault Refusal :=
  .next (s.serve 0xB4 regionForm (fun r s =>
    let g := leAt r.payload 0 1
    (s.wait r .fuse).askJob ⟨.host, .lockOp, g, ((regionWords g).map (·.2.1)).getD 0, BitVec.ofNat 64 (lockValue g), true⟩))

end Sys2Proof.Machine
end

