-- ==== Sys2Proof/Machine/Tick.lean ====
section
/-! DEFINITION. The system tick (R27) and the services that run with it: host-signal flip, agreement captures, mirror flips,
checkpoints, the field bits, and the items of a live commit whose tick has come; and the measurement block (R21). -/

namespace Sys2Proof.Machine

/-! ### Agreement (R26, R184, R185) -/

/-- The index under which a descriptor's agreement is counted: its handle, or 0xFFF for an ANNOUNCE. -/
def Descriptor.agrIndex (d : Descriptor) : Nat :=
  if d.ftype = ftDATA1 ∨ d.ftype = ftDATA2 then (readData d.gen d.bytes).handle % 4096
  else if d.ftype = ftANNOUNCE then 0xFFF else (readCtl d.bytes).handle % 4096

/-- The channel of a pair, with STB as the pair it stands in for. -/
def State.pairSide (s : State) (p : Nat) : Option Side := (evaluatorSide (s.roleOf p)).map (·.1)

/-- The host-signal image flips at this edge (R22). -/
def State.flips (s : State) : Bool := s.hs.flipDue && !s.host.paused && s.supRuns

/-- The pair captures this input at this edge (Table 8.2): a PDU that the channel it evaluates for has not captured yet, a host signal
at the flip and again after a disagreement, a mailbox request where the pair is the supervisor. -/
def State.captures (s : State) (p kind index : Nat) : Bool :=
  match s.pairSide p, kind with
  | some sd, 1 => (List.range 3).any (fun k => (s.window sd k).any (fun d => !d.captured && d.agrIndex == index))
  | some _, 2 => s.flips || (s.pair p).agr.any (fun a => a.kind == 2 && a.index == index)
  | _, 3 => decide (p = s.hardware bSUP) && s.host.queue.any (fun r => !r.captured && r.tag == index)
  | _, _ => false

/-- The pair's two copies captured unequal values of an input at this edge. -/
def disagrees (dis : List Disagreement) (p kind index : Nat) : Bool :=
  dis.any (fun d => d.pair == p && d.kind == kind && d.index == index)

/-- A pair takes the image as its copies agree on it: of the signals captured at this edge each unequal one keeps its value. -/
def State.agreeImage (s : State) (dis : List Disagreement) (p : Nat) : State :=
  if (s.pairSide p).isNone then s
  else
    let mask := fun (l : List Nat) => l.foldl (fun (w : BitVec 2048) i => w ||| (1#2048 <<< i)) 0
    let k := s.pair p
    let bad := mask ((dis.filter (fun d => d.pair == p && d.kind == 2)).map (·.index))
    let taken := (if s.flips then ~~~0#2048 else mask ((k.agr.filter (fun a => a.kind == 2)).map (·.index))) &&& ~~~bad
    let image := if s.flips then s.hs.inactive else s.hs.visible
    s.setPair p { k with hostAgreed := (image &&& taken) ||| (k.hostAgreed &&& ~~~taken) }

/-- The captures of one pair at this edge: its image, and its counts of successive disagreements. -/
def State.agreePair (s : State) (dis : List Disagreement) (p : Nat) : State :=
  let bad := (dis.filter (fun d => d.pair == p && s.captures p d.kind d.index)).eraseDups
  let ended := (s.pair p).agr.filter (fun a => !disagrees dis p a.kind a.index && s.captures p a.kind a.index)
  let s := s.agreeImage dis p
  let s := bad.foldl (fun s d => s.capture p d.kind d.index true) s
  ended.foldl (fun s a => s.capture p a.kind a.index false) s

/-! ### Host signals (R22, R184, R262) -/

/-- The number a response gives a tick: τ, or an open value before the device has left VERIFY for the first time. -/
def State.tauBytes (s : State) : List Byte :=
  match s.tau with
  | some t => leBytes 4 (t % 2 ^ 32)
  | none => freeBytes s.free 4

/-- SUP flips the image; the writes that become visible are answered with this edge. -/
def State.flipImage (s : State) : State :=
  if !s.flips then s
  else
    let s : State := { s with hs := { s.hs with visible := s.hs.inactive, flipDue := false, before := none } }
    { s.answer .hostSig stOK s.tauBytes with free := s.free + 4 }

/-- HS_HOLD_TIMEOUT: no write came within the hold time; every host signal goes to 0 at the next edge. -/
def execHsHoldTimeout (s : State) : Host.Outcome State Fault Refusal :=
  .next (if s.hs.holdMs = 0 ∨ s.time.tick < s.hs.lastWrite + tMS * s.hs.holdMs ∨ s.host.paused ∨ !s.supRuns then s
    else
      ({ s with hs := { s.hs with inactive := 0, flipDue := true, holdMs := 0 },
                host := { s.host with evHsTimeout := true } } : State).event bHOST 0 0)

/-! ### The mailbox at the tick edge (R184, R50) -/

/-- SUP captures the requests that HOST has queued; a descriptor on which its copies disagree waits for the next edge. -/
def State.captureRequests (s : State) (dis : List Disagreement) : State :=
  if !s.supRuns ∨ s.host.paused ∨ !s.on 8 then s
  else
    let hw := s.hardware bSUP
    { s with host := { s.host with queue := s.host.queue.map (fun r => { r with captured := r.captured || !disagrees dis hw 3 r.tag }) } }

/-- A RUN that was accepted is taken at this edge, if it still may be. -/
def State.takeRun (s : State) : State :=
  if !(s.host.waiting.any (fun w => w.on == .run)) then s
  else if s.runAllowed then s.enterRun
  else s.answer .run stWRONG_STATE []

/-! ### Receive windows (R184, R242) -/

/-- The pairs of a channel that capture its PDUs, STB among them when it stands in. -/
def State.capturing (s : State) (sd : Side) : List Nat := (rolesOf sd).map s.hardware

/-- One channel captures the descriptors of a port's window; the buffers no longer wait for it. -/
def State.captureWindow (s : State) (dis : List Disagreement) (k : Nat) (sd : Side) : State :=
  if !s.sideRuns sd then s
  else
    let pairs := s.capturing sd
    let takes := fun (d : Descriptor) => !d.captured && !(pairs.any (fun p => disagrees dis p 1 d.agrIndex))
    let w := s.window sd k
    let taken := (w.filter takes).map (·.buffer)
    let s := s.setWindow sd k (w.map (fun d => if takes d then { d with captured := true } else d))
    let fewer := fun (b : RxBuf) => (taken.filter (· == b.id)).length
    let p := s.port k
    s.setPort k { p with buffers := p.buffers.map (fun b =>
      match sd with
      | .a => { b with waitA := b.waitA - fewer b }
      | .b => { b with waitB := b.waitB - fewer b }) }

/-- In a state in which no connection runs, what a channel captures goes unread (R227). -/
def State.dropCaptured (s : State) (k : Nat) (sd : Side) : State :=
  if s.dev.st.connects then s else s.setWindow sd k ((s.window sd k).filter (fun d => !d.captured))

/-- Weir's work at the edge: captures, releases, copies of waiting descriptors, and PAUSE. -/
def State.tickWeir (s : State) (dis : List Disagreement) : State :=
  if !s.weirOn then s
  else (List.range 3).foldl (fun s k =>
    let s := ((s.captureWindow dis k .a).captureWindow dis k .b)
    let s := (s.dropCaptured k .a).dropCaptured k .b
    ((s.releaseBuffers k).copyDescriptors k).pauseTx k true) s

/-! ### Live changes at their ticks (R228, R283, R288) -/

/-- The tick at which a changed channel's old binding ends: where a pulse of a TEST_SRC is under way at its boundary, the end of that pulse
slot, in which the pulse is still judged (R102). The request of every other holder is OFF by then (R283). -/
def State.changeTick (s : State) (c at_ : Nat) : Nat :=
  let old := s.chanBefore c
  let start := ((s.view .a c).pulse.or (s.view .b c).pulse).map (·.start)
  if at_ = s.time.tick ∧ old.mode = mTEST_SRC then max at_ ((start.map (· + old.slotLen)).getD 0) else at_

/-- The channels and connections of a live commit whose tick this is, and calibration that has taken effect. -/
def State.tickChanges (s : State) : State :=
  let s : State := { s with params := { s.params with calDue := s.params.calDue.filter (fun d => decide (s.time.tick < d.at_)) } }
  match s.cfg.live with
  | none => s
  | some l =>
    let l := { l with chanAt := l.chanAt.map (fun e => (e.1, s.changeTick e.1 e.2)) }
    let s : State := { s with cfg := { s.cfg with live := some l } }
    let s := (l.chanAt.filter (fun e => e.2 == s.time.tick)).foldl (fun s e => s.changeChannel e.1) s
    (l.connAt.filter (fun e => e.2 == s.time.tick)).foldl (fun s e => s.connReset e.1) s

/-! ### The field at the edge (R396, R68) -/

/-- The group's supply is inside its window, as a channel sees it. -/
def State.vfOk (s : State) (sd : Side) (g : Nat) : Bool :=
  let v := s.gview sd g
  v.vfValid && !v.vfLow && (List.range 16).all (fun i => !(s.view sd (16 * g + i)).uv && !(s.view sd (16 * g + i)).ov)

/-- The same as the tick services of one pair see it (R26). -/
def State.pairVfOk (s : State) (sd : Side) (role g : Nat) : Bool :=
  (s.pairGroup sd role g).vfValid && !(s.gview sd g).vfLow &&
    (List.range 16).all (fun i => !(s.pairView sd role (16 * g + i)).uv && !(s.pairView sd role (16 * g + i)).ov)

/-- Bits 4, 10 and 11 of a channel's local field bits; bit 10 once more for a pair that holds a view of its own. -/
def State.tickBits (s : State) (sd : Side) : State :=
  let ok := (List.range 4).map (s.vfOk sd)
  let own := (rolesOf sd).map (fun role => (role, (List.range 4).map (s.pairVfOk sd role)))
  let apart := fun (role g : Nat) => (s.field.pairGroups.get? (8 * g + role)).isSome ||
    (List.range 16).any (fun i => (s.field.pairViews.get? (8 * (16 * g + i) + role)).isSome)
  (List.range 64).foldl (fun s c =>
    let held := own.filterMap (fun e => if apart e.1 (c / 16) then some (e.1, s.pairView sd e.1 c, e.2.getD (c / 16) false) else none)
    let s := s.setView sd c { s.view sd c with fault := s.namesChannel c, vfOk := ok.getD (c / 16) false, pulseBit := s.pulseBitAt c }
    held.foldl (fun s e => s.setPairView sd e.1 c { e.2.1 with vfOk := e.2.2 }) s) s

/-- The sum of a group's current codes in mA, and the runs above and within 4.4 A. -/
def State.tickCurrent (s : State) (sd : Side) (g : Nat) : State :=
  let sum := ((List.range 16).map (fun i =>
    let c := 16 * g + i
    if (s.chanEntry c).drives then 8 * (s.view sd c).icode else 0)).sum
  let v := s.gview sd g
  s.setGview sd g (if 4400 < sum then { v with overTicks := v.overTicks + 1, underTicks := 0 }
    else { v with overTicks := 0, underTicks := v.underTicks + 1 })

def State.tickField (s : State) : State :=
  if !s.dev.loaded then s
  else
    let s := (s.tickBits .a).tickBits .b
    (List.range 4).foldl (fun s g => (s.tickCurrent .a g).tickCurrent .b g) s

/-! ### Cells at the edge (R129, Table 8.6 step 4, R21) -/

/-- A channel watches the reset signal of a cell in SAFE_WAIT. -/
def State.watchReset (s : State) (sd : Side) (n : Nat) : State :=
  let x := s.cell sd n
  if x.st ≠ .wait ∨ !((s.sideCont sd n).cell n).resetMode then s
  else
    let on := s.resetSignal sd n
    let len := s.time.tick - x.runFrom.getD s.time.tick
    let ended := !on && x.runFrom.isSome
    s.setCell sd n { x with
      resetOn := on,
      runFrom := if on then (if x.resetOn then x.runFrom else some s.time.tick) else none,
      runDone := x.runDone || (ended && decide (2000 ≤ len ∧ len ≤ 100000)) }

/-- A pair that has taken a role over takes the latches it missed from the tick's state. -/
def State.takeLate (s : State) (sd : Side) (n : Nat) : State :=
  let x := s.cell sd n
  if !(x.runs.any (·.late)) then s
  else
    let latch := s.latchOf sd n x.first (s.sideCont sd n)
    let step := fun (acc : List CellRun × Bool) (r : CellRun) =>
      if r.late then (acc.1 ++ [{ r with late := false, latch := latch, prev := if acc.2 then latch else r.prev }], true)
      else (acc.1 ++ [r], acc.2)
    s.setCell sd n { x with runs := (x.runs.foldl step ([], false)).1, lastLatch := latch }

/-- The late latches of a role that STB has taken over, and of cells that a survivor has (step 4 of Table 8.6). -/
def State.tickTakeover (s : State) : State :=
  let s := (s.pairs.moves.filter (·.restored)).foldl (fun s m =>
    match evaluatorSide m.role with
    | some (sd, _) => m.cells.foldl (fun s n => s.takeLate sd n) s
    | none => s) s
  let s : State := { s with pairs := { s.pairs with moves := s.pairs.moves.filter (fun m => !m.restored) } }
  s.pairs.takeover.foldl (fun (s : State) role =>
    if !s.pairRuns role then s
    else
      let s := match evaluatorSide role with
        | some e => (s.cellsOf role).foldl (fun (s : State) n => s.takeLate e.1 n) s
        | none => s
      { s with pairs := { s.pairs with takeover := setDel s.pairs.takeover role } }) s

/-- The mirror flips: complete snapshots, measurement blocks and connection states become visible (R21, R225). -/
def State.flipMirrors (s : State) : State :=
  { s with
    cells := {
      sides := s.cells.sides.map (fun e => (e.1, { e.2 with mirror := e.2.mirrorNext.getD e.2.mirror, mirrorNext := none })),
      lines := s.cells.lines,
      block := s.cells.blockNext.foldl (fun (t : Tab MeasBlock) e => t.put e.1 e.2) s.cells.block,
      blockNext := [] },
    weir := { s.weir with
      mirrors := s.weir.conns.foldl (fun (t : Tab ConnMirror) e =>
        if s.sideRuns (if e.1 % 2 = 0 then .a else .b) then
          t.put e.1 { st := e.2.st, gen := (e.2.session.map (·.gen)).getD 0, fsv := e.2.fsv }
        else t) s.weir.mirrors } }

def State.tickCells (s : State) : State :=
  let s := s.tickTakeover
  let s := s.cellsInUse.foldl (fun s n => (s.watchReset .a n).watchReset .b n) s
  s.flipMirrors

/-! ### SYSTEM_TICK -/

/-- The edge itself: a new tick begins, and PWR has measured VSUP and the junction temperature. -/
def State.tickEdge (s : State) (vsupMv : Nat) (tj : Int) : State :=
  let s : State := { s with time := { s.time with tick := s.time.tick + 1, slotInTick := 0 },
                            pwr := { s.pwr with vsup := vsupMv, tj := tj },
                            field := { s.field with vfLow := s.params.vfLow } }
  s.judgeSlice

/-- The mailbox pause of a handover: from 100 ms after its reference, for 50 ms at most. A pause that ends before the handover point ends
as one does, and the old supervisor serves on (R265, R285, log 108). -/
def State.pauseForHandover (s : State) : State :=
  match s.bundles.handover with
  | none => s
  | some h =>
    if h.stage ≠ .starting ∨ s.time.tick < h.start + 2000 then s
    else if s.time.tick < h.start + 3000 then { s with host := { s.host with paused := true } }
    else if s.host.paused then { s with host := { s.host with paused := false, evHandover := true } }
    else s

/-- The supervisor's work at the edge: the image, the captured requests, a RUN, its checkpoint every 250 µs, the pause of a handover,
and the end of a live change. -/
def State.tickSup (s : State) (dis : List Disagreement) : State :=
  let s := s.flipImage
  let s := s.captureRequests dis
  let s := s.takeRun.settle
  let s := if s.supRuns ∧ s.time.tick % 5 = 0 then s.checkpoint (s.hardware bSUP) [] else s
  s.pauseForHandover

/-- What a pair's tick services hold at the end of a tick's service run (Table 8.3). -/
def State.tickRecord (s : State) (p : Nat) : TickRecord :=
  let role := s.roleOf p
  match evaluatorSide role with
  | none => { tick := s.time.tick }
  | some (sd, _) =>
    { tick := s.time.tick,
      views := (List.range 64).map (s.pairView sd role),
      groups := (List.range 4).map (s.pairGroup sd role),
      conns := s.connsInUse.map (fun n => (n, s.conn sd n)),
      resets := (s.cellsOf role).map (fun n =>
        let x := s.cell sd n
        (n, ⟨x.runFrom, x.runDone, x.resetOn⟩)) }

/-- The tick's service run ends: every pair's tick-service records swap (Table 8.3). -/
def State.swapRecords (s : State) : State :=
  [1, 2, 3, 4, 5, 6].foldl (fun s p => s.setPair p ((s.pair p).swapRecord (s.tickRecord p))) s

/-- Single-bit errors that reads of a channel's memory corrected since the last edge, by the initiator of each read (Table 13.12): counted
in ECC_CORR (Table 11.7) and raised. -/
def State.correctedReads (s : State) (ecc : List (Side × Nat)) : State :=
  ecc.foldl (fun s e =>
    match e.1 with
    | .a => ({ s with mems := { s.mems with eccCorrA := sat16 (s.mems.eccCorrA + 1) } } : State).event bMEMA 1 e.2
    | .b => ({ s with mems := { s.mems with eccCorrB := sat16 (s.mems.eccCorrB + 1) } } : State).event bMEMB 1 e.2) s

/-- SYSTEM_TICK (R27): `vsupMv` and `tj` are the PWR measurements of this edge, `dis` the captures on which a pair's copies
disagreed, `ecc` the reads that met a single-bit error. Without CLK_FIELD there is no tick (Table 17.6). -/
def execSystemTick (vsupMv : Nat) (tj : Int) (dis : List Disagreement) (ecc : List (Side × Nat)) (s : State) : Host.Outcome State Fault Refusal :=
  .next (if !s.clocked ∨ s.dev.st = .off then s
    else
      let s := s.tickEdge vsupMv tj
      let s := [1, 2, 3, 4, 5, 6].foldl (fun s p => s.agreePair dis p) s
      let s := s.tickSup dis
      let s := s.tickWeir dis
      let s := s.tickChanges
      let s := s.tickField
      let s := s.tickCells
      (s.finishLive.freeShadows.swapRecords.tickFlush).correctedReads ecc)

/-! ### MEASUREMENT_BLOCK (R21, R313) -/

/-- Evaluation time as a share of the cell's window in 0.1 % (R126); the time is in µs. -/
def evalShare (e : CellEntry) (used : Nat) : Nat :=
  let ticks := if e.retry then 2 * e.ticks else e.ticks
  1000 * used / max 1 (50 * ticks - 20)

/-- A junction temperature code in whole °C, rounded down (Table 3.15). -/
def fieldCelsius (code : Nat) : Int := (code : Int) / 8 - 64

/-- One channel's block over the 100 ms that end here; a silent field group has no reading of VF, and its channels take no sample
(R313). -/
def State.measBlock (s : State) (sd : Side) : MeasBlock :=
  let gs := List.range 4
  { vf := gs.filterMap (fun g => (s.gview sd g).minVf.map (fun v => (g, v))),
    temp := gs.filterMap (fun g => (s.gview sd g).maxTemp.map (fun v => (g, v))),
    current := ((List.range 64).filter (fun c => (s.chanEntry c).drives && (s.gview sd (c / 16)).minVf.isSome)).map
      (fun c => (c, (s.view sd c).maxI)) }

/-- SUP passes a channel's block and the evaluation times to Oxbow: bit 8 of the instance names the channel. -/
def State.sampleSide (s : State) (sd : Side) : State :=
  let off := 256 * Side.ix sd
  let b := s.measBlock sd
  let s := b.vf.foldl (fun s e => s.sample oxVF_MIN (e.1 + off) e.2) s
  let s := b.temp.foldl (fun s e => s.sample oxFIELD_TEMP (e.1 + off) (fieldCelsius e.2)) s
  let s := b.current.foldl (fun s e => s.sample oxOUT_CURRENT (e.1 + off) (8 * e.2)) s
  (s.cellsInUse.filter (fun n => (s.cell sd n).st == .run)).foldl (fun s n =>
    s.sample oxEVAL_LOAD (n + off) (evalShare ((s.cellCont n).cell n) (s.cell sd n).usedMax)) s

/-- A channel publishes its block and starts the next 100 ms. -/
def State.publishBlock (s : State) (sd : Side) : State :=
  let b := s.measBlock sd
  let s : State := { s with cells := { s.cells with blockNext := s.cells.blockNext.put (Side.ix sd) b } }
  let s := (List.range 4).foldl (fun s g => s.setGview sd g { s.gview sd g with minVf := none, maxTemp := none }) s
  let s := (List.range 64).foldl (fun s c => s.setView sd c { s.view sd c with maxI := 0 }) s
  s.cellsInUse.foldl (fun s n => s.setCell sd n { s.cell sd n with usedMax := 0 }) s

/-- MEASUREMENT_BLOCK: every 100 ms; `vsupMin` and `logicTemp` are PWR's extremes over that time. -/
def execMeasurementBlock (vsupMin : Nat) (logicTemp : Int) (s : State) : Host.Outcome State Fault Refusal :=
  .next (if !s.oxb.mounted ∨ !s.clocked ∨ s.time.tick < s.oxb.lastSampleTick + 2000 then s
    else
      let s : State := { s with oxb := { s.oxb with lastSampleTick := s.time.tick } }
      let s :=
        if s.oxb.frozen then s
        else
          let s := (s.sample oxVSUP_MIN 0 vsupMin).sample oxLOGIC_TEMP 0 logicTemp
          if s.supRuns then (s.sampleSide .a).sampleSide .b else s
      (s.publishBlock .a).publishBlock .b)

end Sys2Proof.Machine
end

