-- ==== Sys2Proof/Machine/Services.lean ====
section
/-! DEFINITION. The mailbox services of the session, of status, faults, cells, connections, host signals and parameters (11: R255 to
R266; 12: R267 to R271; 13: R290, R300). -/

namespace Sys2Proof.Machine

/-! ### HELLO and IDENTITY (R255, R256) -/

/-- The versions the device serves: v1 alone in the ROM kind (R47), else those of the manifest (R40). -/
def State.versions (s : State) : Nat :=
  if s.host.rom then 1 else (s.bundles.manifest.getD default).mailbox

/-- A session number that is new and not 0. -/
def newSession (old draw : Nat) : Nat :=
  let x := 1 + Config.sessionNumber draw % (2 ^ 32 - 2)
  if old ≤ x ∧ 0 < old then x + 1 else x

/-- The status of a HELLO whose header or payload is wrong: it starts nothing. -/
def helloBad (r : Request) : Option Nat :=
  if r.version ≠ 1 ∨ r.session ≠ 0 then some stBAD_SESSION
  else if r.payload.length ≠ 20 ∨ leAt r.payload 2 2 ≠ 0 ∨ 3 < leAt r.payload 0 2 then some stBAD_FORMAT
  else none

/-- A well-formed HELLO: a new session in the highest common version, or none. The unreleased responses of the old session go, that of the
HELLO that opened it among them, not those to requests of no session (R255). -/
def State.greet (s : State) (r : Request) : State :=
  let both := leAt r.payload 0 2 &&& s.versions
  if both = 0 then s.respond r stNO_COMMON_VERSION []
  else
    let v := if both.testBit 1 then 2 else 1
    let n := newSession s.host.session s.free
    let s : State := { s with host := { s.host with
      rsp := s.host.rsp.filter (fun x => x.session == 0 || x.session != s.host.session), session := n, version := v }, free := s.free + 1 }
    s.respond { r with session := n } stOK (leBytes 1 v ++ leBytes 1 s.versions ++ leBytes 1 (b2n (!s.host.rom)) ++ leBytes 1 s.dev.st.code ++
      leBytes 4 n ++ leBytes 4 (if s.host.rom then 0 else (s.bundles.manifest.getD default).version) ++ leBytes 8 s.identity)

/-- HELLO: it waits until every request of the old session has completed. -/
def execHello (s : State) : Host.Outcome State Fault Refusal :=
  .next (match s.front 0x01 with
    | none => s
    | some r =>
      match helloBad r with
      | some st => (s.popRequest.respond r st []).settle
      | none => if s.host.waiting.isEmpty then (s.popRequest.greet r).settle else s)

/-- IDENTITY (Table 16.2). -/
def execIdentity (s : State) : Host.Outcome State Fault Refusal :=
  .next (s.serve 0x10 (lenIs 0) (fun r s =>
    let w1 := (s.shadow 1).val.toNat
    let base := leBytes 8 s.identity ++ leBytes 2 s.stepping ++ leBytes 1 (w1 / 65536 % 256) ++ zeros 1 ++ beBytes 6 s.baseMac ++ zeros 2 ++
      s.publicKey ++ leBytes 1 s.commitKeyState ++ zeros 3
    let more := if s.host.version = 2 then leBytes 2 s.fusedEpoch ++ leBytes 1 (b2n s.ros.jtagLocked) ++ zeros 1 else []
    s.respond r stOK (base ++ more)))

/-! ### Status blocks (R264, Table 11.7) -/

/-- The power domain of a block; those without one of their own live in PD0. -/
def blockDomain (b : Nat) : Nat := if b ≤ 11 then b else 0

/-- Highest severity among the live sources of a block; 0xF none. -/
def State.liveSev (s : State) (b : Nat) : Nat :=
  match (s.faults.live.filter (fun l => l.block == b)).map s.sevNow with
  | [] => 15
  | x :: xs => xs.foldl max x

/-- Highest severity among the sticky sources of a block; 0xF none. -/
def State.stickySev (s : State) (b : Nat) : Nat :=
  match ((List.range (highestIndex b + 1)).filter (fun i => (s.words b).sticky.getLsbD i)).map (fun i =>
    ((s.faults.live.filter (fun l => l.block == b && l.index == i)).map s.sevNow).foldl max (s.effective b i 0xFFFF).1) with
  | [] => 15
  | x :: xs => xs.foldl max x

/-- HEALTH: retired, powered off, or unusable by Riffle's marks. A block with a live source at S1 or higher is normal or degraded: the
spec does not say which. -/
def State.health (s : State) (b draw : Nat) : Nat :=
  if isPair b ∧ (s.pair b).retired then 3
  else if !s.on (blockDomain b) then 4
  else if b = bRIF ∧ s.rif.units.any (fun e => e.2.unusable) then 2
  else if 0x10 ≤ b ∧ b ≤ 0x13 ∧ (s.unit (unitNo 1 (b - 0x10))).unusable then 2
  else if 1 ≤ s.liveSev b ∧ s.liveSev b < 15 then b2n (Config.freeBit draw)
  else 0

/-- Sum of 2^i over the i below n that satisfy p. -/
def maskOf (n : Nat) (p : Nat → Bool) : Nat := bitsToNat ((List.range n).map p)

/-- Words 1 and 2 of a pair. -/
def State.pairWords (s : State) (b : Nat) : List Nat :=
  if !s.on (pairDomain b) then []
  else
    let k := s.pair b
    let role :=
      if b = bSTB then
        (match s.pairs.stbFor, s.bundles.handover with
         | some x, _ => x
         | none, some h => if h.stage = .starting then bSUP else bSTB
         | none, none => bSTB)
      else b
    let w2 := if (evaluatorSide b).isSome then (s.cellsOf b).length * 65536 + k.load else 0
    [k.mismatches * 65536 + k.lastGroup * 256 + role, w2]

/-- Words 3 to 6 of SUP. -/
def State.supWords (s : State) (draw : Nat) : List Nat :=
  let flags := b2n (s.cfg.newer == 1) + 2 * b2n (s.bundles.running == some 1) +
    4 * b2n (stagingOpen s.cfg.staging || stagingOpen s.bundles.staging) +
    8 * b2n (s.cfg.admission.isSome || s.cfg.trans.any (fun t => t.activeA || !t.doneB)) +
    16 * b2n s.bundles.handover.isSome + 32 * b2n (s.isLive bSUP 7 0)
  let hash := s.cfg.newerBank.hash
  [s.dev.st.code * 2 ^ 28 + s.dev.maint.code * 2 ^ 24 + s.dev.safeReason * 2 ^ 16 + s.host.version * 2 ^ 12 + flags,
   s.cfg.sequence, if hash.isEmpty then Config.freeNat draw % 2 ^ 32 else beAt hash 0 4,
   if s.host.rom then 0 else (s.bundles.manifest.getD default).version]

/-- The 16 channels of a group in a state, as a channel sees them. -/
def State.groupMask (s : State) (sd : Side) (g st : Nat) : Nat := maskOf 16 (fun i => (s.view sd (16 * g + i)).state == st)

/-- A connection as a channel's status mirror shows it. -/
def State.connMirror (s : State) (sd : Side) (n : Nat) : ConnMirror := s.weir.mirrors.getD (2 * n + Side.ix sd) {}

/-- Words 1 to 7 of a block. `held` counts the tags that the device holds. -/
def State.blockWords (s : State) (b held draw : Nat) : List Nat :=
  if isPair b then
    let w := s.pairWords b
    if b = bSUP ∧ !w.isEmpty then w ++ s.supWords (draw + 1) else w
  else if b = bWEIR then
    let conns := fun (p : ConnState → Bool) => (s.connsInUse.filter (fun n => p (s.connMirror .a n).st)).length
    [((List.range 3).map (fun k => 2 ^ (8 * k) * ((s.params.port k).mode * 16 + b2n (s.port k).linkUp * 8 +
        b2n (s.port k).pause.isSome * 4))).sum,
     conns (· == .run) * 65536 + conns (· == .lost), conns (fun x => x == .mismatch || x == .refused)]
  else if b = bHOST then [s.host.iface.code * 2 ^ 24 + held * 2 ^ 16, s.host.accepted, s.host.rejected]
  else if b = bMEMA then [s.mems.eccCorrA * 65536 + s.mems.blocksA]
  else if b = bMEMB then [s.mems.eccCorrB * 65536 + s.mems.blocksB]
  else if b = bOXB then [s.dirtyBytes, s.oxb.mram.nextSeq]
  else if b = bROS then
    [(s.ros.shadow.filter (fun e => e.2.marginal || e.2.bad)).length * 65536 + maskOf 5 s.sealed * 256 + maskOf 5 s.locked, s.tlUsed]
  else if b = bPWR then
    [s.pwr.resetCause * 2 ^ 28 + b2n s.pwr.pfailSeen * 2 ^ 27 + b2n s.errpAsserted * 2 ^ 26 + b2n s.pwr.latch * 2 ^ 25 + s.pwr.vsup % 4096,
     s.pwr.opSeconds, s.pwr.powerCycles]
  else if b = bCLK then [(s.clk.ratioDev % 65536).toNat * 65536]
  else if b = bRIF then
    [s.rif.slices * 65536 + min 255 (s.rif.units.filter (fun e => e.2.unusable)).length * 256 +
       ((List.range 64).filter (fun c => decide (0 < s.overdue c))).length, s.rif.skipped % 2 ^ 32]
  else if b ≤ 0x13 then
    let g := b - 0x10
    if !(s.die g).alive then []
    else
      let v := s.gview .a g
      [s.groupMask .a g 1 * 65536 + s.groupMask .a g 3, v.vfCode * 2 ^ 20 + v.tempCode * 2 ^ 8,
       s.groupMask .b g 1 * 65536 + s.groupMask .b g 3]
  else
    let n := 16 * (b - 0x20)
    let codes := fun (sd : Side) (from_ : Nat) =>
      ((List.range 8).map (fun i => (s.cell sd (n + from_ + i)).mirror.st.code * 16 ^ i)).sum
    let nonzero := fun (sd : Side) (f : Snapshot → Nat) => maskOf 16 (fun i => f (s.cell sd (n + i)).mirror != 0)
    [codes .a 0, codes .a 8, codes .b 0, codes .b 8,
     nonzero .b (·.disc) * 65536 + nonzero .a (·.disc), nonzero .b (·.sigc) * 65536 + nonzero .a (·.sigc)]

/-- A status block of 32 bytes. -/
def State.statusBlock (s : State) (b held draw : Nat) : List Byte :=
  let w0 := b * 2 ^ 24 + 2 ^ 16 + s.health b draw * 2 ^ 12 + s.liveSev b * 2 ^ 8 + s.stickySev b * 2 ^ 4
  let ws := s.blockWords b held (draw + 1)
  (w0 :: (List.range 7).map (fun i => ws.getD i 0)).flatMap (leBytes 4)

/-- The tags held while a request is being served: its own among them. -/
def State.heldNow (s : State) : Nat := s.host.held.length + 1

/-- STATUS. -/
def execStatus (s : State) : Host.Outcome State Fault Refusal :=
  .next (s.serve 0x11 (blockForm 4) (fun r s =>
    { s.respond r stOK (s.statusBlock (leAt r.payload 0 1) s.heldNow s.free) with free := s.free + 3 }))

/-- STATUS_ALL. -/
def execStatusAll (s : State) : Host.Outcome State Fault Refusal :=
  .next (s.serve 0x12 (lenIs 0) (fun r s =>
    let blocks := blockIds.flatMap (fun b => s.statusBlock b s.heldNow (s.free + 3 * b))
    { s.respond r stOK (leBytes 2 blockIds.length ++ zeros 2 ++ blocks) with free := s.free + 256 }))

/-! ### CELL_READ -/

/-- One cell as the two mirrors show it, with its evaluators. -/
def State.cellBytes (s : State) (n : Nat) : List Byte :=
  let a := (s.cell .a n).mirror
  let b := (s.cell .b n).mirror
  let who := fun (sd : Side) (base : Nat) =>
    if s.inUse n && s.hasEvaluator (s.evaluator sd n) then s.evaluator sd n - base else 0xFF
  [a.st.code, b.st.code, min 255 a.disc, min 255 b.disc, min 255 a.sigc, min 255 b.sigc, who .a bSA0, who .b bBR0].map byte

def execCellRead (s : State) : Host.Outcome State Fault Refusal :=
  .next (s.serve 0x13 (fun r => lenIs 4 r && decide (1 ≤ leAt r.payload 2 2 ∧ leAt r.payload 0 2 + leAt r.payload 2 2 ≤ 256))
    (fun r s => s.respond r stOK ((List.range (leAt r.payload 2 2)).flatMap (fun i => s.cellBytes (leAt r.payload 0 2 + i)))))

/-! ### Fault words (R290, R300, R263) -/

/-- Bytes of one fault word of a block. -/
def faultBytes (b : Nat) : Nat := 4 * (highestIndex b / 32 + 1)

/-- FAULT_READ. -/
def execFaultRead (s : State) : Host.Outcome State Fault Refusal :=
  .next (s.serve 0x20 (blockForm 4) (fun r s =>
    let b := leAt r.payload 0 1
    let w := s.words b
    s.respond r stOK (leBytes 2 (highestIndex b + 1) ++ zeros 2 ++ faultWordBytes b w.sticky ++ faultWordBytes b (s.liveWord b) ++
      faultWordBytes b w.injected ++ faultWordBytes b w.mask)))

/-- A block ID and a mask of its word size without a bit above the highest source. -/
def faultMaskForm (r : Request) : Bool :=
  let b := leAt r.payload 0 1
  decide (4 ≤ r.payload.length) && isBlock b && blockForm (4 + faultBytes b) r &&
    decide (leAt r.payload 4 (faultBytes b) < 2 ^ (highestIndex b + 1))

/-- FAULT_ACK: a sticky bit whose source is live stays (R263). -/
def execFaultAck (s : State) : Host.Outcome State Fault Refusal :=
  .next (s.serve 0x21 faultMaskForm (fun r s =>
    let b := leAt r.payload 0 1
    let m := BitVec.ofNat 128 (leAt r.payload 4 (faultBytes b))
    let stuck := m &&& s.liveWord b
    let clear := m &&& ~~~s.liveWord b
    let w := s.words b
    let s := s.setWords b { w with sticky := w.sticky &&& ~~~clear, injected := w.injected &&& ~~~clear }
    s.purgeHolds.respond r stOK (faultWordBytes b stuck)))

/-- MASK_IRQ of a block takes a value, which MRAM keeps (R270). -/
def State.setMask (s : State) (b : Nat) (m : BitVec 128) : State :=
  let s := s.setWords b { s.words b with mask := m }
  { s with params := { s.params with masks := s.params.masks.put b m } }

/-- The write of a FAULT_MASK. -/
def State.takeMask (s : State) (r : Request) : State :=
  let b := leAt r.payload 0 1
  s.setMask b (BitVec.ofNat 128 (leAt r.payload 4 (faultBytes b)))

/-- FAULT_MASK: class L. -/
def execFaultMask (s : State) : Host.Outcome State Fault Refusal :=
  .next (s.serve 0x22 faultMaskForm (fun r s => (if r.done then s else s.takeMask r).respond r stOK []))

/-! ### Connections -/

/-- CONN_STATUS: both channels' mirrors (R225); generation and FSV as channel A has them. -/
def execConnStatus (s : State) : Host.Outcome State Fault Refusal :=
  .next (s.serve 0x50 (fun r => lenIs 4 r && decide (1 ≤ leAt r.payload 2 2 ∧ leAt r.payload 2 2 ≤ 1000)) (fun r s =>
    let one := fun (n : Nat) =>
      let a := s.connMirror .a n
      let used := decide (n ∈ s.connsInUse)
      [a.st.code, (s.connMirror .b n).st.code, a.gen, b2n a.fsv + 2 * b2n (used && s.opener n)].map byte
    s.respond r stOK ((List.range (leAt r.payload 2 2)).flatMap (fun i => one (leAt r.payload 0 2 + i)))))

/-- UNKNOWN_PARTNERS: the list that channel A keeps. -/
def execUnknownPartners (s : State) : Host.Outcome State Fault Refusal :=
  .next (s.serve 0x51 (lenIs 0) (fun r s =>
    let l := s.weir.unknownA
    s.respond r stOK (leBytes 4 l.length ++ l.flatMap (fun x => leBytes 8 x.identity ++ leBytes 1 x.port ++ zeros 3 ++ leBytes 4 x.second))))

/-! ### Host signals (R262) -/

/-- The limits of first h and count. -/
def hostRange (first count : Nat) : Bool :=
  first % 32 == 0 && count % 32 == 0 && decide (32 ≤ count) && decide (first + count ≤ 2048)

def hostWriteForm (r : Request) : Bool :=
  let count := leAt r.payload 2 2
  let hold := leAt r.payload 4 4
  decide (8 ≤ r.payload.length) && hostRange (leAt r.payload 0 2) count && lenIs (8 + 2 * (count / 8)) r &&
    (hold == 0 || decide (10 ≤ hold ∧ hold ≤ 60000))

/-- HOSTSIG_WRITE: the captured write goes into the inactive image, which the next tick edge makes visible. -/
def execHostsigWrite (s : State) : Host.Outcome State Fault Refusal :=
  .next (s.serve 0x60 hostWriteForm (fun r s =>
    let first := leAt r.payload 0 2
    let nb := leAt r.payload 2 2 / 8
    let m : BitVec 2048 := BitVec.ofNat 2048 (leAt r.payload 8 nb) <<< first
    let v : BitVec 2048 := BitVec.ofNat 2048 (leAt r.payload (8 + nb) nb) <<< first
    { s.wait r .hostSig with hs := { s.hs with
      inactive := (s.hs.inactive &&& ~~~m) ||| (v &&& m), flipDue := true, holdMs := leAt r.payload 4 4, lastWrite := s.time.tick,
      before := s.hs.before.or (some ⟨s.hs.inactive, s.hs.flipDue, s.hs.holdMs, s.hs.lastWrite⟩) } }))

/-- HOSTSIG_READ: the visible values. -/
def execHostsigRead (s : State) : Host.Outcome State Fault Refusal :=
  .next (s.serve 0x61 (fun r => lenIs 4 r && hostRange (leAt r.payload 0 2) (leAt r.payload 2 2)) (fun r s =>
    s.respond r stOK (leBytes (leAt r.payload 2 2 / 8) (s.hs.visible.toNat >>> leAt r.payload 0 2))))

/-! ### Parameters (R258, R267 to R271) -/

/-- The items of Table 12.2. -/
inductive ParamItem where
  | etherType
  | udpPort
  | portMode (k : Nat)
  | portIp (k : Nat)
  | delays
  | phy
  | pauseRx (k : Nat)
  | pauseMax (k : Nat)
  | pauseTx (k : Nat)
  | vpfw
  | vfLow (g : Nat)
  | oxbInterval (code : Nat)
  | detail (n : Nat)
deriving DecidableEq, Repr

/-- The item of a code (R268). -/
def paramItem (code : Nat) : Option ParamItem :=
  let b := code / 2 ^ 24
  let p := code / 2 ^ 16 % 256
  let i := code % 65536
  if b = bWEIR then
    if p = 0x01 ∧ i = 0 then some .etherType
    else if p = 0x02 ∧ i = 0 then some .udpPort
    else if p = 0x10 ∧ i < 3 then some (.portMode i)
    else if p = 0x11 ∧ i < 3 then some (.portIp i)
    else if p = 0x12 ∧ i = 0 then some .delays
    else if p = 0x13 ∧ i = 0 then some .phy
    else if p = 0x14 ∧ i < 3 then some (.pauseRx i)
    else if p = 0x15 ∧ i < 3 then some (.pauseMax i)
    else if p = 0x16 ∧ i < 3 then some (.pauseTx i)
    else none
  else if b = bPWR then (if p = 0x01 ∧ i = 0 then some .vpfw else none)
  else if b = bOXB then (if p = 0x01 ∧ (intervalFloor i).isSome then some (.oxbInterval i) else none)
  else if 0x10 ≤ b ∧ b ≤ 0x13 then (if p = 0x01 ∧ i = 0 then some (.vfLow (b - 0x10)) else none)
  else if 0x20 ≤ b ∧ b ≤ 0x2F then (if p = 0x10 ∧ i < 256 ∧ i / 16 = b - 0x20 then some (.detail i) else none)
  else none

/-- The change class: 0 C, 1 K, 2 L. -/
def ParamItem.cls : ParamItem → Nat
  | .vfLow _ => 2
  | .oxbInterval _ => 2
  | .detail _ => 1
  | _ => 0

/-- The bytes that an item's range needs. -/
def ParamItem.size : ParamItem → Nat
  | .etherType => 2
  | .udpPort => 2
  | .portIp _ => 4
  | .pauseMax _ => 2
  | .vpfw => 2
  | .oxbInterval _ => 4
  | .detail _ => 4
  | _ => 1

/-- An item's value, as the value field gives it. -/
def State.paramValue (s : State) : ParamItem → Nat
  | .etherType => s.params.etherType
  | .udpPort => s.params.udpPort
  | .portMode k => (s.params.port k).mode
  | .portIp k => leVal (beBytes 4 (s.params.port k).ip)
  | .delays => s.params.rgmiiDelays
  | .phy => s.params.phyAddr
  | .pauseRx k => (s.params.port k).pauseRx
  | .pauseMax k => (s.params.port k).pauseMax
  | .pauseTx k => (s.params.port k).pauseTx
  | .vpfw => s.params.vpfw
  | .vfLow g => s.params.vfLow.getD g 192
  | .oxbInterval c => s.oxbInterval c
  | .detail n => s.params.detail.getD n 0

/-- The committed container: the one in force from the latest commit tick on, or, while nothing runs, that of the newer bank. -/
def State.committedCont (s : State) : Container :=
  match s.devCfg with
  | some r => r.cont
  | none => readContainer s.cfg.newerBank.bytes

/-- Some connection in use of the committed container on this port carries UDP (R399). -/
def State.udpOn (s : State) (k : Nat) : Bool :=
  let c := s.committedCont
  (List.range c.conns.length).any (fun n => (c.conn n).inUse && (c.conn n).port == k && (c.partner (c.conn n).partner).udp)

/-- A value inside an item's range (Table 12.2, Table 9.1, Table 10.2, R370, R399). -/
def State.paramOk (s : State) (v : Nat) : ParamItem → Bool
  | .etherType => decide (0x0600 ≤ v ∧ v ≤ 0xFFFF) && !(v ∈ [0x0800, 0x0806, 0x8100, 0x86DD, 0x8808, 0x88A8])
  | .udpPort => decide (1024 ≤ v ∧ v ≤ 65535)
  | .portMode k => if k = 0 then decide (v ≤ 2) else v == 0 || v == 3 || v == 4
  | .portIp k =>
    if v = 0 then !s.udpOn k
    else decide (v < 2 ^ 32) && v % 256 != 0 && v % 256 != 127 && decide (v % 256 < 224)
  | .delays => decide (v ≤ 3)
  | .phy => decide (v ≤ 31)
  | .pauseRx _ => decide (v ≤ 1)
  | .pauseMax _ => decide (v ≤ 10000)
  | .pauseTx _ => decide (v ≤ 1)
  | .vpfw => decide (1700 ≤ v ∧ v ≤ 3400) && v % 50 == 0 && decide (v + 150 ≤ s.pwr.vsup)
  | .vfLow _ => decide (180 ≤ v ∧ v ≤ 240)
  | .oxbInterval c => decide ((intervalFloor c).getD 0 ≤ v ∧ v ≤ 86400)
  | .detail n =>
    v == 0 || (s.inUse n &&
      ((s.cellCont n).nodesOf n).any (fun m => m.head - ((s.cellCont n).cell n).first + 1 == v))

/-- Change the settings of one port. -/
def State.setPortCfg (s : State) (k : Nat) (f : PortCfg → PortCfg) : State :=
  { s with params := { s.params with ports := s.params.ports.set k (f (s.params.port k)) } }

/-- A port mode changes (R232, R243, R369): the port restarts; WEIR's domain is on exactly while some port has a mode. -/
def State.setPortMode (s : State) (k mode : Nat) : State :=
  if (s.params.port k).mode = mode then s
  else
    let s := s.setPortCfg k (fun p => { p with mode := mode })
    if s.params.ports.all (fun p => p.mode == 0) then
      let s := (s.restartPort k).connResetAll
      ({ s with weir := { s.weir with ports := [], windows := [], tablesBank := none }, faults := s.faults.without bWEIR } : State).domainOff 7
    else if s.on 7 then s.restartPort k
    else s.weirStart.loadMask bWEIR

/-- A write takes effect in the item's home. -/
def State.paramSet (s : State) (v : Nat) : ParamItem → State
  | .etherType => { s with params := { s.params with etherType := v } }
  | .udpPort => { s with params := { s.params with udpPort := v } }
  | .portMode k => s.setPortMode k v
  | .portIp k => s.setPortCfg k (fun p => { p with ip := beVal (leBytes 4 v) })
  | .delays =>
    if s.params.rgmiiDelays = v then s
    else
      let s : State := { s with params := { s.params with rgmiiDelays := v } }
      if s.on 7 then s.restartPort 0 else s
  | .phy => { s with params := { s.params with phyAddr := v } }
  | .pauseRx k => s.setPortCfg k (fun p => { p with pauseRx := v })
  | .pauseMax k => s.setPortCfg k (fun p => { p with pauseMax := v })
  | .pauseTx k => s.setPortCfg k (fun p => { p with pauseTx := v })
  | .vpfw => { s with params := { s.params with vpfw := v } }
  | .vfLow g => { s with params := { s.params with vfLow := s.params.vfLow.set g v } }
  | .oxbInterval c => { s with params := { s.params with oxbInterval := s.params.oxbInterval.put c v } }
  | .detail n => { s with params := { s.params with detail := s.params.detail.put n v } }

/-- PARAM_READ. -/
def execParamRead (s : State) : Host.Outcome State Fault Refusal :=
  .next (s.serve 0x70 (fun r => lenIs 4 r && (paramItem (leAt r.payload 0 4)).isSome) (fun r s =>
    match paramItem (leAt r.payload 0 4) with
    | none => s.respond r stBAD_FORMAT []
    | some i => s.respond r stOK (leBytes 1 i.cls ++ leBytes 1 i.size ++ zeros 2 ++ leBytes 8 (s.paramValue i))))

/-- A PARAM_WRITE payload: item, reserved, value. -/
def paramForm (r : Request) : Bool := lenIs 16 r && leAt r.payload 4 4 == 0

/-- PARAM_WRITE: class C outside RUN, classes K and L in RUN. -/
def execParamWrite (s : State) : Host.Outcome State Fault Refusal :=
  .next (s.serve 0x71 paramForm (fun r s =>
    let v := leAt r.payload 8 8
    match paramItem (leAt r.payload 0 4) with
    | none => s.respond r stBAD_FORMAT []
    | some i =>
      if r.done then s.respond r stOK (zeros 4)
      else if !s.paramOk v i then s.respond r stBAD_FORMAT []
      else if i.cls = 0 ∧ s.dev.st = .run then s.refuseCfg r (refusal cCLASS kParam (leAt r.payload 0 4))
      else if i.cls ≠ 0 ∧ s.dev.st ≠ .run then s.respond r stWRONG_STATE []
      else (s.paramSet v i).respond r stOK (leBytes 1 (b2n (i.cls == 1)) ++ zeros 3)))

/-- The effect of a class L write at the edge that ends its acceptance (R267); none where the request is another one or one that its
service would refuse as things stand at that edge (log 106). -/
def State.liveWrite (s : State) (r : Request) : Option State :=
  if s.host.paused || !s.supRuns || s.sessionBad r || (s.stateRefuses r.cmd).isSome then none
  else if r.cmd = 0x22 then (if faultMaskForm r then some (s.takeMask r) else none)
  else if r.cmd = 0x71 ∧ paramForm r ∧ s.dev.st = .run then
    match paramItem (leAt r.payload 0 4) with
    | none => none
    | some i => if i.cls = 2 ∧ s.paramOk (leAt r.payload 8 8) i then some (s.paramSet (leAt r.payload 8 8) i) else none
  else none

/-- A request is accepted (R249, R253), and a class L write takes effect. -/
def acceptWrite (bytes : List Byte) (s : State) : State :=
  let t := acceptRequest bytes s
  match t.host.queue.drop s.host.queue.length with
  | [] => t
  | r :: _ =>
    match t.liveWrite r with
    | none => t
    | some u => { u with host := { u.host with queue := s.host.queue ++ [{ r with done := true }] } }

/-- WRITE_REQ. -/
def execWriteReq (t : Txn) (bytes : List Byte) (s : State) : Host.Outcome State Fault Refusal :=
  .next (s.transaction t (acceptWrite bytes))

end Sys2Proof.Machine
end

