-- ==== Sys2Proof/Machine/Dispatch.lean ====
section
/-! DEFINITION. The meaning of every command, one arm per constructor of `Instr`. -/

namespace Sys2Proof.Machine

def exec (i : Instr) (s : State) : Host.Outcome State Fault Refusal :=
  match i with
  | .writeReq t bytes => Sys2Proof.Machine.execWriteReq t bytes s
  | .readRsp t count => Sys2Proof.Machine.execReadRsp t count s
  | .readStatus t => Sys2Proof.Machine.execReadStatus t s
  | .rspRelease t tag => Sys2Proof.Machine.execRspRelease t tag s
  | .enterXspi t => Sys2Proof.Machine.execEnterXspi t s
  | .returnSpi t => Sys2Proof.Machine.execReturnSpi t s
  | .hello => Sys2Proof.Machine.execHello s
  | .identity => Sys2Proof.Machine.execIdentity s
  | .status => Sys2Proof.Machine.execStatus s
  | .statusAll => Sys2Proof.Machine.execStatusAll s
  | .cellRead => Sys2Proof.Machine.execCellRead s
  | .faultRead => Sys2Proof.Machine.execFaultRead s
  | .faultAck => Sys2Proof.Machine.execFaultAck s
  | .faultMask => Sys2Proof.Machine.execFaultMask s
  | .cfgStageBegin => Sys2Proof.Machine.execCfgStageBegin s
  | .cfgStageData => Sys2Proof.Machine.execCfgStageData s
  | .cfgStageEnd => Sys2Proof.Machine.execCfgStageEnd s
  | .cfgCheck aFault bFault => Sys2Proof.Machine.execCfgCheck aFault bFault s
  | .cfgCommit => Sys2Proof.Machine.execCfgCommit s
  | .cfgAbort => Sys2Proof.Machine.execCfgAbort s
  | .certRead => Sys2Proof.Machine.execCertRead s
  | .run => Sys2Proof.Machine.execRun s
  | .safe => Sys2Proof.Machine.execSafe s
  | .restart => Sys2Proof.Machine.execRestart s
  | .connStatus => Sys2Proof.Machine.execConnStatus s
  | .unknownPartners => Sys2Proof.Machine.execUnknownPartners s
  | .hostsigWrite => Sys2Proof.Machine.execHostsigWrite s
  | .hostsigRead => Sys2Proof.Machine.execHostsigRead s
  | .paramRead => Sys2Proof.Machine.execParamRead s
  | .paramWrite => Sys2Proof.Machine.execParamWrite s
  | .oxbInfo => Sys2Proof.Machine.execOxbInfo s
  | .oxbRead damage => Sys2Proof.Machine.execOxbRead damage s
  | .oxbFlush => Sys2Proof.Machine.execOxbFlush s
  | .selftestRequest => Sys2Proof.Machine.execSelftestRequest s
  | .selftestReport => Sys2Proof.Machine.execSelftestReport s
  | .calRead => Sys2Proof.Machine.execCalRead s
  | .calStart => Sys2Proof.Machine.execCalStart s
  | .fuseRead => Sys2Proof.Machine.execFuseRead s
  | .fuseProgram => Sys2Proof.Machine.execFuseProgram s
  | .fuseVerify differ => Sys2Proof.Machine.execFuseVerify differ s
  | .fuseSeal => Sys2Proof.Machine.execFuseSeal s
  | .fuseLock => Sys2Proof.Machine.execFuseLock s
  | .fwStageBegin => Sys2Proof.Machine.execFwStageBegin s
  | .fwStageData => Sys2Proof.Machine.execFwStageData s
  | .fwStageEnd => Sys2Proof.Machine.execFwStageEnd s
  | .fwActivate => Sys2Proof.Machine.execFwActivate s
  | .fwInfo => Sys2Proof.Machine.execFwInfo s
  | .optime => Sys2Proof.Machine.execOptime s
  | .rosProgram word => Sys2Proof.Machine.execRosProgram word s
  | .rosVerify word differs => Sys2Proof.Machine.execRosVerify word differs s
  | .rosSeal region => Sys2Proof.Machine.execRosSeal region s
  | .rosLock region => Sys2Proof.Machine.execRosLock region s
  | .rosOperationComplete reads final => Sys2Proof.Machine.execRosOperationComplete reads final s
  | .registerWrite r v => Sys2Proof.Machine.execRegisterWrite r v s
  | .systemTick vsupMv tj dis ecc => Sys2Proof.Machine.execSystemTick vsupMv tj dis ecc s
  | .couplerSlot => Sys2Proof.Machine.execCouplerSlot s
  | .fdRunFrame c frame smp => Sys2Proof.Machine.execFdRunFrame c frame smp s
  | .fdSyncFrame c frame smp => Sys2Proof.Machine.execFdSyncFrame c frame smp s
  | .fdCfgFrame c frame smp => Sys2Proof.Machine.execFdCfgFrame c frame smp s
  | .fieldWatchdogExpiry c => Sys2Proof.Machine.execFieldWatchdogExpiry c s
  | .fdPowerOn g vfMv => Sys2Proof.Machine.execFdPowerOn g vfMv s
  | .fdSupplyLoss g => Sys2Proof.Machine.execFdSupplyLoss g s
  | .vfUnderLockout g => Sys2Proof.Machine.execVfUnderLockout g s
  | .vfOverLockout g => Sys2Proof.Machine.execVfOverLockout g s
  | .vfUnderRelease g => Sys2Proof.Machine.execVfUnderRelease g s
  | .vfOverRelease g => Sys2Proof.Machine.execVfOverRelease g s
  | .overloadTimeout c => Sys2Proof.Machine.execOverloadTimeout c s
  | .overtemp c => Sys2Proof.Machine.execOvertemp c s
  | .overloadLockoutEnd c => Sys2Proof.Machine.execOverloadLockoutEnd c s
  | .statusFrame sd c frame dis => Sys2Proof.Machine.execStatusFrame sd c frame dis s
  | .couplerLostDetect sd c => Sys2Proof.Machine.execCouplerLostDetect sd c s
  | .vfMissingDetect sd g => Sys2Proof.Machine.execVfMissingDetect sd g s
  | .vfLowEnter sd g => Sys2Proof.Machine.execVfLowEnter sd g s
  | .vfLowLeave sd g => Sys2Proof.Machine.execVfLowLeave sd g s
  | .groupOverloadTimeout sd g => Sys2Proof.Machine.execGroupOverloadTimeout sd g s
  | .inputFilterChange sd c => Sys2Proof.Machine.execInputFilterChange sd c s
  | .gapToleranceOff sd c => Sys2Proof.Machine.execGapToleranceOff sd c s
  | .pulseSlotStart h => Sys2Proof.Machine.execPulseSlotStart h s
  | .pulseEvaluation sd h => Sys2Proof.Machine.execPulseEvaluation sd h s
  | .pulsePostSample sd h => Sys2Proof.Machine.execPulsePostSample sd h s
  | .pulseOverdueCount sd h => Sys2Proof.Machine.execPulseOverdueCount sd h s
  | .openLoadTimeout sd c => Sys2Proof.Machine.execOpenLoadTimeout sd c s
  | .cellBoundary n => Sys2Proof.Machine.execCellBoundary n s
  | .cellEvaluationDone sd n used => Sys2Proof.Machine.execCellEvaluationDone sd n used s
  | .reconciliationPoint n => Sys2Proof.Machine.execReconciliationPoint n s
  | .windowMiss sd n => Sys2Proof.Machine.execWindowMiss sd n s
  | .abDiscrepancy sd n => Sys2Proof.Machine.execAbDiscrepancy sd n s
  | .sigMismatch sd n => Sys2Proof.Machine.execSigMismatch sd n s
  | .eventLiveExpiry block index inst => Sys2Proof.Machine.execEventLiveExpiry block index inst s
  | .crstChipReset => Sys2Proof.Machine.execCrstChipReset s
  | .errpToggle => Sys2Proof.Machine.execErrpToggle s
  | .errpReadbackCheck land differs => Sys2Proof.Machine.execErrpReadbackCheck land differs s
  | .holdPatternFrame ms => Sys2Proof.Machine.execHoldPatternFrame ms s
  | .lockstepMismatch pair cell group same => Sys2Proof.Machine.execLockstepMismatch pair cell group same s
  | .pairRestoreDone pair rep => Sys2Proof.Machine.execPairRestoreDone pair rep s
  | .catchupLate sd n => Sys2Proof.Machine.execCatchupLate sd n s
  | .agrPersistCount pair kind index => Sys2Proof.Machine.execAgrPersistCount pair kind index s
  | .eccUncorrectable sd initiator place => Sys2Proof.Machine.execEccUncorrectable sd initiator place s
  | .portGuardBlock initiator region write => Sys2Proof.Machine.execPortGuardBlock initiator region write s
  | .cmpInjectionTest pair reports => Sys2Proof.Machine.execCmpInjectionTest pair reports s
  | .announceTransmit port => Sys2Proof.Machine.execAnnounceTransmit port s
  | .pduTransmit => Sys2Proof.Machine.execPduTransmit s
  | .frameTxDone port => Sys2Proof.Machine.execFrameTxDone port s
  | .txStaleDiscard port => Sys2Proof.Machine.execTxStaleDiscard port s
  | .frameReceived port bytes => Sys2Proof.Machine.execFrameReceived port bytes s
  | .arpRequest port => Sys2Proof.Machine.execArpRequest port s
  | .pauseFrame port => Sys2Proof.Machine.execPauseFrame port s
  | .pauseEnd port => Sys2Proof.Machine.execPauseEnd port s
  | .millraceFrame port => Sys2Proof.Machine.execMillraceFrame port s
  | .rxPickupTimeout port => Sys2Proof.Machine.execRxPickupTimeout port s
  | .dataPduAccept sd port => Sys2Proof.Machine.execDataPduAccept sd port s
  | .announceReceived sd port => Sys2Proof.Machine.execAnnounceReceived sd port s
  | .openSend sd n => Sys2Proof.Machine.execOpenSend sd n s
  | .openReceived sd port => Sys2Proof.Machine.execOpenReceived sd port s
  | .openAckReceived sd port => Sys2Proof.Machine.execOpenAckReceived sd port s
  | .refuseReceived sd port => Sys2Proof.Machine.execRefuseReceived sd port s
  | .openingTimeout sd n => Sys2Proof.Machine.execOpeningTimeout sd n s
  | .announceTimeout sd n => Sys2Proof.Machine.execAnnounceTimeout sd n s
  | .connWatchdogExpiry sd n => Sys2Proof.Machine.execConnWatchdogExpiry sd n s
  | .linkDown port => Sys2Proof.Machine.execLinkDown port s
  | .linkUp port => Sys2Proof.Machine.execLinkUp port s
  | .mdioPoll linkBit => Sys2Proof.Machine.execMdioPoll linkBit s
  | .channelSliceStart calibrate => Sys2Proof.Machine.execChannelSliceStart calibrate s
  | .coverageLate c => Sys2Proof.Machine.execCoverageLate c s
  | .coverageLost c => Sys2Proof.Machine.execCoverageLost c s
  | .logicServiceCheck r => Sys2Proof.Machine.execLogicServiceCheck r s
  | .fieldUnitSlice g => Sys2Proof.Machine.execFieldUnitSlice g s
  | .fieldUnitSliceDone g r => Sys2Proof.Machine.execFieldUnitSliceDone g r s
  | .portUnitSlice port goodFrames signature expected => Sys2Proof.Machine.execPortUnitSlice port goodFrames signature expected s
  | .calChannelDone c r => Sys2Proof.Machine.execCalChannelDone c r s
  | .measurementBlock vsupMin logicTemp => Sys2Proof.Machine.execMeasurementBlock vsupMin logicTemp s
  | .recordClose code inst => Sys2Proof.Machine.execRecordClose code inst s
  | .flushStart => Sys2Proof.Machine.execFlushStart s
  | .flushDeferred => Sys2Proof.Machine.execFlushDeferred s
  | .flushHourly => Sys2Proof.Machine.execFlushHourly s
  | .flushDone r => Sys2Proof.Machine.execFlushDone r s
  | .tlRetry => Sys2Proof.Machine.execTlRetry s
  | .operatingSecond => Sys2Proof.Machine.execOperatingSecond s
  | .hsHoldTimeout => Sys2Proof.Machine.execHsHoldTimeout s
  | .liveTranslationDone sd => Sys2Proof.Machine.execLiveTranslationDone sd s
  | .commitTick => Sys2Proof.Machine.execCommitTick s
  | .handoverPoint startOk => Sys2Proof.Machine.execHandoverPoint startOk s
  | .handoverTimeout => Sys2Proof.Machine.execHandoverTimeout s
  | .handoverComplete reports => Sys2Proof.Machine.execHandoverComplete reports s
  | .powerOn vsupMv => Sys2Proof.Machine.execPowerOn vsupMv s
  | .vsupBrownout => Sys2Proof.Machine.execVsupBrownout s
  | .resetNLow => Sys2Proof.Machine.execResetNLow s
  | .resetRelease testmode pllLocked ratioDev => Sys2Proof.Machine.execResetRelease testmode pllLocked ratioDev s
  | .holdRetry pllLocked ratioDev => Sys2Proof.Machine.execHoldRetry pllLocked ratioDev s
  | .rosSensing odd => Sys2Proof.Machine.execRosSensing odd s
  | .romBankCheck secondsErr => Sys2Proof.Machine.execRomBankCheck secondsErr s
  | .supImageStart secondsErr cyclesErr => Sys2Proof.Machine.execSupImageStart secondsErr cyclesErr s
  | .configBankSelect => Sys2Proof.Machine.execConfigBankSelect s
  | .formReverify sd intact fault => Sys2Proof.Machine.execFormReverify sd intact fault s
  | .certCheck => Sys2Proof.Machine.execCertCheck s
  | .verifyExit => Sys2Proof.Machine.execVerifyExit s
  | .pfailWarning byPin => Sys2Proof.Machine.execPfailWarning byPin s
  | .domainShedding => Sys2Proof.Machine.execDomainShedding s
  | .pfailClear => Sys2Proof.Machine.execPfailClear s
  | .pfailRecovery => Sys2Proof.Machine.execPfailRecovery s
  | .railFault rail => Sys2Proof.Machine.execRailFault rail s
  | .vsupHigh => Sys2Proof.Machine.execVsupHigh s
  | .pllLockLoss => Sys2Proof.Machine.execPllLockLoss s
  | .serdesLockLoss => Sys2Proof.Machine.execSerdesLockLoss s
  | .ratioWindowEnd count => Sys2Proof.Machine.execRatioWindowEnd count s
  | .ratioWindowTimeout => Sys2Proof.Machine.execRatioWindowTimeout s
  | .extest scanIn => Sys2Proof.Machine.execExtest scanIn s
  | .samplePreload scanIn => Sys2Proof.Machine.execSamplePreload scanIn s
  | .idcode => Sys2Proof.Machine.execIdcode s
  | .holdReason => Sys2Proof.Machine.execHoldReason s
  | .debug inject => Sys2Proof.Machine.execDebug inject s
  | .bypass code => Sys2Proof.Machine.execBypass code s
  | .unknownOpcodeTransaction t opcode => Sys2Proof.Machine.execUnknownOpcodeTransaction t opcode s
  | .admissionComplete aFault bFault => Sys2Proof.Machine.execAdmissionComplete aFault bFault s
  | .handoverFormsReady => Sys2Proof.Machine.execHandoverFormsReady s
  | .serdesLockRegained => Sys2Proof.Machine.execSerdesLockRegained s
  | .vsupHighEnd => Sys2Proof.Machine.execVsupHighEnd s
  | .railReturn rail => Sys2Proof.Machine.execRailReturn rail s
  | .groupOverloadClear sd g => Sys2Proof.Machine.execGroupOverloadClear sd g s
  | .tapReset => Sys2Proof.Machine.execTapReset s

end Sys2Proof.Machine
end

