-- ==== Sys2Proof/WellFormed.lean ====
section
/-! DEFINITION. Which operands a command can have: the index ranges of Table 1.2, R56 (64 channels in four groups), 256
cells, 4,096 connections, three ports, twelve-bit fuse words. A command outside them names nothing the block has. -/

namespace Sys2Proof

def chanOk (c : Nat) : Bool := decide (c < 64)
def groupOk (g : Nat) : Bool := decide (g < 4)
def portOk (k : Nat) : Bool := decide (k < 3)
def cellOk (n : Nat) : Bool := decide (n < 256)
def connOk (n : Nat) : Bool := decide (n < 4096)
def pairOk (p : Nat) : Bool := decide (1 ≤ p) && decide (p ≤ 6)
/-- The comparator has 96 lane groups (R183). -/
def laneGroupOk (g : Nat) : Bool := decide (g < 96)
def fuseWordOk (w : Nat) : Bool := decide (w < 4096)
/-- The OP of a ROS_CMD write that no row of its own stands for: none, or a reserved code (Table 16.4). -/
def regOpOk (v : Word) : Bool := v.toNat / 2 ^ 20 % 16 == 0 || decide (5 ≤ v.toNat / 2 ^ 20 % 16)

/-- An instruction code of the TAP that selects BYPASS: 0xFF, or one of eight bits that Table 18.9 does not list (R390). -/
def bypassCodeOk (code : Nat) : Bool := decide (code < 256) && decide (code ∉ [0x00, 0x01, 0x02, 0x10, 0x20])

/-- The operands of a command name things the block has. -/
def Instr.wf : Instr → Bool
  | .fdRunFrame c _ _ => chanOk c
  | .fdSyncFrame c _ _ => chanOk c
  | .fdCfgFrame c _ _ => chanOk c
  | .fieldWatchdogExpiry c => chanOk c
  | .fdPowerOn g _ => groupOk g
  | .fdSupplyLoss g => groupOk g
  | .vfUnderLockout g => groupOk g
  | .vfOverLockout g => groupOk g
  | .vfUnderRelease g => groupOk g
  | .vfOverRelease g => groupOk g
  | .overloadTimeout c => chanOk c
  | .overtemp c => chanOk c
  | .overloadLockoutEnd c => chanOk c
  | .statusFrame _ c _ _ => chanOk c
  | .couplerLostDetect _ c => chanOk c
  | .vfMissingDetect _ g => groupOk g
  | .vfLowEnter _ g => groupOk g
  | .vfLowLeave _ g => groupOk g
  | .groupOverloadTimeout _ g => groupOk g
  | .groupOverloadClear _ g => groupOk g
  | .inputFilterChange _ c => chanOk c
  | .gapToleranceOff _ c => chanOk c
  | .pulseSlotStart h => chanOk h
  | .pulseEvaluation _ h => chanOk h
  | .pulsePostSample _ h => chanOk h
  | .pulseOverdueCount _ h => chanOk h
  | .openLoadTimeout _ c => chanOk c
  | .cellBoundary n => cellOk n
  | .cellEvaluationDone _ n _ => cellOk n
  | .reconciliationPoint n => cellOk n
  | .windowMiss _ n => cellOk n
  | .abDiscrepancy _ n => cellOk n
  | .sigMismatch _ n => cellOk n
  | .catchupLate _ n => cellOk n
  | .lockstepMismatch p _ g _ => pairOk p && laneGroupOk g
  | .pairRestoreDone p _ => pairOk p
  | .agrPersistCount p _ _ => pairOk p
  | .cmpInjectionTest p _ => pairOk p
  | .announceTransmit k => portOk k
  | .frameTxDone k => portOk k
  | .txStaleDiscard k => portOk k
  | .frameReceived k _ => portOk k
  | .arpRequest k => portOk k
  | .pauseFrame k => portOk k
  | .pauseEnd k => portOk k
  | .millraceFrame k => portOk k
  | .rxPickupTimeout k => portOk k
  | .dataPduAccept _ k => portOk k
  | .announceReceived _ k => portOk k
  | .openReceived _ k => portOk k
  | .openAckReceived _ k => portOk k
  | .refuseReceived _ k => portOk k
  | .openSend _ n => connOk n
  | .openingTimeout _ n => connOk n
  | .announceTimeout _ n => connOk n
  | .connWatchdogExpiry _ n => connOk n
  | .linkDown k => portOk k
  | .linkUp k => portOk k
  | .coverageLate c => chanOk c
  | .coverageLost c => chanOk c
  | .fieldUnitSlice g => groupOk g
  | .fieldUnitSliceDone g _ => groupOk g
  | .portUnitSlice k _ _ _ => portOk k
  | .calChannelDone c _ => chanOk c
  | .rosProgram w => fuseWordOk w
  | .rosVerify w _ => fuseWordOk w
  | .registerWrite .cmd v => regOpOk v
  | .railFault r => decide (r < 4)
  | .railReturn r => decide (r < 4)
  | .errpReadbackCheck l _ => decide (l < 2)
  | .bypass code => bypassCodeOk code
  | _ => true

end Sys2Proof
end

