-- ==== Sys2Proof/Safety.lean ====
section
/-! DEFINITION. The terms that statements about the block use: a run that never stops, what a command leaves unchanged, a mailbox
request that is about to be served, and the outputs of R31. -/

namespace Sys2Proof.Safety

open Sys2Proof.Machine

/-- A step of the block answers a next state. -/
def Goes (s : State) : Prop := ∃ t, step s = .next t

/-- Every command of a list is well-formed. -/
def WellFormed (cs : List Instr) : Prop := ∀ c ∈ cs, c.wf = true

/-- A device state in which the cells may command the field switches (Table 2.1). -/
def SwitchesAllowed (s : State) : Prop := s.dev.st = .run

/-- The ASCII string "123456789" of the check values. -/
def digits : List Byte := [0x31, 0x32, 0x33, 0x34, 0x35, 0x36, 0x37, 0x38, 0x39]

/-! ### Frames -/

/-- The parts of the state, one for each field. -/
inductive Part where
  | time | dev | host | hs | faults | pairs | cfg | params | cells | field | weir | oxb | ros | pwr | clk | rif | bundles
  | mems | jtag | pending | free
deriving DecidableEq, Repr

/-- The part is the same in both states. -/
def Part.same (s t : State) : Part → Prop
  | .time => t.time = s.time
  | .dev => t.dev = s.dev
  | .host => t.host = s.host
  | .hs => t.hs = s.hs
  | .faults => t.faults = s.faults
  | .pairs => t.pairs = s.pairs
  | .cfg => t.cfg = s.cfg
  | .params => t.params = s.params
  | .cells => t.cells = s.cells
  | .field => t.field = s.field
  | .weir => t.weir = s.weir
  | .oxb => t.oxb = s.oxb
  | .ros => t.ros = s.ros
  | .pwr => t.pwr = s.pwr
  | .clk => t.clk = s.clk
  | .rif => t.rif = s.rif
  | .bundles => t.bundles = s.bundles
  | .mems => t.mems = s.mems
  | .jtag => t.jtag = s.jtag
  | .pending => t.pending = s.pending
  | .free => t.free = s.free

/-- Every part but those named is unchanged. -/
def SameBut (ps : List Part) (s t : State) : Prop := ∀ p, p ∉ ps → p.same s t

/-- The command answers a next state, and this holds of it. -/
def Gives (c : Instr) (s : State) (p : State → Prop) : Prop := ∃ t, exec c s = .next t ∧ p t

/-- The state with only HOST changed. -/
def withHost (s : State) (h : HostSt) : State := { s with host := h }

/-! ### Host transactions (R247 to R249) -/

/-- HOST is powered and clocked, and in xSPI the complement and the address are right. -/
def Heard (t : Txn) (s : State) : Prop :=
  s.on 8 = true ∧ s.clocked = true ∧ (s.host.iface = .xspi → t.xspiOk = true)

/-- The interface once the transaction has begun: xSPI stays, and SPI takes its mode from HSCK. -/
def ifaceOf (t : Txn) (s : State) : Iface :=
  if s.host.iface = .xspi then .xspi else if t.sckHigh then .spi3 else .spi0

/-- The state once the transaction has begun. -/
def begun (t : Txn) (s : State) : State := { s with host := { s.host with iface := ifaceOf t s } }

/-- A transaction rejected whole: its reason, the two counts, and the event of HOST that reports it. -/
def rejected (reason : Nat) (s : State) : State :=
  ({ s with host := { s.host with lastReject := reason, rejectCount := (s.host.rejectCount + 1) % 16,
                                  rejected := (s.host.rejected + 1) % 2 ^ 32 } } : State).event bHOST 1 reason

/-- The CRC field of a message is right (R251). -/
def CrcRight (bytes : List Byte) : Prop :=
  leAt bytes 12 4 = crc32Ether (bytes.take 12 ++ zeros 4 ++ bytes.drop 16)

/-- The length of a WRITE_REQ is right. -/
def LengthRight (bytes : List Byte) : Prop := 16 ≤ bytes.length ∧ bytes.length ≤ 4096 ∧ leAt bytes 0 2 = bytes.length

/-- The request that a message carries, with the device state of its acceptance. -/
def requestOf (bytes : List Byte) (s : State) : Request :=
  ⟨leAt bytes 2 1, leAt bytes 3 1, leAt bytes 4 2, leAt bytes 8 4, bytes.drop 16, false, s.dev.st.code, false⟩

/-- The conditions of R356 on supply, temperature and the power-fail warning. -/
def FuseConditions (s : State) : Prop :=
  2500 ≤ s.pwr.vsup ∧ s.pwr.vsup ≤ 3600 ∧ 0 ≤ s.pwr.tj ∧ s.pwr.tj ≤ 85 ∧ s.pwr.warning = none

/-- The state with only ROS changed. -/
def withRos (s : State) (r : RosSt) : State := { s with ros := r }

/-! ### Requests (R254 to R257) -/

/-- The mailbox is about to serve `r`: it is the oldest request, captured, with no effect at its acceptance (R267), HOST and SUP work, no
request that blocks is under way; `q` is queued behind it, and its first request, if any, is not yet captured or carries a command of
Table 11.5. -/
structure AtFront (r : Request) (q : List Request) (s : State) : Prop where
  queue : s.host.queue = r :: q
  captured : r.captured = true
  fresh : r.done = false
  ready : s.host.ready = true
  paused : s.host.paused = false
  blocked : s.serveBlocked = false
  power : s.on 8 = true
  sup : s.supRuns = true
  behind : ∀ r' ∈ q.head?, r'.captured = true → (cmdVersion r'.cmd).isSome = true

/-- The request belongs to the current session, which has the command. -/
def InSession (r : Request) (s : State) : Prop :=
  s.host.session ≠ 0 ∧ r.session = s.host.session ∧ r.version = s.host.version ∧
    ∃ v, cmdVersion r.cmd = some v ∧ v ≤ s.host.version

/-- The request has left the queue. -/
def popped (q : List Request) (s : State) : State := { s with host := { s.host with queue := q } }

/-- The request has left the queue and its response has joined the responses. -/
def answered (r : Request) (q : List Request) (status : Nat) (payload : List Byte) (s : State) : State :=
  { s with host := { s.host with queue := q, rsp := s.host.rsp ++ [r.response s.host.session status payload] } }

/-- The request is the next one served, belongs to the session, carries this command, and the device state serves it. -/
structure Served (code : Nat) (r : Request) (q : List Request) (s : State) : Prop extends AtFront r q s where
  cmd : r.cmd = code
  session : InSession r s
  state : s.stateRefuses code = none

/-- The response that the session gives to a request. -/
def ok (r : Request) (s : State) (payload : List Byte) : Response := r.response s.host.session stOK payload

/-- The request has left the queue and waits for its answer. -/
def waits (r : Request) (q : List Request) (on : WaitFor) (s : State) : State :=
  { s with host := { s.host with queue := q, waiting := s.host.waiting ++ [⟨r, on⟩] } }

/-- Services and their codes (Table 11.5): each answers the checks of R255 to R257 before it looks at its payload. HELLO has a check
of its own; the phases of FW_STAGE share one code, and FUSE_VERIFY waits for the fuse controller. `a` and `b` are what an injected fault
makes of the translators' verdicts, `ds` the damage that a read of Oxbow's records meets. -/
def services (a b : Option Verdict) (ds : List RecordDamage) : List (Instr × Nat) :=
  [(.identity, 0x10), (.status, 0x11), (.statusAll, 0x12), (.cellRead, 0x13), (.faultRead, 0x20), (.faultAck, 0x21),
   (.faultMask, 0x22), (.cfgStageBegin, 0x30), (.cfgStageData, 0x31), (.cfgStageEnd, 0x32), (.cfgCheck a b, 0x33),
   (.cfgCommit, 0x34), (.cfgAbort, 0x35), (.certRead, 0x38), (.run, 0x40), (.safe, 0x41), (.restart, 0x42)] ++
  [(.connStatus, 0x50), (.unknownPartners, 0x51), (.hostsigWrite, 0x60), (.hostsigRead, 0x61), (.paramRead, 0x70),
   (.paramWrite, 0x71), (.oxbInfo, 0x80), (.oxbRead ds, 0x81), (.oxbFlush, 0x82), (.selftestRequest, 0x90), (.selftestReport, 0x91),
   (.calRead, 0xA0), (.calStart, 0xA1), (.fuseRead, 0xB0), (.fuseProgram, 0xB1), (.fuseSeal, 0xB3), (.fuseLock, 0xB4),
   (.fwActivate, 0xC1), (.fwInfo, 0xC2), (.optime, 0xD0)]

/-- A well-formed request for this command is answered OK with this payload; beside the queue and the responses only the counter of
free values moves. -/
def AnswersOk (c : Instr) (code : Nat) (form : Request → State → Prop) (body : Request → State → List Byte) : Prop :=
  ∀ s r q, Served code r q s → form r s →
    ∃ n, exec c s = .next { answered r q stOK (body r (popped q s)) s with free := n }

/-! ### Invariants -/

/-- R253: the tags that the device holds are among the 32 tags, each once. -/
def TagsOk (s : State) : Prop := s.host.held.Nodup ∧ ∀ t ∈ s.host.held, t ≤ 31

/-- R259: the bytes of a staging stand at rising addresses below its length. -/
def StagingOk (x : Option Staging) : Prop :=
  ∀ y, x = some y → (y.mem.map (·.1)).Pairwise (· < ·) ∧ ∀ c ∈ y.mem, c.1 < y.length

/-- The fuse array lists each word once, in rising order. -/
def FusesOk (s : State) : Prop := (s.ros.fuses.map (·.1)).Pairwise (· < ·)

/-- R314: the open records have pairwise different pairs of code and instance. -/
def RecordsOk (s : State) : Prop := (s.oxb.openRecs.map (fun o => (o.rcd.code, o.rcd.inst))).Nodup

/-- R259, R268: CONFIGURE remembers that it was entered from SAFE or MAINTENANCE (Table 2.3). -/
def ConfigFromOk (s : State) : Prop :=
  ∀ st m r x, s.dev.configFrom = some (st, m, r, x) → st = .safe ∨ st = .maintenance

/-- The invariant of the block. -/
structure Inv (s : State) : Prop where
  tags : TagsOk s
  container : StagingOk s.cfg.staging
  bundle : StagingOk s.bundles.staging
  fuses : FusesOk s
  configure : ConfigFromOk s

/-- The two switches of a channel of a field die. -/
def switchOf (s : State) (c : Nat) : Side → Bool
  | .a => (s.chan c).swA
  | .b => (s.chan c).swB

/-- The token field of a side in a command frame (Table 3.12). -/
def tokenField (f : BitVec 40) : Side → Nat
  | .a => frBits f 32 27
  | .b => frBits f 26 21

end Sys2Proof.Safety
end

