-- ==== Sys2Proof/Certificates/Slice0/Obligations.lean ====
section
/-! DEFINITION. The statements for the provers: one `Obligations.<Name> : Prop` each. -/

open Sys2Proof Sys2Proof.Machine Sys2Proof.Safety


/-- A step takes the command at the front of the queue and answers what `exec` answers with the queue's rest (log 1: an empty queue idles). -/
def Obligations.StepRunsFrontCommand : Prop :=
  (∀ (c : Instr) (rest : List Instr) (s : State),
    step { s with pending := c :: rest } = exec c { s with pending := rest }) ∧
  ∀ s : State, step { s with pending := [] } = .next { s with pending := [] }

/-- From R76, R78, R132, R214, R251: the check values of the field CRCs, the tokens, the state signature, the four Millrace CRCs and the
message CRC, over the nine ASCII bytes "123456789". What the block is right after reset: device RESET, PD0 alone powered, READY 0, all
32 tags free, no reject, the lands of the error pair asserted, the TAP with the IDCODE register. (The model's choices it rests on: log
2, 3.) -/
def Obligations.CheckValuesAndReset : Prop :=
  (crc 8 0x07 0 digits = 0xF4 ∧ crc 8 0x2F 0xFF digits ^^^ 0xFF = 0xDF ∧
  token .a 1 true 0 = 0x21 ∧ token .b 1 true 0 = 0x37 ∧
  crc64 0 digits = 0x6C40DF5F0B497347 ∧
  safetyCrc 1 true digits = 0x29B1 ∧ safetyCrc 1 false digits = 0xD0DB ∧
  safetyCrc 2 true digits = 0xE3069283 ∧ safetyCrc 2 false digits = 0x085A3197 ∧
  crc32Ether digits = 0xCBF43926) ∧
  (State.reset.dev.st = .reset ∧ State.reset.pwr.domains = [0] ∧ State.reset.host.ready = false ∧
  State.reset.host.held = [] ∧ State.reset.host.lastReject = 0 ∧ State.reset.host.rejectCount = 0 ∧
  State.reset.errpLevels = (false, true) ∧ State.reset.jtag.ir = 0x02 ∧ State.reset.jtag.dr = 0x19640E4B ∧
  State.reset.pending = [])

/-- From R249, R253, R267: a message that R249 does not reject is accepted whole: it is queued last and its tag held, or, with READY 0,
answered NOT_READY; a class L write that its service would take has its effect at this edge and is queued as done. From R249: what makes
the device reject a WRITE_REQ whole, each with its reason in LAST_REJECT. From R249: a rejection counts, names its reason and reports
REJECTED; without a committed policy it changes nothing else of HOST. (The model's choices it rests on: log 11, 98, 106.) -/
def Obligations.WriteReqAcceptedOrRejected : Prop :=
  (∀ (t : Txn) (bytes : List Byte) (s : State),
    Heard t s → LengthRight bytes → CrcRight bytes → leAt bytes 2 1 ≤ 31 → leAt bytes 2 1 ∉ s.host.held →
    let h : HostSt := { s.host with iface := ifaceOf t s, accepted := (s.host.accepted + 1) % 2 ^ 32 }
    let r := requestOf bytes s
    let u := withHost s { h with queue := s.host.queue ++ [r] }
    (s.host.ready = true →
      (r.cmd ≠ 0x22 → r.cmd ≠ 0x71 → exec (.writeReq t bytes) s = .next u) ∧
      (u.liveWrite r = none → exec (.writeReq t bytes) s = .next u) ∧
      (∀ v, u.liveWrite r = some v → exec (.writeReq t bytes) s =
        .next (withHost v { v.host with queue := s.host.queue ++ [{ r with done := true }] }))) ∧
    (s.host.ready = false → exec (.writeReq t bytes) s =
      .next (withHost s { h with rsp := s.host.rsp ++ [r.response s.host.session stNOT_READY []] }))) ∧
  (∀ (t : Txn) (bytes : List Byte) (s : State), Heard t s →
    (¬ LengthRight bytes → exec (.writeReq t bytes) s = .next (rejected 2 (begun t s))) ∧
    (LengthRight bytes → ¬ CrcRight bytes → exec (.writeReq t bytes) s = .next (rejected 1 (begun t s))) ∧
    (LengthRight bytes → CrcRight bytes → 31 < leAt bytes 2 1 →
      exec (.writeReq t bytes) s = .next (rejected 3 (begun t s))) ∧
    (LengthRight bytes → CrcRight bytes → leAt bytes 2 1 ≤ 31 → leAt bytes 2 1 ∈ s.host.held →
      exec (.writeReq t bytes) s = .next (rejected 4 (begun t s)))) ∧
  (∀ (reason : Nat) (s : State), s.dev.loaded = false →
    (rejected reason s).host = { s.host with lastReject := reason, rejectCount := (s.host.rejectCount + 1) % 16,
                                             rejected := (s.host.rejected + 1) % 2 ^ 32 } ∧
    SameBut [.host, .faults, .oxb, .pwr] s (rejected reason s))

/-- From Table 11.1, R254: READ_RSP returns the head response from byte 0 and leaves it, READ_STATUS clears the event bits, RSP_RELEASE
removes the head when the tag is its own and is rejected otherwise. From Table 11.2: the fields of the transport status, word 0 in bytes
0 to 3 and word 1 in bytes 4 to 7, least significant byte first. (The model's choices it rests on: log 9, 10.) -/
def Obligations.ResponsesAndTransportStatus : Prop :=
  (∀ (t : Txn) (s : State), Heard t s →
    let h : HostSt := { s.host with iface := ifaceOf t s }
    (∀ count r rest, s.host.rsp = r :: rest → count ≤ r.bytes.length →
      exec (.readRsp t count) s = .next (withHost s { h with out := r.bytes.take count })) ∧
    (∀ count, ∃ pad n, exec (.readRsp t count) s = .next { withHost s
      { h with out := ((s.host.rsp.head?.map (·.bytes)).getD []).take count ++ pad } with free := n }) ∧
    (exec (.readStatus t) s = .next (withHost s { h with
      out := s.transportStatus, evHandover := false, evHsTimeout := false, evState := false, evFault := false, evReady := false })) ∧
    (∀ r rest, s.host.rsp = r :: rest → exec (.rspRelease t r.tag) s = .next (withHost s { h with rsp := rest })) ∧
    (∀ tag, (∀ r ∈ s.host.rsp.head?, r.tag ≠ tag) → exec (.rspRelease t tag) s = .next (rejected 6 (begun t s)))) ∧
  (∀ s : State, s.host.held.length ≤ 32 → s.host.lastReject < 16 → s.host.rejectCount < 16 →
    (∀ r ∈ s.host.rsp, r.tag < 256 ∧ r.bytes.length < 8192) →
    s.transportStatus.length = 8 ∧
    (let w := leAt s.transportStatus 0 4
     w.testBit 31 = s.host.ready ∧ w.testBit 30 = s.host.rom ∧ bitsOf w 29 24 + s.host.held.length = 32 ∧
     bitsOf w 23 18 = s.host.rsp.length ∧ bitsOf w 17 16 = 0 ∧ bitsOf w 15 12 = s.host.lastReject ∧
     bitsOf w 11 8 = s.host.rejectCount ∧ bitsOf w 7 5 = 0 ∧ w.testBit 4 = s.host.evHandover ∧
     w.testBit 3 = s.host.evHsTimeout ∧ w.testBit 2 = s.host.evState ∧ w.testBit 1 = s.host.evFault ∧
     w.testBit 0 = s.host.evReady) ∧
    (let w := leAt s.transportStatus 4 4
     bitsOf w 23 13 = 0 ∧
     (s.host.rsp = [] → bitsOf w 31 24 = 0xFF ∧ bitsOf w 12 0 = 0) ∧
     ∀ r rest, s.host.rsp = r :: rest → bitsOf w 31 24 = r.tag ∧ bitsOf w 12 0 = r.bytes.length))

/-- From R248, R249, Table 17.2: a transaction is unanswered while HOST has no power or no clock, and rejected with reason 7 when the
complement or the address of an xSPI transaction is wrong. From R247, R249, Table 11.1: ENTER_XSPI is an SPI opcode and RETURN_SPI an
xSPI opcode; elsewhere, and for an opcode that the table does not have, the transaction is rejected with reason 5. (The model's choices
it rests on: log 5.) -/
def Obligations.TransactionsHeardAndSwitched : Prop :=
  (∀ (t : Txn) (s : State) (c : Instr),
    (c ∈ [.enterXspi t, .returnSpi t, .readStatus t] ∨ (∃ b, c = .writeReq t b) ∨ (∃ n, c = .readRsp t n) ∨ ∃ g, c = .rspRelease t g) →
    (s.on 8 = false ∨ s.clocked = false → exec c s = .next { s with host := { s.host with out := [] } }) ∧
    (s.on 8 = true → s.clocked = true → s.host.iface = .xspi → t.xspiOk = false → exec c s = .next (rejected 7 s))) ∧
  (∀ (t : Txn) (s : State), Heard t s →
    (s.host.iface ≠ .xspi → exec (.enterXspi t) s = .next { s with host := { s.host with iface := .xspi } }) ∧
    (s.host.iface = .xspi → exec (.enterXspi t) s = .next (rejected 5 s)) ∧
    (s.host.iface = .xspi → exec (.returnSpi t) s = .next { s with host := { s.host with iface := .spi0 } }) ∧
    (s.host.iface ≠ .xspi → exec (.returnSpi t) s = .next (rejected 5 (begun t s))) ∧
    (∀ op : Byte, op ∉ [0x02#8, 0x0B#8, 0x05#8, 0x0D#8, 0xE8#8, 0xFF#8] →
      exec (.unknownOpcodeTransaction t op) s = .next (rejected 5 (begun t s))) ∧
    (s.host.iface = .xspi → exec (.unknownOpcodeTransaction t 0xE8) s = .next (rejected 5 s)) ∧
    (s.host.iface ≠ .xspi → exec (.unknownOpcodeTransaction t 0xFF) s = .next (rejected 5 (begun t s))))

/-- From R255, R256, R257: before a payload is looked at, a service checks the session, the version and the device state. From Tables 2.1
and 2.8, R33, R47, R48: which device state serves which of the commands of Table 11.5, and what the others answer. (The model's choices
it rests on: log 7, 11, 19.) -/
def Obligations.ServicesCheckSessionAndState : Prop :=
  (∀ (va vb : Option Verdict) (ds : List RecordDamage), ∀ e ∈ services va vb ds, ∀ (s : State) (r : Request) (q : List Request), AtFront r q s → r.cmd = e.2 →
    (s.host.session = 0 ∨ r.session ≠ s.host.session ∨ r.version ≠ s.host.version →
      exec e.1 s = .next (answered r q stBAD_SESSION [] s)) ∧
    (s.host.session ≠ 0 → r.session = s.host.session → r.version = s.host.version → s.host.version = 1 →
      e.2 ∈ [0x12, 0x13, 0x91] → exec e.1 s = .next (answered r q stUNKNOWN_CMD [] s)) ∧
    (InSession r s → ∀ st, s.stateRefuses e.2 = some st → exec e.1 s = .next (answered r q st [] s))) ∧
  (∀ (s : State) (code : Nat), (cmdVersion code).isSome = true →
    (s.dev.st = .run ∨ s.dev.st = .safe → s.stateRefuses code = none) ∧
    (s.dev.st = .boot → s.stateRefuses code = if code = 0x01 then none else some stNOT_READY) ∧
    (s.dev.st = .configure → s.stateRefuses code = if code ∈ [0x40, 0x41, 0x42] then some stWRONG_STATE else none) ∧
    (s.dev.st = .latched → s.stateRefuses code =
      if code ∈ [0x01, 0x10, 0x11, 0x12, 0x20, 0x80, 0x81] then none else some stWRONG_STATE) ∧
    (s.dev.st = .verify → s.stateRefuses code =
      if code ∈ [0x01, 0x10, 0x11, 0x12, 0x13, 0x20, 0x38, 0x41, 0x50, 0x51, 0x61, 0x70, 0x80, 0x81, 0x91, 0xA0, 0xB0, 0xB2, 0xC2, 0xD0]
      then none else some stWRONG_STATE) ∧
    (s.dev.st = .maintenance → s.dev.maint = .rom → s.stateRefuses code =
      if code ∈ [0x01, 0x10, 0x11, 0x12, 0x20, 0x21, 0xC0, 0xC1, 0xB0, 0xB2, 0x80, 0x81, 0xD0] then none else some stWRONG_STATE))

/-- From R255: HELLO in a mailbox with no request of the old session left opens a session with a new non-zero number in the highest
version both sides offer, and discards the responses of the old session alone, that of the HELLO that opened it among them; a wrong
header changes nothing, and without a common version no session starts. (The model's choices it rests on: log 7, 16, 17.) -/
def Obligations.HelloOpensSession : Prop :=
  ∀ (s : State) (r : Request) (q : List Request), AtFront r q s → r.cmd = 0x01 →
    (r.version ≠ 1 ∨ r.session ≠ 0 → exec .hello s = .next (answered r q stBAD_SESSION [] s)) ∧
    (r.version = 1 → r.session = 0 → r.payload.length = 20 → leAt r.payload 2 2 = 0 → leAt r.payload 0 2 ≤ 3 →
      s.host.waiting = [] →
      (leAt r.payload 0 2 &&& s.versions = 0 → exec .hello s = .next (answered r q stNO_COMMON_VERSION [] s)) ∧
      (leAt r.payload 0 2 &&& s.versions ≠ 0 →
        ∃ n payload, n ≠ 0 ∧ n < 2 ^ 32 ∧ n ≠ s.host.session ∧
          let v := if (leAt r.payload 0 2 &&& s.versions).testBit 1 then 2 else 1
          exec .hello s = .next { withHost s { s.host with
              queue := q, session := n, version := v,
              rsp := s.host.rsp.filter (fun x => x.session == 0 || x.session != s.host.session) ++
                [({ r with session := n } : Request).response n stOK payload] } with free := s.free + 1 } ∧
            payload.length = 20 ∧ leAt payload 0 1 = v ∧ leAt payload 4 4 = n))

/-- From Table 11.5: the services that report identity, status, faults, cells and operating time answer OK with the payload of the table and
change nothing else. From Table 11.5: the services that read connections, host signals, parameters and certificates answer OK with the
payload of the table and change nothing else. From Table 11.7 and CELL_READ: the 32 bytes of a status block hold each field of the table at
its bits, with 0 in the bits the table does not name, and the 8 bytes of a cell what CELL_READ lists. (The model's choices it rests on: log
7, 83, 84, 85.) -/
def Obligations.ReadServicesAnswer : Prop :=
  (AnswersOk .identity 0x10 (fun r _ => r.payload = []) (fun _ s =>
    leBytes 8 s.identity ++ leBytes 2 s.stepping ++ leBytes 1 ((s.shadow 1).val.toNat / 65536 % 256) ++ [0] ++ beBytes 6 s.baseMac ++
      [0, 0] ++ s.publicKey ++ leBytes 1 s.commitKeyState ++ [0, 0, 0] ++
      (if s.host.version = 2 then leBytes 2 s.fusedEpoch ++ leBytes 1 (b2n s.ros.jtagLocked) ++ [0] else [])) ∧
  AnswersOk .status 0x11 (fun r _ => ∃ b, isBlock b = true ∧ r.payload = [byte b, 0, 0, 0]) (fun r s =>
    s.statusBlock (leAt r.payload 0 1) (s.host.held.length + 1) s.free) ∧
  AnswersOk .statusAll 0x12 (fun r _ => r.payload = []) (fun _ s =>
    leBytes 2 35 ++ [0, 0] ++
      (blockIds.map (fun b => s.statusBlock b (s.host.held.length + 1) (s.free + 3 * b))).flatten) ∧
  AnswersOk .cellRead 0x13 (fun r _ => ∃ first count, 1 ≤ count ∧ first + count ≤ 256 ∧ r.payload = leBytes 2 first ++ leBytes 2 count)
    (fun r s => ((List.range' (leAt r.payload 0 2) (leAt r.payload 2 2)).map s.cellBytes).flatten) ∧
  AnswersOk .faultRead 0x20 (fun r _ => ∃ b, isBlock b = true ∧ r.payload = [byte b, 0, 0, 0]) (fun r s =>
    let b := leAt r.payload 0 1
    leBytes 2 (highestIndex b + 1) ++ [0, 0] ++ faultWordBytes b (s.words b).sticky ++ faultWordBytes b (s.liveWord b) ++
      faultWordBytes b (s.words b).injected ++ faultWordBytes b (s.words b).mask) ∧
  AnswersOk .optime 0xD0 (fun r _ => r.payload = []) (fun _ s => leBytes 4 s.pwr.opSeconds ++ leBytes 4 s.pwr.powerCycles)) ∧
  (AnswersOk .connStatus 0x50 (fun r _ => ∃ first count, first < 65536 ∧ 1 ≤ count ∧ count ≤ 1000 ∧ r.payload = leBytes 2 first ++ leBytes 2 count)
    (fun r s => ((List.range' (leAt r.payload 0 2) (leAt r.payload 2 2)).map (fun n =>
      [byte (s.connMirror .a n).st.code, byte (s.connMirror .b n).st.code, byte (s.connMirror .a n).gen,
       byte (b2n (s.connMirror .a n).fsv + 2 * b2n (decide (n ∈ s.connsInUse) && s.opener n))])).flatten) ∧
  AnswersOk .unknownPartners 0x51 (fun r _ => r.payload = []) (fun _ s =>
    leBytes 4 s.weir.unknownA.length ++ (s.weir.unknownA.map (fun x =>
      leBytes 8 x.identity ++ leBytes 1 x.port ++ [0, 0, 0] ++ leBytes 4 x.second)).flatten) ∧
  AnswersOk .hostsigRead 0x61
    (fun r _ => ∃ first count, first % 32 = 0 ∧ count % 32 = 0 ∧ 32 ≤ count ∧ first + count ≤ 2048 ∧ r.payload = leBytes 2 first ++ leBytes 2 count)
    (fun r s => leBytes (leAt r.payload 2 2 / 8) (s.hs.visible.toNat >>> leAt r.payload 0 2)) ∧
  AnswersOk .paramRead 0x70 (fun r _ => ∃ code, code < 2 ^ 32 ∧ (paramItem code).isSome = true ∧ r.payload = leBytes 4 code) (fun r s =>
    let i := (paramItem (leAt r.payload 0 4)).getD .phy
    leBytes 1 i.cls ++ leBytes 1 i.size ++ [0, 0] ++ leBytes 8 (s.paramValue i)) ∧
  AnswersOk .certRead 0x38
    (fun r _ => ∃ sel off len, sel < 2 ∧ off < 2 ^ 32 ∧ 1 ≤ len ∧ len ≤ 4072 ∧ r.payload = [byte sel, 0, 0, 0] ++ leBytes 4 off ++ leBytes 4 len)
    (fun r s =>
      let cert := if leAt r.payload 0 1 = 0 then s.cfg.newerBank.cert else s.cfg.draft
      leBytes 4 cert.length ++ [0, 0, 0, 0] ++ (cert.drop (leAt r.payload 4 4)).take (leAt r.payload 8 4))) ∧
  (∀ (s : State) (n : Nat),
    let a := (s.cell .a n).mirror
    let b := (s.cell .b n).mirror
    let who := fun (sd : Side) => s.inUse n = true ∧ s.hasEvaluator (s.evaluator sd n) = true
    ∃ x y, s.cellBytes n = [byte a.st.code, byte b.st.code, byte (min 255 a.disc), byte (min 255 b.disc), byte (min 255 a.sigc),
        byte (min 255 b.sigc), x, y] ∧
      (who .a → (s.evaluator .a n = 2 → x = 0) ∧ (s.evaluator .a n = 3 → x = 1)) ∧ (¬ who .a → x = 0xFF) ∧
      (who .b → (s.evaluator .b n = 4 → y = 0) ∧ (s.evaluator .b n = 5 → y = 1)) ∧ (¬ who .b → y = 0xFF)) ∧
  (∀ (s : State) (b held draw : Nat), isBlock b = true → s.liveSev b < 16 → s.stickySev b < 16 →
    let block := s.statusBlock b held draw
    let w := fun (i : Nat) => leAt block (4 * i) 4
    let f := fun (i lo n : Nat) => w i / 2 ^ lo % 2 ^ n
    let zero := fun (from_ : Nat) => ∀ i, from_ ≤ i → i < 8 → w i = 0
    block.length = 32 ∧ f 0 24 8 = b ∧ f 0 16 8 = 1 ∧ f 0 8 4 = s.liveSev b ∧ f 0 4 4 = s.stickySev b ∧ f 0 0 4 = 0 ∧
    ((∀ l ∈ s.faults.live, l.block ≠ b) → f 0 8 4 = 15) ∧
    (∀ l ∈ s.faults.live, l.block = b → (∀ x ∈ s.faults.live, x.block = b → s.sevNow x ≤ s.sevNow l) → f 0 8 4 = s.sevNow l) ∧
    ((s.words b).sticky = 0 → f 0 4 4 = 15) ∧
    (isPair b = true → (s.pair b).retired = true → f 0 12 4 = 3) ∧
    (isPair b = false ∨ (s.pair b).retired = false → s.on (if b ≤ 11 then b else 0) = false → f 0 12 4 = 4) ∧
    (isPair b = true → s.on (pairDomain b) = false → zero 1) ∧
    (isPair b = true → s.on (pairDomain b) = true → (s.pair b).mismatches < 65536 → (s.pair b).lastGroup < 256 →
      (b = bSTB → ∀ x, s.pairs.stbFor = some x → x < 256) →
      f 1 16 16 = (s.pair b).mismatches ∧ f 1 8 8 = (s.pair b).lastGroup ∧ (b ≠ bSTB → f 1 0 8 = b) ∧
      (b = bSTB → (∀ x, s.pairs.stbFor = some x → f 1 0 8 = x) ∧ (s.pairs.stbFor = none →
        (∀ h, s.bundles.handover = some h → h.stage = .starting → f 1 0 8 = 1) ∧ (s.bundles.handover = none → f 1 0 8 = bSTB))) ∧
      (2 ≤ b → b ≤ 5 → (s.pair b).load < 65536 → f 2 16 16 = (s.cellsOf b).length ∧ f 2 0 16 = (s.pair b).load) ∧
      (b ≠ bSUP → zero 3)) ∧
    (b = bSUP → s.on (pairDomain b) = true → s.dev.safeReason < 256 → s.host.version < 16 →
      w 2 = 0 ∧ zero 7 ∧ f 3 28 4 = s.dev.st.code ∧ f 3 24 4 = s.dev.maint.code ∧ f 3 16 8 = s.dev.safeReason ∧
      f 3 12 4 = s.host.version ∧ f 3 6 6 = 0 ∧ f 3 0 1 = b2n (s.cfg.newer == 1) ∧ f 3 1 1 = b2n (s.bundles.running == some 1) ∧
      f 3 2 1 = b2n (stagingOpen s.cfg.staging || stagingOpen s.bundles.staging) ∧
      f 3 3 1 = b2n (s.cfg.admission.isSome || s.cfg.trans.any (fun t => t.activeA || !t.doneB)) ∧
      f 3 4 1 = b2n s.bundles.handover.isSome ∧ f 3 5 1 = b2n (s.isLive bSUP 7 0) ∧ (s.cfg.sequence < 2 ^ 32 → w 4 = s.cfg.sequence) ∧
      (s.cfg.newerBank.hash ≠ [] → w 5 = beAt s.cfg.newerBank.hash 0 4) ∧ (s.host.rom = true → w 6 = 0) ∧
      (s.host.rom = false → ∀ m, s.bundles.manifest = some m → m.version < 2 ^ 32 → w 6 = m.version)) ∧
    (b = bWEIR → (∀ k < 3, (s.params.port k).mode < 16) → s.connsInUse.length < 65536 →
      let count := fun (p : ConnState → Bool) => (s.connsInUse.filter (fun n => p (s.connMirror .a n).st)).length
      (∀ k < 3, f 1 (8 * k + 4) 4 = (s.params.port k).mode ∧ f 1 (8 * k + 3) 1 = b2n (s.port k).linkUp ∧
        f 1 (8 * k + 2) 1 = b2n (s.port k).pause.isSome ∧ f 1 (8 * k) 2 = 0) ∧ f 1 24 8 = 0 ∧
      f 2 16 16 = count (· == .run) ∧ f 2 0 16 = count (· == .lost) ∧ w 3 = count (fun x => x == .mismatch || x == .refused) ∧ zero 4) ∧
    (b = bHOST → held < 256 → s.host.accepted < 2 ^ 32 → s.host.rejected < 2 ^ 32 →
      f 1 24 8 = s.host.iface.code ∧ f 1 16 8 = held ∧ f 1 0 16 = 0 ∧ w 2 = s.host.accepted ∧ w 3 = s.host.rejected ∧ zero 4) ∧
    (b = bMEMA → s.mems.eccCorrA < 65536 → s.mems.blocksA < 65536 →
      f 1 16 16 = s.mems.eccCorrA ∧ f 1 0 16 = s.mems.blocksA ∧ zero 2) ∧
    (b = bMEMB → s.mems.eccCorrB < 65536 → s.mems.blocksB < 65536 →
      f 1 16 16 = s.mems.eccCorrB ∧ f 1 0 16 = s.mems.blocksB ∧ zero 2) ∧
    (b = bOXB → s.dirtyBytes < 2 ^ 32 → s.oxb.mram.nextSeq < 2 ^ 32 →
      w 1 = 64 * (s.oxb.dirty.length + s.oxb.inFlight.length) ∧ w 2 = s.oxb.mram.nextSeq ∧ zero 3) ∧
    (b = bROS → s.ros.shadow.length < 65536 → f 1 16 16 = (s.ros.shadow.filter (fun e => e.2.marginal || e.2.bad)).length ∧
      (∀ r < 5, f 1 (8 + r) 1 = b2n (s.sealed r) ∧ f 1 r 1 = b2n (s.locked r)) ∧ f 1 5 3 = 0 ∧ f 1 13 3 = 0 ∧
      w 2 = ((List.range 64).filter (fun i => (s.shadow (3584 + i)).prog)).length ∧ zero 3) ∧
    (b = bPWR → s.pwr.resetCause < 16 → s.pwr.opSeconds < 2 ^ 32 → s.pwr.powerCycles < 2 ^ 32 →
      f 1 28 4 = s.pwr.resetCause ∧ f 1 27 1 = b2n s.pwr.pfailSeen ∧ f 1 26 1 = b2n s.errpAsserted ∧ f 1 25 1 = b2n s.pwr.latch ∧
      f 1 12 13 = 0 ∧ f 1 0 12 = s.pwr.vsup % 4096 ∧ w 2 = s.pwr.opSeconds ∧ w 3 = s.pwr.powerCycles ∧ zero 4) ∧
    (b = bCLK → f 1 16 16 = (s.clk.ratioDev % 65536).toNat ∧ f 1 0 16 = 0 ∧ zero 2) ∧
    (b = bRIF → s.rif.slices < 65536 → f 1 16 16 = s.rif.slices ∧
      f 1 8 8 = min 255 (s.rif.units.filter (fun e => e.2.unusable)).length ∧
      f 1 0 8 = ((List.range 64).filter (fun c => decide (0 < s.overdue c))).length ∧ w 2 = s.rif.skipped % 2 ^ 32 ∧ zero 3) ∧
    (0x10 ≤ b → b ≤ 0x13 → (s.die (b - 0x10)).alive = false → zero 1) ∧
    (0x10 ≤ b → b ≤ 0x13 → (s.die (b - 0x10)).alive = true → (s.gview .a (b - 0x10)).vfCode < 4096 →
      (s.gview .a (b - 0x10)).tempCode < 4096 → zero 4 ∧ f 2 20 12 = (s.gview .a (b - 0x10)).vfCode ∧
      f 2 8 12 = (s.gview .a (b - 0x10)).tempCode ∧ f 2 0 8 = 0 ∧
      ∀ i < 16, let at_ := fun (sd : Side) (st : Nat) => b2n ((s.view sd (16 * (b - 0x10) + i)).state == st)
        f 1 (16 + i) 1 = at_ .a 1 ∧ f 1 i 1 = at_ .a 3 ∧ f 3 (16 + i) 1 = at_ .b 1 ∧ f 3 i 1 = at_ .b 3) ∧
    (0x20 ≤ b → zero 7 ∧ ∀ i < 16, let m := fun (sd : Side) => (s.cell sd (16 * (b - 0x20) + i)).mirror
      f (1 + i / 8) (4 * (i % 8)) 4 = (m .a).st.code ∧ f (3 + i / 8) (4 * (i % 8)) 4 = (m .b).st.code ∧
      f 5 (16 + i) 1 = b2n ((m .b).disc != 0) ∧ f 5 i 1 = b2n ((m .a).disc != 0) ∧
      f 6 (16 + i) 1 = b2n ((m .b).sigc != 0) ∧ f 6 i 1 = b2n ((m .a).sigc != 0)))

/-- From Table 11.5: the services that read Oxbow, self-tests, calibration, the fuses and the bundle banks answer OK and change nothing else
but the counter of free values. From R311, R326: OXB_READ returns the records as their places in MRAM give them, and each that fails its
CRC is OXB.RECORD_CRC. (The model's choices it rests on: log 7, 104.) -/
def Obligations.RecordServicesAnswer : Prop :=
  (∀ s r q, Served 0x80 r q s → r.payload = [] → ∃ n p, exec .oxbInfo s = .next { answered r q stOK p s with free := n } ∧
    p.length = 52 ∧ leAt p 4 4 = 131072 ∧ leAt p 20 4 = 524288 ∧ leAt p 36 4 = 32768 ∧
    (s.oxb.mram.first.length < 2 ^ 32 → leAt p 0 4 = s.oxb.mram.first.length) ∧
    (s.oxb.mram.tail.length < 2 ^ 32 → leAt p 16 4 = s.oxb.mram.tail.length) ∧ leAt p 48 4 = s.dirtyBytes) ∧
  (∀ (s : State) (r : Request) (q : List Request) (ds : List RecordDamage) (area first count : Nat), Served 0x81 r q s →
    area < 4 → first < 2 ^ 32 → (area = 0 → first < 131072) → 1 ≤ count → count ≤ 63 →
    r.payload = [byte area, 0, 0, 0] ++ leBytes 4 first ++ leBytes 4 count →
    let u := s.takeDamage ds
    let rs := u.oxbRecords area first count
    let payload := leBytes 4 rs.length ++ [0, 0, 0, 0] ++ (rs.map OxbRec.bytes).flatten
    let broken := if area = 2 then ((List.range' first count).map (fun i => (u.oxb.mram.totals.getD i {}).broken)).flatten
      else rs.filter (fun x => x.damaged.isSome)
    (area = 3 ∨ s.oxb.storeFail = some 0x10 ∨ broken = [] →
      exec (.oxbRead ds) s = .next { answered r q stOK payload s with oxb := u.oxb }) ∧
    (area ≠ 3 → s.oxb.storeFail ≠ some 0x10 → broken ≠ [] → Gives (.oxbRead ds) s (fun t => t.isLive bOXB 3 area = true ∧
      t.host.rsp.getLast? = some (r.response t.host.session stOK payload)))) ∧
  AnswersOk .selftestReport 0x91
    (fun r _ => ∃ k i, ((k = 0 ∧ i < 64) ∨ (k = 1 ∧ i < 4) ∨ (k = 2 ∧ 1 ≤ i ∧ i < 3)) ∧ r.payload = [byte k, byte i, 0, 0])
    (fun r s =>
      let u := s.unit (unitNo (leAt r.payload 0 1) (leAt r.payload 1 1))
      leBytes 1 u.last ++ [byte (b2n (s.unitMarked (leAt r.payload 0 1) (leAt r.payload 1 1))), 0, 0] ++ leBytes 4 u.lastPass ++
        leBytes 4 u.passes ++ leBytes 4 u.fails ++ leBytes 4 u.aborts ++ leBytes 4 u.skips) ∧
  AnswersOk .calRead 0xA0 (fun r _ => ∃ c, c < 64 ∧ r.payload = [byte c, 0, 0, 0]) (fun r s =>
    let k := s.params.cal.getD (leAt r.payload 0 1) {}
    leBytes 4 k.gain.toNat ++ leBytes 4 k.offset.toNat ++ leBytes 2 (s.tOffOf (leAt r.payload 0 1)) ++ [0, 0] ++ leBytes 4 k.seconds) ∧
  AnswersOk .fuseRead 0xB0
    (fun r _ => ∃ first count, 1 ≤ count ∧ count ≤ 256 ∧ first + count ≤ 4096 ∧ r.payload = leBytes 2 first ++ leBytes 2 count)
    (fun r s =>
      let ws := List.range' (leAt r.payload 0 2) (leAt r.payload 2 2)
      (ws.map (fun w => leBytes 8 (s.fuseShown w))).flatten ++
        leBytes ((leAt r.payload 2 2 + 7) / 8) (bitsToNat (ws.map (fun w => (s.shadow w).marginal || (s.shadow w).bad)))) ∧
  (∀ s r q, Served 0xC2 r q s → r.payload = [] → ∃ n p, exec .fwInfo s = .next { answered r q stOK p s with free := n } ∧
    p.length = 24 ∧ leAt p 0 1 = b2n (s.acceptedBank 0).isSome ∧ leAt p 12 1 = b2n (s.acceptedBank 1).isSome ∧
    leAt p 8 4 = s.bundles.bank0.activation % 2 ^ 32 ∧ leAt p 20 4 = s.bundles.bank1.activation % 2 ^ 32)

/-- From R263, R267, R270, R290: FAULT_ACK clears the named sticky and injected bits whose source is not live and returns the others.
FAULT_MASK writes the mask of one block and keeps it as a parameter, at the edge that ends its acceptance where the device serves it
then; a request so done is only answered. Neither touches another word, a live instance, or any other part. (The model's choices it
rests on: log 7, 23, 85, 106.) -/
def Obligations.FaultAckAndMask : Prop :=
  ∀ (s : State) (r : Request) (q : List Request) (b m : Nat), isBlock b = true → m < 2 ^ (highestIndex b + 1) →
    r.payload = [byte b, 0, 0, 0] ++ leBytes (4 * (highestIndex b / 32 + 1)) m →
    let masked := fun (b m : Nat) (s t : State) => t.faults.live = s.faults.live ∧ t.faults.holds = s.faults.holds ∧
      t.params = { s.params with masks := s.params.masks.put b (BitVec.ofNat 128 m) } ∧
      ∀ b', t.words b' = if b' = b then { s.words b with mask := BitVec.ofNat 128 m } else s.words b'
    (Served 0x21 r q s → Gives .faultAck s (fun t =>
      t.host = (answered r q stOK (faultWordBytes b (BitVec.ofNat 128 m &&& s.liveWord b)) s).host ∧ SameBut [.host, .faults] s t ∧
      t.faults.live = s.faults.live ∧
      ∀ b' i, (t.words b').mask = (s.words b').mask ∧
        (t.words b').sticky.getLsbD i = ((s.words b').sticky.getLsbD i && !(b' == b && m.testBit i && !(s.liveWord b).getLsbD i)) ∧
        (t.words b').injected.getLsbD i = ((s.words b').injected.getLsbD i && !(b' == b && m.testBit i && !(s.liveWord b).getLsbD i)))) ∧
    (Served 0x22 r q s → Gives .faultMask s (fun t =>
      t.host = (answered r q stOK [] s).host ∧ SameBut [.host, .faults, .params] s t ∧ masked b m s t)) ∧
    (AtFront r q s → r.cmd = 0x22 →
      exec .faultMask { s with host := { s.host with queue := { r with done := true } :: q } } = .next (answered r q stOK [] s)) ∧
    (∀ (t : Txn) (bytes : List Byte), Heard t s → LengthRight bytes → CrcRight bytes → leAt bytes 2 1 ≤ 31 →
      leAt bytes 2 1 ∉ s.host.held → s.host.ready = true → s.host.paused = false → s.supRuns = true →
      requestOf bytes s = { r with captured := false } → r.cmd = 0x22 → InSession r s → s.stateRefuses 0x22 = none →
      Gives (.writeReq t bytes) s (fun u => SameBut [.host, .faults, .params] s u ∧ masked b m s u ∧
        u.host.queue = s.host.queue ++ [{ r with captured := false, done := true }] ∧ u.host.rsp = s.host.rsp))

/-- From R259: CFG_STAGE_BEGIN opens an empty staging of L bytes in place of any other, and takes SAFE and MAINTENANCE to CONFIGURE;
CFG_STAGE_DATA writes its bytes into an open staging; a write outside it is BAD_FORMAT, one without a staging NOT_STAGED, one into an
ended staging WRONG_STATE. From R259: a write into a staging replaces the bytes at its addresses, leaves every other byte, and keeps the
addresses strictly rising. (The model's choices it rests on: log 7, 20.) -/
def Obligations.StagingOpensAndFills : Prop :=
  ((∀ (s : State) (r : Request) (q : List Request) (n : Nat), Served 0x30 r q s → n ≤ 8915168 → r.payload = leBytes 4 n →
    (s.cfg.admission.isSome = true → exec .cfgStageBegin s = .next (answered r q stBUSY_RETRY [] s)) ∧
    (s.cfg.admission = none → Gives .cfgStageBegin s (fun t =>
      t.host.queue = q ∧ t.host.rsp = s.host.rsp ++ [ok r s []] ∧ t.host.waiting = s.host.waiting ∧
      t.cfg.staging = some ⟨n, [], false, []⟩ ∧ t.cfg.trans = none ∧ t.cfg.bank0 = s.cfg.bank0 ∧ t.cfg.bank1 = s.cfg.bank1 ∧
      t.cfg.running = s.cfg.running ∧ t.pairs.pairs = s.pairs.pairs ∧ SameBut [.host, .cfg, .pairs, .dev] s t ∧
      (s.dev.st = .safe ∨ s.dev.st = .maintenance → t.dev.st = .configure ∧ t.dev.safeReason = 0) ∧
      (s.dev.st ≠ .safe → s.dev.st ≠ .maintenance → t.dev = s.dev)))) ∧
  (∀ (s : State) (r : Request) (q : List Request) (off : Nat) (data : List Byte), Served 0x31 r q s → off < 2 ^ 32 →
    1 ≤ data.length → data.length ≤ 4072 → r.payload = leBytes 4 off ++ [0, 0, 0, 0] ++ data →
    (s.cfg.admission.isSome = true → exec .cfgStageData s = .next (answered r q stBUSY_RETRY [] s)) ∧
    (s.cfg.admission = none → s.cfg.staging = none → exec .cfgStageData s = .next (answered r q stNOT_STAGED [] s)) ∧
    (∀ x, s.cfg.admission = none → s.cfg.staging = some x →
      (x.ended = true → exec .cfgStageData s = .next (answered r q stWRONG_STATE [] s)) ∧
      (x.ended = false → x.length < off + data.length → exec .cfgStageData s = .next (answered r q stBAD_FORMAT [] s)) ∧
      (x.ended = false → off + data.length ≤ x.length → exec .cfgStageData s = .next { answered r q stOK [] s with
        cfg := { s.cfg with staging := some { x with mem := stageWrite x.mem off data } } })))) ∧
  (∀ (mem : List Host.Cell) (off : Nat) (data : List Byte), (mem.map (·.1)).Pairwise (· < ·) →
    ((stageWrite mem off data).map (·.1)).Pairwise (· < ·) ∧
    (∀ k, (h : k < data.length) → (off + k, data[k]) ∈ stageWrite mem off data) ∧
    (∀ c : Host.Cell, c.1 < off ∨ off + data.length ≤ c.1 → (c ∈ stageWrite mem off data ↔ c ∈ mem)) ∧
    ∀ n, (∀ c ∈ mem, c.1 < n) → off + data.length ≤ n → ∀ c ∈ stageWrite mem off data, c.1 < n)

/-- From R259, R272: CFG_STAGE_END ends a staging whose bytes are all written, whose header is right and whose trailer is its hash and that
of the request; what fails leaves the staging open. Row 11 of Table 2.3: CFG_ABORT discards the staging and returns from CONFIGURE. (The
model's choices it rests on: log 7.) -/
def Obligations.StagingEndsAndAborts : Prop :=
  (∀ (s : State) (r : Request) (q : List Request) (x : Staging), Served 0x32 r q s → r.payload.length = 32 →
    s.cfg.staging = some x →
    (x.ended = true → exec .cfgStageEnd s = .next (answered r q stWRONG_STATE [] s)) ∧
    (x.ended = false → x.mem.length ≠ x.length →
      exec .cfgStageEnd s = .next (answered r q cFORMAT (refusal cFORMAT kNone 0).payload s)) ∧
    (x.ended = false → x.mem.length = x.length → headerOk x.bytes x.length = true →
      containerHash x.bytes ≠ x.bytes.drop (x.bytes.length - 32) ∨ r.payload ≠ x.bytes.drop (x.bytes.length - 32) →
      exec .cfgStageEnd s = .next (answered r q cHASH (refusal cHASH kNone 0).payload s)) ∧
    (x.ended = false → x.mem.length = x.length → headerOk x.bytes x.length = true → s.dev.st ≠ .run →
      containerHash x.bytes = x.bytes.drop (x.bytes.length - 32) → r.payload = x.bytes.drop (x.bytes.length - 32) →
      exec .cfgStageEnd s = .next { answered r q stOK [] s with
        cfg := { s.cfg with staging := some { x with ended := true, hash := r.payload } } })) ∧
  (∀ (s : State) (r : Request) (q : List Request), Served 0x35 r q s → r.payload = [] →
    (s.cfg.admission.isSome = true → exec .cfgAbort s = .next (answered r q stBUSY_RETRY [] s)) ∧
    (s.cfg.admission = none → Gives .cfgAbort s (fun t =>
      t.host.queue = q ∧ t.cfg.staging = none ∧ t.cfg.trans = none ∧ t.cfg.bank0 = s.cfg.bank0 ∧ t.cfg.bank1 = s.cfg.bank1 ∧
      t.host.rsp.getLast? = some (ok r s []) ∧ SameBut [.host, .cfg, .pairs, .dev] s t ∧
      (∀ m reason s3, s.dev.st = .configure → s.dev.configFrom = some (.safe, m, reason, s3) →
        t.dev.st = .safe ∧ t.dev.safeReason = reason) ∧
      (s.dev.st ≠ .configure → t.dev = s.dev))))

/-- From R259, R176, R179: CFG_CHECK and CFG_COMMIT act on an ended staging alone. CFG_CHECK answers what steps 1 to 20 find; CFG_COMMIT
compares the hash, then the authorisation of R261, and then waits for the admission that starts. From R261: the authorisation against
the state of the commit key. (The model's choices it rests on: log 7, 19.) -/
def Obligations.CheckAndCommitJudge : Prop :=
  ((∀ (s : State) (r : Request) (q : List Request), Served 0x33 r q s → r.payload = [] → s.dev.st ≠ .run → s.cfg.admission = none →
    (stagingEnded s.cfg.staging = false → exec (.cfgCheck none none) s = .next (answered r q stNOT_STAGED [] s)) ∧
    (∀ x, s.cfg.staging = some x → x.ended = true →
      let v := judge x.bytes s.checkEnv (s.stagedEnv x.bytes false) none none
      Gives (.cfgCheck none none) s (fun t => t.host.queue = q ∧ SameBut [.host, .cfg] s t ∧
        t.cfg = { s.cfg with draft := t.cfg.draft } ∧
        (∀ e, v.1 = some e → t.host.rsp = s.host.rsp ++ [r.response s.host.session e.code e.payload]) ∧
        (v.1 = none → t.host.rsp = s.host.rsp ++ [ok r s (leBytes 4 t.cfg.draft.length)])))) ∧
  (∀ (s : State) (r : Request) (q : List Request) (hash auth : List Byte) (fl : Nat), Served 0x34 r q s → s.dev.st = .configure →
    s.cfg.admission = none → hash.length = 32 → auth.length = 32 → fl < 2 → (fl = 0 → auth = zeros 32) →
    r.payload = hash ++ leBytes 4 fl ++ auth →
    (stagingEnded s.cfg.staging = false → exec .cfgCommit s = .next (answered r q stNOT_STAGED [] s)) ∧
    (∀ x, s.cfg.staging = some x → x.ended = true →
      (x.hash ≠ hash → exec .cfgCommit s = .next (answered r q cHASH (refusal cHASH kNone 0).payload s)) ∧
      (x.hash = hash → s.authorised hash (fl == 1) auth = false → exec .cfgCommit s = .next (answered r q stNOT_AUTHORISED [] s)) ∧
      (x.hash = hash → s.authorised hash (fl == 1) auth = true → exec .cfgCommit s = .next { waits r q .commit s with
        cfg := { s.cfg with admission := some ⟨r.tag, false, x.bytes, s.stagedEnv x.bytes false, s.checkEnv⟩ } })))) ∧
  (∀ (s : State) (hash code : List Byte) (auth : Bool),
    let right := code = hmacSha256 (s.fuseBytes 1280 4) (hash ++ leBytes 8 s.identity ++ leBytes 4 s.nextSequence)
    (s.commitKeyState = 0 → (s.authorised hash auth code = true ↔ auth = false)) ∧
    (s.commitKeyState = 1 → (s.authorised hash auth code = true ↔ auth = false ∨ right)) ∧
    (s.commitKeyState = 2 → (s.authorised hash auth code = true ↔ auth = true ∧ right)))

/-- From Rows 16 and 17 of Table 2.3, R50, R51, R257, R294, Table 2.2: RUN is accepted in SAFE without a live source of S3 or above and with
a reason that RUN leaves, unless it was accepted in BOOT or VERIFY; SAFE leaves RUN for SAFE with reason 0x01 and is remembered in VERIFY;
RESTART takes any other SAFE to VERIFY (stated while no connection has a state; those that have one start anew in ABSENT, R227), ends the
effect of every S3 occurrence (R293), and closes a live commit that is under way (R289). SAFE that
an S3 occurrence of its own has reached (`s3InSafe`) is left by RESTART alone, with every reason (R294); that an S3 occurrence in BOOT,
CONFIGURE or VERIFY counts so is the model's choice, log 102. (The model's choices it rests on: log 7, 8, 102, 114.) -/
def Obligations.RunSafeRestart : Prop :=
  ∀ (s : State) (r : Request) (q : List Request), r.payload = [] →
    (Served 0x40 r q s → s.dev.st = .safe → s.liveAtLeast 3 = false → s.dev.s3InSafe = false →
      (s.dev.safeReason ∈ [0x01, 0x03, 0x05] → r.st ≠ DevState.verify.code → r.st ≠ DevState.boot.code →
        exec .run s = .next (waits r q .run s)) ∧
      (r.st = DevState.verify.code ∨ r.st = DevState.boot.code → exec .run s = .next (answered r q stWRONG_STATE [] s)) ∧
      (s.dev.safeReason ∉ [0x01, 0x03, 0x05] → exec .run s = .next (answered r q stWRONG_STATE [] s))) ∧
    (Served 0x40 r q s → s.dev.st ≠ .safe ∨ s.liveAtLeast 3 = true → exec .run s = .next (answered r q stWRONG_STATE [] s)) ∧
    (Served 0x41 r q s → s.dev.st = .run → Gives .safe s (fun t =>
      t.dev.st = .safe ∧ t.dev.safeReason = 0x01 ∧ t.host.queue = q ∧ t.host.rsp.getLast? = some (ok r s [7, 1, 0, 0]) ∧
      SameBut [.dev, .host, .cells] s t ∧ t.cells.sides = s.cells.sides ∧ ∀ n, t.line n = { s.line n with
        record := (s.line n).record.map (fun x => if x.kind = .shadow then { x with kind := .direct } else x) })) ∧
    (Served 0x41 r q s → s.dev.st = .verify → exec .safe s = .next { answered r q stOK [5, byte s.dev.safeReason, 0, 0] s with
      dev := { s.dev with verifySafe := true } }) ∧
    (Served 0x42 r q s → s.dev.st = .safe → s.liveAtLeast 3 = false → s.dev.noSupervisor = false →
      (s.dev.safeReason ∉ [0x01, 0x03, 0x05] ∨ s.dev.s3InSafe = true → s.weir.conns = [] →
        (s.cfg.live = none → Gives .restart s (fun t =>
          t.dev.st = .verify ∧ t.dev.safeLine = false ∧ t.host.queue = q ∧ t.host.waiting = s.host.waiting ++ [⟨r, .restart⟩] ∧
          t.host.rsp = s.host.rsp ∧ t.faults = { s.faults with
            holds := s.faults.holds.filter (fun h => h.sev != 3),
            live := s.faults.live.map (fun l => if 3 ≤ l.sev then { l with sev := s.sevNow l } else l) } ∧
          (∀ l ∈ t.faults.live, l.sev < 3) ∧
          (∀ sd n, (t.cell sd n).runs = []) ∧ SameBut [.dev, .host, .faults, .rif, .cells, .field] s t)) ∧
        (∀ l, s.cfg.live = some l → s.faults.live = [] → (∀ p ∈ [2, 3, 4, 5], (s.pair p).retired = false) → Gives .restart s (fun t =>
          t.dev.st = .verify ∧ t.dev.safeLine = false ∧ t.cfg.live = none ∧ t.cfg.running = some l.next ∧
          t.cfg.active = (if l.ticked then s.cfg.active else s.cfg.inactive) ∧ (s.pairs.stb = .shadows → t.pairs.stb = .free) ∧
          ∀ n, (t.line n).record = none ∧ (t.line n).ver = 0 ∧ (t.line n).verB = 0))) ∧
      (s.dev.safeReason ∈ [0x01, 0x03, 0x05] → s.dev.s3InSafe = false → exec .restart s = .next (answered r q stWRONG_STATE [] s)))

/-- From R262, R258: HOSTSIG_WRITE puts the masked values into the inactive image, leaves every other signal and the visible image, and
waits for the flip; PARAM_WRITE of a class C item takes effect at once outside RUN and is CFG_CLASS in RUN, of a class K or L item it is
served in RUN alone, and a value outside its range is BAD_FORMAT. From R262: without a write within the hold time all host signals go to
0 at the next edge, with an event bit and HOST.HS_TIMEOUT. (The model's choices it rests on: log 7, 18, 79.) -/
def Obligations.HostSignalsAndParameters : Prop :=
  ((∀ (s : State) (r : Request) (q : List Request) (first count hold mask vals : Nat), Served 0x60 r q s →
    first % 32 = 0 → count % 32 = 0 → 32 ≤ count → first + count ≤ 2048 → (hold = 0 ∨ 10 ≤ hold ∧ hold ≤ 60000) →
    mask < 2 ^ count → vals < 2 ^ count →
    r.payload = leBytes 2 first ++ leBytes 2 count ++ leBytes 4 hold ++ leBytes (count / 8) mask ++ leBytes (count / 8) vals →
    Gives .hostsigWrite s (fun t => t.host = (waits r q .hostSig s).host ∧ SameBut [.host, .hs] s t ∧
      t.hs.visible = s.hs.visible ∧ t.hs.flipDue = true ∧ t.hs.holdMs = hold ∧ t.hs.lastWrite = s.time.tick ∧
      ∀ i < 2048, t.hs.inactive.getLsbD i =
        if first ≤ i ∧ mask.testBit (i - first) then vals.testBit (i - first) else s.hs.inactive.getLsbD i)) ∧
  (∀ (s : State) (r : Request) (q : List Request) (code v : Nat) (i : ParamItem), Served 0x71 r q s → code < 2 ^ 32 → v < 2 ^ 64 →
    r.payload = leBytes 4 code ++ [0, 0, 0, 0] ++ leBytes 8 v → paramItem code = some i →
    (s.paramOk v i = false → exec .paramWrite s = .next (answered r q stBAD_FORMAT [] s)) ∧
    (s.paramOk v i = true → i.cls = 0 → s.dev.st = .run →
      exec .paramWrite s = .next (answered r q cCLASS (refusal cCLASS kParam code).payload s)) ∧
    (s.paramOk v i = true → i.cls ≠ 0 → s.dev.st ≠ .run → exec .paramWrite s = .next (answered r q stWRONG_STATE [] s)) ∧
    (s.paramOk v i = true → s.dev.st ≠ .run → i = .udpPort →
      exec .paramWrite s = .next { answered r q stOK [0, 0, 0, 0] s with params := { s.params with udpPort := v } }) ∧
    (∀ g, s.paramOk v i = true → s.dev.st = .run → i = .vfLow g →
      exec .paramWrite s = .next { answered r q stOK [0, 0, 0, 0] s with params := { s.params with vfLow := s.params.vfLow.set g v } }) ∧
    (∀ n, s.paramOk v i = true → s.dev.st = .run → i = .detail n →
      exec .paramWrite s = .next { answered r q stOK [1, 0, 0, 0] s with params := { s.params with detail := s.params.detail.put n v } }))) ∧
  (∀ s : State, s.host.paused = false → s.supRuns = true →
    let hs : HostSigSt := { s.hs with inactive := 0, flipDue := true, holdMs := 0 }
    let host : HostSt := { s.host with evHsTimeout := true }
    (s.hs.holdMs ≠ 0 → s.hs.lastWrite + 20 * s.hs.holdMs ≤ s.time.tick →
      exec .hsHoldTimeout s = .next (({ s with hs := hs, host := host } : State).event bHOST 0 0)) ∧
    (s.hs.holdMs = 0 ∨ s.time.tick < s.hs.lastWrite + 20 * s.hs.holdMs → exec .hsHoldTimeout s = .next s))

/-- From Table 11.5, R318, R346, R287, R328: OXB_FLUSH asks for a full flush and waits for its end, and a TL word that is due is tried
again with it; SELFTEST_REQUEST and CAL_START begin what they
name and wait, one of each at a time. (The model's choices it rests on: log 7, 8, 44.) -/
def Obligations.LongServicesWait : Prop :=
  (∀ (s : State) (r : Request) (q : List Request), Served 0x82 r q s → r.payload = [] → s.oxb.running = none →
    (∀ k, s.oxb.trigger = some k → k.rank < 2) →
    exec .oxbFlush s = .next { waits r q .oxbFlush s with
      oxb := { s.oxb with trigger := some .full, tlAsk := s.oxb.tlAsk || s.oxb.tlPending } }) ∧
  (∀ (s : State) (r : Request) (q : List Request) (c : Nat), Served 0x90 r q s → c < 64 → r.payload = [0, byte c, 0, 0] →
    (s.rif.selfTest.isSome = true → exec .selftestRequest s = .next (answered r q stBUSY_RETRY [] s)) ∧
    (s.rif.selfTest = none → (s.chanEntry c).mode ≠ 0 → Gives .selftestRequest s (fun t =>
      t.host = (waits r q .selfTest s).host ∧ SameBut [.host, .rif] s t ∧ t.rif = { s.rif with selfTest := t.rif.selfTest } ∧
      ∃ x, t.rif.selfTest = some x ∧ x.kind = 0 ∧ x.index = c ∧ x.left = modePrograms (s.chanEntry c).mode ∧ x.failed = false))) ∧
  (∀ (s : State) (r : Request) (q : List Request) (k i : Nat), Served 0x90 r q s → (k = 1 ∧ i < 4) ∨ (k = 2 ∧ 1 ≤ i ∧ i < 3) →
    r.payload = [byte k, byte i, 0, 0] → s.rif.selfTest = none →
    (s.unitInUse k i = true → exec .selftestRequest s = .next (answered r q stUNIT_IN_USE [] s)) ∧
    (s.unitInUse k i = false → Gives .selftestRequest s (fun t =>
      t.host = (waits r q .selfTest s).host ∧ SameBut [.host, .rif, .field] s t ∧ t.rif = { s.rif with selfTest := t.rif.selfTest } ∧
      (k = 2 → t.field = s.field) ∧ ∃ x, t.rif.selfTest = some x ∧ x.kind = k ∧ x.index = i ∧ x.left = [] ∧ x.failed = false))) ∧
  (∀ (s : State) (r : Request) (q : List Request) (c : Nat), Served 0xA1 r q s → c < 64 → r.payload = [byte c, 0, 0, 0] →
    (s.rif.cal.isSome = true → exec .calStart s = .next (answered r q stBUSY_RETRY [] s)) ∧
    (s.rif.cal = none → s.cfg.live = none → exec .calStart s = .next { waits r q .cal s with
      rif := { s.rif with cal := some ⟨[c], false, false, [], []⟩ } })) ∧
  (∀ (s : State) (r : Request) (q : List Request), Served 0xA1 r q s → r.payload = [0xFF, 0, 0, 0] → s.rif.cal = none →
    s.cfg.live = none →
    let used := (List.range 64).filter (fun c => (s.chanEntry c).mode != 0)
    used ≠ [] → exec .calStart s = .next { waits r q .cal s with rif := { s.rif with cal := some ⟨used, false, false, [], []⟩ } })

/-- From R354 to R356, R358, R359: a write of ROS_CMD while BUSY is ignored; otherwise it starts its operation or ends it with the RESULT
that says why not; an OP that is not assigned ends with RESULT 0b100; the data registers are written as they are. (The model's choices it
rests on: log 88.) -/
def Obligations.RosCommandRegister : Prop :=
  ∀ s : State, s.supWrites = true →
    (∀ v, exec (.registerWrite .dataLo v) s = .next (withRos s { s.ros with dataLo := v }) ∧
      exec (.registerWrite .dataHi v) s = .next (withRos s { s.ros with dataHi := v })) ∧
    (s.ros.busy = true → (∀ v, exec (.registerWrite .cmd v) s = .next s) ∧
      ∀ n different, ∀ c ∈ [Instr.rosProgram n, .rosVerify n different, .rosSeal n, .rosLock n], exec c s = .next s) ∧
    (s.ros.busy = false → ∀ v : Word,
      let op := v.toNat / 2 ^ 20 % 16
      let stored : RosSt := { s.ros with op := op, word := v.toNat % 4096 }
      (5 ≤ op → exec (.registerWrite .cmd v) s = .next (withRos s { stored with result := 4 })) ∧
      (op = 0 → exec (.registerWrite .cmd v) s = .next (withRos s stored))) ∧
    (s.ros.busy = false →
      (∀ w, 1280 ≤ w → w < 3582 → (s.shadow w).prog = false → (s.shadow 3583).prog = false →
        (FuseConditions s → exec (.rosProgram w) s = .next (withRos s { s.ros with
          op := 1, word := w, busy := true, retries := 0, running := some ⟨.host, .program, w, w, s.ros.dataReg, false⟩ })) ∧
        (¬ FuseConditions s → exec (.rosProgram w) s = .next (withRos s { s.ros with op := 1, word := w, result := 1, retries := 0 }))) ∧
      (∀ w, w < 4096 → (s.shadow w).prog = true →
        exec (.rosProgram w) s = .next (withRos s { s.ros with op := 1, word := w, result := 3, retries := 0 })) ∧
      (∀ w, w < 4096 → exec (.rosVerify w false) s = .next (withRos s { s.ros with op := 2, word := w, result := 0 }) ∧
        exec (.rosVerify w true) s = .next ((withRos s { s.ros with op := 2, word := w, result := 0 }).event bROS 1 w)) ∧
      (FuseConditions s → (s.shadow 3583).prog = false → Gives (.rosSeal 2) s (fun t => SameBut [.ros] s t ∧ t.ros.fuses = s.ros.fuses ∧
        t.ros.busy = true ∧ t.ros.op = 3 ∧ t.ros.word = 2 ∧
        t.ros.running = some ⟨.host, .sealOp, 2, 3583, BitVec.ofNat 64 (sealValue 2 (s.regionCrc 2)), false⟩)) ∧
      (FuseConditions s → (s.shadow 3582).prog = false → s.validSeal 2 = true → Gives (.rosLock 2) s (fun t => SameBut [.ros] s t ∧
        t.ros.fuses = s.ros.fuses ∧ t.ros.busy = true ∧ t.ros.op = 4 ∧ t.ros.word = 2 ∧
        t.ros.running = some ⟨.host, .lockOp, 2, 3582, 0xC302000000000000, false⟩)))

/-- From R355 steps 4 to 7: at most eight retries after a weak read, success at the first pair of reads that shows the target, failure at a
1 too many. From R348, R355: the end of an operation writes RESULT and RETRIES, clears BUSY, and leaves every other fuse and shadow
word; its word is programmed where a bit of it was pulsed or reads 1. Reads that do not end it change nothing. (The model's choices it
rests on: log 104.) -/
def Obligations.FuseOperationsRun : Prop :=
  (∀ (n : Nat) (rest : List ProgRead),
    (n ≤ 8 → pulseOutcome 0 (List.replicate n .weak ++ .target :: rest) = some (n, true) ∧
      pulseOutcome 0 (List.replicate n .weak ++ .extraOne :: rest) = some (n, false)) ∧
    (n ≤ 8 → pulseOutcome 0 (List.replicate n .weak) = none) ∧
    pulseOutcome 0 (List.replicate 9 .weak ++ rest) = some (8, false)) ∧
  (∀ (s : State) (j : RosJob) (reads : List ProgRead) (final : Sense) (retries : Nat) (success : Bool),
    s.ros.running = some j → s.ros.waiting = [] → pulseOutcome 0 reads = some (retries, success) →
    Gives (.rosOperationComplete reads final) s (fun t =>
      t.ros.busy = false ∧ t.ros.running = none ∧ t.ros.result = (if success then 0 else 2) ∧ t.ros.retries = retries ∧
      (let prog := (s.ros.fuses.getD j.target {}).prog || j.data != 0 || showsBit final
       (t.ros.fuses.getD j.target {}).prog = prog ∧ (t.shadow j.target).prog = prog) ∧
      (success = true → (t.ros.fuses.getD j.target {}).data = j.data) ∧
      ∀ w, w ≠ j.target → t.ros.fuses.get? w = s.ros.fuses.get? w ∧ t.shadow w = s.shadow w)) ∧
  (∀ (s : State) (reads : List ProgRead) (final : Sense),
    (s.ros.running = none → exec (.rosOperationComplete reads final) s = .next s) ∧
    ∀ (j : RosJob) (n : Nat), s.ros.running = some j → n ≤ 8 →
      exec (.rosOperationComplete (List.replicate n .weak) final) s = .next s ∧
      (s.ros.waiting = [] → Gives (.rosOperationComplete (List.replicate n .weak ++ [.target]) final) s (fun t =>
        t.ros.busy = false ∧ t.ros.running = none ∧ t.ros.result = 0 ∧ t.ros.retries = n ∧
        (t.ros.fuses.getD j.target {}).data = j.data)))

/-- From Table 11.5, R349, R357 to R359: the fuse services of the host start their operation and wait, or are answered with the status that
says why not. (The model's choices it rests on: log 7, 8, 88.) -/
def Obligations.FuseServices : Prop :=
  ∀ (s : State) (r : Request) (q : List Request), s.ros.busy = false →
    (∀ w d, Served 0xB1 r q s → w < 4096 → d < 2 ^ 64 → r.payload = leBytes 2 w ++ [0, 0] ++ leBytes 8 d →
      ((s.shadow w).prog = true → Gives .fuseProgram s (fun t => t.host = (answered r q stFUSE_CLOSED [] s).host ∧
        SameBut [.host, .ros] s t ∧ t.ros.fuses = s.ros.fuses ∧ t.ros.busy = false)) ∧
      (1280 ≤ w → w < 3582 → (s.shadow w).prog = false → (s.shadow 3583).prog = false →
        (FuseConditions s → Gives .fuseProgram s (fun t => t.host = (waits r q .fuse s).host ∧ SameBut [.host, .ros] s t ∧
          t.ros.fuses = s.ros.fuses ∧ t.ros.busy = true ∧ t.ros.running = some ⟨.host, .program, w, w, BitVec.ofNat 64 d, true⟩)) ∧
        (¬ FuseConditions s → Gives .fuseProgram s (fun t => t.host = (answered r q stFUSE_CONDITIONS [] s).host ∧
          SameBut [.host, .ros] s t ∧ t.ros.fuses = s.ros.fuses ∧ t.ros.busy = false)))) ∧
    (∀ first count, Served 0xB2 r q s → 1 ≤ count → count ≤ 4096 → first + count ≤ 4096 →
      r.payload = leBytes 2 first ++ leBytes 2 count →
      exec (.fuseVerify []) s = .next (answered r q stOK [0, 0, 0xFF, 0xFF] s) ∧
      ∀ w, first ≤ w → w < first + count → Gives (.fuseVerify [w]) s (fun t =>
        t.host.queue = q ∧ t.host.rsp.getLast? = some (ok r s (leBytes 2 1 ++ leBytes 2 w)) ∧ t.ros = s.ros)) ∧
    (Served 0xB3 r q s → r.payload = [2, 0, 0, 0] → (s.shadow 3583).prog = false → FuseConditions s →
      Gives .fuseSeal s (fun t => t.host = (waits r q .fuse s).host ∧ SameBut [.host, .ros] s t ∧ t.ros.busy = true ∧
        t.ros.running = some ⟨.host, .sealOp, 2, 3583, BitVec.ofNat 64 (sealValue 2 (s.regionCrc 2)), true⟩)) ∧
    (∀ g, Served 0xB3 r q s → g ∈ [0, 4] → r.payload = [byte g, 0, 0, 0] →
      Gives .fuseSeal s (fun t => t.host = (answered r q stFUSE_CLOSED [] s).host ∧ SameBut [.host, .ros] s t ∧ t.ros.fuses = s.ros.fuses)) ∧
    (Served 0xB4 r q s → r.payload = [2, 0, 0, 0] → (s.shadow 3582).prog = false →
      (s.validSeal 2 = true → FuseConditions s → Gives .fuseLock s (fun t => t.host = (waits r q .fuse s).host ∧
        SameBut [.host, .ros] s t ∧ t.ros.busy = true ∧ t.ros.running = some ⟨.host, .lockOp, 2, 3582, 0xC302000000000000, true⟩)) ∧
      (s.validSeal 2 = false → Gives .fuseLock s (fun t => t.host = (answered r q stFUSE_NO_SEAL [] s).host ∧
        SameBut [.host, .ros] s t ∧ t.ros.fuses = s.ros.fuses)))

/-- From R259, R41: FW_STAGE stages into the inactive bundle bank; its end runs the checks of R41. From R44, R265: FW_ACTIVATE acts on an
ended staging of the version it names: by a chip reset with only its answer kept in SAFE and MAINTENANCE, by a handover in RUN where the
two bundles allow it, and otherwise FW_NEEDS_SAFE. (The model's choices it rests on: log 7, 15, 20.) -/
def Obligations.FirmwareStagedAndActivated : Prop :=
  (∀ (s : State) (r : Request) (q : List Request), Served 0xC0 r q s →
    let i := s.inactiveBundle
    (∀ n, n ≤ 12582912 → r.payload = [0, 0, 0, 0] ++ leBytes 4 n →
      (s.bundles.handover.isSome = true → exec .fwStageBegin s = .next (answered r q stBUSY_RETRY [] s)) ∧
      (s.bundles.handover = none → exec .fwStageBegin s = .next { answered r q stOK [] s with
        bundles := { s.bundles.setBank i { s.bundles.bank i with bytes := [] } with staging := some ⟨n, [], false, []⟩ } })) ∧
    (∀ off data, off < 2 ^ 32 → 1 ≤ data.length → data.length ≤ 4072 → r.payload = [1, 0, 0, 0] ++ leBytes 4 off ++ data →
      (s.bundles.staging = none → exec .fwStageData s = .next (answered r q stNOT_STAGED [] s)) ∧
      (∀ x, s.bundles.staging = some x →
        (x.ended = true → exec .fwStageData s = .next (answered r q stWRONG_STATE [] s)) ∧
        (x.ended = false → x.length < off + data.length → exec .fwStageData s = .next (answered r q stBAD_FORMAT [] s)) ∧
        (x.ended = false → off + data.length ≤ x.length →
          let y : Staging := { x with mem := stageWrite x.mem off data }
          exec .fwStageData s = .next { answered r q stOK [] s with
            bundles := { s.bundles.setBank i { s.bundles.bank i with bytes := if y.full then y.bytes else [] } with staging := some y } }))) ∧
    (r.payload = [2, 0, 0, 0, 0, 0, 0, 0] →
      (s.bundles.staging = none → exec .fwStageEnd s = .next (answered r q stNOT_STAGED [] s)) ∧
      (∀ x, s.bundles.staging = some x → x.ended = false →
        (x.full = false → exec .fwStageEnd s = .next (answered r q stFW_BAD [] s)) ∧
        (∀ e, x.full = true → s.bundleCheck x.bytes = .error e → exec .fwStageEnd s = .next (answered r q e [] s)) ∧
        (∀ m, x.full = true → s.bundleCheck x.bytes = .ok m →
          exec .fwStageEnd s = .next { answered r q stOK (leBytes 4 m.version ++ leBytes 2 m.epoch ++ [0, 0]) s with
            bundles := { s.bundles.setBank i { s.bundles.bank i with bytes := x.bytes } with staging := some { x with ended := true } } })))) ∧
  (∀ (s : State) (r : Request) (q : List Request) (x : Staging) (m : Manifest) (v : Nat), Served 0xC1 r q s → v < 2 ^ 32 →
    r.payload = leBytes 4 v → s.bundles.staging = some x →
    (x.ended = false → exec .fwActivate s = .next (answered r q stNOT_STAGED [] s)) ∧
    (x.ended = true → s.bundleCheck x.bytes = .ok m →
      (m.version ≠ v → exec .fwActivate s = .next (answered r q stFW_VERSION [] s)) ∧
      (m.version = v → s.dev.st = .safe ∨ s.dev.st = .maintenance → Gives .fwActivate s (fun t =>
        t.dev.st = .reset ∧ t.pwr.resetCause = 3 ∧ t.host.queue = [] ∧ t.host.waiting = [] ∧ t.host.session = 0 ∧ t.host.ready = false ∧
        t.host.rsp = [ok r s [1, 0, 0, 0]] ∧ t.ros.fuses = s.ros.fuses ∧ t.field.dies = s.field.dies ∧
        (t.bundles.bank s.inactiveBundle).activation = ((s.bundles.bank (1 - s.inactiveBundle)).activation + 1) % 2 ^ 32)) ∧
      (∀ old, m.version = v → s.dev.st = .run → s.bundles.manifest = some old → s.handoverAllowed old m = true →
        let stage := if old.translator = m.translator then HandStage.starting else HandStage.translating
        exec .fwActivate s = .next { waits r q .activate s with
          bundles := { s.bundles with handover := some ⟨stage, s.inactiveBundle, s.time.tick⟩ },
          pairs := { s.pairs with stb := .handover } }) ∧
      (∀ old, m.version = v → s.dev.st = .run → s.bundles.manifest = some old → s.handoverAllowed old m = false →
        exec .fwActivate s = .next (answered r q stFW_NEEDS_SAFE [] s))))

/-- From R291, R293, R297: an occurrence of a source that is not live sets its sticky bit and makes its instance live, and clears no sticky
bit; at S3 the device-safe line is asserted and RUN and VERIFY are left for SAFE, at S4 PD0 sets the latch and the device enters
LATCHED. From R291: a condition stays live while a detector still sees it, and its LIVE falls with the last of them; its sticky bit
stays. From R291, R297, Table 13.3: the safe-request line of a cell is active while the device-safe line is, while a source of S2 with
the cell in its scope is live, and while any source of S3 or above is live; without a block reset it is active in no other case. (The
model's choices it rests on: log 12, 94.) -/
def Obligations.OccurrencesAndConditions : Prop :=
  (∀ (s : State) (b i inst who : Nat) (src : Source), sourceOf b i = some src → b < 0x20 ∨ s.inUse inst = true →
    s.isLive b i inst = false →
    let t := s.raise b i inst who
    t.isLive b i inst = true ∧ (t.words b).sticky.getLsbD i = true ∧
    (∀ b' j, (s.words b').sticky.getLsbD j = true → (t.words b').sticky.getLsbD j = true) ∧
    (3 ≤ (s.effective b i inst).1 → s.dev.st = .run ∨ s.dev.st = .verify →
      (t.dev.st = .safe ∨ t.dev.st = .latched) ∧ ((s.effective b i inst).1 = 3 → t.dev.safeLine = true)) ∧
    (4 ≤ (s.effective b i inst).1 → s.dev.st.latches = true → t.dev.st = .latched ∧ t.pwr.latch = true)) ∧
  (∀ (s : State) (b i inst who : Nat) (l : LiveInst),
    s.faults.live.find? (fun x => x.block == b && x.index == i && x.inst == inst) = some l →
    let t := s.clear b i inst who
    (l.holders &&& (7 - who) = 0 → t.isLive b i inst = false) ∧
    (l.holders &&& (7 - who) ≠ 0 → t.isLive b i inst = true) ∧
    t.faults.words = s.faults.words ∧ SameBut [.faults, .oxb] s t ∧
    ∀ b' i' n', (b', i', n') ≠ (b, i, inst) → t.isLive b' i' n' = s.isLive b' i' n') ∧
  (∀ (s : State) (n : Nat),
    (s.dev.safeLine = true ∨ (∃ l ∈ s.faults.live, l.sev = 2 ∧ n ∈ s.scope l.block l.index l.inst) ∨
      (∃ l ∈ s.faults.live, 3 ≤ l.sev) → s.lineActive n = true) ∧
    (s.faults.brst = [] → s.lineActive n = true →
      s.dev.safeLine = true ∨ (∃ l ∈ s.faults.live, l.sev = 2 ∧ n ∈ s.scope l.block l.index l.inst) ∨ ∃ l ∈ s.faults.live, 3 ≤ l.sev))

/-- From R291, R301 to R303, R361, Table 13.8: an event ends at the second tick edge after its latest event; the healthy pair toggles in
dynamic mode alone; a wrong land is PWR.ERRP_READBACK; in a hold both lands are low in each of its n pulses. (The model's choices it rests
on: log 93.) -/
def Obligations.ErrorPairCommands : Prop :=
  ∀ s : State,
    (∀ b i inst l src, s.faults.live.find? (fun x => x.block == b && x.index == i && x.inst == inst) = some l →
      sourceOf b i = some src → src.cond = false →
      (l.last + 2 ≤ s.time.tick → Gives (.eventLiveExpiry b i inst) s (fun t =>
        t.isLive b i inst = false ∧ t.faults.words = s.faults.words ∧ SameBut [.faults, .oxb] s t)) ∧
      (s.time.tick < l.last + 2 → exec (.eventLiveExpiry b i inst) s = .next s)) ∧
    (s.errpDynamic = true → s.errpAsserted = false →
      exec .errpToggle s = .next { s with pwr := { s.pwr with errpPhase := !s.pwr.errpPhase } }) ∧
    (s.errpDynamic = false ∨ s.errpAsserted = true → exec .errpToggle s = .next s) ∧
    (s.dev.st ≠ .off → ∀ land, land < 2 → exec (.errpReadbackCheck land true) s = .next (s.raise bPWR 5 land whoDev) ∧
      exec (.errpReadbackCheck land false) s = .next (s.clear bPWR 5 land whoDev)) ∧
    (∀ ms, (s.dev.st = .reset → s.dev.hold ≠ 0 →
        exec (.holdPatternFrame ms) s = .next { s with pwr := { s.pwr with holdPhase := some (ms % 2000) } }) ∧
      (s.dev.st ≠ .reset ∨ s.dev.hold = 0 → exec (.holdPatternFrame ms) s = .next s)) ∧
    (∀ ms, s.dev.st = .reset → s.dev.hold ≠ 0 → s.pwr.holdPhase = some ms →
      (s.holdPulse = true ↔ ∃ k < s.dev.hold, 150 * k ≤ ms ∧ ms < 150 * k + 50)) ∧
    (s.dev.st = .off ∨ (s.jtag.driving = false ∧ s.holdPulse = true) → s.errpLevels = (false, false)) ∧
    (s.dev.st ≠ .off → s.jtag.driving = false →
      (s.holdPulse = false → s.errpAsserted = true → s.errpLevels = (false, true)) ∧
      (s.errpAsserted = false → s.errpDynamic = false → s.errpLevels = (true, false)) ∧
      (s.errpAsserted = false → s.errpDynamic = true → s.errpLevels = (s.pwr.errpPhase, !s.pwr.errpPhase))) ∧
    (s.dev.st ≠ .run → s.dev.st ≠ .safe → s.errpAsserted = true)

/-- From Row 1 of Table 2.3, R367, R370: power comes and goes. What is kept of it is MRAM, the fuses and the field dies. From Row 2 of Table
2.3, R292, R356, R368: a chip reset by RESET_N or by a CRST reaction leaves RESET with PD0 alone, and keeps the latch, MRAM, the fuses,
the TAP and the field dies. From R391: an EXTEST that is selected takes the lands once RESET_N is low, and the TAP is at BYPASS before the
release. JTAG_LOCK binds from the reset after its programming. (The model's choices it rests on: log 2, 23, 24.) -/
def Obligations.PowerCyclesAndChipResets : Prop :=
  (∀ s : State,
    (∀ v, s.dev.st = .off → 1600 ≤ v → exec (.powerOn v) s = .next { s with
      dev := {}, pwr := { s.pwr with domains := [0], resetCause := 0, vsup := v, vpfwEnabled := decide (s.params.vpfw + 150 ≤ v) } }) ∧
    (∀ v, v < 1600 → exec (.powerOn v) s = .next s) ∧
    (s.dev.st ≠ .off → Gives .vsupBrownout s (fun t =>
      t.dev = { st := .off } ∧ t.pwr.domains = [] ∧ t.pwr.latch = false ∧ t.host = {} ∧ t.cells = {} ∧ t.weir = {} ∧ t.faults = {} ∧
      t.oxb = { mram := s.oxb.mram } ∧ t.cfg.bank0 = s.cfg.bank0 ∧ t.cfg.bank1 = s.cfg.bank1 ∧ t.bundles.bank0 = s.bundles.bank0 ∧
      t.bundles.bank1 = s.bundles.bank1 ∧ t.field.dies = s.field.dies ∧ t.field.chans = s.field.chans ∧
      t.jtag = {} ∧ t.ros.jtagLocked = (t.ros.fuses.getD 1284 {}).data.getLsbD 0 ∧
      (s.ros.running = none → t.ros = { fuses := s.ros.fuses, jtagLocked := t.ros.jtagLocked })))) ∧
  (∀ (s : State) (c : Instr) (cause : Nat),
    (c = .resetNLow ∧ cause = 1 ∧ s.dev.st ≠ .off ∧ (s.dev.st = .reset → s.dev.released = true)) ∨
    (c = .crstChipReset ∧ cause = 2 ∧ s.dev.crstPending = true ∧ s.oxb.running = none ∧ (s.oxb.mounted = false ∨ s.oxb.trigger ≠ some .full)) →
    Gives c s (fun t =>
      t.dev = {} ∧ t.pwr.domains = [0] ∧ t.pwr.resetCause = cause ∧ t.pwr.latch = s.pwr.latch ∧ t.pwr.warning = none ∧
      t.host = {} ∧ t.hs = {} ∧ t.cells = {} ∧ t.weir = {} ∧ t.rif = {} ∧ t.clk = {} ∧
      t.jtag = (if c = .resetNLow then { s.jtag with driving := s.jtag.ir == 0 } else s.jtag) ∧
      t.oxb = { mram := s.oxb.mram, tlDone := s.oxb.tlDone } ∧ t.ros.fuses = s.ros.fuses ∧ t.ros.busy = s.ros.busy ∧
      t.cfg = { bank0 := s.cfg.bank0, bank1 := s.cfg.bank1, active := s.cfg.active } ∧
      t.bundles = { bank0 := s.bundles.bank0, bank1 := s.bundles.bank1 } ∧
      t.field.dies = s.field.dies ∧ t.field.chans = s.field.chans ∧
      (∀ b, t.words b = if b = bPWR ∨ b = bCLK then { s.words b with injected := 0 } else {}) ∧
      t.pwr.resetNLow = (c == .resetNLow || s.pwr.resetNLow)))

/-- From Table 2.4 steps 1 and 2, R38, R49: the release of reset, and each retry of a clock hold, ends in hold 2 without lock, in hold 3
with a ratio outside ±2 %, and otherwise powers the domains up, but for those that were shed; FACTORY_TEST needs TESTMODE and an
unprogrammed lock word. From R49: with TESTMODE high and the factory-lock word unprogrammed the release enters FACTORY_TEST, unless the
latch is set. (The model's choices it rests on: log 98.) -/
def Obligations.ReleaseOfReset : Prop :=
  (∀ (s : State) (c : Instr) (lock : Bool) (dev : Int),
    (c = .resetRelease false lock dev ∧ s.dev.st = .reset ∧ s.dev.released = false) ∨
    (c = .holdRetry lock dev ∧ s.dev.st = .reset ∧ s.dev.released = true ∧ (s.dev.hold = 2 ∨ s.dev.hold = 3)) →
    Gives c s (fun t => t.dev.st = .reset ∧ t.dev.released = true ∧ t.clk.pllLocked = lock ∧ t.clk.ratioDev = dev ∧ t.ros = s.ros ∧
      (c = .resetRelease false lock dev → s.pwr.resetNLow = true → s.jtag.ir = 0 → t.jtag.ir = 0xFF ∧ t.jtag.driving = false) ∧
      (lock = false → t.dev.hold = 2) ∧
      (lock = true → dev < -200 ∨ 200 < dev → t.dev.hold = 3) ∧
      (lock = true → -200 ≤ dev → dev ≤ 200 → t.dev.hold = 0 ∧ t.dev.holdRegion = 0 ∧ t.dev.holdWord = 0 ∧
        (s.pwr.shed = true → ∀ d ∈ [1, 2, 3, 4, 5, 6, 9, 10], t.on d = s.on d) ∧
        (s.pwr.shed = false → t.on 1 = true ∧ t.on 9 = true ∧ t.on 11 = true ∧
          (s.pwr.latch = false → ∀ d ∈ [2, 3, 4, 5, 6, 10], t.on d = true))))) ∧
  (∀ (s : State) (lock : Bool) (dev : Int), s.dev.st = .reset → s.dev.released = false →
    ((s.ros.fuses.getD 3648 {}).prog = false → s.pwr.latch = false → Gives (.resetRelease true lock dev) s (fun t =>
      t.dev.st = .factoryTest ∧ t.dev.released = true ∧ t.ros = s.ros ∧ t.faults = s.faults)) ∧
    (s.pwr.latch = true → Gives (.resetRelease true lock dev) s (fun t => t.dev.st = .reset ∧ t.dev.released = true)) ∧
    ((s.ros.fuses.getD 3648 {}).prog = true → Gives (.resetRelease true lock dev) s (fun t =>
      t.dev.st = .reset ∧ t.isLive bPWR 1 0 = true)))

/-- From R370 to R372: the power-fail warning occurs with the instance that fired and freezes the mounted recorder; after 20 µs all domains
but PD0 and PD11 are shed; a warning that ends before that leaves no trace but PFAIL_SEEN, one that ends after it resets the chip. From
R320: at the end of the sequence Oxbow has stopped, and no trigger starts a flush. (The
model's choices it rests on: log 95.) -/
def Obligations.PowerFailSequence : Prop :=
  ∀ s : State,
    (∀ pin, s.dev.st ≠ .off → s.pwr.warning = none → (pin = false → s.pwr.vpfwEnabled = true) → Gives (.pfailWarning pin) s (fun t =>
      t.pwr.warning = some (if pin then 1 else 0) ∧ t.pwr.pfailSeen = true ∧ t.isLive bPWR 0 (if pin then 1 else 0) = true ∧
      (s.oxbRuns = true → t.oxb.frozen = true ∧ t.oxb.running = some .powerFail ∧ t.oxb.trigger = none))) ∧
    (∀ i, s.pwr.warning = some i → s.pwr.shed = false → Gives .domainShedding s (fun t =>
      t.pwr.domains = s.pwr.domains.filter (fun d => d == 0 || d == 11) ∧ t.pwr.shed = true ∧
      (∀ d, 1 ≤ d → d ≤ 10 → t.on d = false) ∧ t.oxbRuns = s.oxbRuns ∧ t.dev.st = s.dev.st ∧ t.host = {} ∧ t.cells = {} ∧ t.weir = {} ∧
      t.oxb = s.oxb ∧ t.ros.fuses = s.ros.fuses ∧ t.field.dies = s.field.dies ∧ t.cfg.bank0 = s.cfg.bank0 ∧ t.cfg.bank1 = s.cfg.bank1)) ∧
    (s.pwr.shed = false →
      let u := (({ s with pwr := { s.pwr with warning := none } } : State).clear bPWR 0 0 whoDev).clear bPWR 0 1 whoDev
      (s.oxb.running = some .powerFail → exec .pfailClear s = .next u) ∧
      (s.oxb.running ≠ some .powerFail → exec .pfailClear s = .next { u with oxb := { u.oxb with frozen := false } })) ∧
    (s.oxb.frozen = true → s.oxb.running = none →
      exec .flushStart s = .next s ∧ exec .flushHourly s = .next s ∧ exec .flushDeferred s = .next s) ∧
    (s.pwr.shed = true → s.pwr.shedDone = true → Gives .pfailRecovery s (fun t =>
      t.dev.st = .reset ∧ t.pwr.resetCause = 2 ∧ t.pwr.shed = false ∧ t.pwr.warning = none ∧ t.pwr.pfailSeen = s.pwr.pfailSeen ∧
      t.ros.fuses = s.ros.fuses))

/-- From R366, R375, R376, R377: the rails, VSUP, the PLL lock and the ratio windows report their sources; a lost lock gates the clocks, sets
the latch and stops the flush under way, whose records stay in the queue, as many as it holds; after shedding Oxbow's sequence is at its
end with it. (The model's choices it rests on: log 25, 86; that a loss in RESET holds for the lock again and that FACTORY_TEST takes no
latch: log 109.) -/
def Obligations.SupplyAndClockMonitors : Prop :=
  ∀ s : State, s.dev.st ≠ .off →
    (∀ k, k < 4 → exec (.railFault k) s =
        .next (({ s with pwr := { s.pwr with railBad := setMem s.pwr.railBad k } } : State).raise bPWR 3 k whoDev) ∧
      exec (.railReturn k) s = .next (({ s with pwr := { s.pwr with railBad := setDel s.pwr.railBad k } } : State).clear bPWR 3 k whoDev)) ∧
    exec .vsupHigh s = .next (({ s with pwr := { s.pwr with vsupHigh := true } } : State).raise bPWR 2 0 whoDev) ∧
    exec .vsupHighEnd s = .next (({ s with pwr := { s.pwr with vsupHigh := false } } : State).clear bPWR 2 0 whoDev) ∧
    (s.clk.pllLocked = true → Gives .pllLockLoss s (fun t => t.clk.pllLocked = false ∧ t.clk.gated = true ∧ t.isLive bCLK 0 0 = true ∧
      t.oxb.running = none ∧ t.oxb.inFlight = [] ∧ (s.oxb.inFlight ++ s.oxb.dirty).take 8192 <+: t.oxb.dirty ∧
      (s.dev.st ≠ .factoryTest → t.pwr.latch = true) ∧ (s.pwr.shed = true → t.pwr.shedDone = true) ∧
      (s.dev.st = .reset → t.dev.st = .reset ∧ t.dev.hold = if s.dev.hold = 0 then 2 else s.dev.hold))) ∧
    (s.dev.st ≠ .reset → ∀ n : Nat,
      (n < 380000 ∨ 420000 < n → Gives (.ratioWindowEnd n) s (fun t => t.isLive bCLK 1 0 = true ∧ t.clk.outTwo = s.clk.outTwo + 1)) ∧
      (392000 ≤ n → n ≤ 408000 → Gives (.ratioWindowEnd n) s (fun t => t.clk.outTwo = 0 ∧ t.clk.ratioDev = ((n : Int) - 400000) / 40))) ∧
    (s.dev.st ≠ .reset → Gives .ratioWindowTimeout s (fun t => t.isLive bCLK 1 0 = true ∧ t.clk.outTwo = s.clk.outTwo + 1))

/-- From R390, R391, Table 18.9: the instructions of the TAP; with JTAG_LOCK the scan and debug instructions select BYPASS, as does an
8-bit code that the table does not list; a scan captures the 36 lands, ERR_P, ERR_N and IRQ_N at the levels they have, and preloads what
it shifts in; EXTEST drives the lands with the preload while RESET_N is low alone. From R304: a fault that the factory injects in
FACTORY_TEST sets its INJECTED bit and leaves STICKY and LIVE; in every other state nothing is injected. (The model's choices it rests
on: log 26, 101, 110.) -/
def Obligations.TapInstructions : Prop :=
  ∀ s : State, s.dev.st ≠ .off →
    let bypass : JtagSt := { s.jtag with ir := 0xFF, dr := 0, driving := false }
    let idcode : JtagSt := { s.jtag with ir := 0x02, dr := 0x19640E4B, driving := false }
    exec .idcode s = .next { s with jtag := idcode } ∧ exec .tapReset s = .next { s with jtag := idcode } ∧
    (∀ code, code < 256 → code ∉ [0x00, 0x01, 0x02, 0x10, 0x20] → exec (.bypass code) s = .next { s with jtag := bypass }) ∧
    (s.ros.jtagLocked = true → ∀ scanIn, ∀ c ∈ [Instr.extest scanIn, .samplePreload scanIn, .debug []],
      exec c s = .next { s with jtag := bypass, free := s.free + 1 }) ∧
    (s.ros.jtagLocked = false → ∀ scanIn, ∀ e ∈ [(Instr.extest scanIn, 0x00), (.samplePreload scanIn, 0x01)],
      ∃ chain : BitVec 36, exec e.1 s = .next { s with
        jtag := { ir := e.2, dr := 0, driving := e.2 == 0 && s.pwr.resetNLow, chain := chain, preload := scanIn }, free := s.free + 1 } ∧
        chain.getLsbD 19 = !s.irqLow ∧ chain.getLsbD 20 = !s.pwr.resetNLow ∧ chain.getLsbD 22 = s.errpLevels.1 ∧
        chain.getLsbD 23 = s.errpLevels.2) ∧
    (s.jtag.driving = true → s.errpLevels = (s.jtag.preload.getLsbD 22, s.jtag.preload.getLsbD 23) ∧
      s.irqLow = !s.jtag.preload.getLsbD 19) ∧
    (s.ros.jtagLocked = false → ∃ dr, exec (.debug []) s = .next { s with
      jtag := { s.jtag with ir := 0x20, dr := dr, driving := false }, free := s.free + 1 }) ∧
    (∀ js, s.dev.st ≠ .factoryTest ∨ s.ros.jtagLocked = true → exec (.debug js) s = exec (.debug []) s) ∧
    (∀ b i n, s.dev.st = .factoryTest → s.ros.jtagLocked = false → (sourceOf b i).isSome = true → b ≠ bRIF →
      Gives (.debug [⟨b, i, n⟩]) s (fun t => (t.words b).injected.getLsbD i = true ∧ t.isLive b i n = s.isLive b i n ∧
        (t.words b).sticky = (s.words b).sticky ∧ t.dev.st = .factoryTest)) ∧
    ∃ dr : Word, exec .holdReason s = .next { s with jtag := { s.jtag with ir := 0x10, dr := dr, driving := false }, free := s.free + 1 }

/-- R362: the hold-reason register. The device holds with reason, region and word (the first failing one, 0xFFF for a checksum failure
without a bad word); the register shows them in RESET, and in every state while JTAG_LOCK is set. -/
def Obligations.HoldReasonRegister : Prop :=
  (∀ s : State, s.dev.st ≠ .off → s.dev.st = .reset ∨ s.ros.jtagLocked = true → s.dev.hold ≠ 0 → s.dev.hold < 16 →
    s.dev.holdRegion < 16 → s.dev.holdWord < 4096 → Gives .holdReason s (fun t => SameBut [.jtag, .free] s t ∧ t.jtag.ir = 0x10 ∧
      t.jtag.dr.toNat / 2 ^ 28 = s.dev.hold ∧ t.jtag.dr.toNat / 2 ^ 24 % 16 = s.dev.holdRegion ∧
      t.jtag.dr.toNat / 2 ^ 12 % 4096 = s.dev.holdWord ∧ t.jtag.dr.toNat % 2 ^ 12 = 0)) ∧
  (∀ (s : State) (odd : List (Nat × Sense)), s.dev.st = .reset → s.dev.released = true → s.dev.hold = 0 → s.ros.sensed = false →
    Gives (.rosSensing odd) s (fun t => ∀ g ∈ [0, 2, 4], t.sealed g = true →
      (∀ e ∈ [0, 2, 4], e < g → t.integrityFailure e = none) →
      (∀ w ∈ regionRange g, (t.shadow w).bad = true → (∀ k ∈ regionRange g, k < w → (t.shadow k).bad = false) →
        t.dev.hold = 1 ∧ t.dev.holdRegion = g ∧ t.dev.holdWord = w) ∧
      (∀ first lock sealW, regionWords g = some (first, lock, sealW) → (∀ k ∈ regionRange g, (t.shadow k).bad = false) →
        (t.shadow sealW).val.toNat / 2 ^ 48 = 0xA500 + g → (t.shadow sealW).val.toNat ≠ sealValue g (t.regionCrc g) →
        t.dev.hold = 1 ∧ t.dev.holdRegion = g ∧ t.dev.holdWord = 0xFFF)))

/-- From R351, R352, R38, R48, Table 16.3: sensing takes each fuse word into its shadow and marks it; without an integrity failure the
device leaves RESET for BOOT, or for LATCHED with the latch set; with one it holds with reason 1. (The model's choices it rests on: log
14.) -/
def Obligations.SensingDecides : Prop :=
  ∀ (s : State) (w : Nat) (x : Sense), s.dev.st = .reset → s.dev.released = true → s.dev.hold = 0 → s.ros.sensed = false →
    (s.ros.fuses.map (·.1)).Pairwise (· < ·) → w < 4096 →
    Gives (.rosSensing [(w, x)]) s (fun t =>
      t.ros.fuses = s.ros.fuses ∧ (s.pwr.shed = false → t.on 8 = true) ∧ t.ros.sensed = true ∧ t.ros.jtagLocked = (t.shadow 1284).val.getLsbD 0 ∧
      (∀ k, k ≠ w → t.shadow k =
        ⟨(s.ros.fuses.getD k {}).data, (s.ros.fuses.getD k {}).prog || (s.ros.fuses.getD k {}).data != 0, false, false⟩) ∧
      (∀ v, x = .equal (.clean v) → (t.shadow w).val = v ∧ (t.shadow w).marginal = false ∧ (t.shadow w).bad = false) ∧
      (∀ v, x = .equal (.corrected v) → (t.shadow w).val = v ∧ (t.shadow w).marginal = true ∧ (t.shadow w).bad = false) ∧
      (x = .equal .uncorrectable → (t.shadow w).val = 0 ∧ (t.shadow w).bad = true) ∧
      (∀ n m0 m1 v, x = .unequal n m0 m1 → n = .clean v ∨ n = .corrected v →
        (m0 = .clean v ∨ m1 = .clean v → (t.shadow w).val = v ∧ (t.shadow w).marginal = true ∧ (t.shadow w).bad = false) ∧
        (m0 ≠ .clean v → m1 ≠ .clean v → (t.shadow w).val = 0 ∧ (t.shadow w).bad = true)) ∧
      ((∀ g ∈ [0, 2, 4], t.integrityFailure g = none) → t.dev.hold = 0 ∧ t.dev.st = if s.pwr.latch then .latched else .boot) ∧
      (∀ g ∈ [0, 2, 4], ∀ k, t.integrityFailure g = some k →
        t.dev.st = .reset ∧ t.dev.hold = 1 ∧ t.isLive bROS 0 g = true ∧ (g = 0 → t.dev.holdRegion = 0 ∧ t.dev.holdWord = k)))

/-- From Steps 4 and 5 of Table 2.4, R199, R200, R41: a pair passes the comparator test when the lanes reported are those inverted; the ROM
boots the bank with the higher activation number, the other one when that fails its checks, and with neither enters MAINTENANCE (ROM).
From Steps 6 and 7 of Table 2.4, R325, R322, R45: the supervisor starts, the lifetime values are taken, Oxbow mounts and the mailbox is
ready; then the newer configuration bank is taken to VERIFY, or its failed check to MAINTENANCE (firmware). (The model's choices it
rests on: log 3, 75.) -/
def Obligations.BootAndSupervisorStart : Prop :=
  (∀ s : State, s.dev.st = .boot →
    (∀ (p : Nat) (r : LaneReport), 1 ≤ p → p ≤ 6 → s.on p = true → (s.pair p).selfTestOk = false →
      (∀ q, 1 ≤ q → q < p → (s.pair q).selfTestOk = true) → r.step ≤ 160 → r.group < 96 → r.lane < 32 →
      let inverted := (1 ≤ r.step ∧ r.step ≤ 32 ∧ r.lane + 1 = r.step) ∨
        (33 ≤ r.step ∧ r.step ≤ 63 ∧ (r.lane + 33 = r.step ∨ r.lane + 32 = r.step)) ∨
        (64 ≤ r.step ∧ r.step ≤ 159 ∧ r.group + 64 = r.step ∧ (r.lane = 0 ∨ r.lane = 31))
      ((r.reported = true ↔ inverted) →
        exec (.cmpInjectionTest p [r]) s = .next (s.setPair p { s.pair p with selfTestOk := true })) ∧
      (¬(r.reported = true ↔ inverted) → exec (.cmpInjectionTest p [r]) s = .next (s.event p 4 r.group))) ∧
    (s.bundles.running = none → (∀ p, 1 ≤ p → p ≤ 6 → (s.pair p).selfTestOk = true) →
      let hi := if s.bundles.bank0.activation < s.bundles.bank1.activation then 1 else 0
      (∀ m, s.acceptedBank hi = some m → exec (.romBankCheck []) s = .next { s with
        bundles := { s.bundles with running := some hi, manifest := some m }, dev := { s.dev with bundleFallback := false } }) ∧
      (∀ m, s.acceptedBank hi = none → s.acceptedBank (1 - hi) = some m →
        s.bundles.bank0.activation ≠ s.bundles.bank1.activation →
        exec (.romBankCheck []) s = .next (({ s with
          bundles := { s.bundles with running := some (1 - hi), manifest := some m },
          dev := { s.dev with bundleFallback := true } } : State).event bSUP 6 (1 - hi))) ∧
      (s.acceptedBank hi = none → s.acceptedBank (1 - hi) = none → Gives (.romBankCheck []) s (fun t =>
        t.dev.st = .maintenance ∧ t.dev.maint = .rom ∧ t.host.ready = true ∧ t.host.rom = true ∧ t.bundles.running = none)))) ∧
  (∀ s : State, s.dev.st = .boot →
    (∀ b n m, s.bundles.running = some b → s.supRuns = true → s.dev.loaded = false → s.oxb.mounted = false → s.oxb.mram.seconds = [n, n, n] →
      s.oxb.mram.cycles = [m, m, m] →
      s.tlUsed ≠ 64 → (∀ e ∈ s.oxb.mram.tail, e.2.damaged = none) → (∀ o ∈ s.oxb.mram.image, o.rcd.damaged = none) →
      (∀ e ∈ s.oxb.mram.totals, e.2.broken = []) → Gives (.supImageStart [] []) s (fun t => t.dev = s.dev ∧ t.oxb.mounted = true ∧
        t.host.ready = true ∧ t.host.rom = false ∧
        t.host.evReady = true ∧ t.pwr.opSeconds = min 0xFFFFFFFF (n + s.pwr.sinceRelease) ∧
        t.pwr.powerCycles = min 0xFFFFFFFF (m + 1) ∧ t.time.mountTick = some (s.time.tick + 1) ∧
        t.oxb.mram.image = [] ∧ t.oxb.mram.marked = false ∧ t.oxb.mram.unfolded = [] ∧ t.host.queue = s.host.queue ∧ t.cfg = s.cfg ∧ t.ros = s.ros)) ∧
    (s.supRuns = false → exec (.supImageStart [] []) s = .next s ∧ exec .configBankSelect s = .next s) ∧
    (s.oxb.mounted = true → s.supRuns = true →
      let b := s.cfg.newerBank
      let hashed := 32 ≤ b.bytes.length ∧ b.bytes.drop (b.bytes.length - 32) = containerHash b.bytes ∧ b.hash = containerHash b.bytes
      let epoch := leAt b.bytes 12 2
      (¬ hashed → Gives .configBankSelect s (fun t => t.dev.st = .maintenance ∧ t.dev.maint = .firmware ∧
        t.dev.maintCode = some (refusal cHASH kNone 0) ∧ t.cfg = s.cfg)) ∧
      (hashed → epoch < s.checkEnv.epochMin ∨ s.checkEnv.epochMax < epoch → Gives .configBankSelect s (fun t =>
        t.dev.st = .maintenance ∧ t.dev.maint = .firmware ∧ t.dev.maintCode = some (refusal cEPOCH kNone 0) ∧ t.cfg = s.cfg)) ∧
      (hashed → s.checkEnv.epochMin ≤ epoch → epoch ≤ s.checkEnv.epochMax → s.weir.conns = [] → Gives .configBankSelect s (fun t =>
        t.dev.st = .verify ∧ t.dev.formOk = [false, false] ∧ t.dev.certOk = false ∧ t.cfg.active = s.cfg.newer ∧
        t.cfg.bank0 = s.cfg.bank0 ∧ t.cfg.bank1 = s.cfg.bank1 ∧
        t.cfg.running = some ⟨readContainer b.bytes, b.sequence, [], []⟩))))

/-- From Steps 8 to 10 of Table 2.4, R46, R125, R181: a cached form that is intact, of this container and of this translator is used; another
is translated anew, or its refusal leads to MAINTENANCE (firmware) once both channels are done, with SUP.XLATE_DIVERGE where the two
translators differ. A valid certificate gives the placements; otherwise steps 11 to 20 of
admission write a new one, or their refusal leads to MAINTENANCE (firmware). From Step 11 of Table 2.4, Table 2.2, rows 10 and 12 of
Table 2.3, R207, R395: VERIFY ends in SAFE with the reason that applies, or in RUN, and leaves the device-safe line as it is; the first exit
after a reset sets the origin of cell timing. (The model's choices it rests on: log 71, 73, 102.) -/
def Obligations.FormsVerifiedAndVerifyEnds : Prop :=
  (∀ (s : State) (run : RunCfg), s.dev.st = .verify → s.cfg.running = some run →
    let bank := s.cfg.bank s.cfg.active
    (∀ (sd : Side) (f : Form) (v : Option Verdict), bank.form sd = some f → f.intact = true → f.containerHash = run.cont.hash →
      f.translator = (s.bundles.manifest.getD default).translator → (∀ e ∈ s.dev.formVerdict, e.2 = none) →
      exec (.formReverify sd true v) s = .next { s with dev := { s.dev with formOk := s.dev.formOk.set (Side.ix sd) true } }) ∧
    (∀ sd : Side, s.dev.formOk.length = 2 →
      (∀ e v, checkSteps1to4 bank.bytes bank.bytes.length s.checkEnv = some e → Gives (.formReverify sd false v) s (fun t =>
        t.dev.st = .maintenance ∧ t.dev.maint = .firmware ∧ t.dev.maintCode = some e ∧ t.dev.loaded = false ∧ t.cfg = s.cfg)) ∧
      (∀ e, checkSteps1to4 bank.bytes bank.bytes.length s.checkEnv = none →
        checkSteps5to10 bank.bytes run.cont s.checkEnv = some e →
        let ends := fun (t : State) => t.dev.st = .maintenance ∧ t.dev.maint = .firmware ∧ t.dev.maintCode = some e
        (s.dev.formVerdict = [] → s.dev.formOk.getD (1 - Side.ix sd) false = true → Gives (.formReverify sd false none) s ends) ∧
        (s.dev.formVerdict = [(1 - Side.ix sd, none)] → s.dev.loaded = false →
          Gives (.formReverify sd false none) s (fun t => ends t ∧ t.isLive bSUP 8 0 = true))) ∧
      (checkSteps1to4 bank.bytes bank.bytes.length s.checkEnv = none → checkSteps5to10 bank.bytes run.cont s.checkEnv = none →
        (∀ e ∈ s.dev.formVerdict, e.2 = none) → Gives (.formReverify sd false none) s (fun t => t.dev.st = .verify ∧ t.dev.formOk.getD (Side.ix sd) false = true ∧
          ∃ f, (t.cfg.bank s.cfg.active).form sd = some f ∧ f.intact = true ∧ f.containerHash = run.cont.hash ∧
            SameBut [.dev, .cfg] s t))) ∧
    (s.dev.formOk = [true, true] → s.riffleReady = true → (∀ p ∈ [bSA0, bSA1, bBR0, bBR1], (s.pair p).retired = false) →
      (s.certValid bank.cert run.cont.hash = true → Gives .certCheck s (fun t => t.dev.certOk = true ∧ t.dev.loaded = true ∧
        t.dev.st = .verify ∧ SameBut [.dev, .cfg] s t ∧ t.cfg.bank0 = s.cfg.bank0 ∧ t.cfg.bank1 = s.cfg.bank1 ∧
        ∃ run', t.cfg.running = some run' ∧ run'.cont = run.cont ∧ run'.cells = certCells bank.cert)) ∧
      (s.certValid bank.cert run.cont.hash = false →
        let len := fun (f : Option Form) => (f.map (·.length)).getD 0
        let a := admission run.cont (s.admitEnv (len bank.formA) (len bank.formB) [] [])
        (∀ e, a.refusal = some e → Gives .certCheck s (fun t => t.dev.st = .maintenance ∧ t.dev.maint = .firmware ∧
          t.dev.maintCode = some e ∧ t.dev.loaded = false ∧ t.cfg = s.cfg)) ∧
        (a.refusal = none → Gives .certCheck s (fun t => t.dev.certOk = true ∧ t.dev.loaded = true ∧ t.dev.st = .verify ∧
          certBody run.cont a (s.certInfo true run.sequence) <+: (t.cfg.bank s.cfg.active).cert ∧
          t.cfg.running = some { run with cells := a.cells, pulses := a.pulses }))))) ∧
  (∀ s : State, s.dev.st = .verify → s.dev.certOk = true →
    let origin := s.time.origin.or (some s.time.tick)
    (∀ reason,
      (s.dev.verifySafe = true ∧ reason = 0x01) ∨ (s.dev.verifySafe = false ∧ s.dev.verifyCause = .newConfig ∧ reason = 0x05) ∨
      (s.dev.verifySafe = false ∧ s.dev.verifyCause = .start ∧ s.dev.s3InSafe = true ∧
        reason = if s.isLive bPWR 0 0 = true ∨ s.isLive bPWR 0 1 = true then 0x06 else 0x02) ∨
      (s.dev.verifySafe = false ∧ s.dev.verifyCause = .start ∧ s.dev.s3InSafe = false ∧
        ((s.pwr.resetCause ∉ [0, 1] ∧ reason = 0x04) ∨
          (s.pwr.resetCause ∈ [0, 1] ∧ s.dev.bundleFallback = true ∧ reason = 0x07) ∨
          (s.pwr.resetCause ∈ [0, 1] ∧ s.dev.bundleFallback = false ∧ s.runCont.startHost = true ∧ reason = 0x03))) →
      Gives .verifyExit s (fun t => t.dev.st = .safe ∧ t.dev.safeReason = reason ∧ t.dev.safeLine = s.dev.safeLine ∧
        t.time.origin = origin ∧ t.time.tau0 = some s.time.tick ∧ t.faults.live = s.faults.live)) ∧
    (s.dev.verifySafe = false → s.manifestEpoch ≤ s.fusedEpoch →
      s.dev.verifyCause = .restart ∨ (s.dev.verifyCause = .start ∧ s.dev.s3InSafe = false ∧ s.pwr.resetCause ∈ [0, 1] ∧
        s.dev.bundleFallback = false ∧ s.runCont.startHost = false) →
      Gives .verifyExit s (fun t => t.dev.st = .run ∧ t.dev.safeLine = s.dev.safeLine ∧ t.time.origin = origin ∧
        t.time.tau0 = some s.time.tick ∧ t.faults.live = s.faults.live)))

/-- From Table 8.4, R192, R193, R194: a mismatch is counted, reported, and resets the pair; with an earlier one within 10 s, or three
within 24 hours, the pair is retired: it stays in reset, its domain goes off, and STB stands in where it can. That marks of before and
after step 6 of Table 2.4 are not taken together (`m.early ≠ early`) is the model's choice, log 107. From R188: LS_MISMATCH names the cell
whose evaluation was running, 0xFFFF without one and for SUP. From Table 8.4, R187, R185, R189: a restore ends the reset of its pair
alone, or retires it when neither checkpoint slot that it has written can be read; an unreadable image is CKPT_LOST of its cell; the third
successive disagreement on an input is AGR_PERSIST; a re-run past its deadline is CATCHUP_LATE. That a count of disagreements which is
live outlasts the restore is the model's choice, log 100. From R18, R187, R368, Tables 1.3 and 13.12: a port guard blocks an access outside
the initiator's rights, counts it for the SRAM guards and reports it under its block, and lets one inside them pass; an initiator whose
domain is off has none; an uncorrectable word is reported for the cell whose image holds it, or for its initiator. Nothing else changes.
That SUP writes the handover window of SRAM-S while STB hosts the new supervisor in the mailbox pause alone is the model's choice, log
108. (The model's choices it rests on: log 54, 61, 64, 65, 90, 100, 107, 108.) -/
def Obligations.PairsResetAndRestore : Prop :=
  (∀ (s : State) (p g : Nat) (same : Bool), 1 ≤ p → p ≤ 6 → g < 96 → s.on p = true → (s.pair p).inReset = false →
    (s.pair p).retired = false →
    let now := s.pwr.opSeconds
    let early := !s.oxb.mounted && s.dev.maint != .rom
    let marks := (s.pair p).monitor
    (marks.length < 3 → (∀ m ∈ marks, m.second + 10 < now ∨ m.early ≠ early) → Gives (.lockstepMismatch p none g same) s (fun t =>
      (t.pair p).inReset = true ∧ (t.pair p).retired = false ∧ (t.pair p).lastGroup = g ∧
      (t.pair p).mismatches = min 0xFFFF ((s.pair p).mismatches + 1) ∧
      (t.pair p).monitor.map (·.second) = marks.map (·.second) ++ [now] ∧ t.isLive p 0 0xFFFF = true ∧
      ∀ q, q ≠ p → t.pair q = s.pair q)) ∧
    (∀ n, p ≠ 1 → marks.length < 3 → (∀ m ∈ marks, m.second + 10 < now ∨ m.early ≠ early) →
      Gives (.lockstepMismatch p (some n) g same) s (fun t => (t.pair p).inReset = true ∧ (t.pair p).retired = false ∧
        (s.evaluates (s.roleOf p) n = true ∨ s.shadows p n = true → t.isLive p 0 n = true) ∧
        (s.evaluates (s.roleOf p) n = false → s.shadows p n = false → t.isLive p 0 0xFFFF = true))) ∧
    let near := fun (m : Mark) (d : Nat) => m.early = early ∧ m.second ≤ now ∧ now < m.second + d
    ((∃ m ∈ marks, near m 10) ∨ (marks.length = 3 ∧ ∀ m ∈ marks, near m 86400) →
      Gives (.lockstepMismatch p none g same) s (fun t =>
        (t.pair p).retired = true ∧ (t.pair p).inReset = true ∧ t.on p = false ∧ t.isLive p 1 0 = true ∧
        (p ≤ 3 → (s.pair 6).selfTestOk = true → (s.pair 6).retired = false → s.pairs.stbFor = none → s.pairs.stb = .free →
          s.bundles.handover = none → t.pairs.stbFor = some p ∧ t.pairs.stb = .standIn ∧ (t.pair 6).inReset = true)))) ∧
  (∀ s : State,
    (∀ p, 1 ≤ p → p ≤ 6 → s.on p = true → (s.pair p).inReset = true → (s.pair p).retired = false →
      (∀ m ∈ s.pairs.moves, m.role = p → m.restored = true) →
      (∀ cells bad again, (s.pair p).slot0.closed = true ∨ (s.pair p).slot1.closed = true →
        Gives (.pairRestoreDone p ⟨true, true, cells, bad, again⟩) s (fun t =>
          (t.pair p).retired = true ∧ (t.pair p).inReset = true ∧ t.on p = false)) ∧
      Gives (.pairRestoreDone p ⟨false, false, [], false, false⟩) s (fun t =>
        (t.pair p).inReset = false ∧ (t.pair p).retired = false ∧ (t.pair p).monitor = (s.pair p).monitor ∧
        (∀ a ∈ (s.pair p).agr, 3 ≤ a.count → a ∈ (t.pair p).agr) ∧
        (∀ q, q ≠ p → t.pair q = s.pair q) ∧ SameBut [.pairs, .faults, .cells] s t ∧ t.faults = { s.faults with nmi := t.faults.nmi, handled := t.faults.handled } ∧
        (p = 1 → t.faults.nmi = []) ∧ t.cells.lines = s.cells.lines) ∧
      ∀ n sd e, evaluatorSide (s.roleOf p) = some (sd, e) → n ∈ s.cellsOf (s.roleOf p) →
        Gives (.pairRestoreDone p ⟨false, false, [n], false, false⟩) s (fun t => t.isLive (s.roleOf p) 3 n = true)) ∧
    (∀ p kind index,
      (∀ a ∈ (s.pair p).agr, a.kind = kind → a.index = index → 3 ≤ a.count →
        exec (.agrPersistCount p kind index) s = .next (s.raise (s.roleOf p) 2 (kind * 4096 + index % 4096) whoDev)) ∧
      ((∀ a ∈ (s.pair p).agr, a.kind = kind → a.index = index → a.count < 3) → exec (.agrPersistCount p kind index) s = .next s)) ∧
    (∀ sd n r, r ∈ (s.cell sd n).runs → r.result = none → r.rerun = true → r.takeover = false →
      let e := (s.verCont r.ver).cell n
      (e.retry = true ∧ (∃ k, (s.line n).lastRecon = some k ∧ r.recon ≤ k)) ∨ (e.retry = false ∧ r.start + e.ticks ≤ s.time.tick) →
      exec (.catchupLate sd n) s = .next (s.event (bCELL n) (8 * (n % 16) + 3) n)) ∧
    (∀ sd n, (∀ r ∈ (s.cell sd n).runs, r.result.isSome ∨ r.rerun = false ∨ r.takeover = true) →
      exec (.catchupLate sd n) s = .next s)) ∧
  (∀ (s : State) (i : Nat) (w : Bool) (region : MemRegion),
    let allowed := if w then (s.rights i region).2 else (s.rights i region).1
    (s.on (s.initiatorDomain i) = false → s.rights i region = (false, false)) ∧
    (s.on (s.initiatorDomain bSUP) = true → s.hasEvaluator bSUP = true →
      s.rights bSUP .handoverWindow = (true, !s.hostsNew || s.host.paused)) ∧
    let blocked := fun (g : Nat) (m : MemSt) => ({ s with mems := { m with lastBlock := some ⟨g, i, w, 0⟩ } } : State)
    (regionGuard region = none ∨ allowed = true → exec (.portGuardBlock i region w) s = .next s) ∧
    (allowed = false →
      (regionGuard region = some 0 → s.on 9 = true → exec (.portGuardBlock i region w) s =
        .next ((blocked 0 { s.mems with blocksA := min 0xFFFF (s.mems.blocksA + 1) }).event bMEMA 0 i)) ∧
      (regionGuard region = some 1 → s.on 10 = true → exec (.portGuardBlock i region w) s =
        .next ((blocked 1 { s.mems with blocksB := min 0xFFFF (s.mems.blocksB + 1) }).event bMEMB 0 i)) ∧
      (regionGuard region = some 2 → s.on 7 = true →
        exec (.portGuardBlock i region w) s = .next ((blocked 2 s.mems).event bWEIR 0 i)) ∧
      (regionGuard region = some 3 → s.on 11 = true →
        exec (.portGuardBlock i region w) s = .next ((blocked 3 s.mems).event bOXB 0 i)))) ∧
  (∀ (s : State) (i : Nat),
    (s.on 9 = true →
      exec (.eccUncorrectable .a i .elsewhere) s = .next (s.event bMEMA 3 i) ∧
      ∀ n, (s.inUse n = true → exec (.eccUncorrectable .a i (.cellImage n)) s = .next (s.event bMEMA 2 n)) ∧
        (s.inUse n = false → exec (.eccUncorrectable .a i (.cellImage n)) s = .next s)) ∧
    (s.on 10 = true → exec (.eccUncorrectable .b i .elsewhere) s = .next (s.event bMEMB 3 i)))

/-- From Table 5.18, R128, R129, R190, R126, R30: at a boundary of a cell that no live commit touches, an active line holds it and turns its
outputs off, a held cell whose line has ended waits, a waiting cell runs without reset mode or after a reset pulse, and a running cell's
outputs take the command of its last evaluation; a new evaluation is latched. From R276 to R282: at the boundary that a commit record names a
changed cell goes into SHADOW with the carry map of its running image, or takes the safe transition with CELL.TRANSITION, as an added one
does without it; a removed cell is held, and unused a period later. A shadow whose periods were clean swaps at its swap boundary: the new
version runs on from the carry map, its counts start at 0, and CELL.SWAP is raised; one that was not clean takes the transition, as one
whose line is active does without the event. (The model's choices it rests on: log 55, 56, 59, 62, 81, 114.) -/
def Obligations.CellBoundaryStates : Prop :=
  (∀ (s : State) (n : Nat) (sd : Side), s.boundaryDue n = true → s.cfg.live = none →
    let ln := s.line n
    let x := s.cell sd n
    let e := (s.cellCont n).cell n
    let active := s.lineActive n = true ∨ ln.lineSeen = true
    ln.record = none → ln.removeAt = none → ln.toTransition = false → ln.entry = false →
    (s.cell .a n).st ≠ .shadow → (s.cell .b n).st ≠ .shadow →
    Gives (.cellBoundary n) s (fun t =>
      SameBut [.cells, .field, .pairs, .weir, .faults] s t ∧ t.faults = { s.faults with holds := s.faults.holds.filter t.holdInForce } ∧
      (t.line n).lastBoundary = some s.time.tick ∧ (t.line n).lineSeen = s.lineActive n ∧
      (x.st = .run ∨ x.st = .wait → active → (t.cell sd n).st = .held) ∧
      (x.st = .run → ¬ active → (t.cell sd n).st = .run) ∧
      (x.st = .wait → ¬ active → (t.cell sd n).st = if e.resetMode = false ∨ x.runDone = true then .run else .wait) ∧
      (x.st = .held → (t.cell sd n).st =
        if x.heldAt + e.ticks ≤ s.time.tick ∧ s.lineActive n = false ∧ s.channelsReady n = true then .wait else .held) ∧
      ((t.cell sd n).st = .held ∨ (t.cell sd n).st = .wait → ∀ c ∈ s.boundBy n, (t.view sd c).req = false) ∧
      (x.st = .run → active → (t.cell sd n).img = initImage (s.cellCont n) n) ∧
      (x.st = .run → ¬ active → ∀ c ∈ s.boundBy n, (t.view sd c).req =
        match (if s.cellRuns sd n then x.pub else none) with
        | some cmds => cmds.getD c 0 == 1
        | none => sd == .a && !x.kept && (s.view sd c).req) ∧
      (x.st = .run → ¬ active → (t.cell sd n).remote = if s.cellRuns sd n = true ∧ x.pub.isSome = true then x.pubRemote else []) ∧
      (x.st ≠ .unused → ∃ r ∈ (t.cell sd n).runs, r.start = s.time.tick ∧
        r.recon = s.time.tick + (if e.retry then 2 * e.ticks else e.ticks) - 1 ∧
        (r.safe = true ↔ (t.cell sd n).st = .held ∨ (t.cell sd n).st = .wait)))) ∧
  (∀ (s : State) (n : Nat) (l : LiveCommit), n < 256 → s.cfg.live = some l → s.boundaryDue n = true → (s.line n).entry = false →
    let ln := s.line n
    let new := l.next.cont
    let active := s.lineActive n = true ∨ ln.lineSeen = true
    let frame := fun (t : State) => SameBut [.cells, .field, .pairs, .weir, .faults] s t
    let held := fun (t : State) (c : Container) => ∀ sd, (t.cell sd n).st = .held ∧ (t.cell sd n).heldAt = s.time.tick ∧
      (t.cell sd n).img = initImage c n ∧ (t.cell sd n).pub = none ∧ ∀ c ∈ s.boundBy n, (t.view sd c).req = false
    let onNew := fun (t : State) => (t.line n).record = none ∧ (t.line n).ver = 1 ∧ (t.line n).verB = 1
    let moved := fun (t : State) => t.isLive (bCELL n) (8 * (n % 16) + 6) n = true
    (∀ r, ln.record = some r → r.at_ = s.time.tick → ln.removeAt = none → ln.toTransition = false →
      (r.kind = .shadow → s.dev.st = .run → s.pairs.stb = .shadows → ¬ active → (∀ sd, (s.cell sd n).st = .run) →
        Gives (.cellBoundary n) s (fun t => frame t ∧ (t.line n).record = none ∧ (t.line n).ver = ln.ver ∧ (t.line n).verB = ln.verB ∧
          (t.line n).clean = 0 ∧ (t.line n).swapAt = some (s.time.tick + r.periods * ((s.cellCont n).cell n).ticks) ∧
          ∀ sd, let x := t.cell sd n
            x.st = .shadow ∧ x.work = (s.cell sd n).work ∧
            x.shadowWork = carryMap (s.sideCont sd n) new n (s.cell sd n).work (initImage new n) ∧
            ∃ y ∈ x.runs, y.start = s.time.tick ∧ y.isShadow = true ∧ y.ver = ln.version sd)) ∧
      (r.kind = .direct ∨ (r.kind = .shadow ∧ (active ∨ s.pairs.stb ≠ .shadows)) → (new.cell n).inUse = true →
        Gives (.cellBoundary n) s (fun t => held t new ∧ onNew t ∧ moved t)) ∧
      (r.kind = .added → Gives (.cellBoundary n) s (fun t => frame t ∧ held t new ∧ onNew t)) ∧
      (r.kind = .removed → Gives (.cellBoundary n) s (fun t => frame t ∧
        (∀ sd, (t.cell sd n).st = .held ∧ (t.cell sd n).img = initImage (s.sideCont sd n) n ∧
          ∀ c ∈ s.boundBy n, (t.view sd c).req = false) ∧
        (t.line n).record = none ∧ (t.line n).removeAt = some (s.time.tick + ((s.cellCont n).cell n).ticks)))) ∧
    (ln.record = none → ln.removeAt = some s.time.tick → ln.toTransition = false → Gives (.cellBoundary n) s (fun t =>
      ∀ sd, (t.cell sd n).st = .unused ∧ (t.cell sd n).runs = [] ∧ (t.cell sd n).img = {} ∧
        ∀ c ∈ s.boundBy n, (t.view sd c).req = false)) ∧
    (ln.record = none → ln.removeAt = none → (∀ sd, (s.cell sd n).st = .shadow) → (new.cell n).inUse = true →
      (¬ active → s.dev.st = .run → ln.swapAt = some s.time.tick → ln.toTransition = false →
        (∀ sd, ∀ y ∈ (s.cell sd n).runs, y.result.isSome = true) → Gives (.cellBoundary n) s (fun t =>
          onNew t ∧ (t.line n).swapAt = none ∧ t.isLive (bCELL n) (8 * (n % 16) + 5) n = true ∧
          ∀ sd, let x := t.cell sd n
            x.st = .run ∧ x.disc = 0 ∧ x.sigc = 0 ∧ x.shadowWork = {} ∧
            x.work = carryMap (s.sideCont sd n) new n (s.cell sd n).work (s.cell sd n).shadowWork)) ∧
      (ln.toTransition = true ∨ active → Gives (.cellBoundary n) s (fun t =>
        held t new ∧ onNew t ∧ (t.line n).swapAt = none ∧ (t.line n).toTransition = false ∧ (ln.toTransition = true → moved t)))))

/-- From R137, R186, R189: an evaluator that works completes the oldest evaluation of a cell from its latch and its work image; the image in
force changes only where its reconciliation point has passed; no other cell changes, and of the pairs only that evaluator's load. From R278:
in SHADOW the new version is evaluated from the same latch and from its own image. (The model's choices it rests on: log 82.) -/
def Obligations.EvaluationCompletes : Prop :=
  (∀ (s : State) (sd : Side) (n used : Nat) (r : CellRun) (rest : List CellRun),
    let x := s.cell sd n
    x.runs = r :: rest → r.result = none → r.isShadow = false → r.ver = (s.line n).version sd →
    (r.late = true ∨ s.cellRuns sd n = false → exec (.cellEvaluationDone sd n used) s = .next s) ∧
    (r.late = false → s.cellRuns sd n = true → Gives (.cellEvaluationDone sd n used) s (fun t =>
      let img := evalCell (s.verCont r.ver) n r x.work
      SameBut [.cells, .pairs] s t ∧ (∀ p, t.pair p = { s.pair p with
        busyUs := (s.pair p).busyUs + if p = s.evaluator sd n then used else 0 }) ∧
      t.cells.lines = s.cells.lines ∧ (∀ sd' n', (sd', n') ≠ (sd, n) → t.cell sd' n' = s.cell sd' n') ∧
      (t.cell sd n).work = img ∧ (t.cell sd n).st = x.st ∧ (t.cell sd n).pub = x.pub ∧
      ((s.line n).lastRecon = none → (t.cell sd n).img = x.img ∧ ∃ r' ∈ (t.cell sd n).runs, r'.start = r.start ∧ r'.result = some img) ∧
      (∀ k, (s.line n).lastRecon = some k → r.recon ≤ k → (t.cell sd n).img = img)))) ∧
  (∀ (s : State) (sd : Side) (n used : Nat) (r : CellRun) (rest : List CellRun),
    let x := s.cell sd n
    x.runs = r :: rest → r.result = none → r.isShadow = true → r.late = false → s.cellRuns sd n = true → s.shadowRuns sd n = true →
    r.ver = (s.line n).version sd → (s.line n).lastRecon = none → Gives (.cellEvaluationDone sd n used) s (fun t =>
      let img := evalCell (s.verCont r.ver) n r x.work
      let own := evalCell s.nextCont n r x.shadowWork
      SameBut [.cells, .pairs] s t ∧ (t.cell sd n).work = img ∧ (t.cell sd n).shadowWork = own ∧ (t.cell sd n).img = x.img ∧
      ∃ r' ∈ (t.cell sd n).runs, r'.start = r.start ∧ r'.result = some img ∧ r'.shadow = some own))

/-- From R130, R131: at a reconciliation point the two halves are compared. Different vectors count a discrepancy, equal ones clear it; a
completed evaluation becomes the image in force and its command the next one. From R127, R131, R133: a window missed without a mismatch is
reported once and its late result is never published; a discrepancy that has lasted longer than the cell's limit is reported, and a second
signature mismatch in succession. From R278, R279: a shadow period is clean when both channels found the results of the two versions equal;
its verdict and the count of clean periods are published, and an unclean one ends the shadow. (The model's choices it rests on: log 59.) -/
def Obligations.ReconciliationAndCellSources : Prop :=
  (∀ (s : State) (n : Nat) (ra rb : CellRun) (ia ib : CellImage), (s.line n).lastRecon ≠ some s.time.tick →
    s.dueRun .a n = some ra → s.dueRun .b n = some rb → ra.isShadow = false → rb.isShadow = false →
    ra.result = some ia → rb.result = some ib → ra.safe = false → rb.safe = false → ra.catchUp = false → rb.catchUp = false →
    s.cellRuns .a n = true → s.cellRuns .b n = true →
    let va := (s.verCont ra.ver).vectorOf n ia
    let vb := (s.verCont rb.ver).vectorOf n ib
    Gives (.reconciliationPoint n) s (fun t =>
      SameBut [.cells] s t ∧ (t.line n).lastRecon = some s.time.tick ∧
      (∀ sd n', n' ≠ n → t.cell sd n' = s.cell sd n') ∧
      (t.cell .a n).img = ia ∧ (t.cell .b n).img = ib ∧ (t.cell .a n).pub = some ia.cmds ∧ (t.cell .b n).pub = some ib.cmds ∧
      (t.cell .a n).pubRemote = ia.remote ∧ (t.cell .b n).pubRemote = ib.remote ∧
      ∀ sd,
        (va ≠ vb ∨ ra.p ≠ rb.p → (t.cell sd n).disc = (s.cell sd n).disc + 1) ∧
        (va = vb → ra.p = rb.p → (t.cell sd n).disc = 0))) ∧
  (∀ (s : State) (n : Nat) (ra rb : CellRun) (ia ib ya yb : CellImage), (s.line n).lastRecon ≠ some s.time.tick →
    s.dueRun .a n = some ra → s.dueRun .b n = some rb → ra.isShadow = true → rb.isShadow = true →
    ra.result = some ia → rb.result = some ib → ra.shadow = some ya → rb.shadow = some yb → ra.catchUp = false → rb.catchUp = false →
    s.cellRuns .a n = true → s.cellRuns .b n = true →
    let equal := fun (r : CellRun) (x y : CellImage) => (s.verCont r.ver).vectorOf n x = s.nextCont.vectorOf n y ∧
      ∀ k, k ∈ (s.verCont r.ver).externals n ∨ k ∈ s.nextCont.externals n → x.external k = y.external k
    let verdict := fun (t : State) (v : Bool) => ∀ sd, ∃ m, (t.cell sd n).mirrorNext = some m ∧ m.verdict = some v ∧ m.clean = (t.line n).clean
    Gives (.reconciliationPoint n) s (fun t => SameBut [.cells] s t ∧
      (equal ra ia ya → equal rb ib yb → (t.line n).clean = (s.line n).clean + 1 ∧
        (t.line n).toTransition = (s.line n).toTransition ∧ verdict t true) ∧
      (¬ (equal ra ia ya ∧ equal rb ib yb) → (t.line n).clean = (s.line n).clean ∧ (t.line n).toTransition = true ∧ verdict t false))) ∧
  (∀ (s : State) (sd : Side) (n : Nat), n < 256 → s.inUse n = true →
    (∀ r rest, (s.cell sd n).runs = r :: rest → r.result = none → r.rerun = false → r.missed = false →
      r.recon ≤ s.time.tick → Gives (.windowMiss sd n) s (fun t => t.isLive (bCELL n) (8 * (n % 16) + 2) n = true ∧
        (∀ sd' n', (sd', n') ≠ (sd, n) → t.cell sd' n' = s.cell sd' n') ∧
        ∃ r' ∈ (t.cell sd n).runs, r'.start = r.start ∧ r'.missed = true ∧ r'.catchUp = true)) ∧
    ((∀ r ∈ (s.cell sd n).runs, r.result.isSome ∨ r.rerun = true ∨ r.missed = true ∨ s.time.tick < r.recon) →
      exec (.windowMiss sd n) s = .next s) ∧
    (((s.sideCont sd n).cell n).limit < (s.cell sd n).disc → exec (.abDiscrepancy sd n) s = .next (s.event (bCELL n) (8 * (n % 16)) n)) ∧
    ((s.cell sd n).disc ≤ ((s.sideCont sd n).cell n).limit → exec (.abDiscrepancy sd n) s = .next s) ∧
    (2 ≤ (s.cell sd n).sigc → Gives (.sigMismatch sd n) s (fun t => t.isLive (bCELL n) (8 * (n % 16) + 1) n = true ∧
      t.cells.sides = s.cells.sides ∧ t.time = s.time)) ∧
    ((s.cell sd n).sigc ≤ 1 → exec (.sigMismatch sd n) s = .next s))

/-- R133: of equal vectors, signatures that differ count the period in each channel; the second counted in succession raises
CELL.SIG_MISMATCH at floor S2; unequal vectors reset the count, and count under R131 instead. -/
def Obligations.SignatureMismatchCount : Prop :=
  (∀ (s : State) (n : Nat) (ra rb : CellRun) (ia ib : CellImage), (s.line n).lastRecon ≠ some s.time.tick →
    s.dueRun .a n = some ra → s.dueRun .b n = some rb → ra.isShadow = false → rb.isShadow = false →
    ra.result = some ia → rb.result = some ib → ra.catchUp = false → rb.catchUp = false →
    s.cellRuns .a n = true → s.cellRuns .b n = true →
    let vector := fun (r : CellRun) (x : CellImage) =>
      if r.safe then ((s.verCont r.ver).vectorOf n x).map (fun _ => 0) else (s.verCont r.ver).vectorOf n x
    let va := vector ra ia
    let vb := vector rb ib
    let sa := (s.verCont ra.ver).signature n ra.p ia
    let sb := (s.verCont rb.ver).signature n rb.p ib
    Gives (.reconciliationPoint n) s (fun t => ∀ sd,
      (va = vb → ra.p = rb.p → sa ≠ sb → (t.cell sd n).sigc = (s.cell sd n).sigc + 1 ∧ (t.cell sd n).disc = 0) ∧
      (va = vb → ra.p = rb.p → sa = sb → (t.cell sd n).sigc = 0) ∧
      (va ≠ vb → (t.cell sd n).sigc = 0 ∧ (t.cell sd n).disc = (s.cell sd n).disc + 1))) ∧
  (∀ (s : State) (sd : Side) (n : Nat), n < 256 →
    (sourceOf (bCELL n) (8 * (n % 16) + 1)).map (·.floor) = some 2 ∧
    (2 ≤ (s.cell sd n).sigc → exec (.sigMismatch sd n) s = .next (s.event (bCELL n) (8 * (n % 16) + 1) n)) ∧
    ((s.cell sd n).sigc < 2 → exec (.sigMismatch sd n) s = .next s))

/-- From R260, R179, R275, R276, row 10 of Table 2.3: the end of an admission answers its request. A refusal changes nothing else; from
CONFIGURE the container becomes the newer bank and VERIFY follows; in RUN the new configuration waits beside the running one, with a
record for every cell it touches. From R272, R275, R181: the translations of a staged container write their forms into the inactive
bank; the commit tick of a live commit makes its bank the newer one; before it, COMMIT_TICK changes nothing. That a live commit which
joins an earlier one (R20) leaves that one's commit tick standing (`early`) is the model's choice, log 63. (The model's choices it rests
on: log 62, 63.) -/
def Obligations.LiveCommitRuns : Prop :=
  (∀ (s : State) (a : Admission), s.cfg.admission = some a →
    let seq := s.cfg.sequence + 1
    (∀ e x, judge a.bytes a.check a.env none none = (some e, false, x) →
      exec (.admissionComplete none none) s =
        .next (({ s with cfg := { s.cfg with admission := none } } : State).answer .commit e.code e.payload)) ∧
    (∀ x, a.live = false → s.weir.conns = [] → judge a.bytes a.check a.env none none = (none, false, some x) →
      Gives (.admissionComplete none none) s (fun t =>
        t.dev.st = .verify ∧ t.dev.verifyCause = .newConfig ∧ t.cfg.active = s.cfg.inactive ∧
        (t.cfg.bank s.cfg.inactive).bytes = a.bytes ∧ (t.cfg.bank s.cfg.inactive).sequence = seq ∧
        (t.cfg.bank s.cfg.inactive).hash = containerHash a.bytes ∧ t.cfg.staging = none ∧ t.cfg.admission = none ∧
        t.cfg.running = some ⟨readContainer a.bytes, seq, x.cells, x.pulses⟩ ∧ t.host.queue = s.host.queue ∧
        t.host.rsp = s.host.rsp ++ (s.host.waiting.filter (fun w => w.on == .commit)).map (fun w =>
          w.req.response s.host.session stOK (leBytes 4 seq ++ [0, 0, 0, 0])))) ∧
    (∀ x run, a.live = true → s.cfg.live = none → s.cfg.running = some run →
      judge a.bytes a.check a.env none none = (none, false, some x) → Gives (.admissionComplete none none) s (fun t =>
        t.dev = s.dev ∧ t.faults = s.faults ∧ t.cfg.running = s.cfg.running ∧ t.cfg.active = s.cfg.active ∧
        t.cfg.staging = none ∧ t.cfg.admission = none ∧ t.cells.sides = s.cells.sides ∧
        ∃ l, t.cfg.live = some l ∧ l.next = ⟨readContainer a.bytes, seq, x.cells, x.pulses⟩ ∧ l.ticked = false ∧
          ∀ n < 256, ∀ k, changeClass run.cont (readContainer a.bytes) n = some k →
            ∃ r, (t.line n).record = some r ∧ (r.kind = k ∨ (k = .shadow ∧ r.kind = .direct)) ∧ l.commitTick ≤ r.at_))) ∧
  (∀ s : State,
    (∀ x, s.cfg.staging = some x →
      (s.cfg.trans = some ⟨true, false, false⟩ → Gives (.liveTranslationDone .a) s (fun t =>
        SameBut [.cfg, .pairs] s t ∧ t.cfg.trans = some ⟨false, true, false⟩ ∧ t.cfg.active = s.cfg.active ∧ t.cfg.running = s.cfg.running ∧
        (s.pairs.stb = .translation → t.pairs.stb = .free) ∧ t.pairs.pairs = s.pairs.pairs ∧
        ∃ f, (t.cfg.bank s.cfg.inactive).formA = some f ∧ f.containerHash = x.hash ∧ f.intact = true)) ∧
      (s.cfg.trans = some ⟨false, true, false⟩ → Gives (.liveTranslationDone .b) s (fun t =>
        SameBut [.cfg] s t ∧ t.translated = true ∧
        ∃ f, (t.cfg.bank s.cfg.inactive).formB = some f ∧ f.containerHash = x.hash ∧ f.intact = true))) ∧
    (s.cfg.live = none → exec .commitTick s = .next s) ∧
    ∀ l, s.cfg.live = some l →
      ((∀ x ∈ l.early.head?, s.time.tick < x.commitTick ∨ l.commitTick ≤ x.commitTick) → l.ticked = true ∨ s.time.tick < l.commitTick →
        exec .commitTick s = .next s) ∧
      (s.faults.live = [] → (∀ p ∈ [2, 3, 4, 5], (s.pair p).retired = false) →
        let ticks := fun (t : State) (c : RunCfg) (cert : List Byte) =>
          SameBut [.cfg, .params, .oxb, .free] s t ∧ t.cfg.active = s.cfg.inactive ∧ t.cfg.running = s.cfg.running ∧
          (t.cfg.bank s.cfg.inactive).sequence = c.sequence ∧ t.oxb.mram = s.oxb.mram ∧
          (certCells cert = c.cells → (t.cfg.bank s.cfg.inactive).cert = cert ∧ t.free = s.free)
        (l.early = [] → l.ticked = false → l.commitTick ≤ s.time.tick → Gives .commitTick s (fun t =>
          ticks t l.next l.cert ∧ t.cfg.live = some { l with ticked := true })) ∧
        (∀ x rest, l.early = x :: rest → x.commitTick ≤ s.time.tick → x.commitTick < l.commitTick → Gives .commitTick s (fun t =>
          ticks t x.next x.cert ∧ t.cfg.live = some { l with early := rest, prior := some x.next }))))

/-- From R284 to R286, R265, Table 12.5: the forms of a handover make a new newer bank; at its point the new bundle runs, the hardware of
SUP and STB has changed roles, every request begun is answered, a host-signal write among them undone, and each cell gets the boundary at
which it switches; a new supervisor that fails its start, or 500 ms without it, abandons the handover with SUP.HANDOVER_ABORT and FW_BAD.
The mailbox pauses for 50 ms at most. That the pause begins 100 ms after the reference of the handover and that the old supervisor serves
on where the pause ends before the point, that the forms wait for a live commit under way, and that a point after 500 ms abandons the
handover are the model's choices, log 108. (The model's choices it rests on: log 76, 77, 78, 108.) -/
def Obligations.BundleHandover : Prop :=
  ∀ (s : State) (h : Handover), s.bundles.handover = some h →
    (s.cfg.live.isSome = true → exec .handoverFormsReady s = .next s) ∧
    (∀ m run, h.stage = .translating → s.newManifest = some m → s.cfg.running = some run → s.cfg.live = none → Gives .handoverFormsReady s (fun t =>
      SameBut [.cfg, .bundles] s t ∧ t.bundles = { s.bundles with handover := some ⟨.starting, h.bank, s.time.tick⟩ } ∧
      t.cfg.active = 1 - s.cfg.active ∧ t.cfg.running = some { run with sequence := s.cfg.sequence + 1 } ∧
      (s.cfg.active ≤ 1 → (t.cfg.bank (1 - s.cfg.active)).sequence = s.cfg.sequence + 1 ∧
        (t.cfg.bank (1 - s.cfg.active)).bytes = (s.cfg.bank s.cfg.active).bytes ∧
        t.cfg.bank s.cfg.active = s.cfg.bank s.cfg.active))) ∧
    (∀ m, h.stage = .starting → s.newManifest = some m → m.epoch ≤ s.fusedEpoch → s.host.queue = [] → s.time.tick < h.start + 10000 →
      Gives (.handoverPoint true) s (fun t =>
        t.bundles.running = some h.bank ∧ t.bundles.manifest = some m ∧ t.bundles.staging = none ∧
        t.bundles.handover = some ⟨.switching, h.bank, h.start⟩ ∧ t.host.waiting = [] ∧ t.host.paused = false ∧ t.host.evHandover = true ∧
        t.pair 1 = s.pair 6 ∧ t.pair 6 = s.pair 1 ∧ t.pairs.swapped = (!s.pairs.swapped) ∧ t.dev = s.dev ∧ t.faults.words = s.faults.words ∧
        t.hs.visible = s.hs.visible ∧ (∀ b, s.hs.before = some b → t.hs.inactive = b.inactive ∧ t.hs.flipDue = b.flipDue) ∧
        (∀ w ∈ s.host.waiting, w.on = .activate → w.req.response s.host.session stOK [0, 0, 0, 0] ∈ t.host.rsp) ∧
        (∀ w ∈ s.host.waiting, w.on = .commit → w.req.response s.host.session stBUSY_RETRY [] ∈ t.host.rsp) ∧
        ∀ n ∈ s.cellsInUse, (t.line n).handAt.isSome = true)) ∧
    (h.stage = .starting ∨ h.stage = .translating → s.host.queue = [] →
      let given := fun (t : State) => t.bundles.handover = none ∧ t.isLive bSUP 9 0 = true ∧ t.host.paused = false ∧
        (s.host.paused = true → t.host.evHandover = true) ∧
        t.bundles.running = s.bundles.running ∧ (s.pairs.stb = .handover → t.pairs.stb = .free) ∧
        ∀ w ∈ s.host.waiting, w.on = .activate → w.req.response t.host.session stFW_BAD [] ∈ t.host.rsp
      (∀ m, h.stage = .starting → s.newManifest = some m → Gives (.handoverPoint false) s given ∧
        (h.start + 10000 ≤ s.time.tick → Gives (.handoverPoint true) s given)) ∧
      (h.stage = .starting → h.start + 10000 ≤ s.time.tick → Gives .handoverTimeout s given) ∧
      (s.time.tick < h.start + 10000 → exec .handoverTimeout s = .next s)) ∧
    (h.stage = .starting →
      (s.time.tick < h.start + 2000 → s.pauseForHandover = s) ∧
      (h.start + 2000 ≤ s.time.tick → s.time.tick < h.start + 3000 → s.pauseForHandover = withHost s { s.host with paused := true }) ∧
      (h.start + 3000 ≤ s.time.tick → s.pauseForHandover.host.paused = false ∧ (s.host.paused = true →
        s.pauseForHandover = withHost s { s.host with paused := false, evHandover := true }))) ∧
    (h.stage = .switching → (∀ n ∈ s.cellsInUse, (s.line n).handAt = none) → Gives (.handoverComplete []) s (fun t =>
      SameBut [.bundles, .pairs] s t ∧ t.bundles = { s.bundles with handover := none } ∧ (t.pair 6).selfTestOk = true ∧
      (s.pairs.stb = .handover → t.pairs.stb = .free) ∧ ∀ p, p ≠ 6 → t.pair p = s.pair p)) ∧
    (h.stage = .switching → (∃ n ∈ s.cellsInUse, (s.line n).handAt ≠ none) → exec (.handoverComplete []) s = .next s)

/-- From R79 to R81, R84, Tables 3.12 and 3.16: a live die answers a frame with a right CRC. A synced channel takes one whose counter is 1
to 10 ahead and leaves SYNCED at any other; a side's switch stays closed or closes on its ON token alone, closing needs the ON token of the
frame before it and nothing that holds the channel or starts a slice in it; SYNC passes the same sequence check in a synced channel, sets
the counter and, like CFG, opens both switches, and on Fg.00 it ends the unit slice of the group, which slice code 0x1D starts there (R341);
CFG writes its register. A marked frame is sampled before its CRC is checked (R71). (The model's choices it rests on: log 29, 30, 31, 32, 113,
98.) -/
def Obligations.FieldDieTakesFrames : Prop :=
  ∀ (s : State) (c : Nat) (frame : BitVec 40) (smp : LandSample),
    let g := c / 16
    let ch := s.chan c
    let d := (cmdFcnt frame + 16 - ch.nLast.toNat % 16) % 16
    let n := (ch.nLast.toNat + d) % 65536
    let opens := (ch.swA = true ∧ frBits frame 32 27 ≠ token .a n true c) ∨ (ch.swB = true ∧ frBits frame 26 21 ≠ token .b n true c)
    let mayClose := d = 1 ∧ ch.ol = false ∧ ch.ot = false ∧ (s.die g).uv = false ∧ (s.die g).ov = false ∧ ch.slice = none ∧
      (s.time.slotInTick = 2 → cmdTick frame = true ∨ cmdSel frame < 0x18 ∨ opens) ∧ 4 ≤ ch.mode ∧ ch.mode ≤ 7
    let alone := fun (t : State) => SameBut [.field, .free] s t ∧ ∀ c', c' ≠ c → t.chan c' = s.chan c'
    let opened := fun (t : State) => (t.chan c).swA = false ∧ (t.chan c).swB = false
    ((s.die g).alive = false →
      exec (.fdRunFrame c frame smp) s = .next s ∧ exec (.fdSyncFrame c frame smp) s = .next s ∧
      exec (.fdCfgFrame c frame smp) s = .next s) ∧
    ((s.die g).alive = true → frBits frame 39 38 = 1 →
      (cmdOk frame = false → Gives (.fdRunFrame c frame smp) s (fun t => alone t ∧ (t.chan c).answer = none ∧
        (t.chan c).swA = ch.swA ∧ (t.chan c).swB = ch.swB ∧ (t.chan c).nLast = ch.nLast ∧ (t.chan c).synced = ch.synced ∧
        (t.chan c).slice = none ∧ (cmdTick frame = true → (t.chan c).icode = min 255 smp.current ∧
          (t.die g).vfCode = min 4095 (smp.vfMv / 10)) ∧
        (cmdTick frame = false → (t.chan c).icode = ch.icode ∧ (t.chan c).cls = ch.cls ∧ t.die g = s.die g))) ∧
      (cmdOk frame = true → ch.synced = true → 1 ≤ d → d ≤ 10 → Gives (.fdRunFrame c frame smp) s (fun t => alone t ∧
        (t.chan c).synced = true ∧ (t.chan c).nLast.toNat = n ∧ (t.chan c).answer.isSome = true ∧ (t.chan c).mode = ch.mode ∧
        ((t.chan c).swA = true ↔
          frBits frame 32 27 = token .a n true c ∧ (ch.swA = true ∨ (mayClose ∧ ch.prevOnA = true ∧ ch.armA = true))) ∧
        ((t.chan c).swB = true ↔
          frBits frame 26 21 = token .b n true c ∧ (ch.swB = true ∨ (mayClose ∧ ch.prevOnB = true ∧ ch.armB = true))) ∧
        (t.chan c).prevOnA = decide (frBits frame 32 27 = token .a n true c) ∧
        (t.chan c).prevOnB = decide (frBits frame 26 21 = token .b n true c) ∧
        (c % 16 = 0 → cmdTick frame = false → cmdSel frame = 0x1D → s.groupQuiet g = true → (t.die g).unitRun = true))) ∧
      (cmdOk frame = true → ch.synced = true → d = 0 ∨ 11 ≤ d → Gives (.fdRunFrame c frame smp) s (fun t => alone t ∧
        (t.chan c).synced = false ∧ opened t ∧ (t.chan c).answer.isSome = true))) ∧
    ((s.die g).alive = true → frBits frame 39 38 = 2 → cmdOk frame = true →
      (ch.synced = false ∨ (1 ≤ d ∧ d ≤ 10) → Gives (.fdSyncFrame c frame smp) s (fun t => alone t ∧
        (t.chan c).synced = true ∧ opened t ∧ (t.chan c).nLast.toNat = frBits frame 20 9 * 16 + cmdFcnt frame ∧
        (c % 16 = 0 → (t.die g).unitRun = false) ∧
        (t.chan c).answer.isSome = true ∧ (ch.synced = true → (t.chan c).armA = false ∧ (t.chan c).armB = false))) ∧
      (ch.synced = true → d = 0 ∨ 11 ≤ d → Gives (.fdSyncFrame c frame smp) s (fun t => alone t ∧
        (t.chan c).synced = false ∧ opened t ∧ (t.chan c).answer.isSome = true))) ∧
    ((s.die g).alive = true → frBits frame 39 38 = 3 → cmdOk frame = true → ch.synced = true → 1 ≤ d → d ≤ 10 →
      Gives (.fdCfgFrame c frame smp) s (fun t => alone t ∧ (t.chan c).synced = true ∧ opened t ∧ (t.chan c).nLast.toNat = n ∧
        (t.chan c).answer.isSome = true ∧
        (t.chan c).mode = (if frBits frame 20 17 = 0 then frBits frame 16 11 % 16 else ch.mode) ∧
        (t.chan c).slew = (if frBits frame 20 17 = 1 then frBits frame 16 11 / 2 % 2 else ch.slew) ∧
        (t.chan c).lead = (if frBits frame 20 17 = 1 then frBits frame 16 11 % 2 else ch.lead)))

/-- From R64, R69, R70, R81, Table 3.9: power and its loss start every channel of a group anew; a lockout opens the switches at once, and
its end needs each side's OFF token again; the watchdog leaves SYNCED. No other group or channel changes. That the lockouts of an
overload and of an overtemperature share one count of OFF frames, which the later of the two starts anew, is the model's choice, log 111.
(The model's choices it rests on: log 31, 92, 111.) -/
def Obligations.FieldDieSupplyAndLockouts : Prop :=
  ∀ (s : State) (g c : Nat),
    let group := fun (t : State) => SameBut [.field] s t ∧ (∀ c', c' / 16 ≠ g → t.chan c' = s.chan c') ∧ ∀ g', g' ≠ g → t.die g' = s.die g'
    let one := fun (t : State) => SameBut [.field] s t ∧ (∀ c', c' ≠ c → t.chan c' = s.chan c') ∧ ∀ g', t.die g' = s.die g'
    let opened := fun (t : State) (c : Nat) => t.chan c = { (s.chan c).open with ol := (t.chan c).ol, ot := (t.chan c).ot, offRun := (t.chan c).offRun }
    let fresh := fun (c : Nat) => ({ cutAt := if (s.chan c).slice.isSome = true then some s.time.tick else (s.chan c).cutAt } : DieCh)
    (∀ v, (s.die g).alive = false → Gives (.fdPowerOn g v) s (fun t => group t ∧ (t.die g).alive = true ∧
      (∀ i < 16, t.chan (16 * g + i) = fresh (16 * g + i)) ∧ (v < 17700 → (t.die g).uv = true) ∧ (18300 ≤ v → (t.die g).uv = false) ∧
      (32500 < v → (t.die g).ov = true) ∧ (v ≤ 31500 → (t.die g).ov = false))) ∧
    Gives (.fdSupplyLoss g) s (fun t => group t ∧ t.die g = {} ∧ ∀ i < 16, t.chan (16 * g + i) = fresh (16 * g + i)) ∧
    ((s.die g).alive = true →
      Gives (.vfUnderLockout g) s (fun t => group t ∧ t.die g = { s.die g with uv := true } ∧ ∀ i < 16, opened t (16 * g + i)) ∧
      Gives (.vfOverLockout g) s (fun t => group t ∧ t.die g = { s.die g with ov := true } ∧ ∀ i < 16, opened t (16 * g + i))) ∧
    ((s.die g).uv = true → Gives (.vfUnderRelease g) s (fun t => group t ∧ t.die g = { s.die g with uv := false } ∧
      ∀ i < 16, t.chan (16 * g + i) = { s.chan (16 * g + i) with armA := false, armB := false })) ∧
    ((s.die g).ov = true → Gives (.vfOverRelease g) s (fun t => group t ∧ t.die g = { s.die g with ov := false } ∧
      ∀ i < 16, t.chan (16 * g + i) = { s.chan (16 * g + i) with armA := false, armB := false })) ∧
    ((s.die (c / 16)).alive = true →
      Gives (.fieldWatchdogExpiry c) s (fun t => one t ∧ (t.chan c).synced = false ∧ (t.chan c).swA = false ∧ (t.chan c).swB = false ∧
        (t.chan c).mode = (s.chan c).mode) ∧
      Gives (.overloadTimeout c) s (fun t => one t ∧ opened t c ∧ (t.chan c).ol = true ∧ (t.chan c).ot = (s.chan c).ot ∧ (t.chan c).offRun = 0) ∧
      Gives (.overtemp c) s (fun t => one t ∧ opened t c ∧ (t.chan c).ot = true ∧ (t.chan c).ol = (s.chan c).ol ∧ (t.chan c).offRun = 0)) ∧
    ((s.chan c).ol = true ∨ (s.chan c).ot = true →
      (1000 ≤ (s.chan c).offRun → Gives (.overloadLockoutEnd c) s (fun t => one t ∧
        t.chan c = { s.chan c with armA := false, armB := false, ol := false, ot := false })) ∧
      ((s.chan c).offRun < 1000 → exec (.overloadLockoutEnd c) s = .next s))

/-- From R26, R83, R184, R55, R62, R64, R69: a channel takes the status frame that answers the coupler's command frame: its state,
switches and lockouts, the sources they make, and the class of a marked slot. A frame that fails its checks is FRAME_BAD and, like
silence, counts as absent; one that a pair's copies disagree on counts as absent for that pair, and for the channel where the copies of
every working pair disagree. (The model's choices it rests on: log 28, 33, 34, 64.) -/
def Obligations.StatusFramesAreTaken : Prop :=
  ∀ (s : State) (sd : Side) (c : Nat) (cmd f : BitVec 40) (dis : List Nat), c < 64 → (s.coupler c).frame = some cmd → s.slotsRun = true →
    (s.view sd c).slot ≠ s.time.slotNo →
    let x := readStatus f
    let b := 0x10 + c / 16
    (∀ role ∈ rolesOf sd, s.hardware role ∈ dis → statusOk f cmd = true → Gives (.statusFrame sd c (some f) dis) s (fun t =>
      (t.pairView sd role c).frameAge = (s.pairView sd role c).frameAge + 1 ∧
      (s.noPairTakes sd dis = false → (t.view sd c).frameAge = 0))) ∧
    (statusOk f cmd = true → s.noPairTakes sd dis = true → Gives (.statusFrame sd c (some f) dis) s (fun t =>
      (t.view sd c).frameAge = (s.view sd c).frameAge + 1 ∧ (t.view sd c).slot = s.time.slotNo ∧
      (t.view sd c).heard = (s.view sd c).heard ∧ (t.view sd c).cls = (s.view sd c).cls)) ∧
    (statusOk f cmd = true → s.noPairTakes sd dis = false → Gives (.statusFrame sd c (some f) dis) s (fun t =>
      let v := t.view sd c
      v.heard = some s.time.slotNo ∧ v.slot = s.time.slotNo ∧ v.frameAge = 0 ∧ v.state = x.state ∧ v.swa = x.swa ∧ v.swb = x.swb ∧
      v.ol = x.ol ∧ v.ot = x.ot ∧ v.uv = x.uv ∧ v.ov = x.ov ∧
      (x.ol = true → t.isLive b 8 c = true) ∧ (x.ol = false → t.holds b 8 c (Side.bit sd) = false) ∧
      (x.ot = true → t.isLive b 9 c = true) ∧ (x.uv = true → t.isLive b 16 (c / 16) = true) ∧ (x.ov = true → t.isLive b 17 (c / 16) = true) ∧
      ((match sd with
        | .a => x.atokBad
        | .b => x.btokBad) = true → t.isLive b 11 c = true) ∧
      v.cls = (if cmdTick cmd = true ∧ x.cls ≠ 7 then x.cls else (s.view sd c).cls))) ∧
    (statusOk f cmd = false → Gives (.statusFrame sd c (some f) dis) s (fun t => t.isLive b 13 c = true ∧
      (t.view sd c).frameAge = (s.view sd c).frameAge + 1 ∧ (t.view sd c).slot = s.time.slotNo ∧
      (t.view sd c).heard = (s.view sd c).heard ∧ (t.view sd c).cls = (s.view sd c).cls)) ∧
    Gives (.statusFrame sd c none dis) s (fun t => SameBut [.field] s t ∧ t.field.dies = s.field.dies ∧ t.field.chans = s.field.chans ∧
      (t.view sd c).frameAge = (s.view sd c).frameAge + 1 ∧ (t.view sd c).slot = s.time.slotNo ∧
      (t.view sd c).heard = (s.view sd c).heard ∧ (t.view sd c).cls = (s.view sd c).cls ∧
      ∀ sd' c', (sd', c') ≠ (sd, c) → t.view sd' c' = s.view sd' c')

/-- From R59, R60, R68, R69, R83, R94: the detectors on a channel's view, where a pair's own view of the input is the same or has lost the
coupler. Each acts at its bound and changes nothing below it. That couplers none of which has ever been heard count as lost together is
the model's choice, log 111. (The model's choices it rests on: log 28, 33, 111.) -/
def Obligations.FieldDetectors : Prop :=
  ∀ (s : State) (sd : Side) (c g : Nat),
    let v := s.view sd c
    let e := s.chanEntry c
    let w := s.gview sd g
    let who := Side.bit sd
    (e.mode ≠ 0 → 20 ≤ v.frameAge ∨ ((s.coupler c).step = 7 ∧ 2 ≤ v.sampleAge) →
      exec (.couplerLostDetect sd c) s = .next (s.raise (0x10 + c / 16) 14 c who)) ∧
    (e.mode ≠ 0 → s.pairLost sd c = true → exec (.couplerLostDetect sd c) s = .next (s.raise (0x10 + c / 16) 14 c who)) ∧
    (v.frameAge < 20 → v.sampleAge < 2 → s.pairLost sd c = false → exec (.couplerLostDetect sd c) s = .next s) ∧
    (∀ m, (∀ i < 16, 20 ≤ (s.view sd (16 * g + i)).frameAge ∧ ∃ k, (s.view sd (16 * g + i)).heard = some k ∧ m ≤ k ∧ k ≤ m + 20) →
      exec (.vfMissingDetect sd g) s = .next (s.raise (0x10 + g) 18 g who)) ∧
    ((∀ i < 16, 20 ≤ (s.view sd (16 * g + i)).frameAge ∧ (s.view sd (16 * g + i)).heard = none) →
      exec (.vfMissingDetect sd g) s = .next (s.raise (0x10 + g) 18 g who)) ∧
    (∀ i < 16, (s.view sd (16 * g + i)).frameAge < 20 → exec (.vfMissingDetect sd g) s = .next s) ∧
    (8 ≤ w.lowRun → w.vfLow = false →
      exec (.vfLowEnter sd g) s = .next ((s.setGview sd g { w with vfLow := true }).raise (0x10 + g) 15 g who)) ∧
    (w.lowRun < 8 → exec (.vfLowEnter sd g) s = .next s) ∧
    (8 ≤ w.highRun → w.vfLow = true →
      exec (.vfLowLeave sd g) s = .next ((s.setGview sd g { w with vfLow := false }).clear (0x10 + g) 15 g who)) ∧
    (w.highRun < 8 → exec (.vfLowLeave sd g) s = .next s) ∧
    (201 ≤ w.overTicks → exec (.groupOverloadTimeout sd g) s = .next (s.raise (0x10 + g) 10 g who)) ∧
    (w.overTicks < 201 → exec (.groupOverloadTimeout sd g) s = .next s) ∧
    (201 ≤ w.underTicks → exec (.groupOverloadClear sd g) s = .next (s.clear (0x10 + g) 10 g who)) ∧
    (w.underTicks < 201 → exec (.groupOverloadClear sd g) s = .next s) ∧
    (e.mode ≠ 0 → v.cand ≠ v.filt → e.gap = 0 → filterCount e + 1 ≤ v.count → c < 64 → Gives (.inputFilterChange sd c) s (fun t =>
      (t.view sd c).filt = v.cand ∧ (t.view sd c).count = 0 ∧ (t.view sd c).cls = v.cls ∧
      (e.mode = mIN_MON → v.cand = clBREAK → t.isLive (0x10 + c / 16) 4 c = true) ∧
      (e.mode = mIN_MON → v.cand = clUNDEF → t.isLive (0x10 + c / 16) 5 c = true))) ∧
    let alone := ∀ role ∈ rolesOf sd, s.field.pairViews.get? (8 * c + role) = none
    (alone → v.count ≤ filterCount e → exec (.inputFilterChange sd c) s = .next s) ∧
    (alone → e.mode = mIN_T1 ∨ e.mode = mIN_T3 → 0 < e.gap → v.filt = clON → v.cand = clOFF →
      exec (.inputFilterChange sd c) s = .next s ∧
      (max (filterCount e) e.gap < v.count →
        exec (.gapToleranceOff sd c) s = .next (s.setView sd c { v with filt := clOFF, count := 0 })) ∧
      (v.count ≤ max (filterCount e) e.gap → exec (.gapToleranceOff sd c) s = .next s)) ∧
    (e.drives = true → 50 ≤ e.current → 2001 ≤ v.openLoad →
      exec (.openLoadTimeout sd c) s = .next (s.raise (0x10 + c / 16) 6 c who)) ∧
    (v.openLoad < 2001 → exec (.openLoadTimeout sd c) s = .next s)

/-- From R88, R89, R91, R92, R95, R97, Table 4.5: a test pulse starts with its slot, is judged at its evaluation sample, whose deviations
set the source of their row and whose pass is recorded for its switch, and ends at its post-sample; four pulses of one side without a
verdict are PULSE_OVERDUE. (The model's choices it rests on: log 35, 36, 37, 38.) -/
def Obligations.TestPulses : Prop :=
  ∀ (s : State) (h : Nat), h < 64 →
    let e := s.chanEntry h
    let b := 0x10 + h / 16
    (∀ f q, let e := s.pulseEntry h
      s.baseFrame = some (f, q) → s.holderOf h = h → s.pulseOffset h = some 0 → s.time.slotInTick = 1 →
      Gives (.pulseSlotStart h) s (fun t => SameBut [.field] s t ∧ ∀ sd, ∃ r, (t.view sd h).pulse = some r ∧ r.start = s.time.tick ∧
        r.number = f / max e.period 1 ∧ r.mode = e.mode ∧ r.widthUs = e.widthUs ∧ r.evalDone = false ∧ r.pre = s.samples sd ∧
        (r.reqOk = true ↔ s.reqOn .a h = true ∧ s.reqOn .b h = true) ∧
        (r.own = true ↔ s.reqOn sd h = true ∧ (e.mode = mTEST_SRC ∨ f / max e.period 1 % 2 = Side.ix sd)))) ∧
    (∀ (sd : Side) (r : PulseRun),
      let v := s.view sd h
      let x := v.lastSample
      let p := r.pre.getD h {}
      v.pulse = some r → r.evalDone = false → s.time.tick = r.start + r.widthUs / 50 → s.time.slotInTick = 1 →
      r.reqOk = true → p.clean r.start = true → x.clean s.time.tick = true →
      p.swa = true → p.swb = true → p.cls = clON → r.mode ≠ mTEST_SRC →
      let opensA := r.number % 2 = 0
      ((x.swa = true ↔ opensA) → Gives (.pulseEvaluation sd h) s (fun t => t.isLive b 1 h = true ∧ (t.view sd h).swaHeld = true)) ∧
      (¬(x.swb = true ↔ opensA) → Gives (.pulseEvaluation sd h) s (fun t => t.isLive b 2 h = true ∧ (t.view sd h).swbHeld = true)) ∧
      (¬(x.swa = true ↔ opensA) → (x.swb = true ↔ opensA) →
        (x.cls = clON → s.currentPartner h r.pre (s.samples sd) = none →
          Gives (.pulseEvaluation sd h) s (fun t => t.isLive b 0 h = true)) ∧
        (∀ y, x.cls = clON → s.currentPartner h r.pre (s.samples sd) = some y →
          Gives (.pulseEvaluation sd h) s (fun t => t.isLive b 3 h = true ∧ t.isLive (0x10 + y / 16) 3 y = true)) ∧
        (x.cls = clOFF → (x.mid = true ↔ opensA) → Gives (.pulseEvaluation sd h) s (fun t =>
          t.isLive b 1 h = true ∧ (t.view sd h).swaHeld = true)) ∧
        (x.cls = clOFF → ¬(x.mid = true ↔ opensA) → Gives (.pulseEvaluation sd h) s (fun t =>
          t.holds b 7 h (Side.bit sd) = false ∧ (∀ i, i ≠ 7 → t.isLive b i h = s.isLive b i h) ∧
          (opensA → (t.view sd h).missA = 0 ∧ (t.view sd h).coverA = some r.start) ∧
          (¬ opensA → (t.view sd h).missB = 0 ∧ (t.view sd h).coverB = some r.start) ∧
          ∃ r', (t.view sd h).pulse = some r' ∧ r'.evalDone = true ∧ r'.judged = true)))) ∧
    (∀ (sd : Side) (r : PulseRun),
      let v := s.view sd h
      v.pulse = some r → r.evalDone = true → s.time.tick = r.start + r.widthUs / 50 + 2 → s.time.slotInTick = 1 →
      (r.judged = false → exec (.pulsePostSample sd h) s = .next (s.setView sd h { v with pulse := none })) ∧
      (r.judged = true → r.reqOk = true → v.lastSample.clean s.time.tick = true →
        ∀ z < 64, s.foreignPulse h z r.pre r.eval (s.samples sd) = true → 1 ≤ v.foreign.getD z 0 →
          Gives (.pulsePostSample sd h) s (fun t => t.isLive (0x10 + z / 16) 3 z = true ∧ t.isLive b 3 h = true ∧
            (t.view sd h).pulse = none))) ∧
    (∀ sd, let v := s.view sd h
      (e.isPulsed = true → 4 ≤ v.missA ∨ 4 ≤ v.missB → exec (.pulseOverdueCount sd h) s = .next (s.raise b 7 h (Side.bit sd))) ∧
      (v.missA < 4 → v.missB < 4 → exec (.pulseOverdueCount sd h) s = .next s))

/-- From R206, R210, R211, R216, R221, R236, R237, R239, R241, R246: an ANNOUNCE goes out on a port whose phase it is; the DATA PDU of a due
connection (M1 or M2) and an OPEN, OPEN_ACK or REFUSE whose tick has come are built from both channels' halves; one that lacks either half
counts under TX_HALF, one that finds no slot under TX_SLOT_FULL. A frame leaves with its FCS, a queued frame whose deadline has come is
discarded and counted, and one that a pause ending then lets start is not. The port sends PAUSE ahead of its queue when its free buffers
fall below 32, at each edge while they are, and with quanta 0 when more than 64 are free again. That a pause ends at a PAUSE_END up to
10 µs early, and no earlier, is the model's choice, log 47. (The model's choices it rests on: log 45, 47, 48, 51.) -/
def Obligations.TransmitPath : Prop :=
  ∀ (s : State) (k : Nat), s.weirOn = true →
    let p := s.port k
    let here := fun (n : Nat) => n ∈ s.connsInUse ∧ (s.connEntry n).port = k
    let leaving := fun (t : State) (f : TxFrame) => f ∈ (t.port k).queue ++ (t.port k).wire.toList
    let ready := p.linkUp = true ∧ p.upAt < s.time.tick
    (∀ τ n, s.dev.st.opens = true → s.sideRuns .a = true → s.tau = some τ → here n → (s.conn .a n).st ≠ .run →
      (s.partnerOf n).udp = false →
      (τ % 2000 ≠ 100 * k → exec (.announceTransmit k) s = .next s) ∧
      (τ % 2000 = 100 * k → ready → p.slotFree .control = true → Gives (.announceTransmit k) s (fun t =>
        (∀ f ∈ p.queue, leaving t f) ∧
        leaving t ⟨.control, padFrame (carry ⟨macBroadcast, s.portMac k, none, s.params.etherType, none⟩
          (announceFrame s.identity (s.devCont.hash.take 4) (s.announceGens k))), [], s.time.tick + 20⟩))) ∧
    (∀ n xa xb, s.dev.st.connects = true → s.weir.txTick ≠ some s.time.tick → s.connsInUse = [n] → (s.connEntry n).port = k →
      s.txDue n = true → (s.conn .a n).due = none → (s.conn .b n).due = none →
      (s.buildsData .a n = true → s.buildsData .b n = true → (s.conn .a n).session = some xa → (s.conn .b n).session = some xb →
        xa.gen = 2 → ready → p.slotFree .data = true → Gives .pduTransmit s (fun t =>
          let pdu := withCrcs 2 ((s.dataPdu .a n).body 2) ((s.dataPdu .b n).body 2) (s.dataPrefix .a n) (s.dataPrefix .b n)
          t.weir.txTick = some s.time.tick ∧ (∀ sd, (t.conn sd n).vt = (s.conn sd n).vt + 1) ∧
          leaving t ⟨.data, padFrame (carry (s.carriage n) ([2, 1, 2, 0] ++ pdu)), [n], s.time.tick + 5 * (s.connEntry n).period⟩)) ∧
      (s.buildsData .a n = true → s.buildsData .b n = true → (s.conn .a n).session = some xa → (s.conn .b n).session = some xb →
        xa.gen = 1 → ready → p.slotFree .data = true → Gives .pduTransmit s (fun t =>
          let pdu := withCrcs 1 ((s.dataPdu .a n).body 1) ((s.dataPdu .b n).body 1) (s.dataPrefix .a n) (s.dataPrefix .b n)
          t.weir.txTick = some s.time.tick ∧ (∀ sd, (t.conn sd n).vt = (s.conn sd n).vt + 1) ∧
          leaving t ⟨.data, padFrame (carry (s.carriage n) ([1, 1, 1, 0] ++ pdu)), [n], s.time.tick + 5 * (s.connEntry n).period⟩)) ∧
      (s.buildsData .a n = true → s.buildsData .b n = true → ¬ ready ∨ p.slotFree .data = false → Gives .pduTransmit s (fun t =>
        t.isLive bWEIR 18 n = true ∧ (∀ f, leaving t f → leaving s f) ∧ ∀ sd, (t.conn sd n).vt = (s.conn sd n).vt + 1)) ∧
      (s.sendsData .a n = true ∨ s.sendsData .b n = true → ¬(s.buildsData .a n = true ∧ s.buildsData .b n = true) →
        Gives .pduTransmit s (fun t => t.isLive bWEIR 10 n = true ∧
        ∀ f, leaving t f → leaving s f))) ∧
    (∀ n, s.dev.st.connects = true → s.dev.st ≠ .latched → s.weir.txTick ≠ some s.time.tick → s.connsInUse = [n] → (s.connEntry n).port = k →
      s.txDue n = false → (∀ sd, s.sideRuns sd = true) →
      let body := fun (d : DueControl) => leBytes 2 d.handle ++ leBytes 2 n ++ leBytes 8 s.identity ++ leBytes 4 d.nO.toNat ++
        leBytes 4 d.nR.toNat ++ leBytes 1 d.bitsO ++ leBytes 1 d.bitsR ++ leBytes 2 d.period ++ leBytes 1 d.reason ++ zeros 3
      let pre := fun (d : DueControl) => virtualPrefix (s.connEntry n).uid 0 0 (d.ftype == ftOPEN) 0
      (∀ x y, (s.conn .a n).due = some x → (s.conn .b n).due = some y → x.at_ ≤ s.time.tick → y.at_ ≤ s.time.tick →
        (ready → p.slotFree .control = true → Gives .pduTransmit s (fun t => (∀ sd, (t.conn sd n).due = none) ∧
          leaving t ⟨.control, padFrame (carry (s.carriage n)
            ([byte x.ftype, 1, byte x.gen, 0] ++ withCrcs x.gen (body x) (body y) (pre x) (pre y))), [n], s.time.tick + 20⟩)) ∧
        (¬ ready ∨ p.slotFree .control = false → Gives .pduTransmit s (fun t => (∀ sd, (t.conn sd n).due = none) ∧
          t.isLive bWEIR 18 n = true ∧ ∀ f, leaving t f → leaving s f))) ∧
      (∀ sd sd' x, sd ≠ sd' → (s.conn sd n).due = some x → x.at_ ≤ s.time.tick →
        (∀ y, (s.conn sd' n).due = some y → s.time.tick < y.at_) →
        Gives .pduTransmit s (fun t => (t.conn sd n).due = none ∧ t.isLive bWEIR 10 n = true ∧ ∀ f, leaving t f → leaving s f))) ∧
    (s.weir.txTick = some s.time.tick → exec .pduTransmit s = .next s) ∧
    (let q := if (s.params.port k).mode = 1 then 19 else if (s.params.port k).mode = 4 then 488 else 195
      let pauseOf := fun (t : State) (q : Nat) => ∃ w, (t.port k).wire = some w ∧ w.kind = .pause ∧ w.bytes =
        padFrame (beBytes 6 0x0180C2000001 ++ beBytes 6 (s.portMac k) ++ [0x88, 0x08, 0x00, 0x01] ++ beBytes 2 q)
      let sends := fun (t : State) (q : Nat) => (t.port k).queue = p.queue ∧
        (p.wire = none → p.pauseDue = [] → pauseOf t q ∧ (t.port k).pauseDue = []) ∧
        (p.wire.isSome = true → (t.port k).pauseDue = p.pauseDue ++ [q] ∧ (t.port k).wire = p.wire)
      (∀ f d more, p.wire = some f → p.linkUp = true → p.pauseDue = d :: more → Gives (.frameTxDone k) s (fun t =>
        pauseOf t d ∧ (t.port k).pauseDue = more ∧ (t.port k).queue = p.queue)) ∧
      ((s.params.port k).pauseTx ≠ 0 → p.linkUp = true →
        (∀ bytes f x, p.low = false → 224 ≤ p.buffers.length → p.buffers.length < 256 → parseFrame bytes = some f →
          filterKind f (s.portMac k) (s.params.port k).ip s.params.etherType s.params.udpPort (s.portVids k) = some x →
          Gives (.frameReceived k bytes) s (fun t => sends t q ∧ (t.port k).pausing = true)) ∧
        (224 < p.buffers.length → sends (s.pauseTx k true) q) ∧
        (∀ b rest, p.buffers = b :: rest → b.handled = false → (∀ x ∈ rest, x.id ≠ b.id) → b.kind = rxARP →
          arpReply (s.portMac k) (s.params.port k).ip b.frame = none → p.pausing = true → rest.length < 192 →
          Gives (.arpRequest k) s (fun t => sends t 0 ∧ (t.port k).pausing = false)))) ∧
    (∀ f, p.wire = some f → Gives (.frameTxDone k) s (fun t => SameBut [.weir] s t ∧
      (t.port k).macOut = f.bytes ++ leBytes 4 (crc32Ether f.bytes) ∧
      (p.pauseNext = none → p.pause = none → p.pauseDue = [] → p.linkUp = true → (t.port k).wire = p.queue.head? ∧
        (t.port k).queue = p.queue.tail) ∧
      (∀ ns, p.pauseNext = some ns → ns ≠ 0 → p.pauseDue = [] → (t.port k).pause = some (s.nowNs + ns) ∧ (t.port k).wire = none ∧
        (t.port k).queue = p.queue))) ∧
    (∀ f, p.queue = [f] → p.wire.isSome = true → f.deadline ≤ s.time.tick →
      (f.kind = .data → ∀ n ∈ f.conns, Gives (.txStaleDiscard k) s (fun t => (t.port k).queue = [] ∧ t.isLive bWEIR 19 n = true)) ∧
      (f.kind = .control → Gives (.txStaleDiscard k) s (fun t => (t.port k).queue = [] ∧ t.isLive bWEIR 19 0xFFFF = true))) ∧
    ((∀ f ∈ p.queue, s.time.tick < f.deadline) → p.wire.isSome = true → Gives (.txStaleDiscard k) s (fun t =>
      (t.port k).queue = p.queue ∧ (t.port k).wire = p.wire ∧ ((∀ e, p.pause = some e → s.nowNs < e) → t.port k = p))) ∧
    (∀ f e, p.queue = [f] → p.wire = none → p.linkUp = true → p.pauseDue = [] → p.pause = some e → e ≤ s.nowNs →
      f.deadline = s.time.tick → Gives (.txStaleDiscard k) s (fun t => SameBut [.weir] s t ∧ (t.port k).wire = some f ∧
        (t.port k).queue = [] ∧ (t.port k).pause = none)) ∧
    (∀ e, p.pause = some e → (e < s.nowNs + 10000 → Gives (.pauseEnd k) s (fun t => SameBut [.weir] s t ∧ (t.port k).pause = none)) ∧
      (s.nowNs + 10000 ≤ e → exec (.pauseEnd k) s = .next s))

/-- From R234, R235, R237, R239, R242, R246, R205: a good frame takes a buffer; a frame that fails the filter, finds no buffer or was cut by
the loss of its link is counted. An
ARP request for the port's address is answered, a PAUSE frame stops the port for its time, and the PDUs of a Millrace frame go to both
channels' windows; a buffer is released after 8 ticks. (The model's choices it rests on: log 46, 47.) -/
def Obligations.ReceivePath : Prop :=
  ∀ (s : State) (k : Nat), s.weirOn = true →
    let p := s.port k
    let cfg := s.params.port k
    (∀ bytes, p.linkUp = false → (cfg.mode = 0 → exec (.frameReceived k bytes) s = .next s) ∧
      (cfg.mode ≠ 0 → exec (.frameReceived k bytes) s = .next (s.event bWEIR 13 k))) ∧
    (∀ bytes, p.linkUp = true →
      (256 ≤ p.buffers.length → exec (.frameReceived k bytes) s = .next (s.event bWEIR 14 k)) ∧
      (p.buffers.length < 256 → parseFrame bytes = none → exec (.frameReceived k bytes) s = .next (s.event bWEIR 13 k)) ∧
      (∀ f, p.buffers.length < 256 → parseFrame bytes = some f →
        let kind := filterKind f (s.portMac k) cfg.ip s.params.etherType s.params.udpPort (s.portVids k)
        (kind = none → exec (.frameReceived k bytes) s = .next (s.event bWEIR 13 k)) ∧
        (∀ x, kind = some x → Gives (.frameReceived k bytes) s (fun t => SameBut [.weir] s t ∧
          (t.port k).buffers = p.buffers ++ [⟨p.nextBuf, x, f, s.time.tick, false, [], [], 0, 0⟩])))) ∧
    (∀ b rest, p.buffers = b :: rest → b.handled = false → (∀ x ∈ rest, x.id ≠ b.id) → cfg.pauseTx = 0 →
      (b.kind = rxARP →
        (∀ reply, arpReply (s.portMac k) cfg.ip b.frame = some reply → p.slotFree .arp = true → p.linkUp = true →
          p.upAt < s.time.tick → Gives (.arpRequest k) s (fun t => SameBut [.weir] s t ∧ (t.port k).buffers = rest ∧
            (⟨.arp, reply, [], s.time.tick + 20⟩ : TxFrame) ∈ (t.port k).queue ++ (t.port k).wire.toList)) ∧
        (∀ reply, arpReply (s.portMac k) cfg.ip b.frame = some reply → p.slotFree .arp = false → Gives (.arpRequest k) s (fun t =>
          t.isLive bWEIR 17 k = true ∧ ∀ f ∈ (t.port k).queue ++ (t.port k).wire.toList, f ∈ p.queue ++ p.wire.toList))) ∧
      (b.kind = rxPAUSE → cfg.pauseRx ≠ 0 → (s.effective bWEIR 16 k).2 / rBRST % 2 = 0 →
        let ns := min (pauseNs cfg.mode (beAt b.frame.payload 2 2)) (1000 * cfg.pauseMax)
        Gives (.pauseFrame k) s (fun t => t.isLive bWEIR 16 k = true ∧
          (p.wire.isSome = true → ns ≠ 0 → (t.port k).pauseNext = some ns) ∧
          (p.wire = none → ns ≠ 0 → p.pauseDue = [] → (t.port k).pause = some (s.nowNs + ns) ∧ (t.port k).wire = none))) ∧
      (b.kind = rxMILL → s.weir.windows = [] → rest = [] →
        (millraceFrameOk b.frame.payload b.frame.wire b.frame.tci.isSome none = false → Gives (.millraceFrame k) s (fun t =>
          t.isLive bWEIR 11 k = true ∧ (t.port k).buffers = [])) ∧
        (millraceFrameOk b.frame.payload b.frame.wire b.frame.tci.isSome none = true →
          Gives (.millraceFrame k) s (fun t => SameBut [.weir] s t ∧ ∀ sd,
            (t.window sd k).map (fun d => (d.ftype, d.gen, d.bytes, d.mac, d.arrival, d.captured)) =
              (framePdus b.frame.payload).map (fun pdu =>
                (leAt b.frame.payload 0 1, leAt b.frame.payload 2 1, pdu, b.frame.src, b.arrival, false)))))) ∧
    (∀ b, p.buffers = [b] → b.handled = true →
      (b.arrival + 8 ≤ s.time.tick → Gives (.rxPickupTimeout k) s (fun t => (t.port k).buffers = [] ∧ t.isLive bWEIR 15 k = true ∧
        ∀ sd, ∀ d ∈ t.window sd k, d.captured = true ∨ d.buffer ≠ b.id)) ∧
      (s.time.tick < b.arrival + 8 → Gives (.rxPickupTimeout k) s (fun t => t.port k = p ∧ SameBut [.weir] s t)))

/-- From R243, R376, R399: a link comes up where its port has a mode and its multiplier runs, and goes down with its frames; the PHY's link
bit drives N0; the loss of the SerDes lock takes down the links that need it. That a pause under way ends with the link, `pause = none`, is
the model's choice, log 115. -/
def Obligations.LinksFollowTheirLayer : Prop :=
  ∀ (s : State) (k : Nat), s.weirOn = true →
    let p := s.port k
    let mode := (s.params.port k).mode
    let up := { p with linkUp := true, upAt := s.time.tick }
    let isDown := fun (t : State) (k : Nat) => (t.port k).linkUp = false ∧ (t.port k).queue = [] ∧ (t.port k).wire = none ∧
      (t.port k).pause = none
    (p.linkUp = false → mode ≠ 0 → mode = 1 ∨ s.clk.serdesLocked = true →
      exec (.linkUp k) s = .next ((s.setPort k up).clear bWEIR 12 k whoDev) ∧
      (k = 0 → exec (.mdioPoll true) s = .next ((s.setPort 0 up).clear bWEIR 12 0 whoDev))) ∧
    (p.linkUp = true ∨ mode = 0 → exec (.linkUp k) s = .next s) ∧
    (p.linkUp = true → mode ≠ 0 →
      Gives (.linkDown k) s (fun t => isDown t k ∧ t.isLive bWEIR 12 k = true ∧ ∀ j, j ≠ k → (t.port j).linkUp = (s.port j).linkUp) ∧
      (k = 0 → Gives (.mdioPoll false) s (fun t => isDown t 0 ∧ t.isLive bWEIR 12 0 = true))) ∧
    (p.linkUp = false → exec (.linkDown k) s = .next s ∧ (k = 0 → exec (.mdioPoll false) s = .next s)) ∧
    Gives .serdesLockLoss s (fun t => t.clk.serdesLocked = false ∧ t.isLive bCLK 3 0 = true ∧
      ∀ j < 3, (2 ≤ (s.params.port j).mode → (t.port j).linkUp = false) ∧
        ((s.params.port j).mode < 2 → (t.port j).linkUp = (s.port j).linkUp)) ∧
    (s.clk.serdesLocked = false → exec .serdesLockRegained s =
      .next (({ s with clk := { s.clk with serdesLocked := true } } : State).clear bCLK 3 0 whoDev)) ∧
    (s.clk.serdesLocked = true → exec .serdesLockRegained s = .next s)

/-- From Table 9.8, R216, R218, R219, R230: a channel accepts a DATA PDU of its session with a newer sequence number, its own CRC and
reserved bits right; what fails is counted by the row that fails. A PDU that passes the echo check restarts the watchdog and takes OPENING
to RUN; a watchdog that runs out takes RUN to LOST, and a latch at the edge of its expiry already reads the connection as lost. (The
model's choices it rests on: log 53, 54.) -/
def Obligations.DataPdusAndWatchdog : Prop :=
  (∀ (s : State) (sd : Side) (k : Nat) (ds : Descriptor) (rest : List Descriptor), s.sideRuns sd = true → s.dev.st.connects = true →
    s.window sd k = ds :: rest → ds.captured = true → ds.triedAt ≠ some s.time.tick →
    let p := readData ds.gen ds.bytes
    let n := p.handle
    let c := s.conn sd n
    let e := s.connEntry n
    let d := (p.seq + 65536 - c.vr.toNat % 65536) % 65536
    let taken := s.setWindow sd k rest
    let kept := fun (t : State) => t.window sd k = rest ∨ t.window sd k = []
    ds.ftype = ftDATA1 ∨ ds.ftype = ftDATA2 →
    (n ∉ s.connsInUse → exec (.dataPduAccept sd k) s = .next (taken.event bWEIR 8 0xFFFF)) ∧
    (∀ x, n ∈ s.connsInUse → e.port = k → c.st = .opening ∨ c.st = .run → c.session = some x →
      let fits := x.gen = ds.gen ∧ (ds.ftype = ftDATA1 ↔ ds.gen = 1)
      (¬ fits ∨ d = 0 ∨ 255 < d → exec (.dataPduAccept sd k) s = .next (taken.event bWEIR 8 n)) ∧
      (fits → 1 ≤ d → d ≤ 255 →
        let pre := virtualPrefix e.uid x.nO.toNat x.nR.toNat (!x.opener) (c.vr + BitVec.ofNat 32 d).toNat
        let crcOk := ownCrcOk ds.gen (sd == .a) pre (dataCrcOff ds.gen) ds.bytes
        let echoed := p.echoValid = true ∧ (c.vt.toNat + 65536 - p.echo) % 65536 * e.period ≤ e.wd
        (crcOk = false → Gives (.dataPduAccept sd k) s (fun t => kept t ∧ t.isLive bWEIR (if sd = .a then 6 else 7) n = true)) ∧
        (crcOk = true → dataReservedOk ds.gen ds.bytes e.inBits = false → exec (.dataPduAccept sd k) s = .next (taken.event bWEIR 5 n)) ∧
        (crcOk = true → dataReservedOk ds.gen ds.bytes e.inBits = true → Gives (.dataPduAccept sd k) s (fun t =>
          kept t ∧ (t.conn sd n).vr = c.vr + BitVec.ofNat 32 d ∧ (t.conn sd n).data = BitVec.ofNat 64 p.data ∧
          (t.conn sd n).fsv = p.fsv ∧ (t.conn sd n).accepted = some s.time.tick ∧
          (echoed → (t.conn sd n).wdStart = s.time.tick ∧ (s.dev.st ≠ .latched → (t.conn sd n).st = .run)) ∧
          (¬ echoed → (t.conn sd n).wdStart = c.wdStart ∧ (t.conn sd n).st = c.st)))))) ∧
  (∀ (s : State) (sd : Side) (n : Nat), (s.conn sd n).st = .run →
    let due := (s.conn sd n).wdStart + 5 * (s.connEntry n).wd
    (s.window sd (s.connEntry n).port = [] → due ≤ s.time.tick → s.dev.st.connects = true → Gives (.connWatchdogExpiry sd n) s (fun t =>
      (t.conn sd n).st = .lost ∧ (t.conn sd n).session = none ∧ t.isLive bWEIR 1 n = true)) ∧
    (due ≤ s.time.tick → s.dev.st.connects = true → (s.window sd (s.connEntry n).port).any (s.restarts sd n) = false →
      ∀ cell, (s.connInput sd n cell).run = false) ∧
    (s.time.tick < due ∨ s.dev.st.connects = false → exec (.connWatchdogExpiry sd n) s = .next s))

/-- From R219 and row 12 of Table 9.10: the fourth DATA PDU of one connection within 1 s that a channel's own CRC check rejects takes the
connection in RUN to LOST, as its watchdog does, with WEIR.CONN_LOST and WEIR.CRC_RATE; an earlier one leaves it, and a PDU that fails step
1 or 2 of Table 9.8 is not counted. That the fourth in OPENING raises WEIR.CRC_RATE and leaves the state is the model's choice, log 105. -/
def Obligations.CrcRateLosesConnection : Prop :=
  ∀ (s : State) (sd : Side) (k : Nat) (ds : Descriptor) (rest : List Descriptor) (x : Session), s.sideRuns sd = true →
    s.dev.st.connects = true → s.window sd k = ds :: rest → ds.captured = true → ds.triedAt ≠ some s.time.tick →
    ds.ftype = ftDATA1 ∨ ds.ftype = ftDATA2 →
    let p := readData ds.gen ds.bytes
    let n := p.handle
    let c := s.conn sd n
    let e := s.connEntry n
    let d := (p.seq + 65536 - c.vr.toNat % 65536) % 65536
    let recent := c.rejects.filter (fun r => decide (s.time.tick < r + 20000))
    n ∈ s.connsInUse → e.port = k → c.st = .opening ∨ c.st = .run → c.session = some x →
    let fits := x.gen = ds.gen ∧ (ds.ftype = ftDATA1 ↔ ds.gen = 1)
    (¬ fits ∨ d = 0 ∨ 255 < d →
      Gives (.dataPduAccept sd k) s (fun t => (t.conn sd n).rejects = c.rejects ∧ (t.conn sd n).st = c.st)) ∧
    (fits → 1 ≤ d → d ≤ 255 →
      ownCrcOk ds.gen (sd == .a) (virtualPrefix e.uid x.nO.toNat x.nR.toNat (!x.opener) (c.vr + BitVec.ofNat 32 d).toNat)
        (dataCrcOff ds.gen) ds.bytes = false →
      Gives (.dataPduAccept sd k) s (fun t =>
        (3 ≤ recent.length → t.isLive bWEIR 2 n = true ∧
          (c.st = .run → (t.conn sd n).st = .lost ∧ (t.conn sd n).session = none ∧ t.isLive bWEIR 1 n = true) ∧
          (c.st = .opening → (t.conn sd n).st = .opening ∧ (t.conn sd n).session = some x)) ∧
        (recent.length < 3 → (t.conn sd n).st = c.st ∧ (t.conn sd n).vr = c.vr ∧ (t.conn sd n).rejects = recent ++ [s.time.tick])))

/-- From R208, R220 to R225, rows 2 to 13 of Table 9.10: what an ANNOUNCE, the sending of OPEN, a received OPEN, OPEN_ACK and REFUSE, and
the two timeouts make of a connection. A channel checks the CRC of an OPEN against at most 64 entries in a tick and goes on in the next.
(The model's choices it rests on: log 49, 50.) -/
def Obligations.ConnectionsOpen : Prop :=
  ∀ (s : State) (sd : Side) (k n : Nat), s.sideRuns sd = true → s.dev.st.connects = true →
    let c := s.conn sd n
    let e := s.connEntry n
    let q := s.partnerOf n
    let kept := fun (t : State) (rest : List Descriptor) => t.window sd k = rest ∨ t.window sd k = []
    (∀ ds rest, s.window sd k = ds :: rest → ds.captured = true → ds.triedAt ≠ some s.time.tick → ds.ftype = ftANNOUNCE →
      leAt ds.bytes 13 3 = 0 → leAt ds.bytes 12 1 < 4 → ds.gen = 0 →
      let gens := leAt ds.bytes 12 1
      let usable := s.opener n = false ∨ (e.m2 = true ∧ q.m2 = true ∧ gens.testBit 1 = true) ∨
        (e.m1 = true ∧ q.m1 = true ∧ gens.testBit 0 = true ∧ e.inBits ≤ 32 ∧ e.outBits ≤ 32)
      n ∈ s.connsInUse → e.port = k → q.inUse = true → q.identity = leAt ds.bytes 0 8 → q ∈ s.runCont.partners →
      Gives (.announceReceived sd k) s (fun t => kept t rest ∧ (t.conn sd n).heardAt = some s.time.tick ∧
        (∃ l ∈ t.learned sd, l.partner = e.partner ∧ l.port = k ∧ l.mac = ds.mac ∧ l.at_ = s.time.tick ∧ l.ip = ds.ip.or
          ((((s.learned sd).filter (fun x => x.partner == e.partner && x.port == k)).getLast?).bind (·.ip))) ∧
        (q.check ≠ (ds.bytes.drop 8).take 4 → (t.conn sd n).st =
          if c.st = .absent ∨ c.st = .announced ∨ c.st = .lost ∨ c.st = .refused then .mismatch else c.st) ∧
        (q.check = (ds.bytes.drop 8).take 4 →
          (c.st = .mismatch → (t.conn sd n).st = .announced) ∧
          (c.st = .absent ∨ c.st = .announced ∨ c.st = .lost ∨ c.st = .refused → usable → (t.conn sd n).st = .announced) ∧
          (c.st = .absent ∨ c.st = .announced ∨ c.st = .lost ∨ c.st = .refused → ¬ usable → (t.conn sd n).st = .refused) ∧
          (c.st = .opening ∨ c.st = .run → (t.conn sd n).st = c.st)))) ∧
    (n ∈ s.connsInUse → s.opener n = true → s.dev.st.opens = true → c.st = .announced → c.since < s.time.tick →
      (s.openGen sd n = none → Gives (.openSend sd n) s (fun t => (t.conn sd n).st = .refused)) ∧
      (∀ g, s.openGen sd n = some g → Gives (.openSend sd n) s (fun t => (t.conn sd n).st = .opening ∧ (t.conn sd n).session = none ∧
        (t.conn sd n).pendingOpen = some ⟨s.nonce s.sendTick, g⟩ ∧ (t.conn sd n).sentAt = s.sendTick ∧
        (t.conn sd n).due = some ⟨ftOPEN, g, 0xFFFF, s.nonce s.sendTick, 0, e.outBits, e.inBits, e.period, 0, s.sendTick⟩))) ∧
    (∀ ds rest, s.window sd k = ds :: rest → ds.captured = true → ds.triedAt ≠ some s.time.tick → ds.ftype = ftOPEN → ds.tried = 0 →
      ctlReservedOk ftOPEN ds.bytes = true →
      let p := readCtl ds.bytes
      let all := s.connsInUse.filter (fun m => (s.connEntry m).port == k && (s.partnerOf m).identity == p.senderId && !s.opener m)
      let found := all.take (s.searchLeft sd)
      (found.find? (fun m => s.ctlCrcOk sd m true ds) = none → found.length < all.length → Gives (.openReceived sd k) s (fun t =>
        SameBut [.weir] s t ∧ t.window sd k = rest ++ [{ ds with tried := found.length, triedAt := some s.time.tick }] ∧
        t.searchLeft sd = 0)) ∧
      (found.find? (fun m => s.ctlCrcOk sd m true ds) = some n →
      (∀ r, s.refuseReason sd n ds.gen p = some r → Gives (.openReceived sd k) s (fun t => kept t rest ∧
        (t.conn sd n).st = .refused ∧ (t.conn sd n).reason = r ∧
        ∃ d, (t.conn sd n).due = some d ∧ d.ftype = ftREFUSE ∧ d.reason = r ∧ d.handle = p.sender ∧ d.at_ = s.time.tick + 1)) ∧
      (s.refuseReason sd n ds.gen p = none → Gives (.openReceived sd k) s (fun t => kept t rest ∧ (t.conn sd n).st = .opening ∧
        (t.conn sd n).session = some ⟨BitVec.ofNat 32 p.nO, s.nonce (s.time.tick + 1), ds.gen, p.sender, false⟩ ∧
        (t.conn sd n).vt = 0 ∧ (t.conn sd n).vr = 0 ∧ (t.conn sd n).echoValid = false ∧ (t.conn sd n).sentAt = s.time.tick + 1 ∧
        ∃ d, (t.conn sd n).due = some d ∧ d.ftype = ftACK ∧ d.nR = s.nonce (s.time.tick + 1) ∧ d.at_ = s.time.tick + 1)))) ∧
    (∀ ds rest o, s.window sd k = ds :: rest → ds.captured = true → ds.triedAt ≠ some s.time.tick → (readCtl ds.bytes).handle = n →
      n ∈ s.connsInUse → c.st = .opening → c.session = none → c.pendingOpen = some o → e.port = k →
      q.identity = (readCtl ds.bytes).senderId → o.nO = BitVec.ofNat 32 (readCtl ds.bytes).nO → o.gen = ds.gen →
      s.ctlCrcOk sd n false ds = true →
      let p := readCtl ds.bytes
      (ds.ftype = ftACK → ctlReservedOk ftACK ds.bytes = true → Gives (.openAckReceived sd k) s (fun t => t.window sd k = rest ∧
        (t.conn sd n).st = .opening ∧ (t.conn sd n).pendingOpen = none ∧ (t.conn sd n).vt = 0 ∧ (t.conn sd n).vr = 0 ∧
        (t.conn sd n).session = some ⟨BitVec.ofNat 32 p.nO, BitVec.ofNat 32 p.nR, ds.gen, p.sender, true⟩ ∧ SameBut [.weir] s t)) ∧
      (ds.ftype = ftREFUSE → ctlReservedOk ftREFUSE ds.bytes = true → Gives (.refuseReceived sd k) s (fun t => kept t rest ∧
        (t.conn sd n).st = .refused ∧ (t.conn sd n).reason = p.reason ∧ (t.conn sd n).session = none ∧ (t.conn sd n).due = none))) ∧
    (c.st = .opening →
      (c.sentAt + 2000 ≤ s.time.tick → Gives (.openingTimeout sd n) s (fun t => (t.conn sd n).st = .announced ∧
        (t.conn sd n).session = none ∧ (t.conn sd n).pendingOpen = none ∧ (t.conn sd n).since = s.time.tick)) ∧
      (s.time.tick < c.sentAt + 2000 → exec (.openingTimeout sd n) s = .next s)) ∧
    (∀ h, c.heardAt = some h → c.st = .announced ∨ c.st = .mismatch ∨ c.st = .refused →
      (h + 6000 ≤ s.time.tick → Gives (.announceTimeout sd n) s (fun t => (t.conn sd n).st = .absent ∧ (t.conn sd n).session = none)) ∧
      (s.time.tick < h + 6000 → exec (.announceTimeout sd n) s = .next s))

/-- From R27, R22, R184, R262, R50: the tick edge advances the tick and starts its slots anew, makes the host signals written since
visible, and captures the requests; a RUN accepted before it takes SAFE to RUN. Without the clocks there is no tick. From R21, R264, R313,
R325, R335: every 100 ms each channel publishes its measurement block and starts anew, and the extremes of VSUP and of the junction
temperature are sampled; an operating second is counted with saturation and written in three copies, each evaluator's load over it is
kept, and the coverage deadlines run in RUN and SAFE alone. (The model's choices it rests on: log 8, 54, 75, 82.) -/
def Obligations.TicksAndMeasurements : Prop :=
  (∀ (s : State) (v : Nat) (tj : Int),
    (s.clocked = false ∨ s.dev.st = .off → exec (.systemTick v tj [] []) s = .next s) ∧
    (s.clocked = true → s.dev.st ≠ .off → s.rif.slice = none → s.cfg.live = none → (∀ p, (s.pair p).agr = []) → s.oxb.running = none →
      s.oxb.tlAsk = false →
      Gives (.systemTick v tj [] []) s (fun t =>
        t.time.tick = s.time.tick + 1 ∧ t.time.slotInTick = 0 ∧ t.time.frameN = s.time.frameN ∧ t.pwr.vsup = v ∧ t.pwr.tj = tj ∧
        (s.hs.flipDue = true → s.host.paused = false → s.supRuns = true → t.hs.visible = s.hs.inactive ∧ t.hs.flipDue = false) ∧
        (s.hs.flipDue = false ∨ s.host.paused = true ∨ s.supRuns = false → t.hs = s.hs) ∧
        (s.host.paused = false → s.supRuns = true → s.on 8 = true → ∀ r ∈ t.host.queue, r.captured = true) ∧
        ((∀ w ∈ s.host.waiting, w.on ≠ .run) → t.dev = s.dev ∧ t.faults = s.faults) ∧
        ((∃ w ∈ s.host.waiting, w.on = .run) → s.runAllowed = true → s.manifestEpoch ≤ s.fusedEpoch →
          t.dev.st = .run ∧ t.dev.safeLine = s.dev.safeLine)))) ∧
  (∀ s : State,
    (∀ v tj, s.oxb.mounted = true → s.clocked = true →
      (s.time.tick < s.oxb.lastSampleTick + 2000 → exec (.measurementBlock v tj) s = .next s) ∧
      (s.oxb.lastSampleTick + 2000 ≤ s.time.tick → Gives (.measurementBlock v tj) s (fun t =>
        SameBut [.oxb, .cells, .field, .faults] s t ∧ t.faults.words = s.faults.words ∧ t.oxb.lastSampleTick = s.time.tick ∧
        t.oxb.mram = s.oxb.mram ∧
        (∀ sd, t.cells.blockNext.get? (Side.ix sd) = some (s.measBlock sd)) ∧ t.cells.lines = s.cells.lines ∧
        (∀ sd g, g < 4 → (t.gview sd g).minVf = none ∧ (t.gview sd g).maxTemp = none) ∧ (∀ sd c, c < 64 → (t.view sd c).maxI = 0) ∧
        (s.oxb.frozen = false → s.openRec oxVSUP_MIN 0 = none → s.pendingFull = false → ∃ o, t.openRec oxVSUP_MIN 0 = some o ∧ o.rcd.count = 1 ∧
          o.rcd.lo = (v : Int) ∧ o.rcd.hi = (v : Int))))) ∧
    (s.dev.st = .off ∨ s.dev.released = false → exec .operatingSecond s = .next s) ∧
    (s.dev.st ≠ .off → s.dev.released = true → Gives .operatingSecond s (fun t =>
      SameBut [.pwr, .rif, .oxb, .pairs] s t ∧ t.pwr.opSeconds = min 0xFFFFFFFF (s.pwr.opSeconds + 1) ∧
      t.pwr.sinceRelease = s.pwr.sinceRelease + 1 ∧ t.pwr.powerCycles = s.pwr.powerCycles ∧
      t.rif = { s.rif with clock := s.rif.clock + (if s.dev.st = .run ∨ s.dev.st = .safe then 1 else 0) } ∧
      (∀ p, t.pair p = if 2 ≤ p ∧ p ≤ 5 then (s.pair p).endSecond else s.pair p) ∧
      (s.copiesRun = false → t.oxb = s.oxb) ∧
      (s.copiesRun = true → s.oxb.storeFail ≠ some 0x10 → t.oxb.dirty = s.oxb.dirty ∧
        t.oxb.mram.seconds = [t.pwr.opSeconds, t.pwr.opSeconds, t.pwr.opSeconds] ∧
        t.oxb.mram.cycles = [s.pwr.powerCycles, s.pwr.powerCycles, s.pwr.powerCycles]))))

/-- From R71, R73, R74, R78, R82, R186: in a slot every coupler goes to its step of Table 3.17 and sends one frame with a right CRC, the
counter of the slot and each channel's token for it; the counter advances by one on all couplers. A unit slice and a channel slice under way
put their code into slot 1, and slots 1 and 2 (R332, R341); what a field die still holds of a slice ends at every slot but slot 2, aborted
where step 2 has not run (R333). That the closing markers of the checkpoint slots under way are written at a
coupler slot is the model's choice, log 100. (The model's choices it rests on: log 27, 72, 100, 113.) -/
def Obligations.CouplerSlotSendsFrames : Prop :=
  ∀ s : State, s.slotsRun = true →
    (5 ≤ s.time.slotInTick → exec .couplerSlot s = .next s) ∧
    (s.time.slotInTick < 5 → s.time.slotInTick ≠ 3 → Gives .couplerSlot s (fun t =>
      let n := (s.time.frameN + 1) % 65536
      SameBut [.time, .field, .pairs] s t ∧ (∀ p, 1 ≤ p → p ≤ 6 → t.pair p = (s.pair p).closeSlot s.time.tick) ∧
      t.time.slotInTick = s.time.slotInTick + 1 ∧ t.time.slotNo = s.time.slotNo + 1 ∧ t.time.frameN = n ∧
      t.time.tick = s.time.tick ∧ t.field.dies = s.field.dies ∧
      (s.time.slotInTick = 2 ∨ (∀ e ∈ s.field.chans, e.2.slice = none) → ∀ c, (t.chan c).slice = (s.chan c).slice) ∧
      ((s.field.chans.map (·.1)).Pairwise (· < ·) → ∀ c,
        (s.time.slotInTick = 2 ∨ (s.chan c).slice = none → t.chan c = s.chan c) ∧
        (∀ x, s.time.slotInTick ≠ 2 → (s.chan c).slice = some x → t.chan c = { s.chan c with
          slice := none, cutAt := if x.step = 2 ∧ x.aborted = false then (s.chan c).cutAt else some s.time.tick })) ∧
      ∀ c < 64, (t.coupler c).step = s.nextStep c ∧ ∃ f, (t.coupler c).frame = some f ∧ cmdOk f = true ∧ cmdFcnt f = n % 16 ∧
        cmdTick f = decide (s.time.slotInTick = 0) ∧
        frBits f 32 27 = token .a n (t.tokenOn .a c) c ∧ frBits f 26 21 = token .b n (t.tokenOn .b c) c ∧
        frBits f 39 38 = (if (t.coupler c).step = 1 then 2 else if (t.coupler c).step = 2 ∨ (t.coupler c).step = 3 then 3 else 1) ∧
        ((t.coupler c).step = 7 → c % 16 = 0 → c / 16 ∈ s.rif.groupSlices → s.time.slotInTick = 1 → cmdSel f = 0x1D) ∧
        (∀ r, (t.coupler c).step = 7 → c % 16 ≠ 0 → s.rif.slice = some r → r.chan = c → r.aborted = false → r.sel < 32 →
          s.time.slotInTick = 1 ∨ s.time.slotInTick = 2 → cmdSel f = r.sel)))

/-- From R331, R335 to R337, R343, R344, R345: a slice starts beside no pulse slot where its run conditions allow it, and is skipped and
counted where they do not. From R333, R338 to R340: the slice is judged at its end by its signature over the band bytes of the steps
received, their count and the end marker: it passes, fails (the second failure in succession makes the channel unusable) or was aborted.
Overdue coverage is reported in RUN and SAFE; the logic-side checks run beside no slice, and two failures of one in succession make it
unusable. From R341, R342, R345, R287: a unit slice that is due starts once its group is quiet, is judged at its end and restarts the
group's couplers; one whose unit is in use is refused or aborted; a port's slice restarts its link; a failed one makes the unit unusable. A
calibrated channel's coefficients are stored when its readings and verify slice passed; otherwise the old ones stay and CAL_FAIL is raised.
(The model's choices it rests on: log 40, 41, 42, 43, 106, 113.) -/
def Obligations.SlicesCoverageAndCalibration : Prop :=
  (∀ s : State,
    (∀ k c sel asked, s.slotsRun = true → s.time.slotInTick = 1 → s.rif.granted = false → s.rif.slice = none → s.anyPulse = false →
      s.rif.sliceTick ≠ some s.time.tick → s.rif.logicTick ≠ some s.time.tick → s.sliceNow k = some (c, sel, asked) →
      (s.sliceMayRun (some (c / 16)) = true → (asked = true → s.sliceable c = true) → Gives (.channelSliceStart k) s (fun t => SameBut [.rif] s t ∧
        t.rif.granted = true ∧
        t.rif.slices = min 0xFFFF (s.rif.slices + 1) ∧ t.rif.coverage = s.rif.coverage ∧ ∃ r, t.rif.slice = some r ∧ r.chan = c ∧ r.sel = sel ∧
        r.variant = (s.time.frameN + 1) % 8 ∧ r.results = [] ∧ r.aborted = false ∧ r.forRequest = asked)) ∧
      (s.sliceMayRun (some (c / 16)) = false ∨ (asked = true ∧ s.sliceable c = false) → Gives (.channelSliceStart k) s (fun t => t.rif.slice = none ∧
        t.rif.skipped = s.rif.skipped + 1 ∧ (t.unit c).skips = (s.unit c).skips + 1 ∧ (t.unit c).last = 3 ∧ t.isLive bRIF 4 c = true))) ∧
    (∀ k, s.anyPulse = true ∨ s.time.slotInTick ≠ 1 ∨ s.rif.slice.isSome = true ∨ s.rif.sliceTick = some s.time.tick ∨
      s.rif.logicTick = some s.time.tick → exec (.channelSliceStart k) s = .next s) ∧
    (∀ r, s.slotsRun = true → s.time.slotInTick = 3 → s.rif.slice = some r → r.chan < 64 → r.forRequest = false → r.aborted = false →
      (∀ e ∈ s.field.chans, e.1 = r.chan → e.2.slice = none) →
      let c := r.chan
      let bits := r.sel = 0x18 ∨ r.sel = 0x19
      let points := fun (step : Nat) => if bits then 4 else if r.sel = 0x1D ∧ step = 1 then 2 else 1
      let band := fun (step raw : Nat) => bandByte (fun k => if points step ≤ k then 3
        else if bits then (if raw.testBit k = Config.sliceExpect r.sel r.variant c step k then 1 else 0)
        else Config.sliceBand r.sel r.variant c step raw k % 3)
      let sig := fun (bands : List Byte) (count marker : Nat) => crc 32 0x04C11DB7 0xFFFFFFFF
        ([byte r.sel, byte r.variant, byte c] ++ bands ++ [byte count, byte marker])
      let pass := r.marker = true ∧ r.results.length = 2 ∧ sig (r.results.map (fun x => band x.1 x.2)) 2 1 =
        sig ([0, 1].map (fun i => bandByte (fun k => if k < points i then 1 else 3))) 2 1
      let stopped := r.final = true ∧ r.marker = false ∧ r.results.getLast?.map (·.2) = some 0
      let ended := fun (t : State) => t.rif.slice = none ∧ t.rif.granted = false ∧ (t.unit c).skips = (s.unit c).skips
      (r.started = true → ¬ stopped → (∀ e ∈ s.field.chans, e.1 = c → e.2.cutAt = none ∨ e.2.cutAt ≠ s.rif.sliceTick) →
        (pass → Gives .couplerSlot s (fun t => ended t ∧ (t.unit c).last = 0 ∧ (t.unit c).passes = (s.unit c).passes + 1 ∧
          (t.unit c).fails = (s.unit c).fails ∧ (t.unit c).aborts = (s.unit c).aborts ∧
          (t.unit c).unusable = (s.unit c).unusable ∧ (t.cov c).repeats = (s.cov c).repeats.erase (r.sel, r.variant))) ∧
        (¬ pass → Gives .couplerSlot s (fun t => ended t ∧ (t.unit c).last = 1 ∧ (t.unit c).fails = (s.unit c).fails + 1 ∧
          (t.unit c).passes = (s.unit c).passes ∧ (t.cov c).passes = (s.cov c).passes ∧
          ((r.sel, r.variant) ∈ (s.cov c).repeats → (t.unit c).unusable = true ∧ t.isLive bRIF 0 c = true) ∧
          ((r.sel, r.variant) ∉ (s.cov c).repeats → (t.unit c).unusable = (s.unit c).unusable ∧ t.faults = s.faults ∧
            (r.sel, r.variant) ∈ (t.cov c).repeats)))) ∧
      (r.started = false ∨ stopped ∨ ((s.chan c).cutAt.isSome = true ∧ ∀ e ∈ s.field.chans, e.1 = c → e.2.cutAt = s.rif.sliceTick) →
        Gives .couplerSlot s (fun t => ended t ∧ (t.unit c).last = 2 ∧ (t.unit c).aborts = (s.unit c).aborts + 1 ∧
          (t.unit c).passes = (s.unit c).passes ∧ (t.unit c).fails = (s.unit c).fails ∧ t.isLive bRIF 3 c = true ∧
          (t.cov c) = s.cov c))) ∧
    (∀ c d, c < 64 → (s.cov c).deadline = some d → (s.chanEntry c).mode ≠ mOFF →
      (s.dev.st = .run ∨ s.dev.st = .safe →
        (d + 120 ≤ s.rif.clock → exec (.coverageLate c) s = .next (s.raise bRIF 1 c whoDev)) ∧
        (d + 600 ≤ s.rif.clock → exec (.coverageLost c) s = .next (s.raise bRIF 2 c whoDev))) ∧
      (s.rif.clock < d + 120 ∨ (s.dev.st ≠ .run ∧ s.dev.st ≠ .safe) → exec (.coverageLate c) s = .next s) ∧
      (s.rif.clock < d + 600 → exec (.coverageLost c) s = .next s)) ∧
    (s.rif.slice.isSome = true ∨ s.rif.sliceTick = some s.time.tick → ∀ r, exec (.logicServiceCheck r) s = .next s) ∧
    (s.oxb.mounted = true → s.clocked = true → s.rif.slice = none → s.rif.sliceTick ≠ some s.time.tick →
      s.rif.logicAt ≠ some s.pwr.opSeconds → ∀ r,
      (s.sliceMayRun none = false → Gives (.logicServiceCheck r) s (fun t => t.rif.logicAt = some s.pwr.opSeconds ∧
        t.rif.skipped = s.rif.skipped + 3 ∧ t.rif.logicFails = s.rif.logicFails ∧
        ∀ i, i < 3 → (t.unit (unitNo 3 i)).last = 3 ∧ t.isLive bRIF 4 (unitNo 3 i) = true)) ∧
      (s.sliceMayRun none = true → ∀ x y z, s.rif.logicFails = [x, y, z] → Gives (.logicServiceCheck r) s (fun t =>
        let near := fun (mv : Nat) => mv ≤ s.params.vpfw + 50 ∧ s.params.vpfw ≤ mv + 50
        let a := near r.monitorMv ∧ near r.tripMv
        let b := s.pwr.tj - 5 ≤ r.temp2 ∧ r.temp2 ≤ s.pwr.tj + 5
        let c := s.clk.ratioDev - 20 ≤ r.ratio2 ∧ r.ratio2 ≤ s.clk.ratioDev + 20
        t.rif.logicAt = some s.pwr.opSeconds ∧
        t.rif.logicFails = [if a then 0 else x + 1, if b then 0 else y + 1, if c then 0 else z + 1] ∧
        (¬ a → 1 ≤ x → t.isLive bRIF 0 (unitNo 3 0) = true ∧ (t.unit (unitNo 3 0)).unusable = true) ∧
        (¬ b → 1 ≤ y → t.isLive bRIF 0 (unitNo 3 1) = true ∧ (t.unit (unitNo 3 1)).unusable = true) ∧
        (¬ c → 1 ≤ z → t.isLive bRIF 0 (unitNo 3 2) = true ∧ (t.unit (unitNo 3 2)).unusable = true))))) ∧
  (∀ s : State,
    (∀ g, g < 4 → s.groupSliceDue g = true → (s.die g).alive = true → g ∉ s.rif.groupSlices → (s.coupler (16 * g)).step = 7 →
      s.groupQuiet g = true → (s.gview .a g).vfTick.isSome = true → s.unitInUse 1 g = false →
      (s.sliceMayRun (some g) = true → Gives (.fieldUnitSlice g) s (fun t => SameBut [.rif] s t ∧ t.rif.slice = s.rif.slice ∧
        g ∈ t.rif.groupSlices ∧ (t.coupler (16 * g)).step = 7)) ∧
      (s.sliceMayRun (some g) = false → Gives (.fieldUnitSlice g) s (fun t => t.rif.skipped = s.rif.skipped + 1 ∧
        (t.unit (unitNo 1 g)).skips = (s.unit (unitNo 1 g)).skips + 1 ∧ t.isLive bRIF 4 (unitNo 1 g) = true ∧ t.die g = s.die g))) ∧
    (∀ g, s.groupSliceDue g = false → exec (.fieldUnitSlice g) s = .next s) ∧
    (∀ g w, s.groupSliceDue g = true → g ∉ s.rif.groupSlices → s.unitInUse 1 g = true → (s.die g).alive = true →
      (s.coupler (16 * g)).step ≠ 0 → s.unitAsked 1 g = true → s.host.waiting = [⟨w, .selfTest⟩] →
      Gives (.fieldUnitSlice g) s (fun t => t.rif.selfTest = none ∧ t.die g = s.die g ∧ t.rif.groupSlices = s.rif.groupSlices ∧
        w.response s.host.session stUNIT_IN_USE [] ∈ t.host.rsp)) ∧
    (∀ g r, g < 4 → g ∈ s.rif.groupSlices → s.rif.selfTest = none → r.tOff.length = 16 → s.unitInUse 1 g = false →
      Gives (.fieldUnitSliceDone g r) s (fun t =>
      let inside := fun (k lo hi : Nat) => ∃ x, r.trips[k]? = some x ∧ lo ≤ x ∧ x ≤ hi
      let good := (-50 ≤ r.refDev ∧ r.refDev ≤ 50) ∧
        (r.ladder.length = 16 ∧ ∀ x ∈ r.ladder, -2 ≤ x ∧ x ≤ 2) ∧
        (r.trips.length = 5 ∧ inside 0 15700 16300 ∧ inside 1 17700 18300 ∧ inside 2 30700 31300 ∧ inside 3 31500 32500 ∧
          inside 4 8500 10000) ∧
        (r.temp1 - r.temp2 ≤ 5 ∧ r.temp2 - r.temp1 ≤ 5) ∧ (∀ x ∈ r.tOff, x ≤ 40) ∧ r.failed = []
      let sent := ∀ row < 6, r.frames[row]? = some ([1, 4, 2, 1, 4, 4].getD row 0, true)
      let sig := fun (row : Nat) (bands : List Nat) => crc 32 0x04C11DB7 0xFFFFFFFF (beBytes 3 (Config.unitHead g row) ++
        (List.range ((bands.length + 3) / 4)).map (fun i => bandByte (fun k => bands.getD (4 * i + k) 3)) ++
        [byte ((bands.length + 3) / 4), 1])
      let pass := (s.die g).unitRun = true ∧ sent ∧
        ∀ row < 6, sig row (unitBands r row) = sig row (List.replicate ([1, 16, 5, 1, 16, 16].getD row 0) 1)
      g ∉ t.rif.groupSlices ∧ unitNo 1 g ∈ t.rif.unitsDone ∧ (∀ g', t.die g' = s.die g') ∧
      ((s.die g).unitRun = true → sent → good → pass) ∧
      (∀ i, (h : i < 16) → ∀ x, r.tOff[i]? = some x → t.rif.tOff.get? (16 * g + i) = some x) ∧
      (∀ i < 16, (s.coupler (16 * g + i)).step ≠ 0 → (t.coupler (16 * g + i)).goto = some 1) ∧
      (pass → (t.unit (unitNo 1 g)).last = 0 ∧ (t.unit (unitNo 1 g)).unusable = (s.unit (unitNo 1 g)).unusable ∧ t.faults = s.faults) ∧
      (¬ pass → (t.unit (unitNo 1 g)).fails = (s.unit (unitNo 1 g)).fails + 1 ∧ (t.unit (unitNo 1 g)).unusable = true ∧ t.isLive bRIF 0 (unitNo 1 g) = true))) ∧
    (∀ g r, g < 4 → g ∈ s.rif.groupSlices → s.rif.selfTest = none → s.unitInUse 1 g = true → Gives (.fieldUnitSliceDone g r) s (fun t =>
      g ∉ t.rif.groupSlices ∧ (t.unit (unitNo 1 g)).last = 2 ∧ (t.unit (unitNo 1 g)).aborts = (s.unit (unitNo 1 g)).aborts + 1 ∧
      (t.unit (unitNo 1 g)).unusable = (s.unit (unitNo 1 g)).unusable ∧ t.isLive bRIF 3 (unitNo 1 g) = true)) ∧
    (∀ k n x y, k = 1 ∨ k = 2 → s.portSliceDue k = true → s.weirOn = true → (s.params.port k).mode ≠ 0 → s.rif.selfTest = none →
      s.sliceMayRun none = true → s.unitInUse 2 k = false → Gives (.portUnitSlice k n x y) s (fun t => (t.port k).linkUp = false ∧ (t.port k).buffers = [] ∧
        t.isLive bWEIR 12 k = true ∧
        (n = 64 → x = y → (t.unit (unitNo 2 k)).last = 0) ∧
        (n ≠ 64 ∨ x ≠ y → (t.unit (unitNo 2 k)).fails = (s.unit (unitNo 2 k)).fails + 1 ∧ (t.unit (unitNo 2 k)).unusable = true ∧
          t.isLive bRIF 0 (unitNo 2 k) = true))) ∧
    (∀ c r x rest, c < 64 → s.rif.cal = some x → x.left = c :: rest → rest ≠ [] →
      let out := (s.chanEntry c).drives
      let pass := x.measured = true ∧ x.verified = true ∧ r.readingsInside = true ∧ (out = true → r.tOff ≤ 40)
      (pass → Gives (.calChannelDone c r) s (fun t => SameBut [.rif, .params] s t ∧
        (t.params.cal.getD c {}).gain = r.gain ∧ (t.params.cal.getD c {}).offset = r.offset ∧
        (t.params.cal.getD c {}).seconds = s.pwr.opSeconds ∧ (out = true → (t.params.cal.getD c {}).tOff = r.tOff) ∧
        (∀ c', c' ≠ c → t.params.cal.get? c' = s.params.cal.get? c') ∧
        ∃ y, t.rif.cal = some y ∧ y.left = rest ∧ y.ok = x.ok ++ [c] ∧ y.failed = x.failed)) ∧
      (¬ pass → Gives (.calChannelDone c r) s (fun t => t.params.cal = s.params.cal ∧ t.isLive (0x10 + c / 16) 19 c = true ∧
        ∃ y, t.rif.cal = some y ∧ y.left = rest ∧ y.ok = x.ok ∧ y.failed = x.failed ++ [c]))))

/-- From R314, R318, R319, R321, R322, R325, R328: a record closes at its interval and joins the dirty queue; a flush starts with its
trigger and its first burst, and each burst that is written lets the next one leave the queue; its end writes every record into the tail
at the next sequences and clears the queue; the records in the first area stay; the TL word is tried again after 60 s. (The model's choices
it rests on: log 66, 91.) -/
def Obligations.RecordsAndFlushes : Prop :=
  ∀ s : State,
    (∀ code inst o, s.openRec code inst = some o →
      (s.pwr.opSeconds < o.rcd.start + o.interval → exec (.recordClose code inst) s = .next s) ∧
      (o.rcd.start + o.interval ≤ s.pwr.opSeconds → s.oxb.dirty.length < 8192 → Gives (.recordClose code inst) s (fun t =>
        SameBut [.oxb, .faults] s t ∧ t.openRec code inst = none ∧ t.faults.words = s.faults.words ∧ t.oxb.mram = s.oxb.mram ∧
        ∃ r, t.oxb.dirty = s.oxb.dirty ++ [r] ∧ r.code = code ∧ r.inst = inst ∧ r.count = o.rcd.count ∧ r.start = o.rcd.start ∧
          r.stop = s.pwr.opSeconds ∧ r.cycles = s.pwr.powerCycles))) ∧
    (s.oxbRuns = true → s.oxb.running = none → s.oxb.tlPending = false → s.oxb.closing = [] →
      let burst := fun (t : State) => t.oxb.running = some .routine ∧ t.oxb.inFlight = s.oxb.dirty.take 16 ∧
        t.oxb.dirty = s.oxb.dirty.drop 16 ∧ t.oxb.openRecs = s.oxb.openRecs ∧ t.oxb.mram = s.oxb.mram ∧
        t.oxb.lastStart = some s.time.tick ∧ SameBut [.oxb] s t
      (s.oxb.trigger = none → exec .flushStart s = .next s) ∧
      (s.oxb.trigger = some .routine → Gives .flushStart s (fun t => burst t ∧ t.oxb.trigger = none)) ∧
      (s.oxb.trigger = some .full → s.oxb.dirty.length + s.oxb.openRecs.length ≤ 8192 → Gives .flushStart s (fun t =>
        t.oxb.running = some .full ∧ t.oxb.openRecs = [] ∧ t.oxb.mram = s.oxb.mram ∧
        t.oxb.inFlight.length + t.oxb.dirty.length = s.oxb.dirty.length + s.oxb.openRecs.length)) ∧
      (∀ d, s.oxb.deferredAt = some d → s.oxb.trigger = none →
        (d ≤ s.time.tick → Gives .flushDeferred s (fun t => burst t ∧ t.oxb.deferredAt = none)) ∧
        (s.time.tick < d → exec .flushDeferred s = .next s)) ∧
      (s.oxb.trigger = none →
        (s.oxb.hourlyFrom + 3600 ≤ s.pwr.opSeconds → Gives .flushHourly s (fun t => burst t ∧
          t.oxb.hourlyFrom = s.oxb.hourlyFrom + 3600)) ∧
        (s.pwr.opSeconds < s.oxb.hourlyFrom + 3600 → exec .flushHourly s = .next s))) ∧
    (∀ k, s.oxb.running = some k → k ≠ .powerFail → s.host.queue = [] →
      let all := s.oxb.inFlight ++ s.oxb.dirty
      let sound := ∀ e ∈ s.oxb.mram.totals, e.2.broken = []
      (s.oxb.storeFail = none → s.oxb.mram.nextSeq < 2 ^ 32 → all.length ≤ 524288 → sound → s.oxb.closing = [] →
        Gives (.flushDone ⟨[], false, 0, []⟩) s (fun t =>
        SameBut [.oxb, .host] s t ∧ t.oxb.running = none ∧ t.oxb.inFlight = [] ∧ t.oxb.dirty = [] ∧ t.oxb.openRecs = s.oxb.openRecs ∧
        t.oxb.mram.nextSeq = (s.oxb.mram.nextSeq + all.length) % 2 ^ 32 ∧ t.oxb.mram.image = s.oxb.openRecs ∧
        t.oxb.mram.seconds = [s.pwr.opSeconds, s.pwr.opSeconds, s.pwr.opSeconds] ∧
        (∀ i, (h : i < all.length) → t.oxb.mram.tail.get? ((s.oxb.mram.nextSeq + i) % 2 ^ 32 % 524288) =
          some { all[i] with seq := (s.oxb.mram.nextSeq + i) % 2 ^ 32, damaged := none }) ∧
        (∀ i r, s.oxb.mram.first.get? i = some r → t.oxb.mram.first.get? i = some r) ∧
        (k = .full → s.oxb.trigger ≠ some .full → ∀ w ∈ s.host.waiting, w.on = .oxbFlush →
          w.req.response s.host.session stOK (leBytes 4 (s.oxb.flushed + all.length)) ∈ t.host.rsp))) ∧
      (s.oxb.storeFail.isSome = true → all.length ≤ 8192 → s.oxb.closing = [] → Gives (.flushDone ⟨[], false, 0, []⟩) s (fun t =>
        t.oxb.running = none ∧ t.oxb.dirty = all ∧ t.oxb.mram.tail = s.oxb.mram.tail ∧ t.oxb.mram.first = s.oxb.mram.first ∧
        t.oxb.mram.totals = s.oxb.mram.totals ∧ t.oxb.mram.nextSeq = s.oxb.mram.nextSeq ∧ t.oxb.mram.image = s.oxb.mram.image ∧
        (s.oxb.storeFail = some 0x10 → t.oxb.mram = s.oxb.mram) ∧
        (s.oxb.storeFail ≠ some 0x10 → t.oxb.mram.seconds = [s.pwr.opSeconds, s.pwr.opSeconds, s.pwr.opSeconds])))) ∧
    (∀ k r rest, s.oxb.running = some k → k ≠ .powerFail → s.oxb.storeFail = none → s.oxb.inFlight = r :: rest → s.oxb.closing = [] →
      (∀ e ∈ s.oxb.mram.totals, e.2.broken = []) →
      s.burst.oxb.inFlight = s.oxb.dirty.take 16 ∧ s.burst.oxb.dirty = s.oxb.dirty.drop 16 ∧
      s.burst.oxb.flushed = s.oxb.flushed + (r :: rest).length ∧
      s.burst.oxb.mram.nextSeq = (s.oxb.mram.nextSeq + (r :: rest).length) % 2 ^ 32) ∧
    (s.oxb.tlPending = false ∨ s.time.tick < s.oxb.tlTriedAt + 1200000 → exec .tlRetry s = .next s) ∧
    (∀ code i, s.oxb.tlPending = true → s.oxb.tlTriedAt + 1200000 ≤ s.time.tick → s.oxb.tlDone = false → s.oxb.storeFail = some code →
      i < 64 → (s.shadow (3584 + i)).prog = false → (∀ j < i, (s.shadow (3584 + j)).prog = true) → s.ros.busy = false →
      s.ros.running = none → s.ros.waiting = [] → s.oxb.failedAt < 2 ^ 32 → FuseConditions s → Gives .tlRetry s (fun t => t.ros.busy = true ∧
        t.ros.fuses = s.ros.fuses ∧ ∃ j, t.ros.running = some j ∧
        j.party = .tl ∧ j.target = 3584 + i ∧ j.data.toNat / 2 ^ 48 = code % 2 ^ 16))

/-- The invariant holds right after reset. (The model's choices it rests on: log 3.) -/
def Obligations.ResetMeetsInvariant : Prop :=
 Inv State.reset

/-- From R253, R259, R348, Table 2.3: every step keeps the invariant: the tags that the device holds stay distinct and below 32, the bytes of
a staging stay at rising addresses inside it, the fuse array lists each word once, and CONFIGURE returns to SAFE or MAINTENANCE alone. (The
model's choices it rests on: log 1.) -/
def Obligations.StepsKeepInvariant : Prop :=
 ∀ s t : State, Inv s → step s = .next t → Inv t

/-- From R348: a programmed fuse word stays programmed, whatever the block does. (The model's choices it rests on: log 1.) -/
def Obligations.FusesStayProgrammed : Prop :=
  ∀ (s t : State) (w : Nat), step s = .next t → (s.ros.fuses.getD w {}).prog = true → (t.ros.fuses.getD w {}).prog = true

/-- From R79, R80: an open field switch closes by nothing but a RUN frame with a right CRC at its own live die that carries its side's ON
token for its channel and for the counter that the die has taken from the frame. -/
def Obligations.SwitchesCloseByTokensAlone : Prop :=
  ∀ (i : Instr) (s t : State) (c : Nat) (sd : Side), exec i s = .next t → switchOf s c sd = false → switchOf t c sd = true →
    ∃ f smp, i = .fdRunFrame c f smp ∧ (s.die (c / 16)).alive = true ∧ frBits f 39 38 = 1 ∧ cmdOk f = true ∧
      tokenField f sd = token sd (t.chan c).nLast.toNat true c ∧ (t.chan c).synced = true

/-- From Table 2.3: the device enters RUN at the end of VERIFY, or at a tick edge, and in no other way, from every state in which CONFIGURE
returns to SAFE or MAINTENANCE (`ConfigFromOk`, which `StepsKeepInvariant` says every step keeps). (The model's choices it rests on: log 8.) -/
def Obligations.RunEnteredAtVerifyExitOrTick : Prop :=
  ∀ (i : Instr) (s t : State), ConfigFromOk s → exec i s = .next t → t.dev.st = .run → s.dev.st ≠ .run →
    (i = .verifyExit ∧ s.dev.st = .verify) ∨ ∃ v tj dis ecc, i = .systemTick v tj dis ecc

/-- From R314: each pair of code and instance has at most one open record at a time, and every step keeps it so. (The model's choices it
rests on: log 1.) -/
def Obligations.OneOpenRecordEach : Prop :=
 ∀ s t : State, RecordsOk s → step s = .next t → RecordsOk t

/-- Every command answers a next state in every state, and leaves the queue of waiting commands alone (log 1). -/
def Obligations.EveryCommandCompletes : Prop :=
  ∀ (i : Instr) (s : State), ∃ t, exec i s = .next t ∧ t.pending = s.pending
end

