-- ==== Sys2Proof/Laws/Bits.lean ====
section
/-! SUPPORT. Laws of bytes, little-endian fields and sparse tables. -/

namespace Sys2Proof.Laws

open Sys2Proof.Machine

/-! ### Little-endian fields (R5) -/

@[simp] theorem leBytes_length (n v : Nat) : (leBytes n v).length = n := by
  induction n generalizing v with
  | zero => rfl
  | succ n ih => simp [leBytes, ih]

@[simp] theorem zeros_length (n : Nat) : (zeros n).length = n := by simp [zeros]

/-- A number that fits its field is read back. -/
theorem leVal_leBytes (n v : Nat) (h : v < 256 ^ n) : leVal (leBytes n v) = v := by
  induction n generalizing v with
  | zero => simp [leBytes, leVal] at *; omega
  | succ n ih =>
    have h2 : v / 256 < 256 ^ n := by
      rw [Nat.div_lt_iff_lt_mul (by omega), ← Nat.pow_succ]
      exact h
    simp only [leBytes, leVal, byte, BitVec.toNat_ofNat, ih _ h2]
    omega

/-- The first field of a byte string. -/
theorem leAt_first (n v : Nat) (bs : List Byte) (h : v < 256 ^ n) : leAt (leBytes n v ++ bs) 0 n = v := by
  unfold leAt
  rw [List.drop_zero, List.take_left' (leBytes_length n v)]
  exact leVal_leBytes n v h

/-- A field behind a prefix. -/
theorem leAt_behind (pre bs : List Byte) (k off n : Nat) (h : pre.length = off) : leAt (pre ++ bs) (off + k) n = leAt bs k n := by
  unfold leAt
  subst h
  rw [← List.drop_drop, List.drop_left]

/-- The field right behind a prefix. -/
theorem leAt_next (pre bs : List Byte) (off n v : Nat) (h : pre.length = off) (hv : v < 256 ^ n) :
    leAt (pre ++ (leBytes n v ++ bs)) off n = v := by
  rw [← Nat.add_zero off, leAt_behind pre _ 0 off n h]
  exact leAt_first n v bs hv

theorem leAt_byte (v : Nat) (bs : List Byte) (h : v < 256) : leAt (byte v :: bs) 0 1 = v :=
  leAt_first 1 v bs h

theorem isBlock_lt {b : Nat} (h : isBlock b = true) : b < 256 := by
  simp [isBlock, blockIds] at h
  omega

/-! ### Sparse tables -/

/-- Reading an entry after writing one. -/
theorem tab_get_put {α : Type} (t : Tab α) (i j : Nat) (v : α) :
    (Tab.put t i v).get? j = if j = i then some v else t.get? j := by
  induction t with
  | nil =>
    simp only [Tab.put, Tab.get?]
    by_cases h : i = j <;> by_cases h2 : j = i <;> simp_all
  | cons e t ih =>
    obtain ⟨k, w⟩ := e
    unfold Tab.put
    by_cases h1 : k = i
    · subst h1
      simp only [if_true, Tab.get?]
      by_cases h : k = j
      · simp [h]
      · rw [if_neg h, if_neg h, if_neg (fun e : j = k => h e.symm)]
    · rw [if_neg h1]
      by_cases h2 : i < k
      · rw [if_pos h2]
        simp only [Tab.get?]
        by_cases h : i = j
        · simp [h]
        · rw [if_neg h, if_neg (fun e : j = i => h e.symm)]
      · rw [if_neg h2]
        simp only [Tab.get?, ih]
        by_cases h : k = j
        · subst h
          simp [h1]
        · simp [h]

theorem tab_getD_put {α : Type} (t : Tab α) (i j : Nat) (v d : α) :
    (Tab.put t i v).getD j d = if j = i then v else t.getD j d := by
  unfold Tab.getD
  rw [tab_get_put]
  split <;> simp

/-- Reading an entry after deleting it. -/
theorem tab_get_del {α : Type} (t : Tab α) (i : Nat) : (Tab.del t i).get? i = none := by
  induction t with
  | nil => rfl
  | cons e r ih =>
    obtain ⟨k, w⟩ := e
    by_cases h : k = i
    · simpa [Tab.del, h] using ih
    · have : Tab.del ((k, w) :: r) i = (k, w) :: Tab.del r i := by simp [Tab.del, h]
      rw [this, Tab.get?, if_neg h, ih]

/-- Writing keeps the keys strictly rising. -/
theorem tab_put_sorted {α : Type} (t : Tab α) (i : Nat) (v : α) (h : (t.map (·.1)).Pairwise (· < ·)) :
    ((Tab.put t i v).map (·.1)).Pairwise (· < ·) := by
  have keys : ∀ (t : Tab α) (k : Nat), k ∈ (Tab.put t i v).map (·.1) → k = i ∨ k ∈ t.map (·.1) := by
    intro t
    induction t with
    | nil => simp [Tab.put]
    | cons e t ih =>
      obtain ⟨k, w⟩ := e
      intro x hx
      unfold Tab.put at hx
      split at hx
      · subst_vars; simp at hx ⊢; tauto
      · split at hx
        · simp at hx ⊢; tauto
        · simp only [List.map_cons, List.mem_cons] at hx ⊢
          rcases hx with hx | hx
          · tauto
          · rcases ih x hx with h | h <;> tauto
  induction t with
  | nil => simp [Tab.put]
  | cons e t ih =>
    obtain ⟨k, w⟩ := e
    simp only [List.map_cons, List.pairwise_cons] at h
    obtain ⟨h1, h2⟩ := h
    unfold Tab.put
    by_cases e1 : k = i
    · subst e1
      simp only [if_true, List.map_cons, List.pairwise_cons]
      exact ⟨h1, h2⟩
    · rw [if_neg e1]
      by_cases e2 : i < k
      · rw [if_pos e2]
        simp only [List.map_cons, List.pairwise_cons, List.mem_cons]
        refine ⟨fun x hx => ?_, h1, h2⟩
        rcases hx with hx | hx
        · omega
        · have := h1 x hx
          omega
      · rw [if_neg e2]
        simp only [List.map_cons, List.pairwise_cons]
        refine ⟨fun x hx => ?_, ih h2⟩
        rcases keys t x hx with hx | hx
        · omega
        · exact h1 x hx

end Sys2Proof.Laws
end

