-- ==== Sys2Proof/Laws/Host.lean ====
section
/-! SUPPORT. What the shared operations of a host transaction and of an occurrence do, each outcome once. -/

namespace Sys2Proof.Laws

open Sys2Proof.Machine Sys2Proof.Safety

variable {s : State} {t : Txn} (act : State → State)

/-- A transaction that is heard carries out its action from the state in which it has begun. -/
theorem transaction_heard (h : Heard t s) : s.transaction t act = act (begun t s) := by
  obtain ⟨h1, h2, h3⟩ := h
  unfold State.transaction begun ifaceOf
  by_cases hx : s.host.iface = .xspi
  · simp only [h1, h2, hx, h3 hx, Bool.not_true, Bool.or_self, Bool.false_eq_true, if_false, if_true]
    rw [← hx]
  · simp [h1, h2, hx]

/-- Without power or clock nothing is returned and nothing changes. -/
theorem transaction_dark (h : s.on 8 = false ∨ s.clocked = false) :
    s.transaction t act = { s with host := { s.host with out := [] } } := by
  unfold State.transaction
  rcases h with h | h <;> simp [h]

/-- An xSPI transaction with a wrong complement or address is rejected (R249). -/
theorem transaction_garbled (h1 : s.on 8 = true) (h2 : s.clocked = true) (hx : s.host.iface = .xspi) (ht : t.xspiOk = false) :
    s.transaction t act = s.reject jXSPI := by
  unfold State.transaction
  simp [h1, h2, hx, ht]

variable {brst : State → Nat → State} {b i inst who : Nat}

/-- An index that the catalogue does not define raises nothing. -/
theorem raise_undefined (h : sourceOf b i = none) : s.raiseWith brst b i inst who = s := by
  unfold State.raiseWith
  rw [h]

/-- A cell source of a cell that is not in use raises nothing. -/
theorem raise_unused (hb : 0x20 ≤ b) (hn : s.inUse inst = false) : s.raiseWith brst b i inst who = s := by
  unfold State.raiseWith
  split
  · rfl
  · simp [hb, hn]

/-- A further event of a live instance extends it, and so does a further detector of a condition; an instance that PD0 has kept through a
reset is raised anew. -/
theorem raise_live {src : Source} (h : sourceOf b i = some src) (hu : ¬ (0x20 ≤ b ∧ s.inUse inst = false))
    (hl : s.faults.live.any (fun l => (l.block == b && l.index == i && l.inst == inst) && !l.stale) = true) :
    s.raiseWith brst b i inst who = s.extend src b i inst who := by
  unfold State.raiseWith
  rw [h]
  simp only [Bool.not_eq_true', hl, if_true]
  rw [if_neg hu]

/-- A condition that no detector holds any more falls. -/
theorem clear_absent (h : s.faults.live.find? (fun l => l.block == b && l.index == i && l.inst == inst) = none) :
    s.clear b i inst who = s := by
  unfold State.clear
  rw [h]

end Sys2Proof.Laws
end

