-- ==== Sys2Proof/Laws/KeptOps.lean ====
section
/-! SUPPORT. What every shared operation keeps: `Kept xs s t` says that going from `s` to `t` at most the tags `xs` are newly held,
and that the queue, the fuses, the stagings, the open switches, RUN and the open records are as the invariants want
them. Here for the accessors, the recorder and HOST. -/

set_option linter.unusedTactic false
set_option linter.unreachableTactic false
set_option linter.unusedVariables false
set_option linter.unusedSimpArgs false

namespace Sys2Proof.Laws

open Sys2Proof.Machine Sys2Proof.Safety

/-- What going from `s` to `t` keeps: the queue, the fuses in order and programmed, no held tag but those of `xs` and of `s`, the stagings in
order, no switch newly closed, no entry into RUN, the open records distinct. -/
structure Kept (xs : List Nat) (s t : State) : Prop where
  pending : t.pending = s.pending
  fuses : FusesOk s → FusesOk t
  prog : ∀ w, (s.ros.fuses.getD w {}).prog = true → (t.ros.fuses.getD w {}).prog = true
  held : t.host.held.Subperm (xs ++ s.host.held)
  container : StagingOk s.cfg.staging → StagingOk t.cfg.staging
  bundle : StagingOk s.bundles.staging → StagingOk t.bundles.staging
  opens : ∀ c sd, switchOf t c sd = true → switchOf s c sd = true
  run : t.dev.st = .run → s.dev.st = .run
  records : RecordsOk s → RecordsOk t

theorem Kept.refl (s : State) : Kept [] s s := ⟨rfl, id, fun _ => id, List.Subperm.refl _, id, id, fun _ _ => id, id, id⟩

theorem Kept.trans {xs : List Nat} {s t u : State} (h : Kept xs s t) (k : Kept [] t u) : Kept xs s u :=
  ⟨k.pending.trans h.pending, fun x => k.fuses (h.fuses x), fun w x => k.prog w (h.prog w x), List.Subperm.trans k.held h.held,
    fun x => k.container (h.container x), fun x => k.bundle (h.bundle x), fun c sd x => h.opens c sd (k.opens c sd x), fun x => h.run (k.run x), fun x => k.records (h.records x)⟩

variable {xs : List Nat} {s0 s t : State}

theorem Kept.upd (h : Kept xs s0 s) (h1 : t.pending = s.pending) (h2 : t.ros.fuses = s.ros.fuses) (h3 : t.host.held = s.host.held)
    (h4 : t.cfg.staging = s.cfg.staging ∨ t.cfg.staging = none) (h5 : t.bundles.staging = s.bundles.staging ∨ t.bundles.staging = none)
    (h6 : t.field.chans = s.field.chans) (h7 : t.dev.st = s.dev.st)
    (h8 : t.oxb.openRecs = s.oxb.openRecs ∨ t.oxb.openRecs = []) : Kept xs s0 t := by
  have e : ∀ c sd, switchOf t c sd = switchOf s c sd := by intro c sd; cases sd <;> simp [switchOf, State.chan, h6]
  refine ⟨h1.trans h.pending, fun x => ?_, fun w x => h2 ▸ h.prog w x, h3 ▸ h.held, fun x => ?_, fun x => ?_,
    fun c sd x => h.opens c sd (e c sd ▸ x), fun x => h.run (h7 ▸ x), fun x => ?_⟩
  · unfold FusesOk
    rw [h2]
    exact h.fuses x
  · rcases h4 with h4 | h4
    · exact h4 ▸ h.container x
    · intro y hy
      rw [h4] at hy
      cases hy
  · rcases h5 with h5 | h5
    · exact h5 ▸ h.bundle x
    · intro y hy
      rw [h5] at hy
      cases hy
  · unfold RecordsOk
    rcases h8 with h8 | h8
    · rw [h8]
      exact h.records x
    · rw [h8]
      exact List.nodup_nil

@[simp] theorem setBank_staging (c : ConfigSt) (i : Nat) (x : ConfigBank) : (c.setBank i x).staging = c.staging := by
  unfold ConfigSt.setBank; split <;> rfl

@[simp] theorem bundle_setBank_staging (b : BundleSt) (i : Nat) (x : BundleBank) : (b.setBank i x).staging = b.staging := by
  unfold BundleSt.setBank; split <;> rfl

/-- The same for a state written out. -/
theorem Kept.lit {time_ : TimeSt} {dev_ : DevSt} {host_ : HostSt} {hs_ : HostSigSt} {faults_ : FaultSt} {pairs_ : PairsSt} {cfg_ : ConfigSt} {params_ : ParamSt} {cells_ : CellsSt} {field_ : FieldSt} {weir_ : WeirSt} {oxb_ : OxbSt} {ros_ : RosSt} {pwr_ : PwrSt} {clk_ : ClkSt} {rif_ : RifSt} {bundles_ : BundleSt} {mems_ : MemSt} {jtag_ : JtagSt} {pending_ : List Instr} {free_ : Nat}
    (h : Kept xs s0 s) (h1 : pending_ = s.pending) (h2 : ros_.fuses = s.ros.fuses) (h3 : host_.held = s.host.held)
    (h4 : cfg_.staging = s.cfg.staging ∨ cfg_.staging = none) (h5 : bundles_.staging = s.bundles.staging ∨ bundles_.staging = none)
    (h6 : field_.chans = s.field.chans) (h7 : dev_.st = s.dev.st) (h8 : oxb_.openRecs = s.oxb.openRecs ∨ oxb_.openRecs = []) :
    Kept xs s0 ⟨time_, dev_, host_, hs_, faults_, pairs_, cfg_, params_, cells_, field_, weir_, oxb_, ros_, pwr_, clk_, rif_, bundles_, mems_, jtag_, pending_, free_⟩ := h.upd h1 h2 h3 h4 h5 h6 h7 h8

/-- The tags that a change may add, in another order, or more of them. -/
theorem Kept.permute {ys : List Nat} (h : Kept xs s0 s) (e : xs.Subperm ys) : Kept ys s0 s :=
  ⟨h.pending, h.fuses, h.prog, h.held.trans ((List.subperm_append_right _).2 e), h.container, h.bundle, h.opens, h.run, h.records⟩

theorem Kept.via (u : State) (h : Kept xs s0 u) (f : Kept xs s0 u → Kept xs s0 t) : Kept xs s0 t := f h

theorem Kept.ite {c : Prop} [Decidable c] (h1 : c → Kept xs s0 s) (h2 : ¬c → Kept xs s0 t) : Kept xs s0 (if c then s else t) := by
  split
  · exact h1 ‹_›
  · exact h2 ‹_›

/-- A change of HOST alone that holds no more tags. -/
theorem Kept.host (h : Kept xs s0 s) (x : HostSt) (e : x.held.Subperm s.host.held) : Kept xs s0 { s with host := x } :=
  ⟨h.pending, h.fuses, h.prog, e.trans h.held, h.container, h.bundle, h.opens, h.run, h.records⟩

theorem Kept.foldl {α : Type} (f : State → α → State) (l : List α) (hf : ∀ s a, Kept xs s0 s → Kept xs s0 (f s a)) (h : Kept xs s0 s) :
    Kept xs s0 (l.foldl f s) := by
  induction l generalizing s with
  | nil => exact h
  | cons a l ih => exact ih (hf s a h)

theorem setView_kept (h : Kept xs s0 s) (sd : Side) (c : Nat) (v : View) :
    Kept xs s0 (s.setView sd c v) := by
  unfold State.setView
  exact h.lit rfl rfl rfl (.inl rfl) (.inl rfl) rfl rfl (.inl rfl)

theorem setGview_kept (h : Kept xs s0 s) (sd : Side) (g : Nat) (v : GroupView) :
    Kept xs s0 (s.setGview sd g v) := by
  unfold State.setGview
  exact h.lit rfl rfl rfl (.inl rfl) (.inl rfl) rfl rfl (.inl rfl)

theorem setDie_kept (h : Kept xs s0 s) (g : Nat) (d : DieSt) :
    Kept xs s0 (s.setDie g d) := by
  unfold State.setDie
  exact h.lit rfl rfl rfl (.inl rfl) (.inl rfl) rfl rfl (.inl rfl)

theorem setChan_kept (h : Kept xs s0 s) (c : Nat) (d : DieCh) (ha : d.swA = true → (s.chan c).swA = true)
    (hb : d.swB = true → (s.chan c).swB = true) : Kept xs s0 (s.setChan c d) := by
  refine ⟨h.pending, h.fuses, h.prog, h.held, h.container, h.bundle, fun c' sd hs => h.opens c' sd ?_, h.run, h.records⟩
  have e : (s.setChan c d).chan c' = if c' = c then d else s.chan c' := tab_getD_put _ _ _ _ _
  cases sd <;> simp only [switchOf, e] at hs ⊢ <;> split at hs <;> simp_all

theorem setCoupler_kept (h : Kept xs s0 s) (c : Nat) (d : Coupler) :
    Kept xs s0 (s.setCoupler c d) := by
  unfold State.setCoupler
  exact h.lit rfl rfl rfl (.inl rfl) (.inl rfl) rfl rfl (.inl rfl)

theorem setCell_kept (h : Kept xs s0 s) (sd : Side) (n : Nat) (v : CellSide) :
    Kept xs s0 (s.setCell sd n v) := by
  unfold State.setCell
  exact h.lit rfl rfl rfl (.inl rfl) (.inl rfl) rfl rfl (.inl rfl)

theorem setLine_kept (h : Kept xs s0 s) (n : Nat) (v : CellLine) :
    Kept xs s0 (s.setLine n v) := by
  unfold State.setLine
  exact h.lit rfl rfl rfl (.inl rfl) (.inl rfl) rfl rfl (.inl rfl)

theorem setPair_kept (h : Kept xs s0 s) (p : Nat) (v : PairSt) :
    Kept xs s0 (s.setPair p v) := by
  unfold State.setPair
  exact h.lit rfl rfl rfl (.inl rfl) (.inl rfl) rfl rfl (.inl rfl)

theorem setConn_kept (h : Kept xs s0 s) (sd : Side) (n : Nat) (v : Conn) :
    Kept xs s0 (s.setConn sd n v) := by
  unfold State.setConn
  exact h.lit rfl rfl rfl (.inl rfl) (.inl rfl) rfl rfl (.inl rfl)

theorem setPort_kept (h : Kept xs s0 s) (k : Nat) (v : Port) :
    Kept xs s0 (s.setPort k v) := by
  unfold State.setPort
  exact h.lit rfl rfl rfl (.inl rfl) (.inl rfl) rfl rfl (.inl rfl)

theorem setWindow_kept (h : Kept xs s0 s) (sd : Side) (k : Nat) (v : List Descriptor) :
    Kept xs s0 (s.setWindow sd k v) := by
  unfold State.setWindow
  exact h.lit rfl rfl rfl (.inl rfl) (.inl rfl) rfl rfl (.inl rfl)

theorem setWords_kept (h : Kept xs s0 s) (b : Nat) (w : FaultWords) :
    Kept xs s0 (s.setWords b w) := by
  unfold State.setWords
  exact h.lit rfl rfl rfl (.inl rfl) (.inl rfl) rfl rfl (.inl rfl)

theorem setUnit_kept (h : Kept xs s0 s) (u : Nat) (r : UnitRec) :
    Kept xs s0 (s.setUnit u r) := by
  unfold State.setUnit
  repeat' first
    | with_reducible assumption
    | with_reducible refine Kept.ite (fun _ => ?_) (fun _ => ?_)
    | ((with_reducible refine Kept.lit ?_ rfl ?_ ?_ ?_ ?_ ?_ ?_ ?_) <;>
        [skip; rfl; rfl; (first | exact .inl rfl | exact .inr rfl | exact .inl (setBank_staging _ _ _));
         (first | exact .inl rfl | exact .inr rfl | exact .inl (bundle_setBank_staging _ _ _)); rfl; rfl;
         (first | exact .inl rfl | exact .inr rfl)];
       first
        | with_reducible assumption)

theorem setCov_kept (h : Kept xs s0 s) (c : Nat) (v : Coverage) :
    Kept xs s0 (s.setCov c v) := by
  unfold State.setCov
  repeat' first
    | with_reducible assumption
    | with_reducible refine Kept.ite (fun _ => ?_) (fun _ => ?_)
    | ((with_reducible refine Kept.lit ?_ rfl ?_ ?_ ?_ ?_ ?_ ?_ ?_) <;>
        [skip; rfl; rfl; (first | exact .inl rfl | exact .inr rfl | exact .inl (setBank_staging _ _ _));
         (first | exact .inl rfl | exact .inr rfl | exact .inl (bundle_setBank_staging _ _ _)); rfl; rfl;
         (first | exact .inl rfl | exact .inr rfl)];
       first
        | with_reducible assumption)

theorem restartCoupler_kept (h : Kept xs s0 s) (c : Nat) (k : Nat) :
    Kept xs s0 (s.restartCoupler c k) := by
  unfold State.restartCoupler
  repeat' first
    | with_reducible assumption
    | ((fail_if_no_progress extract_lets +onlyGivenNames s1); refine Kept.via s1 ?_ ?_ <;> [(dsimp -zeta only [s1]; clear s1); (clear_value s1; intro _)])
    | ((fail_if_no_progress extract_lets +onlyGivenNames x); first | (dsimp -zeta only [x]; clear x) | clear_value x)
    | with_reducible apply setView_kept
    | with_reducible apply setCoupler_kept
    | ((with_reducible refine Kept.lit ?_ rfl ?_ ?_ ?_ ?_ ?_ ?_ ?_) <;>
        [skip; rfl; rfl; (first | exact .inl rfl | exact .inr rfl | exact .inl (setBank_staging _ _ _));
         (first | exact .inl rfl | exact .inr rfl | exact .inl (bundle_setBank_staging _ _ _)); rfl; rfl;
         (first | exact .inl rfl | exact .inr rfl)];
       first
        | with_reducible assumption
        | with_reducible apply setView_kept
        | with_reducible apply setCoupler_kept)
    | dsimp -zeta only

theorem domainOn_kept (h : Kept xs s0 s) (d : Nat) :
    Kept xs s0 (s.domainOn d) := by
  unfold State.domainOn
  exact h.lit rfl rfl rfl (.inl rfl) (.inl rfl) rfl rfl (.inl rfl)

theorem domainOff_kept (h : Kept xs s0 s) (d : Nat) :
    Kept xs s0 (s.domainOff d) := by
  unfold State.domainOff
  exact h.lit rfl rfl rfl (.inl rfl) (.inl rfl) rfl rfl (.inl rfl)

theorem checkpoint_kept (h : Kept xs s0 s) (p : Nat) (queue : List Nat) :
    Kept xs s0 (s.checkpoint p queue) := by
  unfold State.checkpoint
  repeat' first
    | with_reducible assumption
    | ((fail_if_no_progress extract_lets +onlyGivenNames s1); refine Kept.via s1 ?_ ?_ <;> [(dsimp -zeta only [s1]; clear s1); (clear_value s1; intro _)])
    | ((fail_if_no_progress extract_lets +onlyGivenNames x); first | (dsimp -zeta only [x]; clear x) | clear_value x)
    | with_reducible apply setPair_kept
    | with_reducible refine Kept.ite (fun _ => ?_) (fun _ => ?_)
    | with_reducible refine Kept.foldl _ _ (fun _ _ _ => ?_) ?_
    | ((with_reducible refine Kept.lit ?_ rfl ?_ ?_ ?_ ?_ ?_ ?_ ?_) <;>
        [skip; rfl; rfl; (first | exact .inl rfl | exact .inr rfl | exact .inl (setBank_staging _ _ _));
         (first | exact .inl rfl | exact .inr rfl | exact .inl (bundle_setBank_staging _ _ _)); rfl; rfl;
         (first | exact .inl rfl | exact .inr rfl)];
       first
        | with_reducible assumption
        | with_reducible apply setPair_kept
        | with_reducible refine Kept.foldl _ _ (fun _ _ _ => ?_) ?_)
    | split
    | dsimp -zeta only

theorem closeSlots_kept (h : Kept xs s0 s) :
    Kept xs s0 (s.closeSlots) := by
  unfold State.closeSlots
  repeat' first
    | with_reducible assumption
    | ((fail_if_no_progress extract_lets +onlyGivenNames s1); refine Kept.via s1 ?_ ?_ <;> [(dsimp -zeta only [s1]; clear s1); (clear_value s1; intro _)])
    | ((fail_if_no_progress extract_lets +onlyGivenNames x); first | (dsimp -zeta only [x]; clear x) | clear_value x)
    | with_reducible apply setPair_kept
    | with_reducible refine Kept.ite (fun _ => ?_) (fun _ => ?_)
    | with_reducible refine Kept.foldl _ _ (fun _ _ _ => ?_) ?_
    | ((with_reducible refine Kept.lit ?_ rfl ?_ ?_ ?_ ?_ ?_ ?_ ?_) <;>
        [skip; rfl; rfl; (first | exact .inl rfl | exact .inr rfl | exact .inl (setBank_staging _ _ _));
         (first | exact .inl rfl | exact .inr rfl | exact .inl (bundle_setBank_staging _ _ _)); rfl; rfl;
         (first | exact .inl rfl | exact .inr rfl)];
       first
        | with_reducible assumption
        | with_reducible apply setPair_kept
        | with_reducible refine Kept.foldl _ _ (fun _ _ _ => ?_) ?_)
    | split
    | dsimp -zeta only

theorem addLoad_kept (h : Kept xs s0 s) (p used : Nat) :
    Kept xs s0 (s.addLoad p used) := by
  unfold State.addLoad
  repeat' first
    | with_reducible assumption
    | ((fail_if_no_progress extract_lets +onlyGivenNames s1); refine Kept.via s1 ?_ ?_ <;> [(dsimp -zeta only [s1]; clear s1); (clear_value s1; intro _)])
    | ((fail_if_no_progress extract_lets +onlyGivenNames x); first | (dsimp -zeta only [x]; clear x) | clear_value x)
    | with_reducible apply setPair_kept
    | with_reducible refine Kept.ite (fun _ => ?_) (fun _ => ?_)
    | with_reducible refine Kept.foldl _ _ (fun _ _ _ => ?_) ?_
    | ((with_reducible refine Kept.lit ?_ rfl ?_ ?_ ?_ ?_ ?_ ?_ ?_) <;>
        [skip; rfl; rfl; (first | exact .inl rfl | exact .inr rfl | exact .inl (setBank_staging _ _ _));
         (first | exact .inl rfl | exact .inr rfl | exact .inl (bundle_setBank_staging _ _ _)); rfl; rfl;
         (first | exact .inl rfl | exact .inr rfl)];
       first
        | with_reducible assumption
        | with_reducible apply setPair_kept
        | with_reducible refine Kept.foldl _ _ (fun _ _ _ => ?_) ?_)
    | split
    | dsimp -zeta only

theorem touchLines_kept (h : Kept xs s0 s) (ns : List Nat) :
    Kept xs s0 (s.touchLines ns) := by
  unfold State.touchLines
  repeat' first
    | with_reducible assumption
    | with_reducible apply setLine_kept
    | with_reducible refine Kept.foldl _ _ (fun _ _ _ => ?_) ?_
    | ((with_reducible refine Kept.lit ?_ rfl ?_ ?_ ?_ ?_ ?_ ?_ ?_) <;>
        [skip; rfl; rfl; (first | exact .inl rfl | exact .inr rfl | exact .inl (setBank_staging _ _ _));
         (first | exact .inl rfl | exact .inr rfl | exact .inl (bundle_setBank_staging _ _ _)); rfl; rfl;
         (first | exact .inl rfl | exact .inr rfl)];
       first
        | with_reducible assumption
        | with_reducible apply setLine_kept
        | with_reducible refine Kept.foldl _ _ (fun _ _ _ => ?_) ?_)
    | dsimp -zeta only

/-- The pair of a record. -/
def pairOf (o : OpenRec) : Nat × Nat := (o.rcd.code, o.rcd.inst)

theorem setOpen_kept (h : Kept xs s0 s) (o : OpenRec) : Kept xs s0 (s.setOpen o) := by
  refine ⟨h.pending, h.fuses, h.prog, h.held, h.container, h.bundle, h.opens, h.run, fun x => ?_⟩
  have hs : (s.oxb.openRecs.map pairOf).Nodup := h.records x
  have same : ∀ y : OpenRec, (y.rcd.code == o.rcd.code && y.rcd.inst == o.rcd.inst) = true ↔ pairOf y = pairOf o := by
    intro y; simp [pairOf]
  show ((s.setOpen o).oxb.openRecs.map pairOf).Nodup
  unfold State.setOpen
  dsimp only
  split
  · have e : (s.oxb.openRecs.map (fun y => if y.rcd.code == o.rcd.code && y.rcd.inst == o.rcd.inst then o else y)).map pairOf
        = s.oxb.openRecs.map pairOf := by
      rw [List.map_map]
      refine List.map_congr_left (fun y _ => ?_)
      simp only [Function.comp_apply]
      split
      · exact ((same y).1 ‹_›).symm
      · rfl
    rw [e]
    exact hs
  · rename_i hn
    rw [List.map_append, List.map_singleton, List.nodup_append]
    refine ⟨hs, List.nodup_singleton _, ?_⟩
    intro a ha b hb hab
    rw [List.mem_singleton] at hb
    subst hb hab
    obtain ⟨y, hy, e⟩ := List.mem_map.1 ha
    exact hn (List.any_eq_true.2 ⟨y, hy, (same y).2 e⟩)

theorem flushQueue_kept (h : Kept xs s0 s) (k : FlushKind) :
    Kept xs s0 (s.flushQueue k) := by
  unfold State.flushQueue
  repeat' first
    | with_reducible assumption
    | ((fail_if_no_progress extract_lets +onlyGivenNames s1); refine Kept.via s1 ?_ ?_ <;> [(dsimp -zeta only [s1]; clear s1); (clear_value s1; intro _)])
    | ((fail_if_no_progress extract_lets +onlyGivenNames x); first | (dsimp -zeta only [x]; clear x) | clear_value x)
    | with_reducible refine Kept.ite (fun _ => ?_) (fun _ => ?_)
    | with_reducible refine Kept.foldl _ _ (fun _ _ _ => ?_) ?_
    | ((with_reducible refine Kept.lit ?_ rfl ?_ ?_ ?_ ?_ ?_ ?_ ?_) <;>
        [skip; rfl; rfl; (first | exact .inl rfl | exact .inr rfl | exact .inl (setBank_staging _ _ _));
         (first | exact .inl rfl | exact .inr rfl | exact .inl (bundle_setBank_staging _ _ _)); rfl; rfl;
         (first | exact .inl rfl | exact .inr rfl)];
       first
        | with_reducible assumption
        | with_reducible refine Kept.foldl _ _ (fun _ _ _ => ?_) ?_)
    | split
    | dsimp -zeta only

theorem waitForSlot_kept (h : Kept xs s0 s) (code inst fl : Nat) :
    Kept xs s0 (s.waitForSlot code inst fl) := by
  unfold State.waitForSlot
  repeat' first
    | with_reducible assumption
    | ((fail_if_no_progress extract_lets +onlyGivenNames s1); refine Kept.via s1 ?_ ?_ <;> [(dsimp -zeta only [s1]; clear s1); (clear_value s1; intro _)])
    | ((fail_if_no_progress extract_lets +onlyGivenNames x); first | (dsimp -zeta only [x]; clear x) | clear_value x)
    | with_reducible refine Kept.ite (fun _ => ?_) (fun _ => ?_)
    | with_reducible refine Kept.foldl _ _ (fun _ _ _ => ?_) ?_
    | ((with_reducible refine Kept.lit ?_ rfl ?_ ?_ ?_ ?_ ?_ ?_ ?_) <;>
        [skip; rfl; rfl; (first | exact .inl rfl | exact .inr rfl | exact .inl (setBank_staging _ _ _));
         (first | exact .inl rfl | exact .inr rfl | exact .inl (bundle_setBank_staging _ _ _)); rfl; rfl;
         (first | exact .inl rfl | exact .inr rfl)];
       first
        | with_reducible assumption
        | with_reducible refine Kept.foldl _ _ (fun _ _ _ => ?_) ?_)
    | split
    | dsimp -zeta only

theorem closeRecord_kept (h : Kept xs s0 s) (o : OpenRec) (fl : Nat) : Kept xs s0 (s.closeRecord o fl) := by
  unfold State.closeRecord
  repeat' first
    | with_reducible assumption
    | ((fail_if_no_progress extract_lets +onlyGivenNames s1); refine Kept.via s1 ?_ ?_ <;> [(dsimp -zeta only [s1]; clear s1); (clear_value s1; intro _)])
    | ((fail_if_no_progress extract_lets +onlyGivenNames x); first | (dsimp -zeta only [x]; clear x) | clear_value x)
    | with_reducible apply flushQueue_kept
    | with_reducible apply waitForSlot_kept
    | with_reducible refine Kept.ite (fun _ => ?_) (fun _ => ?_)
    | exact ⟨h.pending, h.fuses, h.prog, h.held, h.container, h.bundle, h.opens, h.run,
        fun x => List.Sublist.nodup (List.Sublist.map _ List.filter_sublist) (h.records x)⟩
    | dsimp -zeta only

theorem closeAll_kept (h : Kept xs s0 s) (fl : Nat) :
    Kept xs s0 (s.closeAll fl) := by
  unfold State.closeAll
  repeat' first
    | with_reducible assumption
    | ((fail_if_no_progress extract_lets +onlyGivenNames s1); refine Kept.via s1 ?_ ?_ <;> [(dsimp -zeta only [s1]; clear s1); (clear_value s1; intro _)])
    | ((fail_if_no_progress extract_lets +onlyGivenNames x); first | (dsimp -zeta only [x]; clear x) | clear_value x)
    | with_reducible apply closeRecord_kept
    | with_reducible refine Kept.ite (fun _ => ?_) (fun _ => ?_)
    | with_reducible refine Kept.foldl _ _ (fun _ _ _ => ?_) ?_
    | ((with_reducible refine Kept.lit ?_ rfl ?_ ?_ ?_ ?_ ?_ ?_ ?_) <;>
        [skip; rfl; rfl; (first | exact .inl rfl | exact .inr rfl | exact .inl (setBank_staging _ _ _));
         (first | exact .inl rfl | exact .inr rfl | exact .inl (bundle_setBank_staging _ _ _)); rfl; rfl;
         (first | exact .inl rfl | exact .inr rfl)];
       first
        | with_reducible assumption
        | with_reducible apply closeRecord_kept
        | with_reducible refine Kept.foldl _ _ (fun _ _ _ => ?_) ?_)
    | split
    | dsimp -zeta only

theorem closeWaiting_kept (h : Kept xs s0 s) :
    Kept xs s0 (s.closeWaiting) := by
  unfold State.closeWaiting
  repeat' first
    | with_reducible assumption
    | ((fail_if_no_progress extract_lets +onlyGivenNames s1); refine Kept.via s1 ?_ ?_ <;> [(dsimp -zeta only [s1]; clear s1); (clear_value s1; intro _)])
    | ((fail_if_no_progress extract_lets +onlyGivenNames x); first | (dsimp -zeta only [x]; clear x) | clear_value x)
    | with_reducible apply closeRecord_kept
    | with_reducible refine Kept.ite (fun _ => ?_) (fun _ => ?_)
    | with_reducible refine Kept.foldl _ _ (fun _ _ _ => ?_) ?_
    | ((with_reducible refine Kept.lit ?_ rfl ?_ ?_ ?_ ?_ ?_ ?_ ?_) <;>
        [skip; rfl; rfl; (first | exact .inl rfl | exact .inr rfl | exact .inl (setBank_staging _ _ _));
         (first | exact .inl rfl | exact .inr rfl | exact .inl (bundle_setBank_staging _ _ _)); rfl; rfl;
         (first | exact .inl rfl | exact .inr rfl)];
       first
        | with_reducible assumption
        | with_reducible apply closeRecord_kept
        | with_reducible refine Kept.foldl _ _ (fun _ _ _ => ?_) ?_)
    | split
    | dsimp -zeta only

theorem closeDue_kept (h : Kept xs s0 s) (code inst : Nat) :
    Kept xs s0 (s.closeDue code inst) := by
  unfold State.closeDue
  repeat' first
    | with_reducible assumption
    | ((fail_if_no_progress extract_lets +onlyGivenNames s1); refine Kept.via s1 ?_ ?_ <;> [(dsimp -zeta only [s1]; clear s1); (clear_value s1; intro _)])
    | ((fail_if_no_progress extract_lets +onlyGivenNames x); first | (dsimp -zeta only [x]; clear x) | clear_value x)
    | with_reducible apply closeRecord_kept
    | with_reducible refine Kept.ite (fun _ => ?_) (fun _ => ?_)
    | with_reducible refine Kept.foldl _ _ (fun _ _ _ => ?_) ?_
    | ((with_reducible refine Kept.lit ?_ rfl ?_ ?_ ?_ ?_ ?_ ?_ ?_) <;>
        [skip; rfl; rfl; (first | exact .inl rfl | exact .inr rfl | exact .inl (setBank_staging _ _ _));
         (first | exact .inl rfl | exact .inr rfl | exact .inl (bundle_setBank_staging _ _ _)); rfl; rfl;
         (first | exact .inl rfl | exact .inr rfl)];
       first
        | with_reducible assumption
        | with_reducible apply closeRecord_kept
        | with_reducible refine Kept.foldl _ _ (fun _ _ _ => ?_) ?_)
    | split
    | dsimp -zeta only

theorem makeWay_kept (h : Kept xs s0 s) (code inst : Nat) :
    Kept xs s0 (s.makeWay code inst) := by
  unfold State.makeWay
  repeat' first
    | with_reducible assumption
    | ((fail_if_no_progress extract_lets +onlyGivenNames s1); refine Kept.via s1 ?_ ?_ <;> [(dsimp -zeta only [s1]; clear s1); (clear_value s1; intro _)])
    | ((fail_if_no_progress extract_lets +onlyGivenNames x); first | (dsimp -zeta only [x]; clear x) | clear_value x)
    | with_reducible apply closeDue_kept
    | with_reducible refine Kept.ite (fun _ => ?_) (fun _ => ?_)
    | with_reducible refine Kept.foldl _ _ (fun _ _ _ => ?_) ?_
    | ((with_reducible refine Kept.lit ?_ rfl ?_ ?_ ?_ ?_ ?_ ?_ ?_) <;>
        [skip; rfl; rfl; (first | exact .inl rfl | exact .inr rfl | exact .inl (setBank_staging _ _ _));
         (first | exact .inl rfl | exact .inr rfl | exact .inl (bundle_setBank_staging _ _ _)); rfl; rfl;
         (first | exact .inl rfl | exact .inr rfl)];
       first
        | with_reducible assumption
        | with_reducible apply closeDue_kept
        | with_reducible refine Kept.foldl _ _ (fun _ _ _ => ?_) ?_)
    | split
    | dsimp -zeta only

theorem oxbCount_kept (h : Kept xs s0 s) (code inst sev : Nat) (injected : Bool) :
    Kept xs s0 (s.oxbCount code inst sev injected).1 := by
  unfold State.oxbCount
  exact setOpen_kept (makeWay_kept h code inst) _

theorem oxbBin_kept (h : Kept xs s0 s) (l : LiveInst) :
    Kept xs s0 (s.oxbBin l) := by
  unfold State.oxbBin
  repeat' first
    | with_reducible assumption
    | ((fail_if_no_progress extract_lets +onlyGivenNames s1); refine Kept.via s1 ?_ ?_ <;> [(dsimp -zeta only [s1]; clear s1); (clear_value s1; intro _)])
    | ((fail_if_no_progress extract_lets +onlyGivenNames x); first | (dsimp -zeta only [x]; clear x) | clear_value x)
    | with_reducible apply setOpen_kept
    | with_reducible refine Kept.ite (fun _ => ?_) (fun _ => ?_)
    | with_reducible refine Kept.foldl _ _ (fun _ _ _ => ?_) ?_
    | ((with_reducible refine Kept.lit ?_ rfl ?_ ?_ ?_ ?_ ?_ ?_ ?_) <;>
        [skip; rfl; rfl; (first | exact .inl rfl | exact .inr rfl | exact .inl (setBank_staging _ _ _));
         (first | exact .inl rfl | exact .inr rfl | exact .inl (bundle_setBank_staging _ _ _)); rfl; rfl;
         (first | exact .inl rfl | exact .inr rfl)];
       first
        | with_reducible assumption
        | with_reducible apply setOpen_kept
        | with_reducible refine Kept.foldl _ _ (fun _ _ _ => ?_) ?_)
    | split
    | dsimp -zeta only

theorem flushTrigger_kept (h : Kept xs s0 s) (k : FlushKind) :
    Kept xs s0 (s.flushTrigger k) := by
  unfold State.flushTrigger
  repeat' first
    | with_reducible assumption
    | ((fail_if_no_progress extract_lets +onlyGivenNames s1); refine Kept.via s1 ?_ ?_ <;> [(dsimp -zeta only [s1]; clear s1); (clear_value s1; intro _)])
    | ((fail_if_no_progress extract_lets +onlyGivenNames x); first | (dsimp -zeta only [x]; clear x) | clear_value x)
    | with_reducible apply flushQueue_kept
    | with_reducible apply closeAll_kept
    | with_reducible refine Kept.ite (fun _ => ?_) (fun _ => ?_)
    | with_reducible refine Kept.foldl _ _ (fun _ _ _ => ?_) ?_
    | ((with_reducible refine Kept.lit ?_ rfl ?_ ?_ ?_ ?_ ?_ ?_ ?_) <;>
        [skip; rfl; rfl; (first | exact .inl rfl | exact .inr rfl | exact .inl (setBank_staging _ _ _));
         (first | exact .inl rfl | exact .inr rfl | exact .inl (bundle_setBank_staging _ _ _)); rfl; rfl;
         (first | exact .inl rfl | exact .inr rfl)];
       first
        | with_reducible assumption
        | with_reducible apply flushQueue_kept
        | with_reducible apply closeAll_kept
        | with_reducible refine Kept.foldl _ _ (fun _ _ _ => ?_) ?_)
    | split
    | dsimp -zeta only

theorem marker_kept (h : Kept xs s0 s) (code : Nat) (inst : Nat) (lo : Int) (hi : Int) :
    Kept xs s0 (s.marker code inst lo hi) := by
  unfold State.marker
  exact closeRecord_kept (setOpen_kept h _) _ _

theorem reopen_kept (h : Kept xs s0 s) (r : OxbRec) : Kept xs s0 (s.reopen r) := by
  unfold State.reopen
  exact waitForSlot_kept (setOpen_kept h _) _ _ _

theorem requeue_kept (h : Kept xs s0 s) (rest : List OxbRec) :
    Kept xs s0 (s.requeue rest) := by
  unfold State.requeue
  repeat' first
    | with_reducible assumption
    | ((fail_if_no_progress extract_lets +onlyGivenNames s1); refine Kept.via s1 ?_ ?_ <;> [(dsimp -zeta only [s1]; clear s1); (clear_value s1; intro _)])
    | ((fail_if_no_progress extract_lets +onlyGivenNames x); first | (dsimp -zeta only [x]; clear x) | clear_value x)
    | with_reducible apply reopen_kept
    | with_reducible refine Kept.ite (fun _ => ?_) (fun _ => ?_)
    | with_reducible refine Kept.foldl _ _ (fun _ _ _ => ?_) ?_
    | ((with_reducible refine Kept.lit ?_ rfl ?_ ?_ ?_ ?_ ?_ ?_ ?_) <;>
        [skip; rfl; rfl; (first | exact .inl rfl | exact .inr rfl | exact .inl (setBank_staging _ _ _));
         (first | exact .inl rfl | exact .inr rfl | exact .inl (bundle_setBank_staging _ _ _)); rfl; rfl;
         (first | exact .inl rfl | exact .inr rfl)];
       first
        | with_reducible assumption
        | with_reducible apply reopen_kept
        | with_reducible refine Kept.foldl _ _ (fun _ _ _ => ?_) ?_)
    | split
    | dsimp -zeta only

theorem sample_kept (h : Kept xs s0 s) (code : Nat) (inst : Nat) (v : Int) :
    Kept xs s0 (s.sample code inst v) := by
  unfold State.sample
  exact setOpen_kept (makeWay_kept h _ _) _

theorem flushForFault_kept (h : Kept xs s0 s) :
    Kept xs s0 (s.flushForFault) := by
  unfold State.flushForFault
  repeat' first
    | with_reducible assumption
    | ((fail_if_no_progress extract_lets +onlyGivenNames s1); refine Kept.via s1 ?_ ?_ <;> [(dsimp -zeta only [s1]; clear s1); (clear_value s1; intro _)])
    | ((fail_if_no_progress extract_lets +onlyGivenNames x); first | (dsimp -zeta only [x]; clear x) | clear_value x)
    | with_reducible apply flushTrigger_kept
    | with_reducible refine Kept.ite (fun _ => ?_) (fun _ => ?_)
    | with_reducible refine Kept.foldl _ _ (fun _ _ _ => ?_) ?_
    | ((with_reducible refine Kept.lit ?_ rfl ?_ ?_ ?_ ?_ ?_ ?_ ?_) <;>
        [skip; rfl; rfl; (first | exact .inl rfl | exact .inr rfl | exact .inl (setBank_staging _ _ _));
         (first | exact .inl rfl | exact .inr rfl | exact .inl (bundle_setBank_staging _ _ _)); rfl; rfl;
         (first | exact .inl rfl | exact .inr rfl)];
       first
        | with_reducible assumption
        | with_reducible apply flushTrigger_kept
        | with_reducible refine Kept.foldl _ _ (fun _ _ _ => ?_) ?_)
    | split
    | dsimp -zeta only

theorem respond_kept (h : Kept xs s0 s) (r : Request) (status : Nat) (payload : List Byte) :
    Kept (r.tag :: xs) s0 (s.respond r status payload) := by
  refine ⟨h.pending, h.fuses, h.prog, ?_, h.container, h.bundle, h.opens, h.run, h.records⟩
  have e : (s.respond r status payload).host.held.Perm (r.tag :: s.host.held) := by
    unfold State.respond HostSt.held
    simp only [List.map_append, List.map_cons, List.map_nil, Request.response]
    rw [← List.append_assoc]
    exact List.perm_append_singleton _ _
  exact e.subperm.trans ((List.subperm_cons _).2 h.held)

theorem wait_kept (h : Kept xs s0 s) (r : Request) (on : WaitFor) : Kept (r.tag :: xs) s0 (s.wait r on) := by
  refine ⟨h.pending, h.fuses, h.prog, ?_, h.container, h.bundle, h.opens, h.run, h.records⟩
  have e : (s.wait r on).host.held.Perm (r.tag :: s.host.held) := by
    unfold State.wait HostSt.held
    simp only [List.map_append, List.map_cons, List.map_nil, List.append_assoc, List.singleton_append]
    have := List.perm_middle (a := r.tag) (l₁ := s.host.queue.map (·.tag) ++ s.host.waiting.map (·.req.tag)) (l₂ := s.host.rsp.map (·.tag))
    simpa only [List.append_assoc] using this
  exact e.subperm.trans ((List.subperm_cons _).2 h.held)

/-- Responses to a list of waiting requests. -/
theorem foldl_respond (l : List Waiting) (u : State) (status : Nat) (payload : List Byte) :
    l.foldl (fun s w => s.respond w.req status payload) u =
      { u with host := { u.host with rsp := u.host.rsp ++ l.map (fun w => w.req.response u.host.session status payload) } } := by
  induction l generalizing u with
  | nil => simp
  | cons w l ih => rw [List.foldl_cons, ih]; simp [State.respond]

/-- Everything that answering the requests which wait on one thing does. -/
theorem answer_eq (s : State) (on : WaitFor) (status : Nat) (payload : List Byte) :
    s.answer on status payload = { s with host := { s.host with
      waiting := s.host.waiting.filter (fun w => !(w.on == on)),
      rsp := s.host.rsp ++ (s.host.waiting.filter (fun w => w.on == on)).map (fun w => w.req.response s.host.session status payload) } } := by
  unfold State.answer
  rw [foldl_respond]

theorem answer_kept (h : Kept xs s0 s) (on : WaitFor) (status : Nat) (payload : List Byte) :
    Kept xs s0 (s.answer on status payload) := by
  rw [answer_eq]
  refine h.host _ (List.Perm.subperm ?_)
  have e : (s.host.waiting.filter (fun w => w.on == on) ++ s.host.waiting.filter (fun w => !(w.on == on))).Perm s.host.waiting :=
    List.filter_append_perm _ _
  have e2 := (e.map (·.req.tag)).append_left (s.host.queue.map (·.tag))
  have e3 := e2.append_right (s.host.rsp.map (·.tag))
  refine List.Perm.trans ?_ e3
  simp only [HostSt.held, List.map_append, List.map_map, List.append_assoc, Function.comp_def, Request.response]
  refine List.Perm.append_left _ ?_
  rw [← List.append_assoc, ← List.append_assoc]
  exact List.perm_append_comm.trans (by rw [List.append_assoc])

theorem transportReset_kept (h : Kept xs s0 s) : Kept xs s0 s.transportReset :=
  h.host _ List.nil_subperm

theorem romService_kept (h : Kept xs s0 s) :
    Kept xs s0 (s.romService) := by
  unfold State.romService
  exact h.lit rfl rfl rfl (.inl rfl) (.inl rfl) rfl rfl (.inl rfl)

end Sys2Proof.Laws
end

