-- ==== Sys2Proof/Laws/KeptFaults.lean ====
section
/-! SUPPORT. What the operations of the fault status keep. -/

set_option linter.unusedTactic false
set_option linter.unreachableTactic false
set_option linter.unusedVariables false
set_option linter.unusedSimpArgs false

namespace Sys2Proof.Laws

open Sys2Proof.Machine Sys2Proof.Safety

variable {xs : List Nat} {s0 s t : State}
theorem endShadows_kept (h : Kept xs s0 s) : Kept xs s0 s.endShadows := by
  unfold State.endShadows
  exact h.lit rfl rfl rfl (.inl rfl) (.inl rfl) rfl rfl (.inl rfl)

theorem enter_kept (h : Kept xs s0 s) {st : DevState} (hst : st = .run → s0.dev.st = .run) (reason : Nat) : Kept xs s0 (s.enter st reason) := by
  have fin : ∀ u : State, Kept xs s0 u → Kept xs s0 (
      if st = .run ∨ st = .safe ∨ st = .latched then (u.answer .run stOK u.statePayload).answer .restart stOK u.statePayload
      else if st = .maintenance then u.answer .restart stOK u.statePayload else u) :=
    fun u hu => Kept.ite (fun _ => answer_kept (answer_kept hu _ _ _) _ _ _)
      (fun _ => Kept.ite (fun _ => answer_kept hu _ _ _) (fun _ => hu))
  have base : ∀ u : State, Kept xs s0 u → ∀ (d : DevSt) (tm : TimeSt) (x : HostSt) (c : ConfigSt), d.st = st → x.held = u.host.held →
      c.staging = u.cfg.staging → Kept xs s0 { u with dev := d, time := tm, host := x, cfg := c } := fun u k d tm x c hd hx hc =>
    ⟨k.pending, k.fuses, k.prog, hx ▸ k.held, fun z => hc ▸ k.container z, k.bundle, k.opens, fun hr => hst (hd ▸ hr), k.records⟩
  have hx : ∀ u : State, (if u.on 8 then { u.host with evState := true } else u.host).held = u.host.held := fun u => by split <;> rfl
  have hu : Kept xs s0 (if s.dev.st = .run then s.endShadows else s) := Kept.ite (fun _ => endShadows_kept h) (fun _ => h)
  unfold State.enter
  refine Kept.ite (fun _ => h) (fun _ => fin _ ?_)
  exact Kept.ite (fun _ => answer_kept (by refine base _ hu _ _ _ _ ?_ (hx _) ?_ <;> rfl) _ _ _)
    (fun _ => by refine base _ hu _ _ _ _ ?_ (hx _) ?_ <;> rfl)

theorem latchNow_kept (h : Kept xs s0 s) :
    Kept xs s0 (s.latchNow) := by
  unfold State.latchNow
  repeat' first
    | with_reducible assumption
    | with_reducible apply flushTrigger_kept
    | with_reducible apply enter_kept _ (fun e => by cases e)
    | with_reducible refine Kept.ite (fun _ => ?_) (fun _ => ?_)
    | ((with_reducible refine Kept.lit ?_ rfl ?_ ?_ ?_ ?_ ?_ ?_ ?_) <;>
        [skip; rfl; rfl; (first | exact .inl rfl | exact .inr rfl | exact .inl (setBank_staging _ _ _));
         (first | exact .inl rfl | exact .inr rfl | exact .inl (bundle_setBank_staging _ _ _)); rfl; rfl;
         (first | exact .inl rfl | exact .inr rfl)];
       first
        | with_reducible assumption
        | with_reducible apply flushTrigger_kept
        | with_reducible apply enter_kept _ (fun e => by cases e))

theorem safeNow_kept (h : Kept xs s0 s) (reason : Nat) :
    Kept xs s0 (s.safeNow reason) := by
  unfold State.safeNow
  repeat' first
    | with_reducible assumption
    | ((fail_if_no_progress extract_lets +onlyGivenNames s1); refine Kept.via s1 ?_ ?_ <;> [(dsimp -zeta only [s1]; clear s1); (clear_value s1; intro _)])
    | ((fail_if_no_progress extract_lets +onlyGivenNames x); first | (dsimp -zeta only [x]; clear x) | clear_value x)
    | with_reducible apply enter_kept _ (fun e => by cases e)
    | with_reducible refine Kept.ite (fun _ => ?_) (fun _ => ?_)
    | ((with_reducible refine Kept.lit ?_ rfl ?_ ?_ ?_ ?_ ?_ ?_ ?_) <;>
        [skip; rfl; rfl; (first | exact .inl rfl | exact .inr rfl | exact .inl (setBank_staging _ _ _));
         (first | exact .inl rfl | exact .inr rfl | exact .inl (bundle_setBank_staging _ _ _)); rfl; rfl;
         (first | exact .inl rfl | exact .inr rfl)];
       first
        | with_reducible assumption
        | with_reducible apply enter_kept _ (fun e => by cases e))
    | dsimp -zeta only

theorem pairReset_kept (h : Kept xs s0 s) (p : Nat) (cell : Option Nat) :
    Kept xs s0 (s.pairReset p cell) := by
  unfold State.pairReset
  repeat' first
    | with_reducible assumption
    | with_reducible apply setPair_kept
    | ((with_reducible refine Kept.lit ?_ rfl ?_ ?_ ?_ ?_ ?_ ?_ ?_) <;>
        [skip; rfl; rfl; (first | exact .inl rfl | exact .inr rfl | exact .inl (setBank_staging _ _ _));
         (first | exact .inl rfl | exact .inr rfl | exact .inl (bundle_setBank_staging _ _ _)); rfl; rfl;
         (first | exact .inl rfl | exact .inr rfl)];
       first
        | with_reducible assumption
        | with_reducible apply setPair_kept)

theorem weirReset_kept (h : Kept xs s0 s) :
    Kept xs s0 (s.weirReset) := by
  unfold State.weirReset
  repeat' first
    | with_reducible assumption
    | ((fail_if_no_progress extract_lets +onlyGivenNames s1); refine Kept.via s1 ?_ ?_ <;> [(dsimp -zeta only [s1]; clear s1); (clear_value s1; intro _)])
    | ((fail_if_no_progress extract_lets +onlyGivenNames x); first | (dsimp -zeta only [x]; clear x) | clear_value x)
    | with_reducible apply setPort_kept
    | with_reducible refine Kept.foldl _ _ (fun _ _ _ => ?_) ?_
    | ((with_reducible refine Kept.lit ?_ rfl ?_ ?_ ?_ ?_ ?_ ?_ ?_) <;>
        [skip; rfl; rfl; (first | exact .inl rfl | exact .inr rfl | exact .inl (setBank_staging _ _ _));
         (first | exact .inl rfl | exact .inr rfl | exact .inl (bundle_setBank_staging _ _ _)); rfl; rfl;
         (first | exact .inl rfl | exact .inr rfl)];
       first
        | with_reducible assumption
        | with_reducible apply setPort_kept
        | with_reducible refine Kept.foldl _ _ (fun _ _ _ => ?_) ?_)
    | dsimp -zeta only

theorem groupRestart_kept (h : Kept xs s0 s) (g : Nat) :
    Kept xs s0 (s.groupRestart g) := by
  unfold State.groupRestart
  repeat' first
    | with_reducible assumption
    | ((fail_if_no_progress extract_lets +onlyGivenNames s1); refine Kept.via s1 ?_ ?_ <;> [(dsimp -zeta only [s1]; clear s1); (clear_value s1; intro _)])
    | ((fail_if_no_progress extract_lets +onlyGivenNames x); first | (dsimp -zeta only [x]; clear x) | clear_value x)
    | with_reducible apply restartCoupler_kept
    | with_reducible refine Kept.foldl _ _ (fun _ _ _ => ?_) ?_
    | with_reducible refine Kept.ite (fun _ => ?_) (fun _ => ?_)
    | dsimp -zeta only

theorem passToOxbow_kept (h : Kept xs s0 s) (b i inst sev : Nat) (injected : Bool) :
    Kept xs s0 (s.passToOxbow b i inst sev injected).1 := by
  unfold State.passToOxbow
  repeat' first
    | exact oxbCount_kept h _ _ _ _
    | exact h.lit rfl rfl rfl (.inl rfl) (.inl rfl) rfl rfl (.inl rfl)
    | split

theorem faultHandler_kept (h : Kept xs s0 s) (b : Nat) :
    Kept xs s0 (s.faultHandler b) := by
  unfold State.faultHandler
  repeat' first
    | with_reducible assumption
    | ((fail_if_no_progress extract_lets +onlyGivenNames s1); refine Kept.via s1 ?_ ?_ <;> [(dsimp -zeta only [s1]; clear s1); (clear_value s1; intro _)])
    | ((fail_if_no_progress extract_lets +onlyGivenNames x); first | (dsimp -zeta only [x]; clear x) | clear_value x)
    | with_reducible refine Kept.ite (fun _ => ?_) (fun _ => ?_)
    | with_reducible refine Kept.foldl _ _ (fun _ _ _ => ?_) ?_
    | ((with_reducible refine Kept.lit ?_ rfl ?_ ?_ ?_ ?_ ?_ ?_ ?_) <;>
        [skip; rfl; rfl; (first | exact .inl rfl | exact .inr rfl | exact .inl (setBank_staging _ _ _));
         (first | exact .inl rfl | exact .inr rfl | exact .inl (bundle_setBank_staging _ _ _)); rfl; rfl;
         (first | exact .inl rfl | exact .inr rfl)];
       first
        | with_reducible assumption
        | with_reducible refine Kept.foldl _ _ (fun _ _ _ => ?_) ?_)
    | split
    | dsimp -zeta only

theorem react_kept (h : Kept xs s0 s) (b i inst sev reacts : Nat) :
    Kept xs s0 (s.react b i inst sev reacts) := by
  unfold State.react
  repeat' first
    | with_reducible assumption
    | ((fail_if_no_progress extract_lets +onlyGivenNames s1); refine Kept.via s1 ?_ ?_ <;> [(dsimp -zeta only [s1]; clear s1); (clear_value s1; intro _)])
    | ((fail_if_no_progress extract_lets +onlyGivenNames x); first | (dsimp -zeta only [x]; clear x) | clear_value x)
    | with_reducible apply faultHandler_kept
    | with_reducible refine Kept.ite (fun _ => ?_) (fun _ => ?_)
    | with_reducible refine Kept.foldl _ _ (fun _ _ _ => ?_) ?_
    | ((with_reducible refine Kept.lit ?_ rfl ?_ ?_ ?_ ?_ ?_ ?_ ?_) <;>
        [skip; rfl; rfl; (first | exact .inl rfl | exact .inr rfl | exact .inl (setBank_staging _ _ _));
         (first | exact .inl rfl | exact .inr rfl | exact .inl (bundle_setBank_staging _ _ _)); rfl; rfl;
         (first | exact .inl rfl | exact .inr rfl)];
       first
        | with_reducible assumption
        | with_reducible apply faultHandler_kept
        | with_reducible refine Kept.foldl _ _ (fun _ _ _ => ?_) ?_)
    | split
    | dsimp -zeta only

theorem severityEffect_kept (h : Kept xs s0 s) (b : Nat) (i : Nat) (inst : Nat) (sev : Nat) :
    Kept xs s0 (s.severityEffect b i inst sev) := by
  unfold State.severityEffect
  repeat' first
    | with_reducible assumption
    | ((fail_if_no_progress extract_lets +onlyGivenNames s1); refine Kept.via s1 ?_ ?_ <;> [(dsimp -zeta only [s1]; clear s1); (clear_value s1; intro _)])
    | ((fail_if_no_progress extract_lets +onlyGivenNames x); first | (dsimp -zeta only [x]; clear x) | clear_value x)
    | with_reducible apply touchLines_kept
    | with_reducible apply flushForFault_kept
    | with_reducible apply latchNow_kept
    | with_reducible apply safeNow_kept
    | with_reducible refine Kept.ite (fun _ => ?_) (fun _ => ?_)
    | ((with_reducible refine Kept.lit ?_ rfl ?_ ?_ ?_ ?_ ?_ ?_ ?_) <;>
        [skip; rfl; rfl; (first | exact .inl rfl | exact .inr rfl | exact .inl (setBank_staging _ _ _));
         (first | exact .inl rfl | exact .inr rfl | exact .inl (bundle_setBank_staging _ _ _)); rfl; rfl;
         (first | exact .inl rfl | exact .inr rfl)];
       first
        | with_reducible assumption
        | with_reducible apply touchLines_kept
        | with_reducible apply flushForFault_kept
        | with_reducible apply latchNow_kept
        | with_reducible apply safeNow_kept)
    | split
    | dsimp -zeta only

theorem crst_kept (h : Kept xs s0 s) :
    Kept xs s0 (s.crst) := by
  unfold State.crst
  repeat' first
    | with_reducible assumption
    | ((fail_if_no_progress extract_lets +onlyGivenNames s1); refine Kept.via s1 ?_ ?_ <;> [(dsimp -zeta only [s1]; clear s1); (clear_value s1; intro _)])
    | ((fail_if_no_progress extract_lets +onlyGivenNames x); first | (dsimp -zeta only [x]; clear x) | clear_value x)
    | with_reducible apply touchLines_kept
    | with_reducible apply flushTrigger_kept
    | ((with_reducible refine Kept.lit ?_ rfl ?_ ?_ ?_ ?_ ?_ ?_ ?_) <;>
        [skip; rfl; rfl; (first | exact .inl rfl | exact .inr rfl | exact .inl (setBank_staging _ _ _));
         (first | exact .inl rfl | exact .inr rfl | exact .inl (bundle_setBank_staging _ _ _)); rfl; rfl;
         (first | exact .inl rfl | exact .inr rfl)];
       first
        | with_reducible assumption
        | with_reducible apply touchLines_kept
        | with_reducible apply flushTrigger_kept)
    | dsimp -zeta only

theorem takeReactions_kept {brst : State → Nat → State} (hb : ∀ {s : State} (_ : Kept xs s0 s) (b : Nat), Kept xs s0 (brst s b))
    (h : Kept xs s0 s) (b i inst sev reacts : Nat) : Kept xs s0 (State.takeReactions brst s b i inst sev reacts) := by
  unfold State.takeReactions
  have e := severityEffect_kept (react_kept h b i inst sev reacts) b i inst sev
  have f := Kept.ite (c := reacts / rBRST % 2 = 1 ∧ brstAvailable b) (fun _ => hb e b) (fun _ => e)
  exact Kept.ite (fun _ => crst_kept f) (fun _ => f)

theorem extend_kept (h : Kept xs s0 s) (src : Source) (b i inst who : Nat) : Kept xs s0 (s.extend src b i inst who) := by
  unfold State.extend
  refine Kept.via (if src.cond then s else (s.passToOxbow b i inst (s.effective b i inst).1 false).1) ?_ (fun h' => ?_)
  · exact Kept.ite (fun _ => h) (fun _ => passToOxbow_kept h _ _ _ _ _)
  · exact h'.lit rfl rfl rfl (.inl rfl) (.inl rfl) rfl rfl (.inl rfl)

theorem raiseWith_kept {brst : State → Nat → State} (hb : ∀ {s : State} (_ : Kept xs s0 s) (b : Nat), Kept xs s0 (brst s b))
    (h : Kept xs s0 s) (b i inst who : Nat) : Kept xs s0 (State.raiseWith brst s b i inst who) := by
  unfold State.raiseWith
  split
  · exact h
  · refine Kept.ite (fun _ => h) (fun _ => Kept.ite (fun _ => extend_kept h _ _ _ _ _) (fun _ => ?_))
    refine takeReactions_kept hb (Kept.lit (setWords_kept (passToOxbow_kept h b i inst (s.effective b i inst).1 false) b _)
      rfl rfl rfl (.inl rfl) (.inl rfl) rfl rfl (.inl rfl)) _ _ _ _ _

theorem abortSlice_kept (h : Kept xs s0 s) : Kept xs s0 s.abortSlice := by
  unfold State.abortSlice
  repeat' first
    | with_reducible assumption
    | ((fail_if_no_progress extract_lets +onlyGivenNames s1); refine Kept.via s1 ?_ ?_ <;> [(dsimp -zeta only [s1]; clear s1); (clear_value s1; intro _)])
    | ((fail_if_no_progress extract_lets +onlyGivenNames x); first | (dsimp -zeta only [x]; clear x) | clear_value x)
    | with_reducible apply raiseWith_kept (fun h _ => h)
    | with_reducible apply setUnit_kept
    | ((with_reducible refine Kept.lit ?_ rfl ?_ ?_ ?_ ?_ ?_ ?_ ?_) <;>
        [skip; rfl; rfl; (first | exact .inl rfl | exact .inr rfl | exact .inl (setBank_staging _ _ _));
         (first | exact .inl rfl | exact .inr rfl | exact .inl (bundle_setBank_staging _ _ _)); rfl; rfl;
         (first | exact .inl rfl | exact .inr rfl)];
       first
        | with_reducible assumption
        | with_reducible apply setUnit_kept)
    | split
    | dsimp -zeta only

theorem abortUnitSlice_kept (h : Kept xs s0 s) (g : Nat) :
    Kept xs s0 (s.abortUnitSlice g) := by
  unfold State.abortUnitSlice
  repeat' first
    | with_reducible assumption
    | ((fail_if_no_progress extract_lets +onlyGivenNames s1); refine Kept.via s1 ?_ ?_ <;> [(dsimp -zeta only [s1]; clear s1); (clear_value s1; intro _)])
    | ((fail_if_no_progress extract_lets +onlyGivenNames x); first | (dsimp -zeta only [x]; clear x) | clear_value x)
    | with_reducible apply raiseWith_kept (fun h _ => h)
    | with_reducible apply groupRestart_kept
    | with_reducible apply answer_kept
    | with_reducible apply setUnit_kept
    | with_reducible refine Kept.ite (fun _ => ?_) (fun _ => ?_)
    | with_reducible refine Kept.foldl _ _ (fun _ _ _ => ?_) ?_
    | ((with_reducible refine Kept.lit ?_ rfl ?_ ?_ ?_ ?_ ?_ ?_ ?_) <;>
        [skip; rfl; rfl; (first | exact .inl rfl | exact .inr rfl | exact .inl (setBank_staging _ _ _));
         (first | exact .inl rfl | exact .inr rfl | exact .inl (bundle_setBank_staging _ _ _)); rfl; rfl;
         (first | exact .inl rfl | exact .inr rfl)];
       first
        | with_reducible assumption
        | with_reducible apply raiseWith_kept (fun h _ => h)
        | with_reducible apply groupRestart_kept
        | with_reducible apply answer_kept
        | with_reducible apply setUnit_kept
        | with_reducible refine Kept.foldl _ _ (fun _ _ _ => ?_) ?_)
    | split
    | dsimp -zeta only

theorem rifReset_kept (h : Kept xs s0 s) : Kept xs s0 s.rifReset := by
  unfold State.rifReset
  exact Kept.foldl _ _ (fun _ _ h => abortUnitSlice_kept h _) (abortSlice_kept h)

theorem brst_kept (h : Kept xs s0 s) (b : Nat) :
    Kept xs s0 (s.brst b) := by
  unfold State.brst
  repeat' first
    | with_reducible assumption
    | ((fail_if_no_progress extract_lets +onlyGivenNames s1); refine Kept.via s1 ?_ ?_ <;> [(dsimp -zeta only [s1]; clear s1); (clear_value s1; intro _)])
    | ((fail_if_no_progress extract_lets +onlyGivenNames x); first | (dsimp -zeta only [x]; clear x) | clear_value x)
    | with_reducible apply touchLines_kept
    | with_reducible apply flushTrigger_kept
    | with_reducible apply transportReset_kept
    | with_reducible apply setPair_kept
    | with_reducible apply pairReset_kept
    | with_reducible apply weirReset_kept
    | with_reducible apply groupRestart_kept
    | with_reducible apply rifReset_kept
    | with_reducible refine Kept.ite (fun _ => ?_) (fun _ => ?_)
    | with_reducible refine Kept.foldl _ _ (fun _ _ _ => ?_) ?_
    | ((with_reducible refine Kept.lit ?_ rfl ?_ ?_ ?_ ?_ ?_ ?_ ?_) <;>
        [skip; rfl; rfl; (first | exact .inl rfl | exact .inr rfl | exact .inl (setBank_staging _ _ _));
         (first | exact .inl rfl | exact .inr rfl | exact .inl (bundle_setBank_staging _ _ _)); rfl; rfl;
         (first | exact .inl rfl | exact .inr rfl)];
       first
        | with_reducible assumption
        | with_reducible apply touchLines_kept
        | with_reducible apply flushTrigger_kept
        | with_reducible apply transportReset_kept
        | with_reducible apply setPair_kept
        | with_reducible apply pairReset_kept
        | with_reducible apply weirReset_kept
        | with_reducible apply groupRestart_kept
        | with_reducible apply rifReset_kept
        | with_reducible refine Kept.foldl _ _ (fun _ _ _ => ?_) ?_)
    | dsimp -zeta only

theorem event_kept (h : Kept xs s0 s) (b i inst : Nat) : Kept xs s0 (s.event b i inst) :=
  raiseWith_kept (fun h b => brst_kept h b) h _ _ _ _

theorem raise_kept (h : Kept xs s0 s) (b i inst who : Nat) : Kept xs s0 (s.raise b i inst who) :=
  raiseWith_kept (fun h b => brst_kept h b) h _ _ _ _

theorem inject_kept (h : Kept xs s0 s) (b i inst : Nat) : Kept xs s0 (s.inject b i inst) := by
  unfold State.inject
  split
  · exact h
  · exact Kept.ite (fun _ => h) (fun _ => takeReactions_kept (fun h b => brst_kept h b)
      (setWords_kept (passToOxbow_kept h _ _ _ _ _) _ _) _ _ _ _ _)

theorem purgeHolds_kept (h : Kept xs s0 s) :
    Kept xs s0 (s.purgeHolds) := by
  unfold State.purgeHolds
  exact h.lit rfl rfl rfl (.inl rfl) (.inl rfl) rfl rfl (.inl rfl)

theorem fall_kept (h : Kept xs s0 s) (l : LiveInst) :
    Kept xs s0 (s.fall l) := by
  unfold State.fall
  repeat' first
    | with_reducible assumption
    | ((fail_if_no_progress extract_lets +onlyGivenNames s1); refine Kept.via s1 ?_ ?_ <;> [(dsimp -zeta only [s1]; clear s1); (clear_value s1; intro _)])
    | ((fail_if_no_progress extract_lets +onlyGivenNames x); first | (dsimp -zeta only [x]; clear x) | clear_value x)
    | with_reducible apply oxbBin_kept
    | with_reducible apply purgeHolds_kept
    | with_reducible refine Kept.ite (fun _ => ?_) (fun _ => ?_)
    | with_reducible refine Kept.foldl _ _ (fun _ _ _ => ?_) ?_
    | ((with_reducible refine Kept.lit ?_ rfl ?_ ?_ ?_ ?_ ?_ ?_ ?_) <;>
        [skip; rfl; rfl; (first | exact .inl rfl | exact .inr rfl | exact .inl (setBank_staging _ _ _));
         (first | exact .inl rfl | exact .inr rfl | exact .inl (bundle_setBank_staging _ _ _)); rfl; rfl;
         (first | exact .inl rfl | exact .inr rfl)];
       first
        | with_reducible assumption
        | with_reducible apply oxbBin_kept
        | with_reducible apply purgeHolds_kept
        | with_reducible refine Kept.foldl _ _ (fun _ _ _ => ?_) ?_)
    | split
    | dsimp -zeta only

theorem clear_kept (h : Kept xs s0 s) (b : Nat) (i : Nat) (inst : Nat) (who : Nat) :
    Kept xs s0 (s.clear b i inst who) := by
  unfold State.clear
  repeat' first
    | with_reducible assumption
    | ((fail_if_no_progress extract_lets +onlyGivenNames s1); refine Kept.via s1 ?_ ?_ <;> [(dsimp -zeta only [s1]; clear s1); (clear_value s1; intro _)])
    | ((fail_if_no_progress extract_lets +onlyGivenNames x); first | (dsimp -zeta only [x]; clear x) | clear_value x)
    | with_reducible apply fall_kept
    | with_reducible refine Kept.ite (fun _ => ?_) (fun _ => ?_)
    | ((with_reducible refine Kept.lit ?_ rfl ?_ ?_ ?_ ?_ ?_ ?_ ?_) <;>
        [skip; rfl; rfl; (first | exact .inl rfl | exact .inr rfl | exact .inl (setBank_staging _ _ _));
         (first | exact .inl rfl | exact .inr rfl | exact .inl (bundle_setBank_staging _ _ _)); rfl; rfl;
         (first | exact .inl rfl | exact .inr rfl)];
       first
        | with_reducible assumption
        | with_reducible apply fall_kept)
    | split
    | dsimp -zeta only

theorem condition_kept (h : Kept xs s0 s) (b : Nat) (i : Nat) (inst : Nat) (who : Nat) (on : Bool) :
    Kept xs s0 (s.condition b i inst who on) := by
  unfold State.condition
  repeat' first
    | with_reducible assumption
    | with_reducible apply raise_kept
    | with_reducible apply clear_kept
    | with_reducible refine Kept.ite (fun _ => ?_) (fun _ => ?_)

end Sys2Proof.Laws
end

