-- ==== Sys2Proof/Laws/KeptHost.lean ====
section
/-! SUPPORT. What the operations of Weir, of a transaction and of the mailbox keep. -/

set_option linter.unusedTactic false
set_option linter.unreachableTactic false
set_option linter.unusedVariables false
set_option linter.unusedSimpArgs false

namespace Sys2Proof.Laws

open Sys2Proof.Machine Sys2Proof.Safety

variable {xs : List Nat} {s0 s t : State}
theorem startTx_kept (h : Kept xs s0 s) (k : Nat) :
    Kept xs s0 (s.startTx k) := by
  unfold State.startTx
  repeat' first
    | with_reducible assumption
    | ((fail_if_no_progress extract_lets +onlyGivenNames s1); refine Kept.via s1 ?_ ?_ <;> [(dsimp -zeta only [s1]; clear s1); (clear_value s1; intro _)])
    | ((fail_if_no_progress extract_lets +onlyGivenNames x); first | (dsimp -zeta only [x]; clear x) | clear_value x)
    | with_reducible apply setPort_kept
    | with_reducible refine Kept.ite (fun _ => ?_) (fun _ => ?_)
    | ((with_reducible refine Kept.lit ?_ rfl ?_ ?_ ?_ ?_ ?_ ?_ ?_) <;>
        [skip; rfl; rfl; (first | exact .inl rfl | exact .inr rfl | exact .inl (setBank_staging _ _ _));
         (first | exact .inl rfl | exact .inr rfl | exact .inl (bundle_setBank_staging _ _ _)); rfl; rfl;
         (first | exact .inl rfl | exact .inr rfl)];
       first
        | with_reducible assumption
        | with_reducible apply setPort_kept)
    | split
    | dsimp -zeta only

theorem queueFrame_kept (h : Kept xs s0 s) (k : Nat) (f : TxFrame) :
    Kept xs s0 (s.queueFrame k f) := by
  unfold State.queueFrame
  repeat' first
    | with_reducible assumption
    | ((fail_if_no_progress extract_lets +onlyGivenNames s1); refine Kept.via s1 ?_ ?_ <;> [(dsimp -zeta only [s1]; clear s1); (clear_value s1; intro _)])
    | ((fail_if_no_progress extract_lets +onlyGivenNames x); first | (dsimp -zeta only [x]; clear x) | clear_value x)
    | with_reducible apply setPort_kept
    | with_reducible apply event_kept
    | with_reducible apply startTx_kept
    | with_reducible refine Kept.foldl _ _ (fun _ _ _ => ?_) ?_
    | with_reducible refine Kept.ite (fun _ => ?_) (fun _ => ?_)
    | ((with_reducible refine Kept.lit ?_ rfl ?_ ?_ ?_ ?_ ?_ ?_ ?_) <;>
        [skip; rfl; rfl; (first | exact .inl rfl | exact .inr rfl | exact .inl (setBank_staging _ _ _));
         (first | exact .inl rfl | exact .inr rfl | exact .inl (bundle_setBank_staging _ _ _)); rfl; rfl;
         (first | exact .inl rfl | exact .inr rfl)];
       first
        | with_reducible assumption
        | with_reducible apply setPort_kept
        | with_reducible apply event_kept
        | with_reducible apply startTx_kept
        | with_reducible refine Kept.foldl _ _ (fun _ _ _ => ?_) ?_)
    | dsimp -zeta only

theorem dropLink_kept (h : Kept xs s0 s) (k : Nat) :
    Kept xs s0 (s.dropLink k) := by
  unfold State.dropLink
  repeat' first
    | with_reducible assumption
    | ((fail_if_no_progress extract_lets +onlyGivenNames s1); refine Kept.via s1 ?_ ?_ <;> [(dsimp -zeta only [s1]; clear s1); (clear_value s1; intro _)])
    | ((fail_if_no_progress extract_lets +onlyGivenNames x); first | (dsimp -zeta only [x]; clear x) | clear_value x)
    | with_reducible apply setPort_kept
    | with_reducible apply condition_kept
    | ((with_reducible refine Kept.lit ?_ rfl ?_ ?_ ?_ ?_ ?_ ?_ ?_) <;>
        [skip; rfl; rfl; (first | exact .inl rfl | exact .inr rfl | exact .inl (setBank_staging _ _ _));
         (first | exact .inl rfl | exact .inr rfl | exact .inl (bundle_setBank_staging _ _ _)); rfl; rfl;
         (first | exact .inl rfl | exact .inr rfl)];
       first
        | with_reducible assumption
        | with_reducible apply setPort_kept
        | with_reducible apply condition_kept)
    | dsimp -zeta only

theorem raiseLink_kept (h : Kept xs s0 s) (k : Nat) :
    Kept xs s0 (s.raiseLink k) := by
  unfold State.raiseLink
  repeat' first
    | with_reducible assumption
    | with_reducible apply setPort_kept
    | with_reducible apply clear_kept
    | with_reducible refine Kept.ite (fun _ => ?_) (fun _ => ?_)
    | ((with_reducible refine Kept.lit ?_ rfl ?_ ?_ ?_ ?_ ?_ ?_ ?_) <;>
        [skip; rfl; rfl; (first | exact .inl rfl | exact .inr rfl | exact .inl (setBank_staging _ _ _));
         (first | exact .inl rfl | exact .inr rfl | exact .inl (bundle_setBank_staging _ _ _)); rfl; rfl;
         (first | exact .inl rfl | exact .inr rfl)];
       first
        | with_reducible assumption
        | with_reducible apply setPort_kept
        | with_reducible apply clear_kept)

theorem restartPort_kept (h : Kept xs s0 s) (k : Nat) :
    Kept xs s0 (s.restartPort k) := by
  unfold State.restartPort
  repeat' first
    | with_reducible assumption
    | ((fail_if_no_progress extract_lets +onlyGivenNames s1); refine Kept.via s1 ?_ ?_ <;> [(dsimp -zeta only [s1]; clear s1); (clear_value s1; intro _)])
    | ((fail_if_no_progress extract_lets +onlyGivenNames x); first | (dsimp -zeta only [x]; clear x) | clear_value x)
    | with_reducible apply setPort_kept
    | with_reducible apply setWindow_kept
    | with_reducible apply dropLink_kept
    | ((with_reducible refine Kept.lit ?_ rfl ?_ ?_ ?_ ?_ ?_ ?_ ?_) <;>
        [skip; rfl; rfl; (first | exact .inl rfl | exact .inr rfl | exact .inl (setBank_staging _ _ _));
         (first | exact .inl rfl | exact .inr rfl | exact .inl (bundle_setBank_staging _ _ _)); rfl; rfl;
         (first | exact .inl rfl | exact .inr rfl)];
       first
        | with_reducible assumption
        | with_reducible apply setPort_kept
        | with_reducible apply setWindow_kept
        | with_reducible apply dropLink_kept)
    | dsimp -zeta only

theorem weirStart_kept (h : Kept xs s0 s) :
    Kept xs s0 (s.weirStart) := by
  unfold State.weirStart
  repeat' first
    | with_reducible assumption
    | ((fail_if_no_progress extract_lets +onlyGivenNames s1); refine Kept.via s1 ?_ ?_ <;> [(dsimp -zeta only [s1]; clear s1); (clear_value s1; intro _)])
    | ((fail_if_no_progress extract_lets +onlyGivenNames x); first | (dsimp -zeta only [x]; clear x) | clear_value x)
    | with_reducible apply domainOn_kept
    | with_reducible apply restartPort_kept
    | with_reducible refine Kept.ite (fun _ => ?_) (fun _ => ?_)
    | with_reducible refine Kept.foldl _ _ (fun _ _ _ => ?_) ?_
    | ((with_reducible refine Kept.lit ?_ rfl ?_ ?_ ?_ ?_ ?_ ?_ ?_) <;>
        [skip; rfl; rfl; (first | exact .inl rfl | exact .inr rfl | exact .inl (setBank_staging _ _ _));
         (first | exact .inl rfl | exact .inr rfl | exact .inl (bundle_setBank_staging _ _ _)); rfl; rfl;
         (first | exact .inl rfl | exact .inr rfl)];
       first
        | with_reducible assumption
        | with_reducible apply domainOn_kept
        | with_reducible apply restartPort_kept
        | with_reducible refine Kept.foldl _ _ (fun _ _ _ => ?_) ?_)
    | split
    | dsimp -zeta only

theorem pauseTx_kept (h : Kept xs s0 s) (k : Nat) (edge : Bool) :
    Kept xs s0 (s.pauseTx k edge) := by
  unfold State.pauseTx
  repeat' first
    | with_reducible assumption
    | ((fail_if_no_progress extract_lets +onlyGivenNames s1); refine Kept.via s1 ?_ ?_ <;> [(dsimp -zeta only [s1]; clear s1); (clear_value s1; intro _)])
    | ((fail_if_no_progress extract_lets +onlyGivenNames x); first | (dsimp -zeta only [x]; clear x) | clear_value x)
    | with_reducible apply setPort_kept
    | with_reducible apply startTx_kept
    | with_reducible refine Kept.ite (fun _ => ?_) (fun _ => ?_)
    | ((with_reducible refine Kept.lit ?_ rfl ?_ ?_ ?_ ?_ ?_ ?_ ?_) <;>
        [skip; rfl; rfl; (first | exact .inl rfl | exact .inr rfl | exact .inl (setBank_staging _ _ _));
         (first | exact .inl rfl | exact .inr rfl | exact .inl (bundle_setBank_staging _ _ _)); rfl; rfl;
         (first | exact .inl rfl | exact .inr rfl)];
       first
        | with_reducible assumption
        | with_reducible apply setPort_kept
        | with_reducible apply startTx_kept)
    | dsimp -zeta only

theorem releaseBuffers_kept (h : Kept xs s0 s) (k : Nat) :
    Kept xs s0 (s.releaseBuffers k) := by
  unfold State.releaseBuffers
  repeat' first
    | with_reducible assumption
    | ((fail_if_no_progress extract_lets +onlyGivenNames s1); refine Kept.via s1 ?_ ?_ <;> [(dsimp -zeta only [s1]; clear s1); (clear_value s1; intro _)])
    | ((fail_if_no_progress extract_lets +onlyGivenNames x); first | (dsimp -zeta only [x]; clear x) | clear_value x)
    | with_reducible apply setPort_kept
    | ((with_reducible refine Kept.lit ?_ rfl ?_ ?_ ?_ ?_ ?_ ?_ ?_) <;>
        [skip; rfl; rfl; (first | exact .inl rfl | exact .inr rfl | exact .inl (setBank_staging _ _ _));
         (first | exact .inl rfl | exact .inr rfl | exact .inl (bundle_setBank_staging _ _ _)); rfl; rfl;
         (first | exact .inl rfl | exact .inr rfl)];
       first
        | with_reducible assumption
        | with_reducible apply setPort_kept)
    | dsimp -zeta only

theorem copyDescriptors_kept (h : Kept xs s0 s) (k : Nat) :
    Kept xs s0 (s.copyDescriptors k) := by
  unfold State.copyDescriptors
  repeat' first
    | with_reducible assumption
    | ((fail_if_no_progress extract_lets +onlyGivenNames s1); refine Kept.via s1 ?_ ?_ <;> [(dsimp -zeta only [s1]; clear s1); (clear_value s1; intro _)])
    | ((fail_if_no_progress extract_lets +onlyGivenNames x); first | (dsimp -zeta only [x]; clear x) | clear_value x)
    | with_reducible apply setPort_kept
    | with_reducible apply setWindow_kept
    | with_reducible refine Kept.foldl _ _ (fun _ _ _ => ?_) ?_
    | with_reducible refine Kept.ite (fun _ => ?_) (fun _ => ?_)
    | ((with_reducible refine Kept.lit ?_ rfl ?_ ?_ ?_ ?_ ?_ ?_ ?_) <;>
        [skip; rfl; rfl; (first | exact .inl rfl | exact .inr rfl | exact .inl (setBank_staging _ _ _));
         (first | exact .inl rfl | exact .inr rfl | exact .inl (bundle_setBank_staging _ _ _)); rfl; rfl;
         (first | exact .inl rfl | exact .inr rfl)];
       first
        | with_reducible assumption
        | with_reducible apply setPort_kept
        | with_reducible apply setWindow_kept
        | with_reducible refine Kept.foldl _ _ (fun _ _ _ => ?_) ?_)
    | dsimp -zeta only

theorem setLearned_kept (h : Kept xs s0 s) (sd : Side) (l : List Learned) :
    Kept xs s0 (s.setLearned sd l) := by
  unfold State.setLearned
  repeat' first
    | with_reducible assumption
    | ((with_reducible refine Kept.lit ?_ rfl ?_ ?_ ?_ ?_ ?_ ?_ ?_) <;>
        [skip; rfl; rfl; (first | exact .inl rfl | exact .inr rfl | exact .inl (setBank_staging _ _ _));
         (first | exact .inl rfl | exact .inr rfl | exact .inl (bundle_setBank_staging _ _ _)); rfl; rfl;
         (first | exact .inl rfl | exact .inr rfl)];
       first
        | with_reducible assumption)
    | split
    | dsimp -zeta only

theorem learn_kept (h : Kept xs s0 s) (sd : Side) (partner : Nat) (port : Nat) (mac : Nat) (ip : Option Nat) :
    Kept xs s0 (s.learn sd partner port mac ip) := by
  unfold State.learn
  repeat' first
    | with_reducible assumption
    | ((fail_if_no_progress extract_lets +onlyGivenNames s1); refine Kept.via s1 ?_ ?_ <;> [(dsimp -zeta only [s1]; clear s1); (clear_value s1; intro _)])
    | ((fail_if_no_progress extract_lets +onlyGivenNames x); first | (dsimp -zeta only [x]; clear x) | clear_value x)
    | with_reducible apply setLearned_kept
    | dsimp -zeta only

theorem seeUnknown_kept (h : Kept xs s0 s) (sd : Side) (identity : Nat) (port : Nat) :
    Kept xs s0 (s.seeUnknown sd identity port) := by
  unfold State.seeUnknown
  repeat' first
    | with_reducible assumption
    | ((fail_if_no_progress extract_lets +onlyGivenNames s1); refine Kept.via s1 ?_ ?_ <;> [(dsimp -zeta only [s1]; clear s1); (clear_value s1; intro _)])
    | ((fail_if_no_progress extract_lets +onlyGivenNames x); first | (dsimp -zeta only [x]; clear x) | clear_value x)
    | ((with_reducible refine Kept.lit ?_ rfl ?_ ?_ ?_ ?_ ?_ ?_ ?_) <;>
        [skip; rfl; rfl; (first | exact .inl rfl | exact .inr rfl | exact .inl (setBank_staging _ _ _));
         (first | exact .inl rfl | exact .inr rfl | exact .inl (bundle_setBank_staging _ _ _)); rfl; rfl;
         (first | exact .inl rfl | exact .inr rfl)];
       first
        | with_reducible assumption)
    | split
    | dsimp -zeta only

theorem connSources_kept (h : Kept xs s0 s) (sd : Side) (n : Nat) (partner : Nat) :
    Kept xs s0 (s.connSources sd n partner) := by
  unfold State.connSources
  repeat' first
    | with_reducible assumption
    | ((fail_if_no_progress extract_lets +onlyGivenNames s1); refine Kept.via s1 ?_ ?_ <;> [(dsimp -zeta only [s1]; clear s1); (clear_value s1; intro _)])
    | ((fail_if_no_progress extract_lets +onlyGivenNames x); first | (dsimp -zeta only [x]; clear x) | clear_value x)
    | with_reducible apply condition_kept
    | with_reducible refine Kept.foldl _ _ (fun _ _ _ => ?_) ?_
    | dsimp -zeta only

theorem connEnter_kept (h : Kept xs s0 s) (sd : Side) (n : Nat) (st : ConnState) :
    Kept xs s0 (s.connEnter sd n st) := by
  unfold State.connEnter
  repeat' first
    | with_reducible assumption
    | ((fail_if_no_progress extract_lets +onlyGivenNames s1); refine Kept.via s1 ?_ ?_ <;> [(dsimp -zeta only [s1]; clear s1); (clear_value s1; intro _)])
    | ((fail_if_no_progress extract_lets +onlyGivenNames x); first | (dsimp -zeta only [x]; clear x) | clear_value x)
    | with_reducible apply setConn_kept
    | with_reducible apply connSources_kept
    | with_reducible refine Kept.ite (fun _ => ?_) (fun _ => ?_)
    | ((with_reducible refine Kept.lit ?_ rfl ?_ ?_ ?_ ?_ ?_ ?_ ?_) <;>
        [skip; rfl; rfl; (first | exact .inl rfl | exact .inr rfl | exact .inl (setBank_staging _ _ _));
         (first | exact .inl rfl | exact .inr rfl | exact .inl (bundle_setBank_staging _ _ _)); rfl; rfl;
         (first | exact .inl rfl | exact .inr rfl)];
       first
        | with_reducible assumption
        | with_reducible apply setConn_kept
        | with_reducible apply connSources_kept)
    | dsimp -zeta only

theorem connReset_kept (h : Kept xs s0 s) (n : Nat) :
    Kept xs s0 (s.connReset n) := by
  unfold State.connReset
  repeat' first
    | with_reducible assumption
    | ((fail_if_no_progress extract_lets +onlyGivenNames s1); refine Kept.via s1 ?_ ?_ <;> [(dsimp -zeta only [s1]; clear s1); (clear_value s1; intro _)])
    | ((fail_if_no_progress extract_lets +onlyGivenNames x); first | (dsimp -zeta only [x]; clear x) | clear_value x)
    | with_reducible apply setConn_kept
    | with_reducible apply connSources_kept
    | dsimp -zeta only

theorem connResetAll_kept (h : Kept xs s0 s) :
    Kept xs s0 (s.connResetAll) := by
  unfold State.connResetAll
  repeat' first
    | with_reducible assumption
    | with_reducible apply connReset_kept
    | with_reducible refine Kept.foldl _ _ (fun _ _ _ => ?_) ?_
    | dsimp -zeta only

theorem connLose_kept (h : Kept xs s0 s) (sd : Side) (n : Nat) :
    Kept xs s0 (s.connLose sd n) := by
  unfold State.connLose
  repeat' first
    | with_reducible assumption
    | with_reducible apply connEnter_kept

theorem connLatched_kept (h : Kept xs s0 s) (sd : Side) (n : Nat) (cell : Nat) :
    Kept xs s0 (s.connLatched sd n cell) := by
  unfold State.connLatched
  repeat' first
    | with_reducible assumption
    | ((fail_if_no_progress extract_lets +onlyGivenNames s1); refine Kept.via s1 ?_ ?_ <;> [(dsimp -zeta only [s1]; clear s1); (clear_value s1; intro _)])
    | ((fail_if_no_progress extract_lets +onlyGivenNames x); first | (dsimp -zeta only [x]; clear x) | clear_value x)
    | with_reducible apply setConn_kept
    | with_reducible refine Kept.ite (fun _ => ?_) (fun _ => ?_)
    | ((with_reducible refine Kept.lit ?_ rfl ?_ ?_ ?_ ?_ ?_ ?_ ?_) <;>
        [skip; rfl; rfl; (first | exact .inl rfl | exact .inr rfl | exact .inl (setBank_staging _ _ _));
         (first | exact .inl rfl | exact .inr rfl | exact .inl (bundle_setBank_staging _ _ _)); rfl; rfl;
         (first | exact .inl rfl | exact .inr rfl)];
       first
        | with_reducible assumption
        | with_reducible apply setConn_kept)
    | dsimp -zeta only

theorem reject_kept (h : Kept xs s0 s) (reason : Nat) :
    Kept xs s0 (s.reject reason) := by
  unfold State.reject
  repeat' first
    | with_reducible assumption
    | ((fail_if_no_progress extract_lets +onlyGivenNames s1); refine Kept.via s1 ?_ ?_ <;> [(dsimp -zeta only [s1]; clear s1); (clear_value s1; intro _)])
    | ((fail_if_no_progress extract_lets +onlyGivenNames x); first | (dsimp -zeta only [x]; clear x) | clear_value x)
    | with_reducible apply event_kept
    | ((with_reducible refine Kept.lit ?_ rfl ?_ ?_ ?_ ?_ ?_ ?_ ?_) <;>
        [skip; rfl; rfl; (first | exact .inl rfl | exact .inr rfl | exact .inl (setBank_staging _ _ _));
         (first | exact .inl rfl | exact .inr rfl | exact .inl (bundle_setBank_staging _ _ _)); rfl; rfl;
         (first | exact .inl rfl | exact .inr rfl)];
       first
        | with_reducible assumption
        | with_reducible apply event_kept)
    | dsimp -zeta only

theorem transaction_kept {ys : List Nat} (h : Kept [] s0 s) (t : Txn) {act : State → State}
    (ha : ∀ {u}, Kept [] s0 u → Kept ys s0 (act u)) : Kept ys s0 (s.transaction t act) := by
  have up : ∀ {u}, Kept [] s0 u → Kept ys s0 u := fun h => h.permute List.nil_subperm
  unfold State.transaction
  refine Kept.ite (fun _ => up (h.host _ (List.Subperm.refl _))) (fun _ => Kept.ite (fun _ => ?_) (fun _ => ha ?_))
  · exact Kept.ite (fun _ => ha h) (fun _ => up (reject_kept h _))
  · exact h.host _ (List.Subperm.refl _)

theorem popRequest_kept {r : Request} {q : List Request} (h : Kept [] s0 s) (hq : s.host.queue = r :: q)
    {f : State → State} (hf : ∀ {s1}, Kept [] s1 s1 → Kept [r.tag] s1 (f s1)) : Kept [] s0 (f s.popRequest) := by
  have k := hf (Kept.refl s.popRequest)
  have e : s.host.held = r.tag :: s.popRequest.host.held := by simp [State.popRequest, HostSt.held, hq]
  refine ⟨k.pending.trans h.pending, fun x => k.fuses (h.fuses x), fun w x => k.prog w (h.prog w x), ?_,
    fun x => k.container (h.container x), fun x => k.bundle (h.bundle x), fun c sd x => h.opens c sd (k.opens c sd x), fun x => h.run (k.run x), fun x => k.records (h.records x)⟩
  have := k.held
  rw [List.singleton_append, ← e] at this
  exact this.trans h.held

theorem answerUnknown_kept (h : Kept [] s0 s) (n : Nat) : Kept [] s0 (s.answerUnknown n) := by
  induction n generalizing s with
  | zero => exact h
  | succ n ih =>
    unfold State.answerUnknown
    refine Kept.ite (fun _ => h) (fun _ => ?_)
    split
    · exact h
    · rename_i r q hq
      refine Kept.ite (fun _ => ih ?_) (fun _ => h)
      exact popRequest_kept h hq (fun h => respond_kept h _ _ _)

theorem settle_kept (h : Kept xs s0 s) : Kept xs s0 s.settle := h.trans (answerUnknown_kept (Kept.refl s) _)

theorem serve_kept (h : Kept [] s0 s) (code : Nat) (form : Request → Bool) {act : Request → State → State}
    (ha : ∀ {s1} (r : Request), Kept [] s1 s1 → Kept [r.tag] s1 (act r s1)) : Kept [] s0 (s.serve code form act) := by
  unfold State.serve
  split
  · exact h
  · rename_i r hr
    have hq : ∃ q, s.host.queue = r :: q := by
      unfold State.front at hr
      split at hr
      · exact absurd hr (by simp)
      · split at hr
        · exact absurd hr (by simp)
        · rename_i r' q e
          split at hr
          · exact ⟨q, by rw [e]; simp_all⟩
          · exact absurd hr (by simp)
    obtain ⟨q, hq⟩ := hq
    refine settle_kept (popRequest_kept h hq (f := fun s =>
      if r.done then act r s
      else if s.sessionBad r then s.respond r stBAD_SESSION []
      else if s.host.version < (cmdVersion code).getD 1 then s.respond r stUNKNOWN_CMD []
      else match s.stateRefuses code with
        | some st => s.respond r st []
        | none => if form r then act r s else s.respond r stBAD_FORMAT []) (fun {s1} h => ?_))
    refine Kept.ite (fun _ => ha r h) (fun _ => Kept.ite (fun _ => respond_kept h _ _ _)
      (fun _ => Kept.ite (fun _ => respond_kept h _ _ _) (fun _ => ?_)))
    split
    · exact respond_kept h _ _ _
    · exact Kept.ite (fun _ => ha r h) (fun _ => respond_kept h _ _ _)

end Sys2Proof.Laws
end

