-- ==== Sys2Proof/Laws/KeptRecords.lean ====
section
/-! SUPPORT. What the operations of Rosemary and of Oxbow keep. -/

set_option linter.unusedTactic false
set_option linter.unreachableTactic false
set_option linter.unusedVariables false
set_option linter.unusedSimpArgs false

namespace Sys2Proof.Laws

open Sys2Proof.Machine Sys2Proof.Safety

variable {xs : List Nat} {s0 s t : State}
theorem fuseAnswer_kept (h : Kept xs s0 s) (j : RosJob) (status : Nat) (payload : List Byte) :
    Kept xs s0 (s.fuseAnswer j status payload) := by
  unfold State.fuseAnswer
  repeat' first
    | with_reducible assumption
    | with_reducible apply answer_kept
    | with_reducible apply settle_kept
    | with_reducible refine Kept.ite (fun _ => ?_) (fun _ => ?_)

theorem partyRefused_kept (h : Kept xs s0 s) (j : RosJob) :
    Kept xs s0 (s.partyRefused j) := by
  unfold State.partyRefused
  repeat' first
    | with_reducible assumption
    | with_reducible apply raise_kept
    | ((with_reducible refine Kept.lit ?_ rfl ?_ ?_ ?_ ?_ ?_ ?_ ?_) <;>
        [skip; rfl; rfl; (first | exact .inl rfl | exact .inr rfl | exact .inl (setBank_staging _ _ _));
         (first | exact .inl rfl | exact .inr rfl | exact .inl (bundle_setBank_staging _ _ _)); rfl; rfl;
         (first | exact .inl rfl | exact .inr rfl)];
       first
        | with_reducible assumption
        | with_reducible apply raise_kept)
    | split
    | dsimp -zeta only

theorem takeJob_kept (h : Kept xs s0 s) (j0 : RosJob) :
    Kept xs s0 (s.takeJob j0) := by
  unfold State.takeJob
  repeat' first
    | with_reducible assumption
    | ((fail_if_no_progress extract_lets +onlyGivenNames s1); refine Kept.via s1 ?_ ?_ <;> [(dsimp -zeta only [s1]; clear s1); (clear_value s1; intro _)])
    | ((fail_if_no_progress extract_lets +onlyGivenNames x); first | (dsimp -zeta only [x]; clear x) | clear_value x)
    | with_reducible apply fuseAnswer_kept
    | with_reducible apply partyRefused_kept
    | with_reducible refine Kept.ite (fun _ => ?_) (fun _ => ?_)
    | ((with_reducible refine Kept.lit ?_ rfl ?_ ?_ ?_ ?_ ?_ ?_ ?_) <;>
        [skip; rfl; rfl; (first | exact .inl rfl | exact .inr rfl | exact .inl (setBank_staging _ _ _));
         (first | exact .inl rfl | exact .inr rfl | exact .inl (bundle_setBank_staging _ _ _)); rfl; rfl;
         (first | exact .inl rfl | exact .inr rfl)];
       first
        | with_reducible assumption
        | with_reducible apply fuseAnswer_kept
        | with_reducible apply partyRefused_kept)
    | split
    | dsimp -zeta only

theorem askJob_kept (h : Kept xs s0 s) (j : RosJob) :
    Kept xs s0 (s.askJob j) := by
  unfold State.askJob
  repeat' first
    | with_reducible assumption
    | with_reducible apply takeJob_kept
    | with_reducible refine Kept.ite (fun _ => ?_) (fun _ => ?_)
    | ((with_reducible refine Kept.lit ?_ rfl ?_ ?_ ?_ ?_ ?_ ?_ ?_) <;>
        [skip; rfl; rfl; (first | exact .inl rfl | exact .inr rfl | exact .inl (setBank_staging _ _ _));
         (first | exact .inl rfl | exact .inr rfl | exact .inl (bundle_setBank_staging _ _ _)); rfl; rfl;
         (first | exact .inl rfl | exact .inr rfl)];
       first
        | with_reducible assumption
        | with_reducible apply takeJob_kept)

theorem drainJobs_kept (h : Kept xs s0 s) (n : Nat) : Kept xs s0 (s.drainJobs n) := by
  induction n generalizing s with
  | zero => exact h
  | succ n ih =>
    unfold State.drainJobs
    refine Kept.ite (fun _ => h) (fun _ => ?_)
    split
    · exact h
    · refine ih (takeJob_kept ?_ _)
      exact h.lit rfl rfl rfl (.inl rfl) (.inl rfl) rfl rfl (.inl rfl)

theorem senseSources_kept (h : Kept xs s0 s) (w : Nat) :
    Kept xs s0 (s.senseSources w) := by
  unfold State.senseSources
  repeat' first
    | with_reducible assumption
    | ((fail_if_no_progress extract_lets +onlyGivenNames s1); refine Kept.via s1 ?_ ?_ <;> [(dsimp -zeta only [s1]; clear s1); (clear_value s1; intro _)])
    | ((fail_if_no_progress extract_lets +onlyGivenNames x); first | (dsimp -zeta only [x]; clear x) | clear_value x)
    | with_reducible apply event_kept
    | with_reducible apply raise_kept
    | with_reducible refine Kept.ite (fun _ => ?_) (fun _ => ?_)
    | dsimp -zeta only

/-- A pulse programs its word, and no other. -/
theorem Kept.pulse (h : Kept xs s0 s) {r : RosSt} {w : Nat} {f : FuseWord} (e : r.fuses = s.ros.fuses.put w f)
    (p : (s.ros.fuses.getD w {}).prog = true → f.prog = true) :
    Kept xs s0 { s with ros := r } := by
  refine ⟨h.pending, fun x => ?_, fun k x => ?_, h.held, h.container, h.bundle, h.opens, h.run, h.records⟩
  · have := tab_put_sorted _ w f (h.fuses x)
    rwa [← e] at this
  · have := h.prog k x
    rw [e, tab_getD_put]
    split
    · rename_i hk
      exact p (hk ▸ this)
    · exact this

theorem endJob_kept (h : Kept xs s0 s) (j : RosJob) (retries : Nat) (ok : Bool) (final : Sense) :
    Kept xs s0 (s.endJob j retries ok final) := by
  unfold State.endJob
  extract_lets +onlyGivenNames d fw
  have hfw : (s.ros.fuses.getD j.target {}).prog = true → fw.prog = true := fun e => by
    show (_ || _ || _) = true
    rw [e]
    rfl
  clear_value fw
  repeat' first
    | (refine Kept.pulse h (w := j.target) (f := fw) ?_ hfw; rfl)
    | with_reducible assumption
    | ((fail_if_no_progress extract_lets +onlyGivenNames s1); refine Kept.via s1 ?_ ?_ <;> [(dsimp -zeta only [s1]; clear s1); (clear_value s1; intro _)])
    | ((fail_if_no_progress extract_lets +onlyGivenNames x); first | (dsimp -zeta only [x]; clear x) | clear_value x)
    | with_reducible apply drainJobs_kept
    | with_reducible apply fuseAnswer_kept
    | with_reducible apply clear_kept
    | with_reducible apply raise_kept
    | with_reducible apply marker_kept
    | with_reducible apply event_kept
    | with_reducible apply senseSources_kept
    | with_reducible refine Kept.ite (fun _ => ?_) (fun _ => ?_)
    | split
    | ((with_reducible refine Kept.lit ?_ rfl ?_ ?_ ?_ ?_ ?_ ?_ ?_) <;>
        [skip; rfl; rfl; (first | exact .inl rfl | exact .inr rfl | exact .inl (setBank_staging _ _ _));
         (first | exact .inl rfl | exact .inr rfl | exact .inl (bundle_setBank_staging _ _ _)); rfl; rfl;
         (first | exact .inl rfl | exact .inr rfl)];
       first
        | with_reducible assumption)

theorem askTl_kept (h : Kept xs s0 s) :
    Kept xs s0 (s.askTl) := by
  unfold State.askTl
  repeat' first
    | with_reducible assumption
    | ((fail_if_no_progress extract_lets +onlyGivenNames s1); refine Kept.via s1 ?_ ?_ <;> [(dsimp -zeta only [s1]; clear s1); (clear_value s1; intro _)])
    | ((fail_if_no_progress extract_lets +onlyGivenNames x); first | (dsimp -zeta only [x]; clear x) | clear_value x)
    | with_reducible apply raise_kept
    | with_reducible apply askJob_kept
    | with_reducible refine Kept.ite (fun _ => ?_) (fun _ => ?_)
    | ((with_reducible refine Kept.lit ?_ rfl ?_ ?_ ?_ ?_ ?_ ?_ ?_) <;>
        [skip; rfl; rfl; (first | exact .inl rfl | exact .inr rfl | exact .inl (setBank_staging _ _ _));
         (first | exact .inl rfl | exact .inr rfl | exact .inl (bundle_setBank_staging _ _ _)); rfl; rfl;
         (first | exact .inl rfl | exact .inr rfl)];
       first
        | with_reducible assumption
        | with_reducible apply raise_kept
        | with_reducible apply askJob_kept)
    | split
    | dsimp -zeta only

theorem askEpoch_kept (h : Kept xs s0 s) :
    Kept xs s0 (s.askEpoch) := by
  unfold State.askEpoch
  repeat' first
    | with_reducible assumption
    | ((fail_if_no_progress extract_lets +onlyGivenNames s1); refine Kept.via s1 ?_ ?_ <;> [(dsimp -zeta only [s1]; clear s1); (clear_value s1; intro _)])
    | ((fail_if_no_progress extract_lets +onlyGivenNames x); first | (dsimp -zeta only [x]; clear x) | clear_value x)
    | with_reducible apply askJob_kept
    | with_reducible refine Kept.ite (fun _ => ?_) (fun _ => ?_)
    | dsimp -zeta only

theorem rosCmd_kept (h : Kept xs s0 s) (k : RosOpKind) (word : Nat) (target : Nat) (data : DWord) :
    Kept xs s0 (s.rosCmd k word target data) := by
  unfold State.rosCmd
  repeat' first
    | with_reducible assumption
    | with_reducible apply takeJob_kept
    | with_reducible refine Kept.ite (fun _ => ?_) (fun _ => ?_)

theorem sensingSources_kept (h : Kept xs s0 s) :
    Kept xs s0 (s.sensingSources) := by
  unfold State.sensingSources
  repeat' first
    | with_reducible assumption
    | with_reducible apply event_kept
    | with_reducible apply raise_kept
    | with_reducible refine Kept.foldl _ _ (fun _ _ _ => ?_) ?_
    | with_reducible refine Kept.ite (fun _ => ?_) (fun _ => ?_)
    | dsimp -zeta only

theorem writeCopies_kept (h : Kept xs s0 s) :
    Kept xs s0 (s.writeCopies) := by
  unfold State.writeCopies
  repeat' first
    | with_reducible assumption
    | with_reducible refine Kept.ite (fun _ => ?_) (fun _ => ?_)
    | ((with_reducible refine Kept.lit ?_ rfl ?_ ?_ ?_ ?_ ?_ ?_ ?_) <;>
        [skip; rfl; rfl; (first | exact .inl rfl | exact .inr rfl | exact .inl (setBank_staging _ _ _));
         (first | exact .inl rfl | exact .inr rfl | exact .inl (bundle_setBank_staging _ _ _)); rfl; rfl;
         (first | exact .inl rfl | exact .inr rfl)];
       first
        | with_reducible assumption)

theorem nextBurst_kept (h : Kept xs s0 s) :
    Kept xs s0 (s.nextBurst) := by
  unfold State.nextBurst
  repeat' first
    | with_reducible assumption
    | ((fail_if_no_progress extract_lets +onlyGivenNames s1); refine Kept.via s1 ?_ ?_ <;> [(dsimp -zeta only [s1]; clear s1); (clear_value s1; intro _)])
    | ((fail_if_no_progress extract_lets +onlyGivenNames x); first | (dsimp -zeta only [x]; clear x) | clear_value x)
    | with_reducible apply closeWaiting_kept
    | with_reducible refine Kept.ite (fun _ => ?_) (fun _ => ?_)
    | with_reducible refine Kept.foldl _ _ (fun _ _ _ => ?_) ?_
    | ((with_reducible refine Kept.lit ?_ rfl ?_ ?_ ?_ ?_ ?_ ?_ ?_) <;>
        [skip; rfl; rfl; (first | exact .inl rfl | exact .inr rfl | exact .inl (setBank_staging _ _ _));
         (first | exact .inl rfl | exact .inr rfl | exact .inl (bundle_setBank_staging _ _ _)); rfl; rfl;
         (first | exact .inl rfl | exact .inr rfl)];
       first
        | with_reducible assumption
        | with_reducible apply closeWaiting_kept
        | with_reducible refine Kept.foldl _ _ (fun _ _ _ => ?_) ?_)
    | split
    | dsimp -zeta only

theorem startFlush_kept (h : Kept xs s0 s) (k : FlushKind) :
    Kept xs s0 (s.startFlush k) := by
  unfold State.startFlush
  repeat' first
    | with_reducible assumption
    | ((fail_if_no_progress extract_lets +onlyGivenNames s1); refine Kept.via s1 ?_ ?_ <;> [(dsimp -zeta only [s1]; clear s1); (clear_value s1; intro _)])
    | ((fail_if_no_progress extract_lets +onlyGivenNames x); first | (dsimp -zeta only [x]; clear x) | clear_value x)
    | with_reducible apply closeAll_kept
    | with_reducible apply nextBurst_kept
    | with_reducible apply askTl_kept
    | with_reducible refine Kept.ite (fun _ => ?_) (fun _ => ?_)
    | with_reducible refine Kept.foldl _ _ (fun _ _ _ => ?_) ?_
    | ((with_reducible refine Kept.lit ?_ rfl ?_ ?_ ?_ ?_ ?_ ?_ ?_) <;>
        [skip; rfl; rfl; (first | exact .inl rfl | exact .inr rfl | exact .inl (setBank_staging _ _ _));
         (first | exact .inl rfl | exact .inr rfl | exact .inl (bundle_setBank_staging _ _ _)); rfl; rfl;
         (first | exact .inl rfl | exact .inr rfl)];
       first
        | with_reducible assumption
        | with_reducible apply closeAll_kept
        | with_reducible apply nextBurst_kept
        | with_reducible apply askTl_kept
        | with_reducible refine Kept.foldl _ _ (fun _ _ _ => ?_) ?_)
    | dsimp -zeta only

theorem takeDamage_kept (h : Kept xs s0 s) (ds : List RecordDamage) :
    Kept xs s0 (s.takeDamage ds) := by
  unfold State.takeDamage
  repeat' first
    | with_reducible assumption
    | ((fail_if_no_progress extract_lets +onlyGivenNames s1); refine Kept.via s1 ?_ ?_ <;> [(dsimp -zeta only [s1]; clear s1); (clear_value s1; intro _)])
    | ((fail_if_no_progress extract_lets +onlyGivenNames x); first | (dsimp -zeta only [x]; clear x) | clear_value x)
    | with_reducible refine Kept.ite (fun _ => ?_) (fun _ => ?_)
    | with_reducible refine Kept.foldl _ _ (fun _ _ _ => ?_) ?_
    | ((with_reducible refine Kept.lit ?_ rfl ?_ ?_ ?_ ?_ ?_ ?_ ?_) <;>
        [skip; rfl; rfl; (first | exact .inl rfl | exact .inr rfl | exact .inl (setBank_staging _ _ _));
         (first | exact .inl rfl | exact .inr rfl | exact .inl (bundle_setBank_staging _ _ _)); rfl; rfl;
         (first | exact .inl rfl | exact .inr rfl)];
       first
        | with_reducible assumption
        | with_reducible refine Kept.foldl _ _ (fun _ _ _ => ?_) ?_)
    | dsimp -zeta only

theorem readBack_kept (h : Kept xs s0 s) (area : Nat) (rs : List OxbRec) :
    Kept xs s0 (s.readBack area rs) := by
  unfold State.readBack
  repeat' first
    | with_reducible assumption
    | ((fail_if_no_progress extract_lets +onlyGivenNames s1); refine Kept.via s1 ?_ ?_ <;> [(dsimp -zeta only [s1]; clear s1); (clear_value s1; intro _)])
    | ((fail_if_no_progress extract_lets +onlyGivenNames x); first | (dsimp -zeta only [x]; clear x) | clear_value x)
    | with_reducible apply event_kept
    | with_reducible refine Kept.ite (fun _ => ?_) (fun _ => ?_)
    | with_reducible refine Kept.foldl _ _ (fun _ _ _ => ?_) ?_
    | ((with_reducible refine Kept.lit ?_ rfl ?_ ?_ ?_ ?_ ?_ ?_ ?_) <;>
        [skip; rfl; rfl; (first | exact .inl rfl | exact .inr rfl | exact .inl (setBank_staging _ _ _));
         (first | exact .inl rfl | exact .inr rfl | exact .inl (bundle_setBank_staging _ _ _)); rfl; rfl;
         (first | exact .inl rfl | exact .inr rfl)];
       first
        | with_reducible assumption
        | with_reducible apply event_kept
        | with_reducible refine Kept.foldl _ _ (fun _ _ _ => ?_) ?_)
    | dsimp -zeta only

theorem writeRecord_kept (h : Kept xs s0 s) (k : FlushKind) (r : OxbRec) :
    Kept xs s0 (s.writeRecord k r) := by
  unfold State.writeRecord
  repeat' first
    | with_reducible assumption
    | ((fail_if_no_progress extract_lets +onlyGivenNames s1); refine Kept.via s1 ?_ ?_ <;> [(dsimp -zeta only [s1]; clear s1); (clear_value s1; intro _)])
    | ((fail_if_no_progress extract_lets +onlyGivenNames x); first | (dsimp -zeta only [x]; clear x) | clear_value x)
    | with_reducible apply readBack_kept
    | with_reducible refine Kept.ite (fun _ => ?_) (fun _ => ?_)
    | with_reducible refine Kept.foldl _ _ (fun _ _ _ => ?_) ?_
    | ((with_reducible refine Kept.lit ?_ rfl ?_ ?_ ?_ ?_ ?_ ?_ ?_) <;>
        [skip; rfl; rfl; (first | exact .inl rfl | exact .inr rfl | exact .inl (setBank_staging _ _ _));
         (first | exact .inl rfl | exact .inr rfl | exact .inl (bundle_setBank_staging _ _ _)); rfl; rfl;
         (first | exact .inl rfl | exact .inr rfl)];
       first
        | with_reducible assumption
        | with_reducible apply readBack_kept
        | with_reducible refine Kept.foldl _ _ (fun _ _ _ => ?_) ?_)
    | dsimp -zeta only

theorem burst_kept (h : Kept xs s0 s) :
    Kept xs s0 (s.burst) := by
  unfold State.burst
  repeat' first
    | with_reducible assumption
    | ((fail_if_no_progress extract_lets +onlyGivenNames s1); refine Kept.via s1 ?_ ?_ <;> [(dsimp -zeta only [s1]; clear s1); (clear_value s1; intro _)])
    | ((fail_if_no_progress extract_lets +onlyGivenNames x); first | (dsimp -zeta only [x]; clear x) | clear_value x)
    | with_reducible apply writeRecord_kept
    | with_reducible apply nextBurst_kept
    | with_reducible refine Kept.ite (fun _ => ?_) (fun _ => ?_)
    | with_reducible refine Kept.foldl _ _ (fun _ _ _ => ?_) ?_
    | ((with_reducible refine Kept.lit ?_ rfl ?_ ?_ ?_ ?_ ?_ ?_ ?_) <;>
        [skip; rfl; rfl; (first | exact .inl rfl | exact .inr rfl | exact .inl (setBank_staging _ _ _));
         (first | exact .inl rfl | exact .inr rfl | exact .inl (bundle_setBank_staging _ _ _)); rfl; rfl;
         (first | exact .inl rfl | exact .inr rfl)];
       first
        | with_reducible assumption
        | with_reducible apply writeRecord_kept
        | with_reducible apply nextBurst_kept
        | with_reducible refine Kept.foldl _ _ (fun _ _ _ => ?_) ?_)
    | split
    | dsimp -zeta only

theorem tickTl_kept (h : Kept xs s0 s) :
    Kept xs s0 (s.tickTl) := by
  unfold State.tickTl
  repeat' first
    | with_reducible assumption
    | ((fail_if_no_progress extract_lets +onlyGivenNames s1); refine Kept.via s1 ?_ ?_ <;> [(dsimp -zeta only [s1]; clear s1); (clear_value s1; intro _)])
    | ((fail_if_no_progress extract_lets +onlyGivenNames x); first | (dsimp -zeta only [x]; clear x) | clear_value x)
    | with_reducible apply askTl_kept
    | with_reducible refine Kept.ite (fun _ => ?_) (fun _ => ?_)
    | with_reducible refine Kept.foldl _ _ (fun _ _ _ => ?_) ?_
    | ((with_reducible refine Kept.lit ?_ rfl ?_ ?_ ?_ ?_ ?_ ?_ ?_) <;>
        [skip; rfl; rfl; (first | exact .inl rfl | exact .inr rfl | exact .inl (setBank_staging _ _ _));
         (first | exact .inl rfl | exact .inr rfl | exact .inl (bundle_setBank_staging _ _ _)); rfl; rfl;
         (first | exact .inl rfl | exact .inr rfl)];
       first
        | with_reducible assumption
        | with_reducible apply askTl_kept
        | with_reducible refine Kept.foldl _ _ (fun _ _ _ => ?_) ?_)
    | split
    | dsimp -zeta only

theorem tickFlush_kept (h : Kept xs s0 s) :
    Kept xs s0 (s.tickFlush) := by
  unfold State.tickFlush
  repeat' first
    | with_reducible assumption
    | ((fail_if_no_progress extract_lets +onlyGivenNames s1); refine Kept.via s1 ?_ ?_ <;> [(dsimp -zeta only [s1]; clear s1); (clear_value s1; intro _)])
    | ((fail_if_no_progress extract_lets +onlyGivenNames x); first | (dsimp -zeta only [x]; clear x) | clear_value x)
    | with_reducible apply tickTl_kept
    | with_reducible apply burst_kept
    | with_reducible refine Kept.ite (fun _ => ?_) (fun _ => ?_)
    | with_reducible refine Kept.foldl _ _ (fun _ _ _ => ?_) ?_
    | ((with_reducible refine Kept.lit ?_ rfl ?_ ?_ ?_ ?_ ?_ ?_ ?_) <;>
        [skip; rfl; rfl; (first | exact .inl rfl | exact .inr rfl | exact .inl (setBank_staging _ _ _));
         (first | exact .inl rfl | exact .inr rfl | exact .inl (bundle_setBank_staging _ _ _)); rfl; rfl;
         (first | exact .inl rfl | exact .inr rfl)];
       first
        | with_reducible assumption
        | with_reducible apply tickTl_kept
        | with_reducible apply burst_kept
        | with_reducible refine Kept.foldl _ _ (fun _ _ _ => ?_) ?_)
    | split
    | dsimp -zeta only

theorem storeFails_kept (h : Kept xs s0 s) (code : Nat) :
    Kept xs s0 (s.storeFails code) := by
  unfold State.storeFails
  repeat' first
    | with_reducible assumption
    | ((fail_if_no_progress extract_lets +onlyGivenNames s1); refine Kept.via s1 ?_ ?_ <;> [(dsimp -zeta only [s1]; clear s1); (clear_value s1; intro _)])
    | ((fail_if_no_progress extract_lets +onlyGivenNames x); first | (dsimp -zeta only [x]; clear x) | clear_value x)
    | with_reducible apply raise_kept
    | with_reducible apply askTl_kept
    | with_reducible refine Kept.ite (fun _ => ?_) (fun _ => ?_)
    | ((with_reducible refine Kept.lit ?_ rfl ?_ ?_ ?_ ?_ ?_ ?_ ?_) <;>
        [skip; rfl; rfl; (first | exact .inl rfl | exact .inr rfl | exact .inl (setBank_staging _ _ _));
         (first | exact .inl rfl | exact .inr rfl | exact .inl (bundle_setBank_staging _ _ _)); rfl; rfl;
         (first | exact .inl rfl | exact .inr rfl)];
       first
        | with_reducible assumption
        | with_reducible apply raise_kept
        | with_reducible apply askTl_kept)
    | dsimp -zeta only

theorem verifyFailures_kept (h : Kept xs s0 s) (blocks : List (Nat × Nat)) :
    Kept xs s0 (s.verifyFailures blocks) := by
  unfold State.verifyFailures
  repeat' first
    | with_reducible assumption
    | with_reducible apply event_kept
    | with_reducible apply storeFails_kept
    | with_reducible refine Kept.foldl _ _ (fun _ _ _ => ?_) ?_
    | with_reducible refine Kept.ite (fun _ => ?_) (fun _ => ?_)
    | ((with_reducible refine Kept.lit ?_ rfl ?_ ?_ ?_ ?_ ?_ ?_ ?_) <;>
        [skip; rfl; rfl; (first | exact .inl rfl | exact .inr rfl | exact .inl (setBank_staging _ _ _));
         (first | exact .inl rfl | exact .inr rfl | exact .inl (bundle_setBank_staging _ _ _)); rfl; rfl;
         (first | exact .inl rfl | exact .inr rfl)];
       first
        | with_reducible assumption
        | with_reducible apply event_kept
        | with_reducible apply storeFails_kept
        | with_reducible refine Kept.foldl _ _ (fun _ _ _ => ?_) ?_)
    | dsimp -zeta only

theorem writeAll_kept (h : Kept xs s0 s) (k : FlushKind) :
    Kept xs s0 (s.writeAll k) := by
  unfold State.writeAll
  repeat' first
    | with_reducible assumption
    | ((fail_if_no_progress extract_lets +onlyGivenNames s1); refine Kept.via s1 ?_ ?_ <;> [(dsimp -zeta only [s1]; clear s1); (clear_value s1; intro _)])
    | ((fail_if_no_progress extract_lets +onlyGivenNames x); first | (dsimp -zeta only [x]; clear x) | clear_value x)
    | with_reducible apply writeRecord_kept
    | with_reducible refine Kept.ite (fun _ => ?_) (fun _ => ?_)
    | with_reducible refine Kept.foldl _ _ (fun _ _ _ => ?_) ?_
    | ((with_reducible refine Kept.lit ?_ rfl ?_ ?_ ?_ ?_ ?_ ?_ ?_) <;>
        [skip; rfl; rfl; (first | exact .inl rfl | exact .inr rfl | exact .inl (setBank_staging _ _ _));
         (first | exact .inl rfl | exact .inr rfl | exact .inl (bundle_setBank_staging _ _ _)); rfl; rfl;
         (first | exact .inl rfl | exact .inr rfl)];
       first
        | with_reducible assumption
        | with_reducible apply writeRecord_kept
        | with_reducible refine Kept.foldl _ _ (fun _ _ _ => ?_) ?_)
    | dsimp -zeta only

theorem endFlush_kept (h : Kept xs s0 s) (k : FlushKind) (verified : Nat) :
    Kept xs s0 (s.endFlush k verified) := by
  unfold State.endFlush
  repeat' first
    | with_reducible assumption
    | ((fail_if_no_progress extract_lets +onlyGivenNames s1); refine Kept.via s1 ?_ ?_ <;> [(dsimp -zeta only [s1]; clear s1); (clear_value s1; intro _)])
    | ((fail_if_no_progress extract_lets +onlyGivenNames x); first | (dsimp -zeta only [x]; clear x) | clear_value x)
    | with_reducible apply writeCopies_kept
    | with_reducible apply closeWaiting_kept
    | with_reducible apply requeue_kept
    | with_reducible apply writeRecord_kept
    | with_reducible apply writeAll_kept
    | with_reducible refine Kept.ite (fun _ => ?_) (fun _ => ?_)
    | with_reducible refine Kept.foldl _ _ (fun _ _ _ => ?_) ?_
    | ((with_reducible refine Kept.lit ?_ rfl ?_ ?_ ?_ ?_ ?_ ?_ ?_) <;>
        [skip; rfl; rfl; (first | exact .inl rfl | exact .inr rfl | exact .inl (setBank_staging _ _ _));
         (first | exact .inl rfl | exact .inr rfl | exact .inl (bundle_setBank_staging _ _ _)); rfl; rfl;
         (first | exact .inl rfl | exact .inr rfl)];
       first
        | with_reducible assumption
        | with_reducible apply writeCopies_kept
        | with_reducible apply closeWaiting_kept
        | with_reducible apply requeue_kept
        | with_reducible apply writeRecord_kept
        | with_reducible apply writeAll_kept
        | with_reducible refine Kept.foldl _ _ (fun _ _ _ => ?_) ?_)
    | dsimp -zeta only

theorem takeLifetime_kept (h : Kept xs s0 s) (secs : List Nat) (cycs : List Nat) :
    Kept xs s0 (s.takeLifetime secs cycs) := by
  unfold State.takeLifetime
  repeat' first
    | with_reducible assumption
    | ((fail_if_no_progress extract_lets +onlyGivenNames s1); refine Kept.via s1 ?_ ?_ <;> [(dsimp -zeta only [s1]; clear s1); (clear_value s1; intro _)])
    | ((fail_if_no_progress extract_lets +onlyGivenNames x); first | (dsimp -zeta only [x]; clear x) | clear_value x)
    | with_reducible apply event_kept
    | with_reducible refine Kept.ite (fun _ => ?_) (fun _ => ?_)
    | ((with_reducible refine Kept.lit ?_ rfl ?_ ?_ ?_ ?_ ?_ ?_ ?_) <;>
        [skip; rfl; rfl; (first | exact .inl rfl | exact .inr rfl | exact .inl (setBank_staging _ _ _));
         (first | exact .inl rfl | exact .inr rfl | exact .inl (bundle_setBank_staging _ _ _)); rfl; rfl;
         (first | exact .inl rfl | exact .inr rfl)];
       first
        | with_reducible assumption
        | with_reducible apply event_kept)
    | dsimp -zeta only

theorem countEarly_kept (h : Kept xs s0 s) (i inst : Nat) : Kept xs s0 (s.countEarly i inst) := by
  unfold State.countEarly
  have h1 := oxbCount_kept h (faultCode bROS i) inst (s.effective bROS i inst).1 false
  split
  rename_i u r e
  rw [e] at h1
  repeat' first
    | with_reducible assumption
    | with_reducible apply setOpen_kept
    | with_reducible refine Kept.ite (fun _ => ?_) (fun _ => ?_)
    | ((with_reducible refine Kept.lit ?_ rfl ?_ ?_ ?_ ?_ ?_ ?_ ?_) <;>
        [skip; rfl; rfl; (first | exact .inl rfl | exact .inr rfl | exact .inl (setBank_staging _ _ _));
         (first | exact .inl rfl | exact .inr rfl | exact .inl (bundle_setBank_staging _ _ _)); rfl; rfl;
         (first | exact .inl rfl | exact .inr rfl)];
       first
        | with_reducible assumption)
    | split

theorem mount_kept (h : Kept xs s0 s) :
    Kept xs s0 (s.mount) := by
  unfold State.mount
  repeat' first
    | with_reducible assumption
    | ((fail_if_no_progress extract_lets +onlyGivenNames s1); refine Kept.via s1 ?_ ?_ <;> [(dsimp -zeta only [s1]; clear s1); (clear_value s1; intro _)])
    | ((fail_if_no_progress extract_lets +onlyGivenNames x); first | (dsimp -zeta only [x]; clear x) | clear_value x)
    | with_reducible apply marker_kept
    | with_reducible apply raise_kept
    | with_reducible apply writeCopies_kept
    | with_reducible apply countEarly_kept
    | with_reducible apply requeue_kept
    | with_reducible apply readBack_kept
    | with_reducible refine Kept.ite (fun _ => ?_) (fun _ => ?_)
    | with_reducible refine Kept.foldl _ _ (fun _ _ _ => ?_) ?_
    | ((with_reducible refine Kept.lit ?_ rfl ?_ ?_ ?_ ?_ ?_ ?_ ?_) <;>
        [skip; rfl; rfl; (first | exact .inl rfl | exact .inr rfl | exact .inl (setBank_staging _ _ _));
         (first | exact .inl rfl | exact .inr rfl | exact .inl (bundle_setBank_staging _ _ _)); rfl; rfl;
         (first | exact .inl rfl | exact .inr rfl)];
       first
        | with_reducible assumption
        | with_reducible apply marker_kept
        | with_reducible apply raise_kept
        | with_reducible apply writeCopies_kept
        | with_reducible apply countEarly_kept
        | with_reducible apply requeue_kept
        | with_reducible apply readBack_kept
        | with_reducible refine Kept.foldl _ _ (fun _ _ _ => ?_) ?_)
    | dsimp -zeta only

end Sys2Proof.Laws
end

