-- ==== Sys2Proof/Laws/KeptPower.lean ====
section
/-! SUPPORT. What the operations of reset, power, the configuration, the cells and the start-up keep. -/

set_option linter.unusedTactic false
set_option linter.unreachableTactic false
set_option linter.unusedVariables false
set_option linter.unusedSimpArgs false

namespace Sys2Proof.Laws

open Sys2Proof.Machine Sys2Proof.Safety

variable {xs : List Nat} {s0 s t : State}
/-- HOST and the stagings start anew, and the device is not in RUN. -/
theorem Kept.wiped (h : Kept xs s0 s) (h1 : t.pending = s.pending) (h2 : t.ros.fuses = s.ros.fuses) (h3 : t.host.held = [])
    (h4 : t.cfg.staging = none) (h5 : t.bundles.staging = none) (h6 : t.field.chans = s.field.chans)
    (h7 : t.dev.st = .run → s.dev.st = .run) (h8 : t.oxb.openRecs = s.oxb.openRecs ∨ t.oxb.openRecs = []) : Kept xs s0 t := by
  have e : ∀ c sd, switchOf t c sd = switchOf s c sd := by intro c sd; cases sd <;> simp [switchOf, State.chan, h6]
  refine ⟨h1.trans h.pending, ?_, ?_, ?_, fun _ y hy => ?_, fun _ y hy => ?_, fun c sd hs => ?_, fun hr => h.run (h7 hr), fun _ => ?_⟩
  · unfold FusesOk; rw [h2]; exact h.fuses
  · rw [h2]; exact h.prog
  · rw [h3]; exact List.nil_subperm
  · rw [h4] at hy; cases hy
  · rw [h5] at hy; cases hy
  · rw [e] at hs; exact h.opens c sd hs
  · unfold RecordsOk
    rcases h8 with h8 | h8 <;> rw [h8]
    · exact h.records ‹_›
    · exact List.nodup_nil

theorem chipReset_kept (h : Kept xs s0 s) (cause : Nat) : Kept xs s0 (s.chipReset cause) :=
  h.wiped rfl rfl rfl rfl rfl rfl (fun hr => by cases hr) (.inr rfl)

theorem powerLost_kept (h : Kept xs s0 s) : Kept xs s0 s.powerLost := by
  have base : Kept xs s0 { s.powerLost with ros := s.ros } :=
    h.wiped (t := { s.powerLost with ros := s.ros }) rfl rfl rfl rfl rfl rfl (fun hr => by cases hr) (.inr rfl)
  have same (e : s.powerLost.ros.fuses = s.ros.fuses) : Kept xs s0 s.powerLost :=
    h.wiped rfl e rfl rfl rfl rfl (fun hr => by cases hr) (.inr rfl)
  cases hj : s.ros.running with
  | none => exact same (by simp only [State.powerLost, hj])
  | some j =>
    by_cases hd : j.data = 0
    · exact same (by simp only [State.powerLost, hj, hd, if_true])
    · exact base.pulse (r := s.powerLost.ros) (w := j.target)
        (f := ⟨BitVec.ofNat 64 (Config.freeNat s.free), true⟩) (by simp only [State.powerLost, hj, hd, if_false]) (fun _ => rfl)

theorem shedDomains_kept (h : Kept xs s0 s) : Kept xs s0 s.shedDomains :=
  h.wiped rfl rfl rfl rfl rfl rfl id (.inl rfl)

theorem powerUpDomains_kept (h : Kept xs s0 s) :
    Kept xs s0 (s.powerUpDomains) := by
  unfold State.powerUpDomains
  repeat' first
    | with_reducible assumption
    | ((fail_if_no_progress extract_lets +onlyGivenNames s1); refine Kept.via s1 ?_ ?_ <;> [(dsimp -zeta only [s1]; clear s1); (clear_value s1; intro _)])
    | ((fail_if_no_progress extract_lets +onlyGivenNames x); first | (dsimp -zeta only [x]; clear x) | clear_value x)
    | with_reducible apply domainOn_kept
    | with_reducible refine Kept.foldl _ _ (fun _ _ _ => ?_) ?_
    | with_reducible refine Kept.ite (fun _ => ?_) (fun _ => ?_)
    | dsimp -zeta only

theorem clockCheck_kept (h : Kept xs s0 s) (pllLocked : Bool) (ratioDev : Int) :
    Kept xs s0 (s.clockCheck pllLocked ratioDev) := by
  unfold State.clockCheck
  repeat' first
    | with_reducible assumption
    | ((fail_if_no_progress extract_lets +onlyGivenNames s1); refine Kept.via s1 ?_ ?_ <;> [(dsimp -zeta only [s1]; clear s1); (clear_value s1; intro _)])
    | ((fail_if_no_progress extract_lets +onlyGivenNames x); first | (dsimp -zeta only [x]; clear x) | clear_value x)
    | with_reducible apply raise_kept
    | with_reducible apply clear_kept
    | with_reducible apply powerUpDomains_kept
    | with_reducible refine Kept.ite (fun _ => ?_) (fun _ => ?_)
    | ((with_reducible refine Kept.lit ?_ rfl ?_ ?_ ?_ ?_ ?_ ?_ ?_) <;>
        [skip; rfl; rfl; (first | exact .inl rfl | exact .inr rfl | exact .inl (setBank_staging _ _ _));
         (first | exact .inl rfl | exact .inr rfl | exact .inl (bundle_setBank_staging _ _ _)); rfl; rfl;
         (first | exact .inl rfl | exact .inr rfl)];
       first
        | with_reducible assumption
        | with_reducible apply raise_kept
        | with_reducible apply clear_kept
        | with_reducible apply powerUpDomains_kept)
    | dsimp -zeta only

theorem warningOver_kept (h : Kept xs s0 s) :
    Kept xs s0 (s.warningOver) := by
  unfold State.warningOver
  repeat' first
    | with_reducible assumption
    | with_reducible apply clear_kept
    | ((with_reducible refine Kept.lit ?_ rfl ?_ ?_ ?_ ?_ ?_ ?_ ?_) <;>
        [skip; rfl; rfl; (first | exact .inl rfl | exact .inr rfl | exact .inl (setBank_staging _ _ _));
         (first | exact .inl rfl | exact .inr rfl | exact .inl (bundle_setBank_staging _ _ _)); rfl; rfl;
         (first | exact .inl rfl | exact .inr rfl)];
       first
        | with_reducible assumption
        | with_reducible apply clear_kept)
    | split
    | dsimp -zeta only

theorem judgeRatio_kept (h : Kept xs s0 s) (outFive : Bool) (outTwo : Bool) :
    Kept xs s0 (s.judgeRatio outFive outTwo) := by
  unfold State.judgeRatio
  repeat' first
    | with_reducible assumption
    | ((fail_if_no_progress extract_lets +onlyGivenNames s1); refine Kept.via s1 ?_ ?_ <;> [(dsimp -zeta only [s1]; clear s1); (clear_value s1; intro _)])
    | ((fail_if_no_progress extract_lets +onlyGivenNames x); first | (dsimp -zeta only [x]; clear x) | clear_value x)
    | with_reducible apply raise_kept
    | with_reducible apply clear_kept
    | with_reducible apply condition_kept
    | with_reducible refine Kept.ite (fun _ => ?_) (fun _ => ?_)
    | ((with_reducible refine Kept.lit ?_ rfl ?_ ?_ ?_ ?_ ?_ ?_ ?_) <;>
        [skip; rfl; rfl; (first | exact .inl rfl | exact .inr rfl | exact .inl (setBank_staging _ _ _));
         (first | exact .inl rfl | exact .inr rfl | exact .inl (bundle_setBank_staging _ _ _)); rfl; rfl;
         (first | exact .inl rfl | exact .inr rfl)];
       first
        | with_reducible assumption
        | with_reducible apply raise_kept
        | with_reducible apply clear_kept
        | with_reducible apply condition_kept)
    | dsimp -zeta only

theorem selectIr_kept (h : Kept xs s0 s) (code : Nat) (dr : Word) :
    Kept xs s0 (s.selectIr code dr) := by
  unfold State.selectIr
  repeat' first
    | with_reducible assumption
    | ((fail_if_no_progress extract_lets +onlyGivenNames s1); refine Kept.via s1 ?_ ?_ <;> [(dsimp -zeta only [s1]; clear s1); (clear_value s1; intro _)])
    | ((fail_if_no_progress extract_lets +onlyGivenNames x); first | (dsimp -zeta only [x]; clear x) | clear_value x)
    | with_reducible refine Kept.ite (fun _ => ?_) (fun _ => ?_)
    | with_reducible refine Kept.foldl _ _ (fun _ _ _ => ?_) ?_
    | ((with_reducible refine Kept.lit ?_ rfl ?_ ?_ ?_ ?_ ?_ ?_ ?_) <;>
        [skip; rfl; rfl; (first | exact .inl rfl | exact .inr rfl | exact .inl (setBank_staging _ _ _));
         (first | exact .inl rfl | exact .inr rfl | exact .inl (bundle_setBank_staging _ _ _)); rfl; rfl;
         (first | exact .inl rfl | exact .inr rfl)];
       first
        | with_reducible assumption
        | with_reducible refine Kept.foldl _ _ (fun _ _ _ => ?_) ?_)
    | split
    | dsimp -zeta only

theorem boundaryScan_kept (h : Kept xs s0 s) (code : Nat) (scanIn : BitVec 36) :
    Kept xs s0 (s.boundaryScan code scanIn) := by
  unfold State.boundaryScan
  repeat' first
    | with_reducible assumption
    | ((fail_if_no_progress extract_lets +onlyGivenNames s1); refine Kept.via s1 ?_ ?_ <;> [(dsimp -zeta only [s1]; clear s1); (clear_value s1; intro _)])
    | ((fail_if_no_progress extract_lets +onlyGivenNames x); first | (dsimp -zeta only [x]; clear x) | clear_value x)
    | with_reducible apply selectIr_kept
    | with_reducible refine Kept.ite (fun _ => ?_) (fun _ => ?_)
    | with_reducible refine Kept.foldl _ _ (fun _ _ _ => ?_) ?_
    | ((with_reducible refine Kept.lit ?_ rfl ?_ ?_ ?_ ?_ ?_ ?_ ?_) <;>
        [skip; rfl; rfl; (first | exact .inl rfl | exact .inr rfl | exact .inl (setBank_staging _ _ _));
         (first | exact .inl rfl | exact .inr rfl | exact .inl (bundle_setBank_staging _ _ _)); rfl; rfl;
         (first | exact .inl rfl | exact .inr rfl)];
       first
        | with_reducible assumption
        | with_reducible apply selectIr_kept
        | with_reducible refine Kept.foldl _ _ (fun _ _ _ => ?_) ?_)
    | split
    | dsimp -zeta only

theorem lockLost_kept (h : Kept xs s0 s) :
    Kept xs s0 (s.lockLost) := by
  unfold State.lockLost
  repeat' first
    | with_reducible assumption
    | ((fail_if_no_progress extract_lets +onlyGivenNames s1); refine Kept.via s1 ?_ ?_ <;> [(dsimp -zeta only [s1]; clear s1); (clear_value s1; intro _)])
    | ((fail_if_no_progress extract_lets +onlyGivenNames x); first | (dsimp -zeta only [x]; clear x) | clear_value x)
    | with_reducible refine Kept.ite (fun _ => ?_) (fun _ => ?_)
    | with_reducible refine Kept.foldl _ _ (fun _ _ _ => ?_) ?_
    | ((with_reducible refine Kept.lit ?_ rfl ?_ ?_ ?_ ?_ ?_ ?_ ?_) <;>
        [skip; rfl; rfl; (first | exact .inl rfl | exact .inr rfl | exact .inl (setBank_staging _ _ _));
         (first | exact .inl rfl | exact .inr rfl | exact .inl (bundle_setBank_staging _ _ _)); rfl; rfl;
         (first | exact .inl rfl | exact .inr rfl)];
       first
        | with_reducible assumption
        | with_reducible refine Kept.foldl _ _ (fun _ _ _ => ?_) ?_)
    | split
    | dsimp -zeta only

theorem holdReset_kept (h : Kept xs s0 s) :
    Kept xs s0 (s.holdReset) := by
  unfold State.holdReset
  repeat' first
    | with_reducible assumption
    | ((fail_if_no_progress extract_lets +onlyGivenNames s1); refine Kept.via s1 ?_ ?_ <;> [(dsimp -zeta only [s1]; clear s1); (clear_value s1; intro _)])
    | ((fail_if_no_progress extract_lets +onlyGivenNames x); first | (dsimp -zeta only [x]; clear x) | clear_value x)
    | with_reducible refine Kept.ite (fun _ => ?_) (fun _ => ?_)
    | with_reducible refine Kept.foldl _ _ (fun _ _ _ => ?_) ?_
    | ((with_reducible refine Kept.lit ?_ rfl ?_ ?_ ?_ ?_ ?_ ?_ ?_) <;>
        [skip; rfl; rfl; (first | exact .inl rfl | exact .inr rfl | exact .inl (setBank_staging _ _ _));
         (first | exact .inl rfl | exact .inr rfl | exact .inl (bundle_setBank_staging _ _ _)); rfl; rfl;
         (first | exact .inl rfl | exact .inr rfl)];
       first
        | with_reducible assumption
        | with_reducible refine Kept.foldl _ _ (fun _ _ _ => ?_) ?_)
    | split
    | dsimp -zeta only

theorem signCert_kept (h : Kept xs s0 s) (c : Container) (a : Admitted) (q : Nat) : Kept xs s0 (s.signCert c a q).2 :=
  h.lit rfl rfl rfl (.inl rfl) (.inl rfl) rfl rfl (.inl rfl)

theorem reissueCert_kept (h : Kept xs s0 s) :
    Kept xs s0 (s.reissueCert) := by
  unfold State.reissueCert
  repeat' first
    | with_reducible assumption
    | ((fail_if_no_progress extract_lets +onlyGivenNames s1); refine Kept.via s1 ?_ ?_ <;> [(dsimp -zeta only [s1]; clear s1); (clear_value s1; intro _)])
    | ((fail_if_no_progress extract_lets +onlyGivenNames x); first | (dsimp -zeta only [x]; clear x) | clear_value x)
    | with_reducible refine Kept.ite (fun _ => ?_) (fun _ => ?_)
    | ((with_reducible refine Kept.lit ?_ rfl ?_ ?_ ?_ ?_ ?_ ?_ ?_) <;>
        [skip; rfl; rfl; (first | exact .inl rfl | exact .inr rfl | exact .inl (setBank_staging _ _ _));
         (first | exact .inl rfl | exact .inr rfl | exact .inl (bundle_setBank_staging _ _ _)); rfl; rfl;
         (first | exact .inl rfl | exact .inr rfl)];
       first
        | with_reducible assumption)
    | split
    | dsimp -zeta only

theorem setReqs_kept (h : Kept xs s0 s) (sd : Side) (chans : List Nat) (f : Nat → Bool) :
    Kept xs s0 (s.setReqs sd chans f) := by
  unfold State.setReqs
  repeat' first
    | with_reducible assumption
    | with_reducible apply setView_kept
    | with_reducible refine Kept.foldl _ _ (fun _ _ _ => ?_) ?_
    | ((with_reducible refine Kept.lit ?_ rfl ?_ ?_ ?_ ?_ ?_ ?_ ?_) <;>
        [skip; rfl; rfl; (first | exact .inl rfl | exact .inr rfl | exact .inl (setBank_staging _ _ _));
         (first | exact .inl rfl | exact .inr rfl | exact .inl (bundle_setBank_staging _ _ _)); rfl; rfl;
         (first | exact .inl rfl | exact .inr rfl)];
       first
        | with_reducible assumption
        | with_reducible apply setView_kept
        | with_reducible refine Kept.foldl _ _ (fun _ _ _ => ?_) ?_)
    | dsimp -zeta only

theorem applyRequests_kept (h : Kept xs s0 s) (sd : Side) (n : Nat) :
    Kept xs s0 (s.applyRequests sd n) := by
  unfold State.applyRequests
  repeat' first
    | with_reducible assumption
    | ((fail_if_no_progress extract_lets +onlyGivenNames s1); refine Kept.via s1 ?_ ?_ <;> [(dsimp -zeta only [s1]; clear s1); (clear_value s1; intro _)])
    | ((fail_if_no_progress extract_lets +onlyGivenNames x); first | (dsimp -zeta only [x]; clear x) | clear_value x)
    | with_reducible apply setCell_kept
    | with_reducible apply setReqs_kept
    | with_reducible refine Kept.ite (fun _ => ?_) (fun _ => ?_)
    | ((with_reducible refine Kept.lit ?_ rfl ?_ ?_ ?_ ?_ ?_ ?_ ?_) <;>
        [skip; rfl; rfl; (first | exact .inl rfl | exact .inr rfl | exact .inl (setBank_staging _ _ _));
         (first | exact .inl rfl | exact .inr rfl | exact .inl (bundle_setBank_staging _ _ _)); rfl; rfl;
         (first | exact .inl rfl | exact .inr rfl)];
       first
        | with_reducible assumption
        | with_reducible apply setCell_kept
        | with_reducible apply setReqs_kept)
    | split
    | dsimp -zeta only

theorem boundarySide_kept (h : Kept xs s0 s) (sd : Side) (n : Nat) (st : CellState) (old : Container) (versionNew : Bool) :
    Kept xs s0 (s.boundarySide sd n st old versionNew) := by
  unfold State.boundarySide
  repeat' first
    | with_reducible assumption
    | ((fail_if_no_progress extract_lets +onlyGivenNames s1); refine Kept.via s1 ?_ ?_ <;> [(dsimp -zeta only [s1]; clear s1); (clear_value s1; intro _)])
    | ((fail_if_no_progress extract_lets +onlyGivenNames x); first | (dsimp -zeta only [x]; clear x) | clear_value x)
    | with_reducible apply setCell_kept
    | with_reducible apply wait_kept
    | with_reducible apply setReqs_kept
    | with_reducible apply applyRequests_kept
    | with_reducible refine Kept.ite (fun _ => ?_) (fun _ => ?_)
    | ((with_reducible refine Kept.lit ?_ rfl ?_ ?_ ?_ ?_ ?_ ?_ ?_) <;>
        [skip; rfl; rfl; (first | exact .inl rfl | exact .inr rfl | exact .inl (setBank_staging _ _ _));
         (first | exact .inl rfl | exact .inr rfl | exact .inl (bundle_setBank_staging _ _ _)); rfl; rfl;
         (first | exact .inl rfl | exact .inr rfl)];
       first
        | with_reducible assumption
        | with_reducible apply setCell_kept
        | with_reducible apply wait_kept
        | with_reducible apply setReqs_kept
        | with_reducible apply applyRequests_kept)
    | split
    | dsimp -zeta only

theorem latchSide_kept (h : Kept xs s0 s) (sd : Side) (n : Nat) (p : Nat) :
    Kept xs s0 (s.latchSide sd n p) := by
  unfold State.latchSide
  repeat' first
    | with_reducible assumption
    | ((fail_if_no_progress extract_lets +onlyGivenNames s1); refine Kept.via s1 ?_ ?_ <;> [(dsimp -zeta only [s1]; clear s1); (clear_value s1; intro _)])
    | ((fail_if_no_progress extract_lets +onlyGivenNames x); first | (dsimp -zeta only [x]; clear x) | clear_value x)
    | with_reducible apply setCell_kept
    | with_reducible apply wait_kept
    | with_reducible apply connLatched_kept
    | with_reducible refine Kept.foldl _ _ (fun _ _ _ => ?_) ?_
    | with_reducible refine Kept.ite (fun _ => ?_) (fun _ => ?_)
    | ((with_reducible refine Kept.lit ?_ rfl ?_ ?_ ?_ ?_ ?_ ?_ ?_) <;>
        [skip; rfl; rfl; (first | exact .inl rfl | exact .inr rfl | exact .inl (setBank_staging _ _ _));
         (first | exact .inl rfl | exact .inr rfl | exact .inl (bundle_setBank_staging _ _ _)); rfl; rfl;
         (first | exact .inl rfl | exact .inr rfl)];
       first
        | with_reducible assumption
        | with_reducible apply setCell_kept
        | with_reducible apply wait_kept
        | with_reducible apply connLatched_kept
        | with_reducible refine Kept.foldl _ _ (fun _ _ _ => ?_) ?_)
    | dsimp -zeta only

theorem finishRun_kept (h : Kept xs s0 s) (sd : Side) (n : Nat) (r : CellRun) (used : Nat) :
    Kept xs s0 (s.finishRun sd n r used) := by
  unfold State.finishRun
  repeat' first
    | with_reducible assumption
    | ((fail_if_no_progress extract_lets +onlyGivenNames s1); refine Kept.via s1 ?_ ?_ <;> [(dsimp -zeta only [s1]; clear s1); (clear_value s1; intro _)])
    | ((fail_if_no_progress extract_lets +onlyGivenNames x); first | (dsimp -zeta only [x]; clear x) | clear_value x)
    | with_reducible apply setCell_kept
    | with_reducible apply addLoad_kept
    | with_reducible refine Kept.ite (fun _ => ?_) (fun _ => ?_)
    | with_reducible refine Kept.foldl _ _ (fun _ _ _ => ?_) ?_
    | ((with_reducible refine Kept.lit ?_ rfl ?_ ?_ ?_ ?_ ?_ ?_ ?_) <;>
        [skip; rfl; rfl; (first | exact .inl rfl | exact .inr rfl | exact .inl (setBank_staging _ _ _));
         (first | exact .inl rfl | exact .inr rfl | exact .inl (bundle_setBank_staging _ _ _)); rfl; rfl;
         (first | exact .inl rfl | exact .inr rfl)];
       first
        | with_reducible assumption
        | with_reducible apply setCell_kept
        | with_reducible apply addLoad_kept
        | with_reducible refine Kept.foldl _ _ (fun _ _ _ => ?_) ?_)
    | split
    | dsimp -zeta only

theorem reconSide_kept (h : Kept xs s0 s) (sd : Side) (n : Nat) (mine other : Option Machine.Half) (clean : Nat) (verdict : Option Bool) :
    Kept xs s0 (s.reconSide sd n mine other clean verdict) := by
  unfold State.reconSide
  repeat' first
    | with_reducible assumption
    | ((fail_if_no_progress extract_lets +onlyGivenNames s1); refine Kept.via s1 ?_ ?_ <;> [(dsimp -zeta only [s1]; clear s1); (clear_value s1; intro _)])
    | ((fail_if_no_progress extract_lets +onlyGivenNames x); first | (dsimp -zeta only [x]; clear x) | clear_value x)
    | with_reducible apply setCell_kept
    | with_reducible refine Kept.ite (fun _ => ?_) (fun _ => ?_)
    | with_reducible refine Kept.foldl _ _ (fun _ _ _ => ?_) ?_
    | ((with_reducible refine Kept.lit ?_ rfl ?_ ?_ ?_ ?_ ?_ ?_ ?_) <;>
        [skip; rfl; rfl; (first | exact .inl rfl | exact .inr rfl | exact .inl (setBank_staging _ _ _));
         (first | exact .inl rfl | exact .inr rfl | exact .inl (bundle_setBank_staging _ _ _)); rfl; rfl;
         (first | exact .inl rfl | exact .inr rfl)];
       first
        | with_reducible assumption
        | with_reducible apply setCell_kept
        | with_reducible refine Kept.foldl _ _ (fun _ _ _ => ?_) ?_)
    | split
    | dsimp -zeta only

theorem enterMaintenance_kept (h : Kept xs s0 s) (k : Maint) (code : Option CfgRefusal) :
    Kept xs s0 (s.enterMaintenance k code) := by
  unfold State.enterMaintenance
  repeat' first
    | with_reducible assumption
    | ((fail_if_no_progress extract_lets +onlyGivenNames s1); refine Kept.via s1 ?_ ?_ <;> [(dsimp -zeta only [s1]; clear s1); (clear_value s1; intro _)])
    | ((fail_if_no_progress extract_lets +onlyGivenNames x); first | (dsimp -zeta only [x]; clear x) | clear_value x)
    | with_reducible apply enter_kept _ (fun e => by cases e)
    | ((with_reducible refine Kept.lit ?_ rfl ?_ ?_ ?_ ?_ ?_ ?_ ?_) <;>
        [skip; rfl; rfl; (first | exact .inl rfl | exact .inr rfl | exact .inl (setBank_staging _ _ _));
         (first | exact .inl rfl | exact .inr rfl | exact .inl (bundle_setBank_staging _ _ _)); rfl; rfl;
         (first | exact .inl rfl | exact .inr rfl)];
       first
        | with_reducible assumption
        | with_reducible apply enter_kept _ (fun e => by cases e))
    | dsimp -zeta only

theorem enterVerify_kept (h : Kept xs s0 s) (cause : VerifyCause) :
    Kept xs s0 (s.enterVerify cause) := by
  unfold State.enterVerify
  repeat' first
    | with_reducible assumption
    | ((fail_if_no_progress extract_lets +onlyGivenNames s1); refine Kept.via s1 ?_ ?_ <;> [(dsimp -zeta only [s1]; clear s1); (clear_value s1; intro _)])
    | ((fail_if_no_progress extract_lets +onlyGivenNames x); first | (dsimp -zeta only [x]; clear x) | clear_value x)
    | with_reducible apply restartCoupler_kept
    | with_reducible apply enter_kept _ (fun e => by cases e)
    | with_reducible apply connResetAll_kept
    | with_reducible refine Kept.foldl _ _ (fun _ _ _ => ?_) ?_
    | with_reducible refine Kept.ite (fun _ => ?_) (fun _ => ?_)
    | ((with_reducible refine Kept.lit ?_ rfl ?_ ?_ ?_ ?_ ?_ ?_ ?_) <;>
        [skip; rfl; rfl; (first | exact .inl rfl | exact .inr rfl | exact .inl (setBank_staging _ _ _));
         (first | exact .inl rfl | exact .inr rfl | exact .inl (bundle_setBank_staging _ _ _)); rfl; rfl;
         (first | exact .inl rfl | exact .inr rfl)];
       first
        | with_reducible assumption
        | with_reducible apply restartCoupler_kept
        | with_reducible apply enter_kept _ (fun e => by cases e)
        | with_reducible apply connResetAll_kept
        | with_reducible refine Kept.foldl _ _ (fun _ _ _ => ?_) ?_)
    | dsimp -zeta only

theorem startCells_kept (h : Kept xs s0 s) :
    Kept xs s0 s.startCells := by
  unfold State.startCells
  repeat' first
    | with_reducible assumption
    | ((fail_if_no_progress extract_lets +onlyGivenNames s1); refine Kept.via s1 ?_ ?_ <;> [(dsimp -zeta only [s1]; clear s1); (clear_value s1; intro _)])
    | ((fail_if_no_progress extract_lets +onlyGivenNames x); first | (dsimp -zeta only [x]; clear x) | clear_value x)
    | with_reducible apply setCell_kept
    | with_reducible apply setLine_kept
    | with_reducible apply setReqs_kept
    | with_reducible refine Kept.foldl _ _ (fun _ _ _ => ?_) ?_
    | with_reducible refine Kept.ite (fun _ => ?_) (fun _ => ?_)
    | ((with_reducible refine Kept.lit ?_ rfl ?_ ?_ ?_ ?_ ?_ ?_ ?_) <;>
        [skip; rfl; rfl; (first | exact .inl rfl | exact .inr rfl | exact .inl (setBank_staging _ _ _));
         (first | exact .inl rfl | exact .inr rfl | exact .inl (bundle_setBank_staging _ _ _)); rfl; rfl;
         (first | exact .inl rfl | exact .inr rfl)];
       first
        | with_reducible assumption
        | with_reducible apply setCell_kept
        | with_reducible apply setLine_kept
        | with_reducible apply setReqs_kept
        | with_reducible refine Kept.foldl _ _ (fun _ _ _ => ?_) ?_)
    | dsimp -zeta only

theorem enterRun_kept (h : Kept xs s0 s) (hr : s0.dev.st = .run) : Kept xs s0 s.enterRun := by
  unfold State.enterRun
  repeat' first
    | with_reducible assumption
    | ((fail_if_no_progress extract_lets +onlyGivenNames s1); refine Kept.via s1 ?_ ?_ <;> [(dsimp -zeta only [s1]; clear s1); (clear_value s1; intro _)])
    | ((fail_if_no_progress extract_lets +onlyGivenNames x); first | (dsimp -zeta only [x]; clear x) | clear_value x)
    | with_reducible apply askEpoch_kept
    | with_reducible apply startCells_kept
    | with_reducible refine enter_kept ?_ (fun _ => hr) _
    | with_reducible apply setCov_kept
    | with_reducible refine Kept.foldl _ _ (fun _ _ _ => ?_) ?_
    | with_reducible refine Kept.ite (fun _ => ?_) (fun _ => ?_)
    | ((with_reducible refine Kept.lit ?_ rfl ?_ ?_ ?_ ?_ ?_ ?_ ?_) <;>
        [skip; rfl; rfl; (first | exact .inl rfl | exact .inr rfl | exact .inl (setBank_staging _ _ _));
         (first | exact .inl rfl | exact .inr rfl | exact .inl (bundle_setBank_staging _ _ _)); rfl; rfl;
         (first | exact .inl rfl | exact .inr rfl)];
       first
        | with_reducible assumption)
    | dsimp -zeta only

end Sys2Proof.Laws
end

