-- ==== Sys2Proof/Laws/KeptNet.lean ====
section
/-! SUPPORT. What the operations of frames, connections, pairs and stagings keep. -/

set_option linter.unusedTactic false
set_option linter.unreachableTactic false
set_option linter.unusedVariables false
set_option linter.unusedSimpArgs false

namespace Sys2Proof.Laws

open Sys2Proof.Machine Sys2Proof.Safety

variable {xs : List Nat} {s0 s t : State}
theorem advanceVt_kept (h : Kept xs s0 s) (sd : Side) (n : Nat) :
    Kept xs s0 (s.advanceVt sd n) := by
  unfold State.advanceVt
  repeat' first
    | with_reducible assumption
    | with_reducible apply setConn_kept
    | with_reducible refine Kept.ite (fun _ => ?_) (fun _ => ?_)
    | ((with_reducible refine Kept.lit ?_ rfl ?_ ?_ ?_ ?_ ?_ ?_ ?_) <;>
        [skip; rfl; rfl; (first | exact .inl rfl | exact .inr rfl | exact .inl (setBank_staging _ _ _));
         (first | exact .inl rfl | exact .inr rfl | exact .inl (bundle_setBank_staging _ _ _)); rfl; rfl;
         (first | exact .inl rfl | exact .inr rfl)];
       first
        | with_reducible assumption
        | with_reducible apply setConn_kept)

theorem queueData_kept (h : Kept xs s0 s) (f : List Assembled) :
    Kept xs s0 (s.queueData f) := by
  unfold State.queueData
  repeat' first
    | with_reducible assumption
    | ((fail_if_no_progress extract_lets +onlyGivenNames s1); refine Kept.via s1 ?_ ?_ <;> [(dsimp -zeta only [s1]; clear s1); (clear_value s1; intro _)])
    | ((fail_if_no_progress extract_lets +onlyGivenNames x); first | (dsimp -zeta only [x]; clear x) | clear_value x)
    | with_reducible apply queueFrame_kept
    | with_reducible refine Kept.foldl _ _ (fun _ _ _ => ?_) ?_
    | with_reducible refine Kept.ite (fun _ => ?_) (fun _ => ?_)
    | ((with_reducible refine Kept.lit ?_ rfl ?_ ?_ ?_ ?_ ?_ ?_ ?_) <;>
        [skip; rfl; rfl; (first | exact .inl rfl | exact .inr rfl | exact .inl (setBank_staging _ _ _));
         (first | exact .inl rfl | exact .inr rfl | exact .inl (bundle_setBank_staging _ _ _)); rfl; rfl;
         (first | exact .inl rfl | exact .inr rfl)];
       first
        | with_reducible assumption
        | with_reducible apply queueFrame_kept
        | with_reducible refine Kept.foldl _ _ (fun _ _ _ => ?_) ?_)
    | split
    | dsimp -zeta only

theorem controlSent_kept (h : Kept xs s0 s) (sd : Side) (n : Nat) :
    Kept xs s0 (s.controlSent sd n) := by
  unfold State.controlSent
  repeat' first
    | with_reducible assumption
    | ((fail_if_no_progress extract_lets +onlyGivenNames s1); refine Kept.via s1 ?_ ?_ <;> [(dsimp -zeta only [s1]; clear s1); (clear_value s1; intro _)])
    | ((fail_if_no_progress extract_lets +onlyGivenNames x); first | (dsimp -zeta only [x]; clear x) | clear_value x)
    | with_reducible apply setConn_kept
    | with_reducible apply connEnter_kept
    | with_reducible refine Kept.ite (fun _ => ?_) (fun _ => ?_)
    | with_reducible refine Kept.foldl _ _ (fun _ _ _ => ?_) ?_
    | ((with_reducible refine Kept.lit ?_ rfl ?_ ?_ ?_ ?_ ?_ ?_ ?_) <;>
        [skip; rfl; rfl; (first | exact .inl rfl | exact .inr rfl | exact .inl (setBank_staging _ _ _));
         (first | exact .inl rfl | exact .inr rfl | exact .inl (bundle_setBank_staging _ _ _)); rfl; rfl;
         (first | exact .inl rfl | exact .inr rfl)];
       first
        | with_reducible assumption
        | with_reducible apply setConn_kept
        | with_reducible apply connEnter_kept
        | with_reducible refine Kept.foldl _ _ (fun _ _ _ => ?_) ?_)
    | split
    | dsimp -zeta only

theorem sendControl_kept (h : Kept xs s0 s) (n : Nat) :
    Kept xs s0 (s.sendControl n) := by
  unfold State.sendControl
  have one : ∀ {u : State}, Kept xs s0 u → ∀ sd, Kept xs s0 (if (u.owedControl sd n).isSome then u.controlSent sd n else u) :=
    fun hu sd => Kept.ite (fun _ => controlSent_kept hu sd n) (fun _ => hu)
  have both := one (one h .a) .b
  dsimp only
  split
  · exact Kept.ite (fun _ => event_kept both _ _ _) (fun _ => both)
  · exact queueFrame_kept both _ _
  · exact event_kept both _ _ _

theorem dropBuffer_kept (h : Kept xs s0 s) (port : Nat) (id : Nat) :
    Kept xs s0 (s.dropBuffer port id) := by
  unfold State.dropBuffer
  repeat' first
    | with_reducible assumption
    | ((fail_if_no_progress extract_lets +onlyGivenNames s1); refine Kept.via s1 ?_ ?_ <;> [(dsimp -zeta only [s1]; clear s1); (clear_value s1; intro _)])
    | ((fail_if_no_progress extract_lets +onlyGivenNames x); first | (dsimp -zeta only [x]; clear x) | clear_value x)
    | with_reducible apply setPort_kept
    | with_reducible apply pauseTx_kept
    | ((with_reducible refine Kept.lit ?_ rfl ?_ ?_ ?_ ?_ ?_ ?_ ?_) <;>
        [skip; rfl; rfl; (first | exact .inl rfl | exact .inr rfl | exact .inl (setBank_staging _ _ _));
         (first | exact .inl rfl | exact .inr rfl | exact .inl (bundle_setBank_staging _ _ _)); rfl; rfl;
         (first | exact .inl rfl | exact .inr rfl)];
       first
        | with_reducible assumption
        | with_reducible apply setPort_kept
        | with_reducible apply pauseTx_kept)
    | dsimp -zeta only

theorem takeDescriptor_kept (h : Kept xs s0 s) (sd : Side) (port : Nat) (d : Descriptor) :
    Kept xs s0 (s.takeDescriptor sd port d) := by
  unfold State.takeDescriptor
  repeat' first
    | with_reducible assumption
    | with_reducible apply setWindow_kept

theorem onCaptured_kept (h : Kept xs s0 s) (sd : Side) (port : Nat) (ft : Nat → Bool) {act : Descriptor → State → State}
    (ha : ∀ d {u}, Kept xs s0 u → Kept xs s0 (act d u)) : Kept xs s0 (s.onCaptured sd port ft act) := by
  unfold State.onCaptured
  refine Kept.ite (fun _ => h) (fun _ => ?_)
  split
  · exact h
  · exact ha _ (takeDescriptor_kept h _ _ _)

theorem crcReject_kept (h : Kept xs s0 s) (sd : Side) (n : Nat) :
    Kept xs s0 (s.crcReject sd n) := by
  unfold State.crcReject
  repeat' first
    | with_reducible assumption
    | ((fail_if_no_progress extract_lets +onlyGivenNames s1); refine Kept.via s1 ?_ ?_ <;> [(dsimp -zeta only [s1]; clear s1); (clear_value s1; intro _)])
    | ((fail_if_no_progress extract_lets +onlyGivenNames x); first | (dsimp -zeta only [x]; clear x) | clear_value x)
    | with_reducible apply setConn_kept
    | with_reducible apply event_kept
    | with_reducible apply connLose_kept
    | with_reducible refine Kept.ite (fun _ => ?_) (fun _ => ?_)
    | ((with_reducible refine Kept.lit ?_ rfl ?_ ?_ ?_ ?_ ?_ ?_ ?_) <;>
        [skip; rfl; rfl; (first | exact .inl rfl | exact .inr rfl | exact .inl (setBank_staging _ _ _));
         (first | exact .inl rfl | exact .inr rfl | exact .inl (bundle_setBank_staging _ _ _)); rfl; rfl;
         (first | exact .inl rfl | exact .inr rfl)];
       first
        | with_reducible assumption
        | with_reducible apply setConn_kept
        | with_reducible apply event_kept
        | with_reducible apply connLose_kept)
    | split
    | dsimp -zeta only

theorem dataAccepted_kept (h : Kept xs s0 s) (sd : Side) (n : Nat) (d : Nat) (p : DataPdu) :
    Kept xs s0 (s.dataAccepted sd n d p) := by
  unfold State.dataAccepted
  repeat' first
    | with_reducible assumption
    | ((fail_if_no_progress extract_lets +onlyGivenNames s1); refine Kept.via s1 ?_ ?_ <;> [(dsimp -zeta only [s1]; clear s1); (clear_value s1; intro _)])
    | ((fail_if_no_progress extract_lets +onlyGivenNames x); first | (dsimp -zeta only [x]; clear x) | clear_value x)
    | with_reducible apply setConn_kept
    | with_reducible apply connEnter_kept
    | with_reducible refine Kept.ite (fun _ => ?_) (fun _ => ?_)
    | ((with_reducible refine Kept.lit ?_ rfl ?_ ?_ ?_ ?_ ?_ ?_ ?_) <;>
        [skip; rfl; rfl; (first | exact .inl rfl | exact .inr rfl | exact .inl (setBank_staging _ _ _));
         (first | exact .inl rfl | exact .inr rfl | exact .inl (bundle_setBank_staging _ _ _)); rfl; rfl;
         (first | exact .inl rfl | exact .inr rfl)];
       first
        | with_reducible assumption
        | with_reducible apply setConn_kept
        | with_reducible apply connEnter_kept)
    | dsimp -zeta only

theorem announceAt_kept (h : Kept xs s0 s) (sd : Side) (equal : Bool) (gens : Nat) (n : Nat) :
    Kept xs s0 (s.announceAt sd equal gens n) := by
  unfold State.announceAt
  repeat' first
    | with_reducible assumption
    | ((fail_if_no_progress extract_lets +onlyGivenNames s1); refine Kept.via s1 ?_ ?_ <;> [(dsimp -zeta only [s1]; clear s1); (clear_value s1; intro _)])
    | ((fail_if_no_progress extract_lets +onlyGivenNames x); first | (dsimp -zeta only [x]; clear x) | clear_value x)
    | with_reducible apply setConn_kept
    | with_reducible apply connEnter_kept
    | with_reducible refine Kept.ite (fun _ => ?_) (fun _ => ?_)
    | ((with_reducible refine Kept.lit ?_ rfl ?_ ?_ ?_ ?_ ?_ ?_ ?_) <;>
        [skip; rfl; rfl; (first | exact .inl rfl | exact .inr rfl | exact .inl (setBank_staging _ _ _));
         (first | exact .inl rfl | exact .inr rfl | exact .inl (bundle_setBank_staging _ _ _)); rfl; rfl;
         (first | exact .inl rfl | exact .inr rfl)];
       first
        | with_reducible assumption
        | with_reducible apply setConn_kept
        | with_reducible apply connEnter_kept)
    | split
    | dsimp -zeta only

theorem openAccepted_kept (h : Kept xs s0 s) (sd : Side) (n : Nat) (port : Nat) (ds : Descriptor) (p : CtlPdu) :
    Kept xs s0 (s.openAccepted sd n port ds p) := by
  unfold State.openAccepted
  repeat' first
    | with_reducible assumption
    | ((fail_if_no_progress extract_lets +onlyGivenNames s1); refine Kept.via s1 ?_ ?_ <;> [(dsimp -zeta only [s1]; clear s1); (clear_value s1; intro _)])
    | ((fail_if_no_progress extract_lets +onlyGivenNames x); first | (dsimp -zeta only [x]; clear x) | clear_value x)
    | with_reducible apply setConn_kept
    | with_reducible apply learn_kept
    | with_reducible apply connEnter_kept
    | with_reducible refine Kept.ite (fun _ => ?_) (fun _ => ?_)
    | ((with_reducible refine Kept.lit ?_ rfl ?_ ?_ ?_ ?_ ?_ ?_ ?_) <;>
        [skip; rfl; rfl; (first | exact .inl rfl | exact .inr rfl | exact .inl (setBank_staging _ _ _));
         (first | exact .inl rfl | exact .inr rfl | exact .inl (bundle_setBank_staging _ _ _)); rfl; rfl;
         (first | exact .inl rfl | exact .inr rfl)];
       first
        | with_reducible assumption
        | with_reducible apply setConn_kept
        | with_reducible apply learn_kept
        | with_reducible apply connEnter_kept)
    | split
    | dsimp -zeta only

theorem takeOverRuns_kept (h : Kept xs s0 s) (sd : Side) (ns : List Nat) :
    Kept xs s0 (s.takeOverRuns sd ns) := by
  unfold State.takeOverRuns
  repeat' first
    | with_reducible assumption
    | ((fail_if_no_progress extract_lets +onlyGivenNames s1); refine Kept.via s1 ?_ ?_ <;> [(dsimp -zeta only [s1]; clear s1); (clear_value s1; intro _)])
    | ((fail_if_no_progress extract_lets +onlyGivenNames x); first | (dsimp -zeta only [x]; clear x) | clear_value x)
    | with_reducible apply setCell_kept
    | with_reducible refine Kept.foldl _ _ (fun _ _ _ => ?_) ?_
    | with_reducible refine Kept.ite (fun _ => ?_) (fun _ => ?_)
    | ((with_reducible refine Kept.lit ?_ rfl ?_ ?_ ?_ ?_ ?_ ?_ ?_) <;>
        [skip; rfl; rfl; (first | exact .inl rfl | exact .inr rfl | exact .inl (setBank_staging _ _ _));
         (first | exact .inl rfl | exact .inr rfl | exact .inl (bundle_setBank_staging _ _ _)); rfl; rfl;
         (first | exact .inl rfl | exact .inr rfl)];
       first
        | with_reducible assumption
        | with_reducible apply setCell_kept
        | with_reducible refine Kept.foldl _ _ (fun _ _ _ => ?_) ?_)
    | dsimp -zeta only

theorem abandonHandover_kept (h : Kept xs s0 s) :
    Kept xs s0 (s.abandonHandover) := by
  unfold State.abandonHandover
  repeat' first
    | with_reducible assumption
    | ((fail_if_no_progress extract_lets +onlyGivenNames s1); refine Kept.via s1 ?_ ?_ <;> [(dsimp -zeta only [s1]; clear s1); (clear_value s1; intro _)])
    | ((fail_if_no_progress extract_lets +onlyGivenNames x); first | (dsimp -zeta only [x]; clear x) | clear_value x)
    | with_reducible apply answer_kept
    | with_reducible apply event_kept
    | with_reducible refine Kept.ite (fun _ => ?_) (fun _ => ?_)
    | ((with_reducible refine Kept.lit ?_ rfl ?_ ?_ ?_ ?_ ?_ ?_ ?_) <;>
        [skip; rfl; rfl; (first | exact .inl rfl | exact .inr rfl | exact .inl (setBank_staging _ _ _));
         (first | exact .inl rfl | exact .inr rfl | exact .inl (bundle_setBank_staging _ _ _)); rfl; rfl;
         (first | exact .inl rfl | exact .inr rfl)];
       first
        | with_reducible assumption
        | with_reducible apply answer_kept
        | with_reducible apply event_kept)
    | split
    | dsimp -zeta only

theorem endStbWork_kept (h : Kept xs s0 s) :
    Kept xs s0 (s.endStbWork) := by
  unfold State.endStbWork
  repeat' first
    | with_reducible assumption
    | ((fail_if_no_progress extract_lets +onlyGivenNames s1); refine Kept.via s1 ?_ ?_ <;> [(dsimp -zeta only [s1]; clear s1); (clear_value s1; intro _)])
    | ((fail_if_no_progress extract_lets +onlyGivenNames x); first | (dsimp -zeta only [x]; clear x) | clear_value x)
    | with_reducible apply setLine_kept
    | with_reducible refine Kept.foldl _ _ (fun _ _ _ => ?_) ?_
    | ((with_reducible refine Kept.lit ?_ rfl ?_ ?_ ?_ ?_ ?_ ?_ ?_) <;>
        [skip; rfl; rfl; (first | exact .inl rfl | exact .inr rfl | exact .inl (setBank_staging _ _ _));
         (first | exact .inl rfl | exact .inr rfl | exact .inl (bundle_setBank_staging _ _ _)); rfl; rfl;
         (first | exact .inl rfl | exact .inr rfl)];
       first
        | with_reducible assumption
        | with_reducible apply setLine_kept
        | with_reducible refine Kept.foldl _ _ (fun _ _ _ => ?_) ?_)
    | split
    | dsimp -zeta only

theorem standIn_kept (h : Kept xs s0 s) (role : Nat) :
    Kept xs s0 (s.standIn role) := by
  unfold State.standIn
  repeat' first
    | with_reducible assumption
    | ((fail_if_no_progress extract_lets +onlyGivenNames s1); refine Kept.via s1 ?_ ?_ <;> [(dsimp -zeta only [s1]; clear s1); (clear_value s1; intro _)])
    | ((fail_if_no_progress extract_lets +onlyGivenNames x); first | (dsimp -zeta only [x]; clear x) | clear_value x)
    | with_reducible apply setPair_kept
    | with_reducible apply takeOverRuns_kept
    | with_reducible apply endStbWork_kept
    | with_reducible refine Kept.ite (fun _ => ?_) (fun _ => ?_)
    | ((with_reducible refine Kept.lit ?_ rfl ?_ ?_ ?_ ?_ ?_ ?_ ?_) <;>
        [skip; rfl; rfl; (first | exact .inl rfl | exact .inr rfl | exact .inl (setBank_staging _ _ _));
         (first | exact .inl rfl | exact .inr rfl | exact .inl (bundle_setBank_staging _ _ _)); rfl; rfl;
         (first | exact .inl rfl | exact .inr rfl)];
       first
        | with_reducible assumption
        | with_reducible apply setPair_kept
        | with_reducible apply takeOverRuns_kept
        | with_reducible apply endStbWork_kept)
    | split
    | dsimp -zeta only

theorem placeMoved_kept (h : Kept xs s0 s) (sd : Side) (from_ : Nat) :
    Kept xs s0 (s.placeMoved sd from_) := by
  unfold State.placeMoved
  repeat' first
    | with_reducible assumption
    | ((fail_if_no_progress extract_lets +onlyGivenNames s1); refine Kept.via s1 ?_ ?_ <;> [(dsimp -zeta only [s1]; clear s1); (clear_value s1; intro _)])
    | ((fail_if_no_progress extract_lets +onlyGivenNames x); first | (dsimp -zeta only [x]; clear x) | clear_value x)
    | with_reducible apply reissueCert_kept
    | with_reducible refine Kept.ite (fun _ => ?_) (fun _ => ?_)
    | with_reducible refine Kept.foldl _ _ (fun _ _ _ => ?_) ?_
    | ((with_reducible refine Kept.lit ?_ rfl ?_ ?_ ?_ ?_ ?_ ?_ ?_) <;>
        [skip; rfl; rfl; (first | exact .inl rfl | exact .inr rfl | exact .inl (setBank_staging _ _ _));
         (first | exact .inl rfl | exact .inr rfl | exact .inl (bundle_setBank_staging _ _ _)); rfl; rfl;
         (first | exact .inl rfl | exact .inr rfl)];
       first
        | with_reducible assumption
        | with_reducible apply reissueCert_kept
        | with_reducible refine Kept.foldl _ _ (fun _ _ _ => ?_) ?_)
    | split
    | dsimp -zeta only

theorem moveCells_kept (h : Kept xs s0 s) (sd : Side) (from_ : Nat) :
    Kept xs s0 (s.moveCells sd from_) := by
  unfold State.moveCells
  repeat' first
    | with_reducible assumption
    | ((fail_if_no_progress extract_lets +onlyGivenNames s1); refine Kept.via s1 ?_ ?_ <;> [(dsimp -zeta only [s1]; clear s1); (clear_value s1; intro _)])
    | ((fail_if_no_progress extract_lets +onlyGivenNames x); first | (dsimp -zeta only [x]; clear x) | clear_value x)
    | with_reducible apply placeMoved_kept
    | with_reducible apply takeOverRuns_kept
    | with_reducible refine Kept.ite (fun _ => ?_) (fun _ => ?_)
    | with_reducible refine Kept.foldl _ _ (fun _ _ _ => ?_) ?_
    | ((with_reducible refine Kept.lit ?_ rfl ?_ ?_ ?_ ?_ ?_ ?_ ?_) <;>
        [skip; rfl; rfl; (first | exact .inl rfl | exact .inr rfl | exact .inl (setBank_staging _ _ _));
         (first | exact .inl rfl | exact .inr rfl | exact .inl (bundle_setBank_staging _ _ _)); rfl; rfl;
         (first | exact .inl rfl | exact .inr rfl)];
       first
        | with_reducible assumption
        | with_reducible apply placeMoved_kept
        | with_reducible apply takeOverRuns_kept
        | with_reducible refine Kept.foldl _ _ (fun _ _ _ => ?_) ?_)
    | split
    | dsimp -zeta only

theorem noSupervisor_kept (h : Kept xs s0 s) : Kept xs s0 s.noSupervisor := by
  have one : ∀ (l : List Request) (u : State), l.foldl (fun s r => s.respond r stNOT_READY []) u =
      { u with host := { u.host with rsp := u.host.rsp ++ l.map (fun r => r.response u.host.session stNOT_READY []) } } := by
    intro l
    induction l with
    | nil => intro u; simp
    | cons r l ih => intro u; rw [List.foldl_cons, ih]; simp [State.respond]
  unfold State.noSupervisor
  dsimp only
  rw [one]
  refine h.host _ (List.Perm.subperm ?_)
  simp only [HostSt.held, List.map_append, List.map_map, Function.comp_def, Request.response, List.map_nil, List.nil_append]
  exact List.perm_append_comm.trans (List.perm_append_comm.append_right _)

theorem withoutStb_kept (h : Kept xs s0 s) (role : Nat) :
    Kept xs s0 (s.withoutStb role) := by
  unfold State.withoutStb
  repeat' first
    | with_reducible assumption
    | ((fail_if_no_progress extract_lets +onlyGivenNames s1); refine Kept.via s1 ?_ ?_ <;> [(dsimp -zeta only [s1]; clear s1); (clear_value s1; intro _)])
    | ((fail_if_no_progress extract_lets +onlyGivenNames x); first | (dsimp -zeta only [x]; clear x) | clear_value x)
    | with_reducible apply raise_kept
    | with_reducible apply moveCells_kept
    | with_reducible apply noSupervisor_kept
    | with_reducible refine Kept.foldl _ _ (fun _ _ _ => ?_) ?_
    | with_reducible refine Kept.ite (fun _ => ?_) (fun _ => ?_)
    | ((with_reducible refine Kept.lit ?_ rfl ?_ ?_ ?_ ?_ ?_ ?_ ?_) <;>
        [skip; rfl; rfl; (first | exact .inl rfl | exact .inr rfl | exact .inl (setBank_staging _ _ _));
         (first | exact .inl rfl | exact .inr rfl | exact .inl (bundle_setBank_staging _ _ _)); rfl; rfl;
         (first | exact .inl rfl | exact .inr rfl)];
       first
        | with_reducible assumption
        | with_reducible apply raise_kept
        | with_reducible apply moveCells_kept
        | with_reducible apply noSupervisor_kept
        | with_reducible refine Kept.foldl _ _ (fun _ _ _ => ?_) ?_)
    | split
    | dsimp -zeta only

theorem retirePair_kept (h : Kept xs s0 s) (p : Nat) :
    Kept xs s0 (s.retirePair p) := by
  unfold State.retirePair
  repeat' first
    | with_reducible assumption
    | ((fail_if_no_progress extract_lets +onlyGivenNames s1); refine Kept.via s1 ?_ ?_ <;> [(dsimp -zeta only [s1]; clear s1); (clear_value s1; intro _)])
    | ((fail_if_no_progress extract_lets +onlyGivenNames x); first | (dsimp -zeta only [x]; clear x) | clear_value x)
    | with_reducible apply setPair_kept
    | with_reducible apply domainOff_kept
    | with_reducible apply raise_kept
    | with_reducible apply abandonHandover_kept
    | with_reducible apply endStbWork_kept
    | with_reducible apply standIn_kept
    | with_reducible apply withoutStb_kept
    | with_reducible refine Kept.ite (fun _ => ?_) (fun _ => ?_)
    | ((with_reducible refine Kept.lit ?_ rfl ?_ ?_ ?_ ?_ ?_ ?_ ?_) <;>
        [skip; rfl; rfl; (first | exact .inl rfl | exact .inr rfl | exact .inl (setBank_staging _ _ _));
         (first | exact .inl rfl | exact .inr rfl | exact .inl (bundle_setBank_staging _ _ _)); rfl; rfl;
         (first | exact .inl rfl | exact .inr rfl)];
       first
        | with_reducible assumption
        | with_reducible apply setPair_kept
        | with_reducible apply domainOff_kept
        | with_reducible apply raise_kept
        | with_reducible apply abandonHandover_kept
        | with_reducible apply endStbWork_kept
        | with_reducible apply standIn_kept
        | with_reducible apply withoutStb_kept)
    | dsimp -zeta only

theorem rerun_kept (h : Kept xs s0 s) (sd : Side) (n : Nat) :
    Kept xs s0 (s.rerun sd n) := by
  unfold State.rerun
  repeat' first
    | with_reducible assumption
    | ((fail_if_no_progress extract_lets +onlyGivenNames s1); refine Kept.via s1 ?_ ?_ <;> [(dsimp -zeta only [s1]; clear s1); (clear_value s1; intro _)])
    | ((fail_if_no_progress extract_lets +onlyGivenNames x); first | (dsimp -zeta only [x]; clear x) | clear_value x)
    | with_reducible apply setCell_kept
    | ((with_reducible refine Kept.lit ?_ rfl ?_ ?_ ?_ ?_ ?_ ?_ ?_) <;>
        [skip; rfl; rfl; (first | exact .inl rfl | exact .inr rfl | exact .inl (setBank_staging _ _ _));
         (first | exact .inl rfl | exact .inr rfl | exact .inl (bundle_setBank_staging _ _ _)); rfl; rfl;
         (first | exact .inl rfl | exact .inr rfl)];
       first
        | with_reducible assumption
        | with_reducible apply setCell_kept)
    | split
    | dsimp -zeta only

theorem tickRecordLost_kept (h : Kept xs s0 s) (sd : Side) (role : Nat) (r : TickRecord) :
    Kept xs s0 (s.tickRecordLost sd role r) := by
  unfold State.tickRecordLost
  repeat' first
    | with_reducible assumption
    | ((fail_if_no_progress extract_lets +onlyGivenNames s1); refine Kept.via s1 ?_ ?_ <;> [(dsimp -zeta only [s1]; clear s1); (clear_value s1; intro _)])
    | ((fail_if_no_progress extract_lets +onlyGivenNames x); first | (dsimp -zeta only [x]; clear x) | clear_value x)
    | with_reducible apply setPairView_kept
    | with_reducible apply setPairGroup_kept
    | with_reducible apply setCell_kept
    | with_reducible apply setConn_kept
    | with_reducible refine Kept.ite (fun _ => ?_) (fun _ => ?_)
    | with_reducible refine Kept.foldl _ _ (fun _ _ _ => ?_) ?_
    | ((with_reducible refine Kept.lit ?_ rfl ?_ ?_ ?_ ?_ ?_ ?_ ?_) <;>
        [skip; rfl; rfl; (first | exact .inl rfl | exact .inr rfl | exact .inl (setBank_staging _ _ _));
         (first | exact .inl rfl | exact .inr rfl | exact .inl (bundle_setBank_staging _ _ _)); rfl; rfl;
         (first | exact .inl rfl | exact .inr rfl)];
       first
        | with_reducible assumption
        | with_reducible apply setPairView_kept
        | with_reducible apply setPairGroup_kept
        | with_reducible apply setCell_kept
        | with_reducible apply setConn_kept
        | with_reducible refine Kept.foldl _ _ (fun _ _ _ => ?_) ?_)
    | split
    | dsimp -zeta only

theorem refuseCfg_kept (h : Kept xs s0 s) (r : Request) (x : CfgRefusal) : Kept (r.tag :: xs) s0 (s.refuseCfg r x) :=
  respond_kept h _ _ _

theorem startTranslations_kept (h : Kept xs s0 s) :
    Kept xs s0 (s.startTranslations) := by
  unfold State.startTranslations
  exact h.lit rfl rfl rfl (.inl rfl) (.inl rfl) rfl rfl (.inl rfl)

theorem dropTranslations_kept (h : Kept xs s0 s) :
    Kept xs s0 (s.dropTranslations) := by
  unfold State.dropTranslations
  repeat' first
    | with_reducible assumption
    | with_reducible refine Kept.ite (fun _ => ?_) (fun _ => ?_)
    | ((with_reducible refine Kept.lit ?_ rfl ?_ ?_ ?_ ?_ ?_ ?_ ?_) <;>
        [skip; rfl; rfl; (first | exact .inl rfl | exact .inr rfl | exact .inl (setBank_staging _ _ _));
         (first | exact .inl rfl | exact .inr rfl | exact .inl (bundle_setBank_staging _ _ _)); rfl; rfl;
         (first | exact .inl rfl | exact .inr rfl)];
       first
        | with_reducible assumption)

end Sys2Proof.Laws
end

