-- ==== Sys2Proof/Laws/KeptChange.lean ====
section
/-! SUPPORT. What the operations of live changes, handovers, the tick and the services keep. -/

set_option linter.unusedTactic false
set_option linter.unreachableTactic false
set_option linter.unusedVariables false
set_option linter.unusedSimpArgs false

namespace Sys2Proof.Laws

open Sys2Proof.Machine Sys2Proof.Safety

variable {xs : List Nat} {s0 s t : State}
theorem commitItems_kept (h : Kept xs s0 s) (old : Option Container) (new : Container) :
    Kept xs s0 (s.commitItems old new) := by
  unfold State.commitItems
  repeat' first
    | with_reducible assumption
    | ((fail_if_no_progress extract_lets +onlyGivenNames s1); refine Kept.via s1 ?_ ?_ <;> [(dsimp -zeta only [s1]; clear s1); (clear_value s1; intro _)])
    | ((fail_if_no_progress extract_lets +onlyGivenNames x); first | (dsimp -zeta only [x]; clear x) | clear_value x)
    | with_reducible refine Kept.ite (fun _ => ?_) (fun _ => ?_)
    | ((with_reducible refine Kept.lit ?_ rfl ?_ ?_ ?_ ?_ ?_ ?_ ?_) <;>
        [skip; rfl; rfl; (first | exact .inl rfl | exact .inr rfl | exact .inl (setBank_staging _ _ _));
         (first | exact .inl rfl | exact .inr rfl | exact .inl (bundle_setBank_staging _ _ _)); rfl; rfl;
         (first | exact .inl rfl | exact .inr rfl)];
       first
        | with_reducible assumption)
    | split
    | dsimp -zeta only

theorem commitMarker_kept (h : Kept xs s0 s) (sequence : Nat) (hash : List Byte) :
    Kept xs s0 (s.commitMarker sequence hash) := by
  unfold State.commitMarker
  repeat' first
    | with_reducible assumption
    | ((fail_if_no_progress extract_lets +onlyGivenNames s1); refine Kept.via s1 ?_ ?_ <;> [(dsimp -zeta only [s1]; clear s1); (clear_value s1; intro _)])
    | ((fail_if_no_progress extract_lets +onlyGivenNames x); first | (dsimp -zeta only [x]; clear x) | clear_value x)
    | with_reducible apply marker_kept
    | dsimp -zeta only

theorem commitNow_kept (h : Kept xs s0 s) (a : Admission) (x : Admitted) :
    Kept xs s0 (s.commitNow a x) := by
  unfold State.commitNow
  repeat' first
    | with_reducible assumption
    | ((fail_if_no_progress extract_lets +onlyGivenNames s1); refine Kept.via s1 ?_ ?_ <;> [(dsimp -zeta only [s1]; clear s1); (clear_value s1; intro _)])
    | ((fail_if_no_progress extract_lets +onlyGivenNames x); first | (dsimp -zeta only [x]; clear x) | clear_value x)
    | with_reducible apply answer_kept
    | with_reducible apply signCert_kept
    | with_reducible apply enterVerify_kept
    | with_reducible apply commitItems_kept
    | with_reducible apply commitMarker_kept
    | ((with_reducible refine Kept.lit ?_ rfl ?_ ?_ ?_ ?_ ?_ ?_ ?_) <;>
        [skip; rfl; rfl; (first | exact .inl rfl | exact .inr rfl | exact .inl (setBank_staging _ _ _));
         (first | exact .inl rfl | exact .inr rfl | exact .inl (bundle_setBank_staging _ _ _)); rfl; rfl;
         (first | exact .inl rfl | exact .inr rfl)];
       first
        | with_reducible assumption
        | with_reducible apply answer_kept
        | with_reducible apply signCert_kept
        | with_reducible apply enterVerify_kept
        | with_reducible apply commitItems_kept
        | with_reducible apply commitMarker_kept)
    | dsimp -zeta only

theorem withdrawLive_kept (h : Kept xs s0 s) : Kept xs s0 s.withdrawLive :=
  h.upd rfl rfl rfl (.inl rfl) (.inl rfl) rfl rfl (.inl rfl)

theorem renumber_kept (h : Kept xs s0 s) (l : LiveCommit) : Kept xs s0 (s.renumber l) :=
  h.upd rfl rfl rfl (.inl rfl) (.inl rfl) rfl rfl (.inl rfl)

theorem commitLive_kept (h : Kept xs s0 s) (a : Admission) (x : Admitted) (run : RunCfg) :
    Kept xs s0 (s.commitLive a x run) := by
  unfold State.commitLive
  repeat' first
    | with_reducible assumption
    | ((fail_if_no_progress extract_lets +onlyGivenNames s1); refine Kept.via s1 ?_ ?_ <;> [(dsimp -zeta only [s1]; clear s1); (clear_value s1; intro _)])
    | ((fail_if_no_progress extract_lets +onlyGivenNames x); first | (dsimp -zeta only [x]; clear x) | clear_value x)
    | with_reducible apply withdrawLive_kept
    | with_reducible apply renumber_kept
    | with_reducible apply setLine_kept
    | with_reducible apply answer_kept
    | with_reducible apply signCert_kept
    | with_reducible apply calDrop_kept
    | with_reducible refine Kept.ite (fun _ => ?_) (fun _ => ?_)
    | with_reducible refine Kept.foldl _ _ (fun _ _ _ => ?_) ?_
    | ((with_reducible refine Kept.lit ?_ rfl ?_ ?_ ?_ ?_ ?_ ?_ ?_) <;>
        [skip; rfl; rfl; (first | exact .inl rfl | exact .inr rfl | exact .inl (setBank_staging _ _ _));
         (first | exact .inl rfl | exact .inr rfl | exact .inl (bundle_setBank_staging _ _ _)); rfl; rfl;
         (first | exact .inl rfl | exact .inr rfl)];
       first
        | with_reducible assumption
        | with_reducible apply withdrawLive_kept
        | with_reducible apply renumber_kept
        | with_reducible apply setLine_kept
        | with_reducible apply answer_kept
        | with_reducible apply signCert_kept
        | with_reducible apply calDrop_kept
        | with_reducible refine Kept.foldl _ _ (fun _ _ _ => ?_) ?_)
    | split
    | dsimp -zeta only

theorem rejudge_kept (h : Kept xs s0 s) :
    Kept xs s0 s.rejudge := by
  unfold State.rejudge
  repeat' first
    | with_reducible assumption
    | ((fail_if_no_progress extract_lets +onlyGivenNames s1); refine Kept.via s1 ?_ ?_ <;> [(dsimp -zeta only [s1]; clear s1); (clear_value s1; intro _)])
    | ((fail_if_no_progress extract_lets +onlyGivenNames x); first | (dsimp -zeta only [x]; clear x) | clear_value x)
    | with_reducible apply react_kept
    | with_reducible apply severityEffect_kept
    | with_reducible apply crst_kept
    | with_reducible apply brst_kept
    | with_reducible refine Kept.foldl _ _ (fun _ _ _ => ?_) ?_
    | with_reducible refine Kept.ite (fun _ => ?_) (fun _ => ?_)
    | ((with_reducible refine Kept.lit ?_ rfl ?_ ?_ ?_ ?_ ?_ ?_ ?_) <;>
        [skip; rfl; rfl; (first | exact .inl rfl | exact .inr rfl | exact .inl (setBank_staging _ _ _));
         (first | exact .inl rfl | exact .inr rfl | exact .inl (bundle_setBank_staging _ _ _)); rfl; rfl;
         (first | exact .inl rfl | exact .inr rfl)];
       first
        | with_reducible assumption
        | with_reducible apply react_kept
        | with_reducible apply severityEffect_kept
        | with_reducible apply crst_kept
        | with_reducible apply brst_kept
        | with_reducible refine Kept.foldl _ _ (fun _ _ _ => ?_) ?_)
    | split
    | dsimp -zeta only

theorem placeRetired_kept (h : Kept xs s0 s) :
    Kept xs s0 (s.placeRetired) := by
  unfold State.placeRetired
  repeat' first
    | with_reducible assumption
    | ((fail_if_no_progress extract_lets +onlyGivenNames s1); refine Kept.via s1 ?_ ?_ <;> [(dsimp -zeta only [s1]; clear s1); (clear_value s1; intro _)])
    | ((fail_if_no_progress extract_lets +onlyGivenNames x); first | (dsimp -zeta only [x]; clear x) | clear_value x)
    | with_reducible apply placeMoved_kept
    | with_reducible apply raise_kept
    | with_reducible refine Kept.ite (fun _ => ?_) (fun _ => ?_)
    | with_reducible refine Kept.foldl _ _ (fun _ _ _ => ?_) ?_
    | ((with_reducible refine Kept.lit ?_ rfl ?_ ?_ ?_ ?_ ?_ ?_ ?_) <;>
        [skip; rfl; rfl; (first | exact .inl rfl | exact .inr rfl | exact .inl (setBank_staging _ _ _));
         (first | exact .inl rfl | exact .inr rfl | exact .inl (bundle_setBank_staging _ _ _)); rfl; rfl;
         (first | exact .inl rfl | exact .inr rfl)];
       first
        | with_reducible assumption
        | with_reducible apply placeMoved_kept
        | with_reducible apply raise_kept
        | with_reducible refine Kept.foldl _ _ (fun _ _ _ => ?_) ?_)
    | split
    | dsimp -zeta only

theorem tickCommit_kept (h : Kept xs s0 s) (x : PendingTick) (l : LiveCommit) :
    Kept xs s0 (s.tickCommit x l) := by
  unfold State.tickCommit
  repeat' first
    | with_reducible assumption
    | ((fail_if_no_progress extract_lets +onlyGivenNames s1); refine Kept.via s1 ?_ ?_ <;> [(dsimp -zeta only [s1]; clear s1); (clear_value s1; intro _)])
    | ((fail_if_no_progress extract_lets +onlyGivenNames x); first | (dsimp -zeta only [x]; clear x) | clear_value x)
    | with_reducible apply commitItems_kept
    | with_reducible apply commitMarker_kept
    | with_reducible apply reissueCert_kept
    | with_reducible apply rejudge_kept
    | with_reducible apply placeRetired_kept
    | with_reducible refine Kept.ite (fun _ => ?_) (fun _ => ?_)
    | with_reducible refine Kept.foldl _ _ (fun _ _ _ => ?_) ?_
    | ((with_reducible refine Kept.lit ?_ rfl ?_ ?_ ?_ ?_ ?_ ?_ ?_) <;>
        [skip; rfl; rfl; (first | exact .inl rfl | exact .inr rfl | exact .inl (setBank_staging _ _ _));
         (first | exact .inl rfl | exact .inr rfl | exact .inl (bundle_setBank_staging _ _ _)); rfl; rfl;
         (first | exact .inl rfl | exact .inr rfl)];
       first
        | with_reducible assumption
        | with_reducible apply commitItems_kept
        | with_reducible apply commitMarker_kept
        | with_reducible apply reissueCert_kept
        | with_reducible apply rejudge_kept
        | with_reducible apply placeRetired_kept
        | with_reducible refine Kept.foldl _ _ (fun _ _ _ => ?_) ?_)
    | dsimp -zeta only

theorem lastTick_kept (h : Kept xs s0 s) (l : LiveCommit) : Kept xs s0 (s.lastTick l) := tickCommit_kept h _ _

theorem endS3_kept (h : Kept xs s0 s) : Kept xs s0 s.endS3 := h.upd rfl rfl rfl (.inl rfl) (.inl rfl) rfl rfl (.inl rfl)

theorem finishLive_kept (h : Kept xs s0 s) :
    Kept xs s0 (s.finishLive) := by
  unfold State.finishLive
  repeat' first
    | with_reducible assumption
    | with_reducible refine Kept.ite (fun _ => ?_) (fun _ => ?_)
    | ((with_reducible refine Kept.lit ?_ rfl ?_ ?_ ?_ ?_ ?_ ?_ ?_) <;>
        [skip; rfl; rfl; (first | exact .inl rfl | exact .inr rfl | exact .inl (setBank_staging _ _ _));
         (first | exact .inl rfl | exact .inr rfl | exact .inl (bundle_setBank_staging _ _ _)); rfl; rfl;
         (first | exact .inl rfl | exact .inr rfl)];
       first
        | with_reducible assumption)
    | split
    | dsimp -zeta only

theorem freeShadows_kept (h : Kept xs s0 s) :
    Kept xs s0 (s.freeShadows) := by
  unfold State.freeShadows
  repeat' first
    | with_reducible assumption
    | ((fail_if_no_progress extract_lets +onlyGivenNames s1); refine Kept.via s1 ?_ ?_ <;> [(dsimp -zeta only [s1]; clear s1); (clear_value s1; intro _)])
    | ((fail_if_no_progress extract_lets +onlyGivenNames x); first | (dsimp -zeta only [x]; clear x) | clear_value x)
    | with_reducible refine Kept.ite (fun _ => ?_) (fun _ => ?_)
    | ((with_reducible refine Kept.lit ?_ rfl ?_ ?_ ?_ ?_ ?_ ?_ ?_) <;>
        [skip; rfl; rfl; (first | exact .inl rfl | exact .inr rfl | exact .inl (setBank_staging _ _ _));
         (first | exact .inl rfl | exact .inr rfl | exact .inl (bundle_setBank_staging _ _ _)); rfl; rfl;
         (first | exact .inl rfl | exact .inr rfl)];
       first
        | with_reducible assumption)
    | dsimp -zeta only

theorem putStaging_kept (h : Kept xs s0 s) (x : Staging) (hx : StagingOk s.bundles.staging → StagingOk (some x)) : Kept xs s0 (s.putStaging x) :=
  ⟨h.pending, h.fuses, h.prog, h.held, h.container, fun z => hx (h.bundle z), h.opens, h.run, h.records⟩

theorem activate_kept (h : Kept xs s0 s) (i : Nat) : Kept xs s0 (s.activate i) :=
  h.upd rfl rfl rfl (.inl rfl) (.inl (bundle_setBank_staging _ _ _)) rfl rfl (.inl rfl)

theorem bundleMarker_kept (h : Kept xs s0 s) (bank : Nat) (m : Manifest) :
    Kept xs s0 (s.bundleMarker bank m) := by
  unfold State.bundleMarker
  repeat' first
    | with_reducible assumption
    | with_reducible apply marker_kept

theorem recordBundle_kept (h : Kept xs s0 s) (bank : Nat) (m : Manifest) : Kept xs s0 (s.recordBundle bank m) := by
  unfold State.recordBundle
  exact Kept.ite (fun _ => h) (fun _ => h.upd rfl rfl rfl (.inl rfl) (.inl rfl) rfl rfl (.inl rfl))

theorem activateByReset_kept (h : Kept xs s0 s) (r : Request) (m : Manifest) : Kept (r.tag :: xs) s0 (s.activateByReset r m) := by
  unfold State.activateByReset
  extract_lets i u t
  have k : Kept xs s0 t := chipReset_kept (recordBundle_kept (activate_kept h i) i m) 3
  refine ⟨k.pending, k.fuses, k.prog, ?_, k.container, k.bundle, k.opens, k.run, k.records⟩
  exact List.Sublist.subperm (List.Sublist.cons_cons _ (List.nil_sublist _))

theorem startHandover_kept (h : Kept xs s0 s) (r : Request) (old new : Manifest) : Kept (r.tag :: xs) s0 (s.startHandover r old new) :=
  (wait_kept h r .activate).upd rfl rfl rfl (.inl rfl) (.inl rfl) rfl rfl (.inl rfl)

theorem refuseBegun_kept (h : Kept xs s0 s) :
    Kept xs s0 (s.refuseBegun) := by
  unfold State.refuseBegun
  repeat' first
    | with_reducible assumption
    | ((fail_if_no_progress extract_lets +onlyGivenNames s1); refine Kept.via s1 ?_ ?_ <;> [(dsimp -zeta only [s1]; clear s1); (clear_value s1; intro _)])
    | ((fail_if_no_progress extract_lets +onlyGivenNames x); first | (dsimp -zeta only [x]; clear x) | clear_value x)
    | with_reducible apply answer_kept
    | with_reducible refine Kept.foldl _ _ (fun _ _ _ => ?_) ?_
    | with_reducible refine Kept.ite (fun _ => ?_) (fun _ => ?_)
    | ((with_reducible refine Kept.lit ?_ rfl ?_ ?_ ?_ ?_ ?_ ?_ ?_) <;>
        [skip; rfl; rfl; (first | exact .inl rfl | exact .inr rfl | exact .inl (setBank_staging _ _ _));
         (first | exact .inl rfl | exact .inr rfl | exact .inl (bundle_setBank_staging _ _ _)); rfl; rfl;
         (first | exact .inl rfl | exact .inr rfl)];
       first
        | with_reducible assumption
        | with_reducible apply answer_kept
        | with_reducible refine Kept.foldl _ _ (fun _ _ _ => ?_) ?_)
    | dsimp -zeta only

theorem swapRoles_kept (h : Kept xs s0 s) :
    Kept xs s0 (s.swapRoles) := by
  unfold State.swapRoles
  repeat' first
    | with_reducible assumption
    | ((fail_if_no_progress extract_lets +onlyGivenNames s1); refine Kept.via s1 ?_ ?_ <;> [(dsimp -zeta only [s1]; clear s1); (clear_value s1; intro _)])
    | ((fail_if_no_progress extract_lets +onlyGivenNames x); first | (dsimp -zeta only [x]; clear x) | clear_value x)
    | with_reducible apply setPair_kept
    | ((with_reducible refine Kept.lit ?_ rfl ?_ ?_ ?_ ?_ ?_ ?_ ?_) <;>
        [skip; rfl; rfl; (first | exact .inl rfl | exact .inr rfl | exact .inl (setBank_staging _ _ _));
         (first | exact .inl rfl | exact .inr rfl | exact .inl (bundle_setBank_staging _ _ _)); rfl; rfl;
         (first | exact .inl rfl | exact .inr rfl)];
       first
        | with_reducible assumption
        | with_reducible apply setPair_kept)
    | dsimp -zeta only

theorem agreeImage_kept (h : Kept xs s0 s) (dis : List Disagreement) (p : Nat) : Kept xs s0 (s.agreeImage dis p) := by
  unfold State.agreeImage
  exact Kept.ite (fun _ => h) (fun _ => setPair_kept h _ _)

theorem agreePair_kept (h : Kept xs s0 s) (dis : List Disagreement) (p : Nat) :
    Kept xs s0 (s.agreePair dis p) := by
  unfold State.agreePair
  repeat' first
    | with_reducible assumption
    | ((fail_if_no_progress extract_lets +onlyGivenNames s1); refine Kept.via s1 ?_ ?_ <;> [(dsimp -zeta only [s1]; clear s1); (clear_value s1; intro _)])
    | ((fail_if_no_progress extract_lets +onlyGivenNames x); first | (dsimp -zeta only [x]; clear x) | clear_value x)
    | with_reducible apply agreeImage_kept
    | with_reducible apply capture_kept
    | with_reducible refine Kept.ite (fun _ => ?_) (fun _ => ?_)
    | with_reducible refine Kept.foldl _ _ (fun _ _ _ => ?_) ?_
    | ((with_reducible refine Kept.lit ?_ rfl ?_ ?_ ?_ ?_ ?_ ?_ ?_) <;>
        [skip; rfl; rfl; (first | exact .inl rfl | exact .inr rfl | exact .inl (setBank_staging _ _ _));
         (first | exact .inl rfl | exact .inr rfl | exact .inl (bundle_setBank_staging _ _ _)); rfl; rfl;
         (first | exact .inl rfl | exact .inr rfl)];
       first
        | with_reducible assumption
        | with_reducible apply agreeImage_kept
        | with_reducible apply capture_kept
        | with_reducible refine Kept.foldl _ _ (fun _ _ _ => ?_) ?_)
    | split
    | dsimp -zeta only

theorem flipImage_kept (h : Kept xs s0 s) :
    Kept xs s0 (s.flipImage) := by
  unfold State.flipImage
  repeat' first
    | with_reducible assumption
    | ((fail_if_no_progress extract_lets +onlyGivenNames s1); refine Kept.via s1 ?_ ?_ <;> [(dsimp -zeta only [s1]; clear s1); (clear_value s1; intro _)])
    | ((fail_if_no_progress extract_lets +onlyGivenNames x); first | (dsimp -zeta only [x]; clear x) | clear_value x)
    | with_reducible apply answer_kept
    | with_reducible refine Kept.ite (fun _ => ?_) (fun _ => ?_)
    | ((with_reducible refine Kept.lit ?_ rfl ?_ ?_ ?_ ?_ ?_ ?_ ?_) <;>
        [skip; rfl; rfl; (first | exact .inl rfl | exact .inr rfl | exact .inl (setBank_staging _ _ _));
         (first | exact .inl rfl | exact .inr rfl | exact .inl (bundle_setBank_staging _ _ _)); rfl; rfl;
         (first | exact .inl rfl | exact .inr rfl)];
       first
        | with_reducible assumption
        | with_reducible apply answer_kept)
    | dsimp -zeta only

theorem captureRequests_kept (h : Kept xs s0 s) (dis : List Disagreement) : Kept xs s0 (s.captureRequests dis) := by
  unfold State.captureRequests
  repeat' first
    | with_reducible assumption
    | with_reducible refine Kept.ite (fun _ => ?_) (fun _ => ?_)
    | exact h.host _ (List.Perm.subperm (by simp [HostSt.held, Function.comp_def]))
    | ((fail_if_no_progress extract_lets +onlyGivenNames s1); refine Kept.via s1 ?_ ?_ <;> [(dsimp -zeta only [s1]; clear s1); (clear_value s1; intro _)])
    | ((fail_if_no_progress extract_lets +onlyGivenNames x); first | (dsimp -zeta only [x]; clear x) | clear_value x)

theorem takeRun_kept (h : Kept xs s0 s) (hr : s0.dev.st = .run) : Kept xs s0 s.takeRun := by
  unfold State.takeRun
  exact Kept.ite (fun _ => h) (fun _ => Kept.ite (fun _ => enterRun_kept h hr) (fun _ => answer_kept h _ _ _))

theorem captureWindow_kept (h : Kept xs s0 s) (dis : List Disagreement) (k : Nat) (sd : Side) :
    Kept xs s0 (s.captureWindow dis k sd) := by
  unfold State.captureWindow
  repeat' first
    | with_reducible assumption
    | ((fail_if_no_progress extract_lets +onlyGivenNames s1); refine Kept.via s1 ?_ ?_ <;> [(dsimp -zeta only [s1]; clear s1); (clear_value s1; intro _)])
    | ((fail_if_no_progress extract_lets +onlyGivenNames x); first | (dsimp -zeta only [x]; clear x) | clear_value x)
    | with_reducible apply setPort_kept
    | with_reducible apply setWindow_kept
    | with_reducible refine Kept.ite (fun _ => ?_) (fun _ => ?_)
    | ((with_reducible refine Kept.lit ?_ rfl ?_ ?_ ?_ ?_ ?_ ?_ ?_) <;>
        [skip; rfl; rfl; (first | exact .inl rfl | exact .inr rfl | exact .inl (setBank_staging _ _ _));
         (first | exact .inl rfl | exact .inr rfl | exact .inl (bundle_setBank_staging _ _ _)); rfl; rfl;
         (first | exact .inl rfl | exact .inr rfl)];
       first
        | with_reducible assumption
        | with_reducible apply setPort_kept
        | with_reducible apply setWindow_kept)
    | split
    | dsimp -zeta only

theorem dropCaptured_kept (h : Kept xs s0 s) (k : Nat) (sd : Side) :
    Kept xs s0 (s.dropCaptured k sd) := by
  unfold State.dropCaptured
  repeat' first
    | with_reducible assumption
    | ((fail_if_no_progress extract_lets +onlyGivenNames s1); refine Kept.via s1 ?_ ?_ <;> [(dsimp -zeta only [s1]; clear s1); (clear_value s1; intro _)])
    | ((fail_if_no_progress extract_lets +onlyGivenNames x); first | (dsimp -zeta only [x]; clear x) | clear_value x)
    | with_reducible apply setWindow_kept
    | with_reducible refine Kept.ite (fun _ => ?_) (fun _ => ?_)
    | with_reducible refine Kept.foldl _ _ (fun _ _ _ => ?_) ?_
    | ((with_reducible refine Kept.lit ?_ rfl ?_ ?_ ?_ ?_ ?_ ?_ ?_) <;>
        [skip; rfl; rfl; (first | exact .inl rfl | exact .inr rfl | exact .inl (setBank_staging _ _ _));
         (first | exact .inl rfl | exact .inr rfl | exact .inl (bundle_setBank_staging _ _ _)); rfl; rfl;
         (first | exact .inl rfl | exact .inr rfl)];
       first
        | with_reducible assumption
        | with_reducible apply setWindow_kept
        | with_reducible refine Kept.foldl _ _ (fun _ _ _ => ?_) ?_)
    | split
    | dsimp -zeta only

theorem tickWeir_kept (h : Kept xs s0 s) (dis : List Disagreement) :
    Kept xs s0 (s.tickWeir dis) := by
  unfold State.tickWeir
  repeat' first
    | with_reducible assumption
    | ((fail_if_no_progress extract_lets +onlyGivenNames s1); refine Kept.via s1 ?_ ?_ <;> [(dsimp -zeta only [s1]; clear s1); (clear_value s1; intro _)])
    | ((fail_if_no_progress extract_lets +onlyGivenNames x); first | (dsimp -zeta only [x]; clear x) | clear_value x)
    | with_reducible apply pauseTx_kept
    | with_reducible apply releaseBuffers_kept
    | with_reducible apply copyDescriptors_kept
    | with_reducible apply captureWindow_kept
    | with_reducible apply dropCaptured_kept
    | with_reducible refine Kept.ite (fun _ => ?_) (fun _ => ?_)
    | with_reducible refine Kept.foldl _ _ (fun _ _ _ => ?_) ?_
    | ((with_reducible refine Kept.lit ?_ rfl ?_ ?_ ?_ ?_ ?_ ?_ ?_) <;>
        [skip; rfl; rfl; (first | exact .inl rfl | exact .inr rfl | exact .inl (setBank_staging _ _ _));
         (first | exact .inl rfl | exact .inr rfl | exact .inl (bundle_setBank_staging _ _ _)); rfl; rfl;
         (first | exact .inl rfl | exact .inr rfl)];
       first
        | with_reducible assumption
        | with_reducible apply pauseTx_kept
        | with_reducible apply releaseBuffers_kept
        | with_reducible apply copyDescriptors_kept
        | with_reducible apply captureWindow_kept
        | with_reducible apply dropCaptured_kept
        | with_reducible refine Kept.foldl _ _ (fun _ _ _ => ?_) ?_)
    | split
    | dsimp -zeta only

theorem changeChannel_kept (h : Kept xs s0 s) (c : Nat) :
    Kept xs s0 (s.changeChannel c) := by
  unfold State.changeChannel
  repeat' first
    | with_reducible assumption
    | ((fail_if_no_progress extract_lets +onlyGivenNames s1); refine Kept.via s1 ?_ ?_ <;> [(dsimp -zeta only [s1]; clear s1); (clear_value s1; intro _)])
    | ((fail_if_no_progress extract_lets +onlyGivenNames x); first | (dsimp -zeta only [x]; clear x) | clear_value x)
    | with_reducible apply setPairView_kept
    | with_reducible apply setView_kept
    | with_reducible apply setCov_kept
    | with_reducible apply restartCoupler_kept
    | with_reducible apply clear_kept
    | with_reducible refine Kept.foldl _ _ (fun _ _ _ => ?_) ?_
    | with_reducible refine Kept.ite (fun _ => ?_) (fun _ => ?_)
    | ((with_reducible refine Kept.lit ?_ rfl ?_ ?_ ?_ ?_ ?_ ?_ ?_) <;>
        [skip; rfl; rfl; (first | exact .inl rfl | exact .inr rfl | exact .inl (setBank_staging _ _ _));
         (first | exact .inl rfl | exact .inr rfl | exact .inl (bundle_setBank_staging _ _ _)); rfl; rfl;
         (first | exact .inl rfl | exact .inr rfl)];
       first
        | with_reducible assumption
        | with_reducible apply setPairView_kept
        | with_reducible apply setView_kept
        | with_reducible apply setCov_kept
        | with_reducible apply restartCoupler_kept
        | with_reducible apply clear_kept
        | with_reducible refine Kept.foldl _ _ (fun _ _ _ => ?_) ?_)
    | dsimp -zeta only

theorem closeLive_kept (h : Kept xs s0 s) :
    Kept xs s0 (s.closeLive) := by
  unfold State.closeLive
  repeat' first
    | with_reducible assumption
    | ((fail_if_no_progress extract_lets +onlyGivenNames s1); refine Kept.via s1 ?_ ?_ <;> [(dsimp -zeta only [s1]; clear s1); (clear_value s1; intro _)])
    | ((fail_if_no_progress extract_lets +onlyGivenNames x); first | (dsimp -zeta only [x]; clear x) | clear_value x)
    | with_reducible apply lastTick_kept
    | with_reducible apply changeChannel_kept
    | with_reducible refine Kept.ite (fun _ => ?_) (fun _ => ?_)
    | with_reducible refine Kept.foldl _ _ (fun _ _ _ => ?_) ?_
    | ((with_reducible refine Kept.lit ?_ rfl ?_ ?_ ?_ ?_ ?_ ?_ ?_) <;>
        [skip; rfl; rfl; (first | exact .inl rfl | exact .inr rfl | exact .inl (setBank_staging _ _ _));
         (first | exact .inl rfl | exact .inr rfl | exact .inl (bundle_setBank_staging _ _ _)); rfl; rfl;
         (first | exact .inl rfl | exact .inr rfl)];
       first
        | with_reducible assumption
        | with_reducible apply lastTick_kept
        | with_reducible apply changeChannel_kept
        | with_reducible refine Kept.foldl _ _ (fun _ _ _ => ?_) ?_)
    | split
    | dsimp -zeta only

theorem tickChanges_kept (h : Kept xs s0 s) :
    Kept xs s0 (s.tickChanges) := by
  unfold State.tickChanges
  repeat' first
    | with_reducible assumption
    | ((fail_if_no_progress extract_lets +onlyGivenNames s1); refine Kept.via s1 ?_ ?_ <;> [(dsimp -zeta only [s1]; clear s1); (clear_value s1; intro _)])
    | ((fail_if_no_progress extract_lets +onlyGivenNames x); first | (dsimp -zeta only [x]; clear x) | clear_value x)
    | with_reducible apply connReset_kept
    | with_reducible apply changeChannel_kept
    | with_reducible refine Kept.foldl _ _ (fun _ _ _ => ?_) ?_
    | ((with_reducible refine Kept.lit ?_ rfl ?_ ?_ ?_ ?_ ?_ ?_ ?_) <;>
        [skip; rfl; rfl; (first | exact .inl rfl | exact .inr rfl | exact .inl (setBank_staging _ _ _));
         (first | exact .inl rfl | exact .inr rfl | exact .inl (bundle_setBank_staging _ _ _)); rfl; rfl;
         (first | exact .inl rfl | exact .inr rfl)];
       first
        | with_reducible assumption
        | with_reducible apply connReset_kept
        | with_reducible apply changeChannel_kept
        | with_reducible refine Kept.foldl _ _ (fun _ _ _ => ?_) ?_)
    | split
    | dsimp -zeta only

theorem tickBits_kept (h : Kept xs s0 s) (sd : Side) :
    Kept xs s0 (s.tickBits sd) := by
  unfold State.tickBits
  repeat' first
    | with_reducible assumption
    | ((fail_if_no_progress extract_lets +onlyGivenNames s1); refine Kept.via s1 ?_ ?_ <;> [(dsimp -zeta only [s1]; clear s1); (clear_value s1; intro _)])
    | ((fail_if_no_progress extract_lets +onlyGivenNames x); first | (dsimp -zeta only [x]; clear x) | clear_value x)
    | with_reducible apply setView_kept
    | with_reducible apply setPairView_kept
    | with_reducible refine Kept.ite (fun _ => ?_) (fun _ => ?_)
    | with_reducible refine Kept.foldl _ _ (fun _ _ _ => ?_) ?_
    | ((with_reducible refine Kept.lit ?_ rfl ?_ ?_ ?_ ?_ ?_ ?_ ?_) <;>
        [skip; rfl; rfl; (first | exact .inl rfl | exact .inr rfl | exact .inl (setBank_staging _ _ _));
         (first | exact .inl rfl | exact .inr rfl | exact .inl (bundle_setBank_staging _ _ _)); rfl; rfl;
         (first | exact .inl rfl | exact .inr rfl)];
       first
        | with_reducible assumption
        | with_reducible apply setView_kept
        | with_reducible apply setPairView_kept
        | with_reducible refine Kept.foldl _ _ (fun _ _ _ => ?_) ?_)
    | split
    | dsimp -zeta only

theorem tickCurrent_kept (h : Kept xs s0 s) (sd : Side) (g : Nat) :
    Kept xs s0 (s.tickCurrent sd g) := by
  unfold State.tickCurrent
  repeat' first
    | with_reducible assumption
    | ((fail_if_no_progress extract_lets +onlyGivenNames s1); refine Kept.via s1 ?_ ?_ <;> [(dsimp -zeta only [s1]; clear s1); (clear_value s1; intro _)])
    | ((fail_if_no_progress extract_lets +onlyGivenNames x); first | (dsimp -zeta only [x]; clear x) | clear_value x)
    | with_reducible apply setGview_kept
    | with_reducible refine Kept.ite (fun _ => ?_) (fun _ => ?_)
    | ((with_reducible refine Kept.lit ?_ rfl ?_ ?_ ?_ ?_ ?_ ?_ ?_) <;>
        [skip; rfl; rfl; (first | exact .inl rfl | exact .inr rfl | exact .inl (setBank_staging _ _ _));
         (first | exact .inl rfl | exact .inr rfl | exact .inl (bundle_setBank_staging _ _ _)); rfl; rfl;
         (first | exact .inl rfl | exact .inr rfl)];
       first
        | with_reducible assumption
        | with_reducible apply setGview_kept)
    | dsimp -zeta only

theorem tickField_kept (h : Kept xs s0 s) :
    Kept xs s0 (s.tickField) := by
  unfold State.tickField
  repeat' first
    | with_reducible assumption
    | ((fail_if_no_progress extract_lets +onlyGivenNames s1); refine Kept.via s1 ?_ ?_ <;> [(dsimp -zeta only [s1]; clear s1); (clear_value s1; intro _)])
    | ((fail_if_no_progress extract_lets +onlyGivenNames x); first | (dsimp -zeta only [x]; clear x) | clear_value x)
    | with_reducible apply tickBits_kept
    | with_reducible apply tickCurrent_kept
    | with_reducible refine Kept.foldl _ _ (fun _ _ _ => ?_) ?_
    | with_reducible refine Kept.ite (fun _ => ?_) (fun _ => ?_)
    | dsimp -zeta only

theorem watchReset_kept (h : Kept xs s0 s) (sd : Side) (n : Nat) :
    Kept xs s0 (s.watchReset sd n) := by
  unfold State.watchReset
  repeat' first
    | with_reducible assumption
    | ((fail_if_no_progress extract_lets +onlyGivenNames s1); refine Kept.via s1 ?_ ?_ <;> [(dsimp -zeta only [s1]; clear s1); (clear_value s1; intro _)])
    | ((fail_if_no_progress extract_lets +onlyGivenNames x); first | (dsimp -zeta only [x]; clear x) | clear_value x)
    | with_reducible apply setCell_kept
    | with_reducible apply wait_kept
    | with_reducible refine Kept.ite (fun _ => ?_) (fun _ => ?_)
    | ((with_reducible refine Kept.lit ?_ rfl ?_ ?_ ?_ ?_ ?_ ?_ ?_) <;>
        [skip; rfl; rfl; (first | exact .inl rfl | exact .inr rfl | exact .inl (setBank_staging _ _ _));
         (first | exact .inl rfl | exact .inr rfl | exact .inl (bundle_setBank_staging _ _ _)); rfl; rfl;
         (first | exact .inl rfl | exact .inr rfl)];
       first
        | with_reducible assumption
        | with_reducible apply setCell_kept
        | with_reducible apply wait_kept)
    | dsimp -zeta only

theorem takeLate_kept (h : Kept xs s0 s) (sd : Side) (n : Nat) :
    Kept xs s0 (s.takeLate sd n) := by
  unfold State.takeLate
  repeat' first
    | with_reducible assumption
    | ((fail_if_no_progress extract_lets +onlyGivenNames s1); refine Kept.via s1 ?_ ?_ <;> [(dsimp -zeta only [s1]; clear s1); (clear_value s1; intro _)])
    | ((fail_if_no_progress extract_lets +onlyGivenNames x); first | (dsimp -zeta only [x]; clear x) | clear_value x)
    | with_reducible apply setCell_kept
    | with_reducible refine Kept.foldl _ _ (fun _ _ _ => ?_) ?_
    | with_reducible refine Kept.ite (fun _ => ?_) (fun _ => ?_)
    | ((with_reducible refine Kept.lit ?_ rfl ?_ ?_ ?_ ?_ ?_ ?_ ?_) <;>
        [skip; rfl; rfl; (first | exact .inl rfl | exact .inr rfl | exact .inl (setBank_staging _ _ _));
         (first | exact .inl rfl | exact .inr rfl | exact .inl (bundle_setBank_staging _ _ _)); rfl; rfl;
         (first | exact .inl rfl | exact .inr rfl)];
       first
        | with_reducible assumption
        | with_reducible apply setCell_kept
        | with_reducible refine Kept.foldl _ _ (fun _ _ _ => ?_) ?_)
    | dsimp -zeta only

theorem tickTakeover_kept (h : Kept xs s0 s) :
    Kept xs s0 (s.tickTakeover) := by
  unfold State.tickTakeover
  repeat' first
    | with_reducible assumption
    | ((fail_if_no_progress extract_lets +onlyGivenNames s1); refine Kept.via s1 ?_ ?_ <;> [(dsimp -zeta only [s1]; clear s1); (clear_value s1; intro _)])
    | ((fail_if_no_progress extract_lets +onlyGivenNames x); first | (dsimp -zeta only [x]; clear x) | clear_value x)
    | with_reducible apply takeLate_kept
    | with_reducible refine Kept.foldl _ _ (fun _ _ _ => ?_) ?_
    | with_reducible refine Kept.ite (fun _ => ?_) (fun _ => ?_)
    | ((with_reducible refine Kept.lit ?_ rfl ?_ ?_ ?_ ?_ ?_ ?_ ?_) <;>
        [skip; rfl; rfl; (first | exact .inl rfl | exact .inr rfl | exact .inl (setBank_staging _ _ _));
         (first | exact .inl rfl | exact .inr rfl | exact .inl (bundle_setBank_staging _ _ _)); rfl; rfl;
         (first | exact .inl rfl | exact .inr rfl)];
       first
        | with_reducible assumption
        | with_reducible apply takeLate_kept
        | with_reducible refine Kept.foldl _ _ (fun _ _ _ => ?_) ?_)
    | split
    | dsimp -zeta only

theorem flipMirrors_kept (h : Kept xs s0 s) :
    Kept xs s0 (s.flipMirrors) := by
  unfold State.flipMirrors
  repeat' first
    | with_reducible assumption
    | with_reducible refine Kept.foldl _ _ (fun _ _ _ => ?_) ?_
    | ((with_reducible refine Kept.lit ?_ rfl ?_ ?_ ?_ ?_ ?_ ?_ ?_) <;>
        [skip; rfl; rfl; (first | exact .inl rfl | exact .inr rfl | exact .inl (setBank_staging _ _ _));
         (first | exact .inl rfl | exact .inr rfl | exact .inl (bundle_setBank_staging _ _ _)); rfl; rfl;
         (first | exact .inl rfl | exact .inr rfl)];
       first
        | with_reducible assumption
        | with_reducible refine Kept.foldl _ _ (fun _ _ _ => ?_) ?_)
    | dsimp -zeta only

theorem tickCells_kept (h : Kept xs s0 s) :
    Kept xs s0 (s.tickCells) := by
  unfold State.tickCells
  repeat' first
    | with_reducible assumption
    | ((fail_if_no_progress extract_lets +onlyGivenNames s1); refine Kept.via s1 ?_ ?_ <;> [(dsimp -zeta only [s1]; clear s1); (clear_value s1; intro _)])
    | ((fail_if_no_progress extract_lets +onlyGivenNames x); first | (dsimp -zeta only [x]; clear x) | clear_value x)
    | with_reducible apply watchReset_kept
    | with_reducible apply tickTakeover_kept
    | with_reducible apply flipMirrors_kept
    | with_reducible refine Kept.foldl _ _ (fun _ _ _ => ?_) ?_
    | dsimp -zeta only

theorem tickEdge_kept (h : Kept xs s0 s) (vsupMv : Nat) (tj : Int) :
    Kept xs s0 (s.tickEdge vsupMv tj) := by
  unfold State.tickEdge
  repeat' first
    | with_reducible assumption
    | ((fail_if_no_progress extract_lets +onlyGivenNames s1); refine Kept.via s1 ?_ ?_ <;> [(dsimp -zeta only [s1]; clear s1); (clear_value s1; intro _)])
    | ((fail_if_no_progress extract_lets +onlyGivenNames x); first | (dsimp -zeta only [x]; clear x) | clear_value x)
    | with_reducible apply judgeSlice_kept
    | ((with_reducible refine Kept.lit ?_ rfl ?_ ?_ ?_ ?_ ?_ ?_ ?_) <;>
        [skip; rfl; rfl; (first | exact .inl rfl | exact .inr rfl | exact .inl (setBank_staging _ _ _));
         (first | exact .inl rfl | exact .inr rfl | exact .inl (bundle_setBank_staging _ _ _)); rfl; rfl;
         (first | exact .inl rfl | exact .inr rfl)];
       first
        | with_reducible assumption
        | with_reducible apply judgeSlice_kept)
    | dsimp -zeta only

theorem pauseForHandover_kept (h : Kept xs s0 s) :
    Kept xs s0 (s.pauseForHandover) := by
  unfold State.pauseForHandover
  repeat' first
    | with_reducible assumption
    | ((fail_if_no_progress extract_lets +onlyGivenNames s1); refine Kept.via s1 ?_ ?_ <;> [(dsimp -zeta only [s1]; clear s1); (clear_value s1; intro _)])
    | ((fail_if_no_progress extract_lets +onlyGivenNames x); first | (dsimp -zeta only [x]; clear x) | clear_value x)
    | with_reducible refine Kept.ite (fun _ => ?_) (fun _ => ?_)
    | with_reducible refine Kept.foldl _ _ (fun _ _ _ => ?_) ?_
    | ((with_reducible refine Kept.lit ?_ rfl ?_ ?_ ?_ ?_ ?_ ?_ ?_) <;>
        [skip; rfl; rfl; (first | exact .inl rfl | exact .inr rfl | exact .inl (setBank_staging _ _ _));
         (first | exact .inl rfl | exact .inr rfl | exact .inl (bundle_setBank_staging _ _ _)); rfl; rfl;
         (first | exact .inl rfl | exact .inr rfl)];
       first
        | with_reducible assumption
        | with_reducible refine Kept.foldl _ _ (fun _ _ _ => ?_) ?_)
    | split
    | dsimp -zeta only

theorem tickSup_kept (h : Kept xs s0 s) (hr : s0.dev.st = .run) (dis : List Disagreement) : Kept xs s0 (s.tickSup dis) := by
  unfold State.tickSup
  repeat' first
    | with_reducible assumption
    | ((fail_if_no_progress extract_lets +onlyGivenNames s1); refine Kept.via s1 ?_ ?_ <;> [(dsimp -zeta only [s1]; clear s1); (clear_value s1; intro _)])
    | ((fail_if_no_progress extract_lets +onlyGivenNames x); first | (dsimp -zeta only [x]; clear x) | clear_value x)
    | with_reducible apply checkpoint_kept
    | with_reducible apply settle_kept
    | with_reducible refine takeRun_kept ?_ hr
    | with_reducible apply captureRequests_kept
    | with_reducible apply agreeImage_kept
    | with_reducible apply flipImage_kept
    | with_reducible apply pauseForHandover_kept
    | with_reducible refine Kept.ite (fun _ => ?_) (fun _ => ?_)
    | with_reducible refine Kept.foldl _ _ (fun _ _ _ => ?_) ?_
    | ((with_reducible refine Kept.lit ?_ rfl ?_ ?_ ?_ ?_ ?_ ?_ ?_) <;>
        [skip; rfl; rfl; (first | exact .inl rfl | exact .inr rfl | exact .inl (setBank_staging _ _ _));
         (first | exact .inl rfl | exact .inr rfl | exact .inl (bundle_setBank_staging _ _ _)); rfl; rfl;
         (first | exact .inl rfl | exact .inr rfl)];
       first
        | with_reducible assumption
        | with_reducible apply checkpoint_kept
        | with_reducible apply settle_kept
        | with_reducible apply captureRequests_kept
        | with_reducible apply agreeImage_kept
        | with_reducible apply flipImage_kept
        | with_reducible apply pauseForHandover_kept
        | with_reducible refine Kept.foldl _ _ (fun _ _ _ => ?_) ?_)
    | split
    | dsimp -zeta only

theorem sampleSide_kept (h : Kept xs s0 s) (sd : Side) :
    Kept xs s0 (s.sampleSide sd) := by
  unfold State.sampleSide
  repeat' first
    | with_reducible assumption
    | ((fail_if_no_progress extract_lets +onlyGivenNames s1); refine Kept.via s1 ?_ ?_ <;> [(dsimp -zeta only [s1]; clear s1); (clear_value s1; intro _)])
    | ((fail_if_no_progress extract_lets +onlyGivenNames x); first | (dsimp -zeta only [x]; clear x) | clear_value x)
    | with_reducible apply sample_kept
    | with_reducible refine Kept.foldl _ _ (fun _ _ _ => ?_) ?_
    | dsimp -zeta only

theorem publishBlock_kept (h : Kept xs s0 s) (sd : Side) :
    Kept xs s0 (s.publishBlock sd) := by
  unfold State.publishBlock
  repeat' first
    | with_reducible assumption
    | ((fail_if_no_progress extract_lets +onlyGivenNames s1); refine Kept.via s1 ?_ ?_ <;> [(dsimp -zeta only [s1]; clear s1); (clear_value s1; intro _)])
    | ((fail_if_no_progress extract_lets +onlyGivenNames x); first | (dsimp -zeta only [x]; clear x) | clear_value x)
    | with_reducible apply setView_kept
    | with_reducible apply setGview_kept
    | with_reducible apply setCell_kept
    | with_reducible refine Kept.foldl _ _ (fun _ _ _ => ?_) ?_
    | ((with_reducible refine Kept.lit ?_ rfl ?_ ?_ ?_ ?_ ?_ ?_ ?_) <;>
        [skip; rfl; rfl; (first | exact .inl rfl | exact .inr rfl | exact .inl (setBank_staging _ _ _));
         (first | exact .inl rfl | exact .inr rfl | exact .inl (bundle_setBank_staging _ _ _)); rfl; rfl;
         (first | exact .inl rfl | exact .inr rfl)];
       first
        | with_reducible assumption
        | with_reducible apply setView_kept
        | with_reducible apply setGview_kept
        | with_reducible apply setCell_kept
        | with_reducible refine Kept.foldl _ _ (fun _ _ _ => ?_) ?_)
    | dsimp -zeta only

theorem greet_kept (h : Kept xs s0 s) (r : Request) : Kept (r.tag :: xs) s0 (s.greet r) := by
  unfold State.greet
  extract_lets both
  refine Kept.ite (fun _ => respond_kept h _ _ _) (fun _ => respond_kept ?_ { r with session := newSession s.host.session s.free } _ _)
  refine ⟨h.pending, h.fuses, h.prog, List.Subperm.trans (List.Sublist.subperm ?_) h.held, h.container, h.bundle, h.opens, h.run, h.records⟩
  exact List.Sublist.append (List.Sublist.refl _) (List.Sublist.map _ List.filter_sublist)

theorem setPortCfg_kept (h : Kept xs s0 s) (k : Nat) (f : PortCfg → PortCfg) :
    Kept xs s0 (s.setPortCfg k f) := by
  unfold State.setPortCfg
  exact h.lit rfl rfl rfl (.inl rfl) (.inl rfl) rfl rfl (.inl rfl)

theorem loadMask_kept (h : Kept xs s0 s) (b : Nat) : Kept xs s0 (s.loadMask b) := by
  unfold State.loadMask
  split
  · exact setWords_kept h _ _
  · exact h

theorem setPortMode_kept (h : Kept xs s0 s) (k : Nat) (mode : Nat) :
    Kept xs s0 (s.setPortMode k mode) := by
  unfold State.setPortMode
  repeat' first
    | with_reducible assumption
    | ((fail_if_no_progress extract_lets +onlyGivenNames s1); refine Kept.via s1 ?_ ?_ <;> [(dsimp -zeta only [s1]; clear s1); (clear_value s1; intro _)])
    | ((fail_if_no_progress extract_lets +onlyGivenNames x); first | (dsimp -zeta only [x]; clear x) | clear_value x)
    | with_reducible apply loadMask_kept
    | with_reducible apply domainOff_kept
    | with_reducible apply restartPort_kept
    | with_reducible apply weirStart_kept
    | with_reducible apply connResetAll_kept
    | with_reducible apply setPortCfg_kept
    | with_reducible refine Kept.ite (fun _ => ?_) (fun _ => ?_)
    | ((with_reducible refine Kept.lit ?_ rfl ?_ ?_ ?_ ?_ ?_ ?_ ?_) <;>
        [skip; rfl; rfl; (first | exact .inl rfl | exact .inr rfl | exact .inl (setBank_staging _ _ _));
         (first | exact .inl rfl | exact .inr rfl | exact .inl (bundle_setBank_staging _ _ _)); rfl; rfl;
         (first | exact .inl rfl | exact .inr rfl)];
       first
        | with_reducible assumption
        | with_reducible apply loadMask_kept
        | with_reducible apply domainOff_kept
        | with_reducible apply restartPort_kept
        | with_reducible apply weirStart_kept
        | with_reducible apply connResetAll_kept
        | with_reducible apply setPortCfg_kept)
    | dsimp -zeta only

end Sys2Proof.Laws
end

