-- ==== Sys2Proof/Laws/Mailbox.lean ====
section
/-! SUPPORT. What the shared mailbox operations do: the settling of unknown commands, and `serve` in each of its outcomes. -/

namespace Sys2Proof.Laws

open Sys2Proof.Machine Sys2Proof.Safety

/-- Nothing is left to settle when the request at the front is not captured or carries a command of Table 11.5. -/
theorem settle_eq_self (s : State)
    (h : ∀ r ∈ s.host.queue.head?, r.captured = true → (cmdVersion r.cmd).isSome = true) : s.settle = s := by
  unfold State.settle
  cases hn : s.host.queue.length with
  | zero => rfl
  | succ n =>
    unfold State.answerUnknown
    split
    · rfl
    · cases hq : s.host.queue with
      | nil => rfl
      | cons r q =>
        have hr := h r (by simp [hq])
        have : (r.captured && (cmdVersion r.cmd).isNone) = false := by
          cases hc : r.captured
          · rfl
          · have := hr hc
            cases hv : cmdVersion r.cmd <;> simp_all
        simp [this]

/-- The request at the front is the one that its own command finds. -/
theorem front_eq {r : Request} {q : List Request} {s : State} {code : Nat} (h : AtFront r q s) (hc : r.cmd = code) :
    s.front code = some r := by
  unfold State.front
  simp [h.blocked, h.paused, h.ready, h.power, h.sup, h.queue, h.captured, hc]

/-- A command that is not that of the front request finds nothing, and `serve` changes nothing. -/
theorem serve_none {s : State} {code : Nat} (form : Request → Bool) (act : Request → State → State)
    (h : s.front code = none) : s.serve code form act = s := by
  unfold State.serve
  simp [h]

theorem popRequest_eq {r : Request} {q : List Request} {s : State} (h : s.host.queue = r :: q) : s.popRequest = popped q s := by
  unfold State.popRequest popped
  simp [h]

/-- A request of another session or version is answered BAD_SESSION. -/
theorem serve_session {r : Request} {q : List Request} {s : State} {code : Nat} (form : Request → Bool)
    (act : Request → State → State) (h : AtFront r q s) (hc : r.cmd = code)
    (hb : s.host.session = 0 ∨ r.session ≠ s.host.session ∨ r.version ≠ s.host.version) :
    s.serve code form act = answered r q stBAD_SESSION [] s := by
  unfold State.serve
  simp only [front_eq h hc, popRequest_eq h.queue]
  have : (popped q s).sessionBad r = true := by
    unfold State.sessionBad popped
    rcases hb with hb | hb | hb <;> simp [hb]
  simp only [h.fresh, this, Bool.false_eq_true, if_false, if_true]
  rw [settle_eq_self]
  · rfl
  · exact h.behind

/-- A v2 command in a v1 session is answered UNKNOWN_CMD. -/
theorem serve_version {r : Request} {q : List Request} {s : State} {code v : Nat} (form : Request → Bool)
    (act : Request → State → State) (h : AtFront r q s) (hc : r.cmd = code)
    (h1 : s.host.session ≠ 0) (h2 : r.session = s.host.session) (h3 : r.version = s.host.version)
    (hv : cmdVersion code = some v) (hl : s.host.version < v) :
    s.serve code form act = answered r q stUNKNOWN_CMD [] s := by
  unfold State.serve
  simp only [front_eq h hc, popRequest_eq h.queue]
  have e : (popped q s).sessionBad r = false := by
    unfold State.sessionBad popped
    simp [h1, h2, h3]
  have e2 : (popped q s).host.version < (cmdVersion code).getD 1 := by rw [hv]; exact hl
  simp only [h.fresh, e, e2, if_true, Bool.false_eq_true, if_false]
  rw [settle_eq_self]
  · rfl
  · exact h.behind

/-- Beyond the session checks, `serve` looks at the state, then at the form, then acts. -/
theorem serve_session_ok {r : Request} {q : List Request} {s : State} {code : Nat} (form : Request → Bool)
    (act : Request → State → State) (h : AtFront r q s) (hc : r.cmd = code) (hs : InSession r s) :
    s.serve code form act =
      (match s.stateRefuses code with
        | some st => answered r q st [] s
        | none => if form r then act r (popped q s) else answered r q stBAD_FORMAT [] s).settle := by
  unfold State.serve
  simp only [front_eq h hc, popRequest_eq h.queue]
  obtain ⟨h1, h2, h3, v, hv, h4⟩ := hs
  have e : (popped q s).sessionBad r = false := by
    unfold State.sessionBad popped
    simp [h1, h2, h3]
  have e2 : ¬ ((popped q s).host.version < (cmdVersion code).getD 1) := by
    subst hc
    rw [hv]
    exact Nat.not_lt.mpr h4
  simp only [h.fresh, e, e2, Bool.false_eq_true, if_false]
  rfl

/-- A command that the device state does not serve is answered with the state's status. -/
theorem serve_state {r : Request} {q : List Request} {s : State} {code st : Nat} (form : Request → Bool)
    (act : Request → State → State) (h : AtFront r q s) (hc : r.cmd = code) (hs : InSession r s)
    (hw : s.stateRefuses code = some st) :
    s.serve code form act = answered r q st [] s := by
  rw [serve_session_ok form act h hc hs, hw, settle_eq_self]
  exact h.behind

/-- A malformed payload is answered BAD_FORMAT. -/
theorem serve_format {r : Request} {q : List Request} {s : State} {code : Nat} {form : Request → Bool}
    (act : Request → State → State) (h : Served code r q s) (hf : form r = false) :
    s.serve code form act = answered r q stBAD_FORMAT [] s := by
  rw [serve_session_ok form act h.toAtFront h.cmd h.session, h.state]
  simp only [hf, Bool.false_eq_true, if_false]
  exact settle_eq_self _ h.behind

/-- A request that is served acts on the state without it. -/
theorem serve_act {r : Request} {q : List Request} {s : State} {code : Nat} {form : Request → Bool}
    (act : Request → State → State) (h : Served code r q s) (hf : form r = true) :
    s.serve code form act = (act r (popped q s)).settle := by
  rw [serve_session_ok form act h.toAtFront h.cmd h.session, h.state]
  simp only [hf, if_true]

/-- `serve` of a request whose service leaves the queue behind it alone. -/
theorem serve_queue {r : Request} {q : List Request} {s : State} {code : Nat} {form : Request → Bool}
    (act : Request → State → State) (h : Served code r q s) (hf : form r = true)
    (hq : (act r (popped q s)).host.queue = q) :
    s.serve code form act = act r (popped q s) := by
  rw [serve_act act h hf, settle_eq_self]
  rw [hq]
  exact h.behind

end Sys2Proof.Laws
end

