-- ==== Sys2Proof/Laws/State.lean ====
section
/-! SUPPORT. The state record: what each small operation leaves of it, field by field, and what a read finds after a write. -/

namespace Sys2Proof.Laws

open Sys2Proof.Machine

variable (s : State)

theorem side_ix_inj {sd sd' : Side} {c c' : Nat} (h : 2 * c + Side.ix sd = 2 * c' + Side.ix sd') : sd = sd' ∧ c = c' := by
  cases sd <;> cases sd' <;> simp only [Side.ix] at h <;> first | exact ⟨rfl, by omega⟩ | omega

/-! ### `setView` -/

@[simp] theorem setView_time (sd : Side) (c : Nat) (v : View) : (s.setView sd c v).time = s.time := rfl
@[simp] theorem setView_dev (sd : Side) (c : Nat) (v : View) : (s.setView sd c v).dev = s.dev := rfl
@[simp] theorem setView_host (sd : Side) (c : Nat) (v : View) : (s.setView sd c v).host = s.host := rfl
@[simp] theorem setView_hs (sd : Side) (c : Nat) (v : View) : (s.setView sd c v).hs = s.hs := rfl
@[simp] theorem setView_faults (sd : Side) (c : Nat) (v : View) : (s.setView sd c v).faults = s.faults := rfl
@[simp] theorem setView_pairs (sd : Side) (c : Nat) (v : View) : (s.setView sd c v).pairs = s.pairs := rfl
@[simp] theorem setView_cfg (sd : Side) (c : Nat) (v : View) : (s.setView sd c v).cfg = s.cfg := rfl
@[simp] theorem setView_params (sd : Side) (c : Nat) (v : View) : (s.setView sd c v).params = s.params := rfl
@[simp] theorem setView_cells (sd : Side) (c : Nat) (v : View) : (s.setView sd c v).cells = s.cells := rfl
@[simp] theorem setView_weir (sd : Side) (c : Nat) (v : View) : (s.setView sd c v).weir = s.weir := rfl
@[simp] theorem setView_oxb (sd : Side) (c : Nat) (v : View) : (s.setView sd c v).oxb = s.oxb := rfl
@[simp] theorem setView_ros (sd : Side) (c : Nat) (v : View) : (s.setView sd c v).ros = s.ros := rfl
@[simp] theorem setView_pwr (sd : Side) (c : Nat) (v : View) : (s.setView sd c v).pwr = s.pwr := rfl
@[simp] theorem setView_clk (sd : Side) (c : Nat) (v : View) : (s.setView sd c v).clk = s.clk := rfl
@[simp] theorem setView_rif (sd : Side) (c : Nat) (v : View) : (s.setView sd c v).rif = s.rif := rfl
@[simp] theorem setView_bundles (sd : Side) (c : Nat) (v : View) : (s.setView sd c v).bundles = s.bundles := rfl
@[simp] theorem setView_mems (sd : Side) (c : Nat) (v : View) : (s.setView sd c v).mems = s.mems := rfl
@[simp] theorem setView_jtag (sd : Side) (c : Nat) (v : View) : (s.setView sd c v).jtag = s.jtag := rfl
@[simp] theorem setView_pending (sd : Side) (c : Nat) (v : View) : (s.setView sd c v).pending = s.pending := rfl
@[simp] theorem setView_free (sd : Side) (c : Nat) (v : View) : (s.setView sd c v).free = s.free := rfl

@[simp] theorem view_setView_self (sd : Side) (c : Nat) (v : View) : (s.setView sd c v).view sd c = v := by
  unfold State.view State.setView
  rw [tab_getD_put, if_pos rfl]

theorem view_setView_of_ne (sd : Side) (c : Nat) (v : View) {sd' : Side} {c' : Nat} (h : (sd', c') ≠ (sd, c)) :
    (s.setView sd c v).view sd' c' = s.view sd' c' := by
  unfold State.view State.setView
  rw [tab_getD_put, if_neg]
  intro e
  obtain ⟨h1, h2⟩ := side_ix_inj e
  exact h (by rw [h1, h2])

/-! ### `setGview` -/

@[simp] theorem setGview_time (sd : Side) (g : Nat) (v : GroupView) : (s.setGview sd g v).time = s.time := rfl
@[simp] theorem setGview_dev (sd : Side) (g : Nat) (v : GroupView) : (s.setGview sd g v).dev = s.dev := rfl
@[simp] theorem setGview_host (sd : Side) (g : Nat) (v : GroupView) : (s.setGview sd g v).host = s.host := rfl
@[simp] theorem setGview_hs (sd : Side) (g : Nat) (v : GroupView) : (s.setGview sd g v).hs = s.hs := rfl
@[simp] theorem setGview_faults (sd : Side) (g : Nat) (v : GroupView) : (s.setGview sd g v).faults = s.faults := rfl
@[simp] theorem setGview_pairs (sd : Side) (g : Nat) (v : GroupView) : (s.setGview sd g v).pairs = s.pairs := rfl
@[simp] theorem setGview_cfg (sd : Side) (g : Nat) (v : GroupView) : (s.setGview sd g v).cfg = s.cfg := rfl
@[simp] theorem setGview_params (sd : Side) (g : Nat) (v : GroupView) : (s.setGview sd g v).params = s.params := rfl
@[simp] theorem setGview_cells (sd : Side) (g : Nat) (v : GroupView) : (s.setGview sd g v).cells = s.cells := rfl
@[simp] theorem setGview_weir (sd : Side) (g : Nat) (v : GroupView) : (s.setGview sd g v).weir = s.weir := rfl
@[simp] theorem setGview_oxb (sd : Side) (g : Nat) (v : GroupView) : (s.setGview sd g v).oxb = s.oxb := rfl
@[simp] theorem setGview_ros (sd : Side) (g : Nat) (v : GroupView) : (s.setGview sd g v).ros = s.ros := rfl
@[simp] theorem setGview_pwr (sd : Side) (g : Nat) (v : GroupView) : (s.setGview sd g v).pwr = s.pwr := rfl
@[simp] theorem setGview_clk (sd : Side) (g : Nat) (v : GroupView) : (s.setGview sd g v).clk = s.clk := rfl
@[simp] theorem setGview_rif (sd : Side) (g : Nat) (v : GroupView) : (s.setGview sd g v).rif = s.rif := rfl
@[simp] theorem setGview_bundles (sd : Side) (g : Nat) (v : GroupView) : (s.setGview sd g v).bundles = s.bundles := rfl
@[simp] theorem setGview_mems (sd : Side) (g : Nat) (v : GroupView) : (s.setGview sd g v).mems = s.mems := rfl
@[simp] theorem setGview_jtag (sd : Side) (g : Nat) (v : GroupView) : (s.setGview sd g v).jtag = s.jtag := rfl
@[simp] theorem setGview_pending (sd : Side) (g : Nat) (v : GroupView) : (s.setGview sd g v).pending = s.pending := rfl
@[simp] theorem setGview_free (sd : Side) (g : Nat) (v : GroupView) : (s.setGview sd g v).free = s.free := rfl

@[simp] theorem gview_setGview_self (sd : Side) (g : Nat) (v : GroupView) : (s.setGview sd g v).gview sd g = v := by
  unfold State.gview State.setGview
  rw [tab_getD_put, if_pos rfl]

theorem gview_setGview_of_ne (sd : Side) (g : Nat) (v : GroupView) {sd' : Side} {g' : Nat} (h : (sd', g') ≠ (sd, g)) :
    (s.setGview sd g v).gview sd' g' = s.gview sd' g' := by
  unfold State.gview State.setGview
  rw [tab_getD_put, if_neg]
  intro e
  obtain ⟨h1, h2⟩ := side_ix_inj e
  exact h (by rw [h1, h2])

/-! ### `setDie` -/

@[simp] theorem setDie_time (g : Nat) (d : DieSt) : (s.setDie g d).time = s.time := rfl
@[simp] theorem setDie_dev (g : Nat) (d : DieSt) : (s.setDie g d).dev = s.dev := rfl
@[simp] theorem setDie_host (g : Nat) (d : DieSt) : (s.setDie g d).host = s.host := rfl
@[simp] theorem setDie_hs (g : Nat) (d : DieSt) : (s.setDie g d).hs = s.hs := rfl
@[simp] theorem setDie_faults (g : Nat) (d : DieSt) : (s.setDie g d).faults = s.faults := rfl
@[simp] theorem setDie_pairs (g : Nat) (d : DieSt) : (s.setDie g d).pairs = s.pairs := rfl
@[simp] theorem setDie_cfg (g : Nat) (d : DieSt) : (s.setDie g d).cfg = s.cfg := rfl
@[simp] theorem setDie_params (g : Nat) (d : DieSt) : (s.setDie g d).params = s.params := rfl
@[simp] theorem setDie_cells (g : Nat) (d : DieSt) : (s.setDie g d).cells = s.cells := rfl
@[simp] theorem setDie_weir (g : Nat) (d : DieSt) : (s.setDie g d).weir = s.weir := rfl
@[simp] theorem setDie_oxb (g : Nat) (d : DieSt) : (s.setDie g d).oxb = s.oxb := rfl
@[simp] theorem setDie_ros (g : Nat) (d : DieSt) : (s.setDie g d).ros = s.ros := rfl
@[simp] theorem setDie_pwr (g : Nat) (d : DieSt) : (s.setDie g d).pwr = s.pwr := rfl
@[simp] theorem setDie_clk (g : Nat) (d : DieSt) : (s.setDie g d).clk = s.clk := rfl
@[simp] theorem setDie_rif (g : Nat) (d : DieSt) : (s.setDie g d).rif = s.rif := rfl
@[simp] theorem setDie_bundles (g : Nat) (d : DieSt) : (s.setDie g d).bundles = s.bundles := rfl
@[simp] theorem setDie_mems (g : Nat) (d : DieSt) : (s.setDie g d).mems = s.mems := rfl
@[simp] theorem setDie_jtag (g : Nat) (d : DieSt) : (s.setDie g d).jtag = s.jtag := rfl
@[simp] theorem setDie_pending (g : Nat) (d : DieSt) : (s.setDie g d).pending = s.pending := rfl
@[simp] theorem setDie_free (g : Nat) (d : DieSt) : (s.setDie g d).free = s.free := rfl

theorem die_setDie (g : Nat) (d : DieSt) (g' : Nat) : (s.setDie g d).die g' = if g' = g then d else s.die g' := tab_getD_put _ _ _ _ _

@[simp] theorem die_setDie_self (g : Nat) (d : DieSt) : (s.setDie g d).die g = d := by rw [die_setDie, if_pos rfl]

theorem die_setDie_of_ne (g : Nat) (d : DieSt) {g' : Nat} (h : g' ≠ g) : (s.setDie g d).die g' = s.die g' := by rw [die_setDie, if_neg h]

/-! ### `setChan` -/

@[simp] theorem setChan_time (c : Nat) (d : DieCh) : (s.setChan c d).time = s.time := rfl
@[simp] theorem setChan_dev (c : Nat) (d : DieCh) : (s.setChan c d).dev = s.dev := rfl
@[simp] theorem setChan_host (c : Nat) (d : DieCh) : (s.setChan c d).host = s.host := rfl
@[simp] theorem setChan_hs (c : Nat) (d : DieCh) : (s.setChan c d).hs = s.hs := rfl
@[simp] theorem setChan_faults (c : Nat) (d : DieCh) : (s.setChan c d).faults = s.faults := rfl
@[simp] theorem setChan_pairs (c : Nat) (d : DieCh) : (s.setChan c d).pairs = s.pairs := rfl
@[simp] theorem setChan_cfg (c : Nat) (d : DieCh) : (s.setChan c d).cfg = s.cfg := rfl
@[simp] theorem setChan_params (c : Nat) (d : DieCh) : (s.setChan c d).params = s.params := rfl
@[simp] theorem setChan_cells (c : Nat) (d : DieCh) : (s.setChan c d).cells = s.cells := rfl
@[simp] theorem setChan_weir (c : Nat) (d : DieCh) : (s.setChan c d).weir = s.weir := rfl
@[simp] theorem setChan_oxb (c : Nat) (d : DieCh) : (s.setChan c d).oxb = s.oxb := rfl
@[simp] theorem setChan_ros (c : Nat) (d : DieCh) : (s.setChan c d).ros = s.ros := rfl
@[simp] theorem setChan_pwr (c : Nat) (d : DieCh) : (s.setChan c d).pwr = s.pwr := rfl
@[simp] theorem setChan_clk (c : Nat) (d : DieCh) : (s.setChan c d).clk = s.clk := rfl
@[simp] theorem setChan_rif (c : Nat) (d : DieCh) : (s.setChan c d).rif = s.rif := rfl
@[simp] theorem setChan_bundles (c : Nat) (d : DieCh) : (s.setChan c d).bundles = s.bundles := rfl
@[simp] theorem setChan_mems (c : Nat) (d : DieCh) : (s.setChan c d).mems = s.mems := rfl
@[simp] theorem setChan_jtag (c : Nat) (d : DieCh) : (s.setChan c d).jtag = s.jtag := rfl
@[simp] theorem setChan_pending (c : Nat) (d : DieCh) : (s.setChan c d).pending = s.pending := rfl
@[simp] theorem setChan_free (c : Nat) (d : DieCh) : (s.setChan c d).free = s.free := rfl

theorem chan_setChan (c : Nat) (d : DieCh) (c' : Nat) : (s.setChan c d).chan c' = if c' = c then d else s.chan c' := tab_getD_put _ _ _ _ _

@[simp] theorem chan_setChan_self (c : Nat) (d : DieCh) : (s.setChan c d).chan c = d := by rw [chan_setChan, if_pos rfl]

theorem chan_setChan_of_ne (c : Nat) (d : DieCh) {c' : Nat} (h : c' ≠ c) : (s.setChan c d).chan c' = s.chan c' := by rw [chan_setChan, if_neg h]

/-! ### `setCoupler` -/

@[simp] theorem setCoupler_time (c : Nat) (d : Coupler) : (s.setCoupler c d).time = s.time := rfl
@[simp] theorem setCoupler_dev (c : Nat) (d : Coupler) : (s.setCoupler c d).dev = s.dev := rfl
@[simp] theorem setCoupler_host (c : Nat) (d : Coupler) : (s.setCoupler c d).host = s.host := rfl
@[simp] theorem setCoupler_hs (c : Nat) (d : Coupler) : (s.setCoupler c d).hs = s.hs := rfl
@[simp] theorem setCoupler_faults (c : Nat) (d : Coupler) : (s.setCoupler c d).faults = s.faults := rfl
@[simp] theorem setCoupler_pairs (c : Nat) (d : Coupler) : (s.setCoupler c d).pairs = s.pairs := rfl
@[simp] theorem setCoupler_cfg (c : Nat) (d : Coupler) : (s.setCoupler c d).cfg = s.cfg := rfl
@[simp] theorem setCoupler_params (c : Nat) (d : Coupler) : (s.setCoupler c d).params = s.params := rfl
@[simp] theorem setCoupler_cells (c : Nat) (d : Coupler) : (s.setCoupler c d).cells = s.cells := rfl
@[simp] theorem setCoupler_weir (c : Nat) (d : Coupler) : (s.setCoupler c d).weir = s.weir := rfl
@[simp] theorem setCoupler_oxb (c : Nat) (d : Coupler) : (s.setCoupler c d).oxb = s.oxb := rfl
@[simp] theorem setCoupler_ros (c : Nat) (d : Coupler) : (s.setCoupler c d).ros = s.ros := rfl
@[simp] theorem setCoupler_pwr (c : Nat) (d : Coupler) : (s.setCoupler c d).pwr = s.pwr := rfl
@[simp] theorem setCoupler_clk (c : Nat) (d : Coupler) : (s.setCoupler c d).clk = s.clk := rfl
@[simp] theorem setCoupler_rif (c : Nat) (d : Coupler) : (s.setCoupler c d).rif = s.rif := rfl
@[simp] theorem setCoupler_bundles (c : Nat) (d : Coupler) : (s.setCoupler c d).bundles = s.bundles := rfl
@[simp] theorem setCoupler_mems (c : Nat) (d : Coupler) : (s.setCoupler c d).mems = s.mems := rfl
@[simp] theorem setCoupler_jtag (c : Nat) (d : Coupler) : (s.setCoupler c d).jtag = s.jtag := rfl
@[simp] theorem setCoupler_pending (c : Nat) (d : Coupler) : (s.setCoupler c d).pending = s.pending := rfl
@[simp] theorem setCoupler_free (c : Nat) (d : Coupler) : (s.setCoupler c d).free = s.free := rfl

theorem coupler_setCoupler (c : Nat) (d : Coupler) (c' : Nat) : (s.setCoupler c d).coupler c' = if c' = c then d else s.coupler c' := tab_getD_put _ _ _ _ _

@[simp] theorem coupler_setCoupler_self (c : Nat) (d : Coupler) : (s.setCoupler c d).coupler c = d := by rw [coupler_setCoupler, if_pos rfl]

theorem coupler_setCoupler_of_ne (c : Nat) (d : Coupler) {c' : Nat} (h : c' ≠ c) : (s.setCoupler c d).coupler c' = s.coupler c' := by rw [coupler_setCoupler, if_neg h]

/-! ### `setCell` -/

@[simp] theorem setCell_time (sd : Side) (n : Nat) (v : CellSide) : (s.setCell sd n v).time = s.time := rfl
@[simp] theorem setCell_dev (sd : Side) (n : Nat) (v : CellSide) : (s.setCell sd n v).dev = s.dev := rfl
@[simp] theorem setCell_host (sd : Side) (n : Nat) (v : CellSide) : (s.setCell sd n v).host = s.host := rfl
@[simp] theorem setCell_hs (sd : Side) (n : Nat) (v : CellSide) : (s.setCell sd n v).hs = s.hs := rfl
@[simp] theorem setCell_faults (sd : Side) (n : Nat) (v : CellSide) : (s.setCell sd n v).faults = s.faults := rfl
@[simp] theorem setCell_pairs (sd : Side) (n : Nat) (v : CellSide) : (s.setCell sd n v).pairs = s.pairs := rfl
@[simp] theorem setCell_cfg (sd : Side) (n : Nat) (v : CellSide) : (s.setCell sd n v).cfg = s.cfg := rfl
@[simp] theorem setCell_params (sd : Side) (n : Nat) (v : CellSide) : (s.setCell sd n v).params = s.params := rfl
@[simp] theorem setCell_field (sd : Side) (n : Nat) (v : CellSide) : (s.setCell sd n v).field = s.field := rfl
@[simp] theorem setCell_weir (sd : Side) (n : Nat) (v : CellSide) : (s.setCell sd n v).weir = s.weir := rfl
@[simp] theorem setCell_oxb (sd : Side) (n : Nat) (v : CellSide) : (s.setCell sd n v).oxb = s.oxb := rfl
@[simp] theorem setCell_ros (sd : Side) (n : Nat) (v : CellSide) : (s.setCell sd n v).ros = s.ros := rfl
@[simp] theorem setCell_pwr (sd : Side) (n : Nat) (v : CellSide) : (s.setCell sd n v).pwr = s.pwr := rfl
@[simp] theorem setCell_clk (sd : Side) (n : Nat) (v : CellSide) : (s.setCell sd n v).clk = s.clk := rfl
@[simp] theorem setCell_rif (sd : Side) (n : Nat) (v : CellSide) : (s.setCell sd n v).rif = s.rif := rfl
@[simp] theorem setCell_bundles (sd : Side) (n : Nat) (v : CellSide) : (s.setCell sd n v).bundles = s.bundles := rfl
@[simp] theorem setCell_mems (sd : Side) (n : Nat) (v : CellSide) : (s.setCell sd n v).mems = s.mems := rfl
@[simp] theorem setCell_jtag (sd : Side) (n : Nat) (v : CellSide) : (s.setCell sd n v).jtag = s.jtag := rfl
@[simp] theorem setCell_pending (sd : Side) (n : Nat) (v : CellSide) : (s.setCell sd n v).pending = s.pending := rfl
@[simp] theorem setCell_free (sd : Side) (n : Nat) (v : CellSide) : (s.setCell sd n v).free = s.free := rfl

@[simp] theorem cell_setCell_self (sd : Side) (n : Nat) (v : CellSide) : (s.setCell sd n v).cell sd n = v := by
  unfold State.cell State.setCell
  rw [tab_getD_put, if_pos rfl]

theorem cell_setCell_of_ne (sd : Side) (n : Nat) (v : CellSide) {sd' : Side} {n' : Nat} (h : (sd', n') ≠ (sd, n)) :
    (s.setCell sd n v).cell sd' n' = s.cell sd' n' := by
  unfold State.cell State.setCell
  rw [tab_getD_put, if_neg]
  intro e
  obtain ⟨h1, h2⟩ := side_ix_inj e
  exact h (by rw [h1, h2])

/-! ### `setLine` -/

@[simp] theorem setLine_time (n : Nat) (v : CellLine) : (s.setLine n v).time = s.time := rfl
@[simp] theorem setLine_dev (n : Nat) (v : CellLine) : (s.setLine n v).dev = s.dev := rfl
@[simp] theorem setLine_host (n : Nat) (v : CellLine) : (s.setLine n v).host = s.host := rfl
@[simp] theorem setLine_hs (n : Nat) (v : CellLine) : (s.setLine n v).hs = s.hs := rfl
@[simp] theorem setLine_faults (n : Nat) (v : CellLine) : (s.setLine n v).faults = s.faults := rfl
@[simp] theorem setLine_pairs (n : Nat) (v : CellLine) : (s.setLine n v).pairs = s.pairs := rfl
@[simp] theorem setLine_cfg (n : Nat) (v : CellLine) : (s.setLine n v).cfg = s.cfg := rfl
@[simp] theorem setLine_params (n : Nat) (v : CellLine) : (s.setLine n v).params = s.params := rfl
@[simp] theorem setLine_field (n : Nat) (v : CellLine) : (s.setLine n v).field = s.field := rfl
@[simp] theorem setLine_weir (n : Nat) (v : CellLine) : (s.setLine n v).weir = s.weir := rfl
@[simp] theorem setLine_oxb (n : Nat) (v : CellLine) : (s.setLine n v).oxb = s.oxb := rfl
@[simp] theorem setLine_ros (n : Nat) (v : CellLine) : (s.setLine n v).ros = s.ros := rfl
@[simp] theorem setLine_pwr (n : Nat) (v : CellLine) : (s.setLine n v).pwr = s.pwr := rfl
@[simp] theorem setLine_clk (n : Nat) (v : CellLine) : (s.setLine n v).clk = s.clk := rfl
@[simp] theorem setLine_rif (n : Nat) (v : CellLine) : (s.setLine n v).rif = s.rif := rfl
@[simp] theorem setLine_bundles (n : Nat) (v : CellLine) : (s.setLine n v).bundles = s.bundles := rfl
@[simp] theorem setLine_mems (n : Nat) (v : CellLine) : (s.setLine n v).mems = s.mems := rfl
@[simp] theorem setLine_jtag (n : Nat) (v : CellLine) : (s.setLine n v).jtag = s.jtag := rfl
@[simp] theorem setLine_pending (n : Nat) (v : CellLine) : (s.setLine n v).pending = s.pending := rfl
@[simp] theorem setLine_free (n : Nat) (v : CellLine) : (s.setLine n v).free = s.free := rfl

theorem line_setLine (n : Nat) (v : CellLine) (n' : Nat) : (s.setLine n v).line n' = if n' = n then v else s.line n' := tab_getD_put _ _ _ _ _

@[simp] theorem line_setLine_self (n : Nat) (v : CellLine) : (s.setLine n v).line n = v := by rw [line_setLine, if_pos rfl]

theorem line_setLine_of_ne (n : Nat) (v : CellLine) {n' : Nat} (h : n' ≠ n) : (s.setLine n v).line n' = s.line n' := by rw [line_setLine, if_neg h]

/-! ### `setPair` -/

@[simp] theorem setPair_time (p : Nat) (v : PairSt) : (s.setPair p v).time = s.time := rfl
@[simp] theorem setPair_dev (p : Nat) (v : PairSt) : (s.setPair p v).dev = s.dev := rfl
@[simp] theorem setPair_host (p : Nat) (v : PairSt) : (s.setPair p v).host = s.host := rfl
@[simp] theorem setPair_hs (p : Nat) (v : PairSt) : (s.setPair p v).hs = s.hs := rfl
@[simp] theorem setPair_faults (p : Nat) (v : PairSt) : (s.setPair p v).faults = s.faults := rfl
@[simp] theorem setPair_cfg (p : Nat) (v : PairSt) : (s.setPair p v).cfg = s.cfg := rfl
@[simp] theorem setPair_params (p : Nat) (v : PairSt) : (s.setPair p v).params = s.params := rfl
@[simp] theorem setPair_cells (p : Nat) (v : PairSt) : (s.setPair p v).cells = s.cells := rfl
@[simp] theorem setPair_field (p : Nat) (v : PairSt) : (s.setPair p v).field = s.field := rfl
@[simp] theorem setPair_weir (p : Nat) (v : PairSt) : (s.setPair p v).weir = s.weir := rfl
@[simp] theorem setPair_oxb (p : Nat) (v : PairSt) : (s.setPair p v).oxb = s.oxb := rfl
@[simp] theorem setPair_ros (p : Nat) (v : PairSt) : (s.setPair p v).ros = s.ros := rfl
@[simp] theorem setPair_pwr (p : Nat) (v : PairSt) : (s.setPair p v).pwr = s.pwr := rfl
@[simp] theorem setPair_clk (p : Nat) (v : PairSt) : (s.setPair p v).clk = s.clk := rfl
@[simp] theorem setPair_rif (p : Nat) (v : PairSt) : (s.setPair p v).rif = s.rif := rfl
@[simp] theorem setPair_bundles (p : Nat) (v : PairSt) : (s.setPair p v).bundles = s.bundles := rfl
@[simp] theorem setPair_mems (p : Nat) (v : PairSt) : (s.setPair p v).mems = s.mems := rfl
@[simp] theorem setPair_jtag (p : Nat) (v : PairSt) : (s.setPair p v).jtag = s.jtag := rfl
@[simp] theorem setPair_pending (p : Nat) (v : PairSt) : (s.setPair p v).pending = s.pending := rfl
@[simp] theorem setPair_free (p : Nat) (v : PairSt) : (s.setPair p v).free = s.free := rfl

theorem pair_setPair (p : Nat) (v : PairSt) (p' : Nat) : (s.setPair p v).pair p' = if p' = p then v else s.pair p' := tab_getD_put _ _ _ _ _

@[simp] theorem pair_setPair_self (p : Nat) (v : PairSt) : (s.setPair p v).pair p = v := by rw [pair_setPair, if_pos rfl]

theorem pair_setPair_of_ne (p : Nat) (v : PairSt) {p' : Nat} (h : p' ≠ p) : (s.setPair p v).pair p' = s.pair p' := by rw [pair_setPair, if_neg h]

/-! ### `setPairGroup` -/

@[simp] theorem setPairGroup_time (sd : Side) (role g : Nat) (v : PairGroup) : (s.setPairGroup sd role g v).time = s.time := rfl
@[simp] theorem setPairGroup_dev (sd : Side) (role g : Nat) (v : PairGroup) : (s.setPairGroup sd role g v).dev = s.dev := rfl
@[simp] theorem setPairGroup_host (sd : Side) (role g : Nat) (v : PairGroup) : (s.setPairGroup sd role g v).host = s.host := rfl
@[simp] theorem setPairGroup_hs (sd : Side) (role g : Nat) (v : PairGroup) : (s.setPairGroup sd role g v).hs = s.hs := rfl
@[simp] theorem setPairGroup_faults (sd : Side) (role g : Nat) (v : PairGroup) : (s.setPairGroup sd role g v).faults = s.faults := rfl
@[simp] theorem setPairGroup_pairs (sd : Side) (role g : Nat) (v : PairGroup) : (s.setPairGroup sd role g v).pairs = s.pairs := rfl
@[simp] theorem setPairGroup_cfg (sd : Side) (role g : Nat) (v : PairGroup) : (s.setPairGroup sd role g v).cfg = s.cfg := rfl
@[simp] theorem setPairGroup_params (sd : Side) (role g : Nat) (v : PairGroup) : (s.setPairGroup sd role g v).params = s.params := rfl
@[simp] theorem setPairGroup_cells (sd : Side) (role g : Nat) (v : PairGroup) : (s.setPairGroup sd role g v).cells = s.cells := rfl
@[simp] theorem setPairGroup_weir (sd : Side) (role g : Nat) (v : PairGroup) : (s.setPairGroup sd role g v).weir = s.weir := rfl
@[simp] theorem setPairGroup_oxb (sd : Side) (role g : Nat) (v : PairGroup) : (s.setPairGroup sd role g v).oxb = s.oxb := rfl
@[simp] theorem setPairGroup_ros (sd : Side) (role g : Nat) (v : PairGroup) : (s.setPairGroup sd role g v).ros = s.ros := rfl
@[simp] theorem setPairGroup_pwr (sd : Side) (role g : Nat) (v : PairGroup) : (s.setPairGroup sd role g v).pwr = s.pwr := rfl
@[simp] theorem setPairGroup_clk (sd : Side) (role g : Nat) (v : PairGroup) : (s.setPairGroup sd role g v).clk = s.clk := rfl
@[simp] theorem setPairGroup_rif (sd : Side) (role g : Nat) (v : PairGroup) : (s.setPairGroup sd role g v).rif = s.rif := rfl
@[simp] theorem setPairGroup_bundles (sd : Side) (role g : Nat) (v : PairGroup) : (s.setPairGroup sd role g v).bundles = s.bundles := rfl
@[simp] theorem setPairGroup_mems (sd : Side) (role g : Nat) (v : PairGroup) : (s.setPairGroup sd role g v).mems = s.mems := rfl
@[simp] theorem setPairGroup_jtag (sd : Side) (role g : Nat) (v : PairGroup) : (s.setPairGroup sd role g v).jtag = s.jtag := rfl
@[simp] theorem setPairGroup_pending (sd : Side) (role g : Nat) (v : PairGroup) : (s.setPairGroup sd role g v).pending = s.pending := rfl
@[simp] theorem setPairGroup_free (sd : Side) (role g : Nat) (v : PairGroup) : (s.setPairGroup sd role g v).free = s.free := rfl

@[simp] theorem pairGroup_setPairGroup_self (sd : Side) (role g : Nat) (v : PairGroup) :
    (s.setPairGroup sd role g v).pairGroup sd role g = v := by
  by_cases h : v = (s.gview sd g).pairPart
  · rw [State.pairGroup, State.setPairGroup, if_pos h, tab_get_del, h]
    rfl
  · rw [State.pairGroup, State.setPairGroup, if_neg h, tab_get_put, if_pos rfl, Option.getD_some]

/-! ### `setPairView` and `addLoad` -/

@[simp] theorem setPairView_time (sd : Side) (role c : Nat) (v : PairView) : (s.setPairView sd role c v).time = s.time := rfl
@[simp] theorem setPairView_dev (sd : Side) (role c : Nat) (v : PairView) : (s.setPairView sd role c v).dev = s.dev := rfl
@[simp] theorem setPairView_host (sd : Side) (role c : Nat) (v : PairView) : (s.setPairView sd role c v).host = s.host := rfl
@[simp] theorem setPairView_hs (sd : Side) (role c : Nat) (v : PairView) : (s.setPairView sd role c v).hs = s.hs := rfl
@[simp] theorem setPairView_faults (sd : Side) (role c : Nat) (v : PairView) : (s.setPairView sd role c v).faults = s.faults := rfl
@[simp] theorem setPairView_pairs (sd : Side) (role c : Nat) (v : PairView) : (s.setPairView sd role c v).pairs = s.pairs := rfl
@[simp] theorem setPairView_cfg (sd : Side) (role c : Nat) (v : PairView) : (s.setPairView sd role c v).cfg = s.cfg := rfl
@[simp] theorem setPairView_params (sd : Side) (role c : Nat) (v : PairView) : (s.setPairView sd role c v).params = s.params := rfl
@[simp] theorem setPairView_cells (sd : Side) (role c : Nat) (v : PairView) : (s.setPairView sd role c v).cells = s.cells := rfl
@[simp] theorem setPairView_weir (sd : Side) (role c : Nat) (v : PairView) : (s.setPairView sd role c v).weir = s.weir := rfl
@[simp] theorem setPairView_oxb (sd : Side) (role c : Nat) (v : PairView) : (s.setPairView sd role c v).oxb = s.oxb := rfl
@[simp] theorem setPairView_ros (sd : Side) (role c : Nat) (v : PairView) : (s.setPairView sd role c v).ros = s.ros := rfl
@[simp] theorem setPairView_pwr (sd : Side) (role c : Nat) (v : PairView) : (s.setPairView sd role c v).pwr = s.pwr := rfl
@[simp] theorem setPairView_clk (sd : Side) (role c : Nat) (v : PairView) : (s.setPairView sd role c v).clk = s.clk := rfl
@[simp] theorem setPairView_rif (sd : Side) (role c : Nat) (v : PairView) : (s.setPairView sd role c v).rif = s.rif := rfl
@[simp] theorem setPairView_bundles (sd : Side) (role c : Nat) (v : PairView) : (s.setPairView sd role c v).bundles = s.bundles := rfl
@[simp] theorem setPairView_mems (sd : Side) (role c : Nat) (v : PairView) : (s.setPairView sd role c v).mems = s.mems := rfl
@[simp] theorem setPairView_jtag (sd : Side) (role c : Nat) (v : PairView) : (s.setPairView sd role c v).jtag = s.jtag := rfl
@[simp] theorem setPairView_pending (sd : Side) (role c : Nat) (v : PairView) : (s.setPairView sd role c v).pending = s.pending := rfl
@[simp] theorem setPairView_free (sd : Side) (role c : Nat) (v : PairView) : (s.setPairView sd role c v).free = s.free := rfl

@[simp] theorem pairView_setPairView_self (sd : Side) (role c : Nat) (v : PairView) :
    (s.setPairView sd role c v).pairView sd role c = v := by
  by_cases h : v = (s.view sd c).pairPart
  · rw [State.pairView, State.setPairView, if_pos h, tab_get_del, h]
    rfl
  · rw [State.pairView, State.setPairView, if_neg h, tab_get_put, if_pos rfl, Option.getD_some]

@[simp] theorem addLoad_busyUs (p used : Nat) : ((s.addLoad p used).pair p).busyUs = (s.pair p).busyUs + used := by
  rw [State.addLoad, pair_setPair_self]

@[simp] theorem addLoad_load (p used : Nat) : ((s.addLoad p used).pair p).load = (s.pair p).load := by
  rw [State.addLoad, pair_setPair_self]

theorem addLoad_pair_of_ne (p used : Nat) {q : Nat} (h : q ≠ p) : (s.addLoad p used).pair q = s.pair q :=
  pair_setPair_of_ne s p _ h

/-! ### `setConn` -/

@[simp] theorem setConn_time (sd : Side) (n : Nat) (v : Conn) : (s.setConn sd n v).time = s.time := rfl
@[simp] theorem setConn_dev (sd : Side) (n : Nat) (v : Conn) : (s.setConn sd n v).dev = s.dev := rfl
@[simp] theorem setConn_host (sd : Side) (n : Nat) (v : Conn) : (s.setConn sd n v).host = s.host := rfl
@[simp] theorem setConn_hs (sd : Side) (n : Nat) (v : Conn) : (s.setConn sd n v).hs = s.hs := rfl
@[simp] theorem setConn_faults (sd : Side) (n : Nat) (v : Conn) : (s.setConn sd n v).faults = s.faults := rfl
@[simp] theorem setConn_pairs (sd : Side) (n : Nat) (v : Conn) : (s.setConn sd n v).pairs = s.pairs := rfl
@[simp] theorem setConn_cfg (sd : Side) (n : Nat) (v : Conn) : (s.setConn sd n v).cfg = s.cfg := rfl
@[simp] theorem setConn_params (sd : Side) (n : Nat) (v : Conn) : (s.setConn sd n v).params = s.params := rfl
@[simp] theorem setConn_cells (sd : Side) (n : Nat) (v : Conn) : (s.setConn sd n v).cells = s.cells := rfl
@[simp] theorem setConn_field (sd : Side) (n : Nat) (v : Conn) : (s.setConn sd n v).field = s.field := rfl
@[simp] theorem setConn_oxb (sd : Side) (n : Nat) (v : Conn) : (s.setConn sd n v).oxb = s.oxb := rfl
@[simp] theorem setConn_ros (sd : Side) (n : Nat) (v : Conn) : (s.setConn sd n v).ros = s.ros := rfl
@[simp] theorem setConn_pwr (sd : Side) (n : Nat) (v : Conn) : (s.setConn sd n v).pwr = s.pwr := rfl
@[simp] theorem setConn_clk (sd : Side) (n : Nat) (v : Conn) : (s.setConn sd n v).clk = s.clk := rfl
@[simp] theorem setConn_rif (sd : Side) (n : Nat) (v : Conn) : (s.setConn sd n v).rif = s.rif := rfl
@[simp] theorem setConn_bundles (sd : Side) (n : Nat) (v : Conn) : (s.setConn sd n v).bundles = s.bundles := rfl
@[simp] theorem setConn_mems (sd : Side) (n : Nat) (v : Conn) : (s.setConn sd n v).mems = s.mems := rfl
@[simp] theorem setConn_jtag (sd : Side) (n : Nat) (v : Conn) : (s.setConn sd n v).jtag = s.jtag := rfl
@[simp] theorem setConn_pending (sd : Side) (n : Nat) (v : Conn) : (s.setConn sd n v).pending = s.pending := rfl
@[simp] theorem setConn_free (sd : Side) (n : Nat) (v : Conn) : (s.setConn sd n v).free = s.free := rfl

@[simp] theorem conn_setConn_self (sd : Side) (n : Nat) (v : Conn) : (s.setConn sd n v).conn sd n = v := by
  unfold State.conn State.setConn
  rw [tab_getD_put, if_pos rfl]

theorem conn_setConn_of_ne (sd : Side) (n : Nat) (v : Conn) {sd' : Side} {n' : Nat} (h : (sd', n') ≠ (sd, n)) :
    (s.setConn sd n v).conn sd' n' = s.conn sd' n' := by
  unfold State.conn State.setConn
  rw [tab_getD_put, if_neg]
  intro e
  obtain ⟨h1, h2⟩ := side_ix_inj e
  exact h (by rw [h1, h2])

/-! ### `setPort` -/

@[simp] theorem setPort_time (k : Nat) (v : Port) : (s.setPort k v).time = s.time := rfl
@[simp] theorem setPort_dev (k : Nat) (v : Port) : (s.setPort k v).dev = s.dev := rfl
@[simp] theorem setPort_host (k : Nat) (v : Port) : (s.setPort k v).host = s.host := rfl
@[simp] theorem setPort_hs (k : Nat) (v : Port) : (s.setPort k v).hs = s.hs := rfl
@[simp] theorem setPort_faults (k : Nat) (v : Port) : (s.setPort k v).faults = s.faults := rfl
@[simp] theorem setPort_pairs (k : Nat) (v : Port) : (s.setPort k v).pairs = s.pairs := rfl
@[simp] theorem setPort_cfg (k : Nat) (v : Port) : (s.setPort k v).cfg = s.cfg := rfl
@[simp] theorem setPort_params (k : Nat) (v : Port) : (s.setPort k v).params = s.params := rfl
@[simp] theorem setPort_cells (k : Nat) (v : Port) : (s.setPort k v).cells = s.cells := rfl
@[simp] theorem setPort_field (k : Nat) (v : Port) : (s.setPort k v).field = s.field := rfl
@[simp] theorem setPort_oxb (k : Nat) (v : Port) : (s.setPort k v).oxb = s.oxb := rfl
@[simp] theorem setPort_ros (k : Nat) (v : Port) : (s.setPort k v).ros = s.ros := rfl
@[simp] theorem setPort_pwr (k : Nat) (v : Port) : (s.setPort k v).pwr = s.pwr := rfl
@[simp] theorem setPort_clk (k : Nat) (v : Port) : (s.setPort k v).clk = s.clk := rfl
@[simp] theorem setPort_rif (k : Nat) (v : Port) : (s.setPort k v).rif = s.rif := rfl
@[simp] theorem setPort_bundles (k : Nat) (v : Port) : (s.setPort k v).bundles = s.bundles := rfl
@[simp] theorem setPort_mems (k : Nat) (v : Port) : (s.setPort k v).mems = s.mems := rfl
@[simp] theorem setPort_jtag (k : Nat) (v : Port) : (s.setPort k v).jtag = s.jtag := rfl
@[simp] theorem setPort_pending (k : Nat) (v : Port) : (s.setPort k v).pending = s.pending := rfl
@[simp] theorem setPort_free (k : Nat) (v : Port) : (s.setPort k v).free = s.free := rfl

theorem port_setPort (k : Nat) (v : Port) (k' : Nat) : (s.setPort k v).port k' = if k' = k then v else s.port k' := tab_getD_put _ _ _ _ _

@[simp] theorem port_setPort_self (k : Nat) (v : Port) : (s.setPort k v).port k = v := by rw [port_setPort, if_pos rfl]

theorem port_setPort_of_ne (k : Nat) (v : Port) {k' : Nat} (h : k' ≠ k) : (s.setPort k v).port k' = s.port k' := by rw [port_setPort, if_neg h]

/-! ### `setWindow` -/

@[simp] theorem setWindow_time (sd : Side) (k : Nat) (v : List Descriptor) : (s.setWindow sd k v).time = s.time := rfl
@[simp] theorem setWindow_dev (sd : Side) (k : Nat) (v : List Descriptor) : (s.setWindow sd k v).dev = s.dev := rfl
@[simp] theorem setWindow_host (sd : Side) (k : Nat) (v : List Descriptor) : (s.setWindow sd k v).host = s.host := rfl
@[simp] theorem setWindow_hs (sd : Side) (k : Nat) (v : List Descriptor) : (s.setWindow sd k v).hs = s.hs := rfl
@[simp] theorem setWindow_faults (sd : Side) (k : Nat) (v : List Descriptor) : (s.setWindow sd k v).faults = s.faults := rfl
@[simp] theorem setWindow_pairs (sd : Side) (k : Nat) (v : List Descriptor) : (s.setWindow sd k v).pairs = s.pairs := rfl
@[simp] theorem setWindow_cfg (sd : Side) (k : Nat) (v : List Descriptor) : (s.setWindow sd k v).cfg = s.cfg := rfl
@[simp] theorem setWindow_params (sd : Side) (k : Nat) (v : List Descriptor) : (s.setWindow sd k v).params = s.params := rfl
@[simp] theorem setWindow_cells (sd : Side) (k : Nat) (v : List Descriptor) : (s.setWindow sd k v).cells = s.cells := rfl
@[simp] theorem setWindow_field (sd : Side) (k : Nat) (v : List Descriptor) : (s.setWindow sd k v).field = s.field := rfl
@[simp] theorem setWindow_oxb (sd : Side) (k : Nat) (v : List Descriptor) : (s.setWindow sd k v).oxb = s.oxb := rfl
@[simp] theorem setWindow_ros (sd : Side) (k : Nat) (v : List Descriptor) : (s.setWindow sd k v).ros = s.ros := rfl
@[simp] theorem setWindow_pwr (sd : Side) (k : Nat) (v : List Descriptor) : (s.setWindow sd k v).pwr = s.pwr := rfl
@[simp] theorem setWindow_clk (sd : Side) (k : Nat) (v : List Descriptor) : (s.setWindow sd k v).clk = s.clk := rfl
@[simp] theorem setWindow_rif (sd : Side) (k : Nat) (v : List Descriptor) : (s.setWindow sd k v).rif = s.rif := rfl
@[simp] theorem setWindow_bundles (sd : Side) (k : Nat) (v : List Descriptor) : (s.setWindow sd k v).bundles = s.bundles := rfl
@[simp] theorem setWindow_mems (sd : Side) (k : Nat) (v : List Descriptor) : (s.setWindow sd k v).mems = s.mems := rfl
@[simp] theorem setWindow_jtag (sd : Side) (k : Nat) (v : List Descriptor) : (s.setWindow sd k v).jtag = s.jtag := rfl
@[simp] theorem setWindow_pending (sd : Side) (k : Nat) (v : List Descriptor) : (s.setWindow sd k v).pending = s.pending := rfl
@[simp] theorem setWindow_free (sd : Side) (k : Nat) (v : List Descriptor) : (s.setWindow sd k v).free = s.free := rfl

/-! ### `setWords` -/

@[simp] theorem setWords_time (b : Nat) (w : FaultWords) : (s.setWords b w).time = s.time := rfl
@[simp] theorem setWords_dev (b : Nat) (w : FaultWords) : (s.setWords b w).dev = s.dev := rfl
@[simp] theorem setWords_host (b : Nat) (w : FaultWords) : (s.setWords b w).host = s.host := rfl
@[simp] theorem setWords_hs (b : Nat) (w : FaultWords) : (s.setWords b w).hs = s.hs := rfl
@[simp] theorem setWords_pairs (b : Nat) (w : FaultWords) : (s.setWords b w).pairs = s.pairs := rfl
@[simp] theorem setWords_cfg (b : Nat) (w : FaultWords) : (s.setWords b w).cfg = s.cfg := rfl
@[simp] theorem setWords_params (b : Nat) (w : FaultWords) : (s.setWords b w).params = s.params := rfl
@[simp] theorem setWords_cells (b : Nat) (w : FaultWords) : (s.setWords b w).cells = s.cells := rfl
@[simp] theorem setWords_field (b : Nat) (w : FaultWords) : (s.setWords b w).field = s.field := rfl
@[simp] theorem setWords_weir (b : Nat) (w : FaultWords) : (s.setWords b w).weir = s.weir := rfl
@[simp] theorem setWords_oxb (b : Nat) (w : FaultWords) : (s.setWords b w).oxb = s.oxb := rfl
@[simp] theorem setWords_ros (b : Nat) (w : FaultWords) : (s.setWords b w).ros = s.ros := rfl
@[simp] theorem setWords_pwr (b : Nat) (w : FaultWords) : (s.setWords b w).pwr = s.pwr := rfl
@[simp] theorem setWords_clk (b : Nat) (w : FaultWords) : (s.setWords b w).clk = s.clk := rfl
@[simp] theorem setWords_rif (b : Nat) (w : FaultWords) : (s.setWords b w).rif = s.rif := rfl
@[simp] theorem setWords_bundles (b : Nat) (w : FaultWords) : (s.setWords b w).bundles = s.bundles := rfl
@[simp] theorem setWords_mems (b : Nat) (w : FaultWords) : (s.setWords b w).mems = s.mems := rfl
@[simp] theorem setWords_jtag (b : Nat) (w : FaultWords) : (s.setWords b w).jtag = s.jtag := rfl
@[simp] theorem setWords_pending (b : Nat) (w : FaultWords) : (s.setWords b w).pending = s.pending := rfl
@[simp] theorem setWords_free (b : Nat) (w : FaultWords) : (s.setWords b w).free = s.free := rfl

theorem words_setWords (b : Nat) (w : FaultWords) (b' : Nat) : (s.setWords b w).words b' = if b' = b then w else s.words b' := tab_getD_put _ _ _ _ _

@[simp] theorem words_setWords_self (b : Nat) (w : FaultWords) : (s.setWords b w).words b = w := by rw [words_setWords, if_pos rfl]

theorem words_setWords_of_ne (b : Nat) (w : FaultWords) {b' : Nat} (h : b' ≠ b) : (s.setWords b w).words b' = s.words b' := by rw [words_setWords, if_neg h]

/-! ### `setUnit` -/

@[simp] theorem setUnit_time (u : Nat) (r : UnitRec) : (s.setUnit u r).time = s.time := rfl
@[simp] theorem setUnit_dev (u : Nat) (r : UnitRec) : (s.setUnit u r).dev = s.dev := rfl
@[simp] theorem setUnit_host (u : Nat) (r : UnitRec) : (s.setUnit u r).host = s.host := rfl
@[simp] theorem setUnit_hs (u : Nat) (r : UnitRec) : (s.setUnit u r).hs = s.hs := rfl
@[simp] theorem setUnit_faults (u : Nat) (r : UnitRec) : (s.setUnit u r).faults = s.faults := rfl
@[simp] theorem setUnit_pairs (u : Nat) (r : UnitRec) : (s.setUnit u r).pairs = s.pairs := rfl
@[simp] theorem setUnit_cfg (u : Nat) (r : UnitRec) : (s.setUnit u r).cfg = s.cfg := rfl
@[simp] theorem setUnit_params (u : Nat) (r : UnitRec) : (s.setUnit u r).params = s.params := rfl
@[simp] theorem setUnit_cells (u : Nat) (r : UnitRec) : (s.setUnit u r).cells = s.cells := rfl
@[simp] theorem setUnit_field (u : Nat) (r : UnitRec) : (s.setUnit u r).field = s.field := rfl
@[simp] theorem setUnit_weir (u : Nat) (r : UnitRec) : (s.setUnit u r).weir = s.weir := rfl
@[simp] theorem setUnit_oxb (u : Nat) (r : UnitRec) : (s.setUnit u r).oxb = s.oxb := rfl
@[simp] theorem setUnit_ros (u : Nat) (r : UnitRec) : (s.setUnit u r).ros = s.ros := rfl
@[simp] theorem setUnit_pwr (u : Nat) (r : UnitRec) : (s.setUnit u r).pwr = s.pwr := rfl
@[simp] theorem setUnit_clk (u : Nat) (r : UnitRec) : (s.setUnit u r).clk = s.clk := rfl
@[simp] theorem setUnit_bundles (u : Nat) (r : UnitRec) : (s.setUnit u r).bundles = s.bundles := rfl
@[simp] theorem setUnit_mems (u : Nat) (r : UnitRec) : (s.setUnit u r).mems = s.mems := rfl
@[simp] theorem setUnit_jtag (u : Nat) (r : UnitRec) : (s.setUnit u r).jtag = s.jtag := rfl
@[simp] theorem setUnit_pending (u : Nat) (r : UnitRec) : (s.setUnit u r).pending = s.pending := rfl
@[simp] theorem setUnit_free (u : Nat) (r : UnitRec) : (s.setUnit u r).free = s.free := rfl

theorem unit_setUnit (u : Nat) (r : UnitRec) (u' : Nat) : (s.setUnit u r).unit u' = if u' = u then r else s.unit u' := tab_getD_put _ _ _ _ _

@[simp] theorem unit_setUnit_self (u : Nat) (r : UnitRec) : (s.setUnit u r).unit u = r := by rw [unit_setUnit, if_pos rfl]

theorem unit_setUnit_of_ne (u : Nat) (r : UnitRec) {u' : Nat} (h : u' ≠ u) : (s.setUnit u r).unit u' = s.unit u' := by rw [unit_setUnit, if_neg h]

/-! ### `setCov` -/

@[simp] theorem setCov_time (c : Nat) (v : Coverage) : (s.setCov c v).time = s.time := rfl
@[simp] theorem setCov_dev (c : Nat) (v : Coverage) : (s.setCov c v).dev = s.dev := rfl
@[simp] theorem setCov_host (c : Nat) (v : Coverage) : (s.setCov c v).host = s.host := rfl
@[simp] theorem setCov_hs (c : Nat) (v : Coverage) : (s.setCov c v).hs = s.hs := rfl
@[simp] theorem setCov_faults (c : Nat) (v : Coverage) : (s.setCov c v).faults = s.faults := rfl
@[simp] theorem setCov_pairs (c : Nat) (v : Coverage) : (s.setCov c v).pairs = s.pairs := rfl
@[simp] theorem setCov_cfg (c : Nat) (v : Coverage) : (s.setCov c v).cfg = s.cfg := rfl
@[simp] theorem setCov_params (c : Nat) (v : Coverage) : (s.setCov c v).params = s.params := rfl
@[simp] theorem setCov_cells (c : Nat) (v : Coverage) : (s.setCov c v).cells = s.cells := rfl
@[simp] theorem setCov_field (c : Nat) (v : Coverage) : (s.setCov c v).field = s.field := rfl
@[simp] theorem setCov_weir (c : Nat) (v : Coverage) : (s.setCov c v).weir = s.weir := rfl
@[simp] theorem setCov_oxb (c : Nat) (v : Coverage) : (s.setCov c v).oxb = s.oxb := rfl
@[simp] theorem setCov_ros (c : Nat) (v : Coverage) : (s.setCov c v).ros = s.ros := rfl
@[simp] theorem setCov_pwr (c : Nat) (v : Coverage) : (s.setCov c v).pwr = s.pwr := rfl
@[simp] theorem setCov_clk (c : Nat) (v : Coverage) : (s.setCov c v).clk = s.clk := rfl
@[simp] theorem setCov_bundles (c : Nat) (v : Coverage) : (s.setCov c v).bundles = s.bundles := rfl
@[simp] theorem setCov_mems (c : Nat) (v : Coverage) : (s.setCov c v).mems = s.mems := rfl
@[simp] theorem setCov_jtag (c : Nat) (v : Coverage) : (s.setCov c v).jtag = s.jtag := rfl
@[simp] theorem setCov_pending (c : Nat) (v : Coverage) : (s.setCov c v).pending = s.pending := rfl
@[simp] theorem setCov_free (c : Nat) (v : Coverage) : (s.setCov c v).free = s.free := rfl

theorem cov_setCov (c : Nat) (v : Coverage) (c' : Nat) : (s.setCov c v).cov c' = if c' = c then v else s.cov c' := tab_getD_put _ _ _ _ _

@[simp] theorem cov_setCov_self (c : Nat) (v : Coverage) : (s.setCov c v).cov c = v := by rw [cov_setCov, if_pos rfl]

theorem cov_setCov_of_ne (c : Nat) (v : Coverage) {c' : Nat} (h : c' ≠ c) : (s.setCov c v).cov c' = s.cov c' := by rw [cov_setCov, if_neg h]

/-! ### `domainOn` -/

@[simp] theorem domainOn_time (d : Nat) : (s.domainOn d).time = s.time := rfl
@[simp] theorem domainOn_dev (d : Nat) : (s.domainOn d).dev = s.dev := rfl
@[simp] theorem domainOn_host (d : Nat) : (s.domainOn d).host = s.host := rfl
@[simp] theorem domainOn_hs (d : Nat) : (s.domainOn d).hs = s.hs := rfl
@[simp] theorem domainOn_faults (d : Nat) : (s.domainOn d).faults = s.faults := rfl
@[simp] theorem domainOn_pairs (d : Nat) : (s.domainOn d).pairs = s.pairs := rfl
@[simp] theorem domainOn_cfg (d : Nat) : (s.domainOn d).cfg = s.cfg := rfl
@[simp] theorem domainOn_params (d : Nat) : (s.domainOn d).params = s.params := rfl
@[simp] theorem domainOn_cells (d : Nat) : (s.domainOn d).cells = s.cells := rfl
@[simp] theorem domainOn_field (d : Nat) : (s.domainOn d).field = s.field := rfl
@[simp] theorem domainOn_weir (d : Nat) : (s.domainOn d).weir = s.weir := rfl
@[simp] theorem domainOn_oxb (d : Nat) : (s.domainOn d).oxb = s.oxb := rfl
@[simp] theorem domainOn_ros (d : Nat) : (s.domainOn d).ros = s.ros := rfl
@[simp] theorem domainOn_clk (d : Nat) : (s.domainOn d).clk = s.clk := rfl
@[simp] theorem domainOn_rif (d : Nat) : (s.domainOn d).rif = s.rif := rfl
@[simp] theorem domainOn_bundles (d : Nat) : (s.domainOn d).bundles = s.bundles := rfl
@[simp] theorem domainOn_mems (d : Nat) : (s.domainOn d).mems = s.mems := rfl
@[simp] theorem domainOn_jtag (d : Nat) : (s.domainOn d).jtag = s.jtag := rfl
@[simp] theorem domainOn_pending (d : Nat) : (s.domainOn d).pending = s.pending := rfl
@[simp] theorem domainOn_free (d : Nat) : (s.domainOn d).free = s.free := rfl

/-! ### `domainOff` -/

@[simp] theorem domainOff_time (d : Nat) : (s.domainOff d).time = s.time := rfl
@[simp] theorem domainOff_dev (d : Nat) : (s.domainOff d).dev = s.dev := rfl
@[simp] theorem domainOff_host (d : Nat) : (s.domainOff d).host = s.host := rfl
@[simp] theorem domainOff_hs (d : Nat) : (s.domainOff d).hs = s.hs := rfl
@[simp] theorem domainOff_faults (d : Nat) : (s.domainOff d).faults = s.faults := rfl
@[simp] theorem domainOff_pairs (d : Nat) : (s.domainOff d).pairs = s.pairs := rfl
@[simp] theorem domainOff_cfg (d : Nat) : (s.domainOff d).cfg = s.cfg := rfl
@[simp] theorem domainOff_params (d : Nat) : (s.domainOff d).params = s.params := rfl
@[simp] theorem domainOff_cells (d : Nat) : (s.domainOff d).cells = s.cells := rfl
@[simp] theorem domainOff_field (d : Nat) : (s.domainOff d).field = s.field := rfl
@[simp] theorem domainOff_weir (d : Nat) : (s.domainOff d).weir = s.weir := rfl
@[simp] theorem domainOff_oxb (d : Nat) : (s.domainOff d).oxb = s.oxb := rfl
@[simp] theorem domainOff_ros (d : Nat) : (s.domainOff d).ros = s.ros := rfl
@[simp] theorem domainOff_clk (d : Nat) : (s.domainOff d).clk = s.clk := rfl
@[simp] theorem domainOff_rif (d : Nat) : (s.domainOff d).rif = s.rif := rfl
@[simp] theorem domainOff_bundles (d : Nat) : (s.domainOff d).bundles = s.bundles := rfl
@[simp] theorem domainOff_mems (d : Nat) : (s.domainOff d).mems = s.mems := rfl
@[simp] theorem domainOff_jtag (d : Nat) : (s.domainOff d).jtag = s.jtag := rfl
@[simp] theorem domainOff_pending (d : Nat) : (s.domainOff d).pending = s.pending := rfl
@[simp] theorem domainOff_free (d : Nat) : (s.domainOff d).free = s.free := rfl

/-! ### `respond` -/

@[simp] theorem respond_time (r : Request) (st : Nat) (bs : List Byte) : (s.respond r st bs).time = s.time := rfl
@[simp] theorem respond_dev (r : Request) (st : Nat) (bs : List Byte) : (s.respond r st bs).dev = s.dev := rfl
@[simp] theorem respond_hs (r : Request) (st : Nat) (bs : List Byte) : (s.respond r st bs).hs = s.hs := rfl
@[simp] theorem respond_faults (r : Request) (st : Nat) (bs : List Byte) : (s.respond r st bs).faults = s.faults := rfl
@[simp] theorem respond_pairs (r : Request) (st : Nat) (bs : List Byte) : (s.respond r st bs).pairs = s.pairs := rfl
@[simp] theorem respond_cfg (r : Request) (st : Nat) (bs : List Byte) : (s.respond r st bs).cfg = s.cfg := rfl
@[simp] theorem respond_params (r : Request) (st : Nat) (bs : List Byte) : (s.respond r st bs).params = s.params := rfl
@[simp] theorem respond_cells (r : Request) (st : Nat) (bs : List Byte) : (s.respond r st bs).cells = s.cells := rfl
@[simp] theorem respond_field (r : Request) (st : Nat) (bs : List Byte) : (s.respond r st bs).field = s.field := rfl
@[simp] theorem respond_weir (r : Request) (st : Nat) (bs : List Byte) : (s.respond r st bs).weir = s.weir := rfl
@[simp] theorem respond_oxb (r : Request) (st : Nat) (bs : List Byte) : (s.respond r st bs).oxb = s.oxb := rfl
@[simp] theorem respond_ros (r : Request) (st : Nat) (bs : List Byte) : (s.respond r st bs).ros = s.ros := rfl
@[simp] theorem respond_pwr (r : Request) (st : Nat) (bs : List Byte) : (s.respond r st bs).pwr = s.pwr := rfl
@[simp] theorem respond_clk (r : Request) (st : Nat) (bs : List Byte) : (s.respond r st bs).clk = s.clk := rfl
@[simp] theorem respond_rif (r : Request) (st : Nat) (bs : List Byte) : (s.respond r st bs).rif = s.rif := rfl
@[simp] theorem respond_bundles (r : Request) (st : Nat) (bs : List Byte) : (s.respond r st bs).bundles = s.bundles := rfl
@[simp] theorem respond_mems (r : Request) (st : Nat) (bs : List Byte) : (s.respond r st bs).mems = s.mems := rfl
@[simp] theorem respond_jtag (r : Request) (st : Nat) (bs : List Byte) : (s.respond r st bs).jtag = s.jtag := rfl
@[simp] theorem respond_pending (r : Request) (st : Nat) (bs : List Byte) : (s.respond r st bs).pending = s.pending := rfl
@[simp] theorem respond_free (r : Request) (st : Nat) (bs : List Byte) : (s.respond r st bs).free = s.free := rfl

/-! ### `wait` -/

@[simp] theorem wait_time (r : Request) (on : WaitFor) : (s.wait r on).time = s.time := rfl
@[simp] theorem wait_dev (r : Request) (on : WaitFor) : (s.wait r on).dev = s.dev := rfl
@[simp] theorem wait_hs (r : Request) (on : WaitFor) : (s.wait r on).hs = s.hs := rfl
@[simp] theorem wait_faults (r : Request) (on : WaitFor) : (s.wait r on).faults = s.faults := rfl
@[simp] theorem wait_pairs (r : Request) (on : WaitFor) : (s.wait r on).pairs = s.pairs := rfl
@[simp] theorem wait_cfg (r : Request) (on : WaitFor) : (s.wait r on).cfg = s.cfg := rfl
@[simp] theorem wait_params (r : Request) (on : WaitFor) : (s.wait r on).params = s.params := rfl
@[simp] theorem wait_cells (r : Request) (on : WaitFor) : (s.wait r on).cells = s.cells := rfl
@[simp] theorem wait_field (r : Request) (on : WaitFor) : (s.wait r on).field = s.field := rfl
@[simp] theorem wait_weir (r : Request) (on : WaitFor) : (s.wait r on).weir = s.weir := rfl
@[simp] theorem wait_oxb (r : Request) (on : WaitFor) : (s.wait r on).oxb = s.oxb := rfl
@[simp] theorem wait_ros (r : Request) (on : WaitFor) : (s.wait r on).ros = s.ros := rfl
@[simp] theorem wait_pwr (r : Request) (on : WaitFor) : (s.wait r on).pwr = s.pwr := rfl
@[simp] theorem wait_clk (r : Request) (on : WaitFor) : (s.wait r on).clk = s.clk := rfl
@[simp] theorem wait_rif (r : Request) (on : WaitFor) : (s.wait r on).rif = s.rif := rfl
@[simp] theorem wait_bundles (r : Request) (on : WaitFor) : (s.wait r on).bundles = s.bundles := rfl
@[simp] theorem wait_mems (r : Request) (on : WaitFor) : (s.wait r on).mems = s.mems := rfl
@[simp] theorem wait_jtag (r : Request) (on : WaitFor) : (s.wait r on).jtag = s.jtag := rfl
@[simp] theorem wait_pending (r : Request) (on : WaitFor) : (s.wait r on).pending = s.pending := rfl
@[simp] theorem wait_free (r : Request) (on : WaitFor) : (s.wait r on).free = s.free := rfl

/-! ### `popRequest` -/

@[simp] theorem popRequest_time : s.popRequest.time = s.time := rfl
@[simp] theorem popRequest_dev : s.popRequest.dev = s.dev := rfl
@[simp] theorem popRequest_hs : s.popRequest.hs = s.hs := rfl
@[simp] theorem popRequest_faults : s.popRequest.faults = s.faults := rfl
@[simp] theorem popRequest_pairs : s.popRequest.pairs = s.pairs := rfl
@[simp] theorem popRequest_cfg : s.popRequest.cfg = s.cfg := rfl
@[simp] theorem popRequest_params : s.popRequest.params = s.params := rfl
@[simp] theorem popRequest_cells : s.popRequest.cells = s.cells := rfl
@[simp] theorem popRequest_field : s.popRequest.field = s.field := rfl
@[simp] theorem popRequest_weir : s.popRequest.weir = s.weir := rfl
@[simp] theorem popRequest_oxb : s.popRequest.oxb = s.oxb := rfl
@[simp] theorem popRequest_ros : s.popRequest.ros = s.ros := rfl
@[simp] theorem popRequest_pwr : s.popRequest.pwr = s.pwr := rfl
@[simp] theorem popRequest_clk : s.popRequest.clk = s.clk := rfl
@[simp] theorem popRequest_rif : s.popRequest.rif = s.rif := rfl
@[simp] theorem popRequest_bundles : s.popRequest.bundles = s.bundles := rfl
@[simp] theorem popRequest_mems : s.popRequest.mems = s.mems := rfl
@[simp] theorem popRequest_jtag : s.popRequest.jtag = s.jtag := rfl
@[simp] theorem popRequest_pending : s.popRequest.pending = s.pending := rfl
@[simp] theorem popRequest_free : s.popRequest.free = s.free := rfl

@[simp] theorem gview_setView (sd : Side) (c : Nat) (v : View) (sd' : Side) (c' : Nat) : (s.setView sd c v).gview sd' c' = s.gview sd' c' := rfl
@[simp] theorem die_setView (sd : Side) (c : Nat) (v : View) (c' : Nat) : (s.setView sd c v).die c' = s.die c' := rfl
@[simp] theorem chan_setView (sd : Side) (c : Nat) (v : View) (c' : Nat) : (s.setView sd c v).chan c' = s.chan c' := rfl
@[simp] theorem coupler_setView (sd : Side) (c : Nat) (v : View) (c' : Nat) : (s.setView sd c v).coupler c' = s.coupler c' := rfl
@[simp] theorem view_setGview (sd : Side) (g : Nat) (v : GroupView) (sd' : Side) (c' : Nat) : (s.setGview sd g v).view sd' c' = s.view sd' c' := rfl
@[simp] theorem die_setGview (sd : Side) (g : Nat) (v : GroupView) (c' : Nat) : (s.setGview sd g v).die c' = s.die c' := rfl
@[simp] theorem chan_setGview (sd : Side) (g : Nat) (v : GroupView) (c' : Nat) : (s.setGview sd g v).chan c' = s.chan c' := rfl
@[simp] theorem coupler_setGview (sd : Side) (g : Nat) (v : GroupView) (c' : Nat) : (s.setGview sd g v).coupler c' = s.coupler c' := rfl
@[simp] theorem view_setDie (g : Nat) (d : DieSt) (sd' : Side) (c' : Nat) : (s.setDie g d).view sd' c' = s.view sd' c' := rfl
@[simp] theorem gview_setDie (g : Nat) (d : DieSt) (sd' : Side) (c' : Nat) : (s.setDie g d).gview sd' c' = s.gview sd' c' := rfl
@[simp] theorem chan_setDie (g : Nat) (d : DieSt) (c' : Nat) : (s.setDie g d).chan c' = s.chan c' := rfl
@[simp] theorem coupler_setDie (g : Nat) (d : DieSt) (c' : Nat) : (s.setDie g d).coupler c' = s.coupler c' := rfl
@[simp] theorem view_setChan (c : Nat) (d : DieCh) (sd' : Side) (c' : Nat) : (s.setChan c d).view sd' c' = s.view sd' c' := rfl
@[simp] theorem gview_setChan (c : Nat) (d : DieCh) (sd' : Side) (c' : Nat) : (s.setChan c d).gview sd' c' = s.gview sd' c' := rfl
@[simp] theorem die_setChan (c : Nat) (d : DieCh) (c' : Nat) : (s.setChan c d).die c' = s.die c' := rfl
@[simp] theorem coupler_setChan (c : Nat) (d : DieCh) (c' : Nat) : (s.setChan c d).coupler c' = s.coupler c' := rfl
@[simp] theorem view_setCoupler (c : Nat) (d : Coupler) (sd' : Side) (c' : Nat) : (s.setCoupler c d).view sd' c' = s.view sd' c' := rfl
@[simp] theorem gview_setCoupler (c : Nat) (d : Coupler) (sd' : Side) (c' : Nat) : (s.setCoupler c d).gview sd' c' = s.gview sd' c' := rfl
@[simp] theorem die_setCoupler (c : Nat) (d : Coupler) (c' : Nat) : (s.setCoupler c d).die c' = s.die c' := rfl
@[simp] theorem chan_setCoupler (c : Nat) (d : Coupler) (c' : Nat) : (s.setCoupler c d).chan c' = s.chan c' := rfl
@[simp] theorem line_setCell (sd : Side) (n : Nat) (v : CellSide) (m : Nat) : (s.setCell sd n v).line m = s.line m := rfl
@[simp] theorem cell_setLine (n : Nat) (v : CellLine) (sd : Side) (m : Nat) : (s.setLine n v).cell sd m = s.cell sd m := rfl
@[simp] theorem conn_setPort (k : Nat) (v : Port) (sd : Side) (n : Nat) : (s.setPort k v).conn sd n = s.conn sd n := rfl
@[simp] theorem conn_setWindow (sd : Side) (k : Nat) (v : List Descriptor) (sd' : Side) (n : Nat) : (s.setWindow sd k v).conn sd' n = s.conn sd' n := rfl
@[simp] theorem port_setWindow (sd : Side) (k : Nat) (v : List Descriptor) (m : Nat) : (s.setWindow sd k v).port m = s.port m := rfl
@[simp] theorem port_setConn (sd : Side) (n : Nat) (v : Conn) (m : Nat) : (s.setConn sd n v).port m = s.port m := rfl
@[simp] theorem cov_setUnit (u : Nat) (r : UnitRec) (c : Nat) : (s.setUnit u r).cov c = s.cov c := rfl
@[simp] theorem unit_setCov (c : Nat) (v : Coverage) (u : Nat) : (s.setCov c v).unit u = s.unit u := rfl

/-- A window read after a write, for the ports 0 to 3. -/
theorem window_setWindow (sd sd' : Side) (k k' : Nat) (v : List Descriptor) (h : k < 4) (h' : k' < 4) :
    (s.setWindow sd k v).window sd' k' = if sd' = sd ∧ k' = k then v else s.window sd' k' := by
  unfold State.window State.setWindow
  rw [tab_getD_put]
  have e : 4 * Side.ix sd' + k' = 4 * Side.ix sd + k ↔ sd' = sd ∧ k' = k := by
    cases sd <;> cases sd' <;> simp [Side.ix] <;> omega
  simp only [e]

end Sys2Proof.Laws
end

