-- ==== Sys2Proof/Tests/Slice0.lean ====
section
/-! SUPPORT. Tests of the model: ill-formed commands refused, a few small steps, and for every statement of
Certificates/Slice0/Obligations.lean with hypotheses a concrete state and operands that meet them (the theorems wit_…; a statement
of several clauses has a witness for each clause, at the bounds of its ranges). -/

open Sys2Proof Sys2Proof.Machine Sys2Proof.Safety

set_option maxRecDepth 100000
set_option Elab.async false

namespace Sys2Proof.Tests

/-! ### Well-formed commands -/

theorem test_wf_channel : Instr.wf (.overtemp 64) = false := by decide
theorem test_wf_channel_ok : Instr.wf (.overtemp 63) = true := by decide
theorem test_wf_group : Instr.wf (.fdSupplyLoss 4) = false := by decide
theorem test_wf_port : Instr.wf (.linkUp 3) = false := by decide
theorem test_wf_cell : Instr.wf (.cellBoundary 256) = false := by decide
theorem test_wf_conn : Instr.wf (.openSend .a 4096) = false := by decide
theorem test_wf_pair_low : Instr.wf (.agrPersistCount 0 0 0) = false := by decide
theorem test_wf_pair_high : Instr.wf (.agrPersistCount 7 0 0) = false := by decide
theorem test_wf_fuse : Instr.wf (.rosProgram 4096) = false := by decide
theorem test_wf_lane_group : Instr.wf (.lockstepMismatch 1 none 96 false) = false := by decide
theorem test_wf_lane_group_ok : Instr.wf (.lockstepMismatch 6 none 95 false) = true := by decide
theorem test_wf_register_op : Instr.wf (.registerWrite .cmd 0x00400000) = false := by decide
theorem test_wf_register_op_ok : Instr.wf (.registerWrite .cmd 0x00500000) = true := by decide
theorem test_wf_rail : Instr.wf (.railFault 4) = false := by decide
theorem test_wf_bypass : Instr.wf (.bypass 256) = false := by decide
theorem test_wf_bypass_listed : Instr.wf (.bypass 0x10) = false := by decide
theorem test_wf_bypass_ok : Instr.wf (.bypass 0xFE) = true := by decide
theorem test_wf_land : Instr.wf (.errpReadbackCheck 2 true) = false := by decide

/-! ### Small states -/

/-- A cell of 10 ms. -/
def wCell (n : Nat) : CellEntry := ⟨n, true, false, false, 40, n, 1, 3, 0, 0, 0, 1, []⟩
def wChan (mode : Nat) : ChanEntry := ⟨mode, 0, 0, 0, 0, 0, 100, 60⟩
def wConn (n : Nat) : ConnEntry := ⟨0, true, true, true, false, 0, 77 + n, 20, 100, 50, 8, 8, 0, 0⟩
def wPartner : PartnerEntry := ⟨0x1234, [1, 2, 3, 4], true, false, true, true, false, 100, 100⟩
def wCont : Container := {
  hash := zeros 32, flags := 0, epoch := 0, serial := 1, tool := [], cells := [wCell 0, wCell 1], nodes := [⟨0, 0x50, 1, 0, 0, leBytes 4 (bitRef (fieldIdx 0 0)) ++ [1] ++ zeros 7⟩,
    ⟨1, 0x50, 1, 1, 0, leBytes 4 (bitRef (remoteInIdx 0 0)) ++ [2] ++ zeros 7⟩],
  chans := [wChan 1, wChan 4, wChan 5, wChan 3, wChan 2, wChan 6], conns := [wConn 0], partners := [wPartner], policy := [],
  recorder := [], limits := [], records := 0 }
def wRun : RunCfg := ⟨wCont, 7, [], []⟩
def wPair : PairSt := { selfTestOk := true }
/-- A device in RUN with everything powered. -/
def bench : State := { State.reset with
  time := { tick := 1000, origin := some 0, tau0 := some 0, slotNo := 5000, slotInTick := 1, mountTick := some 1 },
  dev := { st := .run, released := true, loaded := true, certOk := true, formOk := [true, true] },
  pwr := { domains := List.range 12, vsup := 3300, tj := 25, opSeconds := 500, powerCycles := 3, sinceRelease := 50 },
  clk := { pllLocked := true, serdesLocked := true },
  host := { ready := true, session := 5, version := 2 },
  oxb := { mounted := true },
  cfg := { running := some wRun },
  pairs := { pairs := [(1, wPair), (2, wPair), (3, wPair), (4, wPair), (5, wPair), (6, wPair)] } }
def inSt (st : DevState) (s : State) : State := { s with dev := { s.dev with st := st } }
def req (cmd : Nat) (payload : List Byte) : Request := ⟨3, 2, cmd, 5, payload, true, 3, false⟩
def asks (cmd : Nat) (payload : List Byte) (s : State) : State :=
  { s with host := { s.host with queue := [req cmd payload] } }
def lone (code : Nat) (pl : List Byte) (st : DevState := .run) : State := asks code pl (inSt st bench)
def withRosW (r : RosSt) (s : State) : State := { s with ros := r }
def txn : Txn := ⟨true, true⟩

/-- The public key whose private key is 1. -/
def wKey : List Byte := beBytes 32 p256G.1 ++ beBytes 32 p256G.2
/-- A manifest of version 1.0.2 that coexists with every version. -/
def wManifest : List Byte :=
  [0x46, 0x59, 0x4D, 0x46, 1, 0, 0, 0, 2, 0, 1, 0, 0, 0, 0, 0] ++ [9, 0, 0, 0, 1, 0, 1, 0, 3, 0, 1, 1, 0xA1, 0] ++ zeros 14 ++
  zeros 4 ++ [0xFF, 0xFF, 0xFF, 0xFF] ++ zeros 76
def wEntry (t off len hash : Nat) : List Byte := leBytes 4 t ++ leBytes 4 off ++ leBytes 4 len ++ zeros 4 ++ beBytes 32 hash
def wEmptyHash : Nat := 102987336249554097029535212322581322789799900648198034993379397001115665086549
/-- A bundle of four empty components and a manifest. -/
def wBundle : List Byte :=
  [0x46, 0x59, 0x46, 0x42, 1, 0, 5, 0] ++ leBytes 4 528 ++ zeros 20 ++
  wEntry 1 272 0 wEmptyHash ++ wEntry 2 272 0 wEmptyHash ++ wEntry 3 272 0 wEmptyHash ++ wEntry 4 272 0 wEmptyHash ++
  wEntry 5 272 128 55603934499702272872607316171580914031000878947412891940407565520880489011432 ++ wManifest ++ wKey ++
  beBytes 32 p256G.1 ++ beBytes 32 94979965916973123940300819121509399363345208774167213657438488321674274393164
/-- The fuse words that name the stepping and the digest of the key. -/
def wShadow : Tab ShadowWord :=
  [(1, ⟨0xA1, true, false, false⟩), (3, ⟨3900719738771961304, true, false, false⟩), (4, ⟨9241029853325084590, true, false, false⟩),
   (5, ⟨2657111513979760404, true, false, false⟩), (6, ⟨11461016514336839422, true, false, false⟩)]
def wMan : Manifest := ⟨0x10002, 0, 0, 9, 1, 1, 3, [0xA1], [(0, 0xFFFFFFFF)]⟩
def bench2 : State := { bench with ros := { bench.ros with sensed := true, shadow := wShadow } }

def wDir (id off count size : Nat) : List Byte := leBytes 4 id ++ leBytes 4 off ++ leBytes 4 count ++ leBytes 4 size
/-- A container of one cell of 10 ms with one AND node of constants; no channel is used. -/
def wBody (flags : Nat) : List Byte :=
  [0x46, 0x59, 0x4C, 0x43, 1, 0, 64, 0] ++ leBytes 4 1344 ++ leBytes 2 1 ++ leBytes 2 flags ++ leBytes 4 8 ++ zeros 44 ++
  wDir 1 192 1 64 ++ wDir 2 256 1 32 ++ wDir 3 288 64 16 ++ wDir 4 1312 0 64 ++ wDir 5 1312 0 32 ++ wDir 6 1312 0 8 ++
  wDir 7 1312 0 8 ++ wDir 8 1312 0 16 ++
  ([0, 1, 40, 0] ++ leBytes 4 0 ++ leBytes 4 1 ++ [3, 0xFF, 0xFF, 0] ++ leBytes 4 0 ++ leBytes 4 16 ++ zeros 40) ++
  ([1, 0, 1, 0] ++ leBytes 4 1 ++ [0x01, 0, 0, 0x40] ++ zeros 20) ++ zeros 1024
def wBytes : List Byte := wBody 0 ++ sha256 (wBody 0)

/-- The state after a command that goes on. -/
def after (c : Instr) (s : State) : State :=
  match exec c s with
  | .next t => t
  | _ => s

theorem foldl_zero {α : Type} {f : Nat → α → Nat} {l : List α} (h : ∀ a ∈ l, f 0 a = 0) : l.foldl f 0 = 0 := by
  induction l with
  | nil => rfl
  | cons a l ih => rw [List.foldl_cons, h a (by simp), ih (fun b hb => h b (by simp [hb]))]

/-- A region of zeros has the CRC 0, so that its seal is 0xA502 in the top bits alone. -/
theorem seal_ok {s : State} (h : s.ros.shadow = [(3583, ⟨0xA502000000000000, true, false, false⟩)]) : s.validSeal 2 = true := by
  have hs : ∀ w, w ≠ 3583 → (s.shadow w).val = 0 := by
    intro w hw
    have : ¬ 3583 = w := fun e => hw e.symm
    simp [State.shadow, h, Tab.getD, Tab.get?, this]
  have hc : s.regionCrc 2 = 0 := by
    simp only [State.regionCrc, regionWords]
    refine foldl_zero ?_
    intro w hw
    have hne : w ≠ 3583 := by
      simp only [List.mem_map, List.mem_range] at hw
      obtain ⟨a, ha, rfl⟩ := hw
      omega
    split
    · rfl
    · rw [hs w hne]
      decide +kernel
  have hv : s.shadow 3583 = ⟨0xA502000000000000, true, false, false⟩ := by
    simp [State.shadow, h, Tab.getD, Tab.get?]
  have hr : regionWords 2 = some (1280, 3582, 3583) := rfl
  simp only [State.validSeal, hr, hc, hv]
  decide

/-- The checks of `AtFront`, `Served` and the like as one decision. -/
def okIs (m : Manifest) (x : Except Nat Manifest) : Bool :=
  match x with
  | .ok k => k == m
  | .error _ => false

def errorIs (e : Nat) (x : Except Nat Manifest) : Bool :=
  match x with
  | .ok _ => false
  | .error k => k == e

theorem ok_of {m : Manifest} {x : Except Nat Manifest} (h : okIs m x = true) : x = .ok m := by
  cases x with
  | error e => cases h
  | ok k => rw [show k = m by simpa [okIs] using h]

theorem error_of {e : Nat} {x : Except Nat Manifest} (h : errorIs e x = true) : x = .error e := by
  cases x with
  | error k => rw [show k = e by simpa [errorIs] using h]
  | ok k => cases h

/-- The bundle is accepted: its hashes, its key and its signature are right (one run of the signature check). -/
theorem bundle_ok : bench2.bundleCheck wBundle = .ok wMan := ok_of (by decide +kernel)

/-- Whether a bundle is accepted rests on the fuses alone. -/
theorem bundle_ros {s t : State} (h : s.ros = t.ros) (b : List Byte) : s.bundleCheck b = t.bundleCheck b := by
  cases s
  cases t
  cases h
  rfl

theorem bundle_at {s : State} {b : List Byte} (h : s.ros = bench2.ros) (hb : b = wBundle) : s.bundleCheck b = .ok wMan := by
  rw [hb, bundle_ros h, bundle_ok]

theorem accepted_at {s : State} {i : Nat} (h : s.ros = bench2.ros) (hb : (s.bundles.bank i).bytes = wBundle) :
    s.acceptedBank i = some wMan := by
  simp [State.acceptedBank, bundle_at h hb]

theorem manifest_at {s : State} (h : s.ros = bench2.ros) (hb : s.bundles.handover.map (·.bank) = some 1)
    (hc : (s.bundles.bank 1).bytes = wBundle) : s.newManifest = some wMan := by
  cases hh : s.bundles.handover with
  | none => simp [hh] at hb
  | some x =>
    have hx : x.bank = 1 := by simpa [hh] using hb
    simp [State.newManifest, hh, hx, accepted_at h hc]

def frontB (r : Request) (q : List Request) (s : State) : Bool :=
  s.host.queue == r :: q && r.captured && !r.done && s.host.ready && !s.host.paused && !s.serveBlocked && s.on 8 && s.supRuns &&
    q.head?.all (fun r' => !r'.captured || (cmdVersion r'.cmd).isSome)

theorem front_of {r : Request} {q : List Request} {s : State} (h : frontB r q s = true) : AtFront r q s := by
  simp only [frontB, Bool.and_eq_true, beq_iff_eq, Bool.not_eq_true'] at h
  obtain ⟨⟨⟨⟨⟨⟨⟨⟨h1, h2⟩, h3⟩, h4⟩, h5⟩, h6⟩, h7⟩, h8⟩, h9⟩ := h
  refine ⟨h1, h2, h3, h4, h5, h6, h7, h8, ?_⟩
  intro r' hr hc
  cases hq : q.head? with
  | none => rw [hq] at hr; cases hr
  | some x =>
    rw [hq] at hr h9
    obtain rfl : x = r' := by simpa using hr
    simpa [hc] using h9

def sessionB (r : Request) (s : State) : Bool :=
  s.host.session != 0 && r.session == s.host.session && r.version == s.host.version &&
    (cmdVersion r.cmd).any (fun v => decide (v ≤ s.host.version))

theorem session_of {r : Request} {s : State} (h : sessionB r s = true) : InSession r s := by
  simp only [sessionB, Bool.and_eq_true, beq_iff_eq, bne_iff_ne, Option.any_eq_true, decide_eq_true_eq] at h
  exact ⟨h.1.1.1, h.1.1.2, h.1.2, h.2⟩

theorem served_of {code : Nat} {r : Request} {q : List Request} {s : State}
    (h : (frontB r q s && r.cmd == code && sessionB r s && (s.stateRefuses code).isNone) = true) : Served code r q s := by
  simp only [Bool.and_eq_true, beq_iff_eq, Option.isNone_iff_eq_none] at h
  exact ⟨front_of h.1.1.1, h.1.1.2, session_of h.1.2, h.2⟩

theorem some_getD {α : Type} [Inhabited α] {x : Option α} (h : x.isSome = true) : x = some (x.getD default) := by
  cases x with
  | none => cases h
  | some a => rfl

theorem heard_of {t : Txn} {s : State} (h : (s.on 8 = true ∧ s.clocked = true ∧ (s.host.iface = .xspi → t.xspiOk = true))) : Heard t s := h

/-! ### Small steps -/

/-- Table 11.2: after reset 32 tags are free, nothing else is set, and word 1 names no response. -/
theorem test_status_after_reset : State.reset.transportStatus =
    [0, 0, 0, 0x20, 0, 0, 0, 0xFF] := by decide +kernel
/-- Figure 14.1: the IDCODE register. -/
theorem test_idcode : (after .idcode State.reset).jtag.dr = 0x19640E4B := by decide +kernel
/-- Table 11.1: 0xFF is no opcode of SPI; reason 5. -/
theorem test_unknown_opcode : (after (.unknownOpcodeTransaction txn 0xFF) bench).host.lastReject = 5 := by decide +kernel
/-- R253: a READ_RSP without a response returns no response bytes of its own. -/
theorem test_release_without_response : (after (.rspRelease txn 3) bench).host.lastReject = 6 := by decide +kernel

/-! ### Transactions of HOST -/

namespace W1

def msg (tag : Nat) : List Byte :=
  let b : List Byte := leBytes 2 20 ++ [byte tag, 2] ++ leBytes 2 0x10 ++ [0,0] ++ leBytes 4 5 ++ zeros 4 ++ [1,2,3,4]
  b.take 12 ++ leBytes 4 (crc32Ether b) ++ b.drop 16
def r1 : Response := ⟨9, [1,2,3,4,5], 5⟩
def w0 : State := { bench with host := { bench.host with ready := false}}
def w1 : State := asks 0x10 [] bench
def w2 : State := {bench with host := {bench.host with rsp := [r1, r1]}}
def w3 : State := {bench with host := {bench.host with rsp := [r1, r1], lastReject := 4, rejectCount := 15, evFault := true}}
def w4 : State := {bench with host := {bench.host with iface := .xspi}}

/-- States and operands that meet hypotheses of `WriteReqAcceptedOrRejected`. -/
theorem wit_WriteReqAccepted :
    Heard txn w0 ∧ LengthRight (msg 3) ∧ CrcRight (msg 3) ∧ leAt (msg 3) 2 1 ≤ 31 ∧ leAt (msg 3) 2 1 ∉ w0.host.held ∧
    w0.host.ready = false ∧ Heard txn bench ∧ leAt (msg 3) 2 1 ∉ bench.host.held ∧ bench.host.ready = true :=
  by
    and_intros <;> first
      | decide +kernel
      | exact heard_of (by decide +kernel)
      | (unfold LengthRight; decide +kernel)
      | (unfold CrcRight; decide +kernel)

/-- States and operands that meet hypotheses of `WriteReqAcceptedOrRejected`. -/
theorem wit_WriteReqRejected :
    Heard txn w1 ∧ ¬LengthRight [] ∧ LengthRight ((msg 3).set 16 9) ∧ ¬CrcRight ((msg 3).set 16 9) ∧ LengthRight (msg 32) ∧
    CrcRight (msg 32) ∧ 31 < leAt (msg 32) 2 1 ∧ LengthRight (msg 3) ∧ CrcRight (msg 3) ∧ leAt (msg 3) 2 1 ≤ 31 ∧ leAt (msg 3) 2
    1 ∈ w1.host.held :=
  by
    and_intros <;> first
      | decide +kernel
      | exact heard_of (by decide +kernel)
      | (unfold LengthRight; decide +kernel)
      | (unfold CrcRight; decide +kernel)

/-- States and operands that meet hypotheses of `ResponsesAndTransportStatus`. -/
theorem wit_ReadAndReleaseResponses :
    Heard txn w2 ∧ w2.host.rsp = w2.host.rsp.headD default :: w2.host.rsp.tail ∧ 5 ≤ (w2.host.rsp.headD default).bytes.length ∧
    (∀ r ∈ w2.host.rsp.head?, r.tag ≠ 3) :=
  by and_intros <;> first | decide +kernel | exact heard_of (by decide +kernel)

/-- States and operands that meet hypotheses of `ResponsesAndTransportStatus`. -/
theorem wit_TransportStatusFields :
    bench.host.held.length ≤ 32 ∧ bench.host.lastReject < 16 ∧ bench.host.rejectCount < 16 ∧ (∀ r ∈ bench.host.rsp, r.tag < 256
    ∧ r.bytes.length < 8192) ∧ bench.host.rsp = [] ∧ w3.host.held.length ≤ 32 ∧ w3.host.lastReject < 16 ∧ w3.host.rejectCount <
    16 ∧ (∀ r ∈ w3.host.rsp, r.tag < 256 ∧ r.bytes.length < 8192) ∧ w3.host.rsp = w3.host.rsp.headD default :: w3.host.rsp.tail :=
  by decide +kernel

/-- States and operands that meet hypotheses of `TransactionsHeardAndSwitched`. -/
theorem wit_InterfaceSwitchesAndOpcodes :
    Heard txn w4 ∧ w4.host.iface = Iface.xspi ∧ Heard txn bench ∧ bench.host.iface ≠ Iface.xspi ∧ 0 ∉ [2#8, 11#8, 5#8, 13#8,
    232#8, 255#8] :=
  by and_intros <;> first | decide +kernel | exact heard_of (by decide +kernel)

end W1

/-! ### Services -/

namespace W2

def st1 : Staging := ⟨8, [(0,1),(1,1),(2,2)], false, []⟩
def withStg (x : Staging) (s : State) : State := { s with cfg := { s.cfg with staging := some x } }
def hsPl : List Byte := leBytes 2 32 ++ leBytes 2 32 ++ leBytes 4 10 ++ leBytes 4 0xF0F0 ++ leBytes 4 0xFF00
def w2 : State := lone 0x30 (leBytes 4 100) .safe
def w3 : State := lone 0x30 (leBytes 4 100)
def w4 : State := lone 0x31 (leBytes 4 2 ++ zeros 4 ++ [5,6])
def w5 : State := withStg st1 (lone 0x31 (leBytes 4 2 ++ zeros 4 ++ [5,6]))
def w6 : State := withStg {st1 with ended := true} (lone 0x31 (leBytes 4 2 ++ zeros 4 ++ [5,6]))
def w7 : State := withStg st1 (lone 0x31 (leBytes 4 7 ++ zeros 4 ++ [5,6]))
def w8 : State := { (lone 0x30 (leBytes 4 100) .safe) with cfg := { bench.cfg with admission := some ⟨4, false, [], default, default⟩}}
def w9 : State := withStg st1 (lone 0x32 (zeros 32))
def w10 : State := withStg {st1 with ended := true} (lone 0x32 (zeros 32))
def w13 : State := withStg st1 (lone 0x35 [])
def w14 : State := lone 0x40 [] .safe
def w15 : State := {lone 0x40 [] .safe with dev := { bench.dev with st := .safe, safeReason := 3}}
def w16 : State := lone 0x40 []
def w17 : State := lone 0x41 []
def w18 : State := lone 0x41 [] .verify
def w19 : State := lone 0x42 [] .safe
def w21 : State := {lone 0x42 [] .safe with dev := { bench.dev with st := .safe, safeReason := 3}}
def w23 : State := lone 0x60 hsPl

/-- States and operands that meet hypotheses of `StagingOpensAndFills`. -/
theorem wit_StagingOpensAndFills :
    Served 48 (req 48 (leBytes 4 100)) [] w2 ∧ 100 ≤ 8915168 ∧ (req 48 (leBytes 4 100)).payload = leBytes 4 100 ∧
    w2.cfg.admission = none ∧ (w2.dev.st = DevState.safe ∨ w2.dev.st = DevState.maintenance) ∧ Served 48 (req 48 (leBytes 4
    100)) [] w8 ∧ w8.cfg.admission.isSome = true ∧ Served 48 (req 48 (leBytes 4 100)) [] w3 ∧ w3.cfg.admission = none ∧
    w3.dev.st ≠ DevState.safe ∧ w3.dev.st ≠ DevState.maintenance ∧ Served 49 (req 49 (leBytes 4 2 ++ zeros 4 ++ [5, 6])) [] w4 ∧
    2 < 2 ^ 32 ∧ 1 ≤ [5, 6].length ∧ [5, 6].length ≤ 4072 ∧ (req 49 (leBytes 4 2 ++ zeros 4 ++ [5, 6])).payload = leBytes 4 2 ++
    [0, 0, 0, 0] ++ [5, 6] ∧ w4.cfg.admission = none ∧ w4.cfg.staging = none ∧ Served 49 (req 49 (leBytes 4 2 ++ zeros 4 ++ [5,
    6])) [] w6 ∧ w6.cfg.admission = none ∧ w6.cfg.staging = some (w6.cfg.staging.getD default) ∧ (w6.cfg.staging.getD
    default).ended = true ∧ Served 49 (req 49 (leBytes 4 2 ++ zeros 4 ++ [5, 6])) [] w5 ∧ w5.cfg.admission = none ∧
    w5.cfg.staging = some (w5.cfg.staging.getD default) ∧ (w5.cfg.staging.getD default).ended = false ∧ 2 + [5, 6].length ≤
    (w5.cfg.staging.getD default).length ∧ Served 49 (req 49 (leBytes 4 7 ++ zeros 4 ++ [5, 6])) [] w7 ∧ 7 < 2 ^ 32 ∧ (req 49
    (leBytes 4 7 ++ zeros 4 ++ [5, 6])).payload = leBytes 4 7 ++ [0, 0, 0, 0] ++ [5, 6] ∧ w7.cfg.admission = none ∧
    w7.cfg.staging = some (w7.cfg.staging.getD default) ∧ (w7.cfg.staging.getD default).ended = false ∧ (w7.cfg.staging.getD
    default).length < 7 + [5, 6].length :=
  by and_intros <;> first | decide +kernel | exact served_of (by decide +kernel) | exact some_getD (by decide +kernel)

/-- States and operands that meet hypotheses of `StagingOpensAndFills`. -/
theorem wit_StagedBytesReplaced :
    (List.Pairwise (fun x1 x2 => x1 < x2) (List.map (fun x => x.1) [(0, 1), (1, 1), (2, 2), (9, 9)])) ∧ 0 < [7, 8, 9].length ∧
    ((0, 1).1 < 1 ∨ 1 + [7, 8, 9].length ≤ (0, 1).1) ∧ (∀ c ∈ [(0, 1), (1, 1), (2, 2), (9, 9)], c.1 < 10) ∧ 1 + [7, 8, 9].length
    ≤ 10 ∧ (0, 1) ∈ stageWrite [(0, 1), (1, 1), (2, 2), (9, 9)] 1 [7, 8, 9] :=
  by decide +kernel

/-- States and operands that meet hypotheses of `StagingEndsAndAborts`. -/
theorem wit_StagingEndsAndAborts :
    Served 53 (req 53 []) [] w13 ∧ (req 53 []).payload = [] ∧ w13.cfg.admission = none ∧ w13.dev.st ≠ DevState.configure ∧
    Served 50 (req 50 (zeros 32)) [] w10 ∧ (req 50 (zeros 32)).payload.length = 32 ∧ w10.cfg.staging = some
    (w10.cfg.staging.getD default) ∧ (w10.cfg.staging.getD default).ended = true ∧ Served 50 (req 50 (zeros 32)) [] w9 ∧
    w9.cfg.staging = some (w9.cfg.staging.getD default) ∧ (w9.cfg.staging.getD default).ended = false ∧ (w9.cfg.staging.getD
    default).mem.length ≠ (w9.cfg.staging.getD default).length :=
  by and_intros <;> first | decide +kernel | exact served_of (by decide +kernel) | exact some_getD (by decide +kernel)

/-- States and operands that meet hypotheses of `RunSafeRestart`. -/
theorem wit_RunSafeRestart :
    (req 66 []).payload = [] ∧ Served 66 (req 66 []) [] w19 ∧ w19.dev.st = DevState.safe ∧ w19.liveAtLeast 3 = false ∧
    w19.dev.noSupervisor = false ∧ (w19.dev.safeReason ∉ [1, 3, 5] ∨ w19.dev.s3InSafe = true) ∧ w19.weir.conns = [] ∧ (req 65
    []).payload = [] ∧ Served 65 (req 65 []) [] w17 ∧ w17.dev.st = DevState.run ∧ Served 65 (req 65 []) [] w18 ∧ w18.dev.st =
    DevState.verify ∧ (req 64 []).payload = [] ∧ Served 64 (req 64 []) [] w16 ∧ (w16.dev.st ≠ DevState.safe ∨ w16.liveAtLeast 3
    = true) ∧ Served 64 (req 64 []) [] w14 ∧ w14.dev.st = DevState.safe ∧ w14.liveAtLeast 3 = false ∧ w14.dev.s3InSafe = false ∧
    w14.dev.safeReason ∉ [1, 3, 5] ∧ Served 64 (req 64 []) [] w15 ∧ w15.dev.st = DevState.safe ∧ w15.liveAtLeast 3 = false ∧
    w15.dev.s3InSafe = false ∧ w15.dev.safeReason ∈ [1, 3, 5] ∧ Served 66 (req 66 []) [] w21 ∧ w21.dev.st = DevState.safe ∧
    w21.liveAtLeast 3 = false ∧ w21.dev.noSupervisor = false ∧ w21.dev.safeReason ∈ [1, 3, 5] ∧ w21.dev.s3InSafe = false :=
  by and_intros <;> first | decide +kernel | exact served_of (by decide +kernel)

/-- States and operands that meet hypotheses of `HostSignalsAndParameters`. -/
theorem wit_HostSignalAndParameterWrites :
    Served 96 (req 96 hsPl) [] w23 ∧ 32 % 32 = 0 ∧ 32 ≤ 32 ∧ 32 + 32 ≤ 2048 ∧ (10 = 0 ∨ 10 ≤ 10 ∧ 10 ≤ 60000) ∧ 61680 < 2 ^ 32 ∧
    65280 < 2 ^ 32 ∧ (req 96 hsPl).payload = leBytes 2 32 ++ leBytes 2 32 ++ leBytes 4 10 ++ leBytes (32 / 8) 61680 ++ leBytes
    (32 / 8) 65280 :=
  by and_intros <;> first | decide +kernel | exact served_of (by decide +kernel)

end W2

/-! ### Services, continued -/

namespace W3

def ackPl : List Byte := [14,0,0,0] ++ leBytes 4 12
def fs (s : State) : State := (((s.raise 14 2 0 4).raise 14 3 0 4)).clear 14 3 0 4
def pw (code v : Nat) : List Byte := leBytes 4 code ++ zeros 4 ++ leBytes 8 v
def udp : Nat := 0x07020000
def w0 : State := fs (lone 0x21 ackPl)
def w1 : State := fs (lone 0x22 ackPl)
def w2 : State := { lone 0x35 [] .configure with dev := { bench.dev with st := .configure, configFrom := some (.safe, .none, 3, false)}}
def w3 : State := lone 0x71 (pw udp 5000)
def w4 : State := lone 0x71 (pw udp 5000) .safe
def w5 : State := lone 0x71 (pw udp 99999) .safe
def w6 : State := lone 0x71 (pw 0x11010000 200)
def w7 : State := lone 0x71 (pw 0x11010000 200) .safe
def w9 : State := lone 0x82 []
def w10 : State := lone 0x90 [0,1,0,0]
def w11 : State := { lone 0x90 [0,1,0,0] with rif := { selfTest := some ⟨0, 0, [], false, false, false, 0, 0⟩}}
def w13 : State := lone 0x90 [2,1,0,0]
def w14 : State := lone 0xA1 [1,0,0,0]
def w15 : State := lone 0xA1 [255,0,0,0]
def w16 : State := { lone 0xA1 [1,0,0,0] with rif := { cal := some ⟨[1], false, false, [], []⟩}}

/-- States and operands that meet hypotheses of `StagingEndsAndAborts`. -/
theorem wit_StagingEndsAndAborts :
    Served 53 (req 53 []) [] w2 ∧ (req 53 []).payload = [] ∧ w2.cfg.admission = none ∧ w2.dev.st = DevState.configure ∧
    w2.dev.configFrom = some (DevState.safe, Maint.none, 3, false) :=
  by and_intros <;> first | decide +kernel | exact served_of (by decide +kernel)

/-- States and operands that meet hypotheses of `HostSignalsAndParameters`. -/
theorem wit_HostSignalAndParameterWrites :
    Served 113 (req 113 (pw udp 99999)) [] w5 ∧ udp < 2 ^ 32 ∧ 99999 < 2 ^ 64 ∧ (req 113 (pw udp 99999)).payload = leBytes 4 udp
    ++ [0, 0, 0, 0] ++ leBytes 8 99999 ∧ paramItem udp = some ParamItem.udpPort ∧ w5.paramOk 99999 ParamItem.udpPort = false ∧
    Served 113 (req 113 (pw udp 5000)) [] w3 ∧ 5000 < 2 ^ 64 ∧ (req 113 (pw udp 5000)).payload = leBytes 4 udp ++ [0, 0, 0, 0]
    ++ leBytes 8 5000 ∧ w3.paramOk 5000 ParamItem.udpPort = true ∧ ParamItem.udpPort.cls = 0 ∧ w3.dev.st = DevState.run ∧ Served
    113 (req 113 (pw udp 5000)) [] w4 ∧ w4.paramOk 5000 ParamItem.udpPort = true ∧ w4.dev.st ≠ DevState.run ∧ ParamItem.udpPort
    = ParamItem.udpPort ∧ Served 113 (req 113 (pw 285278208 200)) [] w7 ∧ 285278208 < 2 ^ 32 ∧ 200 < 2 ^ 64 ∧ (req 113 (pw
    285278208 200)).payload = leBytes 4 285278208 ++ [0, 0, 0, 0] ++ leBytes 8 200 ∧ paramItem 285278208 = some (ParamItem.vfLow
    1) ∧ w7.paramOk 200 (ParamItem.vfLow 1) = true ∧ (ParamItem.vfLow 1).cls ≠ 0 ∧ w7.dev.st ≠ DevState.run ∧ Served 113 (req
    113 (pw 285278208 200)) [] w6 ∧ w6.paramOk 200 (ParamItem.vfLow 1) = true ∧ w6.dev.st = DevState.run ∧ ParamItem.vfLow 1 =
    ParamItem.vfLow 1 :=
  by and_intros <;> first | decide +kernel | exact served_of (by decide +kernel)

/-- States and operands that meet hypotheses of `FaultAckAndMask`. -/
theorem wit_FaultAckAndMask :
    isBlock 14 = true ∧ 12 < 2 ^ (highestIndex 14 + 1) ∧ (req 33 ackPl).payload = [byte 14, 0, 0, 0] ++ leBytes (4 *
    (highestIndex 14 / 32 + 1)) 12 ∧ Served 33 (req 33 ackPl) [] w0 ∧ (req 34 ackPl).payload = [byte 14, 0, 0, 0] ++ leBytes (4
    * (highestIndex 14 / 32 + 1)) 12 ∧ Served 34 (req 34 ackPl) [] w1 :=
  by and_intros <;> first | decide +kernel | exact served_of (by decide +kernel)

/-- States and operands that meet hypotheses of `LongServicesWait`. -/
theorem wit_LongServicesWait :
    Served 144 (req 144 [2, 1, 0, 0]) [] w13 ∧ (2 = 1 ∧ 1 < 4 ∨ 2 = 2 ∧ 1 ≤ 1 ∧ 1 < 3) ∧ (req 144 [2, 1, 0, 0]).payload = [byte
    2, byte 1, 0, 0] ∧ w13.rif.selfTest = none ∧ w13.unitInUse 2 1 = false ∧ 2 = 2 ∧ Served 144 (req 144 [0, 1, 0, 0]) [] w10 ∧
    1 < 64 ∧ (req 144 [0, 1, 0, 0]).payload = [0, byte 1, 0, 0] ∧ w10.rif.selfTest = none ∧ (w10.chanEntry 1).mode ≠ 0 ∧ Served
    161 (req 161 [1, 0, 0, 0]) [] w16 ∧ (req 161 [1, 0, 0, 0]).payload = [byte 1, 0, 0, 0] ∧ w16.rif.cal.isSome = true ∧ Served
    144 (req 144 [0, 1, 0, 0]) [] w11 ∧ w11.rif.selfTest.isSome = true ∧ Served 130 (req 130 []) [] w9 ∧ (req 130 []).payload =
    [] ∧ w9.oxb.running = none ∧ (∀ (k : FlushKind), w9.oxb.trigger = some k → k.rank < 2) ∧ Served 161 (req 161 [1, 0, 0, 0])
    [] w14 ∧ w14.rif.cal = none ∧ w14.cfg.live = none ∧ Served 161 (req 161 [255, 0, 0, 0]) [] w15 ∧ (req 161 [255, 0, 0,
    0]).payload = [255, 0, 0, 0] ∧ w15.rif.cal = none ∧ w15.cfg.live = none ∧ (List.filter (fun c => (w15.chanEntry c).mode !=
    0) (List.range 64) ≠ []) :=
  by and_intros <;> first | decide +kernel | exact served_of (by decide +kernel)

end W3

/-! ### Fuses -/

namespace W4

def fR : RosSt := { bench.ros with sensed := true, shadow := [(1300, {}), (1301, ⟨5, true, false, false⟩)] }
def rb : State := withRosW fR bench
def cold (s : State) : State := { s with pwr := { s.pwr with tj := 90 }}
def validRegion : State := withRosW { fR with shadow := [(3583, ⟨0xA502000000000000, true, false, false⟩)] } bench
def job : RosJob := ⟨.host, .program, 1300, 1300, 0xFFFF, false⟩
def js (j : RosJob) : State := withRosW { fR with busy := true, running := some j} bench
def fp (w d : Nat) : List Byte := leBytes 2 w ++ [0,0] ++ leBytes 8 d
def w0 : State := cold rb
def w1 : State := withRosW { fR with busy := true} bench
def w2 : State := js job
def w8 : State := asks 0xB1 (fp 1300 5) rb
def w9 : State := asks 0xB1 (fp 1301 5) rb
def w10 : State := cold (asks 0xB1 (fp 1300 5) rb)
def w11 : State := asks 0xB2 (leBytes 2 7 ++ leBytes 2 9) rb
def w12 : State := asks 0xB3 [2,0,0,0] rb
def w13 : State := asks 0xB4 [2,0,0,0] rb
def w14 : State := asks 0xB4 [2,0,0,0] validRegion
def w15 : State := asks 0xB3 [4,0,0,0] rb

/-- States and operands that meet hypotheses of `RosCommandRegister`. -/
theorem wit_RosCommandRegister :
    rb.supWrites = true ∧ rb.ros.busy = false ∧ 1280 ≤ 1300 ∧ 1300 < 3582 ∧ (rb.shadow 1300).prog = false ∧ (rb.shadow
    3583).prog = false ∧ FuseConditions rb ∧ validRegion.supWrites = true ∧ validRegion.ros.busy = false ∧ FuseConditions
    validRegion ∧ (validRegion.shadow 3582).prog = false ∧ validRegion.validSeal 2 = true ∧ 1301 < 4096 ∧ (rb.shadow 1301).prog
    = true ∧ w1.supWrites = true ∧ w1.ros.busy = true ∧ w0.supWrites = true ∧ w0.ros.busy = false ∧ (w0.shadow 1300).prog =
    false ∧ (w0.shadow 3583).prog = false ∧ ¬FuseConditions w0 :=
  by and_intros <;> first | decide +kernel | (unfold FuseConditions; decide +kernel) | exact seal_ok rfl

/-- States and operands that meet hypotheses of `FuseOperationsRun`. -/
theorem wit_OperationProgramsItsWordAlone :
    w2.ros.running = some (w2.ros.running.getD default) ∧ w2.ros.waiting = [] ∧ pulseOutcome 0 [ProgRead.extraOne] = some (0,
    false) ∧ 3 ≠ (w2.ros.running.getD default).target ∧ pulseOutcome 0 [ProgRead.weak, ProgRead.target] = some (1, true) ∧ true
    = true :=
  by and_intros <;> first | decide +kernel | exact some_getD (by decide +kernel)

/-- States and operands that meet hypotheses of `FuseServices`. -/
theorem wit_FuseServices :
    w8.ros.busy = false ∧ Served 177 (req 177 (fp 1300 5)) [] w8 ∧ 1300 < 4096 ∧ 5 < 2 ^ 64 ∧ (req 177 (fp 1300 5)).payload =
    leBytes 2 1300 ++ [0, 0] ++ leBytes 8 5 ∧ 1280 ≤ 1300 ∧ 1300 < 3582 ∧ (w8.shadow 1300).prog = false ∧ (w8.shadow 3583).prog
    = false ∧ FuseConditions w8 ∧ w12.ros.busy = false ∧ Served 179 (req 179 [2, 0, 0, 0]) [] w12 ∧ (req 179 [2, 0, 0,
    0]).payload = [2, 0, 0, 0] ∧ (w12.shadow 3583).prog = false ∧ FuseConditions w12 ∧ w14.ros.busy = false ∧ Served 180 (req
    180 [2, 0, 0, 0]) [] w14 ∧ (req 180 [2, 0, 0, 0]).payload = [2, 0, 0, 0] ∧ (w14.shadow 3582).prog = false ∧ w14.validSeal 2
    = true ∧ FuseConditions w14 ∧ w9.ros.busy = false ∧ Served 177 (req 177 (fp 1301 5)) [] w9 ∧ 1301 < 4096 ∧ (req 177 (fp 1301
    5)).payload = leBytes 2 1301 ++ [0, 0] ++ leBytes 8 5 ∧ (w9.shadow 1301).prog = true ∧ w11.ros.busy = false ∧ Served 178
    (req 178 (leBytes 2 7 ++ leBytes 2 9)) [] w11 ∧ 1 ≤ 9 ∧ 9 ≤ 4096 ∧ 7 + 9 ≤ 4096 ∧ (req 178 (leBytes 2 7 ++ leBytes 2
    9)).payload = leBytes 2 7 ++ leBytes 2 9 ∧ 7 ≤ 7 ∧ 7 < 7 + 9 ∧ w10.ros.busy = false ∧ Served 177 (req 177 (fp 1300 5)) []
    w10 ∧ (w10.shadow 1300).prog = false ∧ (w10.shadow 3583).prog = false ∧ ¬FuseConditions w10 ∧ w15.ros.busy = false ∧ Served
    179 (req 179 [4, 0, 0, 0]) [] w15 ∧ 4 ∈ [0, 4] ∧ (req 179 [4, 0, 0, 0]).payload = [byte 4, 0, 0, 0] ∧ w13.ros.busy = false ∧
    Served 180 (req 180 [2, 0, 0, 0]) [] w13 ∧ (w13.shadow 3582).prog = false ∧ w13.validSeal 2 = false :=
  by
    and_intros <;> first
      | decide +kernel
      | exact served_of (by decide +kernel)
      | (unfold FuseConditions; decide +kernel)
      | exact seal_ok rfl

end W4

/-! ### Firmware -/

namespace W5

def stg (x : Staging) (s : State) : State := { s with bundles := { s.bundles with staging := some x, running := some 0, manifest := some wMan} }
def full : Staging := ⟨528, wBundle.zipIdx.map (fun p => (p.2, p.1)), false, []⟩
def fulB : Staging := ⟨528, (wBundle.set 300 7).zipIdx.map (fun p => (p.2, p.1)), false, []⟩
def st1 : Staging := ⟨8, [(0,1),(1,1),(2,2)], false, []⟩
def reqs (c : Nat) (p : List Byte) : State := asks c p bench2
def bg := [0, 0, 0, 0] ++ leBytes 4 100
def dt := [1, 0, 0, 0] ++ leBytes 4 2 ++ [7,8]
def dt2 := [1, 0, 0, 0] ++ leBytes 4 7 ++ [7,8]
def en : List Byte := [2,0,0,0,0,0,0,0]
def ac : List Byte := leBytes 4 0x10002
def ac2 : List Byte := leBytes 4 0x10003
def fin : Staging := { full with ended := true }
def old2 : Manifest := {wMan with coexist := []}
def setM (m : Manifest) (s : State) : State := { s with bundles := { s.bundles with manifest := some m}}
def w0 : State := reqs 0xC0 bg
def w1 : State := { (reqs 0xC0 bg) with bundles := {bench.bundles with handover := some ⟨.starting, 1, 900⟩}}
def w2 : State := reqs 0xC0 dt
def w3 : State := stg st1 (reqs 0xC0 dt)
def w4 : State := stg {st1 with ended := true} (reqs 0xC0 dt)
def w5 : State := stg st1 (reqs 0xC0 dt2)
def w6 : State := reqs 0xC0 en
def w7 : State := stg st1 (reqs 0xC0 en)
def w8 : State := stg full (reqs 0xC0 en)
def w9 : State := stg fulB (reqs 0xC0 en)
def w10 : State := stg fin (reqs 0xC1 ac)
def w11 : State := stg full (reqs 0xC1 ac)
def w12 : State := inSt .safe (stg fin (reqs 0xC1 ac))
def w13 : State := setM old2 (stg fin (reqs 0xC1 ac))
def w15 : State := (stg fin (reqs 0xC1 ac2))

/-- States and operands that meet hypotheses of `FirmwareStagedAndActivated`. -/
theorem wit_FirmwareStaging :
    Served 192 (req 192 en) [] w6 ∧ (req 192 en).payload = [2, 0, 0, 0, 0, 0, 0, 0] ∧ w6.bundles.staging = none ∧ Served 192
    (req 192 bg) [] w0 ∧ 100 ≤ 12582912 ∧ (req 192 bg).payload = [0, 0, 0, 0] ++ leBytes 4 100 ∧ w0.bundles.handover = none ∧
    Served 192 (req 192 bg) [] w1 ∧ w1.bundles.handover.isSome = true ∧ Served 192 (req 192 dt) [] w2 ∧ 2 < 2 ^ 32 ∧ 1 ≤ [7,
    8].length ∧ [7, 8].length ≤ 4072 ∧ (req 192 dt).payload = [1, 0, 0, 0] ++ leBytes 4 2 ++ [7, 8] ∧ w2.bundles.staging = none
    ∧ Served 192 (req 192 en) [] w7 ∧ w7.bundles.staging = some (w7.bundles.staging.getD default) ∧ (w7.bundles.staging.getD
    default).ended = false ∧ (w7.bundles.staging.getD default).full = false ∧ Served 192 (req 192 dt) [] w4 ∧ w4.bundles.staging
    = some (w4.bundles.staging.getD default) ∧ (w4.bundles.staging.getD default).ended = true ∧ Served 192 (req 192 en) [] w8 ∧
    w8.bundles.staging = some (w8.bundles.staging.getD default) ∧ (w8.bundles.staging.getD default).ended = false ∧
    (w8.bundles.staging.getD default).full = true ∧ w8.bundleCheck (w8.bundles.staging.getD default).bytes = Except.ok wMan ∧
    Served 192 (req 192 dt) [] w3 ∧ w3.bundles.staging = some (w3.bundles.staging.getD default) ∧ (w3.bundles.staging.getD
    default).ended = false ∧ 2 + [7, 8].length ≤ (w3.bundles.staging.getD default).length ∧ Served 192 (req 192 dt2) [] w5 ∧ 7 <
    2 ^ 32 ∧ (req 192 dt2).payload = [1, 0, 0, 0] ++ leBytes 4 7 ++ [7, 8] ∧ w5.bundles.staging = some (w5.bundles.staging.getD
    default) ∧ (w5.bundles.staging.getD default).ended = false ∧ (w5.bundles.staging.getD default).length < 7 + [7, 8].length ∧
    Served 192 (req 192 en) [] w9 ∧ w9.bundles.staging = some (w9.bundles.staging.getD default) ∧ (w9.bundles.staging.getD
    default).ended = false ∧ (w9.bundles.staging.getD default).full = true ∧ w9.bundleCheck (w9.bundles.staging.getD
    default).bytes = Except.error stFW_BAD := by
  and_intros <;> first
    | exact served_of (by decide +kernel)
    | exact some_getD (by decide +kernel)
    | exact bundle_at rfl (by decide +kernel)
    | exact error_of (by decide +kernel)
    | decide +kernel

/-- States and operands that meet hypotheses of `FirmwareStagedAndActivated`. -/
theorem wit_FirmwareActivation :
    Served 193 (req 193 ac) [] w12 ∧ 65538 < 2 ^ 32 ∧ (req 193 ac).payload = leBytes 4 65538 ∧ w12.bundles.staging = some
    (w12.bundles.staging.getD default) ∧ (w12.bundles.staging.getD default).ended = true ∧ w12.bundleCheck
    (w12.bundles.staging.getD default).bytes = Except.ok wMan ∧ wMan.version = 65538 ∧ (w12.dev.st = DevState.safe ∨ w12.dev.st
    = DevState.maintenance) ∧ Served 193 (req 193 ac) [] w11 ∧ w11.bundles.staging = some (w11.bundles.staging.getD default) ∧
    (w11.bundles.staging.getD default).ended = false ∧ Served 193 (req 193 ac2) [] w15 ∧ 65539 < 2 ^ 32 ∧ (req 193 ac2).payload
    = leBytes 4 65539 ∧ w15.bundles.staging = some (w15.bundles.staging.getD default) ∧ (w15.bundles.staging.getD default).ended
    = true ∧ w15.bundleCheck (w15.bundles.staging.getD default).bytes = Except.ok wMan ∧ wMan.version ≠ 65539 ∧ Served 193 (req
    193 ac) [] w10 ∧ w10.bundles.staging = some (w10.bundles.staging.getD default) ∧ (w10.bundles.staging.getD default).ended =
    true ∧ w10.bundleCheck (w10.bundles.staging.getD default).bytes = Except.ok wMan ∧ w10.dev.st = DevState.run ∧
    w10.bundles.manifest = some (w10.bundles.manifest.getD default) ∧ w10.handoverAllowed (w10.bundles.manifest.getD default)
    wMan = true ∧ Served 193 (req 193 ac) [] w13 ∧ w13.bundles.staging = some (w13.bundles.staging.getD default) ∧
    (w13.bundles.staging.getD default).ended = true ∧ w13.bundleCheck (w13.bundles.staging.getD default).bytes = Except.ok wMan
    ∧ w13.dev.st = DevState.run ∧ w13.bundles.manifest = some (w13.bundles.manifest.getD default) ∧ w13.handoverAllowed
    (w13.bundles.manifest.getD default) wMan = false := by
  and_intros <;> first
    | exact served_of (by decide +kernel)
    | exact some_getD (by decide +kernel)
    | exact bundle_at rfl (by decide +kernel)
    | decide +kernel

end W5

/-! ### Faults, power and reset -/

namespace W6

def noisy : State := ((bench.raise 14 2 0 4).raise 0x10 3 1 1).raise 0x10 8 1 1
def pol : State := { bench with cfg := { bench.cfg with running := some {wRun with cont := {wCont with policy := [⟨14, 2, 0xFFFF, 3, 31⟩, ⟨0x10, 3, 0xFFFF, 4, 31⟩, ⟨0x20, 0, 0xFFFF, 3, 31⟩, ⟨7,1,0,3,4⟩]}}}}
def w0 : State := inSt .verify pol
def w2 : State := pol.raise 14 2 0 4
def w4 : State := { noisy with time := {noisy.time with tick := 1002}}
def w5 : State := {State.reset with dev := {State.reset.dev with hold := 3}}
def w6 : State := inSt .off State.reset
def w7 : State := { pol with cfg := { bench.cfg with running := some {wRun with cont := {wCont with flags := 4}}}}
def w8 : State := { noisy with dev := {noisy.dev with crstPending := true}}
def w10 : State := {State.reset with pwr := {State.reset.pwr with latch := true}}
def w11 : State := {State.reset with dev := {State.reset.dev with released := true, hold := 2}}
def w13 : State := {State.reset with ros := {}}

/-- States and operands that meet hypotheses of `OccurrencesAndConditions`. -/
theorem wit_OccurrenceIsReported :
    sourceOf 14 0 = some ((sourceOf 14 0).getD default) ∧ (14 < 32 ∨ w0.inUse 0 = true) ∧ w0.isLive 14 0 0 = false ∧ 4 ≤
    (w0.effective 14 0 0).1 ∧ w0.dev.st.latches = true ∧ sourceOf 14 2 = some ((sourceOf 14 2).getD default) ∧ w0.isLive 14 2 0
    = false ∧ 3 ≤ (w0.effective 14 2 0).1 ∧ (w0.dev.st = DevState.run ∨ w0.dev.st = DevState.verify) ∧ (w0.effective 14 2 0).1 =
    3 ∧ sourceOf 2 0 = some ((sourceOf 2 0).getD default) ∧ (2 < 32 ∨ noisy.inUse 0 = true) ∧ noisy.isLive 2 0 0 = false ∧
    (noisy.words 14).sticky.getLsbD 2 = true :=
  by and_intros <;> first | decide +kernel | exact some_getD (by decide +kernel)

/-- States and operands that meet hypotheses of `OccurrencesAndConditions`. -/
theorem wit_ConditionEndsWithLastDetector :
    (List.find? (fun x => x.block == 16 && x.index == 8 && x.inst == 1) noisy.faults.live = some ((List.find? (fun x => x.block
    == 16 && x.index == 8 && x.inst == 1) noisy.faults.live).getD default)) ∧ (14, 2, 0) ≠ (16, 8, 1) ∧ (((List.find? (fun x =>
    x.block == 16 && x.index == 8 && x.inst == 1) noisy.faults.live).getD default).holders &&& 7 - 1 = 0) ∧ (((List.find? (fun x
    => x.block == 16 && x.index == 8 && x.inst == 1) noisy.faults.live).getD default).holders &&& 7 - 2 ≠ 0) :=
  by and_intros <;> first | decide +kernel | exact some_getD (by decide +kernel)

/-- States and operands that meet hypotheses of `OccurrencesAndConditions`. -/
theorem wit_SafeRequestLine :
    w2.faults.brst = [] ∧ w2.lineActive 0 = true ∧ (w2.dev.safeLine = true ∨ (∃ l ∈ w2.faults.live, l.sev = 2 ∧ 0 ∈ w2.scope
    l.block l.index l.inst) ∨ ∃ l ∈ w2.faults.live, 3 ≤ l.sev) :=
  by decide +kernel

/-- States and operands that meet hypotheses of `ErrorPairCommands`. -/
theorem wit_ErrorPairCommands :
    (List.find? (fun x => x.block == 16 && x.index == 3 && x.inst == 1) w4.faults.live = some ((List.find? (fun x => x.block ==
    16 && x.index == 3 && x.inst == 1) w4.faults.live).getD default)) ∧ sourceOf 16 3 = some ((sourceOf 16 3).getD default) ∧
    ((sourceOf 16 3).getD default).cond = false ∧ (((List.find? (fun x => x.block == 16 && x.index == 3 && x.inst == 1)
    w4.faults.live).getD default).last + 2 ≤ w4.time.tick) ∧ w4.dev.st ≠ DevState.off ∧ 0 < 2 ∧ w6.dev.st = DevState.off ∧
    w5.dev.st = DevState.reset ∧ w5.dev.hold ≠ 0 ∧ w7.errpDynamic = true ∧ w7.errpAsserted = false ∧ w5.dev.st ≠ DevState.off ∧
    w5.errpAsserted = true ∧ (w4.errpDynamic = false ∨ w4.errpAsserted = true) ∧ w5.dev.st ≠ DevState.run ∧ w5.dev.st ≠
    DevState.safe ∧ w4.errpAsserted = false ∧ w4.errpDynamic = false ∧ (List.find? (fun x => x.block == 16 && x.index == 3 &&
    x.inst == 1) noisy.faults.live = some ((List.find? (fun x => x.block == 16 && x.index == 3 && x.inst == 1)
    noisy.faults.live).getD default)) ∧ (noisy.time.tick < ((List.find? (fun x => x.block == 16 && x.index == 3 && x.inst == 1)
    noisy.faults.live).getD default).last + 2) :=
  by and_intros <;> first | decide +kernel | exact some_getD (by decide +kernel)

/-- States and operands that meet hypotheses of `PowerCyclesAndChipResets`. -/
theorem wit_PowerOnAndBrownout :
    bench.dev.st ≠ DevState.off ∧ bench.ros.running = none ∧ 1599 < 1600 ∧ w6.dev.st = DevState.off ∧ 1600 ≤ 1600 :=
  by decide +kernel

/-- States and operands that meet hypotheses of `PowerCyclesAndChipResets`. -/
theorem wit_ChipResetKeepsPd0 :
    (Instr.resetNLow = Instr.resetNLow ∧ 1 = 1 ∧ w8.dev.st ≠ DevState.off ∧ (w8.dev.st = DevState.reset → w8.dev.released =
    true) ∨ Instr.resetNLow = Instr.crstChipReset ∧ 1 = 2 ∧ w8.dev.crstPending = true ∧ w8.oxb.running = none ∧ (w8.oxb.mounted
    = false ∨ w8.oxb.trigger ≠ some FlushKind.full)) :=
  by decide +kernel

/-- States and operands that meet hypotheses of `ReleaseOfReset`. -/
theorem wit_ReleaseAndHoldRetry :
    (Instr.holdRetry true 200 = Instr.resetRelease false true 200 ∧ w11.dev.st = DevState.reset ∧ w11.dev.released = false ∨
    Instr.holdRetry true 200 = Instr.holdRetry true 200 ∧ w11.dev.st = DevState.reset ∧ w11.dev.released = true ∧ (w11.dev.hold
    = 2 ∨ w11.dev.hold = 3)) ∧ true = true ∧ -200 ≤ 200 ∧ 200 ≤ 200 ∧ w11.pwr.latch = false ∧ (Instr.holdRetry false 200 =
    Instr.resetRelease false false 200 ∧ w11.dev.st = DevState.reset ∧ w11.dev.released = false ∨ Instr.holdRetry false 200 =
    Instr.holdRetry false 200 ∧ w11.dev.st = DevState.reset ∧ w11.dev.released = true ∧ (w11.dev.hold = 2 ∨ w11.dev.hold = 3)) ∧
    false = false ∧ (Instr.resetRelease false true 201 = Instr.resetRelease false true 201 ∧ w10.dev.st = DevState.reset ∧
    w10.dev.released = false ∨ Instr.resetRelease false true 201 = Instr.holdRetry true 201 ∧ w10.dev.st = DevState.reset ∧
    w10.dev.released = true ∧ (w10.dev.hold = 2 ∨ w10.dev.hold = 3)) ∧ (201 < -200 ∨ 200 < 201) :=
  by decide +kernel

/-- States and operands that meet hypotheses of `ReleaseOfReset`. -/
theorem wit_FactoryTestEntry :
    w13.dev.st = DevState.reset ∧ w13.dev.released = false ∧ (w13.ros.fuses.getD 3648 { }).prog = false ∧ State.reset.dev.st =
    DevState.reset ∧ State.reset.dev.released = false ∧ (State.reset.ros.fuses.getD 3648 { }).prog = true :=
  by decide +kernel

end W6

/-! ### Pulses of the power supervision -/

namespace W7

def mnt : State := { bench with oxb := { bench.oxb with dirty := [{}, {}], inFlight := [{}], running := some .routine } }
def warn : State := { bench with pwr := { bench.pwr with warning := some 1, pfailSeen := true }}
def w0 : State := {warn with pwr := {warn.pwr with shed := true, shedDone := true}}
def w1 : State := { State.reset with dev := {State.reset.dev with hold := 3, holdRegion := 2, holdWord := 4095}}
def w2 : State := { bench with ros := {bench.ros with jtagLocked := true}}

/-- States and operands that meet hypotheses of `PowerFailSequence`. -/
theorem wit_PowerFailSequence :
    warn.pwr.warning = some (warn.pwr.warning.getD default) ∧ warn.pwr.shed = false ∧ w0.pwr.shed = true ∧ w0.pwr.shedDone =
    true ∧ mnt.dev.st ≠ DevState.off ∧ mnt.pwr.warning = none ∧ (true = false → mnt.pwr.vpfwEnabled = true) ∧ mnt.oxb.mounted =
    true :=
  by and_intros <;> first | decide +kernel | exact some_getD (by decide +kernel)

/-- States and operands that meet hypotheses of `SupplyAndClockMonitors`. -/
theorem wit_SupplyAndClockMonitors :
    mnt.dev.st ≠ DevState.off ∧ mnt.clk.pllLocked = true ∧ mnt.dev.st ≠ DevState.reset ∧ 392000 ≤ 400000 ∧ 400000 ≤ 408000 ∧ 0 <
    4 ∧ (379999 < 380000 ∨ 420000 < 379999) :=
  by decide +kernel

/-- States and operands that meet hypotheses of `TapInstructions`. -/
theorem wit_TapInstructions :
    w2.dev.st ≠ DevState.off ∧ Instr.extest 5 ∈ [Instr.extest 5, .samplePreload 5, .debug []] ∧ w2.ros.jtagLocked = true ∧
    w1.dev.st ≠ DevState.off ∧ w1.ros.jtagLocked = false ∧ (Instr.samplePreload 5, 0x01) ∈ [(Instr.extest 5, 0x00), (.samplePreload 5, 0x01)] ∧
    (0x34 < 256 ∧ 0x34 ∉ [0x00, 0x01, 0x02, 0x10, 0x20]) ∧
    ({ w1 with jtag := { driving := true, preload := 0x400000 } } : State).jtag.driving = true :=
  by decide +kernel

end W7

/-! ### Start -/

namespace W8

def rst : State := { State.reset with ros := { State.reset.ros with fuses := [] }, dev := {State.reset.dev with released := true}, pwr := {State.reset.pwr with domains := [0,1,2,3,4,5,6,9,10,11]}, clk := {pllLocked := true}}
def boot : State := inSt .boot bench2
def bank (a b : BundleBank) (s : State) : State := { s with bundles := { s.bundles with bank0 := a, bank1 := b }}
def unt : State := { boot with pairs := { pairs := [(1, {}), (2, {})] }}
def w0 : State := {rst with pwr := {rst.pwr with latch := true}}
def w3 : State := bank ⟨wBundle, 2⟩ ⟨[], 1⟩ boot
def w4 : State := bank ⟨wBundle, 2⟩ ⟨[1], 3⟩ boot
def w6 : State := { boot with oxb := {}, bundles := {boot.bundles with running := some 0}, pwr := {boot.pwr with opSeconds := 0}}

/-- States and operands that meet hypotheses of `SensingDecides`. -/
theorem wit_SensingDecides :
    w0.dev.st = DevState.reset ∧ w0.dev.released = true ∧ w0.dev.hold = 0 ∧ w0.ros.sensed = false ∧ (List.Pairwise (fun x1 x2 =>
    x1 < x2) (List.map (fun x => x.1) w0.ros.fuses)) ∧ 3 < 4096 ∧ Sense.equal (EccRead.clean 5) = Sense.equal (EccRead.clean 5)
    ∧ Sense.equal (EccRead.corrected 11889512214646897574) = Sense.equal (EccRead.corrected 11889512214646897574) ∧
    Sense.unequal (EccRead.clean 9) (EccRead.clean 9) EccRead.uncorrectable = Sense.unequal (EccRead.clean 9) (EccRead.clean 9)
    EccRead.uncorrectable ∧ (EccRead.clean 9 = EccRead.clean 9 ∨ EccRead.clean 9 = EccRead.corrected 9) ∧ (EccRead.clean 9 =
    EccRead.clean 9 ∨ EccRead.uncorrectable = EccRead.clean 9) ∧ Sense.equal EccRead.uncorrectable = Sense.equal
    EccRead.uncorrectable ∧ (∀ g ∈ [0, 2, 4], (after (Instr.rosSensing [(3, Sense.equal (EccRead.clean 0))])
    w0).integrityFailure g = none) ∧ Sense.unequal (EccRead.clean 9) (EccRead.clean 8) (EccRead.clean 7) = Sense.unequal
    (EccRead.clean 9) (EccRead.clean 8) (EccRead.clean 7) ∧ EccRead.clean 8 ≠ EccRead.clean 9 ∧ EccRead.clean 7 ≠ EccRead.clean
    9 ∧ 1 ≠ 3 :=
  by decide +kernel

/-- States and operands that meet hypotheses of `BootAndSupervisorStart`. -/
theorem wit_BootTestsAndBanks :
    boot.dev.st = DevState.boot ∧ boot.bundles.running = none ∧ (∀ (p : ℕ), 1 ≤ p → p ≤ 6 → (boot.pair p).selfTestOk = true) ∧
    (boot.acceptedBank (if boot.bundles.bank0.activation < boot.bundles.bank1.activation then 1 else 0) = none) ∧
    (boot.acceptedBank (1 - if boot.bundles.bank0.activation < boot.bundles.bank1.activation then 1 else 0) = none) ∧ w3.dev.st
    = DevState.boot ∧ w3.bundles.running = none ∧ (∀ (p : ℕ), 1 ≤ p → p ≤ 6 → (w3.pair p).selfTestOk = true) ∧ (w3.acceptedBank
    (if w3.bundles.bank0.activation < w3.bundles.bank1.activation then 1 else 0) = some wMan) ∧ w4.dev.st = DevState.boot ∧
    w4.bundles.running = none ∧ (∀ (p : ℕ), 1 ≤ p → p ≤ 6 → (w4.pair p).selfTestOk = true) ∧ (w4.acceptedBank (if
    w4.bundles.bank0.activation < w4.bundles.bank1.activation then 1 else 0) = none) ∧ (w4.acceptedBank (1 - if
    w4.bundles.bank0.activation < w4.bundles.bank1.activation then 1 else 0) = some wMan) ∧ w4.bundles.bank0.activation ≠
    w4.bundles.bank1.activation ∧ unt.dev.st = DevState.boot ∧ 1 ≤ 1 ∧ 1 ≤ 6 ∧ unt.on 1 = true ∧ (unt.pair 1).selfTestOk = false
    ∧ (∀ (q : ℕ), 1 ≤ q → q < 1 → (unt.pair q).selfTestOk = true) ∧ ({ step := 1, group := 0, lane := 0, reported := true } :
    LaneReport).step ≤ 160 ∧ ({ step := 1, group := 0, lane := 0, reported := true } : LaneReport).group < 96 ∧
    ({ step := 1, group := 0, lane := 0, reported := true } : LaneReport).lane < 32 ∧
    (({ step := 1, group := 0, lane := 0, reported := true } : LaneReport).reported = true ↔ 1 ≤
    ({ step := 1, group := 0, lane := 0, reported := true } : LaneReport).step ∧
    ({ step := 1, group := 0, lane := 0, reported := true } : LaneReport).step ≤ 32 ∧
    ({ step := 1, group := 0, lane := 0, reported := true } : LaneReport).lane + 1 =
    ({ step := 1, group := 0, lane := 0, reported := true } : LaneReport).step ∨ 33 ≤
    ({ step := 1, group := 0, lane := 0, reported := true } : LaneReport).step ∧
    ({ step := 1, group := 0, lane := 0, reported := true } : LaneReport).step ≤ 63 ∧
    (({ step := 1, group := 0, lane := 0, reported := true } : LaneReport).lane + 33 =
    ({ step := 1, group := 0, lane := 0, reported := true } : LaneReport).step ∨
    ({ step := 1, group := 0, lane := 0, reported := true } : LaneReport).lane + 32 =
    ({ step := 1, group := 0, lane := 0, reported := true } : LaneReport).step) ∨ 64 ≤
    ({ step := 1, group := 0, lane := 0, reported := true } : LaneReport).step ∧
    ({ step := 1, group := 0, lane := 0, reported := true } : LaneReport).step ≤ 159 ∧
    ({ step := 1, group := 0, lane := 0, reported := true } : LaneReport).group + 64 =
    ({ step := 1, group := 0, lane := 0, reported := true } : LaneReport).step ∧
    (({ step := 1, group := 0, lane := 0, reported := true } : LaneReport).lane = 0 ∨
    ({ step := 1, group := 0, lane := 0, reported := true } : LaneReport).lane = 31)) ∧
    ({ step := 33, group := 0, lane := 0, reported := false } : LaneReport).step ≤ 160 ∧
    ({ step := 33, group := 0, lane := 0, reported := false } : LaneReport).group < 96 ∧
    ({ step := 33, group := 0, lane := 0, reported := false } : LaneReport).lane < 32 ∧
    (¬(({ step := 33, group := 0, lane := 0, reported := false } : LaneReport).reported = true ↔ 1 ≤
    ({ step := 33, group := 0, lane := 0, reported := false } : LaneReport).step ∧
    ({ step := 33, group := 0, lane := 0, reported := false } : LaneReport).step ≤ 32 ∧
    ({ step := 33, group := 0, lane := 0, reported := false } : LaneReport).lane + 1 =
    ({ step := 33, group := 0, lane := 0, reported := false } : LaneReport).step ∨ 33 ≤
    ({ step := 33, group := 0, lane := 0, reported := false } : LaneReport).step ∧
    ({ step := 33, group := 0, lane := 0, reported := false } : LaneReport).step ≤ 63 ∧
    (({ step := 33, group := 0, lane := 0, reported := false } : LaneReport).lane + 33 =
    ({ step := 33, group := 0, lane := 0, reported := false } : LaneReport).step ∨
    ({ step := 33, group := 0, lane := 0, reported := false } : LaneReport).lane + 32 =
    ({ step := 33, group := 0, lane := 0, reported := false } : LaneReport).step) ∨ 64 ≤
    ({ step := 33, group := 0, lane := 0, reported := false } : LaneReport).step ∧
    ({ step := 33, group := 0, lane := 0, reported := false } : LaneReport).step ≤ 159 ∧
    ({ step := 33, group := 0, lane := 0, reported := false } : LaneReport).group + 64 =
    ({ step := 33, group := 0, lane := 0, reported := false } : LaneReport).step ∧
    (({ step := 33, group := 0, lane := 0, reported := false } : LaneReport).lane = 0 ∨
    ({ step := 33, group := 0, lane := 0, reported := false } : LaneReport).lane = 31))) := by
  and_intros <;> first
    | exact accepted_at rfl (by decide +kernel)
    | decide +kernel

/-- States and operands that meet hypotheses of `BootAndSupervisorStart`. -/
theorem wit_SupervisorAndConfigurationStart :
    w6.dev.st = DevState.boot ∧ w6.bundles.running = some 0 ∧ w6.oxb.mounted = false ∧ w6.oxb.mram.seconds = [0, 0, 0] ∧
    w6.oxb.mram.cycles = [0, 0, 0] ∧ w6.tlUsed ≠ 64 ∧ boot.dev.st = DevState.boot ∧ boot.oxb.mounted = true ∧ (¬(32 ≤
    boot.cfg.newerBank.bytes.length ∧ List.drop (boot.cfg.newerBank.bytes.length - 32) boot.cfg.newerBank.bytes = containerHash
    boot.cfg.newerBank.bytes ∧ boot.cfg.newerBank.hash = containerHash boot.cfg.newerBank.bytes)) :=
  by decide +kernel

end W8

/-! ### Supervisor and verification -/

namespace W9

def boot : State := inSt .boot bench2
def bb (ep : Nat) : List Byte := let b := zeros 12 ++ leBytes 2 ep ++ zeros 50; b ++ containerHash (b ++ zeros 32)
def mnT (x : List Byte) (h : List Byte) : State := { boot with cfg := { bank0 := {bytes := x, sequence := 3, hash := h}}, bundles := {boot.bundles with manifest := some wMan}}
def keyShadow : Tab ShadowWord := (List.range 8).map (fun i => (20 + i, ⟨BitVec.ofNat 64 (leVal ((wKey.drop (8*i)).take 8)), true, false, false⟩))
def msgc : List Byte := zeros 16 ++ zeros 32 ++ zeros 80
def cert : List Byte := msgc ++ ecdsaSign 1 5 msgc
def ver (forms : List Bool) (c : List Byte) : State := { inSt .verify bench2 with
  dev := {bench.dev with st := .verify, formOk := forms, certOk := false},
  ros := {bench2.ros with shadow := wShadow ++ keyShadow},
  cfg := { bank0 := { bytes := bb 1, sequence := 3, hash := containerHash (bb 1), cert := c, formA := some ⟨wCont.hash, 0, 5, [], true⟩, formB := some ⟨wCont.hash, 7, 5, [], true⟩ }, running := some wRun },
  bundles := { bench.bundles with manifest := some {wMan with translator := 0}}}
def w0 : State := mnT (bb 1) (containerHash (bb 1))
def w1 : State := mnT (bb 4) (containerHash (bb 4))
def w3 : State := ver [false,true] []
def w4 : State := ver [true,true] cert
def w5 : State := ver [true,true] []
def w6 : State := { ver [true,true] cert with dev := {bench.dev with st := .verify}}
def w7 : State := { ver [true,true] cert with dev := {bench.dev with st := .verify, verifySafe := true}}

/-- States and operands that meet hypotheses of `BootAndSupervisorStart`. -/
theorem wit_SupervisorAndConfigurationStart :
    w0.dev.st = DevState.boot ∧ w0.oxb.mounted = true ∧ (32 ≤ w0.cfg.newerBank.bytes.length ∧ List.drop
    (w0.cfg.newerBank.bytes.length - 32) w0.cfg.newerBank.bytes = containerHash w0.cfg.newerBank.bytes ∧ w0.cfg.newerBank.hash =
    containerHash w0.cfg.newerBank.bytes) ∧ w0.checkEnv.epochMin ≤ leAt w0.cfg.newerBank.bytes 12 2 ∧ leAt
    w0.cfg.newerBank.bytes 12 2 ≤ w0.checkEnv.epochMax ∧ w0.weir.conns = [] ∧ w1.dev.st = DevState.boot ∧ w1.oxb.mounted = true
    ∧ (32 ≤ w1.cfg.newerBank.bytes.length ∧ List.drop (w1.cfg.newerBank.bytes.length - 32) w1.cfg.newerBank.bytes =
    containerHash w1.cfg.newerBank.bytes ∧ w1.cfg.newerBank.hash = containerHash w1.cfg.newerBank.bytes) ∧ (leAt
    w1.cfg.newerBank.bytes 12 2 < w1.checkEnv.epochMin ∨ w1.checkEnv.epochMax < leAt w1.cfg.newerBank.bytes 12 2) :=
  by decide +kernel

/-- States and operands that meet hypotheses of `FormsVerifiedAndVerifyEnds`. -/
theorem wit_FormsAndCertificateVerified :
    w3.dev.st = DevState.verify ∧ w3.cfg.running = some wRun ∧ w3.dev.formOk.length = 2 ∧ checkSteps1to4 (w3.cfg.bank
    w3.cfg.active).bytes (w3.cfg.bank w3.cfg.active).bytes.length w3.checkEnv = some ((checkSteps1to4 (w3.cfg.bank
    w3.cfg.active).bytes (w3.cfg.bank w3.cfg.active).bytes.length w3.checkEnv).getD default) ∧ w4.dev.st = DevState.verify ∧
    w4.cfg.running = some wRun ∧ w4.dev.formOk = [true, true] ∧ w4.riffleReady = true ∧ w4.certValid (w4.cfg.bank
    w4.cfg.active).cert wRun.cont.hash = true ∧ w5.dev.st = DevState.verify ∧ w5.cfg.running = some wRun ∧ w5.dev.formOk =
    [true, true] ∧ w5.riffleReady = true ∧ w5.certValid (w5.cfg.bank w5.cfg.active).cert wRun.cont.hash = false ∧ ((admission
    wRun.cont (w5.admitEnv ((fun f => (Option.map (fun x => x.length) f).getD 0) (w5.cfg.bank w5.cfg.active).formA) ((fun f =>
    (Option.map (fun x => x.length) f).getD 0) (w5.cfg.bank w5.cfg.active).formB) [] [])).refusal = some ((admission wRun.cont
    (w5.admitEnv ((fun f => (Option.map (fun x => x.length) f).getD 0) (w5.cfg.bank w5.cfg.active).formA) ((fun f => (Option.map
    (fun x => x.length) f).getD 0) (w5.cfg.bank w5.cfg.active).formB) [] [])).refusal.getD default)) ∧ (w3.cfg.bank
    w3.cfg.active).form Side.a = some (((w3.cfg.bank w3.cfg.active).form Side.a).getD default) ∧ (((w3.cfg.bank
    w3.cfg.active).form Side.a).getD default).intact = true ∧ (((w3.cfg.bank w3.cfg.active).form Side.a).getD
    default).containerHash = wRun.cont.hash ∧ (((w3.cfg.bank w3.cfg.active).form Side.a).getD default).translator =
    (w3.bundles.manifest.getD default).translator :=
  by and_intros <;> first | decide +kernel | exact some_getD (by decide +kernel)

/-- States and operands that meet hypotheses of `FormsVerifiedAndVerifyEnds`. -/
theorem wit_VerifyEnds :
    w7.dev.st = DevState.verify ∧ w7.dev.certOk = true ∧ (w7.dev.verifySafe = true ∧ 1 = 1 ∨ w7.dev.verifySafe = false ∧
    w7.dev.verifyCause = VerifyCause.newConfig ∧ 1 = 5 ∨ w7.dev.verifySafe = false ∧ w7.dev.verifyCause = VerifyCause.start ∧
    w7.pwr.resetCause ∉ [0, 1] ∧ 1 = 4 ∨ w7.dev.verifySafe = false ∧ w7.dev.verifyCause = VerifyCause.start ∧ w7.pwr.resetCause
    ∈ [0, 1] ∧ w7.dev.bundleFallback = true ∧ 1 = 7 ∨ w7.dev.verifySafe = false ∧ w7.dev.verifyCause = VerifyCause.start ∧
    w7.pwr.resetCause ∈ [0, 1] ∧ w7.dev.bundleFallback = false ∧ w7.runCont.startHost = true ∧ 1 = 3) ∧ w6.dev.st =
    DevState.verify ∧ w6.dev.certOk = true ∧ w6.dev.verifySafe = false ∧ w6.manifestEpoch ≤ w6.fusedEpoch ∧ (w6.dev.verifyCause
    = VerifyCause.restart ∨ w6.dev.verifyCause = VerifyCause.start ∧ w6.pwr.resetCause ∈ [0, 1] ∧ w6.dev.bundleFallback = false
    ∧ w6.runCont.startHost = false) :=
  by decide +kernel

end W9

/-! ### Verification, continued -/

namespace W10

def runW : RunCfg := ⟨readContainer wBytes, 3, [], []⟩
def ver (forms : List Bool) (tr : Nat) : State := { inSt .verify bench2 with
  dev := {bench.dev with st := .verify, formOk := forms, certOk := false},
  cfg := { bank0 := { bytes := wBytes, sequence := 3, hash := containerHash wBytes, cert := [], formA := some ⟨runW.cont.hash, 0, 5, [], true⟩, formB := some ⟨runW.cont.hash, 0, 5, [], true⟩ }, running := some runW },
  bundles := { bench.bundles with manifest := some {wMan with translator := tr}}}
def w0 : State := ver [false,true] 0
def w1 : State := ver [true,true] 1

/-- States and operands that meet hypotheses of `FormsVerifiedAndVerifyEnds`. -/
theorem wit_FormsAndCertificateVerified :
    w0.dev.st = DevState.verify ∧ w0.cfg.running = some runW ∧ w0.dev.formOk.length = 2 ∧ checkSteps1to4 (w0.cfg.bank
    w0.cfg.active).bytes (w0.cfg.bank w0.cfg.active).bytes.length w0.checkEnv = none ∧ checkSteps5to10 (w0.cfg.bank
    w0.cfg.active).bytes runW.cont w0.checkEnv = none ∧ w1.dev.st = DevState.verify ∧ w1.cfg.running = some runW ∧ w1.dev.formOk
    = [true, true] ∧ w1.riffleReady = true ∧ w1.certValid (w1.cfg.bank w1.cfg.active).cert runW.cont.hash = false ∧ ((admission
    runW.cont (w1.admitEnv ((fun f => (Option.map (fun x => x.length) f).getD 0) (w1.cfg.bank w1.cfg.active).formA) ((fun f =>
    (Option.map (fun x => x.length) f).getD 0) (w1.cfg.bank w1.cfg.active).formB) [] [])).refusal = none) ∧ (w0.cfg.bank
    w0.cfg.active).form Side.b = some (((w0.cfg.bank w0.cfg.active).form Side.b).getD default) ∧ (((w0.cfg.bank
    w0.cfg.active).form Side.b).getD default).intact = true ∧ (((w0.cfg.bank w0.cfg.active).form Side.b).getD
    default).containerHash = runW.cont.hash ∧ (((w0.cfg.bank w0.cfg.active).form Side.b).getD default).translator =
    (w0.bundles.manifest.getD default).translator :=
  by and_intros <;> first | decide +kernel | exact some_getD (by decide +kernel) | rfl

end W10

/-! ### Pairs -/

namespace W11

def setP (p : Nat) (x : PairSt) (s : State) : State := s.setPair p x
def mk (sec : Nat) : Mark := ⟨sec, 0, false⟩
def hit (p : Nat) : State := setP p {wPair with inReset := true, monitor := [mk 500]} bench
def run1 : CellRun := { start := 600, recon := 900, rerun := true}
def cel (r : CellRun) (s : State) : State := s.setCell .a 0 { st := .run, runs := [r] }
def cert : List CertCell := [⟨0, 0, 0, false, 1, 1⟩, ⟨1, 0, 0, false, 1, 1⟩]
def cc (s : State) : State := { s with cfg := { s.cfg with running := some {wRun with cells := cert}}}
def agr (k : Nat) : State := setP 2 {wPair with agr := [⟨1, 5, k⟩]} bench
def w0 : State := setP 2 {wPair with monitor := [mk 489]} bench
def w1 : State := setP 2 {wPair with monitor := [mk 491]} bench
def w8 : State := hit 2
def w10 : State := cc (hit 4)
def w11 : State := cc (hit 1)
def w14 : State := cel run1 bench

/-- States and operands that meet hypotheses of `PairsResetAndRestore`. -/
theorem wit_MismatchResetsOrRetires :
    1 ≤ 2 ∧ 2 ≤ 6 ∧ w0.on 2 = true ∧ (w0.pair 2).inReset = false ∧ (w0.pair 2).retired = false ∧ (w0.pair 2).monitor.length < 3
    ∧ (∀ m ∈ (w0.pair 2).monitor, m.second + 10 < w0.pwr.opSeconds) ∧ 1 ≠ 2 ∧ w1.on 2 = true ∧ (w1.pair 2).inReset = false ∧
    (w1.pair 2).retired = false ∧ ((∃ m ∈ (w1.pair 2).monitor, w1.pwr.opSeconds < m.second + 10) ∨ (w1.pair 2).monitor.length =
    3 ∧ ∀ m ∈ (w1.pair 2).monitor, w1.pwr.opSeconds < m.second + 86400) ∧ 2 ≤ 3 ∧ (w1.pair 6).selfTestOk = true ∧ (w1.pair
    6).retired = false ∧ w1.pairs.stbFor = none ∧ w1.pairs.stb = StbWork.free ∧ w1.bundles.handover = none :=
  by decide +kernel

/-- States and operands that meet hypotheses of `PairsResetAndRestore`. -/
theorem wit_RestoreAgreementAndCatchUp :
    1 ≤ 2 ∧ 2 ≤ 6 ∧ w8.on 2 = true ∧ (w8.pair 2).inReset = true ∧ (w8.pair 2).retired = false ∧ 1 ≠ 2 ∧ (∀ a ∈ (w8.pair 2).agr,
    a.kind = 1 → a.index = 5 → a.count < 3) ∧ 1 ≤ 1 ∧ 1 ≤ 6 ∧ w11.on 1 = true ∧ (w11.pair 1).inReset = true ∧ (w11.pair
    1).retired = false ∧ 1 = 1 ∧ (∀ r ∈ (w8.cell Side.a 0).runs, r.result.isSome = true ∨ r.rerun = false ∨ r.takeover = true) ∧
    (∀ r ∈ (w8.cell Side.b 0).runs, r.result.isSome = true ∨ r.rerun = false ∨ r.takeover = true) ∧ evaluatorSide (w8.roleOf 2)
    = some (Side.a, 0) ∧ 0 ∈ w8.cellsOf (w8.roleOf 2) ∧ 1 ≤ 4 ∧ 4 ≤ 6 ∧ w10.on 4 = true ∧ (w10.pair 4).inReset = true ∧
    (w10.pair 4).retired = false ∧ evaluatorSide (w10.roleOf 4) = some (Side.b, 0) ∧ 0 ∈ w10.cellsOf (w10.roleOf 4) ∧ run1 ∈
    (w14.cell Side.a 0).runs ∧ run1.result = none ∧ run1.rerun = true ∧ run1.takeover = false ∧ ((((w14.verCont run1.ver).cell
    0).retry = true ∧ ∃ k, (w14.line 0).lastRecon = some k ∧ run1.recon ≤ k) ∨ ((w14.verCont run1.ver).cell 0).retry = false ∧
    run1.start + ((w14.verCont run1.ver).cell 0).ticks ≤ w14.time.tick) :=
  by and_intros <;> decide +kernel

end W11

/-! ### Cells -/

namespace W12

def cellAt (a b : CellSide) (ln : CellLine) (s : State) : State := ((s.setCell .a 0 a).setCell .b 0 b).setLine 0 ln
def runC : RunCfg := {wRun with cells := [⟨0, 0, 0, false, 1, 1⟩, ⟨1, 1, 1, false, 1, 1⟩]}
def cc (s : State) : State := { s with cfg := { s.cfg with running := some runC}}
def b0 : State := cc { bench with time := {bench.time with slotInTick := 0} }
def cs (st : CellState) : CellSide := { st := st, pub := some [(1, 1)] }
def reqd (s : State) : State := (s.setView .a 1 {s.view .a 1 with req := true}).setView .b 1 {s.view .b 1 with req := true}
def ls (s : State) : State := { s with dev := {s.dev with safeLine := true}}
def w0 : State := reqd (cellAt (cs .run) (cs .run) {} b0)
def w3 : State := reqd (cellAt (cs .run) (cs .run) {} (ls b0))
def w4 : State := reqd (cellAt (cs .held) (cs .held) {} b0)
def w6 : State := reqd (cellAt (cs .wait) (cs .wait) {} b0)

/-- States and operands that meet hypotheses of `CellBoundaryStates`. -/
theorem wit_CellBoundaryStates :
    w0.boundaryDue 0 = true ∧ w0.cfg.live = none ∧ (w0.line 0).record = none ∧ (w0.line 0).removeAt = none ∧ (w0.line
    0).toTransition = false ∧ (w0.line 0).entry = false ∧ (w0.cell Side.a 0).st ≠ CellState.shadow ∧ (w0.cell Side.b 0).st ≠
    CellState.shadow ∧ (w0.cell Side.a 0).st = CellState.run ∧ (¬(w0.lineActive 0 = true ∨ (w0.line 0).lineSeen = true)) ∧
    (w0.cell Side.b 0).st = CellState.run ∧ w4.boundaryDue 0 = true ∧ w4.cfg.live = none ∧ (w4.line 0).record = none ∧ (w4.line
    0).removeAt = none ∧ (w4.line 0).toTransition = false ∧ (w4.line 0).entry = false ∧ (w4.cell Side.a 0).st ≠ CellState.shadow
    ∧ (w4.cell Side.b 0).st ≠ CellState.shadow ∧ (w4.cell Side.a 0).st = CellState.held ∧ (w4.cell Side.b 0).st = CellState.held
    ∧ (w0.cell Side.a 0).st ≠ CellState.unused ∧ (w0.cell Side.b 0).st ≠ CellState.unused ∧ w3.boundaryDue 0 = true ∧
    w3.cfg.live = none ∧ (w3.line 0).record = none ∧ (w3.line 0).removeAt = none ∧ (w3.line 0).toTransition = false ∧ (w3.line
    0).entry = false ∧ (w3.cell Side.a 0).st ≠ CellState.shadow ∧ (w3.cell Side.b 0).st ≠ CellState.shadow ∧ (w3.cell Side.a
    0).st = CellState.run ∧ (w3.lineActive 0 = true ∨ (w3.line 0).lineSeen = true) ∧ (w3.cell Side.b 0).st = CellState.run ∧
    w6.boundaryDue 0 = true ∧ w6.cfg.live = none ∧ (w6.line 0).record = none ∧ (w6.line 0).removeAt = none ∧ (w6.line
    0).toTransition = false ∧ (w6.line 0).entry = false ∧ (w6.cell Side.a 0).st ≠ CellState.shadow ∧ (w6.cell Side.b 0).st ≠
    CellState.shadow ∧ (w6.cell Side.a 0).st = CellState.wait ∧ (¬(w6.lineActive 0 = true ∨ (w6.line 0).lineSeen = true)) ∧
    (w6.cell Side.b 0).st = CellState.wait ∧ ((w3.cell Side.a 0).st = CellState.run ∨ (w3.cell Side.a 0).st = CellState.wait) ∧
    ((w3.cell Side.b 0).st = CellState.run ∨ (w3.cell Side.b 0).st = CellState.wait) ∧ (((after (Instr.cellBoundary 0) w3).cell
    Side.a 0).st = CellState.held ∨ ((after (Instr.cellBoundary 0) w3).cell Side.a 0).st = CellState.wait) ∧ (((after
    (Instr.cellBoundary 0) w3).cell Side.b 0).st = CellState.held ∨ ((after (Instr.cellBoundary 0) w3).cell Side.b 0).st =
    CellState.wait) :=
  by and_intros <;> decide +kernel

end W12

/-! ### Reconciliation -/

namespace W13

def cellAt (a b : CellSide) (ln : CellLine) (s : State) : State := ((s.setCell .a 0 a).setCell .b 0 b).setLine 0 ln
def runC : RunCfg := {wRun with cells := [⟨0, 0, 0, false, 1, 1⟩, ⟨1, 1, 1, false, 1, 1⟩]}
def cc (s : State) : State := { s with cfg := { s.cfg with running := some runC}}
def r0 : CellRun := { start := 800, recon := 999, latch := [] }
def x0 : CellSide := { st := .run, runs := [r0] }
def ev (x y : CellSide) (ln : CellLine) : State := cellAt x y ln bench |> cc
def im1 : CellImage := {cmds := [(1,1)]}
def im2 : CellImage := {cmds := [(1,0)]}
def dn (a b : CellImage) (s : State) : State := cc (cellAt {x0 with runs := [{r0 with result := some a}], disc := 2, sigc := 1} {x0 with runs := [{r0 with result := some b}], disc := 2, sigc := 1} {} s)
def bt : State := { bench with time := { bench.time with tick := 999 }}
def w0 : State := ev x0 x0 {}
def w1 : State := ev x0 x0 {lastRecon := some 999}
def w3 : State := (ev x0 x0 {}).setPair 2 {wPair with inReset := true}
def w5 : State := dn im1 im1 bt
def w6 : State := dn im1 im2 bt
def w9 : State := ev {x0 with disc := 4, sigc := 2} {x0 with disc := 3, sigc := 1} {}
def w10 : State := ev {x0 with runs := [{r0 with missed := true}]} {x0 with runs := [{r0 with recon := 1001}]} {}
def w11 : State := { bench with hs := {holdMs := 10, lastWrite := 800}}
def w12 : State := { bench with hs := {holdMs := 10, lastWrite := 801}}

/-- States and operands that meet hypotheses of `EvaluationCompletes`. -/
theorem wit_EvaluationCompletes :
    (w0.cell Side.a 0).runs = (w0.cell Side.a 0).runs.headD default :: (w0.cell Side.a 0).runs.tail ∧ ((w0.cell Side.a
    0).runs.headD default).result = none ∧ ((w0.cell Side.a 0).runs.headD default).isShadow = false ∧ ((w0.cell Side.a
    0).runs.headD default).ver = (w0.line 0).ver ∧ ((w0.cell Side.a 0).runs.headD default).late = false ∧ w0.pairRuns
    (w0.evaluator Side.a 0) = true ∧ (w0.line 0).lastRecon = none ∧ (w0.cell Side.b 0).runs = (w0.cell Side.b 0).runs.headD
    default :: (w0.cell Side.b 0).runs.tail ∧ ((w0.cell Side.b 0).runs.headD default).result = none ∧ ((w0.cell Side.b
    0).runs.headD default).isShadow = false ∧ ((w0.cell Side.b 0).runs.headD default).ver = (w0.line 0).ver ∧ ((w0.cell Side.b
    0).runs.headD default).late = false ∧ w0.pairRuns (w0.evaluator Side.b 0) = true ∧ (w3.cell Side.a 0).runs = (w3.cell Side.a
    0).runs.headD default :: (w3.cell Side.a 0).runs.tail ∧ ((w3.cell Side.a 0).runs.headD default).result = none ∧ ((w3.cell
    Side.a 0).runs.headD default).isShadow = false ∧ ((w3.cell Side.a 0).runs.headD default).ver = (w3.line 0).ver ∧ (((w3.cell
    Side.a 0).runs.headD default).late = true ∨ w3.pairRuns (w3.evaluator Side.a 0) = false) ∧ (Side.a, 1) ≠ (Side.a, 0) ∧
    (Side.a, 1) ≠ (Side.b, 0) ∧ (w1.cell Side.a 0).runs = (w1.cell Side.a 0).runs.headD default :: (w1.cell Side.a 0).runs.tail
    ∧ ((w1.cell Side.a 0).runs.headD default).result = none ∧ ((w1.cell Side.a 0).runs.headD default).isShadow = false ∧
    ((w1.cell Side.a 0).runs.headD default).ver = (w1.line 0).ver ∧ ((w1.cell Side.a 0).runs.headD default).late = false ∧
    w1.pairRuns (w1.evaluator Side.a 0) = true ∧ (w1.line 0).lastRecon = some 999 ∧ ((w1.cell Side.a 0).runs.headD
    default).recon ≤ 999 ∧ (w1.cell Side.b 0).runs = (w1.cell Side.b 0).runs.headD default :: (w1.cell Side.b 0).runs.tail ∧
    ((w1.cell Side.b 0).runs.headD default).result = none ∧ ((w1.cell Side.b 0).runs.headD default).isShadow = false ∧ ((w1.cell
    Side.b 0).runs.headD default).ver = (w1.line 0).ver ∧ ((w1.cell Side.b 0).runs.headD default).late = false ∧ w1.pairRuns
    (w1.evaluator Side.b 0) = true ∧ ((w1.cell Side.b 0).runs.headD default).recon ≤ 999 :=
  by and_intros <;> decide +kernel

/-- States and operands that meet hypotheses of `ReconciliationAndCellSources`. -/
theorem wit_ReconciliationCounts :
    (w5.line 0).lastRecon ≠ some w5.time.tick ∧ w5.dueRun Side.a 0 = some ((w5.dueRun Side.a 0).getD default) ∧ w5.dueRun Side.b
    0 = some ((w5.dueRun Side.b 0).getD default) ∧ ((w5.dueRun Side.a 0).getD default).isShadow = false ∧ ((w5.dueRun Side.b
    0).getD default).isShadow = false ∧ ((w5.dueRun Side.a 0).getD default).result = some (((w5.dueRun Side.a 0).getD
    default).result.getD default) ∧ ((w5.dueRun Side.b 0).getD default).result = some (((w5.dueRun Side.b 0).getD
    default).result.getD default) ∧ ((w5.dueRun Side.a 0).getD default).safe = false ∧ ((w5.dueRun Side.b 0).getD default).safe
    = false ∧ ((w5.dueRun Side.a 0).getD default).catchUp = false ∧ ((w5.dueRun Side.b 0).getD default).catchUp = false ∧
    w5.pairRuns (w5.evaluator Side.a 0) = true ∧ w5.pairRuns (w5.evaluator Side.b 0) = true ∧ 1 ≠ 0 ∧ (w5.verCont ((w5.dueRun
    Side.a 0).getD default).ver).vectorOf 0 (((w5.dueRun Side.a 0).getD default).result.getD default) = (w5.verCont ((w5.dueRun
    Side.b 0).getD default).ver).vectorOf 0 (((w5.dueRun Side.b 0).getD default).result.getD default) ∧ ((w5.dueRun Side.a
    0).getD default).p = ((w5.dueRun Side.b 0).getD default).p ∧ (w6.line 0).lastRecon ≠ some w6.time.tick ∧ w6.dueRun Side.a 0
    = some ((w6.dueRun Side.a 0).getD default) ∧ w6.dueRun Side.b 0 = some ((w6.dueRun Side.b 0).getD default) ∧ ((w6.dueRun
    Side.a 0).getD default).isShadow = false ∧ ((w6.dueRun Side.b 0).getD default).isShadow = false ∧ ((w6.dueRun Side.a 0).getD
    default).result = some (((w6.dueRun Side.a 0).getD default).result.getD default) ∧ ((w6.dueRun Side.b 0).getD
    default).result = some (((w6.dueRun Side.b 0).getD default).result.getD default) ∧ ((w6.dueRun Side.a 0).getD default).safe
    = false ∧ ((w6.dueRun Side.b 0).getD default).safe = false ∧ ((w6.dueRun Side.a 0).getD default).catchUp = false ∧
    ((w6.dueRun Side.b 0).getD default).catchUp = false ∧ w6.pairRuns (w6.evaluator Side.a 0) = true ∧ w6.pairRuns (w6.evaluator
    Side.b 0) = true ∧ ((w6.verCont ((w6.dueRun Side.a 0).getD default).ver).vectorOf 0 (((w6.dueRun Side.a 0).getD
    default).result.getD default) ≠ (w6.verCont ((w6.dueRun Side.b 0).getD default).ver).vectorOf 0 (((w6.dueRun Side.b 0).getD
    default).result.getD default) ∨ ((w6.dueRun Side.a 0).getD default).p ≠ ((w6.dueRun Side.b 0).getD default).p) :=
  by and_intros <;> first | decide +kernel | exact some_getD (by decide +kernel)

/-- States and operands that meet hypotheses of `ReconciliationAndCellSources`. -/
theorem wit_CellSources :
    0 < 256 ∧ w0.inUse 0 = true ∧ (w0.cell Side.a 0).runs = (w0.cell Side.a 0).runs.headD default :: (w0.cell Side.a
    0).runs.tail ∧ ((w0.cell Side.a 0).runs.headD default).result = none ∧ ((w0.cell Side.a 0).runs.headD default).rerun = false
    ∧ ((w0.cell Side.a 0).runs.headD default).takeover = false ∧ ((w0.cell Side.a 0).runs.headD default).missed = false ∧
    ((w0.cell Side.a 0).runs.headD default).recon ≤ w0.time.tick ∧ (Side.a, 1) ≠ (Side.a, 0) ∧ (w0.cell Side.b 0).runs =
    (w0.cell Side.b 0).runs.headD default :: (w0.cell Side.b 0).runs.tail ∧ ((w0.cell Side.b 0).runs.headD default).result =
    none ∧ ((w0.cell Side.b 0).runs.headD default).rerun = false ∧ ((w0.cell Side.b 0).runs.headD default).takeover = false ∧
    ((w0.cell Side.b 0).runs.headD default).missed = false ∧ ((w0.cell Side.b 0).runs.headD default).recon ≤ w0.time.tick ∧
    (Side.a, 1) ≠ (Side.b, 0) ∧ (w0.cell Side.a 0).disc ≤ ((w0.cellCont 0).cell 0).limit ∧ (w0.cell Side.b 0).disc ≤
    ((w0.cellCont 0).cell 0).limit ∧ w9.inUse 0 = true ∧ ((w9.cellCont 0).cell 0).limit < (w9.cell Side.a 0).disc ∧ w10.inUse 0
    = true ∧ (∀ r ∈ (w10.cell Side.a 0).runs, r.result.isSome = true ∨ r.rerun = true ∨ r.missed = true ∨ w10.time.tick <
    r.recon) ∧ (∀ r ∈ (w10.cell Side.b 0).runs, r.result.isSome = true ∨ r.rerun = true ∨ r.missed = true ∨ w10.time.tick <
    r.recon) :=
  by decide +kernel

/-- States and operands that meet hypotheses of `HostSignalsAndParameters`. -/
theorem wit_HostSignalHoldTime :
    w11.host.paused = false ∧ w11.supRuns = true ∧ w11.hs.holdMs ≠ 0 ∧ w11.hs.lastWrite + 20 * w11.hs.holdMs ≤ w11.time.tick ∧
    w12.host.paused = false ∧ w12.supRuns = true ∧ (w12.hs.holdMs = 0 ∨ w12.time.tick < w12.hs.lastWrite + 20 * w12.hs.holdMs) :=
  by decide +kernel

end W13

/-! ### Admission -/

namespace W14

def chk0 : CheckEnv := { epochMin := 0, epochMax := 3, portModes := [0,0,0], portIps := [0,0,0], identity := 0 }
def env0 : AdmitEnv := bench.admitEnv 0 0 [] []
def adm (live : Bool) (bs : List Byte) : Admission := ⟨3, live, bs, env0, chk0⟩
def wt : Waiting := ⟨req 0x34 [], .commit⟩
def ad (live : Bool) (bs : List Byte) (s : State) : State := { s with cfg := {s.cfg with admission := some (adm live bs)}, host := {s.host with waiting := [wt]}}
def runW : RunCfg := ⟨readContainer wBytes, 3, (admission (readContainer wBytes) env0).cells, []⟩
def onW (s : State) : State := { s with cfg := { s.cfg with running := some runW, bank0 := {bytes := wBytes, sequence := 3} }}
def x0 : Admitted := admission (readContainer wBytes) env0
def w0 : State := ad false [1,2] (inSt .configure bench)
def w2 : State := ad false wBytes (inSt .configure bench)
def w4 : State := ad true wBytes (onW bench)

theorem judge_ok : judge wBytes chk0 env0 none none = (none, false, some x0) := by decide +kernel

/-- States and operands that meet hypotheses of `LiveCommitRuns`. -/
theorem wit_AdmissionEnds :
    w2.cfg.admission = some (w2.cfg.admission.getD default) ∧ (w2.cfg.admission.getD default).live = false ∧ w2.weir.conns = []
    ∧ judge (w2.cfg.admission.getD default).bytes (w2.cfg.admission.getD default).check (w2.cfg.admission.getD default).env none
    none = (none, false, some x0) ∧ w4.cfg.admission = some (w4.cfg.admission.getD default) ∧ (w4.cfg.admission.getD
    default).live = true ∧ w4.cfg.live = none ∧ w4.cfg.running = some (w4.cfg.running.getD default) ∧ judge
    (w4.cfg.admission.getD default).bytes (w4.cfg.admission.getD default).check (w4.cfg.admission.getD default).env none none =
    (none, false, some x0) ∧ w0.cfg.admission = some (w0.cfg.admission.getD default) ∧ w0.cfg.live = none ∧ judge
    (w0.cfg.admission.getD default).bytes (w0.cfg.admission.getD default).check (w0.cfg.admission.getD default).env none none =
    (some (refusal cFORMAT kNone 0), false, none) := by
  refine ⟨some_getD ?_, ?_, ?_, judge_ok, some_getD ?_, ?_, ?_, some_getD ?_, judge_ok, some_getD ?_, ?_⟩ <;> decide +kernel

end W14

/-! ### Live commits and handovers -/

namespace W15

def tr (a b c : Bool) (s : State) : State := { s with cfg := { s.cfg with staging := some ⟨1344, wBytes.zipIdx.map (fun p => (p.2, p.1)), true, sha256 (wBody 0)⟩, trans := some ⟨a,b,c⟩, bank0 := {bytes := wBytes, sequence := 3}}, pairs := {s.pairs with stb := .translation}}
def runW : RunCfg := ⟨readContainer wBytes, 3, [⟨0, 0, 0, false, 1, 1⟩], []⟩
def lc (ct : Nat) (tk : Bool) : LiveCommit := ⟨{runW with sequence := 4}, wBytes, ct, tk, [7, 7], [(1, 1010)], [], none, [], [], [], []⟩
def lv (l : LiveCommit) (s : State) : State := { s with cfg := { s.cfg with running := some runW, live := some l, bank0 := {bytes := wBytes, sequence := 3}, bank1 := {bytes := wBytes, sequence := 4}, active := 0} }
def hv (st : HandStage) (s : State) : State := { s with bundles := { bank0 := {bytes := wBundle, activation := 1}, bank1 := {bytes := wBundle, activation := 2}, running := some 0, manifest := some wMan, handover := some ⟨st, 1, 0⟩, staging := none}, cfg := { s.cfg with running := some runW, bank0 := {bytes := wBytes, sequence := 3}}, pairs := {s.pairs with stb := .handover}, host := { s.host with waiting := [⟨req 0xC1 [], .activate⟩, ⟨{req 0x34 [] with tag := 4}, .commit⟩]}}
def tk (n : Nat) (s : State) : State := { s with time := {s.time with tick := n}}
def w0 : State := tr true false false bench
def w1 : State := tr false true false bench
def w2 : State := lv (lc 1000 false) bench
def w3 : State := lv (lc 1001 false) bench
def w5 : State := hv .translating bench2
def w6 : State := hv .starting bench2
def w8 : State := tk 10000 (hv .starting bench2)
def w9 : State := hv .switching bench2
def w10 : State := (hv .switching bench2).setLine 0 {handAt := some 1100}

/-- States and operands that meet hypotheses of `LiveCommitRuns`. -/
theorem wit_TranslationsAndCommitTick :
    w0.cfg.staging = some (w0.cfg.staging.getD default) ∧ w0.cfg.trans = some ((w0.cfg.trans).getD default) ∧ w0.pairs.stb =
    StbWork.translation ∧ w2.cfg.live = some (w2.cfg.live.getD default) ∧ (w2.cfg.live.getD default).ticked = false ∧
    (w2.cfg.live.getD default).commitTick ≤ w2.time.tick ∧ w2.faults.live = [] ∧ (∀ p ∈ [2, 3, 4, 5], (w2.pair p).retired =
    false) ∧ w1.cfg.staging = some (w1.cfg.staging.getD default) ∧ w1.cfg.trans = some ((w1.cfg.trans).getD default) ∧
    w3.cfg.live = some (w3.cfg.live.getD default) ∧ ((w3.cfg.live.getD default).ticked = true ∨ w3.time.tick < (w3.cfg.live.getD
    default).commitTick) :=
  by and_intros <;> first | decide +kernel | exact some_getD (by decide +kernel)

/-- States and operands that meet hypotheses of `BundleHandover`. -/
theorem wit_BundleHandover :
    w6.bundles.handover = some (w6.bundles.handover.getD default) ∧ (w6.bundles.handover.getD default).stage =
    HandStage.starting ∧ w6.newManifest = some wMan ∧ wMan.epoch ≤ w6.fusedEpoch ∧ w6.host.queue = [] ∧ w5.bundles.handover =
    some (w5.bundles.handover.getD default) ∧ (w5.bundles.handover.getD default).stage = HandStage.translating ∧ w5.newManifest
    = some wMan ∧ w5.cfg.running = some (w5.cfg.running.getD default) ∧ w5.cfg.active ≤ 1 ∧ ((w6.bundles.handover.getD
    default).stage = HandStage.starting ∨ (w6.bundles.handover.getD default).stage = HandStage.translating) ∧ w6.pairs.stb =
    StbWork.handover ∧ w8.bundles.handover = some (w8.bundles.handover.getD default) ∧ ((w8.bundles.handover.getD default).stage
    = HandStage.starting ∨ (w8.bundles.handover.getD default).stage = HandStage.translating) ∧ w8.host.queue = [] ∧
    (w8.bundles.handover.getD default).stage = HandStage.starting ∧ (w8.bundles.handover.getD default).start + 10000 ≤
    w8.time.tick ∧ w8.pairs.stb = StbWork.handover ∧ w9.bundles.handover = some (w9.bundles.handover.getD default) ∧
    (w9.bundles.handover.getD default).stage = HandStage.switching ∧ (∀ n ∈ w9.cellsInUse, (w9.line n).handAt = none) ∧ 1 ≠ 6 ∧
    w10.bundles.handover = some (w10.bundles.handover.getD default) ∧ (w10.bundles.handover.getD default).stage =
    HandStage.switching ∧ (∃ n ∈ w10.cellsInUse, (w10.line n).handAt ≠ none) ∧ w9.pairs.stb = StbWork.handover ∧
    ((w5.bundles.handover.getD default).stage = HandStage.starting ∨ (w5.bundles.handover.getD default).stage =
    HandStage.translating) ∧ w5.host.queue = [] ∧ w5.time.tick < (w5.bundles.handover.getD default).start + 10000 := by
  have m (s : State) (h : s.ros = bench2.ros) (hb : s.bundles.handover.map (·.bank) = some 1)
      (hc : (s.bundles.bank 1).bytes = wBundle) : s.newManifest = some wMan := manifest_at h hb hc
  have m5 : w5.newManifest = some wMan := m w5 rfl (by decide +kernel) (by decide +kernel)
  have m6 : w6.newManifest = some wMan := m w6 rfl (by decide +kernel) (by decide +kernel)
  rw [m5, m6]
  decide +kernel

end W15

/-! ### Field dies -/

namespace W16

def ok1 : DieSt := {alive := true}
def sy : DieCh := {synced := true, nLast := 100, mode := 4}
def ch (x : DieCh) (s : State) : State := (s.setDie 0 ok1).setChan 1 x
def fr (n : Nat) (qa qb : Bool) (bad : Bool := false) : BitVec 40 := commandFrame 1 true (n % 16) (token .a n qa 1) (token .b n qb 1 + b2n bad) 0
def w0 : State := ch sy bench
def w7 : State := ch {sy with prevOnA := true, prevOnB := true, armA := false, nLast := 65535} bench
def w10 : State := ch {sy with swA := true, swB := true, ol := true, offRun := 1000} bench
def w11 : State := (ch {sy with ot := true, offRun := 999} bench).setDie 0 {ok1 with uv := true, ov := true}

/-- States and operands that meet hypotheses of `FieldDieTakesFrames`. -/
theorem wit_FieldDieTakesFrames :
    (w7.die (1 / 16)).alive = true ∧ frBits (fr 0 true true) 39 38 = 1 ∧ cmdOk (fr 0 true true) = true ∧ (w7.chan 1).synced =
    true ∧ 1 ≤ (cmdFcnt (fr 0 true true) + 16 - (w7.chan 1).nLast.toNat % 16) % 16 ∧ (cmdFcnt (fr 0 true true) + 16 - (w7.chan
    1).nLast.toNat % 16) % 16 ≤ 10 ∧ 2 ≠ 1 ∧ frBits (commandFrame 3 false 4 1 2 0) 39 38 = 3 ∧ cmdOk (commandFrame 3 false 4 1 2
    0) = true ∧ 1 ≤ (cmdFcnt (commandFrame 3 false 4 1 2 0) + 16 - (w7.chan 1).nLast.toNat % 16) % 16 ∧ (cmdFcnt (commandFrame 3
    false 4 1 2 0) + 16 - (w7.chan 1).nLast.toNat % 16) % 16 ≤ 10 ∧ (w0.die (1 / 16)).alive = true ∧ frBits (commandFrame 2
    false 5 0 0 77) 39 38 = 2 ∧ cmdOk (commandFrame 2 false 5 0 0 77) = true ∧ (w0.chan 1).synced = true ∧ frBits (fr 101 true
    true ^^^ 1#40) 39 38 = 1 ∧ cmdOk (fr 101 true true ^^^ 1#40) = false ∧ ((cmdFcnt (fr 0 true true) + 16 - (w0.chan
    1).nLast.toNat % 16) % 16 = 0 ∨ 11 ≤ (cmdFcnt (fr 0 true true) + 16 - (w0.chan 1).nLast.toNat % 16) % 16) ∧ (bench.die (1 /
    16)).alive = false :=
  by decide +kernel

/-- States and operands that meet hypotheses of `FieldDieSupplyAndLockouts`. -/
theorem wit_FieldDieSupplyAndLockouts :
    (w10.die (1 / 16)).alive = true ∧ 2 ≠ 1 ∧ (w10.die 0).alive = true ∧ 1 ≠ 0 ∧ (w11.die 0).uv = true ∧ 17 / 16 ≠ 0 ∧
    (bench.die 0).alive = false ∧ 18300 ≤ 31500 ∧ (w11.die 0).ov = true ∧ ((w10.chan 1).ol = true ∨ (w10.chan 1).ot = true) ∧
    1000 ≤ (w10.chan 1).offRun ∧ 17699 < 17700 ∧ 32500 < 32501 ∧ ((w11.chan 1).ol = true ∨ (w11.chan 1).ot = true) ∧ (w11.chan
    1).offRun < 1000 :=
  by decide +kernel

end W16

/-! ### Channels -/

namespace W17

def cmdF (tick : Bool) : BitVec 40 := commandFrame 1 tick 5 1 2 0
def sf (st : StatusFrame) : BitVec 40 := st.pack
def s0 : StatusFrame := ⟨2, 5, 1, 30, false, true, true, false, false, false, false, false, false, 0⟩
def cp (tick : Bool) (s : State) : State := s.setCoupler 1 {step := 7, frame := some (cmdF tick)}
def h3 : StatusFrame := {s0 with ol := true, ot := true, uv := true, ov := true, atokBad := true, btokBad := true, cls := 2}
def all (v : View) (s : State) : State := (List.range 16).foldl (fun s c => (s.setView .a c v).setView .b c v) s
def gv (g : GroupView) (s : State) : State := (s.setGview .a 0 g).setGview .b 0 g
def w0 : State := cp true bench
def w4 : State := all {frameAge := 20, heard := some 4000} bench
def w8 : State := gv {lowRun := 8, highRun := 8} bench
def w9 : State := gv {lowRun := 7, highRun := 8, vfLow := true} bench
def w10 : State := gv {overTicks := 201} bench
def w11 : State := gv {overTicks := 200, underTicks := 201} ((bench.raise 0x10 10 0 1).raise 0x10 10 0 2)
def w14 : State := all {cand := 2, count := 500} bench
def w15 : State := all {cand := 4, count := 500} bench
def w16 : State := all {openLoad := 2001} bench
def w18 : State := all {cand := 0, filt := 1, count := 41} {bench with cfg := {running := some {wRun with cont := {wCont with chans := List.replicate 20 ⟨1, 2, 40, 0, 0,0,0,0⟩}}}}
def w19 : State := all {cand := 0, filt := 1, count := 40} {bench with cfg := {running := some {wRun with cont := {wCont with chans := List.replicate 20 ⟨2, 2, 40, 0, 0,0,0,0⟩}}}}

/-- States and operands that meet hypotheses of `StatusFramesAreTaken`. -/
theorem wit_StatusFramesAreTaken :
    1 < 64 ∧ (w0.coupler 1).frame = some (cmdF true) ∧ w0.slotsRun = true ∧ (w0.view Side.a 1).slot ≠ w0.time.slotNo ∧ statusOk
    (sf h3) (cmdF true) = true ∧ (readStatus (sf h3)).ol = true ∧ (w0.view Side.b 1).slot ≠ w0.time.slotNo ∧ statusOk (sf s0 ^^^
    1#40) (cmdF true) = false ∧ (Side.a, 2) ≠ (Side.a, 1) ∧ (Side.a, 1) ≠ (Side.b, 1) ∧ (readStatus (sf h3)).ot = true ∧
    (readStatus (sf h3)).uv = true ∧ (readStatus (sf h3)).ov = true ∧ statusOk (sf s0) (cmdF true) = true ∧ (readStatus (sf
    s0)).ol = false ∧ (match Side.a with | Side.a => (readStatus (sf h3)).atokBad | Side.b => (readStatus (sf h3)).btokBad) =
    true ∧ (match Side.b with | Side.a => (readStatus (sf h3)).atokBad | Side.b => (readStatus (sf h3)).btokBad) = true :=
  by decide +kernel

/-- States and operands that meet hypotheses of `FieldDetectors`. -/
theorem wit_FieldDetectors :
    (w14.chanEntry 3).mode ≠ 0 ∧ (w14.view Side.a 3).cand ≠ (w14.view Side.a 3).filt ∧ (w14.chanEntry 3).gap = 0 ∧ filterCount
    (w14.chanEntry 3) + 1 ≤ (w14.view Side.a 3).count ∧ 3 < 64 ∧ (w14.chanEntry 3).mode = mIN_MON ∧ (w14.view Side.a 3).cand =
    clBREAK ∧ (w14.view Side.b 3).cand ≠ (w14.view Side.b 3).filt ∧ filterCount (w14.chanEntry 3) + 1 ≤ (w14.view Side.b
    3).count ∧ (w14.view Side.b 3).cand = clBREAK ∧ ((w18.chanEntry 0).mode = mIN_T1 ∨ (w18.chanEntry 0).mode = mIN_T3) ∧ 0 <
    (w18.chanEntry 0).gap ∧ (w18.view Side.a 0).filt = clON ∧ (w18.view Side.a 0).cand = clOFF ∧ max (filterCount (w18.chanEntry
    0)) (w18.chanEntry 0).gap < (w18.view Side.a 0).count ∧ (w18.view Side.b 0).filt = clON ∧ (w18.view Side.b 0).cand = clOFF ∧
    max (filterCount (w18.chanEntry 0)) (w18.chanEntry 0).gap < (w18.view Side.b 0).count ∧ (w4.gview Side.a 0).lowRun < 8 ∧
    (w4.gview Side.b 0).lowRun < 8 ∧ (w4.gview Side.a 0).highRun < 8 ∧ (w4.gview Side.b 0).highRun < 8 ∧ (w4.view Side.a
    0).openLoad < 2001 ∧ (w4.view Side.b 0).openLoad < 2001 ∧ (w4.gview Side.a 0).overTicks < 201 ∧ (w4.gview Side.b
    0).overTicks < 201 ∧ (w4.gview Side.a 0).underTicks < 201 ∧ (w4.gview Side.b 0).underTicks < 201 ∧ 201 ≤ (w10.gview Side.a
    0).overTicks ∧ 201 ≤ (w10.gview Side.b 0).overTicks ∧ 201 ≤ (w11.gview Side.a 0).underTicks ∧ 201 ≤ (w11.gview Side.b
    0).underTicks ∧ (w4.view Side.a 0).count ≤ filterCount (w4.chanEntry 0) ∧ (w4.view Side.b 0).count ≤ filterCount
    (w4.chanEntry 0) ∧ 8 ≤ (w8.gview Side.a 0).lowRun ∧ (w8.gview Side.a 0).vfLow = false ∧ 8 ≤ (w8.gview Side.b 0).lowRun ∧
    (w8.gview Side.b 0).vfLow = false ∧ 8 ≤ (w9.gview Side.a 0).highRun ∧ (w9.gview Side.a 0).vfLow = true ∧ 8 ≤ (w9.gview
    Side.b 0).highRun ∧ (w9.gview Side.b 0).vfLow = true ∧ (w8.view Side.a 0).frameAge < 20 ∧ (w8.view Side.a 0).sampleAge < 2 ∧
    (w8.view Side.b 0).frameAge < 20 ∧ (w8.view Side.b 0).sampleAge < 2 ∧ (w16.chanEntry 1).drives = true ∧ 50 ≤ (w16.chanEntry
    1).current ∧ 2001 ≤ (w16.view Side.a 1).openLoad ∧ 2001 ≤ (w16.view Side.b 1).openLoad ∧ (w4.chanEntry 0).mode ≠ 0 ∧ (20 ≤
    (w4.view Side.a 0).frameAge ∨ (w4.coupler 0).step = 7 ∧ 2 ≤ (w4.view Side.a 0).sampleAge) ∧ (20 ≤ (w4.view Side.b
    0).frameAge ∨ (w4.coupler 0).step = 7 ∧ 2 ≤ (w4.view Side.b 0).sampleAge) ∧ (∀ i < 16, 20 ≤ (w4.view Side.a (16 * 0 +
    i)).frameAge ∧ ∃ k, (w4.view Side.a (16 * 0 + i)).heard = some k ∧ 4000 ≤ k ∧ k ≤ 4000 + 20) ∧ (∀ i < 16, 20 ≤ (w4.view
    Side.b (16 * 0 + i)).frameAge ∧ ∃ k, (w4.view Side.b (16 * 0 + i)).heard = some k ∧ 4000 ≤ k ∧ k ≤ 4000 + 20) ∧
    (w15.chanEntry 3).mode ≠ 0 ∧ (w15.view Side.a 3).cand ≠ (w15.view Side.a 3).filt ∧ (w15.chanEntry 3).gap = 0 ∧ filterCount
    (w15.chanEntry 3) + 1 ≤ (w15.view Side.a 3).count ∧ (w15.chanEntry 3).mode = mIN_MON ∧ (w15.view Side.a 3).cand = clUNDEF ∧
    (w15.view Side.b 3).cand ≠ (w15.view Side.b 3).filt ∧ filterCount (w15.chanEntry 3) + 1 ≤ (w15.view Side.b 3).count ∧
    (w15.view Side.b 3).cand = clUNDEF ∧ ((w19.chanEntry 0).mode = mIN_T1 ∨ (w19.chanEntry 0).mode = mIN_T3) ∧ 0 <
    (w19.chanEntry 0).gap ∧ (w19.view Side.a 0).filt = clON ∧ (w19.view Side.a 0).cand = clOFF ∧ (w19.view Side.a 0).count ≤ max
    (filterCount (w19.chanEntry 0)) (w19.chanEntry 0).gap ∧ (w19.view Side.b 0).filt = clON ∧ (w19.view Side.b 0).cand = clOFF ∧
    (w19.view Side.b 0).count ≤ max (filterCount (w19.chanEntry 0)) (w19.chanEntry 0).gap :=
  by and_intros <;> decide +kernel

end W17

/-! ### Transmission -/

namespace W18

def nb : State := { bench2 with params := { bench2.params with ports := [{mode := 1, ip := 0x0a000001, pauseRx := 1}, {mode := 3}, {}]} }
def up (p : Port) (s : State) : State := (s.setPort 0 {p with linkUp := true, upAt := 900}).setPort 1 {linkUp := true, upAt := 900}
def tk (n : Nat) (s : State) : State := { s with time := {s.time with tick := n}}
def ses : Session := ⟨7, 8, 2, 0, true⟩
def cn (a b : Conn) (s : State) : State := (s.setConn .a 0 a).setConn .b 0 b
def rc : Conn := {st := .run, session := some ses, vt := 5, vr := 6, echoValid := true, wdStart := 900}
def fr (k : TxKind) (d : Nat) : TxFrame := ⟨k, zeros 60, [0], d⟩
def rx (b : List RxBuf) (s : State) : State := up {buffers := b} s
def eth (dst src et : Nat) (pl : List Byte) : List Byte := let b := beBytes 6 dst ++ beBytes 6 src ++ beBytes 2 et ++ padTo 46 pl; b ++ leBytes 4 (crc32Ether b)
def ann : List Byte := announceFrame 0x1234 [1,2,3,4] 2
def mf : List Byte := eth macBroadcast 0x112233 0x88B5 ann
def arpQ : List Byte := eth macBroadcast 0x112233 0x0806 ([0,1,8,0,6,4,0,1] ++ beBytes 6 0x112233 ++ beBytes 4 0x0a000002 ++ zeros 6 ++ beBytes 4 0x0a000001)
def pauseF : List Byte := eth macPause 0x112233 0x8808 ([0,1] ++ beBytes 2 20)
def pf (b : List Byte) : RxParsed := (parseFrame b).getD default
def bufO (k : Nat) (f : List Byte) (h : Bool) (at_ : Nat) : RxBuf := ⟨4, k, pf f, at_, h, [], [], 0, 0⟩
def dn (s : State) : State := {s with clk := {s.clk with serdesLocked := false}}
def w0 : State := tk 2000 (up {} nb)
def w1 : State := tk 2000 (up {wire := some (fr .data 3000)} nb)
def w2 : State := up {} nb
def w3 : State := cn rc rc (up {} nb)
def w5 : State := cn rc {} (up {} nb)
def w6 : State := { up {} nb with weir := {(up {} nb).weir with txTick := some 1000}}
def w7 : State := up {wire := some (fr .data 3000), queue := [fr .data 1000], pauseNext := some 900} nb
def w9 : State := up {wire := some (fr .data 3000), queue := [fr .control 900]} nb
def w10 : State := up {pause := some 50009999} nb
def w11 : State := up {pause := some 50010000, queue := [fr .data 1200]} nb
def w12 : State := rx [] nb
def w13 : State := rx (List.replicate 256 (bufO rxMILL mf true 999)) nb
def w14 : State := rx [bufO rxARP arpQ false 999] nb
def w15 : State := (rx [bufO rxARP arpQ false 999] nb).setPort 0 {linkUp := true, upAt := 900, buffers := [bufO rxARP arpQ false 999], queue := List.replicate 4 (fr .arp 2000), wire := some (fr .data 2000)}
def w16 : State := rx [bufO rxPAUSE pauseF false 999] nb
def w17 : State := (rx [bufO rxPAUSE pauseF false 999] nb).setPort 0 {linkUp := true, upAt := 900, buffers := [bufO rxPAUSE pauseF false 999], wire := some (fr .data 2000)}
def w18 : State := rx [bufO rxMILL mf false 999] nb
def w19 : State := rx [bufO rxMILL (mf.set 16 9) false 999] nb
def w21 : State := rx [bufO rxMILL mf true 992] nb
def w22 : State := rx [bufO rxMILL mf true 993] nb
def w25 : State := dn nb

/-- States and operands that meet hypotheses of `TransmitPath`. -/
theorem wit_TransmitPath :
    w7.weirOn = true ∧ (w7.port 0).wire = some (fr TxKind.data 3000) ∧ (w7.port 0).pauseNext = some 900 ∧ 900 ≠ 0 ∧ (w7.port
    0).pauseDue = [] ∧ w3.weirOn = true ∧ w3.dev.st.connects = true ∧ w3.weir.txTick ≠ some w3.time.tick ∧ w3.connsInUse = [0]
    ∧ (w3.connEntry 0).port = 0 ∧ w3.txDue 0 = true ∧ (w3.conn Side.a 0).due = none ∧ (w3.conn Side.b 0).due = none ∧
    w3.buildsData Side.a 0 = true ∧ w3.buildsData Side.b 0 = true ∧ (w3.conn Side.a 0).session = some ses ∧ (w3.conn Side.b
    0).session = some ses ∧ ses.gen = 2 ∧ ((w3.port 0).linkUp = true ∧ (w3.port 0).upAt < w3.time.tick) ∧ (w3.port 0).slotFree
    TxKind.data = true ∧ w10.weirOn = true ∧ (w10.port 0).pause = some ((w10.port 0).pause.getD default) ∧ (w10.port
    0).pause.getD default < w10.nowNs + 10000 ∧ w1.weirOn = true ∧ (w1.port 0).wire = some (fr TxKind.data 3000) ∧ (w1.port
    0).pauseNext = none ∧ (w1.port 0).pause = none ∧ (w1.port 0).pauseDue = [] ∧ (w1.port 0).linkUp = true ∧ w9.weirOn = true
    ∧ (w9.port 0).queue = [fr TxKind.control 900] ∧ (w9.port 0).wire.isSome = true ∧ (fr TxKind.control 900).deadline ≤
    w9.time.tick ∧ (fr TxKind.control 900).kind = TxKind.control ∧ (w7.port 0).queue = [fr TxKind.data 1000] ∧ (w7.port
    0).wire.isSome = true ∧ (fr TxKind.data 1000).deadline ≤ w7.time.tick ∧ (fr TxKind.data 1000).kind = TxKind.data ∧ 0 ∈ (fr
    TxKind.data 1000).conns ∧ w6.weirOn = true ∧ w6.weir.txTick = some w6.time.tick ∧ (∀ f ∈ (w1.port 0).queue, w1.time.tick <
    f.deadline) ∧ (w1.port 0).wire.isSome = true ∧ w11.weirOn = true ∧ (w11.port 0).pause = some ((w11.port 0).pause.getD
    default) ∧ w11.nowNs + 10000 ≤ (w11.port 0).pause.getD default ∧ w5.weirOn = true ∧ w5.dev.st.connects = true ∧
    w5.weir.txTick ≠ some w5.time.tick ∧ w5.connsInUse = [0] ∧ (w5.connEntry 0).port = 0 ∧ w5.txDue 0 = true ∧ (w5.conn Side.a
    0).due = none ∧ (w5.conn Side.b 0).due = none ∧ w5.buildsData Side.a 0 ≠ w5.buildsData Side.b 0 ∧ w2.weirOn = true ∧
    w2.dev.st.opens = true ∧ w2.sideRuns Side.a = true ∧ w2.tau = some (w2.tau.getD default) ∧ ((fun n => n ∈ w2.connsInUse ∧
    (w2.connEntry n).port = 0) 0) ∧ (w2.conn Side.a 0).st ≠ ConnState.run ∧ (w2.partnerOf 0).udp = false ∧ w2.tau.getD default %
    2000 ≠ 100 * 0 ∧ w0.weirOn = true ∧ w0.dev.st.opens = true ∧ w0.sideRuns Side.a = true ∧ w0.tau = some (w0.tau.getD default)
    ∧ ((fun n => n ∈ w0.connsInUse ∧ (w0.connEntry n).port = 0) 0) ∧ (w0.conn Side.a 0).st ≠ ConnState.run ∧ (w0.partnerOf
    0).udp = false ∧ w0.tau.getD default % 2000 = 100 * 0 ∧ ((w0.port 0).linkUp = true ∧ (w0.port 0).upAt < w0.time.tick) ∧
    (w0.port 0).slotFree TxKind.control = true :=
  by and_intros <;> first | decide +kernel | exact some_getD (by decide +kernel)

/-- States and operands that meet hypotheses of `ReceivePath`. -/
theorem wit_ReceivePath :
    w21.weirOn = true ∧ (w21.port 0).buffers = [(w21.port 0).buffers.headD default] ∧ ((w21.port 0).buffers.headD
    default).handled = true ∧ ((w21.port 0).buffers.headD default).arrival + 8 ≤ w21.time.tick ∧ w18.weirOn = true ∧ (w18.port
    0).buffers = (w18.port 0).buffers.headD default :: (w18.port 0).buffers.tail ∧ ((w18.port 0).buffers.headD default).handled
    = false ∧ (∀ x ∈ (w18.port 0).buffers.tail, x.id ≠ ((w18.port 0).buffers.headD default).id) ∧ (w18.params.port 0).pauseTx =
    0 ∧ ((w18.port 0).buffers.headD default).kind = rxMILL ∧ w18.weir.windows = [] ∧ (w18.port 0).buffers.tail = [] ∧
    millraceFrameOk ((w18.port 0).buffers.headD default).frame.payload ((w18.port 0).buffers.headD default).frame.wire
    ((w18.port 0).buffers.headD default).frame.tci.isSome none = true ∧ w16.weirOn = true ∧ (w16.port 0).buffers = (w16.port
    0).buffers.headD default :: (w16.port 0).buffers.tail ∧ ((w16.port 0).buffers.headD default).handled = false ∧ (∀ x ∈
    (w16.port 0).buffers.tail, x.id ≠ ((w16.port 0).buffers.headD default).id) ∧ (w16.params.port 0).pauseTx = 0 ∧ ((w16.port
    0).buffers.headD default).kind = rxPAUSE ∧ (w16.params.port 0).pauseRx ≠ 0 ∧ (w16.effective bWEIR 16 0).2 / rBRST % 2 = 0 ∧
    (w16.port 0).wire = none ∧ min (pauseNs (w16.params.port 0).mode (beAt ((w16.port 0).buffers.headD default).frame.payload 2
    2)) (1000 * (w16.params.port 0).pauseMax) ≠ 0 ∧ (w16.port 0).pauseDue = [] ∧ w14.weirOn = true ∧ (w14.port 0).buffers =
    (w14.port 0).buffers.headD default :: (w14.port 0).buffers.tail ∧ ((w14.port 0).buffers.headD default).handled = false ∧ (∀
    x ∈ (w14.port 0).buffers.tail, x.id ≠ ((w14.port 0).buffers.headD default).id) ∧ (w14.params.port 0).pauseTx = 0 ∧
    ((w14.port 0).buffers.headD default).kind = rxARP ∧ arpReply (w14.portMac 0) (w14.params.port 0).ip ((w14.port
    0).buffers.headD default).frame = some ((arpReply (w14.portMac 0) (w14.params.port 0).ip ((w14.port 0).buffers.headD
    default).frame).getD default) ∧ (w14.port 0).slotFree TxKind.arp = true ∧ (w14.port 0).linkUp = true ∧ (w14.port 0).upAt <
    w14.time.tick ∧ w22.weirOn = true ∧ (w22.port 0).buffers = [(w22.port 0).buffers.headD default] ∧ ((w22.port
    0).buffers.headD default).handled = true ∧ w22.time.tick < ((w22.port 0).buffers.headD default).arrival + 8 ∧ w12.weirOn =
    true ∧ (w12.port 0).linkUp = true ∧ (w12.port 0).buffers.length < 256 ∧ parseFrame mf = some ((parseFrame mf).getD default)
    ∧ filterKind ((parseFrame mf).getD default) (w12.portMac 0) (w12.params.port 0).ip w12.params.etherType w12.params.udpPort
    (w12.portVids 0) = some ((filterKind ((parseFrame mf).getD default) (w12.portMac 0) (w12.params.port 0).ip
    w12.params.etherType w12.params.udpPort (w12.portVids 0)).getD default) ∧ w19.weirOn = true ∧ (w19.port 0).buffers =
    (w19.port 0).buffers.headD default :: (w19.port 0).buffers.tail ∧ ((w19.port 0).buffers.headD default).handled = false ∧ (∀
    x ∈ (w19.port 0).buffers.tail, x.id ≠ ((w19.port 0).buffers.headD default).id) ∧ (w19.params.port 0).pauseTx = 0 ∧
    ((w19.port 0).buffers.headD default).kind = rxMILL ∧ w19.weir.windows = [] ∧ (w19.port 0).buffers.tail = [] ∧
    millraceFrameOk ((w19.port 0).buffers.headD default).frame.payload ((w19.port 0).buffers.headD default).frame.wire
    ((w19.port 0).buffers.headD default).frame.tci.isSome none = false ∧ w15.weirOn = true ∧ (w15.port 0).buffers = (w15.port
    0).buffers.headD default :: (w15.port 0).buffers.tail ∧ ((w15.port 0).buffers.headD default).handled = false ∧ (∀ x ∈
    (w15.port 0).buffers.tail, x.id ≠ ((w15.port 0).buffers.headD default).id) ∧ (w15.params.port 0).pauseTx = 0 ∧ ((w15.port
    0).buffers.headD default).kind = rxARP ∧ arpReply (w15.portMac 0) (w15.params.port 0).ip ((w15.port 0).buffers.headD
    default).frame = some ((arpReply (w15.portMac 0) (w15.params.port 0).ip ((w15.port 0).buffers.headD default).frame).getD
    default) ∧ (w15.port 0).slotFree TxKind.arp = false ∧ nb.weirOn = true ∧ (nb.port 0).linkUp = false ∧ w13.weirOn = true ∧
    (w13.port 0).linkUp = true ∧ 256 ≤ (w13.port 0).buffers.length ∧ parseFrame (mf.set 3 7) = none ∧ parseFrame (eth 5 6 34997
    ann) = some ((parseFrame (eth 5 6 34997 ann)).getD default) ∧ filterKind ((parseFrame (eth 5 6 34997 ann)).getD default)
    (w12.portMac 0) (w12.params.port 0).ip w12.params.etherType w12.params.udpPort (w12.portVids 0) = none ∧ w17.weirOn = true ∧
    (w17.port 0).buffers = (w17.port 0).buffers.headD default :: (w17.port 0).buffers.tail ∧ ((w17.port 0).buffers.headD
    default).handled = false ∧ (∀ x ∈ (w17.port 0).buffers.tail, x.id ≠ ((w17.port 0).buffers.headD default).id) ∧
    (w17.params.port 0).pauseTx = 0 ∧ ((w17.port 0).buffers.headD default).kind = rxPAUSE ∧ (w17.params.port 0).pauseRx ≠ 0 ∧
    (w17.effective bWEIR 16 0).2 / rBRST % 2 = 0 ∧ (w17.port 0).wire.isSome = true ∧ min (pauseNs (w17.params.port 0).mode (beAt
    ((w17.port 0).buffers.headD default).frame.payload 2 2)) (1000 * (w17.params.port 0).pauseMax) ≠ 0 :=
  by and_intros <;> first | decide +kernel | exact some_getD (by decide +kernel)

/-- States and operands that meet hypotheses of `LinksFollowTheirLayer`. -/
theorem wit_LinksFollowTheirLayer :
    w2.weirOn = true ∧ (w2.port 0).linkUp = true ∧ (w2.params.port 0).mode ≠ 0 ∧ 0 = 0 ∧ nb.weirOn = true ∧ (nb.port 0).linkUp =
    false ∧ (nb.params.port 0).mode ≠ 0 ∧ ((nb.params.port 0).mode = 1 ∨ nb.clk.serdesLocked = true) ∧ nb.clk.serdesLocked =
    true ∧ w25.weirOn = true ∧ w25.clk.serdesLocked = false ∧ 0 < 3 ∧ (nb.params.port 0).mode < 2 ∧ 1 < 3 ∧ 2 ≤ (nb.params.port
    1).mode ∧ ((nb.port 2).linkUp = true ∨ (nb.params.port 2).mode = 0) ∧ 1 ≠ 0 :=
  by decide +kernel

end W18

/-! ### Clocks and rails -/

namespace W19

def wq (on : WaitFor) (s : State) : State := { s with host := {s.host with waiting := [⟨req 0x40 [], on⟩]}}
def man (s : State) : State := {s with bundles := {s.bundles with manifest := some wMan, running := some 0}}
def fl (s : State) : State := { s with hs := { inactive := 5, flipDue := true }}
def uncap (s : State) : State := { s with host := {s.host with queue := [{req 0x10 [] with captured := false}]}}
def tm (sl : Nat) (s : State) : State := { s with time := {s.time with slotInTick := sl}}
def w0 : State := man (wq .run (inSt .safe bench))
def w2 : State := wq .hostSig (fl (uncap bench))
def w4 : State := inSt .off bench
def w6 : State := tm 0 bench
def w7 : State := tm 5 bench

/-- States and operands that meet hypotheses of `TicksAndMeasurements`. -/
theorem wit_TickEdge :
    w2.clocked = true ∧ w2.dev.st ≠ DevState.off ∧ w2.rif.slice = none ∧ w2.cfg.live = none ∧ (∀ w ∈ w2.host.waiting, w.on ≠
    WaitFor.run) ∧ w2.hs.flipDue = true ∧ w2.host.paused = false ∧ w2.supRuns = true ∧ (w4.clocked = false ∨ w4.dev.st =
    DevState.off) ∧ w0.clocked = true ∧ w0.dev.st ≠ DevState.off ∧ w0.rif.slice = none ∧ w0.cfg.live = none ∧ w0.host.paused =
    false ∧ w0.supRuns = true ∧ w0.on 8 = true ∧ (w0.hs.flipDue = false ∨ w0.host.paused = true ∨ w0.supRuns = false) :=
  by decide +kernel

/-- States and operands that meet hypotheses of `CouplerSlotSendsFrames`. -/
theorem wit_CouplerSlotSendsFrames :
    w6.slotsRun = true ∧ w6.time.slotInTick < 5 ∧ w6.time.slotInTick ≠ 3 ∧ w7.slotsRun = true ∧ 5 ≤ w7.time.slotInTick :=
  by decide +kernel

/-- States and operands that meet hypotheses of `TicksAndMeasurements`. -/
theorem wit_MeasurementsAndOperatingTime :
    (State.reset.dev.st = DevState.off ∨ State.reset.dev.released = false) :=
  by decide +kernel

end W19

/-! ### Records -/

namespace W20

def wq (on : WaitFor) (s : State) : State := { s with host := {s.host with waiting := [⟨req 0x40 [], on⟩]}}
def man (s : State) : State := {s with bundles := {s.bundles with manifest := some wMan, running := some 0}}
def w0 : State := man (wq .run {bench with dev := {bench.dev with st := .safe, safeReason := 1, safeLine := true}})

/-- States and operands that meet hypotheses of `TicksAndMeasurements`. -/
theorem wit_TickEdge :
    w0.clocked = true ∧ w0.dev.st ≠ DevState.off ∧ w0.rif.slice = none ∧ w0.cfg.live = none ∧ (∃ w ∈ w0.host.waiting, w.on =
    WaitFor.run) ∧ w0.runAllowed = true ∧ w0.manifestEpoch ≤ w0.fusedEpoch :=
  by decide +kernel

theorem agr_none (p : Nat) : (w0.pair p).agr = [] := by
  simp only [State.pair, w0, man, wq, bench, Tab.getD, Tab.get?]
  repeat' split
  all_goals rfl

end W20

/-! ### Riffle -/

namespace W21

def sam (t : Nat) (s : State) : State := { s with oxb := {s.oxb with lastSampleTick := t}}
def w0 : State := sam 0 bench
def w1 : State := { (sam 0 bench) with time := {bench.time with tick := 2000}}
def w3 : State := {bench with oxb := {}}

/-- States and operands that meet hypotheses of `TicksAndMeasurements`. -/
theorem wit_MeasurementsAndOperatingTime :
    w1.oxb.mounted = true ∧ w1.clocked = true ∧ w1.oxb.lastSampleTick + 2000 ≤ w1.time.tick ∧ 0 < 4 ∧ w0.dev.st ≠ DevState.off ∧
    w0.dev.released = true ∧ w0.oxb.mounted = true ∧ w0.oxb.storeFail = none ∧ w1.oxb.frozen = false ∧ w1.openRec oxVSUP_MIN 0 =
    none ∧ 0 < 64 ∧ w3.dev.st ≠ DevState.off ∧ w3.dev.released = true ∧ w3.oxb.mounted = false ∧ w0.clocked = true ∧
    w0.time.tick < w0.oxb.lastSampleTick + 2000 :=
  by decide +kernel

end W21

/-! ### Slices -/

namespace W22

def cs7 (s : State) : State := (List.range 64).foldl (fun s c => s.setCoupler c {step := 7}) s
def gok (s : State) : State := let g : GroupView := {vfCode := 2400, vfValid := true, tempCode := 500, vfTick := some 990}; (s.setGview .a 0 g).setGview .b 0 g
def rb : State := { (gok (cs7 bench)).setDie 0 {alive := true} with rif := { clock := 1000, coverage := [(0, {deadline := some 880}), (1, {deadline := some 399}), (2, {deadline := some 881})] }}
def vb : State := { inSt .verify rb with rif := {} , dev := {bench.dev with st := .verify, verifyCause := .start}}
def rows : UnitRows :=
  ⟨-50, List.replicate 16 2, [15700, 18300, 31000, 31500, 10000], 25, 30, List.replicate 16 40, [],
    [(1, true), (4, true), (2, true), (1, true), (4, true), (4, true)]⟩
def badRows : UnitRows := { rows with frames := [(1, true), (4, true), (2, true), (1, true), (4, true), (4, false)] }
def good : LogicReadings := ⟨1650, 1650, 25, 0⟩
def sl0 : State := { rb with rif := { rb.rif with groupSlices := [0] }} |>.setDie 0 {alive := true, unitRun := true}
def prt (s : State) : State := ({ s with params := { s.params with ports := [{mode := 1}, {mode := 3}, {}] }, cfg := {running := some {wRun with cont := {wCont with conns := [{wConn 0 with port := 1}]}}}}).setPort 1 {linkUp := true}
def cal (x : CalRun) : State := { rb with rif := {cal := some x}}
def w0 : State := {rb with pwr := {rb.pwr with vsup := 1000}}
def w3 : State := {bench with rif := {logicFails := [1,0,5]}}
def w4 : State := {vb with pwr := {vb.pwr with vsup := 1000}}
def lowW3 : State := {w3 with pwr := {w3.pwr with vsup := 1749}}
def asks (k i : Nat) (left : List Nat) : SelfTest :=
  { kind := k, index := i, left := left, failed := false, aborted := false, skipped := false, sig := 0, expected := 0 }
def asksOff : State := { rb with rif := { rb.rif with selfTest := some (asks 0 40 [0x18]) } }
/-- Cell 0 runs and reads the first channel of group 0. -/
def used (s : State) : State := s.setCell .a 0 { st := .run }
def asksUsed : State := { used { rb with rif := { rb.rif with selfTest := some (asks 1 0 []) } } with
  host := { bench.host with waiting := [⟨req 0x90 [], .selfTest⟩] } }
def w5 : State := prt vb
def w6 : State := cal ⟨[1,2], true, true, [], []⟩

/-- States and operands that meet hypotheses of `SlicesCoverageAndCalibration`. -/
theorem wit_SlicesAndCoverage :
    rb.slotsRun = true ∧ rb.time.slotInTick = 1 ∧ rb.rif.granted = false ∧ rb.rif.slice = none ∧ rb.anyPulse = false ∧
    rb.rif.sliceTick ≠ some rb.time.tick ∧ rb.rif.logicTick ≠ some rb.time.tick ∧
    rb.sliceNow true = some (1, (rb.sliceNow false).get!.2.1, false) ∧ rb.sliceMayRun (some (1 / 16)) = true ∧
    w0.sliceNow true = some (1, (rb.sliceNow false).get!.2.1, false) ∧ w0.sliceMayRun (some (1 / 16)) = false ∧
    asksOff.sliceNow false = some (40, 0x18, true) ∧ asksOff.sliceable 40 = false ∧
    w3.oxb.mounted = true ∧ w3.clocked = true ∧ w3.rif.slice = none ∧ w3.rif.sliceTick ≠ some w3.time.tick ∧
    w3.rif.logicAt ≠ some w3.pwr.opSeconds ∧ w3.rif.logicFails = [1, 0, 5] ∧ w3.sliceMayRun none = true ∧
    (w3.supplyOk ⟨w3.params.vpfw + 51, w3.params.vpfw, 25, 0⟩ = false) ∧ (w3.supplyOk ⟨w3.params.vpfw + 50, w3.params.vpfw, 25, 0⟩ = true) ∧
    (w3.tempOk ⟨0, 0, 31, 0⟩ = false) ∧ (w3.tempOk ⟨0, 0, 30, 0⟩ = true) ∧ (w3.clockOk ⟨0, 0, 0, 21⟩ = false) ∧
    (w3.clockOk ⟨0, 0, 0, -20⟩ = true) ∧ lowW3.sliceMayRun none = false ∧
    (rb.cov 0).deadline = some 880 ∧ (rb.chanEntry 0).mode ≠ mOFF ∧ 880 + 120 ≤ rb.rif.clock ∧ rb.rif.clock < 880 + 600 ∧
    (rb.cov 2).deadline = some 881 ∧ (rb.chanEntry 2).mode ≠ mOFF ∧ rb.rif.clock < 881 + 120 ∧
    (rb.dev.st = DevState.run ∨ rb.dev.st = DevState.safe) ∧ (rb.cov 1).deadline = some 399 ∧ 399 + 600 ≤ rb.rif.clock :=
  by decide +kernel

/-- States and operands that meet hypotheses of `SlicesCoverageAndCalibration`. -/
theorem wit_UnitSlicesAndCalibration :
    vb.groupSliceDue 0 = true ∧ (vb.die 0).alive = true ∧ 0 ∉ vb.rif.groupSlices ∧ (vb.coupler 0).step = 7 ∧
    vb.groupQuiet 0 = true ∧ (vb.gview Side.a 0).vfTick.isSome = true ∧ vb.unitInUse 1 0 = false ∧ vb.sliceMayRun (some 0) = true ∧
    w4.groupSliceDue 0 = true ∧ w4.groupQuiet 0 = true ∧ w4.unitInUse 1 0 = false ∧ w4.sliceMayRun (some 0) = false ∧
    rb.groupSliceDue 0 = false ∧
    asksUsed.groupSliceDue 0 = true ∧ 0 ∉ asksUsed.rif.groupSlices ∧ asksUsed.unitInUse 1 0 = true ∧ (asksUsed.die 0).alive = true ∧
    (asksUsed.coupler 0).step ≠ 0 ∧ asksUsed.unitAsked 1 0 = true ∧ asksUsed.host.waiting = [⟨req 0x90 [], .selfTest⟩] ∧
    0 ∈ sl0.rif.groupSlices ∧ sl0.rif.selfTest = none ∧ sl0.unitInUse 1 0 = false ∧ rows.tOff.length = 16 ∧
    (sl0.die 0).unitRun = true ∧ (∀ row < 6, rows.frames[row]? = some ([1, 4, 2, 1, 4, 4].getD row 0, true)) ∧
    (∀ row < 6, unitBands rows row = List.replicate ([1, 16, 5, 1, 16, 16].getD row 0) 1) ∧
    badRows.tOff.length = 16 ∧ badRows.frames[5]? ≠ some (4, true) ∧
    (used sl0).unitInUse 1 0 = true ∧ 0 ∈ (used sl0).rif.groupSlices ∧ (sl0.coupler 0).step ≠ 0 ∧
    w5.portSliceDue 1 = true ∧ w5.weirOn = true ∧ (w5.params.port 1).mode ≠ 0 ∧ w5.rif.selfTest = none ∧
    w5.sliceMayRun none = true ∧ w5.unitInUse 2 1 = false :=
  by decide +kernel

/-- Channels 1 and 2 are under calibration, of which 1 drives an output: its limit of 40 µs on both sides. -/
theorem wit_Calibration :
    w6.rif.cal = some ⟨[1, 2], true, true, [], []⟩ ∧ (w6.chanEntry 1).drives = true ∧
    (⟨7, 8, 40, true⟩ : CalResult).tOff ≤ 40 ∧ ¬ (⟨7, 8, 41, true⟩ : CalResult).tOff ≤ 40 :=
  by decide +kernel

end W22

/-! ### Shelves -/

namespace W23

def orc (code inst start iv : Nat) : OpenRec := ⟨{code := code, inst := inst, start := start, stop := 0, count := 3}, iv⟩
def ox (x : OxbSt) : State := { bench with oxb := x }
def b0 : OxbSt := { mounted := true, openRecs := [orc 0xF003 0 100 400, orc 0x0701 2 400 101], dirty := (List.range 20).map (fun i => {code := i}), hourlyFrom := 0 }
def s1 : State := ox b0
def q (s : State) : State := { s with host := {s.host with waiting := [⟨req 0x82 [], .oxbFlush⟩, ⟨{req 0x40 [] with tag := 9}, .run⟩]}}
def fl : OxbSt := { b0 with running := some .routine, inFlight := [{code := 77}], mram := { first := [(3, {code := 5})], nextSeq := 524287 } }
def tl : State := { ox { b0 with tlPending := true, tlTriedAt := 0, storeFail := some 0x10 } with time := {bench.time with tick := 1200000}, ros := { sensed := true, shadow := [(3584, ⟨1, true, false, false⟩), (3585, {})] } }
def w0 : State := {s1 with pwr := {s1.pwr with opSeconds := 3600}}
def w1 : State := ox {b0 with trigger := some .routine}
def w2 : State := ox {b0 with trigger := some .full}
def w3 : State := ox {b0 with deferredAt := some 1000}
def w4 : State := ox {b0 with deferredAt := some 1001}
def w6 : State := q (ox {fl with running := some .full})
def w8 : State := ox {fl with storeFail := some 3}

/-- States and operands that meet hypotheses of `RecordsAndFlushes`. -/
theorem wit_RecordsAndFlushes :
    w0.openRec 1793 2 = some ((w0.openRec 1793 2).getD default) ∧ ((w0.openRec 1793 2).getD default).rcd.start + ((w0.openRec
    1793 2).getD default).interval ≤ w0.pwr.opSeconds ∧ w0.oxb.dirty.length < 8192 ∧ w0.oxbRuns = true ∧ w0.oxb.running = none ∧
    w0.oxb.tlPending = false ∧ w0.oxb.trigger = none ∧ w0.oxb.hourlyFrom + 3600 ≤ w0.pwr.opSeconds ∧ w6.oxb.running = some
    FlushKind.full ∧ FlushKind.full ≠ FlushKind.powerFail ∧ w6.host.queue = [] ∧ w6.oxb.storeFail = none ∧ w6.oxb.mram.nextSeq <
    2 ^ 32 ∧ (w6.oxb.inFlight ++ w6.oxb.dirty).length ≤ 524288 ∧ 0 < (w6.oxb.inFlight ++ w6.oxb.dirty).length ∧ w1.oxbRuns =
    true ∧ w1.oxb.running = none ∧ w1.oxb.tlPending = false ∧ w1.oxb.trigger = some FlushKind.routine ∧ w3.oxbRuns = true ∧
    w3.oxb.running = none ∧ w3.oxb.tlPending = false ∧ w3.oxb.deferredAt = some (w3.oxb.deferredAt.getD default) ∧
    w3.oxb.trigger = none ∧ w3.oxb.deferredAt.getD default ≤ w3.time.tick ∧ tl.oxb.tlPending = true ∧ tl.oxb.tlTriedAt + 1200000
    ≤ tl.time.tick ∧ tl.oxb.tlDone = false ∧ tl.oxb.storeFail = some 16 ∧ 1 < 64 ∧ (tl.shadow (3584 + 1)).prog = false ∧ (∀ j <
    1, (tl.shadow (3584 + j)).prog = true) ∧ tl.ros.busy = false ∧ tl.ros.running = none ∧ tl.ros.waiting = [] ∧
    tl.pwr.opSeconds < 2 ^ 32 ∧ FuseConditions tl ∧ w2.oxbRuns = true ∧ w2.oxb.running = none ∧ w2.oxb.tlPending = false ∧
    w2.oxb.trigger = some FlushKind.full ∧ w2.oxb.dirty.length + w2.oxb.openRecs.length ≤ 8192 ∧ w8.oxb.running = some
    FlushKind.routine ∧ FlushKind.routine ≠ FlushKind.powerFail ∧ w8.host.queue = [] ∧ w8.oxb.storeFail.isSome = true ∧
    (s1.oxb.tlPending = false ∨ s1.time.tick < s1.oxb.tlTriedAt + 1200000) ∧ s1.oxbRuns = true ∧ s1.oxb.running = none ∧
    s1.oxb.tlPending = false ∧ s1.oxb.trigger = none ∧ s1.pwr.opSeconds < s1.oxb.hourlyFrom + 3600 ∧ s1.openRec 1793 2 = some
    ((s1.openRec 1793 2).getD default) ∧ s1.pwr.opSeconds < ((s1.openRec 1793 2).getD default).rcd.start + ((s1.openRec 1793
    2).getD default).interval ∧ w4.oxbRuns = true ∧ w4.oxb.running = none ∧ w4.oxb.tlPending = false ∧ w4.oxb.deferredAt = some
    (w4.oxb.deferredAt.getD default) ∧ w4.oxb.trigger = none ∧ w4.time.tick < w4.oxb.deferredAt.getD default ∧ FlushKind.full =
    FlushKind.full ∧ w6.oxb.trigger ≠ some FlushKind.full :=
  by and_intros <;> first | decide +kernel | exact some_getD (by decide +kernel) | (unfold FuseConditions; decide +kernel)

end W23

/-! ### Signatures -/

namespace W24

def runC : RunCfg := {wRun with cells := [⟨0, 0, 0, false, 1, 1⟩, ⟨1, 1, 1, false, 1, 1⟩]}
def cc (s : State) : State := { s with cfg := { s.cfg with running := some runC}}
def cellAt (a b : CellSide) (ln : CellLine) (s : State) : State := ((s.setCell .a 0 a).setCell .b 0 b).setLine 0 ln
def r0 : CellRun := { start := 800, recon := 999, latch := [] }
def x0 : CellSide := { st := .run, runs := [r0] }
def im1 : CellImage := {cmds := [(1,1)]}
def im2 : CellImage := {cmds := [(1,0)]}
def im3 : CellImage := {cmds := [(1,1)], nodes := [(0, ⟨[1],[1]⟩)]}
def dn (a b : CellImage) (s : State) : State := cc (cellAt {x0 with runs := [{r0 with result := some a}], disc := 2, sigc := 1} {x0 with runs := [{r0 with result := some b}], disc := 2, sigc := 1} {} s)
def bt : State := { bench with time := { bench.time with tick := 999 }}
def w11 : State := dn im1 im1 bt
def w12 : State := dn im1 im2 bt
def w13 : State := dn im1 im3 bt

/-- States and operands that meet hypotheses of `SignatureMismatchCount`. -/
theorem wit_SignatureMismatchCount :
    (w12.line 0).lastRecon ≠ some w12.time.tick ∧ w12.dueRun Side.a 0 = some ((w12.dueRun Side.a 0).getD default) ∧ w12.dueRun
    Side.b 0 = some ((w12.dueRun Side.b 0).getD default) ∧ ((w12.dueRun Side.a 0).getD default).isShadow = false ∧ ((w12.dueRun
    Side.b 0).getD default).isShadow = false ∧ ((w12.dueRun Side.a 0).getD default).result = some (((w12.dueRun Side.a 0).getD
    default).result.getD default) ∧ ((w12.dueRun Side.b 0).getD default).result = some (((w12.dueRun Side.b 0).getD
    default).result.getD default) ∧ w12.pairRuns (w12.evaluator Side.a 0) = true ∧ w12.pairRuns (w12.evaluator Side.b 0) = true
    ∧ (w12.verCont ((w12.dueRun Side.a 0).getD default).ver).vectorOf 0 (((w12.dueRun Side.a 0).getD default).result.getD
    default) ≠ (w12.verCont ((w12.dueRun Side.b 0).getD default).ver).vectorOf 0 (((w12.dueRun Side.b 0).getD
    default).result.getD default) ∧ (w13.line 0).lastRecon ≠ some w13.time.tick ∧ w13.dueRun Side.a 0 = some ((w13.dueRun Side.a
    0).getD default) ∧ w13.dueRun Side.b 0 = some ((w13.dueRun Side.b 0).getD default) ∧ ((w13.dueRun Side.a 0).getD
    default).isShadow = false ∧ ((w13.dueRun Side.b 0).getD default).isShadow = false ∧ ((w13.dueRun Side.a 0).getD
    default).result = some (((w13.dueRun Side.a 0).getD default).result.getD default) ∧ ((w13.dueRun Side.b 0).getD
    default).result = some (((w13.dueRun Side.b 0).getD default).result.getD default) ∧ w13.pairRuns (w13.evaluator Side.a 0) =
    true ∧ w13.pairRuns (w13.evaluator Side.b 0) = true ∧ (w13.verCont ((w13.dueRun Side.a 0).getD default).ver).vectorOf 0
    (((w13.dueRun Side.a 0).getD default).result.getD default) = (w13.verCont ((w13.dueRun Side.b 0).getD default).ver).vectorOf
    0 (((w13.dueRun Side.b 0).getD default).result.getD default) ∧ ((w13.dueRun Side.a 0).getD default).p = ((w13.dueRun Side.b
    0).getD default).p ∧ (w13.verCont ((w13.dueRun Side.a 0).getD default).ver).signature 0 ((w13.dueRun Side.a 0).getD
    default).p (((w13.dueRun Side.a 0).getD default).result.getD default) ≠ (w13.verCont ((w13.dueRun Side.b 0).getD
    default).ver).signature 0 ((w13.dueRun Side.b 0).getD default).p (((w13.dueRun Side.b 0).getD default).result.getD default)
    ∧ 0 < 256 ∧ (w11.cell Side.a 0).sigc < 2 ∧ (w11.line 0).lastRecon ≠ some w11.time.tick ∧ w11.dueRun Side.a 0 = some
    ((w11.dueRun Side.a 0).getD default) ∧ w11.dueRun Side.b 0 = some ((w11.dueRun Side.b 0).getD default) ∧ ((w11.dueRun Side.a
    0).getD default).isShadow = false ∧ ((w11.dueRun Side.b 0).getD default).isShadow = false ∧ ((w11.dueRun Side.a 0).getD
    default).result = some (((w11.dueRun Side.a 0).getD default).result.getD default) ∧ ((w11.dueRun Side.b 0).getD
    default).result = some (((w11.dueRun Side.b 0).getD default).result.getD default) ∧ w11.pairRuns (w11.evaluator Side.a 0) =
    true ∧ w11.pairRuns (w11.evaluator Side.b 0) = true ∧ (w11.verCont ((w11.dueRun Side.a 0).getD default).ver).vectorOf 0
    (((w11.dueRun Side.a 0).getD default).result.getD default) = (w11.verCont ((w11.dueRun Side.b 0).getD default).ver).vectorOf
    0 (((w11.dueRun Side.b 0).getD default).result.getD default) ∧ ((w11.dueRun Side.a 0).getD default).p = ((w11.dueRun Side.b
    0).getD default).p ∧ (w11.verCont ((w11.dueRun Side.a 0).getD default).ver).signature 0 ((w11.dueRun Side.a 0).getD
    default).p (((w11.dueRun Side.a 0).getD default).result.getD default) = (w11.verCont ((w11.dueRun Side.b 0).getD
    default).ver).signature 0 ((w11.dueRun Side.b 0).getD default).p (((w11.dueRun Side.b 0).getD default).result.getD default)
    ∧ (w11.cell Side.b 0).sigc < 2 :=
  by and_intros <;> first | decide +kernel | exact some_getD (by decide +kernel)

end W24

/-! ### Requests, invariants and whole-block statements -/

namespace H1

def hello : Request := ⟨3, 1, 1, 0, [2, 0, 0, 0] ++ zeros 16, true, 3, false⟩
def helloNone : Request := ⟨3, 1, 1, 0, [0, 0, 0, 0] ++ zeros 16, true, 3, false⟩
def helloBad : Request := ⟨3, 1, 1, 9, [2, 0, 0, 0] ++ zeros 16, true, 3, false⟩
def hand (m : Manifest) (s : State) : State := { s with bundles := { s.bundles with running := some 0, manifest := some m } }
def front (r : Request) (s : State) : State := { s with host := { s.host with queue := [r] } }
def old (code : Nat) : Request := ⟨3, 1, code, 5, [], true, 3, false⟩
def inV1 (s : State) : State := { s with host := { s.host with version := 1 } }

/-- States and operands that meet hypotheses of `HelloOpensSession`. -/
theorem wit_HelloOpensSession :
    AtFront helloBad [] (front helloBad bench) ∧ helloBad.session ≠ 0 ∧
    AtFront helloNone [] (front helloNone bench) ∧ leAt helloNone.payload 0 2 &&& (front helloNone bench).versions = 0 ∧
    AtFront hello [] (front hello (hand wMan bench)) ∧ hello.cmd = 1 ∧ hello.version = 1 ∧ hello.session = 0 ∧ hello.payload.length = 20 ∧
    leAt hello.payload 2 2 = 0 ∧ leAt hello.payload 0 2 ≤ 3 ∧ (front hello (hand wMan bench)).host.waiting = [] ∧
    leAt hello.payload 0 2 &&& (front hello (hand wMan bench)).versions ≠ 0 :=
  by and_intros <;> first | decide +kernel | exact front_of (by decide +kernel) | decide

/-- One request for each service, from a wrong session, in version 1 for a command of version 2, and in a state that refuses it. -/
theorem wit_ServicesCheckSessionAndState :
    (∀ e ∈ services none none [], frontB ⟨3, 2, e.2, 6, [], true, 3, false⟩ [] (front ⟨3, 2, e.2, 6, [], true, 3, false⟩ bench) = true) ∧
    (∀ e ∈ services none none [], frontB ⟨3, 2, e.2, 5, [], true, 3, false⟩ [] (front ⟨3, 2, e.2, 5, [], true, 3, false⟩ (inSt .boot bench)) = true ∧
      sessionB ⟨3, 2, e.2, 5, [], true, 3, false⟩ (front ⟨3, 2, e.2, 5, [], true, 3, false⟩ (inSt .boot bench)) = true ∧
      (front ⟨3, 2, e.2, 5, [], true, 3, false⟩ (inSt .boot bench)).stateRefuses e.2 = some stNOT_READY) ∧
    (∀ code ∈ [0x12, 0x13, 0x91], frontB (old code) [] (front (old code) (inV1 bench)) = true) := by
  and_intros <;> decide +kernel

/-- States and operands that meet hypotheses of `ServicesCheckSessionAndState`. -/
theorem wit_StatesThatServeCommands :
    (cmdVersion 0xD0).isSome = true ∧ bench.dev.st = .run ∧ (inSt .boot bench).dev.st = .boot ∧
    (inSt .configure bench).dev.st = .configure ∧ (inSt .latched bench).dev.st = .latched ∧
    (inSt .verify bench).dev.st = .verify ∧ ({ bench.dev with st := .maintenance, maint := .rom } : DevSt).maint = .rom := by decide +kernel

/-- States and operands that meet hypotheses of `ReadServicesAnswer`. -/
theorem wit_ReadServicesAnswer :
    Served 0x10 (req 0x10 []) [] (lone 0x10 []) ∧ Served 0x11 (req 0x11 [7, 0, 0, 0]) [] (lone 0x11 [7, 0, 0, 0]) ∧
    Served 0x12 (req 0x12 []) [] (lone 0x12 []) ∧
    Served 0x13 (req 0x13 (leBytes 2 0 ++ leBytes 2 256)) [] (lone 0x13 (leBytes 2 0 ++ leBytes 2 256)) ∧
    Served 0x20 (req 0x20 [7, 0, 0, 0]) [] (lone 0x20 [7, 0, 0, 0]) ∧ Served 0xD0 (req 0xD0 []) [] (lone 0xD0 []) ∧
    Served 0x50 (req 0x50 (leBytes 2 0 ++ leBytes 2 1000)) [] (lone 0x50 (leBytes 2 0 ++ leBytes 2 1000)) ∧
    Served 0x51 (req 0x51 []) [] (lone 0x51 []) ∧
    Served 0x61 (req 0x61 (leBytes 2 0 ++ leBytes 2 2048)) [] (lone 0x61 (leBytes 2 0 ++ leBytes 2 2048)) ∧
    Served 0x70 (req 0x70 (leBytes 4 0x07020000)) [] (lone 0x70 (leBytes 4 0x07020000)) ∧
    (paramItem 0x07020000).isSome = true ∧ isBlock 7 = true ∧
    Served 0x38 (req 0x38 ([1, 0, 0, 0] ++ leBytes 4 0 ++ leBytes 4 4072)) [] (lone 0x38 ([1, 0, 0, 0] ++ leBytes 4 0 ++ leBytes 4 4072)) :=
  by and_intros <;> first | decide +kernel | exact served_of (by decide +kernel)

/-- States and operands that meet hypotheses of `RecordServicesAnswer`. -/
theorem wit_RecordServicesAnswer :
    Served 0x80 (req 0x80 []) [] (lone 0x80 []) ∧
    Served 0x81 (req 0x81 ([3, 0, 0, 0] ++ leBytes 4 0 ++ leBytes 4 63)) [] (lone 0x81 ([3, 0, 0, 0] ++ leBytes 4 0 ++ leBytes 4 63)) ∧
    Served 0x91 (req 0x91 [0, 63, 0, 0]) [] (lone 0x91 [0, 63, 0, 0]) ∧ Served 0xA0 (req 0xA0 [63, 0, 0, 0]) [] (lone 0xA0 [63, 0, 0, 0]) ∧
    Served 0xB0 (req 0xB0 (leBytes 2 3840 ++ leBytes 2 256)) [] (lone 0xB0 (leBytes 2 3840 ++ leBytes 2 256)) ∧
    Served 0xC2 (req 0xC2 []) [] (lone 0xC2 []) :=
  by and_intros <;> first | decide +kernel | exact served_of (by decide +kernel)

def hash : List Byte := zeros 32
def commit (fl : Nat) (auth : List Byte) : List Byte := hash ++ leBytes 4 fl ++ auth
def staged (h : List Byte) (s : State) : State := { s with cfg := { s.cfg with staging := some ⟨4, [(0, 1)], true, h⟩ } }
def checks : State := lone 0x33 [] .configure
def commits (fl : Nat) (auth : List Byte) : State := lone 0x34 (commit fl auth) .configure
/-- States and operands that meet hypotheses of `CheckAndCommitJudge`. -/
theorem wit_CheckAndCommitJudge :
    Served 0x33 (req 0x33 []) [] checks ∧ checks.cfg.admission = none ∧ stagingEnded checks.cfg.staging = false ∧
    Served 0x33 (req 0x33 []) [] (staged hash checks) ∧ (staged hash checks).cfg.admission = none ∧
    Served 0x34 (req 0x34 (commit 0 (zeros 32))) [] (commits 0 (zeros 32)) ∧ (commits 0 (zeros 32)).cfg.admission = none ∧
    stagingEnded (commits 0 (zeros 32)).cfg.staging = false ∧
    Served 0x34 (req 0x34 (commit 0 (zeros 32))) [] (staged [1] (commits 0 (zeros 32))) ∧
    Served 0x34 (req 0x34 (commit 0 (zeros 32))) [] (staged hash (commits 0 (zeros 32))) ∧
    (staged hash (commits 0 (zeros 32))).authorised hash false (zeros 32) = true ∧
    Served 0x34 (req 0x34 (commit 1 (zeros 32))) [] (staged hash (commits 1 (zeros 32))) ∧
    (staged hash (commits 1 (zeros 32))).authorised hash true (zeros 32) = false ∧
    bench.commitKeyState = 0 :=
  by and_intros <;> first | decide +kernel | exact served_of (by decide +kernel)

/-- Word 1280 programmed; the region's seal programmed too. -/
def keyFuses (more : Tab ShadowWord) : State :=
  { bench with ros := { bench.ros with shadow := (1280, ⟨9, true, false, false⟩) :: more } }

/-- States and operands that meet hypotheses of `CheckAndCommitJudge`. -/
theorem wit_CommitAuthorisation :
    bench.commitKeyState = 0 ∧ (keyFuses []).commitKeyState = 1 ∧ (keyFuses [(3583, ⟨1, true, false, false⟩)]).commitKeyState = 2 := by
  decide +kernel

def dark : State := { bench with pwr := { bench.pwr with domains := [0] } }
def xspi : State := { bench with host := { bench.host with iface := .xspi } }

/-- States and operands that meet hypotheses of `TransactionsHeardAndSwitched`. -/
theorem wit_TransactionNotHeard :
    dark.on 8 = false ∧ xspi.on 8 = true ∧ xspi.clocked = true ∧ xspi.host.iface = .xspi ∧ (⟨true, false⟩ : Txn).xspiOk = false := by
  decide +kernel

/-- The step of reading the status in state RUN: its state meets the invariant and its step goes on. -/
theorem wit_StepsKeepInvariant :
    Inv { State.reset with pending := [.readStatus txn] } ∧
    step { State.reset with pending := [.readStatus txn] } = .next (after (.readStatus txn) State.reset) :=
  ⟨⟨by unfold TagsOk; decide +kernel, (fun y hy => by cases hy), (fun y hy => by cases hy), by unfold FusesOk; decide +kernel,
    fun st m r x h => by cases h⟩, by rfl⟩

/-- States and operands that meet hypotheses of `FusesStayProgrammed`. -/
theorem wit_FusesStayProgrammed :
    step { State.reset with pending := [.readStatus txn] } = .next (after (.readStatus txn) State.reset) ∧
    (State.reset.ros.fuses.getD 1022 {}).prog = true := ⟨by rfl, by decide +kernel⟩

/-- States and operands that meet hypotheses of `OneOpenRecordEach`. -/
theorem wit_OneOpenRecordEach :
    RecordsOk (bench.raise 14 2 0 whoDev) ∧ (bench.raise 14 2 0 whoDev).oxb.openRecs ≠ [] ∧
    step { bench.raise 14 2 0 whoDev with pending := [.readStatus txn] } =
      .next (after (.readStatus txn) (bench.raise 14 2 0 whoDev)) := ⟨by unfold RecordsOk; decide +kernel, by decide +kernel, by rfl⟩

/-- States and operands that meet hypotheses of `PairsResetAndRestore`. -/
theorem wit_MemoryGuardsAndEcc :
    bench.on 9 = true ∧ bench.on 10 = true ∧ bench.on 7 = true ∧ bench.on 11 = true ∧ bench.inUse 0 = true ∧
    bench.inUse 200 = false := by decide +kernel

def busy (s : State) : State := { s with cfg := { s.cfg with admission := some ⟨4, false, [], default, default⟩ } }
def data : List Byte := leBytes 4 2 ++ zeros 4 ++ [5, 6]

/-- States and operands that meet hypotheses of `StagingOpensAndFills and StagingEndsAndAborts`. -/
theorem wit_StagingWhileAdmissionRuns :
    Served 0x31 (req 0x31 data) [] (busy (lone 0x31 data)) ∧ (busy (lone 0x31 data)).cfg.admission.isSome = true ∧
    Served 0x35 (req 0x35 []) [] (busy (lone 0x35 [])) ∧ (busy (lone 0x35 [])).cfg.admission.isSome = true :=
  by and_intros <;> first | decide +kernel | exact served_of (by decide +kernel)

def unitAsked : State := (lone 0x90 [1, 0, 0, 0]).setCell .a 0 { st := .run }

/-- States and operands that meet hypotheses of `LongServicesWait`. -/
theorem wit_UnitInUse :
    Served 0x90 (req 0x90 [1, 0, 0, 0]) [] unitAsked ∧ unitAsked.rif.selfTest = none ∧ unitAsked.unitInUse 1 0 = true :=
  by and_intros <;> first | decide +kernel | exact served_of (by decide +kernel)

/-- States and operands that meet hypotheses of `SlicesCoverageAndCalibration`. -/
theorem wit_SliceOutsideItsSlot :
    ({ bench.time with slotInTick := 2 } : TimeSt).slotInTick ≠ 1 := by decide +kernel

def flushing : State :=
  { bench with oxb := { bench.oxb with running := some .full }, host := { bench.host with waiting := [⟨req 0x82 [], .oxbFlush⟩] } }

/-- States and operands that meet hypotheses of `RecordsAndFlushes`. -/
theorem wit_FullFlushAnswers :
    flushing.oxb.running = some .full ∧ flushing.host.queue = [] ∧ flushing.oxb.storeFail = none ∧ flushing.oxb.trigger = none ∧
    flushing.oxb.mram.nextSeq < 2 ^ 32 ∧ (∃ w ∈ flushing.host.waiting, w.on = .oxbFlush) := by decide +kernel

/-- States and operands that meet hypotheses of `SignatureMismatchCount`. -/
theorem wit_SignatureCountAtItsLimit :
    2 ≤ ((bench.setCell .a 0 { sigc := 2 }).cell .a 0).sigc ∧ (((bench.setCell .a 0 { sigc := 1 }).cell .a 0).sigc < 2) := by
  decide +kernel

end H1

/-! ### Fuse regions -/

namespace H2

/-- In RESET with RESET_N high, before the sensing; only the region FT has programmed words. -/
def before (fs : Tab FuseWord) : State :=
  { State.reset with
    ros := { State.reset.ros with fuses := fs }, dev := { State.reset.dev with released := true },
    pwr := { State.reset.pwr with domains := [0, 1, 2, 3, 4, 5, 6, 9, 10, 11] }, clk := { pllLocked := true } }
def held (h r w : Nat) : State := { before [] with dev := { (before []).dev with hold := h, holdRegion := r, holdWord := w } }
def sealBad : State := before [(3648, ⟨1, true⟩), (3663, ⟨0xA504000000000001, true⟩)]
def wordBad : List (Nat × Sense) := [(3650, .equal .uncorrectable)]

/-- States and operands that meet hypotheses of `HoldReasonRegister`. -/
theorem wit_HoldReasonRegister :
    (held 1 4 0xFFF).dev.st = .reset ∧ (held 1 4 0xFFF).dev.hold = 1 ∧ (held 1 4 0xFFF).dev.holdRegion < 16 ∧
    (held 1 4 0xFFF).dev.holdWord < 4096 ∧
    sealBad.dev.st = .reset ∧ sealBad.dev.released = true ∧ sealBad.dev.hold = 0 ∧ sealBad.ros.sensed = false ∧
    (after (.rosSensing wordBad) sealBad).sealed 4 = true ∧
    (∀ e ∈ [0, 2, 4], e < 4 → (after (.rosSensing wordBad) sealBad).integrityFailure e = none) ∧ 3650 ∈ regionRange 4 ∧
    ((after (.rosSensing wordBad) sealBad).shadow 3650).bad = true ∧
    (∀ k ∈ regionRange 4, k < 3650 → ((after (.rosSensing wordBad) sealBad).shadow k).bad = false) ∧
    (after (.rosSensing []) sealBad).sealed 4 = true ∧
    (∀ e ∈ [0, 2, 4], e < 4 → (after (.rosSensing []) sealBad).integrityFailure e = none) ∧
    (∀ k ∈ regionRange 4, ((after (.rosSensing []) sealBad).shadow k).bad = false) ∧ regionWords 4 = some (3648, 3662, 3663) ∧
    ((after (.rosSensing []) sealBad).shadow 3663).val.toNat / 2 ^ 48 = 0xA504 ∧
    ((after (.rosSensing []) sealBad).shadow 3663).val.toNat ≠ sealValue 4 ((after (.rosSensing []) sealBad).regionCrc 4) := by
  and_intros <;> decide +kernel

end H2

/-! ### Test pulses (channel 1 of the bench, its slot 5 frames before) -/

namespace H3

def runP : RunCfg := { wRun with pulses := [(1, 0, 5), (5, 0, 5), (6, 0, 0)] }
def onP : State := { bench with cfg := { bench.cfg with running := some runP } }
def ready (v : View) : View := { v with req := true, ready := true, taken := true, rb0 := true, rb1 := true }
def both (c : Nat) (f : View → View) (s : State) : State := (s.setView .a c (f (s.view .a c))).setView .b c (f (s.view .b c))
def rq : State :=
  (List.range 7).foldl (fun s c => both c ready s) ((onP.setCell .a 0 { st := .run }).setCell .b 0 { st := .run })
def seen (cls : Nat) (a b mid : Bool) (t : Nat) : Seen :=
  { at_ := t, valid := true, cls := cls, icode := 30, swa := a, swb := b, mid := mid, synced := true }
def pre (t : Nat) : List Seen := List.replicate 64 (seen 1 true true true t)
def pulse (num st : Nat) (done judged : Bool) : PulseRun := ⟨st, num, 4, 100, true, true, true, pre st, pre (st + 2), done, judged⟩

/-- A pulse under evaluation, with this sample read back. -/
def at_ (num : Nat) (x : Seen) : State :=
  both 1 (fun v => { v with pulse := some (pulse num 998 false false), lastSample := x, missA := 3, missB := 3 }) rq
/-- Channel 2 reads this sample. -/
def other (x : Seen) (s : State) : State := both 2 (fun v => { v with lastSample := x }) s

/-- What every clause about an evaluation asks. -/
def evaluates (sd : Side) (s : State) (num : Nat) : Bool :=
  let v := s.view sd 1
  let r := pulse num 998 false false
  v.pulse == some r && !r.evalDone && s.time.tick == r.start + r.widthUs / 50 && s.time.slotInTick == 1 && r.reqOk &&
     (r.pre.getD 1 {}).clean r.start && v.lastSample.clean s.time.tick && (r.pre.getD 1 {}).swa &&
    (r.pre.getD 1 {}).swb && (r.pre.getD 1 {}).cls == clON && r.mode != mTEST_SRC

/-- States and operands that meet hypotheses of `TestPulses`. -/
theorem wit_TestPulsesEvaluated :
    (∀ sd ∈ [Side.a, Side.b],
      (∀ x ∈ [seen 1 true true true 1000, seen 1 false true true 1000, seen 1 false false true 1000, seen 0 false true true 1000,
        seen 0 false true false 1000], evaluates sd (at_ 0 x) 0 = true) ∧
      (∀ x ∈ [seen 0 true false false 1000, seen 0 true false true 1000, seen 1 true false true 1000], evaluates sd (at_ 1 x) 1 = true) ∧
      evaluates sd (other { seen 1 true true true 1000 with icode := 60 } (at_ 0 (seen 1 false true true 1000))) 0 = true ∧
      (at_ 0 (seen 1 false true true 1000)).currentPartner 1 (pre 998) ((at_ 0 (seen 1 false true true 1000)).samples sd) = none ∧
      ((other { seen 1 true true true 1000 with icode := 60 } (at_ 0 (seen 1 false true true 1000))).currentPartner 1 (pre 998)
        ((other { seen 1 true true true 1000 with icode := 60 } (at_ 0 (seen 1 false true true 1000))).samples sd)).isSome = true) := by
  decide +kernel

/-- The state of a sample after the pulse. -/
def past (x : Seen) (judged : Bool) : State :=
  both 1 (fun v => { v with
    pulse := some { pulse 0 996 true judged with eval := (pre 998).set 2 (seen 0 false true true 998) }, lastSample := x,
    foreign := [(2, 1)] }) rq

/-- States and operands that meet hypotheses of `TestPulses`. -/
theorem wit_TestPulsesAround :
    rq.baseFrame.isSome = true ∧ rq.holderOf 1 = 1 ∧ rq.pulseOffset 1 = some 0 ∧ rq.time.slotInTick = 1 ∧
    (∀ sd ∈ [Side.a, Side.b], ∀ s ∈ [past (seen 1 true true true 1000) false, past (seen 1 true true true 1000) true,
        other (seen 1 true true true 1000) (past (seen 1 true true true 1000) true)],
      (s.view sd 1).pulse.any (fun r => r.evalDone && s.time.tick == r.start + r.widthUs / 50 + 2 && r.reqOk) = true ∧
      s.time.slotInTick = 1 ∧ (s.view sd 1).lastSample.clean s.time.tick = true) ∧
    (∀ sd ∈ [Side.a, Side.b], let s := other (seen 1 true true true 1000) (past (seen 1 true true true 1000) true)
      (s.view sd 1).pulse.any (fun r => r.judged && s.foreignPulse 1 2 r.pre r.eval (s.samples sd)) = true ∧
        1 ≤ (s.view sd 1).foreign.getD 2 0) ∧
    (rq.chanEntry 1).isPulsed = true ∧ 4 ≤ ((rq.setView .a 1 { missA := 4 }).view .a 1).missA ∧
    4 ≤ ((rq.setView .a 1 { missB := 4 }).view .a 1).missB ∧ (rq.view .a 1).missA < 4 ∧ (rq.view .a 1).missB < 4 := by
  and_intros <;> decide +kernel

end H3

/-! ### Connections of Weir (connection 0 of the bench, on port 0) -/

namespace H4

def nb : State := { bench2 with params := { bench2.params with ports := [{ mode := 1, ip := 0x0A000001, pauseRx := 1 }, { mode := 3 }, {}] } }
def cn (c : Conn) (s : State) : State := (s.setConn .a 0 c).setConn .b 0 c
def win (d : Descriptor) (s : State) : State := (s.setWindow .a 0 [d]).setWindow .b 0 [d]
def ses : Session := ⟨7, 8, 2, 0, true⟩
def rc : Conn := { st := .run, session := some ses, vt := 5, vr := 6, echoValid := true, wdStart := 900 }
def desc (ft g : Nat) (b : List Byte) : Descriptor := ⟨ft, g, b, 0x112233, none, 999, 3, true, 0, none⟩
def pdu (p : DataPdu) (vsn : Nat) : List Byte :=
  withCrcs 2 (p.body 2) (p.body 2) (virtualPrefix 77 7 8 false vsn) (virtualPrefix 77 7 8 false vsn)
def good : DataPdu := ⟨0, 7, 5, false, true, 0x5A⟩
def dd (b : List Byte) : Descriptor := desc ftDATA2 2 b
def on (d : Descriptor) : State := win d (cn rc nb)
/-- Side A's CRC wrong. -/
def badA : List Byte := (pdu good 7).set 16 0

/-- What every clause about a data PDU asks on side `sd`. -/
def hears (sd : Side) (d : Descriptor) (s : State) : Bool :=
  s.sideRuns sd && s.dev.st.connects && s.window sd 0 == [d] && d.captured && d.triedAt != some s.time.tick &&
    (d.ftype == ftDATA1 || d.ftype == ftDATA2)
/-- The PDU's connection is in use on this port, open or in RUN, with this session. -/
def inUse (sd : Side) (d : Descriptor) (x : Session) (s : State) : Bool :=
  let n := (readData d.gen d.bytes).handle
  hears sd d s && decide (n ∈ s.connsInUse) && (s.connEntry n).port == 0 &&
    ((s.conn sd n).st == .opening || (s.conn sd n).st == .run) && (s.conn sd n).session == some x
def step_ (sd : Side) (d : Descriptor) (s : State) : Nat :=
  let p := readData d.gen d.bytes
  (p.seq + 65536 - (s.conn sd p.handle).vr.toNat % 65536) % 65536
def crcOk (sd : Side) (d : Descriptor) (x : Session) (s : State) : Bool :=
  let n := (readData d.gen d.bytes).handle
  ownCrcOk d.gen (sd == .a) (virtualPrefix (s.connEntry n).uid x.nO.toNat x.nR.toNat (!x.opener)
    ((s.conn sd n).vr + BitVec.ofNat 32 (step_ sd d s)).toNat) (dataCrcOff d.gen) d.bytes
def reservedOk (sd : Side) (d : Descriptor) (s : State) : Bool :=
  dataReservedOk d.gen d.bytes (s.connEntry (readData d.gen d.bytes).handle).inBits
def echoed (sd : Side) (d : Descriptor) (s : State) : Bool :=
  let p := readData d.gen d.bytes
  p.echoValid && decide (((s.conn sd p.handle).vt.toNat + 65536 - p.echo) % 65536 * (s.connEntry p.handle).period ≤ (s.connEntry p.handle).wd)

/-- A data PDU: of no connection, of another generation, repeated, too far ahead, with a wrong CRC, with a set reserved bit, and accepted
with and without a fresh echo. -/
theorem wit_DataPdus :
    ∀ sd ∈ [Side.a, Side.b],
      (hears sd (dd (pdu { good with handle := 5 } 7)) (on (dd (pdu { good with handle := 5 } 7))) = true ∧
        5 ∉ (on (dd (pdu { good with handle := 5 } 7))).connsInUse) ∧
      (∀ d ∈ [desc ftDATA1 1 (pdu good 7), dd (pdu { good with seq := 6 } 6), dd (pdu { good with seq := 5 } 6), dd badA,
        dd ((pdu good 7).set 22 0), dd (pdu { good with data := 256 } 7), dd (pdu good 7), dd (pdu { good with echo := 4000 } 7)],
        inUse sd d ses (on d) = true) ∧
      step_ sd (dd (pdu { good with seq := 6 } 6)) (on (dd (pdu { good with seq := 6 } 6))) = 0 ∧
      255 < step_ sd (dd (pdu { good with seq := 5 } 6)) (on (dd (pdu { good with seq := 5 } 6))) ∧
      (∀ d ∈ [dd badA, dd ((pdu good 7).set 22 0), dd (pdu { good with data := 256 } 7), dd (pdu good 7), dd (pdu { good with echo := 4000 } 7)],
        step_ sd d (on d) = 1) ∧
      (crcOk .a (dd badA) ses (on (dd badA)) = false ∧ crcOk .b (dd ((pdu good 7).set 22 0)) ses (on (dd ((pdu good 7).set 22 0))) = false) ∧
      (∀ d ∈ [dd (pdu { good with data := 256 } 7), dd (pdu good 7), dd (pdu { good with echo := 4000 } 7)], crcOk sd d ses (on d) = true) ∧
      reservedOk sd (dd (pdu { good with data := 256 } 7)) (on (dd (pdu { good with data := 256 } 7))) = false ∧
      (∀ d ∈ [dd (pdu good 7), dd (pdu { good with echo := 4000 } 7)], reservedOk sd d (on d) = true) ∧
      echoed sd (dd (pdu good 7)) (on (dd (pdu good 7))) = true ∧
      echoed sd (dd (pdu { good with echo := 4000 } 7)) (on (dd (pdu { good with echo := 4000 } 7))) = false := by
  decide +kernel

/-- The watchdog at its bound and one tick before; the CRC rate at three earlier rejections and at none. -/
theorem wit_WatchdogAndCrcRate :
    ((cn { rc with wdStart := 500 } nb).conn .a 0).st = .run ∧ (cn { rc with wdStart := 500 } nb).window .a 0 = [] ∧
    ((cn { rc with wdStart := 500 } nb).conn .a 0).wdStart + 5 * ((cn { rc with wdStart := 500 } nb).connEntry 0).wd ≤ 1000 ∧
    1000 < ((cn { rc with wdStart := 501 } nb).conn .a 0).wdStart + 5 * ((cn { rc with wdStart := 501 } nb).connEntry 0).wd ∧
    inUse .a (dd badA) ses (win (dd badA) (cn { rc with rejects := [998, 999, 1000] } nb)) = true ∧
    step_ .a (dd badA) (win (dd badA) (cn { rc with rejects := [998, 999, 1000] } nb)) = 1 ∧
    crcOk .a (dd badA) ses (win (dd badA) (cn { rc with rejects := [998, 999, 1000] } nb)) = false ∧
    ([998, 999, 1000].filter (fun r => decide (nb.time.tick < r + 20000))).length = 3 ∧ rc.rejects.length < 3 := by
  decide +kernel

def announce : List Byte := leBytes 8 0x1234 ++ [1, 2, 3, 4] ++ [2, 0, 0, 0]
def aD (b : List Byte) : Descriptor := desc ftANNOUNCE 0 b
def cst (st : ConnState) : State := cn { st := st, since := 900, heardAt := some 990, partnerGens := 2 } nb

/-- What every clause about an announce asks. -/
def announced (sd : Side) (b : List Byte) (s : State) : Bool :=
  s.sideRuns sd && s.dev.st.connects && s.window sd 0 == [aD b] && (aD b).captured && (aD b).triedAt != some s.time.tick &&
    leAt b 13 3 == 0 && decide (leAt b 12 1 < 4) && decide (0 ∈ s.connsInUse) && (s.connEntry 0).port == 0 && (s.partnerOf 0).inUse &&
    (s.partnerOf 0).identity == leAt b 0 8 && decide (s.partnerOf 0 ∈ s.runCont.partners)
def usable (b : List Byte) (s : State) : Bool :=
  let gens := leAt b 12 1
  !s.opener 0 || ((s.connEntry 0).m2 && (s.partnerOf 0).m2 && gens.testBit 1) ||
    ((s.connEntry 0).m1 && (s.partnerOf 0).m1 && gens.testBit 0 && decide ((s.connEntry 0).inBits ≤ 32 ∧ (s.connEntry 0).outBits ≤ 32))

/-- States and operands that meet hypotheses of `ConnectionsOpen`. -/
theorem wit_Announces :
    (∀ sd ∈ [Side.a, Side.b], ∀ st ∈ [ConnState.absent, .announced, .opening, .run, .lost, .mismatch, .refused],
      ∀ b ∈ [announce, announce.set 9 7, announce.set 12 0], announced sd b (win (aD b) (cst st)) = true) ∧
    (nb.partnerOf 0).check = (announce.drop 8).take 4 ∧ (nb.partnerOf 0).check ≠ ((announce.set 9 7).drop 8).take 4 ∧
    usable announce nb = true ∧ usable (announce.set 12 0) nb = false ∧ nb.opener 0 = true := by decide +kernel

/-- States and operands that meet hypotheses of `ConnectionsOpen`. -/
theorem wit_OpenSends :
    (∀ sd ∈ [Side.a, Side.b], ∀ s ∈ [cst .announced, cn { st := .announced, since := 900 } nb], s.sideRuns sd = true ∧
      s.dev.st.connects = true ∧ 0 ∈ s.connsInUse ∧ s.opener 0 = true ∧ s.dev.st.opens = true ∧ (s.conn sd 0).st = .announced ∧
      (s.conn sd 0).since < s.time.tick) ∧
    (cst .announced).openGen .a 0 = some 2 ∧ (cn { st := .announced, since := 900 } nb).openGen .a 0 = none := by decide +kernel

def resp : State := { nb with ros := { nb.ros with shadow := nb.ros.shadow.put 0 ⟨0xFFFFFF, true, false, false⟩ } }
def ctl (g : Nat) (p : CtlPdu) (fromO : Bool) : List Byte := withCrcs g p.body p.body (ctlPrefix 77 fromO) (ctlPrefix 77 fromO)
def opn : CtlPdu := ⟨0xFFFF, 9, 0x1234, 55, 0, 8, 8, 20, 0⟩
def oD (p : CtlPdu) : Descriptor := desc ftOPEN 2 (ctl 2 p true)
def openOn (p : CtlPdu) : State := win (oD p) (cn { st := .announced, partnerGens := 2 } resp)

/-- States and operands that meet hypotheses of `ConnectionsOpen`. -/
theorem wit_OpensHeard :
    ∀ sd ∈ [Side.a, Side.b], ∀ p ∈ [opn, { opn with period := 21 }],
      (openOn p).sideRuns sd = true ∧ (openOn p).dev.st.connects = true ∧ (openOn p).window sd 0 = [oD p] ∧ (oD p).captured = true ∧
      (oD p).triedAt ≠ some (openOn p).time.tick ∧ (oD p).tried = 0 ∧ ctlReservedOk ftOPEN (oD p).bytes = true ∧
      ((((openOn p).connsInUse.filter (fun m => ((openOn p).connEntry m).port == 0 &&
        ((openOn p).partnerOf m).identity == (readCtl (oD p).bytes).senderId && !(openOn p).opener m)).take 64).find?
          (fun m => (openOn p).ctlCrcOk sd m true (oD p))) = some 0 ∧
      ((openOn p).refuseReason sd 0 2 (readCtl (oD p).bytes)).isSome = (p == { opn with period := 21 }) := by decide +kernel

def ackP : CtlPdu := ⟨0, 4, 0x1234, 55, 66, 8, 8, 20, 0⟩
def pend : Conn := { st := .opening, pendingOpen := some ⟨55, 2⟩, sentAt := 990 }
def ackD : Descriptor := desc ftACK 2 (ctl 2 ackP false)
def refD : Descriptor := desc ftREFUSE 2 (ctl 2 { ackP with nR := 0, reason := 3 } false)

/-- States and operands that meet hypotheses of `ConnectionsOpen`. -/
theorem wit_AnswersHeard :
    ∀ sd ∈ [Side.a, Side.b], ∀ d ∈ [ackD, refD], let s := win d (cn pend nb)
      s.sideRuns sd = true ∧ s.dev.st.connects = true ∧ s.window sd 0 = [d] ∧ d.captured = true ∧ d.triedAt ≠ some s.time.tick ∧
      (readCtl d.bytes).handle = 0 ∧ 0 ∈ s.connsInUse ∧ (s.conn sd 0).st = .opening ∧ (s.conn sd 0).session = none ∧
      (s.conn sd 0).pendingOpen = some ⟨55, 2⟩ ∧ (s.connEntry 0).port = 0 ∧ (s.partnerOf 0).identity = (readCtl d.bytes).senderId ∧
      (55 : BitVec 32) = BitVec.ofNat 32 (readCtl d.bytes).nO ∧ d.gen = 2 ∧ s.ctlCrcOk sd 0 false d = true ∧
      ctlReservedOk d.ftype d.bytes = true := by decide +kernel

/-- States and operands that meet hypotheses of `ConnectionsOpen`. -/
theorem wit_OpeningAndAnnounceTimes :
    ((cn pend nb).conn .a 0).st = .opening ∧ ((cn pend nb).conn .a 0).sentAt + 2000 ≤ 2990 ∧ 2989 < ((cn pend nb).conn .a 0).sentAt + 2000 ∧
    ((cst .mismatch).conn .a 0).heardAt = some 990 ∧ ((cst .mismatch).conn .a 0).st = .mismatch ∧
    (∀ n ∈ [2989, 2990, 6989, 6990], let s : State := { nb with time := { nb.time with tick := n } }
      s.sideRuns .a = true ∧ s.dev.st.connects = true) ∧ 990 + 6000 ≤ 6990 ∧ 6989 < 990 + 6000 := by decide +kernel

end H4

/-! ### Whole-block statements -/

namespace H5

def goes (c : Instr) (s : State) : Bool :=
  match exec c s with
  | .next _ => true
  | _ => false

theorem after_of {c : Instr} {s : State} (h : goes c s = true) : exec c s = .next (after c s) := by
  unfold goes at h
  unfold after
  split at h
  · rename_i t ht
    rw [ht]
  · cases h

def armed : State := (bench.setDie 0 { alive := true }).setChan 1 { synced := true, nLast := 100, mode := 4, prevOnA := true, armA := true }
/-- A RUN frame of slot 101 with an ON token in field A. -/
def onFrame : BitVec 40 := commandFrame 1 true (101 % 16) (token .a 101 true 1) (token .b 101 false 1) 0
def smp : LandSample := ⟨20000, 20000, 10000, 40, 24000⟩

/-- States and operands that meet hypotheses of `SwitchesCloseByTokensAlone`. -/
theorem wit_SwitchesCloseByTokensAlone :
    exec (.fdRunFrame 1 onFrame smp) armed = .next (after (.fdRunFrame 1 onFrame smp) armed) ∧ switchOf armed 1 .a = false ∧
    switchOf (after (.fdRunFrame 1 onFrame smp) armed) 1 .a = true := ⟨after_of (by decide +kernel), by decide +kernel, by decide +kernel⟩

def verified : State := { bench with dev := { bench.dev with st := .verify, verifyCause := .restart } }

/-- States and operands that meet hypotheses of `RunEnteredAtVerifyExitOrTick`. -/
theorem wit_RunEnteredAtVerifyExitOrTick :
    exec .verifyExit verified = .next (after .verifyExit verified) ∧ (after .verifyExit verified).dev.st = .run ∧
    verified.dev.st ≠ .run := ⟨after_of (by decide +kernel), by decide +kernel, by decide +kernel⟩

/-- Eight weak reads and the target; nine weak reads. -/
theorem wit_PulsesFollowMarginReads : (8 : Nat) ≤ 8 ∧ pulseOutcome 0 (List.replicate 8 .weak ++ [.target]) = some (8, true) ∧
    pulseOutcome 0 (List.replicate 9 .weak) = some (8, false) := by decide +kernel

/-- States and operands that meet hypotheses of `WriteReqAcceptedOrRejected`. -/
theorem wit_RejectionChangesNothingElse : State.reset.dev.loaded = false := by decide +kernel

end H5

/-! ### Live writes, damaged records, the command register, and what the supervision sees -/

namespace H6

/-- A FAULT_MASK of block 14, and one of another session. -/
def msg (tag session : Nat) : List Byte :=
  let pl := [14, 0, 0, 0] ++ leBytes 4 12
  let b := leBytes 2 (16 + pl.length) ++ [byte tag, 2] ++ leBytes 2 0x22 ++ zeros 2 ++ leBytes 4 session ++ zeros 4 ++ pl
  b.take 12 ++ leBytes 4 (crc32Ether b) ++ b.drop 16
def held (m : List Byte) : State := { bench with host := { bench.host with queue := bench.host.queue ++ [requestOf m bench] } }

/-- States and operands that meet hypotheses of `WriteReqAcceptedOrRejected` and `FaultAckAndMask`. -/
theorem wit_LiveWrites :
    ((held (msg 3 5)).liveWrite (requestOf (msg 3 5) bench)).isSome = true ∧
    ((held (msg 3 6)).liveWrite (requestOf (msg 3 6) bench)).isNone = true ∧
    (requestOf (W1.msg 3) bench).cmd ≠ 0x22 ∧ (requestOf (W1.msg 3) bench).cmd ≠ 0x71 ∧
    bench.host.paused = false ∧ bench.supRuns = true ∧ (requestOf (msg 3 5) bench).cmd = 0x22 ∧
    sessionB (requestOf (msg 3 5) bench) bench = true ∧ bench.stateRefuses 0x22 = none ∧
    (requestOf (msg 3 5) bench).captured = false := by
  decide +kernel

def broken : OxbRec := { code := 5, damaged := some (zeros 64) }
def readsBroken : State :=
  { lone 0x81 ([1, 0, 0, 0] ++ leBytes 4 0 ++ leBytes 4 1) with
    oxb := { bench.oxb with mram := { tail := [(0, { code := 5 })], nextSeq := 1 } } }
def hurt : RecordDamage := ⟨1, 0, 0, zeros 64⟩

/-- States and operands that meet hypotheses of `RecordServicesAnswer`. -/
theorem wit_DamagedRecordRead :
    frontB (req 0x81 ([1, 0, 0, 0] ++ leBytes 4 0 ++ leBytes 4 1)) [] readsBroken = true ∧ readsBroken.stateRefuses 0x81 = none ∧
    readsBroken.oxb.storeFail ≠ some 0x10 ∧
    ((readsBroken.takeDamage [hurt]).oxbRecords 1 0 1).filter (fun x => x.damaged.isSome) = [broken] ∧
    (readsBroken.oxbRecords 1 0 1).filter (fun x => x.damaged.isSome) = [] := by
  decide +kernel

/-- States and operands that meet hypotheses of `RunSafeRestart`: a RUN accepted in VERIFY. -/
theorem wit_RunAcceptedInVerify :
    ({ req 0x40 [] with st := 5 } : Request).st = DevState.verify.code ∧ ({ req 0x40 [] with st := 2 } : Request).st = DevState.boot.code ∧
    (req 0x40 []).st ≠ DevState.verify.code ∧ (req 0x40 []).st ≠ DevState.boot.code := by
  decide +kernel

def job : RosJob := ⟨.host, .program, 1300, 1300, 5, false⟩
def fusing : State := withRosW { bench.ros with busy := true, running := some job } bench

/-- States and operands that meet hypotheses of `RosCommandRegister` and `FuseOperationsRun`. -/
theorem wit_RegisterAndOperations :
    fusing.ros.busy = true ∧ bench.ros.busy = false ∧ (0x00500514#64).toNat / 2 ^ 20 % 16 = 5 ∧ (0x514#64).toNat / 2 ^ 20 % 16 = 0 ∧
    bench.ros.running = none ∧ fusing.ros.running = some job ∧ fusing.ros.waiting = [] ∧ (8 : Nat) ≤ 8 := by
  decide +kernel

def holding : State :=
  { State.reset with dev := { State.reset.dev with released := true, hold := 3 }, pwr := { State.reset.pwr with holdPhase := some 349 } }
def gap : State := { holding with pwr := { holding.pwr with holdPhase := some 350 } }
def latched : State := { State.reset with ros := { State.reset.ros with fuses := [] }, pwr := { State.reset.pwr with latch := true } }
def warned (k : Option FlushKind) : State :=
  { bench with pwr := { bench.pwr with warning := some 1 }, oxb := { bench.oxb with running := k, frozen := true } }
def factory : State := { State.reset with dev := { State.reset.dev with st := .factoryTest } }

/-- States and operands that meet hypotheses of `ErrorPairCommands`, `ReleaseOfReset`, `PowerFailSequence` and `TapInstructions`: a hold
at the last ms of its third pulse and after it. -/
theorem wit_HoldsWarningsAndInjection :
    holding.dev.st = .reset ∧ holding.dev.hold ≠ 0 ∧ holding.holdPulse = true ∧ gap.holdPulse = false ∧ gap.errpAsserted = true ∧
    (∃ k < holding.dev.hold, 150 * k ≤ 349 ∧ 349 < 150 * k + 50) ∧
    latched.dev.st = .reset ∧ latched.dev.released = false ∧ (latched.ros.fuses.getD 3648 {}).prog = false ∧ latched.pwr.latch = true ∧
    bench.oxbRuns = true ∧ (warned (some .powerFail)).pwr.shed = false ∧ (warned none).oxb.running ≠ some .powerFail ∧
    factory.dev.st = .factoryTest ∧ factory.ros.jtagLocked = false ∧ (sourceOf bCLK 0).isSome = true ∧ bCLK ≠ bRIF ∧
    bench.dev.st ≠ .factoryTest := by
  decide +kernel

/-- States and operands that meet hypotheses of `FormsVerifiedAndVerifyEnds`: the other channel's verdict, all evaluators at work, and an
exit with the S3 mark, with and without a power-fail warning. -/
theorem wit_VerdictsAndMarks :
    (∀ e ∈ W10.w0.dev.formVerdict, e.2 = none) ∧ W9.w3.dev.formVerdict = [] ∧ W9.w3.dev.formOk.getD (1 - Side.ix .a) false = true ∧
    ({ W9.w3.dev with formVerdict := [(1, none)] } : DevSt).formVerdict = [(1 - Side.ix .a, none)] ∧
    ({ W9.w3.dev with loaded := false } : DevSt).loaded = false ∧
    (∀ p ∈ [bSA0, bSA1, bBR0, bBR1], (W9.w4.pair p).retired = false) ∧
    ({ W9.w6.dev with verifyCause := .start, s3InSafe := true } : DevSt).s3InSafe = true ∧
    W9.w6.isLive bPWR 0 0 = false ∧ (W9.w6.raise bPWR 0 0 whoDev).isLive bPWR 0 0 = true := by
  decide +kernel

def early (e : Bool) : State := bench.setPair 2 { wPair with monitor := [⟨495, 0, e⟩] }
def restoring : State := bench.setPair 2 { wPair with inReset := true, slot0 := { tick := some 995, closed := true } }

/-- States and operands that meet hypotheses of `PairsResetAndRestore`: a mark of the other time base, and closed slots. -/
theorem wit_MarksAndSlots :
    ((!(early true).oxb.mounted && (early true).dev.maint != .rom) = false) ∧
    (∀ m ∈ ((early true).pair 2).monitor, m.early ≠ false) ∧
    (∃ m ∈ ((early false).pair 2).monitor, m.early = false ∧ m.second ≤ 500 ∧ 500 < m.second + 10) ∧
    restoring.on 2 = true ∧ (restoring.pair 2).inReset = true ∧ (restoring.pair 2).retired = false ∧ restoring.pairs.moves = [] ∧
    ((restoring.pair 2).slot0.closed = true ∨ (restoring.pair 2).slot1.closed = true) := by
  decide +kernel

/-- States and operands that meet hypotheses of `PairsResetAndRestore`: an access inside and outside its initiator's rights at each
guard, and one that no guard sees. -/
theorem wit_GuardedAccesses :
    regionGuard .mramRest = none ∧
    (regionGuard (.channel .a) = some 0 ∧ (bench.rights bSA0 (.channel .a)).2 = true ∧ (bench.rights bBR0 (.channel .a)).2 = false) ∧
    (regionGuard (.channel .b) = some 1 ∧ (bench.rights bBR1 (.channel .b)).1 = true ∧ (bench.rights bSA1 (.channel .b)).1 = false) ∧
    (regionGuard .weirRest = some 2 ∧ (bench.rights bWEIR .weirRest).2 = true ∧ (bench.rights bSA0 .weirRest).2 = false) ∧
    (regionGuard .oxbBuffer = some 3 ∧ (bench.rights bOXB .oxbBuffer).1 = true ∧ (bench.rights bWEIR .oxbBuffer).1 = false) := by
  decide +kernel

def twice : State := bench.setCell .a 0 { st := .run, sigc := 2 }

/-- States and operands that meet hypotheses of `ReconciliationAndCellSources`, at the limit of two mismatches and below it. -/
theorem wit_SignatureSource :
    twice.inUse 0 = true ∧ 2 ≤ (twice.cell .a 0).sigc ∧ (twice.cell .b 0).sigc ≤ 1 ∧
    ((bench.setCell .b 255 { sigc := 1 }).cell .b 255).sigc ≤ 1 := by
  decide +kernel

/-- States and operands that meet hypotheses of `SignatureMismatchCount` and `EvaluationCompletes`. -/
theorem wit_RunsThatReconcile :
    ((W24.w11.dueRun .a 0).getD default).catchUp = false ∧ ((W24.w11.dueRun .b 0).getD default).catchUp = false ∧
    W24.w11.cellRuns .a 0 = true ∧ W24.w11.cellRuns .b 0 = true ∧
    ((W24.w11.dueRun .a 0).getD default).ver = (W24.w11.line 0).version .a := by
  decide +kernel

def undoing : State := { W15.w6 with hs := { inactive := 5, flipDue := true, before := some ⟨0, false, 10, 3⟩ } }

/-- States and operands that meet hypotheses of `BundleHandover` and `LiveCommitRuns`. -/
theorem wit_HandoverUndoes :
    undoing.hs.before = some ⟨0, false, 10, 3⟩ ∧ ({ W15.w6.host with paused := true } : HostSt).paused = true ∧
    certCells [] = ({ W15.runW with cells := [] } : RunCfg).cells := by
  decide +kernel

/-- A SYNC frame with counter n. -/
def sync (n : Nat) : BitVec 40 := commandFrame 2 true n 0 0 (n / 16 % 4096 * 2)
def die : State := (bench.setDie 0 { alive := true }).setChan 1 { synced := true, nLast := 100, mode := 4 }

/-- States and operands that meet hypotheses of `FieldDieTakesFrames`: SYNC at d = 1, 10, 0 and 11, and a RUN frame that starts a slice. -/
theorem wit_SyncSequence :
    (∀ n ∈ [100, 101, 110, 111], frBits (sync n) 39 38 = 2 ∧ cmdOk (sync n) = true ∧
      (cmdFcnt (sync n) + 16 - (die.chan 1).nLast.toNat % 16) % 16 = n - 100) ∧
    (die.die 0).alive = true ∧ (die.chan 1).synced = true ∧
    cmdTick (commandFrame 1 false 5 0 0 0x1800) = false ∧ 0x18 ≤ cmdSel (commandFrame 1 false 5 0 0 0x1800) := by
  decide +kernel

def lagging : State := { bench with field := { bench.field with pairViews := [(8 * 1 + bSA0, { frameAge := 20 })] } }.setCoupler 1 { step := 7 }

/-- States and operands that meet hypotheses of `StatusFramesAreTaken` and `FieldDetectors`: one pair has lost the coupler. -/
theorem wit_PairViews :
    bSA0 ∈ rolesOf .a ∧ bench.hardware bSA0 ∈ [2] ∧ lagging.pairLost .a 1 = true ∧ bench.pairLost .a 1 = false ∧
    (lagging.chanEntry 1).mode ≠ 0 ∧ (∀ role ∈ rolesOf .a, bench.field.pairViews.get? (8 * 1 + role) = none) := by
  decide +kernel

/-- States and operands that meet hypotheses of `TestPulses`: the entry of the pulse that starts. -/
theorem wit_PulseEntry : (H3.rq.pulseEntry 1).period = 100 ∨ (H3.rq.pulseEntry 1).period = 60 := by decide +kernel

def half : State := H4.cn { H4.rc with st := .run } (H4.nb)
def deaf : State := { half with pwr := { half.pwr with domains := [0, 1, 2, 3, 6, 7, 8, 9, 10, 11] } }
def frame (d : Nat) : TxFrame := ⟨.data, [1], [0], d⟩
def paused (d : Nat) : State := H4.nb.setPort 0 { linkUp := true, queue := [frame d], pause := some (1000 * H4.nb.nowUs) }

/-- States and operands that meet hypotheses of `TransmitPath` and `ReceivePath`: a half that channel B does not build, a frame whose
start falls on its deadline, and a frame cut by the loss of its link. -/
theorem wit_HalvesPausesAndCutFrames :
    half.sendsData .a 0 = true ∧ half.buildsData .a 0 = true ∧ deaf.sendsData .b 0 = true ∧
    ¬(deaf.buildsData .a 0 = true ∧ deaf.buildsData .b 0 = true) ∧
    ((paused 1000).port 0).queue = [frame 1000] ∧ ((paused 1000).port 0).wire = none ∧ ((paused 1000).port 0).linkUp = true ∧
    ((paused 1000).port 0).pauseDue = [] ∧ ((paused 1000).port 0).pause = some (paused 1000).nowNs ∧
    (frame 1000).deadline = (paused 1000).time.tick ∧
    (H4.nb.port 0).linkUp = false ∧ (H4.nb.params.port 0).mode ≠ 0 ∧ (H4.nb.params.port 2).mode = 0 := by
  decide +kernel

def atEdge : State := H4.cn { H4.rc with wdStart := 500 } H4.nb
def opening : State := H4.win (H4.dd H4.badA) (H4.cn { H4.rc with st := .opening, rejects := [998, 999, 1000] } H4.nb)

/-- States and operands that meet hypotheses of `DataPdusAndWatchdog` and `CrcRateLosesConnection`: a PDU whose frame type does not fit its
generation, an expiry at this edge, a state in which connections do not run, and the fourth rejection in OPENING. -/
theorem wit_FitsExpiryAndOpening :
    ¬(H4.ses.gen = (H4.desc ftDATA1 2 []).gen ∧ ((H4.desc ftDATA1 2 []).ftype = ftDATA1 ↔ (H4.desc ftDATA1 2 []).gen = 1)) ∧
    (H4.ses.gen = (H4.dd []).gen ∧ ((H4.dd []).ftype = ftDATA1 ↔ (H4.dd []).gen = 1)) ∧
    (atEdge.window .a (atEdge.connEntry 0).port).any (atEdge.restarts .a 0) = false ∧ (atEdge.conn .a 0).st = .run ∧
    (atEdge.conn .a 0).wdStart + 5 * (atEdge.connEntry 0).wd ≤ atEdge.time.tick ∧ atEdge.dev.st.connects = true ∧
    (inSt .configure atEdge).dev.st.connects = false ∧
    H4.inUse .a (H4.dd H4.badA) H4.ses opening = true ∧ (opening.conn .a 0).st = .opening ∧
    H4.crcOk .a (H4.dd H4.badA) H4.ses opening = false := by
  decide +kernel

/-- States and operands that meet hypotheses of `TicksAndMeasurements`, `ConnectionsOpen` and `CouplerSlotSendsFrames`. -/
theorem wit_QuietTick :
    W20.w0.oxb.running = none ∧ (∀ p, (W20.w0.pair p).agr = []) ∧ W21.w1.pendingFull = false ∧ W21.w0.copiesRun = true ∧
    W21.w0.oxb.storeFail ≠ some 0x10 ∧ W21.w3.copiesRun = false ∧ (H4.aD H4.announce).gen = 0 ∧ bench.slotsRun = true ∧
    bench.time.slotInTick < 5 ∧ bench.time.slotInTick ≠ 3 :=
  ⟨by decide +kernel, W20.agr_none, by decide +kernel, by decide +kernel, by decide +kernel, by decide +kernel, by decide +kernel,
    by decide +kernel, by decide +kernel, by decide +kernel⟩

/-- States and operands that meet hypotheses of `RecordsAndFlushes`: no closes wait, no copy is damaged, the queue of a failed store has
room, and a burst is in flight. -/
theorem wit_QueuesAndBursts :
    W23.w6.oxb.closing = [] ∧ (∀ e ∈ W23.w6.oxb.mram.totals, e.2.broken = []) ∧
    (W23.w8.oxb.inFlight ++ W23.w8.oxb.dirty).length ≤ 8192 ∧ W23.w8.oxb.closing = [] ∧ W23.s1.oxb.closing = [] ∧
    W23.w6.oxb.running = some .full ∧ W23.w6.oxb.inFlight = { code := 77 } :: [] ∧ W23.tl.oxb.failedAt < 2 ^ 32 := by
  decide +kernel

end H6

namespace H7

/-- States and operands that meet hypotheses of `ReadServicesAnswer`: the fields of a status block. -/
theorem wit_StatusBlocks :
    (∀ b ∈ [bSUP, bSTB, bWEIR, bHOST, bMEMA, bMEMB, bOXB, bROS, bPWR, bCLK, bRIF, 0x10, 0x20], isBlock b = true ∧ bench.liveSev b < 16 ∧
      bench.stickySev b < 16) ∧ isPair bSUP = true ∧ (bench.pair bSUP).retired = false ∧ (H2.before []).on (pairDomain bSUP) = true ∧
    bench.on (pairDomain bSUP) = true ∧ H1.dark.on (pairDomain bSUP) = false ∧ H1.dark.on bWEIR = false ∧ (bench.pair bSUP).mismatches < 65536 ∧
    (bench.pair bSUP).lastGroup < 256 ∧ bench.pairs.stbFor = none ∧ bench.bundles.handover = none ∧ (bench.words bSUP).sticky = 0 ∧
    (bench.pair 2).load < 65536 ∧ bench.dev.safeReason < 256 ∧ bench.host.version < 16 ∧ bench.cfg.sequence < 2 ^ 32 ∧
    bench.host.rom = false := by
  and_intros <;> decide +kernel

/-- States and operands that meet hypotheses of `ReadServicesAnswer`: the counts in a status block, and its live severity. -/
theorem wit_StatusCounts :
    (∀ k < 3, (bench.params.port k).mode < 16) ∧ bench.connsInUse.length < 65536 ∧ bench.host.accepted < 2 ^ 32 ∧
    bench.host.rejected < 2 ^ 32 ∧ bench.mems.eccCorrA < 65536 ∧ bench.mems.blocksB < 65536 ∧ bench.dirtyBytes < 2 ^ 32 ∧
    bench.oxb.mram.nextSeq < 2 ^ 32 ∧ bench2.ros.shadow.length < 65536 ∧ bench.pwr.resetCause < 16 ∧ bench.pwr.opSeconds < 2 ^ 32 ∧
    bench.rif.slices < 65536 ∧ (H6.die.die 0).alive = true ∧ (H2.before []).dev.st = .reset ∧ ((H2.before []).die 0).alive = false ∧
    (bench.gview .a 0).vfCode < 4096 ∧ (bench.gview .a 0).tempCode < 4096 ∧ bench.faults.live = [] ∧
    (∃ l ∈ W3.w0.faults.live, l.block = 14) ∧ (W6.noisy.pair bSUP).retired = false := by
  and_intros <;> decide +kernel

def restarts (s : State) : State := { asks 0x42 [] (inSt .safe s) with dev := { bench.dev with st := .safe, safeReason := 2 }, faults := {} }

/-- States and operands that meet hypotheses of `RunSafeRestart`: RESTART outside a live commit and during one. -/
theorem wit_RestartAndLive :
    (restarts bench).liveAtLeast 3 = false ∧ (restarts bench).dev.noSupervisor = false ∧ (restarts bench).weir.conns = [] ∧
    (restarts bench).cfg.live = none ∧ (restarts (W15.lv (W15.lc 1000 false) bench)).cfg.live.isSome = true ∧ (restarts (W15.lv (W15.lc 1000 false) bench)).faults.live = [] ∧
    (restarts (W15.lv (W15.lc 1000 false) bench)).weir.conns = [] ∧ (∀ p ∈ [2, 3, 4, 5], ((restarts (W15.lv (W15.lc 1000 false) bench)).pair p).retired = false) ∧
    (restarts bench).dev.safeReason ∉ [0x01, 0x03, 0x05] ∧
    frontB (req 0x42 []) [] (restarts (W15.lv (W15.lc 1000 false) bench)) = true ∧ sessionB (req 0x42 []) (restarts (W15.lv (W15.lc 1000 false) bench)) = true := by
  and_intros <;> decide +kernel

def calm (s : State) : State := { s with faults := {} }
def drives : State := { bench with jtag := { bench.jtag with ir := 0, driving := true } }

/-- States and operands that meet hypotheses of `ErrorPairCommands`, `PowerCyclesAndChipResets` and `ReleaseOfReset`: ERRP
toggles, EXTEST drives the lands, and the test logic is in EXTEST when RESET_N is low. -/
theorem wit_ErrpAndExtest :
    (calm W6.w7).errpDynamic = true ∧ (calm W6.w7).errpAsserted = false ∧ (inSt .safe (calm W6.w7)).errpAsserted = false ∧
    bench.jtag.driving = false ∧ drives.dev.st ≠ .off ∧ drives.jtag.ir = 0 ∧ drives.jtag.driving = true ∧ bench.jtag.ir ≠ 0 ∧
    (let s : State := { State.reset with pwr := { State.reset.pwr with resetNLow := true }, jtag := { State.reset.jtag with ir := 0 } }
     s.dev.st = .reset ∧ s.dev.released = false ∧ s.pwr.resetNLow = true ∧ s.jtag.ir = 0) := by
  and_intros <;> decide +kernel

def unlit (s : State) : State := { s with pwr := { s.pwr with domains := [0] } }
def unloaded : State := { W8.w6 with dev := { W8.w6.dev with loaded := false } }
def shedReset (s : State) : State := { s with pwr := { s.pwr with shed := true } }

/-- States and operands that meet hypotheses of `ReleaseOfReset`, `PowerFailSequence` and `SensingDecides`: domains that were
shed stay off, and Oxbow stands frozen with no flush under way. -/
theorem wit_ShedAndFrozen :
    (shedReset H6.holding).dev.st = .reset ∧ (shedReset H6.holding).dev.released = true ∧ (shedReset H6.holding).dev.hold = 3 ∧
    (shedReset H6.holding).pwr.shed = true ∧ H6.holding.pwr.shed = false ∧ (H6.warned none).oxb.frozen = true ∧
    (H6.warned none).oxb.running = none ∧ (H6.warned none).pwr.shed = false ∧ (shedReset W8.rst).pwr.shed = true ∧
    W8.rst.pwr.shed = false ∧ W8.rst.ros.sensed = false := by
  and_intros <;> decide +kernel

/-- States and operands that meet hypotheses of `BootAndSupervisorStart`: a supervisor that runs with nothing mounted, and none. -/
theorem wit_SupervisorRunsInBoot :
    unloaded.dev.st = .boot ∧ unloaded.bundles.running = some 0 ∧ unloaded.supRuns = true ∧ unloaded.dev.loaded = false ∧
    unloaded.oxb.mounted = false ∧ unloaded.oxb.mram.seconds = [0, 0, 0] ∧ unloaded.tlUsed ≠ 64 ∧ unloaded.oxb.mram.totals = [] ∧
    unloaded.oxb.mram.image = [] ∧ unloaded.oxb.mram.tail = [] ∧ (unlit W8.boot).supRuns = false ∧
    W8.boot.dev.st = .boot := by
  and_intros <;> decide +kernel

def placed : State := W13.cc bench
/-- Cell 0 of a live commit: its line, and the state and runs of both channels. -/
def lvCell (ln : CellLine) (x : CellSide) (stb : StbWork := .shadows) (s : State := bench) : State :=
  let t := W12.cellAt x x ln (W15.lv (W15.lc 900 true) { s with time := { s.time with slotInTick := 0 } })
  { t with pairs := { t.pairs with stb := stb } }
def rcd (k : RecordKind) : CellLine := { record := some ⟨1000, k, 0, 1, 3⟩ }
def swapping (ln : CellLine) : State := lvCell ln { st := .shadow, runs := [{ W13.r0 with isShadow := true, result := some W13.im1 }] }

/-- States and operands that meet hypotheses of `PairsResetAndRestore`: the cell instance of a mismatch, the guard of an
initiator whose domain is off, and of the supervisor. -/
theorem wit_MismatchOfACell :
    2 ≠ 1 ∧ placed.on 2 = true ∧ (placed.pair 2).inReset = false ∧ (placed.pair 2).retired = false ∧ (placed.pair 2).monitor.length < 3 ∧
    placed.evaluates (placed.roleOf 2) 0 = true ∧ placed.evaluates (placed.roleOf 2) 1 = false ∧ placed.shadows 2 1 = false ∧
    (swapping {}).shadows bSTB 0 = true ∧ H6.deaf.on (H6.deaf.initiatorDomain 4) = false ∧
    bench.on (bench.initiatorDomain bSUP) = true ∧ bench.hasEvaluator bSUP = true := by
  and_intros <;> decide +kernel

/-- States and operands that meet hypotheses of `CellBoundaryStates`: a cell with a commit record of each kind. -/
theorem wit_CommitRecords :
    (∀ k ∈ [RecordKind.shadow, .direct, .added, .removed],
      let s := lvCell (rcd k) (W12.cs .run)
      s.cfg.live.isSome = true ∧ s.boundaryDue 0 = true ∧ (s.line 0).entry = false ∧ (s.line 0).removeAt = none ∧
        (s.line 0).toTransition = false ∧ s.dev.st = .run ∧ s.pairs.stb = .shadows ∧ s.lineActive 0 = false ∧ (s.line 0).lineSeen = false ∧
        (∀ sd ∈ [Side.a, .b], (s.cell sd 0).st = .run) ∧ ((s.cfg.live.getD default).next.cont.cell 0).inUse = true ∧
        (s.line 0).record.any (fun r => r.kind == k && r.at_ == s.time.tick) = true) ∧
    (lvCell (rcd .shadow) (W12.cs .run) .free).pairs.stb ≠ .shadows ∧
    (W12.ls (lvCell (rcd .shadow) (W12.cs .run))).lineActive 0 = true := by
  and_intros <;> decide +kernel

/-- States and operands that meet hypotheses of `CellBoundaryStates`: the end of a removed cell, a swap and a transition. -/
theorem wit_SwapTransitionRemoval :
    (let s := lvCell { removeAt := some 1000 } (W12.cs .held)
     (s.line 0).record = none ∧ (s.line 0).removeAt = some s.time.tick ∧ (s.line 0).toTransition = false ∧ s.boundaryDue 0 = true) ∧
    (∀ go ∈ [true, false],
      let s := swapping { swapAt := some 1000, toTransition := go }
      s.boundaryDue 0 = true ∧ (s.line 0).record = none ∧ (s.line 0).removeAt = none ∧ (∀ sd ∈ [Side.a, .b], (s.cell sd 0).st = .shadow) ∧
        (s.line 0).swapAt = some s.time.tick ∧ (s.line 0).toTransition = go ∧ s.dev.st = .run ∧ s.lineActive 0 = false ∧
        (s.line 0).lineSeen = false ∧ (∀ sd ∈ [Side.a, .b], ∀ y ∈ (s.cell sd 0).runs, y.result.isSome = true) ∧
        ((s.cfg.live.getD default).next.cont.cell 0).inUse = true) := by
  and_intros <;> decide +kernel

def shadowRun : CellRun := { W13.r0 with isShadow := true }
/-- Cell 0 in a shadow run whose two versions give `a` and `b` in each channel. -/
def compared (a b : CellImage) : State :=
  let s := lvCell { clean := 1 } { st := .shadow, runs := [{ shadowRun with result := some a, shadow := some b, recon := 1000 }] }
  { s with cfg := { s.cfg with running := some W13.runC, live := some { W15.lc 900 true with next := W13.runC } } }

/-- States and operands that meet hypotheses of `EvaluationCompletes` and `ReconciliationAndCellSources`: a shadow run that is
to be evaluated, and one that is due with results of both versions. -/
theorem wit_ShadowRuns :
    (let s := lvCell {} { st := .shadow, runs := [shadowRun] }
     (∀ sd ∈ [Side.a, .b], (s.cell sd 0).runs = [shadowRun] ∧ s.cellRuns sd 0 = true ∧ s.shadowRuns sd 0 = true ∧ (s.line 0).version sd = 0) ∧
       shadowRun.result = none ∧ shadowRun.isShadow = true ∧ shadowRun.late = false ∧ shadowRun.ver = 0 ∧ (s.line 0).lastRecon = none) ∧
    (∀ b ∈ [W13.im1, W13.im2],
      let s := compared W13.im1 b
      (s.line 0).lastRecon ≠ some s.time.tick ∧ (∀ sd ∈ [Side.a, .b], s.cellRuns sd 0 = true ∧ (s.dueRun sd 0).any (fun r =>
        r.isShadow && !r.catchUp && r.result == some W13.im1 && r.shadow == some b) = true)) ∧
    (compared W13.im1 W13.im2).nextCont.vectorOf 0 W13.im2 ≠ ((compared W13.im1 W13.im2).verCont 0).vectorOf 0 W13.im1 ∧
    (compared W13.im1 W13.im1).nextCont.vectorOf 0 W13.im1 = ((compared W13.im1 W13.im1).verCont 0).vectorOf 0 W13.im1 ∧
    (let s := W13.w5
     ∀ sd ∈ [Side.a, .b], (s.dueRun sd 0).any (fun r => !r.isShadow && !r.catchUp && !r.safe && r.result.isSome) = true) := by
  and_intros <;> decide +kernel

def joined : State := W15.lv { W15.lc 1010 false with early := [{ next := W15.runW, bytes := [], cert := [], commitTick := 1000 }] } bench

/-- States and operands that meet hypotheses of `LiveCommitRuns`: a second commit joins before the first one's tick. -/
theorem wit_EarlyTicks :
    bench.cfg.live = none ∧ W15.w2.cfg.live.any (fun l => l.early == [] && !l.ticked && decide (l.commitTick ≤ W15.w2.time.tick)) = true ∧
    joined.cfg.live.any (fun l => l.early.any (fun x => decide (x.commitTick ≤ joined.time.tick) && decide (x.commitTick < l.commitTick))) = true ∧
    W15.w3.cfg.live.any (fun l => l.early == [] && decide (W15.w3.time.tick < l.commitTick)) = true ∧ joined.faults.live = [] ∧
    (∀ p ∈ [2, 3, 4, 5], (joined.pair p).retired = false) := by
  and_intros <;> decide +kernel

/-- States and operands that meet hypotheses of `BundleHandover`: its times, and a live commit beside it. -/
theorem wit_HandoverTimes :
    W15.w5.cfg.live = none ∧ W15.w5.bundles.handover.any (fun h => h.stage == .translating) = true ∧
    (W15.lv (W15.lc 1000 false) W15.w5).cfg.live.isSome = true ∧ (W15.lv (W15.lc 1000 false) W15.w5).bundles.handover.isSome = true ∧
    W15.w6.bundles.handover.any (fun h => h.stage == .starting && decide (W15.w6.time.tick < h.start + 2000)) = true ∧
    (∀ n ∈ [2000, 2999, 3000], (W15.tk n W15.w6).bundles.handover.any (fun h => h.stage == .starting && h.start == 0) = true ∧
      (W15.tk n W15.w6).time.tick = n ∧ (W15.tk n W15.w6).host.queue = []) ∧
    (W15.w8.time.tick = 10000 ∧ W15.w8.bundles.handover.any (fun h => h.stage == .starting && decide (h.start + 10000 ≤ 10000)) = true) := by
  and_intros <;> decide +kernel

def quiet : State := (bench.setDie 0 { alive := true }).setChan 0 { synced := true, nLast := 100 }
def fg0 : BitVec 40 := commandFrame 1 false 5 (token .a 101 false 0) (token .b 101 false 0) (0x1D * 256)

/-- States and operands that meet hypotheses of `FieldDieTakesFrames`: frames with a wrong CRC, with the TICK bit and without, and
the slot 1 frame that starts a unit slice. -/
theorem wit_BadFramesAndUnitStart :
    (W16.w0.die (1 / 16)).alive = true ∧ frBits (W16.fr 101 true true ^^^ 1#40) 39 38 = 1 ∧ cmdOk (W16.fr 101 true true ^^^ 1#40) = false ∧
    cmdTick (W16.fr 101 true true ^^^ 1#40) = true ∧ frBits (fg0 ^^^ 1#40) 39 38 = 1 ∧ cmdOk (fg0 ^^^ 1#40) = false ∧
    cmdTick (fg0 ^^^ 1#40) = false ∧ (quiet.die (0 / 16)).alive = true ∧ (quiet.chan 0).synced = true ∧ cmdOk fg0 = true ∧
    frBits fg0 39 38 = 1 ∧ (cmdFcnt fg0 + 16 - (quiet.chan 0).nLast.toNat % 16) % 16 = 1 ∧ 0 % 16 = 0 ∧ cmdTick fg0 = false ∧
    cmdSel fg0 = 0x1D ∧ quiet.groupQuiet 0 = true := by
  and_intros <;> decide +kernel

def unheard : State := (List.range 16).foldl (fun s c => s.setView .a c { (s.view .a c) with frameAge := 20, heard := none }) bench

/-- States and operands that meet hypotheses of `StatusFramesAreTaken` and `FieldDetectors`: pairs of a channel that do not take
a frame, and couplers that have never been heard. -/
theorem wit_NoPairAndUnheard :
    bench.noPairTakes .a [2, 3] = true ∧ bench.noPairTakes .a [2] = false ∧ bench.noPairTakes .a [] = false ∧
    bench.hardware bSA0 ∈ [2] ∧ (∀ i < 16, 20 ≤ (unheard.view .a (16 * 0 + i)).frameAge ∧ (unheard.view .a (16 * 0 + i)).heard = none) := by
  and_intros <;> decide +kernel

def m1 : State := W18.cn { W18.rc with session := some { W18.ses with gen := 1 } } { W18.rc with session := some { W18.ses with gen := 1 } } (W18.up {} W18.nb)
def noSlot : State := W18.cn W18.rc W18.rc (W18.up { queue := List.replicate 120 (W18.fr .data 3000) } W18.nb)
def dueC : DueControl := ⟨ftACK, 2, 3, 55, 66, 8, 8, 20, 0, 1001⟩
def control (a b : Option DueControl) (p : Port := {}) : State :=
  W18.tk 1001 (W18.cn { st := .opening, due := a } { st := .opening, due := b } (W18.up p W18.nb))

/-- States and operands that meet hypotheses of `TransmitPath`: a session of generation 1, no free slot, and control PDUs. -/
theorem wit_DataAndControl :
    (m1.conn .a 0).session = some { W18.ses with gen := 1 } ∧ m1.txDue 0 = true ∧ m1.buildsData .a 0 = true ∧ m1.buildsData .b 0 = true ∧
    (m1.port 0).slotFree .data = true ∧ (noSlot.port 0).slotFree .data = false ∧ noSlot.txDue 0 = true ∧
    noSlot.buildsData .a 0 = true ∧ noSlot.buildsData .b 0 = true ∧ noSlot.weir.txTick ≠ some noSlot.time.tick ∧
    (∀ s ∈ [control (some dueC) (some dueC), control (some dueC) none,
        control (some dueC) (some dueC) { queue := List.replicate 8 (W18.fr .control 3000) }],
      s.weirOn = true ∧ s.dev.st.connects = true ∧ s.dev.st ≠ .latched ∧ s.weir.txTick ≠ some s.time.tick ∧ s.connsInUse = [0] ∧
      (s.connEntry 0).port = 0 ∧ s.txDue 0 = false ∧ (∀ sd ∈ [Side.a, .b], s.sideRuns sd = true) ∧ (s.conn .a 0).due = some dueC ∧
      dueC.at_ ≤ s.time.tick ∧ (s.port 0).linkUp = true ∧ (s.port 0).upAt < s.time.tick) ∧
    ((control (some dueC) (some dueC)).conn .b 0).due = some dueC ∧ ((control (some dueC) none).conn .b 0).due = none ∧
    ((control (some dueC) none).port 0).slotFree .control = true ∧
    ((control (some dueC) (some dueC) { queue := List.replicate 8 (W18.fr .control 3000) }).port 0).slotFree .control = false := by
  and_intros <;> decide +kernel

def pauses (p : Port) : State :=
  let s := W18.up p W18.nb
  { s with params := { s.params with ports := [{ mode := 1, ip := 0x0a000001, pauseTx := 1 }, {}, {}] } }
def buffer (k n : Nat) : RxBuf := { W18.bufO k W18.mf false 999 with id := n }
def buffers (n : Nat) : List RxBuf := (List.range n).map (buffer rxMILL)

/-- States and operands that meet hypotheses of `TransmitPath`: PAUSE frames on the wire, due, and ordered at the buffer limits. -/
theorem wit_PausesSent :
    (let s := pauses { wire := some (W18.fr .data 3000), pauseDue := [19, 0] }
     s.weirOn = true ∧ (s.port 0).wire = some (W18.fr .data 3000) ∧ (s.port 0).linkUp = true ∧ (s.port 0).pauseDue = [19, 0] ∧
       (s.params.port 0).pauseTx ≠ 0) ∧
    (let s := pauses { buffers := buffers 224 }
     (s.port 0).low = false ∧ (s.port 0).buffers.length = 224 ∧ (parseFrame W18.mf).isSome = true ∧
       (filterKind ((parseFrame W18.mf).getD default) (s.portMac 0) (s.params.port 0).ip s.params.etherType s.params.udpPort
         (s.portVids 0)).isSome = true) ∧
    224 < ((pauses { buffers := buffers 225 }).port 0).buffers.length ∧
    (let s := pauses { buffers := buffer rxARP 500 :: buffers 191, pausing := true }
     (s.port 0).buffers = buffer rxARP 500 :: buffers 191 ∧ (∀ x ∈ buffers 191, x.id ≠ (buffer rxARP 500).id) ∧
       (buffer rxARP 500).handled = false ∧ arpReply (s.portMac 0) (s.params.port 0).ip (buffer rxARP 500).frame = none ∧
       (s.port 0).pausing = true ∧ (buffers 191).length < 192) := by
  and_intros <;> decide +kernel

def searched : State := { H4.openOn H4.opn with weir := { (H4.openOn H4.opn).weir with searchA := ⟨1000, 64⟩, searchB := ⟨1000, 64⟩ } }

/-- States and operands that meet hypotheses of `ConnectionsOpen` and `TicksAndMeasurements`: an OPEN met after the channel
has checked its entries of the tick, and no request to the Tailwater. -/
theorem wit_SearchUsedUp :
    (let all := searched.connsInUse.filter (fun m => (searched.connEntry m).port == 0 &&
       (searched.partnerOf m).identity == (readCtl (H4.oD H4.opn).bytes).senderId && !searched.opener m)
     searched.window .a 0 = [H4.oD H4.opn] ∧ searched.searchLeft .a = 0 ∧ 0 < all.length) ∧ bench.oxb.tlAsk = false := by
  and_intros <;> decide +kernel

def sliceOf (sel : Nat) (results : List (Nat × Nat)) : SliceRun := ⟨1, sel, 5, 5000, results, true, true, true, false, false⟩
def slicing (r : SliceRun) (s : State := W22.rb) : State := { s with rif := { s.rif with slice := some r, granted := true } }

/-- States and operands that meet hypotheses of `CouplerSlotSendsFrames`: a unit slice and a channel slice under way, and a
slice at a die. -/
theorem wit_SlicesInFrames :
    (let s := slicing (sliceOf 0x18 []) { W22.sl0 with time := { bench.time with slotInTick := 1 } }
     s.slotsRun = true ∧ s.time.slotInTick = 1 ∧ (s.coupler 0).step = 7 ∧ 0 / 16 ∈ s.rif.groupSlices ∧ (s.coupler 1).step = 7 ∧
       s.rif.slice = some (sliceOf 0x18 []) ∧ (sliceOf 0x18 []).sel < 32) ∧
    (let s := bench.setChan 1 { synced := true, slice := some { (default : DieSlice) with step := 1 } }
     (s.field.chans.map (·.1)).Pairwise (· < ·) ∧ (s.chan 1).slice.isSome = true ∧ (s.chan 2).slice = none ∧ s.time.slotInTick ≠ 2) := by
  and_intros <;> decide +kernel

theorem testBit_bits4 (a b c d : Bool) : ∀ k < 4,
    (b2n a + 2 * b2n b + 4 * b2n c + 8 * b2n d).testBit k = [a, b, c, d].getD k false := by
  revert a b c d; decide +kernel

/-- The bits that a step of slice 0x18 at variant 5 of channel 1 is to give. -/
def expected (step : Nat) : Nat :=
  let e := Config.sliceExpect 0x18 5 1 step
  b2n (e 0) + 2 * b2n (e 1) + 4 * b2n (e 2) + 8 * b2n (e 3)

/-- States and operands that meet hypotheses of `SlicesCoverageAndCalibration`: a channel slice that passes. -/
theorem wit_SlicePasses :
    let r := sliceOf 0x18 [(0, expected 0), (1, expected 1)]
    r.marker = true ∧ r.results.length = 2 ∧ r.results.map (fun x => bandByte (fun k => if 4 ≤ k then 3
      else if x.2.testBit k = Config.sliceExpect r.sel r.variant 1 x.1 k then 1 else 0)) =
        [0, 1].map (fun _ => bandByte (fun k => if k < 4 then 1 else 3)) := by
  have h (step : Nat) : ∀ k < 4, (expected step).testBit k = Config.sliceExpect 0x18 5 1 step k := by
    intro k hk
    rw [expected, testBit_bits4 _ _ _ _ k hk]
    match k, hk with
    | 0, _ | 1, _ | 2, _ | 3, _ => rfl
  have g (step : Nat) : (fun k => if 4 ≤ k then 3 else if (expected step).testBit k = Config.sliceExpect 0x18 5 1 step k then 1 else 0) =
      (fun k => if k < 4 then 1 else 3) := by
    funext k
    by_cases hk : k < 4
    · simp [hk, h step k hk, Nat.not_le.mpr hk]
    · simp [hk, Nat.not_lt.mp hk]
  refine ⟨rfl, rfl, ?_⟩
  simp only [sliceOf, List.map]
  exact congrArg₂ (fun x y => [x, y]) (congrArg bandByte (g 0)) (congrArg bandByte (g 1))

/-- States and operands that meet hypotheses of `SlicesCoverageAndCalibration`: channel slices at their end that fail, did not
start, or were stopped at the die. -/
theorem wit_SliceEnds :
    (let s := slicing (sliceOf 0x18 [(0, 5)]) { W22.rb with time := { bench.time with slotInTick := 3 } }
     s.slotsRun = true ∧ s.time.slotInTick = 3 ∧ s.rif.slice = some (sliceOf 0x18 [(0, 5)]) ∧ (sliceOf 0x18 []).started = true ∧
       (∀ e ∈ s.field.chans, e.1 = 1 → e.2.slice = none) ∧ (sliceOf 0x18 [(0, 5)]).results.length ≠ 2 ∧
       (0x18, 5) ∉ (s.cov 1).repeats ∧ (∀ e ∈ s.field.chans, e.1 = 1 → e.2.cutAt = none ∨ e.2.cutAt ≠ s.rif.sliceTick)) ∧
    (let s := (slicing (sliceOf 0x18 []) { W22.rb with rif := { W22.rb.rif with sliceTick := some 1000 } }).setChan 1 { cutAt := some 1000 }
     (s.chan 1).cutAt.isSome = true ∧ (∀ e ∈ s.field.chans, e.1 = 1 → e.2.cutAt = s.rif.sliceTick)) ∧
    (0x18, 5) ∈ ((W22.rb.setCov 1 { repeats := [(0x18, 5)] }).cov 1).repeats := by
  and_intros <;> decide +kernel

/-- States and operands that meet hypotheses of `RunEnteredAtVerifyExitOrTick`: no configuration is left. -/
theorem wit_ConfigFromOk : ConfigFromOk H5.verified := fun st m r x h => by cases h

/-- States and operands that meet hypotheses of `RunEnteredAtVerifyExitOrTick`: CONFIGURE was entered from SAFE. -/
theorem wit_ConfigFromSafe : ConfigFromOk W3.w2 ∧ W3.w2.dev.configFrom = some (.safe, .none, 3, false) :=
  ⟨fun st m r x h => by cases h; exact .inl rfl, rfl⟩

end H7

end Sys2Proof.Tests
end

section
/-! PROOFS. The reconciliation point and the counts of a cell (R130, R131, R133). -/

namespace Sys2Proof.Reconciliation

open Sys2Proof.Machine Sys2Proof.Safety Sys2Proof.Laws

/-! ### The counts of an exchange -/

section Counts

variable {a b : Machine.Half} {disc sigc : Nat}

/-- Both channels judge an exchange alike: the comparison does not tell its own half from the other one. -/
theorem nextCounts_comm (x y : Option Machine.Half) (disc sigc : Nat) : nextCounts x y disc sigc = nextCounts y x disc sigc := by
  match x, y with
  | none, none | none, some _ | some _, none => rfl
  | some a, some b => simp only [nextCounts, ne_comm]

theorem nextCounts_of_discrepant (h : a.vector ≠ b.vector ∨ a.p ≠ b.p) :
    nextCounts (some a) (some b) disc sigc = (disc + 1, 0) := if_pos h

theorem nextCounts_of_signature_ne (hv : a.vector = b.vector) (hp : a.p = b.p) (hs : a.signature ≠ b.signature) :
    nextCounts (some a) (some b) disc sigc = (0, sigc + 1) := by
  simp [nextCounts, hv, hp, hs]

theorem nextCounts_of_eq (hv : a.vector = b.vector) (hp : a.p = b.p) (hs : a.signature = b.signature) :
    nextCounts (some a) (some b) disc sigc = (0, 0) := by
  simp [nextCounts, hv, hp, hs]

end Counts

/-! ### One channel's part -/

section OneChannel

variable {s t : State} {sd sd' : Side} {n n' : Nat} {r : CellRun}

/-- The evaluation that is due is read from the cell and the tick alone. -/
theorem dueRun_congr (hc : t.cell sd n = s.cell sd n) (ht : t.time = s.time) : t.dueRun sd n = s.dueRun sd n := by
  rw [State.dueRun, State.dueRun, hc, ht]

/-- The half that a working channel publishes for a completed evaluation: zero as the vector of a cell that is held safe (R128). -/
theorem halfOf_of_completed {img : CellImage} (hdue : s.dueRun sd n = some r) (hres : r.result = some img)
    (hcatch : r.catchUp = false) (hruns : s.cellRuns sd n = true) :
    ∃ shadowEq, s.halfOf sd n = some
      ⟨if r.safe then ((s.verCont r.ver).vectorOf n img).map (fun _ => 0) else (s.verCont r.ver).vectorOf n img,
        (s.verCont r.ver).signature n r.p img, r.p, shadowEq⟩ := by
  simp [State.halfOf, hdue, hres, hcatch, hruns]

variable (mine other : Option Machine.Half) (clean : Nat) (verdict : Option Bool)

theorem reconSide_time : (s.reconSide sd n mine other clean verdict).time = s.time := by
  unfold State.reconSide
  split <;> rfl

theorem cell_reconSide_of_ne (h : (sd', n') ≠ (sd, n)) :
    (s.reconSide sd n mine other clean verdict).cell sd' n' = s.cell sd' n' := by
  unfold State.reconSide
  split
  · rfl
  · exact cell_setCell_of_ne _ _ _ _ h

/-- With an evaluation due, completed or not, a channel's counts become those of the exchange. -/
theorem counts_reconSide (hdue : s.dueRun sd n = some r) :
    let x := (s.reconSide sd n mine other clean verdict).cell sd n
    (x.disc, x.sigc) = nextCounts mine other (s.cell sd n).disc (s.cell sd n).sigc := by
  unfold State.reconSide
  cases hres : r.result <;> simp [hdue, hres, CellSide.putRun]

end OneChannel

/-! ### The whole point -/

section WholePoint

variable {s : State} {n : Nat} {ra rb : CellRun}

/-- A reconciliation point with an evaluation due changes the cell's line and then does the part of channel A and that of channel B. -/
theorem exec_reconciliationPoint (hlast : (s.line n).lastRecon ≠ some s.time.tick) (ha : s.dueRun .a n = some ra) :
    ∃ ln clean verdict, exec (.reconciliationPoint n) s = .next
      (((s.setLine n ln).reconSide .a n (s.halfOf .a n) (s.halfOf .b n) clean verdict).reconSide .b n
        (s.halfOf .b n) (s.halfOf .a n) clean verdict) := by
  have hgo : ¬ ((s.line n).lastRecon = some s.time.tick ∨ ((s.dueRun .a n).isNone ∧ (s.dueRun .b n).isNone)) := by
    simp [hlast, ha]
  exact ⟨_, _, _, congrArg Host.Outcome.next (if_neg hgo)⟩

/-- Where both channels have an evaluation due, the point updates the counts of each from the two halves. -/
theorem counts_reconciliationPoint (hlast : (s.line n).lastRecon ≠ some s.time.tick)
    (ha : s.dueRun .a n = some ra) (hb : s.dueRun .b n = some rb) :
    Gives (.reconciliationPoint n) s (fun t => ∀ sd, ((t.cell sd n).disc, (t.cell sd n).sigc) =
      nextCounts (s.halfOf .a n) (s.halfOf .b n) (s.cell sd n).disc (s.cell sd n).sigc) := by
  obtain ⟨ln, clean, verdict, hexec⟩ := exec_reconciliationPoint hlast ha
  have hab : (Side.b, n) ≠ (Side.a, n) := by simp
  refine ⟨_, hexec, fun sd => ?_⟩
  cases sd with
  | a =>
    rw [cell_reconSide_of_ne _ _ _ _ hab.symm]
    exact counts_reconSide _ _ _ _ ((dueRun_congr (cell_setLine ..) rfl).trans ha)
  | b =>
    have hcell := (cell_reconSide_of_ne (s := s.setLine n ln) (s.halfOf .a n) (s.halfOf .b n) clean verdict hab).trans
      (cell_setLine ..)
    rw [counts_reconSide _ _ _ _ ((dueRun_congr hcell (reconSide_time ..)).trans hb), hcell, nextCounts_comm]

end WholePoint

/-! ### The source SIG_MISMATCH -/

/-- The second source of every cell has floor S2 (Table 13.19). -/
theorem sourceOf_sigMismatch {n : Nat} (hn : n < 256) : sourceOf (bCELL n) (cellIx n 1) = some ⟨2, 1, false⟩ := by
  have hblock : 0x20 ≤ 0x20 + n / 16 ∧ 0x20 + n / 16 ≤ 0x2F ∧ 8 * (n % 16) + 1 < 128 := by omega
  have hindex : (8 * (n % 16) + 1) % 8 = 1 := by omega
  unfold sourceOf bCELL cellIx
  simp (disch := omega) only [if_neg, if_pos hblock, hindex]
  rfl

/-- SIG_MISMATCH is raised at a count of two and above. -/
theorem exec_sigMismatch (sd : Side) (n : Nat) (s : State) : exec (.sigMismatch sd n) s =
    .next (if 2 ≤ (s.cell sd n).sigc then s.event (bCELL n) (cellIx n 1) n else s) := rfl

end Sys2Proof.Reconciliation

namespace Sys2Proof.Proofs

open Sys2Proof.Machine Sys2Proof.Safety Sys2Proof.Reconciliation

/-- Settles O36: both channels take the counts of one exchange of two present halves (`counts_reconciliationPoint`), and the three
clauses are the three outcomes of their comparison. -/
theorem signatureMismatchCount : Obligations.SignatureMismatchCount := by
  unfold Obligations.SignatureMismatchCount
  refine ⟨fun s n ra rb ia ib hlast ha hb _ _ hia hib hca hcb hra hrb => ?_, fun s sd n hn => ⟨?_, fun h => ?_, fun h => ?_⟩⟩
  · obtain ⟨_, halfA⟩ := halfOf_of_completed ha hia hca hra
    obtain ⟨_, halfB⟩ := halfOf_of_completed hb hib hcb hrb
    obtain ⟨t, hexec, hcounts⟩ := counts_reconciliationPoint hlast ha hb
    rw [halfA, halfB] at hcounts
    refine ⟨t, hexec, fun sd => ⟨fun hv hp hs => ?_, fun hv hp hs => ?_, fun hv => ?_⟩⟩
    · exact (Prod.mk.inj ((hcounts sd).trans (nextCounts_of_signature_ne hv hp hs))).symm
    · exact (Prod.mk.inj ((hcounts sd).trans (nextCounts_of_eq hv hp hs))).2
    · exact (Prod.mk.inj ((hcounts sd).trans (nextCounts_of_discrepant (.inl hv)))).symm
  · exact congrArg (Option.map (·.floor)) (sourceOf_sigMismatch hn)
  · exact (exec_sigMismatch sd n s).trans (congrArg _ (if_pos h))
  · exact (exec_sigMismatch sd n s).trans (congrArg _ (if_neg (Nat.not_le.mpr h)))

end Sys2Proof.Proofs
end

section
/-! PROOFS. What an occurrence of a source leaves of Rosemary, and the hold reason of a sensing (R352, R362). -/

namespace Sys2Proof.HoldReason

open Sys2Proof.Machine Sys2Proof.Safety Sys2Proof.Laws

/-! ### Rosemary's part through the recorder and HOST -/

section Rosemary

variable (s : State)

/-- Steps that leave Rosemary's part leave it when they are repeated over a list. -/
theorem foldl_ros {α : Type} {f : State → α → State} (hf : ∀ s a, (f s a).ros = s.ros) (l : List α) : (l.foldl f s).ros = s.ros :=
  List.foldlRecOn (motive := fun t => t.ros = s.ros) l f rfl fun t ht a _ => (hf t a).trans ht

@[simp] theorem flushQueue_ros (k : FlushKind) : (s.flushQueue k).ros = s.ros := rfl

@[simp] theorem waitForSlot_ros (code inst fl : Nat) : (s.waitForSlot code inst fl).ros = s.ros := by
  unfold State.waitForSlot
  split <;> rfl

@[simp] theorem closeRecord_ros (o : OpenRec) (fl : Nat) : (s.closeRecord o fl).ros = s.ros := by
  unfold State.closeRecord
  split
  · exact waitForSlot_ros ..
  · simp only [apply_ite State.ros, flushQueue_ros, ite_self]

@[simp] theorem closeAll_ros (fl : Nat) : (s.closeAll fl).ros = s.ros := foldl_ros s (fun _ _ => closeRecord_ros ..) _

@[simp] theorem closeDue_ros (code inst : Nat) : (s.closeDue code inst).ros = s.ros := by
  unfold State.closeDue
  split
  · rfl
  · split
    · exact closeRecord_ros ..
    · rfl

@[simp] theorem makeWay_ros (code inst : Nat) : (s.makeWay code inst).ros = s.ros := by
  unfold State.makeWay
  dsimp only
  split <;> simp only [closeDue_ros]

@[simp] theorem oxbCount_ros (code inst sev : Nat) (injected : Bool) : (s.oxbCount code inst sev injected).1.ros = s.ros :=
  makeWay_ros s code inst

@[simp] theorem flushTrigger_ros (k : FlushKind) : (s.flushTrigger k).ros = s.ros := by
  unfold State.flushTrigger
  dsimp only
  split
  · rfl
  · split
    · exact closeAll_ros ..
    · rfl

@[simp] theorem flushForFault_ros : s.flushForFault.ros = s.ros := by
  unfold State.flushForFault
  split
  · split
    · rfl
    · exact flushTrigger_ros ..
  · exact flushTrigger_ros ..

@[simp] theorem touchLines_ros (ns : List Nat) : (s.touchLines ns).ros = s.ros :=
  foldl_ros s (fun s n => setLine_ros s n _) ns

@[simp] theorem answer_ros (on : WaitFor) (status : Nat) (payload : List Byte) : (s.answer on status payload).ros = s.ros :=
  foldl_ros _ (fun s (w : Waiting) => respond_ros s w.req status payload) _

@[simp] theorem enter_ros (st : DevState) (reason : Nat) : (s.enter st reason).ros = s.ros := by
  unfold State.enter State.endShadows
  simp only [apply_ite State.ros, answer_ros, ite_self]

/-! ### Rosemary's part through an occurrence -/

@[simp] theorem latchNow_ros : s.latchNow.ros = s.ros := by
  unfold State.latchNow
  split
  · simp only [enter_ros, flushTrigger_ros]
  · rfl

@[simp] theorem safeNow_ros (reason : Nat) : (s.safeNow reason).ros = s.ros := by
  unfold State.safeNow
  dsimp only
  split
  · exact enter_ros ..
  · rfl

@[simp] theorem passToOxbow_ros (b i inst sev : Nat) (injected : Bool) : (s.passToOxbow b i inst sev injected).1.ros = s.ros := by
  unfold State.passToOxbow
  split
  · rfl
  · split
    · split <;> rfl
    · exact oxbCount_ros ..

@[simp] theorem react_ros (b i inst sev reacts : Nat) : (s.react b i inst sev reacts).ros = s.ros := by
  unfold State.react State.faultHandler
  simp only [apply_ite State.ros, ite_self]

@[simp] theorem severityEffect_ros (b i inst sev : Nat) : (s.severityEffect b i inst sev).ros = s.ros := by
  unfold State.severityEffect
  cases namedUnit b i inst <;>
    simp only [apply_ite State.ros, latchNow_ros, safeNow_ros, flushForFault_ros, touchLines_ros, ite_self]

@[simp] theorem crst_ros : s.crst.ros = s.ros := by
  unfold State.crst
  simp only [flushTrigger_ros, touchLines_ros]

@[simp] theorem extend_ros (src : Source) (b i inst who : Nat) : (s.extend src b i inst who).ros = s.ros := by
  unfold State.extend
  simp only [apply_ite State.ros, passToOxbow_ros, ite_self]

variable {brst : State → Nat → State} {b : Nat}

/-- The reactions of a block that has no block reset leave Rosemary's part. -/
theorem takeReactions_ros (hb : brstAvailable b = false) (i inst sev reacts : Nat) :
    (s.takeReactions brst b i inst sev reacts).ros = s.ros := by
  unfold State.takeReactions
  simp only [hb, Bool.false_eq_true, and_false, if_false, apply_ite State.ros, crst_ros, severityEffect_ros, react_ros, ite_self]

theorem raiseWith_ros (hb : brstAvailable b = false) (i inst who : Nat) : (s.raiseWith brst b i inst who).ros = s.ros := by
  unfold State.raiseWith
  split
  · rfl
  · simp only [apply_ite State.ros, extend_ros, takeReactions_ros _ hb, setWords_ros, passToOxbow_ros, ite_self]

/-- Rosemary's own sources leave Rosemary's part: the block has no block reset (Table 13.5). -/
@[simp] theorem raise_bROS_ros (i inst who : Nat) : (s.raise bROS i inst who).ros = s.ros := raiseWith_ros s rfl ..

end Rosemary

/-! ### The integrity failures of a state (R352, R362) -/

section Failures

variable {s t : State} {g : Nat}

/-- The sealed regions that fail, each with its first failing word. -/
def failures (s : State) : List (Nat × Nat) := [0, 2, 4].filterMap fun r => (s.integrityFailure r).map fun w => (r, w)

theorem integrityFailure_congr (h : t.ros = s.ros) (r : Nat) : t.integrityFailure r = s.integrityFailure r := by
  unfold State.integrityFailure State.sealed State.validSeal State.regionCrc State.shadow
  rw [h]

theorem failures_congr (h : t.ros = s.ros) : failures t = failures s := by
  simp only [failures, integrityFailure_congr h]

/-- The first region that fails stands at the head. -/
theorem failures_eq_cons {w : Nat} (hg : g ∈ [0, 2, 4]) (hbefore : ∀ e ∈ [0, 2, 4], e < g → s.integrityFailure e = none)
    (hfail : s.integrityFailure g = some w) : ∃ rest, failures s = (g, w) :: rest := by
  simp only [List.mem_cons, List.not_mem_nil, or_false] at hg
  obtain rfl | rfl | rfl := hg
  · simp [failures, hfail]
  · simp [failures, hfail, hbefore 0]
  · simp [failures, hfail, hbefore 0, hbefore 2]

theorem regionRange_sorted : (regionRange g).Pairwise (· < ·) := by
  unfold regionRange
  split
  · exact .nil
  · exact List.pairwise_map.mpr (List.pairwise_lt_range.imp (Nat.add_lt_add_right · _))

/-- The first bad word of a sealed region is its failing word. -/
theorem integrityFailure_of_bad {w : Nat} (hseal : s.sealed g = true) (hw : w ∈ regionRange g) (hbad : (s.shadow w).bad = true)
    (hbefore : ∀ k ∈ regionRange g, k < w → (s.shadow k).bad = false) : s.integrityFailure g = some w := by
  have hfind : (regionRange g).find? (fun k => (s.shadow k).bad) = some w := by
    obtain ⟨as, bs, hsplit⟩ := List.append_of_mem hw
    obtain ⟨-, -, hlt⟩ := List.pairwise_append.mp (hsplit ▸ regionRange_sorted)
    refine List.find?_eq_some_iff_append.mpr ⟨hbad, as, bs, hsplit, fun k hk => ?_⟩
    simp [hbefore k (by simp [hsplit, hk]) (hlt k hk w List.mem_cons_self)]
  simp [State.integrityFailure, hseal, hfind]

/-- A sealed region without a bad word, whose seal word has the form of a seal but not the checksum, fails with 0xFFF. -/
theorem integrityFailure_of_checksum {first lock sealW : Nat} (hseal : s.sealed g = true)
    (hwords : regionWords g = some (first, lock, sealW)) (hgood : ∀ k ∈ regionRange g, (s.shadow k).bad = false)
    (hform : (s.shadow sealW).val.toNat / 2 ^ 48 = 0xA500 + g) (hsum : (s.shadow sealW).val.toNat ≠ sealValue g (s.regionCrc g)) :
    s.integrityFailure g = some 0xFFF := by
  have hfind : (regionRange g).find? (fun k => (s.shadow k).bad) = none :=
    List.find?_eq_none.mpr fun k hk => by simp [hgood k hk]
  have hvalid : s.validSeal g = false := by simp [State.validSeal, hwords, hsum]
  simp [-Nat.reducePow, State.integrityFailure, hseal, hfind, hwords, hform, hvalid]

end Failures

/-! ### The sensing -/

section Sensing

variable (s : State) (odd : List (Nat × Sense))

/-- The state in which the integrity of the regions is judged: the shadow is sensed, the other words have raised their sources (R351). -/
def sensedState : State :=
  let s : State := { s with ros := { s.ros with shadow := sensedShadow s.ros.fuses odd, sensed := true } }
  let s : State := { s with ros := { s.ros with jtagLocked := (s.shadow 1284).val.getLsbD 0 } }
  s.sensingSources.domainOn 8

/-- The state in which the source of every failing region has been raised. -/
def failedState : State := (failures (sensedState s odd)).foldl (fun s f => s.raise bROS 0 f.1 whoDev) (sensedState s odd)

theorem failedState_ros : (failedState s odd).ros = (sensedState s odd).ros := foldl_ros _ (fun _ _ => raise_bROS_ros ..) _

/-- The outcome of the judgement: the hold with the first failure, or without one rows 3 and 4 of Table 2.3. -/
def sensingDecision (s : State) : List (Nat × Nat) → State
  | (g, w) :: _ => { s with dev := { s.dev with hold := 1, holdRegion := g, holdWord := w } }
  | [] => if s.pwr.latch then (s.enter .latched 0).romService else s.enter .boot 0

theorem sensingDecision_ros (fs : List (Nat × Nat)) : (sensingDecision s fs).ros = s.ros := by
  cases fs with
  | nil => simp [sensingDecision, apply_ite State.ros, State.romService]
  | cons f fs => rfl

variable {s odd}

theorem exec_rosSensing (hst : s.dev.st = .reset) (hrel : s.dev.released = true) (hhold : s.dev.hold = 0)
    (hsensed : s.ros.sensed = false) :
    exec (.rosSensing odd) s = .next (sensingDecision (failedState s odd) (failures (sensedState s odd))) :=
  congrArg Host.Outcome.next (if_neg (by simp [hst, hrel, hhold, hsensed]))

/-- A sensing that takes place holds the device with the first failure of the state that it reaches. -/
theorem rosSensing_holds (hst : s.dev.st = .reset) (hrel : s.dev.released = true) (hhold : s.dev.hold = 0)
    (hsensed : s.ros.sensed = false) : Gives (.rosSensing odd) s fun t =>
      ∀ g w rest, failures t = (g, w) :: rest → t.dev.hold = 1 ∧ t.dev.holdRegion = g ∧ t.dev.holdWord = w := by
  refine ⟨_, exec_rosSensing hst hrel hhold hsensed, fun g w rest hfail => ?_⟩
  rw [failures_congr ((sensingDecision_ros ..).trans (failedState_ros ..))] at hfail
  rw [hfail]
  exact ⟨rfl, rfl, rfl⟩

end Sensing

/-! ### The register -/

section Register

variable {s : State}

/-- The instruction selects the register, which shows the hold reason in RESET and under JTAG_LOCK. -/
theorem exec_holdReason (hon : s.dev.st ≠ .off) (hshow : s.dev.st = .reset ∨ s.ros.jtagLocked = true) :
    exec .holdReason s = .next { s with
      jtag := { s.jtag with ir := 0x10, dr := s.holdRegister, driving := false }, free := s.free + 1 } := by
  have hcode : ∀ u : State, u.tapCode 0x10 = 0x10 := fun u => by simp [State.tapCode]
  show execHoldReason s = _
  simp [execHoldReason, State.selectIr, hon, hshow, hcode]

/-- The layout of the register (R362). -/
theorem holdRegister_toNat (hhold : s.dev.hold < 16) (hregion : s.dev.holdRegion < 16) (hword : s.dev.holdWord < 4096)
    (hne : s.dev.hold ≠ 0) :
    s.holdRegister.toNat = s.dev.hold * 2 ^ 28 + s.dev.holdRegion * 2 ^ 24 + s.dev.holdWord * 2 ^ 12 := by
  rw [State.holdRegister, if_neg hne, BitVec.toNat_ofNat]
  exact Nat.mod_eq_of_lt (by omega)

end Register

end Sys2Proof.HoldReason

namespace Sys2Proof.Proofs

open Sys2Proof.Machine Sys2Proof.Safety Sys2Proof.HoldReason

/-- Settles O28: the register's fields by its layout (`holdRegister_toNat`), and the reason of a sensing as the head of the failures
(`rosSensing_holds`). -/
theorem holdReasonRegister : Obligations.HoldReasonRegister := by
  unfold Obligations.HoldReasonRegister
  refine ⟨fun s hon hshow hne hhold hregion hword => ⟨_, exec_holdReason hon hshow, ?_⟩, fun s odd hst hrel hhold hsensed => ?_⟩
  · have hlayout := holdRegister_toNat hhold hregion hword hne
    refine ⟨fun p hp => ?_, rfl, ?_⟩
    · cases p with
      | jtag | free => simp at hp
      | _ => rfl
    · dsimp only
      omega
  · obtain ⟨t, hexec, hholds⟩ := rosSensing_holds hst hrel hhold hsensed
    refine ⟨t, hexec, fun g hg hseal hbefore => ⟨fun w hw hbad hfirst => ?_, fun first lock sealW hwords hgood hform hsum => ?_⟩⟩
    · obtain ⟨rest, hfail⟩ := failures_eq_cons hg hbefore (integrityFailure_of_bad hseal hw hbad hfirst)
      exact hholds g w rest hfail
    · obtain ⟨rest, hfail⟩ := failures_eq_cons hg hbefore (integrityFailure_of_checksum hseal hwords hgood hform hsum)
      exact hholds g _ rest hfail

end Sys2Proof.Proofs
end

section
/-! PROOFS. What every operation does to the way back from CONFIGURE: `dev.configFrom` is as it was, but for the operations that reset the chip or commit. -/

set_option Elab.async false

namespace Sys2Proof.Origin
open Sys2Proof.Machine Sys2Proof.Safety Sys2Proof.Laws
@[simp] theorem ite_configFrom (c : Prop) [Decidable c] (s t : State) :
    (if c then s else t).dev.configFrom = if c then s.dev.configFrom else t.dev.configFrom := by
  split <;> rfl

/-- Operations that leave the way back from CONFIGURE leave it when they are repeated over a list. -/
theorem foldl_configFrom {α : Type} {f : State → α → State} (hf : ∀ s a, (f s a).dev.configFrom = s.dev.configFrom) (l : List α)
    (s : State) : (l.foldl f s).dev.configFrom = s.dev.configFrom :=
  List.foldlRecOn (motive := fun t => t.dev.configFrom = s.dev.configFrom) l f rfl fun t ht a _ => (hf t a).trans ht

@[simp] theorem setView_configFrom (s : State) (sd : Side) (c : Nat) (v : View) :
    (s.setView sd c v).dev.configFrom = s.dev.configFrom := rfl

@[simp] theorem setGview_configFrom (s : State) (sd : Side) (g : Nat) (v : GroupView) :
    (s.setGview sd g v).dev.configFrom = s.dev.configFrom := rfl

@[simp] theorem setDie_configFrom (s : State) (g : Nat) (d : DieSt) : (s.setDie g d).dev.configFrom = s.dev.configFrom := rfl

@[simp] theorem setChan_configFrom (s : State) (c : Nat) (d : DieCh) : (s.setChan c d).dev.configFrom = s.dev.configFrom := rfl

@[simp] theorem setCoupler_configFrom (s : State) (c : Nat) (d : Coupler) : (s.setCoupler c d).dev.configFrom = s.dev.configFrom := rfl

@[simp] theorem setCell_configFrom (s : State) (sd : Side) (n : Nat) (v : CellSide) :
    (s.setCell sd n v).dev.configFrom = s.dev.configFrom := rfl

@[simp] theorem setLine_configFrom (s : State) (n : Nat) (v : CellLine) : (s.setLine n v).dev.configFrom = s.dev.configFrom := rfl

@[simp] theorem setPair_configFrom (s : State) (p : Nat) (v : PairSt) : (s.setPair p v).dev.configFrom = s.dev.configFrom := rfl

@[simp] theorem setConn_configFrom (s : State) (sd : Side) (n : Nat) (v : Conn) :
    (s.setConn sd n v).dev.configFrom = s.dev.configFrom := rfl

@[simp] theorem setPort_configFrom (s : State) (k : Nat) (v : Port) : (s.setPort k v).dev.configFrom = s.dev.configFrom := rfl

@[simp] theorem setWindow_configFrom (s : State) (sd : Side) (k : Nat) (v : List Descriptor) :
    (s.setWindow sd k v).dev.configFrom = s.dev.configFrom := rfl

@[simp] theorem setWords_configFrom (s : State) (b : Nat) (w : FaultWords) : (s.setWords b w).dev.configFrom = s.dev.configFrom := rfl

@[simp] theorem setUnit_configFrom (s : State) (u : Nat) (r : UnitRec) : (s.setUnit u r).dev.configFrom = s.dev.configFrom := rfl

@[simp] theorem setCov_configFrom (s : State) (c : Nat) (v : Coverage) : (s.setCov c v).dev.configFrom = s.dev.configFrom := rfl

@[simp] theorem restartCoupler_configFrom (s : State) (c k : Nat) : (s.restartCoupler c k).dev.configFrom = s.dev.configFrom := rfl

@[simp] theorem domainOn_configFrom (s : State) (d : Nat) : (s.domainOn d).dev.configFrom = s.dev.configFrom := rfl

@[simp] theorem domainOff_configFrom (s : State) (d : Nat) : (s.domainOff d).dev.configFrom = s.dev.configFrom := rfl

@[simp] theorem checkpoint_configFrom (s : State) (p : Nat) (queue : List Nat) :
    (s.checkpoint p queue).dev.configFrom = s.dev.configFrom := rfl

@[simp] theorem addLoad_configFrom (s : State) (p used : Nat) : (s.addLoad p used).dev.configFrom = s.dev.configFrom := rfl

@[simp] theorem closeSlots_configFrom (s : State) : s.closeSlots.dev.configFrom = s.dev.configFrom := rfl

@[simp] theorem setPairView_configFrom (s : State) (sd : Side) (role c : Nat) (p : PairView) :
    (s.setPairView sd role c p).dev.configFrom = s.dev.configFrom := rfl

@[simp] theorem setPairGroup_configFrom (s : State) (sd : Side) (role g : Nat) (p : PairGroup) :
    (s.setPairGroup sd role g p).dev.configFrom = s.dev.configFrom := rfl

@[simp] theorem touchLines_configFrom (s : State) (ns : List Nat) : (s.touchLines ns).dev.configFrom = s.dev.configFrom :=
  foldl_configFrom (fun _ _ => by simp) ..

@[simp] theorem respond_configFrom (s : State) (r : Request) (status : Nat) (payload : List Byte) :
    (s.respond r status payload).dev.configFrom = s.dev.configFrom := rfl

@[simp] theorem wait_configFrom (s : State) (r : Request) (on : WaitFor) : (s.wait r on).dev.configFrom = s.dev.configFrom := rfl

@[simp] theorem answer_configFrom (s : State) (on : WaitFor) (status : Nat) (payload : List Byte) :
    (s.answer on status payload).dev.configFrom = s.dev.configFrom :=
  foldl_configFrom (fun _ _ => by simp) ..

@[simp] theorem transportReset_configFrom (s : State) : s.transportReset.dev.configFrom = s.dev.configFrom := rfl

@[simp] theorem romService_configFrom (s : State) : s.romService.dev.configFrom = s.dev.configFrom := rfl

@[simp] theorem loadMask_configFrom (s : State) (b : Nat) : (s.loadMask b).dev.configFrom = s.dev.configFrom := by
  unfold State.loadMask
  split <;> rfl

@[simp] theorem setOpen_configFrom (s : State) (o : OpenRec) : (s.setOpen o).dev.configFrom = s.dev.configFrom := rfl

@[simp] theorem flushQueue_configFrom (s : State) (k : FlushKind) : (s.flushQueue k).dev.configFrom = s.dev.configFrom := rfl

@[simp] theorem waitForSlot_configFrom (s : State) (code inst fl : Nat) :
    (s.waitForSlot code inst fl).dev.configFrom = s.dev.configFrom := by
  unfold State.waitForSlot
  split <;> rfl

@[simp] theorem closeRecord_configFrom (s : State) (o : OpenRec) (fl : Nat) :
    (s.closeRecord o fl).dev.configFrom = s.dev.configFrom := by
  unfold State.closeRecord
  simp

@[simp] theorem closeAll_configFrom (s : State) (fl : Nat) : (s.closeAll fl).dev.configFrom = s.dev.configFrom :=
  foldl_configFrom (fun _ _ => by simp) ..

@[simp] theorem closeWaiting_configFrom (s : State) : s.closeWaiting.dev.configFrom = s.dev.configFrom :=
  foldl_configFrom (fun _ _ => by split <;> simp) ..

@[simp] theorem closeDue_configFrom (s : State) (code inst : Nat) : (s.closeDue code inst).dev.configFrom = s.dev.configFrom := by
  unfold State.closeDue
  split <;> simp

@[simp] theorem makeWay_configFrom (s : State) (code inst : Nat) : (s.makeWay code inst).dev.configFrom = s.dev.configFrom := by
  unfold State.makeWay
  simp

@[simp] theorem oxbCount_configFrom (s0 : State) (code inst sev : Nat) (injected : Bool) :
    (s0.oxbCount code inst sev injected).1.dev.configFrom = s0.dev.configFrom := by
  unfold State.oxbCount
  simp

@[simp] theorem oxbBin_configFrom (s : State) (l : LiveInst) : (s.oxbBin l).dev.configFrom = s.dev.configFrom := by
  unfold State.oxbBin
  repeat' split
  all_goals simp

@[simp] theorem flushTrigger_configFrom (s0 : State) (k : FlushKind) : (s0.flushTrigger k).dev.configFrom = s0.dev.configFrom := by
  unfold State.flushTrigger
  dsimp only
  split <;> simp

@[simp] theorem marker_configFrom (s : State) (code inst : Nat) (lo hi : Int) :
    (s.marker code inst lo hi).dev.configFrom = s.dev.configFrom := by
  unfold State.marker
  simp

@[simp] theorem reopen_configFrom (s : State) (r : OxbRec) : (s.reopen r).dev.configFrom = s.dev.configFrom := by
  unfold State.reopen
  simp

@[simp] theorem requeue_configFrom (s : State) (rest : List OxbRec) : (s.requeue rest).dev.configFrom = s.dev.configFrom :=
  foldl_configFrom (fun _ _ => by simp) ..

@[simp] theorem sample_configFrom (s0 : State) (code inst : Nat) (v : Int) :
    (s0.sample code inst v).dev.configFrom = s0.dev.configFrom := by
  unfold State.sample
  simp

@[simp] theorem flushForFault_configFrom (s : State) : s.flushForFault.dev.configFrom = s.dev.configFrom := by
  unfold State.flushForFault
  split <;> simp

@[simp] theorem endShadows_configFrom (s : State) : s.endShadows.dev.configFrom = s.dev.configFrom := rfl

@[simp] theorem enter_configFrom (s : State) (st : DevState) (reason : Nat) :
    (s.enter st reason).dev.configFrom = s.dev.configFrom := by
  unfold State.enter
  simp

@[simp] theorem latchNow_configFrom (s : State) : s.latchNow.dev.configFrom = s.dev.configFrom := by
  unfold State.latchNow
  simp

@[simp] theorem safeNow_configFrom (s : State) (reason : Nat) : (s.safeNow reason).dev.configFrom = s.dev.configFrom := by
  unfold State.safeNow
  simp

@[simp] theorem pairReset_configFrom (s : State) (p : Nat) (cell : Option Nat) :
    (s.pairReset p cell).dev.configFrom = s.dev.configFrom := rfl

@[simp] theorem weirReset_configFrom (s : State) : s.weirReset.dev.configFrom = s.dev.configFrom := rfl

@[simp] theorem groupRestart_configFrom (s : State) (g : Nat) : (s.groupRestart g).dev.configFrom = s.dev.configFrom := by
  unfold State.groupRestart
  rw [foldl_configFrom]
  intro s i
  dsimp only
  split <;> simp

@[simp] theorem passToOxbow_configFrom (s : State) (b i inst sev : Nat) (injected : Bool) :
    (s.passToOxbow b i inst sev injected).1.dev.configFrom = s.dev.configFrom := by
  unfold State.passToOxbow
  dsimp only
  repeat' split
  all_goals simp

@[simp] theorem faultHandler_configFrom (s : State) (b : Nat) : (s.faultHandler b).dev.configFrom = s.dev.configFrom := rfl

@[simp] theorem react_configFrom (s : State) (b i inst sev reacts : Nat) :
    (s.react b i inst sev reacts).dev.configFrom = s.dev.configFrom := by
  unfold State.react
  simp

@[simp] theorem severityEffect_configFrom (s : State) (b i inst sev : Nat) :
    (s.severityEffect b i inst sev).dev.configFrom = s.dev.configFrom := by
  unfold State.severityEffect
  split <;> simp

@[simp] theorem crst_configFrom (s : State) : s.crst.dev.configFrom = s.dev.configFrom := by
  unfold State.crst
  simp

@[simp] theorem takeReactions_configFrom {brst : State → Nat → State} (hb : ∀ s b, (brst s b).dev.configFrom = s.dev.configFrom)
    (s : State) (b i inst sev reacts : Nat) : (s.takeReactions brst b i inst sev reacts).dev.configFrom = s.dev.configFrom := by
  unfold State.takeReactions
  simp [hb]

@[simp] theorem extend_configFrom (s : State) (src : Source) (b i inst who : Nat) :
    (s.extend src b i inst who).dev.configFrom = s.dev.configFrom := by
  unfold State.extend
  simp

theorem raiseWith_configFrom {brst : State → Nat → State} (hb : ∀ s b, (brst s b).dev.configFrom = s.dev.configFrom)
    (s : State) (b i inst who : Nat) : (s.raiseWith brst b i inst who).dev.configFrom = s.dev.configFrom := by
  unfold State.raiseWith
  split
  · rfl
  · simp [takeReactions_configFrom hb]

@[simp] theorem raiseUnreset_configFrom (s : State) (b i inst who : Nat) :
    (s.raiseWith (fun s _ => s) b i inst who).dev.configFrom = s.dev.configFrom := raiseWith_configFrom (fun _ _ => rfl) ..

@[simp] theorem abortSlice_configFrom (s : State) : s.abortSlice.dev.configFrom = s.dev.configFrom := by
  unfold State.abortSlice
  dsimp only
  repeat' split
  all_goals simp

@[simp] theorem abortUnitSlice_configFrom (s : State) (g : Nat) : (s.abortUnitSlice g).dev.configFrom = s.dev.configFrom := by
  unfold State.abortUnitSlice
  rw [raiseUnreset_configFrom, groupRestart_configFrom]
  split <;> simp

@[simp] theorem rifReset_configFrom (s : State) : s.rifReset.dev.configFrom = s.dev.configFrom :=
  (foldl_configFrom abortUnitSlice_configFrom ..).trans (abortSlice_configFrom s)

@[simp] theorem brst_configFrom (s : State) (b : Nat) : (s.brst b).dev.configFrom = s.dev.configFrom := by
  unfold State.brst
  simp

@[simp] theorem event_configFrom (s : State) (b i inst : Nat) : (s.event b i inst).dev.configFrom = s.dev.configFrom :=
  raiseWith_configFrom brst_configFrom ..

@[simp] theorem raise_configFrom (s : State) (b i inst who : Nat) : (s.raise b i inst who).dev.configFrom = s.dev.configFrom :=
  raiseWith_configFrom brst_configFrom ..

@[simp] theorem inject_configFrom (s : State) (b i inst : Nat) : (s.inject b i inst).dev.configFrom = s.dev.configFrom := by
  unfold State.inject
  split
  · rfl
  · simp

@[simp] theorem purgeHolds_configFrom (s : State) : s.purgeHolds.dev.configFrom = s.dev.configFrom := rfl

@[simp] theorem fall_configFrom (s : State) (l : LiveInst) : (s.fall l).dev.configFrom = s.dev.configFrom := by
  unfold State.fall
  simp

@[simp] theorem clear_configFrom (s : State) (b i inst who : Nat) : (s.clear b i inst who).dev.configFrom = s.dev.configFrom := by
  unfold State.clear
  split <;> simp

@[simp] theorem condition_configFrom (s : State) (b i inst who : Nat) (on : Bool) :
    (s.condition b i inst who on).dev.configFrom = s.dev.configFrom := by
  unfold State.condition
  simp

@[simp] theorem rejudge_configFrom (s : State) : s.rejudge.dev.configFrom = s.dev.configFrom :=
  foldl_configFrom (fun _ _ => by simp) ..

@[simp] theorem changeChannel_configFrom (s : State) (c : Nat) : (s.changeChannel c).dev.configFrom = s.dev.configFrom := by
  have setRoles : ∀ (s : State) (sd : Side), ((rolesOf sd).foldl (fun s role => s.setPairView sd role c (s.view sd c).pairPart) s).dev.configFrom =
      s.dev.configFrom := fun s sd => foldl_configFrom (fun _ _ => by rfl) ..
  have clears : ∀ (s : State) (sd : Side) (is : List Nat), (is.foldl (fun s i => s.clear (fgBlock (c / 16)) i c (Side.bit sd)) s).dev.configFrom =
      s.dev.configFrom := fun s sd is => foldl_configFrom (fun _ _ => clear_configFrom ..) ..
  unfold State.changeChannel
  dsimp only
  simp [setRoles, clears]

@[simp] theorem startTx_configFrom (s : State) (k : Nat) : (s.startTx k).dev.configFrom = s.dev.configFrom := by
  unfold State.startTx
  dsimp only
  repeat' split
  all_goals simp

@[simp] theorem queueFrame_configFrom (s : State) (k : Nat) (f : TxFrame) : (s.queueFrame k f).dev.configFrom = s.dev.configFrom := by
  unfold State.queueFrame
  dsimp only
  split
  · simp
  · exact foldl_configFrom (fun _ _ => event_configFrom ..) ..

@[simp] theorem dropLink_configFrom (s : State) (k : Nat) : (s.dropLink k).dev.configFrom = s.dev.configFrom := by
  unfold State.dropLink
  simp

@[simp] theorem raiseLink_configFrom (s : State) (k : Nat) : (s.raiseLink k).dev.configFrom = s.dev.configFrom := by
  unfold State.raiseLink
  simp

@[simp] theorem restartPort_configFrom (s : State) (k : Nat) : (s.restartPort k).dev.configFrom = s.dev.configFrom := by
  unfold State.restartPort
  simp

@[simp] theorem weirStart_configFrom (s : State) : s.weirStart.dev.configFrom = s.dev.configFrom := by
  unfold State.weirStart
  simp

@[simp] theorem pauseTx_configFrom (s : State) (k : Nat) (edge : Bool) : (s.pauseTx k edge).dev.configFrom = s.dev.configFrom := by
  unfold State.pauseTx
  simp

@[simp] theorem releaseBuffers_configFrom (s : State) (k : Nat) : (s.releaseBuffers k).dev.configFrom = s.dev.configFrom := rfl

@[simp] theorem copyDescriptors_configFrom (s : State) (k : Nat) : (s.copyDescriptors k).dev.configFrom = s.dev.configFrom :=
  foldl_configFrom (fun _ _ => by simp) ..

@[simp] theorem setLearned_configFrom (s : State) (sd : Side) (l : List Learned) :
    (s.setLearned sd l).dev.configFrom = s.dev.configFrom := by
  unfold State.setLearned
  split <;> rfl

@[simp] theorem learn_configFrom (s : State) (sd : Side) (partner port mac : Nat) (ip : Option Nat) :
    (s.learn sd partner port mac ip).dev.configFrom = s.dev.configFrom := by
  unfold State.learn
  simp

@[simp] theorem seeUnknown_configFrom (s : State) (sd : Side) (identity port : Nat) :
    (s.seeUnknown sd identity port).dev.configFrom = s.dev.configFrom := by
  unfold State.seeUnknown
  split <;> rfl

@[simp] theorem connSources_configFrom (s : State) (sd : Side) (n partner : Nat) :
    (s.connSources sd n partner).dev.configFrom = s.dev.configFrom := by
  unfold State.connSources
  simp [foldl_configFrom (fun _ _ => condition_configFrom ..)]

@[simp] theorem connEnter_configFrom (s : State) (sd : Side) (n : Nat) (st : ConnState) :
    (s.connEnter sd n st).dev.configFrom = s.dev.configFrom := by
  unfold State.connEnter
  simp

@[simp] theorem connReset_configFrom (s : State) (n : Nat) : (s.connReset n).dev.configFrom = s.dev.configFrom := by
  unfold State.connReset
  rw [connSources_configFrom, setConn_configFrom, connSources_configFrom, setConn_configFrom]

@[simp] theorem connResetAll_configFrom (s : State) : s.connResetAll.dev.configFrom = s.dev.configFrom :=
  foldl_configFrom connReset_configFrom ..

@[simp] theorem connLose_configFrom (s : State) (sd : Side) (n : Nat) : (s.connLose sd n).dev.configFrom = s.dev.configFrom := by
  unfold State.connLose
  simp

@[simp] theorem connLatched_configFrom (s : State) (sd : Side) (n cell : Nat) :
    (s.connLatched sd n cell).dev.configFrom = s.dev.configFrom := by
  unfold State.connLatched
  simp

@[simp] theorem setReqs_configFrom (s : State) (sd : Side) (chans : List Nat) (f : Nat → Bool) :
    (s.setReqs sd chans f).dev.configFrom = s.dev.configFrom :=
  foldl_configFrom (fun _ _ => by simp) ..

@[simp] theorem applyRequests_configFrom (s : State) (sd : Side) (n : Nat) :
    (s.applyRequests sd n).dev.configFrom = s.dev.configFrom := by
  unfold State.applyRequests
  dsimp only
  split <;> simp

@[simp] theorem boundarySide_configFrom (s : State) (sd : Side) (n : Nat) (st : CellState) (old : Container) (versionNew : Bool) :
    (s.boundarySide sd n st old versionNew).dev.configFrom = s.dev.configFrom := by
  unfold State.boundarySide
  split <;> simp

@[simp] theorem latchSide_configFrom (s : State) (sd : Side) (n p : Nat) :
    (s.latchSide sd n p).dev.configFrom = s.dev.configFrom := by
  unfold State.latchSide
  dsimp only
  split
  · rfl
  · split
    · rfl
    · rw [foldl_configFrom fun _ _ => connLatched_configFrom .., setCell_dev]

@[simp] theorem cellCheckpoint_configFrom (s : State) (sd : Side) (n : Nat) :
    (s.cellCheckpoint sd n).dev.configFrom = s.dev.configFrom := by
  unfold State.cellCheckpoint
  simp

@[simp] theorem finishRun_configFrom (s : State) (sd : Side) (n : Nat) (r : CellRun) (used : Nat) :
    (s.finishRun sd n r used).dev.configFrom = s.dev.configFrom := by
  unfold State.finishRun
  simp

@[simp] theorem reconSide_configFrom (s : State) (sd : Side) (n : Nat) (mine other : Option Machine.Half) (clean : Nat) (verdict : Option Bool) :
    (s.reconSide sd n mine other clean verdict).dev.configFrom = s.dev.configFrom := by
  unfold State.reconSide
  split <;> rfl

@[simp] theorem dieSample_configFrom (s : State) (c : Nat) (smp : LandSample) :
    (s.dieSample c smp).dev.configFrom = s.dev.configFrom := rfl

@[simp] theorem dieSilent_configFrom (s : State) (c : Nat) : (s.dieSilent c).dev.configFrom = s.dev.configFrom := rfl

theorem dieFrame_configFrom {take : State → Nat → Nat → State} (ht : ∀ s n d, (take s n d).dev.configFrom = s.dev.configFrom) (s : State) (c ty : Nat)
    (f : BitVec 40) (smp : LandSample) : (s.dieFrame c ty f smp take).dev.configFrom = s.dev.configFrom := by
  unfold State.dieFrame
  simp [ht]

@[simp] theorem groupChans_configFrom (s : State) (g : Nat) (f : DieCh → DieCh) :
    (s.groupChans g f).dev.configFrom = s.dev.configFrom := rfl

@[simp] theorem reject_configFrom (s : State) (reason : Nat) : (s.reject reason).dev.configFrom = s.dev.configFrom := by
  unfold State.reject
  simp

theorem transaction_configFrom {act : State → State} (ha : ∀ s, (act s).dev.configFrom = s.dev.configFrom) (s : State) (t : Txn) :
    (s.transaction t act).dev.configFrom = s.dev.configFrom := by
  unfold State.transaction
  simp [ha]

@[simp] theorem acceptRequest_configFrom (bytes : List Byte) (s : State) :
    (acceptRequest bytes s).dev.configFrom = s.dev.configFrom := by
  unfold acceptRequest
  simp

@[simp] theorem popRequest_configFrom (s : State) : s.popRequest.dev.configFrom = s.dev.configFrom := rfl

@[simp] theorem answerUnknown_configFrom (n : Nat) (s : State) : (s.answerUnknown n).dev.configFrom = s.dev.configFrom := by
  induction n generalizing s with
  | zero => rfl
  | succ n ih =>
    unfold State.answerUnknown
    split
    · rfl
    · split
      · rfl
      · simp [ih]

@[simp] theorem settle_configFrom (s : State) : s.settle.dev.configFrom = s.dev.configFrom := answerUnknown_configFrom ..

theorem serve_configFrom {act : Request → State → State} (ha : ∀ r s, (act r s).dev.configFrom = s.dev.configFrom) (s : State) (code : Nat)
    (form : Request → Bool) : (s.serve code form act).dev.configFrom = s.dev.configFrom := by
  unfold State.serve
  split
  · rfl
  · rw [settle_configFrom]
    repeat' split
    all_goals simp [ha]

@[simp] theorem fuseAnswer_configFrom (s : State) (j : RosJob) (status : Nat) (payload : List Byte) :
    (s.fuseAnswer j status payload).dev.configFrom = s.dev.configFrom := by
  unfold State.fuseAnswer
  simp

@[simp] theorem partyRefused_configFrom (s : State) (j : RosJob) : (s.partyRefused j).dev.configFrom = s.dev.configFrom := by
  unfold State.partyRefused
  split <;> simp

@[simp] theorem takeJob_configFrom (s : State) (j0 : RosJob) : (s.takeJob j0).dev.configFrom = s.dev.configFrom := by
  unfold State.takeJob
  dsimp only
  split <;> simp

@[simp] theorem askJob_configFrom (s : State) (j : RosJob) : (s.askJob j).dev.configFrom = s.dev.configFrom := by
  unfold State.askJob
  simp

@[simp] theorem drainJobs_configFrom (n : Nat) (s : State) : (s.drainJobs n).dev.configFrom = s.dev.configFrom := by
  induction n generalizing s with
  | zero => rfl
  | succ n ih =>
    unfold State.drainJobs
    split
    · rfl
    · split
      · rfl
      · simp [ih]

@[simp] theorem senseSources_configFrom (s : State) (w : Nat) : (s.senseSources w).dev.configFrom = s.dev.configFrom := by
  unfold State.senseSources
  simp

@[simp] theorem endJob_configFrom (s : State) (j : RosJob) (retries : Nat) (ok : Bool) (final : Sense) :
    (s.endJob j retries ok final).dev.configFrom = s.dev.configFrom := by
  unfold State.endJob
  dsimp only
  split <;> simp

@[simp] theorem askTl_configFrom (s : State) : s.askTl.dev.configFrom = s.dev.configFrom := by
  unfold State.askTl
  repeat' split
  all_goals simp

@[simp] theorem askEpoch_configFrom (s : State) : s.askEpoch.dev.configFrom = s.dev.configFrom := by
  unfold State.askEpoch
  simp

@[simp] theorem takeDamage_configFrom (s : State) (ds : List RecordDamage) : (s.takeDamage ds).dev.configFrom = s.dev.configFrom := rfl

@[simp] theorem readBack_configFrom (s : State) (area : Nat) (rs : List OxbRec) :
    (s.readBack area rs).dev.configFrom = s.dev.configFrom :=
  foldl_configFrom (fun _ _ => by simp) ..

@[simp] theorem writeCopies_configFrom (s : State) : s.writeCopies.dev.configFrom = s.dev.configFrom := by
  unfold State.writeCopies
  split <;> rfl

@[simp] theorem nextBurst_configFrom (s : State) : s.nextBurst.dev.configFrom = s.dev.configFrom :=
  foldl_configFrom (fun _ _ => by split <;> simp) ..

@[simp] theorem startFlush_configFrom (s : State) (k : FlushKind) : (s.startFlush k).dev.configFrom = s.dev.configFrom := by
  unfold State.startFlush
  simp

@[simp] theorem writeRecord_configFrom (s : State) (k : FlushKind) (r : OxbRec) :
    (s.writeRecord k r).dev.configFrom = s.dev.configFrom :=
  foldl_configFrom (fun _ _ => by simp) ..

@[simp] theorem burst_configFrom (s : State) : s.burst.dev.configFrom = s.dev.configFrom := by
  unfold State.burst
  split
  · rfl
  · split
    · rfl
    · rw [nextBurst_configFrom, foldl_configFrom fun _ _ => writeRecord_configFrom ..]

@[simp] theorem tickTl_configFrom (s : State) : s.tickTl.dev.configFrom = s.dev.configFrom := by
  unfold State.tickTl
  simp

@[simp] theorem tickFlush_configFrom (s : State) : s.tickFlush.dev.configFrom = s.dev.configFrom := by
  unfold State.tickFlush
  dsimp only
  split
  · exact tickTl_configFrom s
  · rw [foldl_configFrom fun _ _ => burst_configFrom _, tickTl_configFrom]

@[simp] theorem storeFails_configFrom (s : State) (code : Nat) : (s.storeFails code).dev.configFrom = s.dev.configFrom := by
  unfold State.storeFails
  simp

@[simp] theorem verifyFailures_configFrom (s : State) (blocks : List (Nat × Nat)) :
    (s.verifyFailures blocks).dev.configFrom = s.dev.configFrom :=
  foldl_configFrom (fun _ _ => by simp) ..

@[simp] theorem writeAll_configFrom (s : State) (k : FlushKind) : (s.writeAll k).dev.configFrom = s.dev.configFrom :=
  foldl_configFrom (fun _ _ => by simp) ..

@[simp] theorem endFlush_configFrom (s : State) (k : FlushKind) (verified : Nat) :
    (s.endFlush k verified).dev.configFrom = s.dev.configFrom := by
  unfold State.endFlush
  split
  · rw [writeCopies_configFrom, closeWaiting_configFrom, requeue_configFrom, foldl_configFrom fun _ _ => writeRecord_configFrom ..]
  · simp

@[simp] theorem takeLifetime_configFrom (s : State) (secs cycs : List Nat) :
    (s.takeLifetime secs cycs).dev.configFrom = s.dev.configFrom := by
  unfold State.takeLifetime
  simp

@[simp] theorem countEarly_configFrom (s : State) (i inst : Nat) : (s.countEarly i inst).dev.configFrom = s.dev.configFrom := by
  unfold State.countEarly
  dsimp only
  repeat' split
  all_goals simp

@[simp] theorem mount_configFrom (s : State) : s.mount.dev.configFrom = s.dev.configFrom := by
  unfold State.mount
  have early : ∀ (s : State) (l : List (Nat × Nat)), (l.foldl (fun s (e : Nat × Nat) => s.countEarly e.1 e.2) s).dev.configFrom = s.dev.configFrom :=
    fun s l => foldl_configFrom (fun _ _ => countEarly_configFrom ..) ..
  have more : ∀ (s : State) (l : Tab Nat), (l.foldl (fun s e => (List.range e.2).foldl (fun s _ => s.countEarly e.1 0xFFFF) s) s).dev.configFrom =
      s.dev.configFrom :=
    fun s l => foldl_configFrom (fun s e => foldl_configFrom (fun _ _ => countEarly_configFrom ..) ..) ..
  simp only [writeCopies_configFrom, ite_configFrom, raise_configFrom, ite_self, more, early, marker_configFrom, requeue_configFrom,
    readBack_configFrom]

theorem chipReset_configFrom (s : State) (cause : Nat) : (s.chipReset cause).dev.configFrom = none := rfl

theorem powerLost_configFrom (s : State) : s.powerLost.dev.configFrom = none := rfl

@[simp] theorem shedDomains_configFrom (s : State) : s.shedDomains.dev.configFrom = s.dev.configFrom := rfl

@[simp] theorem powerUpDomains_configFrom (s : State) : s.powerUpDomains.dev.configFrom = s.dev.configFrom :=
  foldl_configFrom (fun _ _ => by simp) ..

@[simp] theorem clockCheck_configFrom (s : State) (pllLocked : Bool) (ratioDev : Int) :
    (s.clockCheck pllLocked ratioDev).dev.configFrom = s.dev.configFrom := by
  unfold State.clockCheck
  simp

@[simp] theorem signCert_configFrom (s : State) (c : Container) (x : Admitted) (seq : Nat) :
    (s.signCert c x seq).2.dev.configFrom = s.dev.configFrom := rfl

@[simp] theorem reissueCert_configFrom (s : State) : s.reissueCert.dev.configFrom = s.dev.configFrom := by
  unfold State.reissueCert
  split <;> simp

@[simp] theorem coverPass_configFrom (s : State) (c sel v : Nat) : (s.coverPass c sel v).dev.configFrom = s.dev.configFrom := by
  unfold State.coverPass
  simp

@[simp] theorem markUnusable_configFrom (s : State) (u : Nat) : (s.markUnusable u).dev.configFrom = s.dev.configFrom := by
  unfold State.markUnusable
  simp

@[simp] theorem clearUnusable_configFrom (s : State) (u : Nat) : (s.clearUnusable u).dev.configFrom = s.dev.configFrom := by
  unfold State.clearUnusable
  simp

@[simp] theorem unitResult_configFrom (s : State) (u res : Nat) : (s.unitResult u res).dev.configFrom = s.dev.configFrom := rfl

@[simp] theorem countSkip_configFrom (s : State) (u : Nat) : (s.countSkip u).dev.configFrom = s.dev.configFrom := by
  unfold State.countSkip
  simp

@[simp] theorem finishSelfTest_configFrom (s : State) : s.finishSelfTest.dev.configFrom = s.dev.configFrom := by
  unfold State.finishSelfTest
  split <;> simp

@[simp] theorem selfTestStep_configFrom (s : State) (t : SelfTest) (sel : Nat) :
    (s.selfTestStep t sel).dev.configFrom = s.dev.configFrom := by
  unfold State.selfTestStep
  simp

@[simp] theorem judgeSlice_configFrom (s : State) : s.judgeSlice.dev.configFrom = s.dev.configFrom := by
  unfold State.judgeSlice
  split
  · rfl
  · extract_lets +onlyGivenNames u stopped aborted got want pass coverage riffle s0 asked k
    split
    · cases asked <;> simp [s0]
    · split
      · extract_lets +onlyGivenNames s1 s2 s3 params s4
        have h3 : s3.dev.configFrom = s.dev.configFrom := by simp [s3, s2, s1, s0]
        have h4 : s4.dev.configFrom = s.dev.configFrom := by
          simp only [s4]
          repeat' split
          all_goals exact h3
        cases asked
        · exact h4
        · exact (selfTestStep_configFrom ..).trans h4
      · split <;> cases asked <;> simp [s0]

@[simp] theorem sliceFrame_configFrom (s : State) (c : Nat) (icode : Nat) (mid noData : Bool) :
    (s.sliceFrame c icode mid noData).dev.configFrom = s.dev.configFrom := by
  unfold State.sliceFrame
  split <;> simp

@[simp] theorem skipSlice_configFrom (s : State) (c sel : Nat) (forRequest : Bool) :
    (s.skipSlice c sel forRequest).dev.configFrom = s.dev.configFrom := by
  unfold State.skipSlice
  dsimp only
  split <;> simp

@[simp] theorem advanceCoupler_configFrom (s : State) (c : Nat) : (s.advanceCoupler c).dev.configFrom = s.dev.configFrom := rfl

@[simp] theorem watchPulse_configFrom (s : State) (h : Nat) : (s.watchPulse h).dev.configFrom = s.dev.configFrom := by
  unfold State.watchPulse
  dsimp only
  repeat' split
  all_goals simp

@[simp] theorem endSlices_configFrom (s : State) : s.endSlices.dev.configFrom = s.dev.configFrom :=
  foldl_configFrom (fun _ _ => by simp) ..

@[simp] theorem readback_configFrom (s : State) (sd : Side) (c : Nat) (x : StatusFrame) :
    (s.readback sd c x).dev.configFrom = s.dev.configFrom := by
  unfold State.readback
  repeat' split
  all_goals simp

@[simp] theorem offStateCheck_configFrom (s : State) (sd : Side) (c : Nat) :
    (s.offStateCheck sd c).dev.configFrom = s.dev.configFrom := by
  unfold State.offStateCheck
  simp

@[simp] theorem onStateCheck_configFrom (s : State) (sd : Side) (c : Nat) :
    (s.onStateCheck sd c).dev.configFrom = s.dev.configFrom := by
  unfold State.onStateCheck
  simp

@[simp] theorem noStatus_configFrom (s : State) (sd : Side) (c : Nat) (marked : Bool) :
    (s.noStatus sd c marked).dev.configFrom = s.dev.configFrom := by
  unfold State.noStatus
  simp

@[simp] theorem sampleStatus_configFrom (s : State) (sd : Side) (c : Nat) (x : StatusFrame) :
    (s.sampleStatus sd c x).dev.configFrom = s.dev.configFrom := by
  unfold State.sampleStatus
  simp

@[simp] theorem capture_configFrom (s : State) (p kind index : Nat) (bad : Bool) :
    (s.capture p kind index bad).dev.configFrom = s.dev.configFrom := by
  unfold State.capture
  simp

@[simp] theorem pairGroupSilence_configFrom (s : State) (sd : Side) (role g : Nat) :
    (s.pairGroupSilence sd role g).dev.configFrom = s.dev.configFrom := by
  unfold State.pairGroupSilence
  simp

@[simp] theorem pairFrame_configFrom (s : State) (sd : Side) (c : Nat) (marked off : Bool) (v : View) (gv : GroupView) (ok : View → View) (gok : GroupView → GroupView) (role : Nat) :
    (s.pairFrame sd c marked off v gv ok gok role).dev.configFrom = s.dev.configFrom := by
  unfold State.pairFrame
  simp

@[simp] theorem pairFrames_configFrom (s : State) (sd : Side) (c : Nat) (marked : Bool) (dis : List Nat) (v : View) (gv : GroupView) (ok : View → View) (gok : GroupView → GroupView) :
    (s.pairFrames sd c marked dis v gv ok gok).dev.configFrom = s.dev.configFrom :=
  foldl_configFrom (fun _ _ => by simp) ..

@[simp] theorem pairSilence_configFrom (s : State) (sd : Side) (c : Nat) (marked : Bool) (v : View) :
    (s.pairSilence sd c marked v).dev.configFrom = s.dev.configFrom :=
  foldl_configFrom (fun _ _ => by dsimp only; split <;> split <;> simp) ..

@[simp] theorem groupBack_configFrom (s : State) (sd : Side) (g : Nat) : (s.groupBack sd g).dev.configFrom = s.dev.configFrom := by
  unfold State.groupBack
  simp

@[simp] theorem goodStatus_configFrom (s : State) (sd : Side) (c : Nat) (cmd : BitVec 40) (x : StatusFrame) :
    (s.goodStatus sd c cmd x).dev.configFrom = s.dev.configFrom := by
  unfold State.goodStatus
  simp

@[simp] theorem couplerBack_configFrom (s : State) (sd : Side) (c : Nat) (cmd : BitVec 40) (x : StatusFrame) :
    (s.couplerBack sd c cmd x).dev.configFrom = s.dev.configFrom := by
  unfold State.couplerBack
  simp

@[simp] theorem monitoredSources_configFrom (s : State) (sd : Side) (c : Nat) :
    (s.monitoredSources sd c).dev.configFrom = s.dev.configFrom := by
  unfold State.monitoredSources
  simp

@[simp] theorem mapViews_configFrom (s : State) (sd : Side) (c : Nat) (f : View → View) :
    (s.mapViews sd c f).dev.configFrom = s.dev.configFrom := by
  unfold State.mapViews
  dsimp only
  split
  · rfl
  · exact foldl_configFrom (fun _ _ => by rfl) ..

@[simp] theorem enterMaintenance_configFrom (s : State) (k : Maint) (code : Option CfgRefusal) :
    (s.enterMaintenance k code).dev.configFrom = s.dev.configFrom := by
  unfold State.enterMaintenance
  simp

@[simp] theorem enterVerify_configFrom (s : State) (cause : VerifyCause) : (s.enterVerify cause).dev.configFrom = s.dev.configFrom := by
  unfold State.enterVerify
  rw [foldl_configFrom (fun _ _ => by split <;> rfl), connResetAll_configFrom, enter_configFrom]

@[simp] theorem startCells_configFrom (s : State) : s.startCells.dev.configFrom = s.dev.configFrom :=
  foldl_configFrom (fun _ _ => by simp) ..

@[simp] theorem enterRun_configFrom (s : State) : s.enterRun.dev.configFrom = s.dev.configFrom := by
  unfold State.enterRun
  rw [askEpoch_configFrom, foldl_configFrom (fun _ _ => by split <;> rfl), startCells_configFrom, enter_configFrom]

@[simp] theorem formReady_configFrom (s : State) (sd : Side) : (s.formReady sd).dev.configFrom = s.dev.configFrom := rfl

@[simp] theorem formsJudged_configFrom (s : State) : s.formsJudged.dev.configFrom = s.dev.configFrom := by
  unfold State.formsJudged
  dsimp only
  split <;> simp

@[simp] theorem placeMoved_configFrom (s : State) (sd : Side) (from_ : Nat) :
    (s.placeMoved sd from_).dev.configFrom = s.dev.configFrom := by
  unfold State.placeMoved
  simp

@[simp] theorem placeRetired_configFrom (s : State) : s.placeRetired.dev.configFrom = s.dev.configFrom := by
  have raises : ∀ (s : State) (ns : List Nat), (ns.foldl (fun s n => s.raise (bCELL n) (cellIx n 4) n whoDev) s).dev.configFrom =
      s.dev.configFrom := fun s ns => foldl_configFrom (fun _ _ => raise_configFrom ..) ..
  refine foldl_configFrom (fun s p => ?_) ..
  split <;> simp [raises]

@[simp] theorem overdueRaise_configFrom (s : State) (c i bound : Nat) :
    (s.overdueRaise c i bound).dev.configFrom = s.dev.configFrom := by
  unfold State.overdueRaise
  simp

@[simp] theorem logicCheck_configFrom (s : State) (i : Nat) (ok : Bool) : (s.logicCheck i ok).dev.configFrom = s.dev.configFrom := by
  unfold State.logicCheck
  simp

@[simp] theorem groupCouplers_configFrom (s : State) (g k : Nat) : (s.groupCouplers g k).dev.configFrom = s.dev.configFrom := by
  unfold State.groupCouplers
  rw [foldl_configFrom]
  intro s i
  split <;> simp

@[simp] theorem unitAnswer_configFrom (s : State) (kind index res sig expected : Nat) :
    (s.unitAnswer kind index res sig expected).dev.configFrom = s.dev.configFrom := by
  unfold State.unitAnswer
  split <;> simp

@[simp] theorem refuseInUse_configFrom (s : State) (kind index : Nat) :
    (s.refuseInUse kind index).dev.configFrom = s.dev.configFrom := by
  unfold State.refuseInUse
  simp

@[simp] theorem skipGroup_configFrom (s : State) (g : Nat) : (s.skipGroup g).dev.configFrom = s.dev.configFrom := by
  unfold State.skipGroup
  simp

@[simp] theorem calEnd_configFrom (s : State) : s.calEnd.dev.configFrom = s.dev.configFrom := by
  unfold State.calEnd
  split <;> simp

@[simp] theorem calDrop_configFrom (s : State) : s.calDrop.dev.configFrom = s.dev.configFrom := by
  unfold State.calDrop
  split <;> simp

@[simp] theorem takeOverRuns_configFrom (s : State) (sd : Side) (ns : List Nat) :
    (s.takeOverRuns sd ns).dev.configFrom = s.dev.configFrom :=
  foldl_configFrom (fun _ _ => by simp) ..

@[simp] theorem abandonHandover_configFrom (s : State) : s.abandonHandover.dev.configFrom = s.dev.configFrom := by
  unfold State.abandonHandover
  split <;> simp

@[simp] theorem endStbWork_configFrom (s : State) : s.endStbWork.dev.configFrom = s.dev.configFrom := by
  unfold State.endStbWork
  split
  · rfl
  · exact (congrArg DevSt.configFrom rfl).trans (foldl_configFrom (fun _ _ => by rfl) ..)
  · rfl

@[simp] theorem standIn_configFrom (s : State) (role : Nat) : (s.standIn role).dev.configFrom = s.dev.configFrom := by
  unfold State.standIn
  dsimp only
  split <;> simp

@[simp] theorem moveCells_configFrom (s : State) (sd : Side) (from_ : Nat) :
    (s.moveCells sd from_).dev.configFrom = s.dev.configFrom := by
  unfold State.moveCells
  simp

@[simp] theorem noSupervisor_configFrom (s : State) : s.noSupervisor.dev.configFrom = s.dev.configFrom :=
  foldl_configFrom (fun _ _ => by simp) ..

@[simp] theorem withoutStb_configFrom (s : State) (role : Nat) : (s.withoutStb role).dev.configFrom = s.dev.configFrom := by
  unfold State.withoutStb
  split
  · simp
  · split
    · rfl
    · split
      · simp
      · exact foldl_configFrom (fun _ _ => raise_configFrom ..) ..

@[simp] theorem retirePair_configFrom (s : State) (p : Nat) : (s.retirePair p).dev.configFrom = s.dev.configFrom := by
  unfold State.retirePair
  dsimp only
  repeat' split
  all_goals simp

@[simp] theorem preferLower_configFrom (s : State) (p : Nat) : (s.preferLower p).dev.configFrom = s.dev.configFrom := by
  unfold State.preferLower
  split <;> simp

@[simp] theorem abortRequested_configFrom (s : State) : s.abortRequested.dev.configFrom = s.dev.configFrom := by
  unfold State.abortRequested
  dsimp only
  repeat' split
  all_goals simp

@[simp] theorem rerun_configFrom (s : State) (sd : Side) (n : Nat) : (s.rerun sd n).dev.configFrom = s.dev.configFrom := by
  unfold State.rerun
  dsimp only
  split <;> simp

@[simp] theorem tickRecordLost_configFrom (s : State) (sd : Side) (role : Nat) (r : TickRecord) :
    (s.tickRecordLost sd role r).dev.configFrom = s.dev.configFrom := by
  unfold State.tickRecordLost
  dsimp only
  rw [foldl_configFrom fun _ _ => by rfl, foldl_configFrom fun _ _ => by rfl, foldl_configFrom fun _ _ => by rfl,
    foldl_configFrom fun _ _ => by split <;> rfl]

@[simp] theorem moveRestored_configFrom (s : State) (m : Move) (rep : RestoreReport) :
    (s.moveRestored m rep).dev.configFrom = s.dev.configFrom := by
  unfold State.moveRestored
  dsimp only
  split
  · rfl
  · exact foldl_configFrom (fun _ _ => event_configFrom ..) ..

@[simp] theorem pairRestored_configFrom (s : State) (p : Nat) (rep : RestoreReport) :
    (s.pairRestored p rep).dev.configFrom = s.dev.configFrom := by
  have handled : ∀ (s : State) (l : List Nat), (l.foldl State.faultHandler s).dev.configFrom = s.dev.configFrom :=
    fun s l => foldl_configFrom faultHandler_configFrom ..
  have events : ∀ (s : State) role (l : List Nat), (l.foldl (fun s n => s.event role 3 n) s).dev.configFrom = s.dev.configFrom :=
    fun s role l => foldl_configFrom (fun _ _ => event_configFrom ..) ..
  unfold State.pairRestored
  dsimp only
  split
  · simp [handled]
  · split
    · split <;> simp [events, handled]
    · simp [events, handled]

@[simp] theorem refuseCfg_configFrom (s : State) (r : Request) (x : CfgRefusal) :
    (s.refuseCfg r x).dev.configFrom = s.dev.configFrom := rfl

@[simp] theorem startTranslations_configFrom (s : State) : s.startTranslations.dev.configFrom = s.dev.configFrom := rfl

@[simp] theorem dropTranslations_configFrom (s : State) : s.dropTranslations.dev.configFrom = s.dev.configFrom := rfl

@[simp] theorem commitItems_configFrom (s : State) (old : Option Container) (new : Container) :
    (s.commitItems old new).dev.configFrom = s.dev.configFrom := rfl

@[simp] theorem commitMarker_configFrom (s : State) (sequence : Nat) (hash : List Byte) :
    (s.commitMarker sequence hash).dev.configFrom = s.dev.configFrom := by
  unfold State.commitMarker
  simp

@[simp] theorem renumber_configFrom (s : State) (l : LiveCommit) : (s.renumber l).dev.configFrom = s.dev.configFrom := rfl

@[simp] theorem withdrawLive_configFrom (s : State) : s.withdrawLive.dev.configFrom = s.dev.configFrom := rfl

theorem commitNow_configFrom (s : State) (a : Admission) (x : Admitted) : (s.commitNow a x).dev.configFrom = none := by
  unfold State.commitNow
  rw [enterVerify_configFrom, answer_configFrom, commitMarker_configFrom]

@[simp] theorem commitLive_configFrom (s : State) (a : Admission) (x : Admitted) (run : RunCfg) :
    (s.commitLive a x run).dev.configFrom = s.dev.configFrom := by
  have clear : ∀ (s : State) (ns : List Nat), (ns.foldl (fun (s : State) n => s.setLine n { s.line n with record := none }) s).dev.configFrom =
      s.dev.configFrom := fun s ns => foldl_configFrom (fun _ _ => by rfl) ..
  have put : ∀ (s : State) (l : List (Nat × CommitRecord)),
      (l.foldl (fun s e => s.setLine e.1 { s.line e.1 with record := some e.2 }) s).dev.configFrom = s.dev.configFrom :=
    fun s l => foldl_configFrom (fun _ _ => by rfl) ..
  unfold State.commitLive
  dsimp only
  rw [answer_configFrom, calDrop_configFrom, ite_configFrom]
  simp only [put, ite_self]
  split <;> simp [clear]

@[simp] theorem tickCommit_configFrom (s : State) (x : PendingTick) (l : LiveCommit) :
    (s.tickCommit x l).dev.configFrom = s.dev.configFrom := by
  unfold State.tickCommit
  rw [placeRetired_configFrom, rejudge_configFrom, ite_configFrom, reissueCert_configFrom, ite_self, commitMarker_configFrom]
  rfl

@[simp] theorem lastTick_configFrom (s : State) (l : LiveCommit) : (s.lastTick l).dev.configFrom = s.dev.configFrom := tickCommit_configFrom ..

@[simp] theorem finishLive_configFrom (s : State) : s.finishLive.dev.configFrom = s.dev.configFrom := by
  unfold State.finishLive
  split <;> simp

@[simp] theorem closeLive_configFrom (s : State) : s.closeLive.dev.configFrom = s.dev.configFrom := by
  unfold State.closeLive
  split
  · rfl
  · dsimp only
    rw [foldl_configFrom fun _ _ => changeChannel_configFrom .., ite_configFrom, lastTick_configFrom, ite_self]

@[simp] theorem endS3_configFrom (s : State) : s.endS3.dev.configFrom = s.dev.configFrom := rfl

@[simp] theorem freeShadows_configFrom (s : State) : s.freeShadows.dev.configFrom = s.dev.configFrom := by
  unfold State.freeShadows
  simp

@[simp] theorem putStaging_configFrom (s : State) (t : Staging) : (s.putStaging t).dev.configFrom = s.dev.configFrom := rfl

@[simp] theorem activate_configFrom (s : State) (i : Nat) : (s.activate i).dev.configFrom = s.dev.configFrom := rfl

@[simp] theorem bundleMarker_configFrom (s : State) (bank : Nat) (m : Manifest) :
    (s.bundleMarker bank m).dev.configFrom = s.dev.configFrom := by
  unfold State.bundleMarker
  simp

@[simp] theorem recordBundle_configFrom (s : State) (bank : Nat) (m : Manifest) :
    (s.recordBundle bank m).dev.configFrom = s.dev.configFrom := by
  unfold State.recordBundle
  split <;> rfl

theorem activateByReset_configFrom (s : State) (r : Request) (m : Manifest) : (s.activateByReset r m).dev.configFrom = none := rfl

@[simp] theorem startHandover_configFrom (s : State) (r : Request) (old new : Manifest) :
    (s.startHandover r old new).dev.configFrom = s.dev.configFrom := rfl

@[simp] theorem refuseBegun_configFrom (s : State) : s.refuseBegun.dev.configFrom = s.dev.configFrom := by
  unfold State.refuseBegun
  dsimp only
  rw [foldl_configFrom fun _ _ => answer_configFrom ..]

@[simp] theorem swapRoles_configFrom (s : State) : s.swapRoles.dev.configFrom = s.dev.configFrom := rfl

@[simp] theorem advanceVt_configFrom (s : State) (sd : Side) (n : Nat) : (s.advanceVt sd n).dev.configFrom = s.dev.configFrom := by
  unfold State.advanceVt
  split <;> rfl

@[simp] theorem queueData_configFrom (s : State) (f : List Assembled) : (s.queueData f).dev.configFrom = s.dev.configFrom := by
  unfold State.queueData
  split <;> simp

@[simp] theorem controlSent_configFrom (s : State) (sd : Side) (n : Nat) : (s.controlSent sd n).dev.configFrom = s.dev.configFrom := by
  unfold State.controlSent
  simp

@[simp] theorem sendControl_configFrom (s : State) (n : Nat) : (s.sendControl n).dev.configFrom = s.dev.configFrom := by
  unfold State.sendControl
  dsimp only
  split <;> simp

@[simp] theorem discardStale_configFrom (s : State) (port before : Nat) :
    (s.discardStale port before).dev.configFrom = s.dev.configFrom := by
  unfold State.discardStale
  refine (foldl_configFrom (fun s f => ?_) _ _).trans (congrArg DevSt.configFrom (setPort_dev ..))
  split
  · exact foldl_configFrom (fun _ _ => event_configFrom ..) ..
  · exact event_configFrom ..

@[simp] theorem pauseOver_configFrom (s : State) (port : Nat) : (s.pauseOver port).dev.configFrom = s.dev.configFrom := by
  unfold State.pauseOver
  split <;> simp

@[simp] theorem dropBuffer_configFrom (s : State) (port id : Nat) : (s.dropBuffer port id).dev.configFrom = s.dev.configFrom := by
  unfold State.dropBuffer
  simp

@[simp] theorem takeDescriptor_configFrom (s : State) (sd : Side) (port : Nat) (d : Descriptor) :
    (s.takeDescriptor sd port d).dev.configFrom = s.dev.configFrom := rfl

theorem onCaptured_configFrom {act : Descriptor → State → State} (ha : ∀ d s, (act d s).dev.configFrom = s.dev.configFrom) (s : State) (sd : Side)
    (port : Nat) (ft : Nat → Bool) : (s.onCaptured sd port ft act).dev.configFrom = s.dev.configFrom := by
  unfold State.onCaptured
  split
  · rfl
  · split
    · rfl
    · rw [ha, takeDescriptor_configFrom]

@[simp] theorem crcReject_configFrom (s : State) (sd : Side) (n : Nat) : (s.crcReject sd n).dev.configFrom = s.dev.configFrom := by
  unfold State.crcReject
  simp

@[simp] theorem dataAccepted_configFrom (s : State) (sd : Side) (n d : Nat) (p : DataPdu) :
    (s.dataAccepted sd n d p).dev.configFrom = s.dev.configFrom := by
  unfold State.dataAccepted
  simp

@[simp] theorem announceAt_configFrom (s : State) (sd : Side) (equal : Bool) (gens : Nat) (n : Nat) :
    (s.announceAt sd equal gens n).dev.configFrom = s.dev.configFrom := by
  unfold State.announceAt
  dsimp only
  repeat' split
  all_goals simp

@[simp] theorem openAccepted_configFrom (s : State) (sd : Side) (n port : Nat) (ds : Descriptor) (p : CtlPdu) :
    (s.openAccepted sd n port ds p).dev.configFrom = s.dev.configFrom := by
  unfold State.openAccepted
  dsimp only
  split <;> simp

@[simp] theorem searchTook_configFrom (s : State) (sd : Side) (count : Nat) :
    (s.searchTook sd count).dev.configFrom = s.dev.configFrom := by
  unfold State.searchTook
  split <;> rfl

@[simp] theorem oxbReadBack_configFrom (s : State) (area first count : Nat) :
    (s.oxbReadBack area first count).dev.configFrom = s.dev.configFrom := by
  unfold State.oxbReadBack
  simp

@[simp] theorem holdReset_configFrom (s : State) : s.holdReset.dev.configFrom = s.dev.configFrom := rfl

@[simp] theorem warningOver_configFrom (s : State) : s.warningOver.dev.configFrom = s.dev.configFrom := by
  unfold State.warningOver
  simp

@[simp] theorem lockLost_configFrom (s : State) : s.lockLost.dev.configFrom = s.dev.configFrom := by
  unfold State.lockLost
  repeat' split
  all_goals simp

@[simp] theorem judgeRatio_configFrom (s : State) (outFive outTwo : Bool) :
    (s.judgeRatio outFive outTwo).dev.configFrom = s.dev.configFrom := by
  unfold State.judgeRatio
  simp

@[simp] theorem selectIr_configFrom (s : State) (code : Nat) (dr : Word) : (s.selectIr code dr).dev.configFrom = s.dev.configFrom := by
  unfold State.selectIr
  split <;> rfl

@[simp] theorem boundaryScan_configFrom (s : State) (code : Nat) (scanIn : BitVec 36) :
    (s.boundaryScan code scanIn).dev.configFrom = s.dev.configFrom := by
  unfold State.boundaryScan
  simp

@[simp] theorem pulseVerdict_configFrom (s : State) (sd : Side) (h : Nat) (r : PulseRun) (eval : List Seen) :
    (s.pulseVerdict sd h r eval).1.dev.configFrom = s.dev.configFrom := by
  unfold State.pulseVerdict
  dsimp only
  repeat' split
  all_goals simp

@[simp] theorem fedInput_configFrom (s : State) (sd : Side) (pre eval : List Seen) (c : Nat) :
    (s.fedInput sd pre eval c).dev.configFrom = s.dev.configFrom := by
  unfold State.fedInput
  simp

@[simp] theorem rosCmd_configFrom (s : State) (k : RosOpKind) (word target : Nat) (data : DWord) :
    (s.rosCmd k word target data).dev.configFrom = s.dev.configFrom := by
  unfold State.rosCmd
  simp

@[simp] theorem rosCmdOther_configFrom (s : State) (v : Word) : (s.rosCmdOther v).dev.configFrom = s.dev.configFrom := by
  unfold State.rosCmdOther
  simp

@[simp] theorem sensingSources_configFrom (s : State) : s.sensingSources.dev.configFrom = s.dev.configFrom :=
  foldl_configFrom (fun _ _ => by simp) ..

@[simp] theorem agreeImage_configFrom (s : State) (dis : List Disagreement) (p : Nat) :
    (s.agreeImage dis p).dev.configFrom = s.dev.configFrom := by
  unfold State.agreeImage
  split <;> rfl

@[simp] theorem agreePair_configFrom (s : State) (dis : List Disagreement) (p : Nat) :
    (s.agreePair dis p).dev.configFrom = s.dev.configFrom := by
  unfold State.agreePair
  dsimp only
  rw [foldl_configFrom fun _ _ => capture_configFrom .., foldl_configFrom fun _ _ => capture_configFrom .., agreeImage_configFrom]

@[simp] theorem flipImage_configFrom (s : State) : s.flipImage.dev.configFrom = s.dev.configFrom := by
  unfold State.flipImage
  simp

@[simp] theorem captureRequests_configFrom (s : State) (dis : List Disagreement) :
    (s.captureRequests dis).dev.configFrom = s.dev.configFrom := by
  unfold State.captureRequests
  split <;> rfl

@[simp] theorem takeRun_configFrom (s : State) : s.takeRun.dev.configFrom = s.dev.configFrom := by
  unfold State.takeRun
  simp

@[simp] theorem captureWindow_configFrom (s : State) (dis : List Disagreement) (k : Nat) (sd : Side) :
    (s.captureWindow dis k sd).dev.configFrom = s.dev.configFrom := by
  unfold State.captureWindow
  split <;> rfl

@[simp] theorem dropCaptured_configFrom (s : State) (k : Nat) (sd : Side) :
    (s.dropCaptured k sd).dev.configFrom = s.dev.configFrom := by
  unfold State.dropCaptured
  split <;> rfl

@[simp] theorem tickWeir_configFrom (s : State) (dis : List Disagreement) : (s.tickWeir dis).dev.configFrom = s.dev.configFrom := by
  unfold State.tickWeir
  split
  · rfl
  · refine foldl_configFrom (fun s k => ?_) ..
    rw [pauseTx_configFrom, copyDescriptors_configFrom, releaseBuffers_configFrom, dropCaptured_configFrom, dropCaptured_configFrom,
      captureWindow_configFrom, captureWindow_configFrom]

@[simp] theorem tickChanges_configFrom (s : State) : s.tickChanges.dev.configFrom = s.dev.configFrom := by
  unfold State.tickChanges
  dsimp only
  split
  · rfl
  · rw [foldl_configFrom fun _ _ => connReset_configFrom .., foldl_configFrom fun _ _ => changeChannel_configFrom ..]

@[simp] theorem tickBits_configFrom (s : State) (sd : Side) : (s.tickBits sd).dev.configFrom = s.dev.configFrom := by
  unfold State.tickBits
  dsimp only
  refine foldl_configFrom (fun s c => ?_) ..
  exact (foldl_configFrom (fun _ _ => by rfl) _ _).trans (congrArg DevSt.configFrom (setView_dev ..))

@[simp] theorem tickCurrent_configFrom (s : State) (sd : Side) (g : Nat) : (s.tickCurrent sd g).dev.configFrom = s.dev.configFrom := rfl

@[simp] theorem tickField_configFrom (s : State) : s.tickField.dev.configFrom = s.dev.configFrom := by
  unfold State.tickField
  split
  · rfl
  · rw [foldl_configFrom fun _ _ => by simp, tickBits_configFrom, tickBits_configFrom]

@[simp] theorem watchReset_configFrom (s : State) (sd : Side) (n : Nat) : (s.watchReset sd n).dev.configFrom = s.dev.configFrom := by
  unfold State.watchReset
  simp

@[simp] theorem takeLate_configFrom (s : State) (sd : Side) (n : Nat) : (s.takeLate sd n).dev.configFrom = s.dev.configFrom := by
  unfold State.takeLate
  simp

@[simp] theorem tickTakeover_configFrom (s : State) : s.tickTakeover.dev.configFrom = s.dev.configFrom := by
  have late : ∀ (s : State) sd (ns : List Nat), (ns.foldl (fun s n => s.takeLate sd n) s).dev.configFrom = s.dev.configFrom :=
    fun s sd ns => foldl_configFrom (fun _ _ => takeLate_configFrom ..) ..
  unfold State.tickTakeover
  dsimp only
  rw [foldl_configFrom, foldl_configFrom]
  · intro s m
    split <;> simp [late]
  · intro s role
    split
    · rfl
    · dsimp only
      split <;> simp [late]

@[simp] theorem flipMirrors_configFrom (s : State) : s.flipMirrors.dev.configFrom = s.dev.configFrom := rfl

@[simp] theorem tickCells_configFrom (s : State) : s.tickCells.dev.configFrom = s.dev.configFrom := by
  unfold State.tickCells
  rw [flipMirrors_configFrom, foldl_configFrom fun _ _ => by simp, tickTakeover_configFrom]

@[simp] theorem tickEdge_configFrom (s : State) (vsupMv : Nat) (tj : Int) :
    (s.tickEdge vsupMv tj).dev.configFrom = s.dev.configFrom := by
  unfold State.tickEdge
  simp

@[simp] theorem pauseForHandover_configFrom (s : State) : s.pauseForHandover.dev.configFrom = s.dev.configFrom := by
  unfold State.pauseForHandover
  split <;> simp

@[simp] theorem tickSup_configFrom (s : State) (dis : List Disagreement) : (s.tickSup dis).dev.configFrom = s.dev.configFrom := by
  unfold State.tickSup
  simp

@[simp] theorem swapRecords_configFrom (s : State) : s.swapRecords.dev.configFrom = s.dev.configFrom := rfl

@[simp] theorem correctedReads_configFrom (s : State) (ecc : List (Side × Nat)) :
    (s.correctedReads ecc).dev.configFrom = s.dev.configFrom := by
  refine foldl_configFrom (fun s e => ?_) ..
  split <;> rw [event_configFrom]

@[simp] theorem sampleSide_configFrom (s : State) (sd : Side) : (s.sampleSide sd).dev.configFrom = s.dev.configFrom := by
  unfold State.sampleSide
  dsimp only
  rw [foldl_configFrom fun _ _ => sample_configFrom .., foldl_configFrom fun _ _ => sample_configFrom ..,
    foldl_configFrom fun _ _ => sample_configFrom .., foldl_configFrom fun _ _ => sample_configFrom ..]

@[simp] theorem publishBlock_configFrom (s : State) (sd : Side) : (s.publishBlock sd).dev.configFrom = s.dev.configFrom :=
  foldl_configFrom (fun _ _ => by simp) ..

@[simp] theorem greet_configFrom (s : State) (r : Request) : (s.greet r).dev.configFrom = s.dev.configFrom := by
  unfold State.greet
  simp

@[simp] theorem setMask_configFrom (s : State) (b : Nat) (m : BitVec 128) : (s.setMask b m).dev.configFrom = s.dev.configFrom := rfl

@[simp] theorem takeMask_configFrom (s : State) (r : Request) : (s.takeMask r).dev.configFrom = s.dev.configFrom := rfl

@[simp] theorem setPortCfg_configFrom (s : State) (k : Nat) (f : PortCfg → PortCfg) :
    (s.setPortCfg k f).dev.configFrom = s.dev.configFrom := rfl

@[simp] theorem setPortMode_configFrom (s : State) (k mode : Nat) : (s.setPortMode k mode).dev.configFrom = s.dev.configFrom := by
  unfold State.setPortMode
  simp



end Sys2Proof.Origin

end

section
/-! PROOFS. The rules of `Kept` for the operations that the layer above does not name. -/

set_option Elab.async false

namespace Sys2Proof.Laws
open Sys2Proof.Machine Sys2Proof.Safety
variable {xs : List Nat} {s0 s t : State}

/-- A change of a state's parts that leaves what `Kept` speaks of. -/
theorem Kept.put {time_ : TimeSt} {dev_ : DevSt} {host_ : HostSt} {hs_ : HostSigSt} {faults_ : FaultSt} {pairs_ : PairsSt} {cfg_ : ConfigSt}
    {params_ : ParamSt} {cells_ : CellsSt} {field_ : FieldSt} {weir_ : WeirSt} {oxb_ : OxbSt} {ros_ : RosSt} {pwr_ : PwrSt} {clk_ : ClkSt}
    {rif_ : RifSt} {bundles_ : BundleSt} {mems_ : MemSt} {jtag_ : JtagSt} {pending_ : List Instr} {free_ : Nat}
    (hp : pending_ = s.pending) (h : Kept xs s0 s) (hf : ros_.fuses = s.ros.fuses := by rfl) (hh : host_.held = s.host.held := by rfl)
    (hc : cfg_.staging = s.cfg.staging ∨ cfg_.staging = none := by exact .inl rfl)
    (hb : bundles_.staging = s.bundles.staging ∨ bundles_.staging = none := by exact .inl rfl)
    (hs : field_.chans = s.field.chans := by rfl) (hd : dev_.st = s.dev.st := by rfl)
    (ho : oxb_.openRecs = s.oxb.openRecs ∨ oxb_.openRecs = [] := by exact .inl rfl) :
    Kept xs s0 ⟨time_, dev_, host_, hs_, faults_, pairs_, cfg_, params_, cells_, field_, weir_, oxb_, ros_, pwr_, clk_, rif_, bundles_, mems_,
      jtag_, pending_, free_⟩ :=
  h.lit hp hf hh hc hb hs hd ho

theorem cellCheckpoint_kept (h : Kept xs s0 s) (sd : Side) (n : Nat) : Kept xs s0 (s.cellCheckpoint sd n) := by
  unfold State.cellCheckpoint
  exact .ite (fun _ => h) fun _ => checkpoint_kept h ..
theorem formReady_kept (h : Kept xs s0 s) (sd : Side) : Kept xs s0 (s.formReady sd) := by
  unfold State.formReady
  exact .put rfl h
theorem formsJudged_kept (h : Kept xs s0 s)  : Kept xs s0 (s.formsJudged) := by
  unfold State.formsJudged
  extract_lets +onlyGivenNames a b done
  split
  · exact h
  refine .ite (fun _ => h) fun _ => ?_
  extract_lets s1
  have k : Kept xs s0 s1 := .ite (fun _ => event_kept h ..) fun _ => h
  exact .ite (fun _ => enterMaintenance_kept k ..) fun _ => k
theorem preferLower_kept (h : Kept xs s0 s) (p : Nat) : Kept xs s0 (s.preferLower p) := by
  unfold State.preferLower
  split
  exacts [.ite (fun _ => withoutStb_kept (setPair_kept (.put rfl h) ..) ..) fun _ => h, h]
theorem abortRequested_kept (h : Kept xs s0 s)  : Kept xs s0 (s.abortRequested) := by
  unfold State.abortRequested
  extract_lets s1
  have k : Kept xs s0 s1 := by
    unfold s1
    split
    · exact .ite (fun _ => abortSlice_kept h) fun _ => h
    · exact h
  split
  · exact .ite (fun _ => abortUnitSlice_kept k ..) fun _ => k
  · exact k
theorem moveRestored_kept (h : Kept xs s0 s) (m : Move) (rep : RestoreReport) : Kept xs s0 (s.moveRestored m rep) := by
  unfold State.moveRestored
  split
  exacts [.put rfl h, .foldl _ _ (fun _ _ k0 => event_kept k0 ..) (.put rfl h)]
theorem pairRestored_kept (h : Kept xs s0 s) (p : Nat) (rep : RestoreReport) : Kept xs s0 (s.pairRestored p rep) := by
  unfold State.pairRestored
  extract_lets +onlyGivenNames role k agr other s1 handled src s2
  have h1 : Kept xs s0 s1 := setPair_kept h ..
  have hn : Kept xs s0 handled := .foldl _ _ (fun _ _ k => faultHandler_kept k ..) h1
  have h2 : Kept xs s0 s2 := .ite (fun _ => .put rfl hn) fun _ => h1
  split
  · exact h2
  extract_lets +onlyGivenNames s3 bad s4
  have h3 : Kept xs s0 s3 := .ite (fun _ => tickRecordLost_kept h2 ..) fun _ => h2
  have h4 : Kept xs s0 s4 := .foldl _ _ (fun _ _ k => event_kept k ..) h3
  split
  · exact .ite (fun _ => h4) fun _ => rerun_kept h4 ..
  · exact h4
theorem discardStale_kept (h : Kept xs s0 s) (port before : Nat) : Kept xs s0 (s.discardStale port before) := by
  unfold State.discardStale
  exact .foldl _ _ (fun _ _ k0 => .ite (fun _ => .foldl _ _ (fun _ _ k0 => event_kept k0 ..) k0) fun _ => event_kept k0 ..) (setPort_kept h ..)
theorem pauseOver_kept (h : Kept xs s0 s) (port : Nat) : Kept xs s0 (s.pauseOver port) := by
  unfold State.pauseOver
  split
  exacts [h, .ite (fun _ => startTx_kept (setPort_kept h ..) ..) fun _ => h]
theorem searchTook_kept (h : Kept xs s0 s) (sd : Side) (n : Nat) : Kept xs s0 (s.searchTook sd n) := by
  unfold State.searchTook
  split <;> exact .put rfl h
theorem oxbReadBack_kept (h : Kept xs s0 s) (a b c : Nat) : Kept xs s0 (s.oxbReadBack a b c) := by
  unfold State.oxbReadBack
  exact .ite (fun _ => h) fun _ => .ite (fun _ => readBack_kept h ..) fun _ => readBack_kept h ..
theorem rosCmdOther_kept (h : Kept xs s0 s) (v : Word) : Kept xs s0 (s.rosCmdOther v) := by
  unfold State.rosCmdOther
  exact .ite (fun _ => h) fun _ => .put rfl h
theorem swapRecords_kept (h : Kept xs s0 s) : Kept xs s0 (s.swapRecords) := by
  unfold State.swapRecords
  exact .foldl _ _ (fun _ _ k0 => setPair_kept k0 ..) h
theorem correctedReads_kept (h : Kept xs s0 s) (e : List (Side × Nat)) : Kept xs s0 (s.correctedReads e) := by
  unfold State.correctedReads
  exact .foldl _ _ (fun _ _ k0 => (by split <;> exact event_kept (.put rfl k0) ..)) h
theorem setMask_kept (h : Kept xs s0 s) (b : Nat) (m : BitVec 128) : Kept xs s0 (s.setMask b m) := by
  unfold State.setMask
  exact .put rfl (setWords_kept h ..)
theorem takeMask_kept (h : Kept xs s0 s) (r : Request) : Kept xs s0 (s.takeMask r) := by
  unfold State.takeMask
  exact setMask_kept h ..
theorem paramSet_kept (h : Kept xs s0 s) (v : Nat) (i : ParamItem) : Kept xs s0 (s.paramSet v i) := by
  unfold State.paramSet
  split
  exacts [.put rfl h, .put rfl h, setPortMode_kept h .., setPortCfg_kept h .., .ite (fun _ => h) fun _ => .ite (fun _ => restartPort_kept (.put rfl h) ..) fun _ => .put rfl h, .put rfl h, setPortCfg_kept h .., setPortCfg_kept h .., setPortCfg_kept h .., .put rfl h, .put rfl h, .put rfl h, .put rfl h]
end Sys2Proof.Laws

end

section
/-! PROOFS. What an occurrence of a fault source may write: `Calm` without a block reset, `Stirred` with one. -/

set_option Elab.async false

namespace Sys2Proof.Occurrence
open Sys2Proof.Machine Sys2Proof.Safety Sys2Proof.Laws

/-- What an occurrence of a fault source, or its end, may write where no block is reset (Tables 13.2 and 13.4): the device state, the words
and instances of the faults, the lines of the cells, Oxbow's open and closed records, the latch, and the answers of HOST that an arrival in
a device state gives. Everything else is as it was. -/
structure Calm (s t : State) : Prop where
  time : t.time = { s.time with tau0 := t.time.tau0 } := by rfl
  dev : t.dev = { s.dev with
    st := t.dev.st, maint := t.dev.maint, safeReason := t.dev.safeReason, s3InSafe := t.dev.s3InSafe, safeLine := t.dev.safeLine,
    crstPending := t.dev.crstPending } := by rfl
  host : t.host = { s.host with
    waiting := t.host.waiting, rsp := t.host.rsp, evState := t.host.evState, evFault := t.host.evFault } := by rfl
  hs : t.hs = s.hs := by rfl
  brst : t.faults.brst = s.faults.brst := by rfl
  pairs : t.pairs = s.pairs := by rfl
  cfg : t.cfg = { s.cfg with admission := t.cfg.admission } := by rfl
  params : t.params = s.params := by rfl
  cells : t.cells = { s.cells with lines := t.cells.lines } := by rfl
  field : t.field = s.field := by rfl
  weir : t.weir = s.weir := by rfl
  oxb : t.oxb = { s.oxb with
    openRecs := t.oxb.openRecs, dirty := t.oxb.dirty, closing := t.oxb.closing, nextWindow := t.oxb.nextWindow, running := t.oxb.running,
    trigger := t.oxb.trigger, deferredAt := t.oxb.deferredAt, tlAsk := t.oxb.tlAsk } := by rfl
  ros : t.ros = s.ros := by rfl
  pwr : t.pwr = { s.pwr with latch := t.pwr.latch, late := t.pwr.late } := by rfl
  clk : t.clk = s.clk := by rfl
  rif : t.rif = s.rif := by rfl
  bundles : t.bundles = s.bundles := by rfl
  mems : t.mems = s.mems := by rfl
  jtag : t.jtag = s.jtag := by rfl
  pending : t.pending = s.pending := by rfl
  free : t.free = s.free := by rfl

variable {s0 s t u : State}

theorem Calm.refl (s : State) : Calm s s := {}

theorem Calm.trans (h : Calm s t) (k : Calm t u) : Calm s u where
  time := k.time.trans (by rw [h.time])
  dev := k.dev.trans (by rw [h.dev])
  host := k.host.trans (by rw [h.host])
  hs := k.hs.trans h.hs
  brst := k.brst.trans h.brst
  pairs := k.pairs.trans h.pairs
  cfg := k.cfg.trans (by rw [h.cfg])
  params := k.params.trans h.params
  cells := k.cells.trans (by rw [h.cells])
  field := k.field.trans h.field
  weir := k.weir.trans h.weir
  oxb := k.oxb.trans (by rw [h.oxb])
  ros := k.ros.trans h.ros
  pwr := k.pwr.trans (by rw [h.pwr])
  clk := k.clk.trans h.clk
  rif := k.rif.trans h.rif
  bundles := k.bundles.trans h.bundles
  mems := k.mems.trans h.mems
  jtag := k.jtag.trans h.jtag
  pending := k.pending.trans h.pending
  free := k.free.trans h.free

theorem Calm.ite {c : Prop} [Decidable c] (h : Calm s t) (k : Calm s u) : Calm s (if c then t else u) := by
  split <;> assumption

theorem Calm.foldl {α : Type} {f : State → α → State} (hf : ∀ s a, Calm s (f s a)) (l : List α) (s : State) : Calm s (l.foldl f s) :=
  List.foldlRecOn (motive := Calm s) l f (.refl s) fun t ht a _ => ht.trans (hf t a)

/-! ### Oxbow -/

theorem setOpen_calm (s : State) (o : OpenRec) : Calm s (s.setOpen o) := {}

theorem waitForSlot_calm (s : State) (code inst fl : Nat) : Calm s (s.waitForSlot code inst fl) := .ite (.refl s) {}

theorem flushQueue_calm (s : State) (k : FlushKind) : Calm s (s.flushQueue k) := {}

theorem closeRecord_calm (s : State) (o : OpenRec) (fl : Nat) : Calm s (s.closeRecord o fl) :=
  .ite (waitForSlot_calm ..) (.ite (.trans {} (flushQueue_calm ..)) {})

theorem closeAll_calm (s : State) (fl : Nat) : Calm s (s.closeAll fl) := .foldl (fun _ _ => closeRecord_calm ..) ..

theorem closeDue_calm (s : State) (code inst : Nat) : Calm s (s.closeDue code inst) := by
  unfold State.closeDue
  split
  · exact .refl s
  · exact .ite (closeRecord_calm ..) (.refl s)

theorem makeWay_calm (s : State) (code inst : Nat) : Calm s (s.makeWay code inst) :=
  .ite (.trans (closeDue_calm ..) (closeDue_calm ..)) (closeDue_calm ..)

theorem oxbCount_calm (s : State) (code inst sev : Nat) (injected : Bool) : Calm s (s.oxbCount code inst sev injected).1 :=
  .trans (makeWay_calm ..) (setOpen_calm ..)

theorem oxbBin_calm (s : State) (l : LiveInst) : Calm s (s.oxbBin l) := by
  unfold State.oxbBin
  split
  · exact .refl s
  · split
    · exact .refl s
    · exact setOpen_calm ..

theorem flushTrigger_calm (s : State) (k : FlushKind) : Calm s (s.flushTrigger k) := by
  unfold State.flushTrigger
  extract_lets a s1
  have h1 : Calm s s1 := {}
  split
  · exact h1.trans (flushQueue_calm ..)
  · exact .ite (.trans (h1.trans (closeAll_calm ..)) {}) (h1.trans (flushQueue_calm ..))

theorem flushForFault_calm (s : State) : Calm s s.flushForFault := by
  unfold State.flushForFault
  split
  · exact .ite {} (flushTrigger_calm ..)
  · exact flushTrigger_calm ..

theorem passToOxbow_calm (s : State) (b i inst sev : Nat) (injected : Bool) : Calm s (s.passToOxbow b i inst sev injected).1 := by
  unfold State.passToOxbow
  split
  · exact {}
  split
  · split
    · exact {}
    · exact {}
  · exact oxbCount_calm ..

/-! ### Device transitions -/

theorem answer_calm (s : State) (on : WaitFor) (status : Nat) (payload : List Byte) : Calm s (s.answer on status payload) :=
  .trans {} (.foldl (fun _ _ => {}) ..)

theorem endShadows_calm (s : State) : Calm s s.endShadows := {}

theorem enter_calm (s : State) (st : DevState) (reason : Nat) : Calm s (s.enter st reason) := by
  unfold State.enter
  split
  · exact .refl s
  extract_lets +onlyGivenNames old s1
  have h1 : Calm s s1 := .ite (endShadows_calm s) (.refl s)
  extract_lets +onlyGivenNames d c h s2 c2 s3
  have h2 : Calm s s2 := h1.trans { time := by dsimp only [s2]; split <;> rfl, host := by dsimp only [s2]; split <;> rfl }
  have h3 : Calm s s3 := .ite (h2.trans (.trans {} (answer_calm ..))) h2
  exact .ite (h3.trans (.trans (answer_calm ..) (answer_calm ..))) (.ite (h3.trans (answer_calm ..)) h3)

theorem latchNow_calm (s : State) : Calm s s.latchNow :=
  .ite (.trans (.trans {} (flushTrigger_calm ..)) (enter_calm ..)) (.refl s)

theorem safeNow_calm (s : State) (reason : Nat) : Calm s (s.safeNow reason) := .ite (.trans {} (enter_calm ..)) {}

theorem touchLines_calm (s : State) (ns : List Nat) : Calm s (s.touchLines ns) := .foldl (fun _ _ => {}) ..

/-! ### Reactions -/

theorem faultHandler_calm (s : State) (b : Nat) : Calm s (s.faultHandler b) := {}

theorem react_calm (s : State) (b i inst sev reacts : Nat) : Calm s (s.react b i inst sev reacts) := by
  unfold State.react
  extract_lets +onlyGivenNames f s1 h s2
  have h1 : Calm s s1 := .ite {} (.refl s)
  have h2 : Calm s s2 := .ite (h1.trans {}) h1
  exact .ite h2 (.ite (h2.trans {}) (.ite (h2.trans (faultHandler_calm ..)) h2))

theorem severityEffect_calm (s : State) (b i inst sev : Nat) : Calm s (s.severityEffect b i inst sev) := by
  unfold State.severityEffect
  extract_lets +onlyGivenNames f s1 s2 s3
  have h1 : Calm s s1 := by
    unfold s1
    split
    · exact .ite {} (.refl s)
    · exact .refl s
  have h2 : Calm s s2 := .ite (h1.trans (touchLines_calm ..)) (.ite (h1.trans (touchLines_calm ..)) h1)
  have h3 : Calm s s3 := .ite (h2.trans (flushForFault_calm ..)) h2
  exact .ite (h3.trans (latchNow_calm ..)) (.ite (h3.trans (safeNow_calm ..)) h3)

theorem crst_calm (s : State) : Calm s s.crst := .trans (.trans {} (touchLines_calm ..)) (flushTrigger_calm ..)

theorem extend_calm (s : State) (src : Source) (b i inst who : Nat) : Calm s (s.extend src b i inst who) :=
  .trans (.ite (.refl s) (passToOxbow_calm ..)) {}

/-- The reactions of a block that has no block reset, or one whose reset writes no more than an occurrence does. -/
theorem takeReactions_calm {brst : State → Nat → State} (s : State) {b : Nat} (hb : ∀ s, brstAvailable b = true → Calm s (brst s b))
    (i inst sev reacts : Nat) : Calm s (s.takeReactions brst b i inst sev reacts) := by
  unfold State.takeReactions
  extract_lets s1 s2 s3
  have h2 : Calm s s2 := .trans (react_calm ..) (severityEffect_calm ..)
  have h3 : Calm s s3 := by
    unfold s3
    split
    · exact h2.trans (hb _ (by simp_all))
    · exact h2
  exact .ite (h3.trans (crst_calm _)) h3

theorem raiseWith_calm {brst : State → Nat → State} (s : State) {b : Nat} (hb : ∀ s, brstAvailable b = true → Calm s (brst s b))
    (i inst who : Nat) : Calm s (s.raiseWith brst b i inst who) := by
  unfold State.raiseWith
  split
  · exact .refl s
  next src _ =>
  extract_lets mine
  refine .ite (.refl s) (.ite (extend_calm ..) ?_)
  generalize s.effective b i inst = x
  obtain ⟨sev, reacts⟩ := x
  dsimp only
  have h2 := passToOxbow_calm s b i inst sev false
  generalize s.passToOxbow b i inst sev false = y at h2 ⊢
  obtain ⟨s2, r⟩ := y
  exact (h2.trans (.trans {} {})).trans (takeReactions_calm _ hb ..)

/-- The blocks without a block reset. -/
theorem event_calm (s : State) {b : Nat} (hb : brstAvailable b = false) (i inst : Nat) : Calm s (s.event b i inst) :=
  raiseWith_calm s (fun _ h => by simp [hb] at h) ..

theorem raise_calm (s : State) {b : Nat} (hb : brstAvailable b = false) (i inst who : Nat) : Calm s (s.raise b i inst who) :=
  raiseWith_calm s (fun _ h => by simp [hb] at h) ..

/-- A block reset of Oxbow is a flush. -/
theorem brst_oxb_calm (s : State) : Calm s (s.brst bOXB) := .ite (.refl s) (flushTrigger_calm ..)

theorem event_bOXB_calm (s : State) (i inst : Nat) : Calm s (s.event bOXB i inst) := raiseWith_calm s (fun s _ => brst_oxb_calm s) ..

theorem raise_bOXB_calm (s : State) (i inst who : Nat) : Calm s (s.raise bOXB i inst who) := raiseWith_calm s (fun s _ => brst_oxb_calm s) ..

theorem fall_calm (s : State) (l : LiveInst) : Calm s (s.fall l) := .trans (oxbBin_calm ..) {}

theorem clear_calm (s : State) (b i inst who : Nat) : Calm s (s.clear b i inst who) := by
  unfold State.clear
  split
  · exact .refl s
  · exact .ite (fall_calm ..) {}

theorem condition_calm (s : State) {b : Nat} (hb : brstAvailable b = false) (i inst who : Nat) (on : Bool) :
    Calm s (s.condition b i inst who on) := .ite (raise_calm s hb ..) (clear_calm ..)

/-! ### Block resets -/

/-- What an occurrence may write with the block resets of Table 13.5: beside what `Calm` names, the pairs, the ports and windows of WEIR, the
couplers and the views of the field, Riffle, and the mailbox. -/
structure Stirred (s t : State) : Prop where
  time : t.time = { s.time with tau0 := t.time.tau0 } := by rfl
  dev : t.dev = { s.dev with
    st := t.dev.st, maint := t.dev.maint, safeReason := t.dev.safeReason, s3InSafe := t.dev.s3InSafe, safeLine := t.dev.safeLine,
    crstPending := t.dev.crstPending } := by rfl
  host : t.host = { s.host with
    iface := t.host.iface, queue := t.host.queue, waiting := t.host.waiting, rsp := t.host.rsp, session := t.host.session,
    version := t.host.version, evState := t.host.evState, evFault := t.host.evFault } := by rfl
  hs : t.hs = s.hs := by rfl
  pairs : t.pairs = { s.pairs with pairs := t.pairs.pairs } := by rfl
  cfg : t.cfg = { s.cfg with admission := t.cfg.admission } := by rfl
  params : t.params = s.params := by rfl
  cells : t.cells = { s.cells with lines := t.cells.lines } := by rfl
  field : t.field = { s.field with couplers := t.field.couplers, views := t.field.views } := by rfl
  weir : t.weir = { s.weir with ports := t.weir.ports, windows := t.weir.windows } := by rfl
  oxb : t.oxb = { s.oxb with
    openRecs := t.oxb.openRecs, dirty := t.oxb.dirty, closing := t.oxb.closing, nextWindow := t.oxb.nextWindow, running := t.oxb.running,
    trigger := t.oxb.trigger, deferredAt := t.oxb.deferredAt, tlAsk := t.oxb.tlAsk } := by rfl
  ros : t.ros = s.ros := by rfl
  pwr : t.pwr = { s.pwr with latch := t.pwr.latch, late := t.pwr.late } := by rfl
  clk : t.clk = s.clk := by rfl
  rif : t.rif = { s.rif with
    slice := t.rif.slice, units := t.rif.units, groupSlices := t.rif.groupSlices, selfTest := t.rif.selfTest } := by rfl
  bundles : t.bundles = s.bundles := by rfl
  mems : t.mems = s.mems := by rfl
  jtag : t.jtag = s.jtag := by rfl
  pending : t.pending = s.pending := by rfl
  free : t.free = s.free := by rfl

theorem Stirred.refl (s : State) : Stirred s s := {}

theorem Stirred.trans (h : Stirred s t) (k : Stirred t u) : Stirred s u where
  time := k.time.trans (by rw [h.time])
  dev := k.dev.trans (by rw [h.dev])
  host := k.host.trans (by rw [h.host])
  hs := k.hs.trans h.hs
  pairs := k.pairs.trans (by rw [h.pairs])
  cfg := k.cfg.trans (by rw [h.cfg])
  params := k.params.trans h.params
  cells := k.cells.trans (by rw [h.cells])
  field := k.field.trans (by rw [h.field])
  weir := k.weir.trans (by rw [h.weir])
  oxb := k.oxb.trans (by rw [h.oxb])
  ros := k.ros.trans h.ros
  pwr := k.pwr.trans (by rw [h.pwr])
  clk := k.clk.trans h.clk
  rif := k.rif.trans (by rw [h.rif])
  bundles := k.bundles.trans h.bundles
  mems := k.mems.trans h.mems
  jtag := k.jtag.trans h.jtag
  pending := k.pending.trans h.pending
  free := k.free.trans h.free

theorem Calm.stirred (h : Calm s t) : Stirred s t where
  time := h.time
  dev := h.dev
  host := by rw [h.host]
  hs := h.hs
  pairs := by rw [h.pairs]
  cfg := h.cfg
  params := h.params
  cells := h.cells
  field := by rw [h.field]
  weir := by rw [h.weir]
  oxb := h.oxb
  ros := h.ros
  pwr := h.pwr
  clk := h.clk
  rif := by rw [h.rif]
  bundles := h.bundles
  mems := h.mems
  jtag := h.jtag
  pending := h.pending
  free := h.free

theorem Stirred.ite {c : Prop} [Decidable c] (h : Stirred s t) (k : Stirred s u) : Stirred s (if c then t else u) := by
  split <;> assumption

theorem Stirred.foldl {α : Type} {f : State → α → State} (hf : ∀ s a, Stirred s (f s a)) (l : List α) (s : State) :
    Stirred s (l.foldl f s) :=
  List.foldlRecOn (motive := Stirred s) l f (.refl s) fun t ht a _ => ht.trans (hf t a)

theorem restartCoupler_stirred (s : State) (c k : Nat) : Stirred s (s.restartCoupler c k) := {}

theorem groupRestart_stirred (s : State) (g : Nat) : Stirred s (s.groupRestart g) :=
  .foldl (fun _ _ => .ite (.refl _) (restartCoupler_stirred ..)) ..

theorem weirReset_stirred (s : State) : Stirred s s.weirReset := {}

theorem pairReset_stirred (s : State) (p : Nat) (cell : Option Nat) : Stirred s (s.pairReset p cell) := {}

theorem setUnit_stirred (s : State) (n : Nat) (r : UnitRec) : Stirred s (s.setUnit n r) := {}

theorem abortSlice_stirred (s : State) : Stirred s s.abortSlice := by
  unfold State.abortSlice
  split
  · exact .refl s
  refine .ite (.refl s) ?_
  extract_lets +onlyGivenNames n f s1 w s2 v s3
  have h2 : Stirred s s2 := .trans {} (setUnit_stirred ..)
  have h3 : Stirred s s3 := by
    unfold s3
    split
    · exact .ite (h2.trans {}) h2
    · exact h2
  exact h3.trans (raiseWith_calm _ (fun _ _ => .refl _) ..).stirred

theorem abortUnitSlice_stirred (s : State) (g : Nat) : Stirred s (s.abortUnitSlice g) := by
  unfold State.abortUnitSlice
  extract_lets +onlyGivenNames n f s1 w s2 v s3
  have h2 : Stirred s s2 := .trans {} (setUnit_stirred ..)
  have h3 : Stirred s s3 := by
    unfold s3
    split
    · exact .ite (h2.trans (.trans {} (answer_calm ..).stirred)) h2
    · exact h2
  exact (h3.trans (groupRestart_stirred ..)).trans (raiseWith_calm _ (fun _ _ => .refl _) ..).stirred

theorem rifReset_stirred (s : State) : Stirred s s.rifReset :=
  (abortSlice_stirred s).trans (.foldl (fun _ _ => abortUnitSlice_stirred ..) ..)

theorem withFaults_stirred (s : State) (f : FaultSt) : Stirred s { s with faults := f } := {}

theorem brst_stirred (s : State) (b : Nat) : Stirred s (s.brst b) := by
  unfold State.brst
  refine .ite (.refl s) (.ite ?_ (.ite ?_ (.ite {} (.ite (flushTrigger_calm ..).stirred (.ite (rifReset_stirred s) (.ite ?_ (.refl s)))))))
  · exact .ite (.refl s) (.trans (pairReset_stirred ..) {})
  · exact (weirReset_stirred s).trans (withFaults_stirred ..)
  · exact ((groupRestart_stirred ..).trans (withFaults_stirred ..)).trans (touchLines_calm ..).stirred

theorem takeReactions_stirred (s : State) (b i inst sev reacts : Nat) : Stirred s (s.takeReactions State.brst b i inst sev reacts) := by
  unfold State.takeReactions
  extract_lets s1 s2 s3
  have h2 : Stirred s s2 := ((react_calm ..).trans (severityEffect_calm ..)).stirred
  have h3 : Stirred s s3 := .ite (h2.trans (brst_stirred ..)) h2
  exact .ite (h3.trans (crst_calm _).stirred) h3

theorem raise_stirred (s : State) (b i inst who : Nat) : Stirred s (s.raise b i inst who) := by
  unfold State.raise State.raiseWith
  split
  · exact .refl s
  next src _ =>
  extract_lets mine
  refine .ite (.refl s) (.ite (extend_calm ..).stirred ?_)
  generalize s.effective b i inst = x
  obtain ⟨sev, reacts⟩ := x
  dsimp only
  have h2 := passToOxbow_calm s b i inst sev false
  generalize s.passToOxbow b i inst sev false = y at h2 ⊢
  obtain ⟨s2, r⟩ := y
  exact (h2.trans (.trans {} {})).stirred.trans (takeReactions_stirred ..)

theorem event_stirred (s : State) (b i inst : Nat) : Stirred s (s.event b i inst) := raise_stirred s b i inst 0

theorem condition_stirred (s : State) (b i inst who : Nat) (on : Bool) : Stirred s (s.condition b i inst who on) :=
  .ite (raise_stirred ..) (clear_calm ..).stirred

theorem Calm.queue (h : Calm s t) : t.host.queue = s.host.queue := by rw [h.host]

theorem brst_bHOST (s : State) : s.brst bHOST = s ∨ s.brst bHOST = s.transportReset := by
  unfold State.brst
  split
  · exact .inl rfl
  · exact .inr rfl

/-- The queue of requests is as it was, or a block reset of HOST has cleared it. -/
def QueueKept (s t : State) : Prop := t.host.queue = s.host.queue ∨ t.host.queue = []

theorem Calm.queueKept (h : Calm s t) : QueueKept s t := .inl h.queue

theorem QueueKept.calm (h : QueueKept s t) (k : Calm t u) : QueueKept s u := by
  unfold QueueKept
  rwa [k.queue]

theorem takeReactions_bHOST_queue (s : State) (i inst sev reacts : Nat) :
    QueueKept s (s.takeReactions State.brst bHOST i inst sev reacts) := by
  unfold State.takeReactions
  extract_lets s1 s2 s3
  have h2 : Calm s s2 := .trans (react_calm ..) (severityEffect_calm ..)
  have h3 : QueueKept s s3 := by
    unfold s3
    split
    · rcases brst_bHOST s2 with e | e
      · rw [e]
        exact h2.queueKept
      · rw [e]
        exact .inr rfl
    · exact h2.queueKept
  split
  · exact h3.calm (crst_calm _)
  · exact h3

theorem event_bHOST_queue (s : State) (i inst : Nat) : QueueKept s (s.event bHOST i inst) := by
  unfold State.event State.raiseWith
  split
  · exact .inl rfl
  next src _ =>
  extract_lets mine
  split
  · exact .inl rfl
  split
  · exact (extend_calm ..).queueKept
  generalize s.effective bHOST i inst = x
  obtain ⟨sev, reacts⟩ := x
  dsimp only
  have h2 := passToOxbow_calm s bHOST i inst sev false
  generalize s.passToOxbow bHOST i inst sev false = y at h2 ⊢
  obtain ⟨s2, r⟩ := y
  refine Or.imp_left (fun e => e.trans ?_) (takeReactions_bHOST_queue ..)
  exact h2.queue

end Sys2Proof.Occurrence

end

section
/-! PROOFS. What each command leaves of the parts that the invariants speak of (`Leaves`), one lemma for each command. -/

set_option Elab.async false

namespace Sys2Proof.Steps
open Sys2Proof.Machine Sys2Proof.Safety Sys2Proof.Laws Sys2Proof.Origin

/-- What almost every command leaves of the parts that the invariants speak of: it holds no new tag, no staging becomes ill-formed, no fuse word
is unprogrammed, no record is opened twice, CONFIGURE keeps its way back, and RUN is not entered. -/
structure Leaves (s t : State) : Prop where
  pending : t.pending = s.pending
  fuses : FusesOk s → FusesOk t
  prog : ∀ w, (s.ros.fuses.getD w {}).prog = true → (t.ros.fuses.getD w {}).prog = true
  held : t.host.held.Subperm s.host.held
  container : StagingOk s.cfg.staging → StagingOk t.cfg.staging
  bundle : StagingOk s.bundles.staging → StagingOk t.bundles.staging
  records : RecordsOk s → RecordsOk t
  configure : ConfigFromOk s → ConfigFromOk t
  run : ConfigFromOk s → t.dev.st = .run → s.dev.st = .run

variable {s t : State}

theorem Leaves.of_from (k : Kept [] s t) (c : ConfigFromOk s → ConfigFromOk t) : Leaves s t :=
  ⟨k.pending, k.fuses, k.prog, k.held, k.container, k.bundle, k.records, c, fun _ => k.run⟩

/-- `ConfigFromOk` as a property of the device state alone. -/
def FromOk (d : DevSt) : Prop := ∀ st m r x, d.configFrom = some (st, m, r, x) → st = .safe ∨ st = .maintenance

theorem configFromOk_congr (e : t.dev.configFrom = s.dev.configFrom) (h : ConfigFromOk s) : ConfigFromOk t := by
  intro st m r x hx
  exact h st m r x (e ▸ hx)

theorem configFromOk_of_none (e : t.dev.configFrom = none) : ConfigFromOk t := by
  intro st m r x hx
  rw [e] at hx
  cases hx

theorem Leaves.of_kept (k : Kept [] s t) (e : t.dev.configFrom = s.dev.configFrom) : Leaves s t := .of_from k (configFromOk_congr e)

theorem Leaves.of_none (k : Kept [] s t) (e : t.dev.configFrom = none) : Leaves s t := .of_from k fun _ => configFromOk_of_none e


/-- A state in which the channels of the field dies and the free values alone are other than in `s`. -/
def FieldOnly (s t : State) : Prop := ∃ f n, t = { s with field := f, free := n }

theorem FieldOnly.leaves (h : FieldOnly s t) : Leaves s t := by
  obtain ⟨f, n, rfl⟩ := h
  exact ⟨rfl, id, fun _ => id, .refl _, id, id, id, id, fun _ => id⟩

theorem FieldOnly.refl (s : State) : FieldOnly s s := ⟨_, _, rfl⟩

theorem FieldOnly.setChan (h : FieldOnly s t) (c : Nat) (d : DieCh) : FieldOnly s (t.setChan c d) := by
  obtain ⟨f, n, rfl⟩ := h
  exact ⟨_, _, rfl⟩

theorem FieldOnly.setDie (h : FieldOnly s t) (g : Nat) (d : DieSt) : FieldOnly s (t.setDie g d) := by
  obtain ⟨f, n, rfl⟩ := h
  exact ⟨_, _, rfl⟩

theorem FieldOnly.takeFree (h : FieldOnly s t) (n : Nat) : FieldOnly s { t with free := n } := by
  obtain ⟨f, m, rfl⟩ := h
  exact ⟨_, _, rfl⟩

theorem FieldOnly.ite {c : Prop} [Decidable c] {u : State} (h : FieldOnly s t) (k : FieldOnly s u) : FieldOnly s (if c then t else u) := by
  split <;> assumption

theorem dieFrame_fieldOnly (c ty : Nat) (f : BitVec 40) (smp : LandSample) {take : State → Nat → Nat → State}
    (ht : ∀ u n d, FieldOnly s u → FieldOnly s (take u n d)) : FieldOnly s (s.dieFrame c ty f smp take) := by
  unfold State.dieFrame
  refine .ite (.refl s) ?_
  extract_lets s1 s2 ch d answer
  have h1 : FieldOnly s s1 := .setChan (.refl s) ..
  have h2 : FieldOnly s s2 := .ite (.takeFree (.setChan (.setDie h1 ..) ..) _) h1
  exact .ite (h2.setChan ..) (.ite (h2.setChan ..) (.ite (ht _ _ _ h2) (.ite (h2.setChan ..) (ht _ _ _ h2))))

theorem open_off (d : DieCh) : (d.open.swA = true → d.swA = true) ∧ (d.open.swB = true → d.swB = true) := ⟨nofun, nofun⟩

theorem powerUp_off (n : Nat) (d : DieCh) : ((d.powerUp n).swA = true → d.swA = true) ∧ ((d.powerUp n).swB = true → d.swB = true) :=
  ⟨nofun, nofun⟩

theorem stagingOk_empty (n : Nat) : StagingOk (some ⟨n, [], false, []⟩) := by
  rintro y ⟨⟩
  exact ⟨.nil, nofun⟩

theorem stagingOk_ended {x : Staging} (hash : List Byte) (h : StagingOk (some x)) : StagingOk (some { x with ended := true, hash := hash }) := by
  rintro y ⟨⟩
  exact h x rfl


theorem stageWrite_keys (mem : List Host.Cell) (off : Nat) (bs : List Byte) :
    (stageWrite mem off bs).map (·.1) = (mem.map (·.1)).filter (fun a => decide (a < off)) ++ (List.range bs.length).map (off + ·) ++
      (mem.map (·.1)).filter (fun a => decide (off + bs.length ≤ a)) := by
  have e : bs.zipIdx.map (fun x => off + x.2) = (List.range bs.length).map (off + ·) := by
    rw [List.range_eq_range', ← List.zipIdx_map_snd 0 bs, List.map_map]
    rfl
  simp only [stageWrite, List.map_append, List.filter_map, Function.comp_def, List.map_map, e]

/-- R259: a write into a staging keeps its addresses strictly rising. -/
theorem stageWrite_sorted {mem : List Host.Cell} (off : Nat) (bs : List Byte) (h : (mem.map (·.1)).Pairwise (· < ·)) :
    ((stageWrite mem off bs).map (·.1)).Pairwise (· < ·) := by
  rw [stageWrite_keys, List.append_assoc, List.pairwise_append, List.pairwise_append]
  refine ⟨h.filter _, ⟨?_, h.filter _, ?_⟩, ?_⟩
  · exact List.pairwise_map.2 (List.pairwise_lt_range.imp fun hab => Nat.add_lt_add_left hab off)
  · simp only [List.mem_map, List.mem_range, List.mem_filter, decide_eq_true_eq]
    rintro _ ⟨i, hi, rfl⟩ b ⟨-, hb⟩
    omega
  · simp only [List.mem_append, List.mem_map, List.mem_range, List.mem_filter, decide_eq_true_eq]
    rintro a ⟨-, ha⟩ b (⟨i, -, rfl⟩ | ⟨-, hb⟩) <;> omega

theorem stagingOk_stageWrite {x : Staging} {off : Nat} {data : List Byte} (hl : ¬x.length < off + data.length) (h : StagingOk (some x)) :
    StagingOk (some { x with mem := stageWrite x.mem off data }) := by
  obtain ⟨hs, hb⟩ := h x rfl
  rintro y ⟨⟩
  refine ⟨stageWrite_sorted off data hs, fun c hc => ?_⟩
  have hk : c.1 ∈ (stageWrite x.mem off data).map (·.1) := List.mem_map_of_mem hc
  have inside : ∀ a ∈ x.mem.map (·.1), a < x.length := by
    simp only [List.mem_map]
    rintro a ⟨e, he, rfl⟩
    exact hb e he
  rw [stageWrite_keys] at hk
  simp only [List.mem_append, List.mem_filter, List.mem_map (f := (off + ·)), List.mem_range] at hk
  obtain (⟨hm, -⟩ | ⟨i, hi, e⟩) | ⟨hm, -⟩ := hk
  · exact inside _ hm
  · show c.1 < x.length
    omega
  · exact inside _ hm

/-- The rule of `Kept` for a change of the staged container. -/
theorem container_kept {xs : List Nat} {s0 s : State} (h : Kept xs s0 s) (x : Option Staging)
    (hx : StagingOk s.cfg.staging → StagingOk x) : Kept xs s0 { s with cfg := { s.cfg with staging := x } } :=
  ⟨h.pending, h.fuses, h.prog, h.held, fun z => hx (h.container z), h.bundle, h.opens, h.run, h.records⟩

/-- The rule of `Kept` for a change of the device state that does not enter RUN. -/
theorem dev_kept {xs : List Nat} {s0 s : State} (h : Kept xs s0 s) (x : DevSt) (hx : x.st ≠ .run) : Kept xs s0 { s with dev := x } :=
  ⟨h.pending, h.fuses, h.prog, h.held, h.container, h.bundle, h.opens, fun e => absurd e hx, h.records⟩

theorem queue_of_front {s : State} {code : Nat} {r : Request} (h : s.front code = some r) : ∃ q, s.host.queue = r :: q := by
  unfold State.front at h
  split at h
  · cases h
  · split at h
    · cases h
    · rename_i r' q e
      split at h
      · cases h
        exact ⟨q, e⟩
      · cases h


theorem answerUnknown_dev (n : Nat) (s : State) : (s.answerUnknown n).dev = s.dev := by
  induction n generalizing s with
  | zero => rfl
  | succ n ih =>
    unfold State.answerUnknown
    split
    · rfl
    · split
      · rfl
      · split
        · rw [ih]
          rfl
        · rfl

/-- What an answer does to the device state is what its action does to it. -/
theorem serve_dev {P : DevSt → Prop} {act : Request → State → State} (ha : ∀ r u, P u.dev → P (act r u).dev) (code : Nat)
    (form : Request → Bool) (h : P s.dev) : P (s.serve code form act).dev := by
  unfold State.serve
  split
  · exact h
  · unfold State.settle
    rw [answerUnknown_dev]
    split
    · exact ha _ _ h
    split
    · exact h
    split
    · exact h
    split
    · exact h
    split
    · exact ha _ _ h
    · exact h

theorem liveBusy_configFrom {u : State} {st : Nat} {pl : List Byte} (hb : s.liveBusy = some (st, pl, u)) :
    u.dev.configFrom = s.dev.configFrom := by
  unfold State.liveBusy at hb
  repeat' split at hb
  all_goals cases hb
  all_goals rfl

theorem paramSet_configFrom (v : Nat) (i : ParamItem) (s : State) : (s.paramSet v i).dev.configFrom = s.dev.configFrom := by
  unfold State.paramSet
  repeat' split
  all_goals simp


theorem readRsp_leaves (x : Txn) (count : Nat) (s : State) : Gives (.readRsp x count) s (Leaves s) := by
  refine ⟨_, rfl, .of_kept (transaction_kept (.refl _) _ (fun k6 => .put rfl k6)) ?_⟩
  exact transaction_configFrom (fun u => by split <;> simp) ..

theorem readStatus_leaves (x : Txn) (s : State) : Gives (.readStatus x) s (Leaves s) := by
  refine ⟨_, rfl, .of_kept (transaction_kept (.refl _) _ (fun k6 => .put rfl k6)) ?_⟩
  refine transaction_configFrom (fun u => ?_) ..
  rfl

theorem rspRelease_leaves (x : Txn) (tag : Nat) (s : State) : Gives (.rspRelease x tag) s (Leaves s) := by
  refine ⟨_, rfl, .of_kept ?_ ?_⟩
  · refine transaction_kept (.refl _) _ ?_
    intro u k
    split
    · exact reject_kept k ..
    next r rest e =>
      refine .ite (fun _ => k.host _ (List.Sublist.subperm ?_)) fun _ => reject_kept k ..
      simp [HostSt.held, e]
  · exact transaction_configFrom (fun u => by split <;> simp) ..

theorem enterXspi_leaves (x : Txn) (s : State) : Gives (.enterXspi x) s (Leaves s) := by
  refine ⟨_, rfl, .of_kept (transaction_kept (.refl _) _ (fun k6 => .ite (fun _ => reject_kept k6 ..) fun _ => .put rfl k6)) ?_⟩
  exact transaction_configFrom (fun u => by split <;> simp) ..

theorem returnSpi_leaves (x : Txn) (s : State) : Gives (.returnSpi x) s (Leaves s) := by
  refine ⟨_, rfl, .of_kept (transaction_kept (.refl _) _ (fun k6 => .ite (fun _ => .put rfl k6) fun _ => reject_kept k6 ..)) ?_⟩
  exact transaction_configFrom (fun u => by split <;> simp) ..

theorem hello_leaves (s : State) : Gives (.hello) s (Leaves s) := by
  refine ⟨_, rfl, .of_kept ?_ ?_⟩
  · split
    · exact .refl _
    next r hr =>
      obtain ⟨q, hq⟩ := queue_of_front hr
      split
      · exact settle_kept (popRequest_kept (.refl _) hq fun k => respond_kept k ..)
      · exact .ite (fun _ => settle_kept (popRequest_kept (.refl _) hq fun k => greet_kept k ..)) fun _ => .refl _
  · repeat' split
    all_goals simp

theorem identity_leaves (s : State) : Gives (.identity) s (Leaves s) := by
  refine ⟨_, rfl, .of_kept (serve_kept (.refl _) _ _ (fun r k6 => respond_kept k6 ..)) ?_⟩
  exact serve_configFrom (fun _ _ => by simp) ..

theorem status_leaves (s : State) : Gives (.status) s (Leaves s) := by
  refine ⟨_, rfl, .of_kept (serve_kept (.refl _) _ _ (fun r k6 => .put rfl (respond_kept k6 ..))) ?_⟩
  exact serve_configFrom (fun _ _ => by simp) ..

theorem statusAll_leaves (s : State) : Gives (.statusAll) s (Leaves s) := by
  refine ⟨_, rfl, .of_kept (serve_kept (.refl _) _ _ (fun r k6 => .put rfl (respond_kept k6 ..))) ?_⟩
  exact serve_configFrom (fun _ _ => by simp) ..

theorem cellRead_leaves (s : State) : Gives (.cellRead) s (Leaves s) := by
  refine ⟨_, rfl, .of_kept (serve_kept (.refl _) _ _ (fun r k6 => respond_kept k6 ..)) ?_⟩
  exact serve_configFrom (fun _ _ => by simp) ..

theorem faultRead_leaves (s : State) : Gives (.faultRead) s (Leaves s) := by
  refine ⟨_, rfl, .of_kept (serve_kept (.refl _) _ _ (fun r k6 => respond_kept k6 ..)) ?_⟩
  exact serve_configFrom (fun _ _ => by simp) ..

theorem faultAck_leaves (s : State) : Gives (.faultAck) s (Leaves s) := by
  refine ⟨_, rfl, .of_kept (serve_kept (.refl _) _ _ (fun r k6 => respond_kept (purgeHolds_kept (setWords_kept k6 ..)) ..)) ?_⟩
  exact serve_configFrom (fun _ _ => by simp) ..

theorem faultMask_leaves (s : State) : Gives (.faultMask) s (Leaves s) := by
  refine ⟨_, rfl, .of_kept ?_ ?_⟩
  · exact serve_kept (.refl _) _ _ (fun r k6 => respond_kept (.ite (fun _ => k6) fun _ => takeMask_kept k6 ..) ..)
  · exact serve_configFrom (fun _ _ => by simp) ..

theorem cfgStageBegin_leaves (s : State) : Gives (.cfgStageBegin) s (Leaves s) := by
  refine ⟨_, rfl, .of_from ?_ ?_⟩
  · refine serve_kept (.refl _) _ _ fun r k => ?_
    refine .ite (fun _ => respond_kept k ..) fun _ => respond_kept ?_ ..
    have k2 := container_kept (dropTranslations_kept k) _ fun _ => stagingOk_empty (leAt r.payload 0 4)
    exact .ite (fun _ => enter_kept (.put rfl k2) (by nofun) _) fun _ => k2
  · refine fun h => serve_dev (P := FromOk) (fun r u h => ?_) _ _ h
    split
    · exact h
    dsimp only
    split
    next hst =>
      rintro st m r x e
      simp only [respond_configFrom, enter_configFrom, Option.some.injEq, Prod.mk.injEq] at e
      exact e.1 ▸ hst
    · exact h

theorem cfgStageData_leaves (s : State) : Gives (.cfgStageData) s (Leaves s) := by
  refine ⟨_, rfl, .of_kept ?_ ?_⟩
  · refine serve_kept (.refl _) _ _ fun r k => ?_
    refine .ite (fun _ => respond_kept k ..) fun _ => ?_
    split
    · exact respond_kept k ..
    next x hx =>
      refine .ite (fun _ => respond_kept k ..) fun _ => .ite (fun _ => respond_kept k ..) fun hl => respond_kept ?_ ..
      exact container_kept k _ fun z => stagingOk_stageWrite hl (hx ▸ z)
  · refine serve_configFrom (fun r u => ?_) ..
    dsimp only
    repeat' split
    all_goals simp

theorem cfgStageEnd_leaves (s : State) : Gives (.cfgStageEnd) s (Leaves s) := by
  refine ⟨_, rfl, .of_kept ?_ ?_⟩
  · refine serve_kept (.refl _) _ _ fun r k => ?_
    split
    · exact respond_kept k ..
    next x hx =>
      refine .ite (fun _ => respond_kept k ..) fun _ => .ite (fun _ => refuseCfg_kept k ..) fun _ => ?_
      refine .ite (fun _ => refuseCfg_kept k ..) fun _ => ?_
      have k2 := container_kept k _ fun z => stagingOk_ended (x.bytes.drop (x.bytes.length - 32)) (hx ▸ z)
      exact .ite (fun _ => respond_kept k2 ..) fun _ => .ite (fun _ => respond_kept (startTranslations_kept k2) ..) fun _ =>
        refuseCfg_kept k2 ..
  · refine serve_configFrom (fun r u => ?_) ..
    dsimp only
    repeat' split
    all_goals simp

theorem liveBusy_kept {xs : List Nat} {s0 s u : State} {st : Nat} {pl : List Byte} (h : Kept xs s0 s)
    (hb : s.liveBusy = some (st, pl, u)) : Kept xs s0 u := by
  unfold State.liveBusy at hb
  repeat' split at hb
  all_goals cases hb
  exacts [h, h, h, h, startTranslations_kept h, h]

theorem cfgCheck_leaves (aFault bFault : Option Verdict) (s : State) : Gives (.cfgCheck aFault bFault) s (Leaves s) := by
  refine ⟨_, rfl, .of_kept ?_ ?_⟩
  · refine serve_kept (.refl _) _ _ ?_
    intro u r k
    split
    next hb => exact respond_kept (liveBusy_kept k hb) ..
    · exact respond_kept k ..
    · refine .ite (fun _ => respond_kept k ..) fun _ => ?_
      extract_lets +onlyGivenNames bs
      split
      next diverge adm _ =>
      extract_lets s2 c s3
      have k2 : Kept [] u s2 := .ite (fun _ => event_kept k ..) fun _ => k
      have k3 : Kept [] u s3 := by
        unfold s3
        split
        · exact .ite (fun _ => k2) fun _ => .put rfl k2
        · exact k2
      split
      · exact refuseCfg_kept k3 ..
      · exact respond_kept k3 ..
  · refine serve_configFrom (fun r u => ?_) ..
    dsimp only
    split
    next hb => rw [respond_configFrom, liveBusy_configFrom hb]
    · simp
    repeat' split
    all_goals simp

theorem cfgCommit_leaves (s : State) : Gives (.cfgCommit) s (Leaves s) := by
  refine ⟨_, rfl, .of_kept ?_ ?_⟩
  · refine serve_kept (.refl _) _ _ fun r k => ?_
    split
    next hb => exact respond_kept (liveBusy_kept k hb) ..
    · exact respond_kept k ..
    · exact .ite (fun _ => respond_kept k ..) fun _ => .ite (fun _ => refuseCfg_kept k ..) fun _ => .ite (fun _ => respond_kept k ..)
        fun _ => .ite (fun _ => respond_kept k ..) fun _ => .put rfl (wait_kept k ..)
  · refine serve_configFrom (fun r u => ?_) ..
    dsimp only
    split
    next hb => rw [respond_configFrom, liveBusy_configFrom hb]
    · simp
    repeat' split
    all_goals simp

theorem certRead_leaves (s : State) : Gives (.certRead) s (Leaves s) := by
  refine ⟨_, rfl, .of_kept (serve_kept (.refl _) _ _ (fun r k6 => respond_kept k6 ..)) ?_⟩
  exact serve_configFrom (fun _ _ => by simp) ..

theorem run_leaves (s : State) : Gives (.run) s (Leaves s) := by
  refine ⟨_, rfl, .of_kept (serve_kept (.refl _) _ _ (fun r k6 => .ite (fun _ => wait_kept k6 ..) fun _ => respond_kept k6 ..)) ?_⟩
  exact serve_configFrom (fun _ _ => by simp) ..

theorem safe_leaves (s : State) : Gives (.safe) s (Leaves s) := by
  refine ⟨_, rfl, .of_kept ?_ ?_⟩
  · refine serve_kept (.refl _) _ _ fun r k => respond_kept ?_ ..
    split
    · exact enter_kept k (by nofun) _
    · exact .put rfl k
    · exact answer_kept k ..
  · refine serve_configFrom (fun r u => ?_) ..
    dsimp only
    repeat' split
    all_goals simp

theorem restart_leaves (s : State) : Gives (.restart) s (Leaves s) := by
  refine ⟨_, rfl, .of_kept ?_ ?_⟩
  · exact serve_kept (.refl _) _ _ (fun r k6 => .ite (fun _ =>
        closeLive_kept (enterVerify_kept (endS3_kept (.put rfl (wait_kept k6 ..))) ..)) fun _ => respond_kept k6 ..)
  · exact serve_configFrom (fun _ _ => by simp) ..

theorem connStatus_leaves (s : State) : Gives (.connStatus) s (Leaves s) := by
  refine ⟨_, rfl, .of_kept (serve_kept (.refl _) _ _ (fun r k6 => respond_kept k6 ..)) ?_⟩
  exact serve_configFrom (fun _ _ => by simp) ..

theorem unknownPartners_leaves (s : State) : Gives (.unknownPartners) s (Leaves s) := by
  refine ⟨_, rfl, .of_kept (serve_kept (.refl _) _ _ (fun r k6 => respond_kept k6 ..)) ?_⟩
  exact serve_configFrom (fun _ _ => by simp) ..

theorem hostsigWrite_leaves (s : State) : Gives (.hostsigWrite) s (Leaves s) := by
  refine ⟨_, rfl, .of_kept (serve_kept (.refl _) _ _ (fun r k6 => .put rfl (wait_kept k6 ..))) ?_⟩
  exact serve_configFrom (fun _ _ => by simp) ..

theorem hostsigRead_leaves (s : State) : Gives (.hostsigRead) s (Leaves s) := by
  refine ⟨_, rfl, .of_kept (serve_kept (.refl _) _ _ (fun r k6 => respond_kept k6 ..)) ?_⟩
  exact serve_configFrom (fun _ _ => by simp) ..

theorem paramRead_leaves (s : State) : Gives (.paramRead) s (Leaves s) := by
  refine ⟨_, rfl, .of_kept ?_ ?_⟩
  · refine serve_kept (.refl _) _ _ ?_
    intro s1 r k6
    split <;> exact respond_kept k6 ..
  · refine serve_configFrom (fun r u => ?_) ..
    repeat' split
    all_goals simp

theorem paramWrite_leaves (s : State) : Gives (.paramWrite) s (Leaves s) := by
  refine ⟨_, rfl, .of_kept ?_ ?_⟩
  · refine serve_kept (.refl _) _ _ ?_
    intro s1 r k6
    extract_lets +onlyGivenNames v
    split
    · exact respond_kept k6 ..
    · exact .ite (fun _ => respond_kept k6 ..) fun _ => .ite (fun _ => respond_kept k6 ..) fun _ => .ite (fun _ =>
          refuseCfg_kept k6 ..) fun _ => .ite (fun _ => respond_kept k6 ..) fun _ => respond_kept (paramSet_kept k6 ..) ..
  · refine serve_configFrom (fun r u => ?_) ..
    dsimp only
    repeat' split
    all_goals simp [paramSet_configFrom]

theorem oxbInfo_leaves (s : State) : Gives (.oxbInfo) s (Leaves s) := by
  refine ⟨_, rfl, .of_kept (serve_kept (.refl _) _ _ (fun r k6 => respond_kept (.put rfl k6) ..)) ?_⟩
  refine serve_configFrom (fun _ _ => ?_) ..
  rw [respond_configFrom]

theorem oxbRead_leaves (damage : List RecordDamage) (s : State) : Gives (.oxbRead damage) s (Leaves s) := by
  refine ⟨_, rfl, .of_kept (serve_kept (.refl _) _ _ fun r k => respond_kept (oxbReadBack_kept (takeDamage_kept k ..) ..) ..) ?_⟩
  exact serve_configFrom (fun _ _ => by simp) ..

theorem oxbFlush_leaves (s : State) : Gives (.oxbFlush) s (Leaves s) := by
  refine ⟨_, rfl, .of_kept (serve_kept (.refl _) _ _ (fun r k6 => flushTrigger_kept (wait_kept k6 ..) ..)) ?_⟩
  exact serve_configFrom (fun _ _ => by simp) ..

theorem selftestRequest_leaves (s : State) : Gives (.selftestRequest) s (Leaves s) := by
  refine ⟨_, rfl, .of_kept ?_ ?_⟩
  · refine serve_kept (.refl _) _ _ ?_
    intro s1 r k6
    refine .ite (fun _ => respond_kept k6 ..) fun _ => ?_
    refine .ite (fun _ => respond_kept k6 ..) fun _ => ?_
    extract_lets +onlyGivenNames left t x2 x3 s2
    have k2 : Kept [r.tag] s1 s2 := .put rfl (wait_kept k6 ..)
    exact .ite (fun _ => finishSelfTest_kept k2) fun _ => .ite (fun _ => groupCouplers_kept k2 ..) fun _ => k2
  · exact serve_configFrom (fun _ _ => by simp) ..

theorem selftestReport_leaves (s : State) : Gives (.selftestReport) s (Leaves s) := by
  refine ⟨_, rfl, .of_kept (serve_kept (.refl _) _ _ (fun r k6 => respond_kept k6 ..)) ?_⟩
  exact serve_configFrom (fun _ _ => by simp) ..

theorem calRead_leaves (s : State) : Gives (.calRead) s (Leaves s) := by
  refine ⟨_, rfl, .of_kept (serve_kept (.refl _) _ _ (fun r k6 => respond_kept k6 ..)) ?_⟩
  exact serve_configFrom (fun _ _ => by simp) ..

theorem calStart_leaves (s : State) : Gives (.calStart) s (Leaves s) := by
  refine ⟨_, rfl, .of_kept ?_ ?_⟩
  · exact serve_kept (.refl _) _ _ (fun r k6 => .ite (fun _ => respond_kept k6 ..) fun _ =>
        calEnd_kept (calDrop_kept (.put rfl (wait_kept k6 ..))))
  · exact serve_configFrom (fun _ _ => by simp) ..

theorem fuseRead_leaves (s : State) : Gives (.fuseRead) s (Leaves s) := by
  refine ⟨_, rfl, .of_kept (serve_kept (.refl _) _ _ (fun r k6 => respond_kept k6 ..)) ?_⟩
  exact serve_configFrom (fun _ _ => by simp) ..

theorem fuseProgram_leaves (s : State) : Gives (.fuseProgram) s (Leaves s) := by
  refine ⟨_, rfl, .of_kept (serve_kept (.refl _) _ _ (fun r k6 => askJob_kept (wait_kept k6 ..) ..)) ?_⟩
  exact serve_configFrom (fun _ _ => by simp) ..

theorem fuseVerify_leaves (differ : List Nat) (s : State) : Gives (.fuseVerify differ) s (Leaves s) := by
  refine ⟨_, rfl, .of_kept ?_ ?_⟩
  · exact .ite (fun _ => .refl _) fun _ => serve_kept (.refl _) _ _ (fun r k6 => respond_kept (.foldl _ _ (fun _ _ k6 => event_kept k6
        ..) k6) ..)
  · split
    · rfl
    refine serve_configFrom (fun r u => ?_) ..
    dsimp only
    simp [foldl_configFrom, event_configFrom]

theorem fuseSeal_leaves (s : State) : Gives (.fuseSeal) s (Leaves s) := by
  refine ⟨_, rfl, .of_kept (serve_kept (.refl _) _ _ (fun r k6 => askJob_kept (wait_kept k6 ..) ..)) ?_⟩
  exact serve_configFrom (fun _ _ => by simp) ..

theorem fuseLock_leaves (s : State) : Gives (.fuseLock) s (Leaves s) := by
  refine ⟨_, rfl, .of_kept (serve_kept (.refl _) _ _ (fun r k6 => askJob_kept (wait_kept k6 ..) ..)) ?_⟩
  exact serve_configFrom (fun _ _ => by simp) ..

theorem fwStageBegin_leaves (s : State) : Gives (.fwStageBegin) s (Leaves s) := by
  refine ⟨_, rfl, .of_kept ?_ ?_⟩
  · refine .ite (fun _ => .refl _) fun _ => serve_kept (.refl _) _ _ fun r k => ?_
    exact .ite (fun _ => respond_kept k ..) fun _ => respond_kept (putStaging_kept k _ fun _ => stagingOk_empty _) ..
  · split
    · rfl
    refine serve_configFrom (fun r u => ?_) ..
    repeat' split
    all_goals simp

theorem fwStageData_leaves (s : State) : Gives (.fwStageData) s (Leaves s) := by
  refine ⟨_, rfl, .of_kept ?_ ?_⟩
  · refine .ite (fun _ => .refl _) fun _ => serve_kept (.refl _) _ _ fun r k => ?_
    extract_lets off data
    split
    · exact respond_kept k ..
    next x hx =>
      refine .ite (fun _ => respond_kept k ..) fun _ => .ite (fun _ => respond_kept k ..) fun hl => respond_kept ?_ ..
      exact putStaging_kept k _ fun z => stagingOk_stageWrite hl (hx ▸ z)
  · split
    · rfl
    refine serve_configFrom (fun r u => ?_) ..
    dsimp only
    repeat' split
    all_goals simp

theorem fwStageEnd_leaves (s : State) : Gives (.fwStageEnd) s (Leaves s) := by
  refine ⟨_, rfl, .of_kept ?_ ?_⟩
  · refine .ite (fun _ => .refl _) fun _ => serve_kept (.refl _) _ _ fun r k => ?_
    split
    · exact respond_kept k ..
    next x hx =>
      refine .ite (fun _ => respond_kept k ..) fun _ => .ite (fun _ => respond_kept k ..) fun _ => ?_
      split
      · exact respond_kept k ..
      · exact respond_kept (putStaging_kept k _ fun z => stagingOk_ended x.hash (hx ▸ z)) ..
  · split
    · rfl
    refine serve_configFrom (fun r u => ?_) ..
    repeat' split
    all_goals simp

theorem fwActivate_leaves (s : State) : Gives (.fwActivate) s (Leaves s) := by
  refine ⟨_, rfl, .of_from ?_ ?_⟩
  · refine serve_kept (.refl _) _ _ ?_
    intro s1 r k6
    split
    · exact respond_kept k6 ..
    · refine .ite (fun _ => respond_kept k6 ..) fun _ => ?_
      split
      · exact respond_kept k6 ..
      · refine .ite (fun _ => respond_kept k6 ..) fun _ => ?_
        refine .ite (fun _ => activateByReset_kept k6 ..) fun _ => ?_
        split
        · exact .ite (fun _ => startHandover_kept k6 ..) fun _ => respond_kept k6 ..
        · exact respond_kept k6 ..
  · refine fun h => serve_dev (P := FromOk) (fun r u h => ?_) _ _ h
    split
    · exact h
    split
    · exact h
    split
    · exact h
    split
    · exact h
    split
    · exact configFromOk_of_none rfl
    split
    · split <;> exact h
    · exact h

theorem fwInfo_leaves (s : State) : Gives (.fwInfo) s (Leaves s) := by
  refine ⟨_, rfl, .of_kept (serve_kept (.refl _) _ _ (fun r k6 => .put rfl (respond_kept k6 ..))) ?_⟩
  exact serve_configFrom (fun _ _ => by simp) ..

theorem optime_leaves (s : State) : Gives (.optime) s (Leaves s) := by
  refine ⟨_, rfl, .of_kept (serve_kept (.refl _) _ _ (fun r k6 => respond_kept k6 ..)) ?_⟩
  exact serve_configFrom (fun _ _ => by simp) ..

theorem rosProgram_leaves (word : Nat) (s : State) : Gives (.rosProgram word) s (Leaves s) := by
  refine ⟨_, rfl, .of_kept (rosCmd_kept (.refl _) ..) ?_⟩
  simp

theorem rosVerify_leaves (word : Nat) (differs : Bool) (s : State) : Gives (.rosVerify word differs) s (Leaves s) := by
  refine ⟨_, rfl, .of_kept ?_ ?_⟩
  · exact .ite (fun _ => .refl _) fun _ => .ite (fun _ => event_kept (.put rfl (.refl _)) ..) fun _ => .put rfl (.refl _)
  · simp

theorem rosSeal_leaves (region : Nat) (s : State) : Gives (.rosSeal region) s (Leaves s) := by
  refine ⟨_, rfl, .of_kept (rosCmd_kept (.refl _) ..) ?_⟩
  simp

theorem rosLock_leaves (region : Nat) (s : State) : Gives (.rosLock region) s (Leaves s) := by
  refine ⟨_, rfl, .of_kept (rosCmd_kept (.refl _) ..) ?_⟩
  simp

theorem rosOperationComplete_leaves (reads : List ProgRead) (final : Sense) (s : State) : Gives (.rosOperationComplete reads final) s
    (Leaves s) := by
  refine ⟨_, rfl, .of_kept ?_ ?_⟩
  · split
    · exact .refl _
    · split
      · exact .refl _
      · exact endJob_kept (.refl _) ..
  · repeat' split
    all_goals simp

theorem registerWrite_leaves (r : RosReg) (v : Word) (s : State) : Gives (.registerWrite r v) s (Leaves s) := by
  refine ⟨_, rfl, .of_kept ?_ ?_⟩
  · refine .ite (fun _ => .refl _) fun _ => ?_
    split
    · exact .put rfl (.refl _)
    · exact .put rfl (.refl _)
    · exact rosCmdOther_kept (.refl _) ..
  · repeat' split
    all_goals simp

theorem fdRunFrame_leaves (c : Nat) (frame : BitVec 40) (smp : LandSample) (s : State) : Gives (.fdRunFrame c frame smp) s (Leaves s) :=
  ⟨_, rfl, (dieFrame_fieldOnly _ _ _ _ fun _ _ _ h => .setChan (.ite (.setDie (h.takeFree _) ..) (h.takeFree _)) ..).leaves⟩

theorem fdSyncFrame_leaves (c : Nat) (frame : BitVec 40) (smp : LandSample) (s : State) : Gives (.fdSyncFrame c frame smp) s (Leaves s) :=
  ⟨_, rfl, (dieFrame_fieldOnly _ _ _ _ fun _ _ _ h => .setChan (.ite (h.setDie ..) h) ..).leaves⟩

theorem fdCfgFrame_leaves (c : Nat) (frame : BitVec 40) (smp : LandSample) (s : State) : Gives (.fdCfgFrame c frame smp) s (Leaves s) :=
  ⟨_, rfl, (dieFrame_fieldOnly _ _ _ _ fun _ _ _ h => h.setChan ..).leaves⟩

theorem fieldWatchdogExpiry_leaves (c : Nat) (s : State) : Gives (.fieldWatchdogExpiry c) s (Leaves s) := by
  refine ⟨_, rfl, .of_kept (.ite (fun _ => setChan_kept (.refl _) _ _ nofun nofun) fun _ => .refl _) ?_⟩
  simp

theorem fdPowerOn_leaves (g : Nat) (vfMv : Nat) (s : State) : Gives (.fdPowerOn g vfMv) s (Leaves s) := by
  refine ⟨_, rfl, .of_kept (.ite (fun _ => .refl _) fun _ => setDie_kept (groupChans_kept (.refl _) _ (powerUp_off _)) ..) ?_⟩
  simp

theorem fdSupplyLoss_leaves (g : Nat) (s : State) : Gives (.fdSupplyLoss g) s (Leaves s) := by
  refine ⟨_, rfl, .of_kept (setDie_kept (groupChans_kept (.refl _) _ (powerUp_off _)) ..) ?_⟩
  rfl

theorem vfUnderLockout_leaves (g : Nat) (s : State) : Gives (.vfUnderLockout g) s (Leaves s) := by
  refine ⟨_, rfl, .of_kept (.ite (fun _ => setDie_kept (groupChans_kept (.refl _) _ open_off) ..) fun _ => .refl _) ?_⟩
  simp

theorem vfOverLockout_leaves (g : Nat) (s : State) : Gives (.vfOverLockout g) s (Leaves s) := by
  refine ⟨_, rfl, .of_kept (.ite (fun _ => setDie_kept (groupChans_kept (.refl _) _ open_off) ..) fun _ => .refl _) ?_⟩
  simp

theorem vfUnderRelease_leaves (g : Nat) (s : State) : Gives (.vfUnderRelease g) s (Leaves s) := by
  refine ⟨_, rfl, .of_kept ?_ ?_⟩
  · refine .ite (fun _ => setDie_kept (groupChans_kept (.refl _) _ fun d => ?_) ..) fun _ => .refl _
    exact ⟨id, id⟩
  · simp

theorem vfOverRelease_leaves (g : Nat) (s : State) : Gives (.vfOverRelease g) s (Leaves s) := by
  refine ⟨_, rfl, .of_kept ?_ ?_⟩
  · refine .ite (fun _ => setDie_kept (groupChans_kept (.refl _) _ fun d => ?_) ..) fun _ => .refl _
    exact ⟨id, id⟩
  · simp

theorem overloadTimeout_leaves (c : Nat) (s : State) : Gives (.overloadTimeout c) s (Leaves s) := by
  refine ⟨_, rfl, .of_kept (.ite (fun _ => setChan_kept (.refl _) _ _ nofun nofun) fun _ => .refl _) ?_⟩
  simp

theorem overtemp_leaves (c : Nat) (s : State) : Gives (.overtemp c) s (Leaves s) := by
  refine ⟨_, rfl, .of_kept (.ite (fun _ => setChan_kept (.refl _) _ _ nofun nofun) fun _ => .refl _) ?_⟩
  simp

theorem overloadLockoutEnd_leaves (c : Nat) (s : State) : Gives (.overloadLockoutEnd c) s (Leaves s) := by
  refine ⟨_, rfl, .of_kept (.ite (fun _ => setChan_kept (.refl _) _ _ id id) fun _ => .refl _) ?_⟩
  simp

theorem statusFrame_leaves (sd : Side) (c : Nat) (frame : Option (BitVec 40)) (dis : List Nat) (s : State) : Gives (.statusFrame sd c
    frame dis) s (Leaves s) := by
  refine ⟨_, rfl, .of_kept ?_ ?_⟩
  · split
    · exact .refl _
    · refine .ite (fun _ => .refl _) fun _ => ?_
      split
      · exact pairSilence_kept (noStatus_kept (.refl _) ..) ..
      · exact .ite (fun _ => pairFrames_kept (noStatus_kept (event_kept (.refl _) ..) ..) ..) fun _ => .ite (fun _ =>
            pairFrames_kept (noStatus_kept (.refl _) ..) ..) fun _ =>
            couplerBack_kept (pairFrames_kept (goodStatus_kept (.refl _) ..) ..) ..
  · repeat' split
    all_goals simp

theorem couplerLostDetect_leaves (sd : Side) (c : Nat) (s : State) : Gives (.couplerLostDetect sd c) s (Leaves s) := by
  refine ⟨_, rfl, .of_kept (.ite (fun _ => raise_kept (.refl _) ..) fun _ => .refl _) ?_⟩
  simp

theorem vfMissingDetect_leaves (sd : Side) (g : Nat) (s : State) : Gives (.vfMissingDetect sd g) s (Leaves s) := by
  refine ⟨_, rfl, .of_kept (.ite (fun _ => raise_kept (.refl _) ..) fun _ => .refl _) ?_⟩
  simp

theorem vfLowEnter_leaves (sd : Side) (g : Nat) (s : State) : Gives (.vfLowEnter sd g) s (Leaves s) := by
  refine ⟨_, rfl, .of_kept (.ite (fun _ => raise_kept (setGview_kept (.refl _) ..) ..) fun _ => .refl _) ?_⟩
  simp

theorem vfLowLeave_leaves (sd : Side) (g : Nat) (s : State) : Gives (.vfLowLeave sd g) s (Leaves s) := by
  refine ⟨_, rfl, .of_kept (.ite (fun _ => clear_kept (setGview_kept (.refl _) ..) ..) fun _ => .refl _) ?_⟩
  simp

theorem groupOverloadTimeout_leaves (sd : Side) (g : Nat) (s : State) : Gives (.groupOverloadTimeout sd g) s (Leaves s) := by
  refine ⟨_, rfl, .of_kept (.ite (fun _ => raise_kept (.refl _) ..) fun _ => .refl _) ?_⟩
  simp

theorem inputFilterChange_leaves (sd : Side) (c : Nat) (s : State) : Gives (.inputFilterChange sd c) s (Leaves s) := by
  refine ⟨_, rfl, .of_kept ?_ ?_⟩
  · extract_lets +onlyGivenNames e s1
    have k1 : Kept [] s s1 := mapViews_kept (.refl _) ..
    exact .ite (fun _ => monitoredSources_kept k1 ..) fun _ => k1
  · simp

theorem gapToleranceOff_leaves (sd : Side) (c : Nat) (s : State) : Gives (.gapToleranceOff sd c) s (Leaves s) := by
  refine ⟨_, rfl, .of_kept (mapViews_kept (.refl _) ..) ?_⟩
  simp

theorem pulseSlotStart_leaves (h : Nat) (s : State) : Gives (.pulseSlotStart h) s (Leaves s) := by
  refine ⟨_, rfl, .of_kept ?_ ?_⟩
  · extract_lets +onlyGivenNames e
    split
    · exact .refl _
    · exact .ite (fun _ => .refl _) fun _ => setView_kept (setView_kept (.refl _) ..) ..
  · split <;> simp

theorem pulseEvaluation_leaves (sd : Side) (h : Nat) (s : State) : Gives (.pulseEvaluation sd h) s (Leaves s) := by
  refine ⟨_, rfl, .of_kept ?_ ?_⟩
  · extract_lets +onlyGivenNames v
    split
    · exact .refl _
    refine .ite (fun _ => .refl _) fun _ => ?_
    extract_lets eval a b judged r2
    split
    extract_lets row v2 s2
    have k2 : Kept [] s s2 := setView_kept (.refl _) ..
    refine .ite (fun _ => k2) fun _ => ?_
    split
    next s3 pass e =>
    have k3 : Kept [] s s3 := by simpa [e] using pulseVerdict_kept k2 sd h r2 eval
    exact .foldl _ _ (fun _ _ k => fedInput_kept k ..) (.ite (fun _ => clear_kept (setView_kept k3 ..) ..) fun _ => k3)
  · dsimp only
    split
    · rfl
    split
    · rfl
    split
    · rfl
    rw [foldl_configFrom fun _ _ => by simp]
    split <;> simp

theorem pulsePostSample_leaves (sd : Side) (h : Nat) (s : State) : Gives (.pulsePostSample sd h) s (Leaves s) := by
  refine ⟨_, rfl, .of_kept ?_ ?_⟩
  · extract_lets +onlyGivenNames v
    split
    · exact .refl _
    · exact .ite (fun _ => .refl _) fun _ => .ite (fun _ => setView_kept (.refl _) ..) fun _ => .ite (fun _ =>
          setView_kept (.refl _) ..) fun _ => .foldl _ _ (fun _ _ k5 => .ite (fun _ =>
          event_kept (event_kept k5 ..) ..) fun _ => k5) (setView_kept (.refl _) ..)
  · dsimp only
    split
    · rfl
    repeat' split
    · rfl
    · rfl
    · rfl
    · rw [foldl_configFrom fun _ _ => by split <;> simp]
      rfl

theorem pulseOverdueCount_leaves (sd : Side) (h : Nat) (s : State) : Gives (.pulseOverdueCount sd h) s (Leaves s) := by
  refine ⟨_, rfl, .of_kept (.ite (fun _ => raise_kept (.refl _) ..) fun _ => .refl _) ?_⟩
  simp

theorem openLoadTimeout_leaves (sd : Side) (c : Nat) (s : State) : Gives (.openLoadTimeout sd c) s (Leaves s) := by
  refine ⟨_, rfl, .of_kept (.ite (fun _ => raise_kept (.refl _) ..) fun _ => .refl _) ?_⟩
  simp

theorem cellBoundary_leaves (n : Nat) (s : State) : Gives (.cellBoundary n) s (Leaves s) := by
  refine ⟨_, rfl, .of_kept ?_ ?_⟩
  · exact .ite (fun _ => .refl _) fun _ => purgeHolds_kept (.ite (fun _ => event_kept (.ite (fun _ =>
        event_kept (cellCheckpoint_kept (cellCheckpoint_kept (latchSide_kept (latchSide_kept (boundarySide_kept (boundarySide_kept
        (setLine_kept (.refl _) ..) ..) ..) ..) ..) ..) ..) ..) fun _ =>
        cellCheckpoint_kept (cellCheckpoint_kept (latchSide_kept (latchSide_kept (boundarySide_kept (boundarySide_kept (setLine_kept
        (.refl _) ..) ..) ..) ..) ..) ..) ..) ..) fun _ => .ite (fun _ =>
        event_kept (cellCheckpoint_kept (cellCheckpoint_kept (latchSide_kept (latchSide_kept (boundarySide_kept (boundarySide_kept
        (setLine_kept (.refl _) ..) ..) ..) ..) ..) ..) ..) ..) fun _ =>
        cellCheckpoint_kept (cellCheckpoint_kept (latchSide_kept (latchSide_kept (boundarySide_kept (boundarySide_kept (setLine_kept
        (.refl _) ..) ..) ..) ..) ..) ..) ..)
  · simp

theorem cellEvaluationDone_leaves (sd : Side) (n used : Nat) (s : State) : Gives (.cellEvaluationDone sd n used) s (Leaves s) := by
  refine ⟨_, rfl, .of_kept ?_ ?_⟩
  · split
    · exact .refl _
    · exact .ite (fun _ => .refl _) fun _ => finishRun_kept (.refl _) ..
  · split <;> simp

theorem reconciliationPoint_leaves (n : Nat) (s : State) : Gives (.reconciliationPoint n) s (Leaves s) := by
  refine ⟨_, rfl, .of_kept (.ite (fun _ => .refl _) fun _ => reconSide_kept (reconSide_kept (setLine_kept (.refl _) ..) ..) ..) ?_⟩
  simp

theorem windowMiss_leaves (sd : Side) (n : Nat) (s : State) : Gives (.windowMiss sd n) s (Leaves s) := by
  refine ⟨_, rfl, .of_kept ?_ ?_⟩
  · extract_lets +onlyGivenNames x
    split
    · exact .refl _
    · exact event_kept (setCell_kept (.refl _) ..) ..
  · dsimp only
    split <;> simp

theorem abDiscrepancy_leaves (sd : Side) (n : Nat) (s : State) : Gives (.abDiscrepancy sd n) s (Leaves s) := by
  refine ⟨_, rfl, .of_kept (.ite (fun _ => event_kept (.refl _) ..) fun _ => .refl _) ?_⟩
  simp

theorem sigMismatch_leaves (sd : Side) (n : Nat) (s : State) : Gives (.sigMismatch sd n) s (Leaves s) := by
  refine ⟨_, rfl, .of_kept (.ite (fun _ => event_kept (.refl _) ..) fun _ => .refl _) ?_⟩
  simp

theorem eventLiveExpiry_leaves (block index inst : Nat) (s : State) : Gives (.eventLiveExpiry block index inst) s (Leaves s) := by
  refine ⟨_, rfl, .of_kept ?_ ?_⟩
  · split
    · exact .refl _
    · split
      · exact .refl _
      · exact .ite (fun _ => purgeHolds_kept (fall_kept (.refl _) ..)) fun _ => .refl _
  · repeat' split
    all_goals simp

theorem crstChipReset_leaves (s : State) : Gives (.crstChipReset) s (Leaves s) := by
  refine ⟨_, rfl, .of_from (.ite (fun _ => chipReset_kept (.refl _) ..) fun _ => .refl _) ?_⟩
  intro h
  split
  · exact configFromOk_of_none rfl
  · exact h

theorem errpToggle_leaves (s : State) : Gives (.errpToggle) s (Leaves s) := by
  refine ⟨_, rfl, .of_kept (.ite (fun _ => .put rfl (.refl _)) fun _ => .refl _) ?_⟩
  simp

theorem errpReadbackCheck_leaves (land : Nat) (differs : Bool) (s : State) : Gives (.errpReadbackCheck land differs) s (Leaves s) := by
  refine ⟨_, rfl, .of_kept (.ite (fun _ => .refl _) fun _ => condition_kept (.refl _) ..) ?_⟩
  simp

theorem holdPatternFrame_leaves (ms : Nat) (s : State) : Gives (.holdPatternFrame ms) s (Leaves s) := by
  refine ⟨_, rfl, .of_kept (.ite (fun _ => .put rfl (.refl _)) fun _ => .refl _) ?_⟩
  simp

theorem lockstepMismatch_leaves (p : Nat) (cell : Option Nat) (group : Nat) (same : Bool) (s : State) : Gives (.lockstepMismatch p cell
    group same) s (Leaves s) := by
  refine ⟨_, rfl, .of_kept ?_ ?_⟩
  · refine .ite (fun _ => .refl _) fun _ => ?_
    extract_lets +onlyGivenNames role running named k now x5 s1
    have k1 : Kept [] s s1 := event_kept (setPair_kept (.refl _) ..) ..
    extract_lets +onlyGivenNames s2
    have k2 : Kept [] s s2 := .ite (fun _ => abortRequested_kept k1) fun _ => k1
    exact .ite (fun _ => retirePair_kept (.ite (fun _ => preferLower_kept k2 ..) fun _ => k2) ..) fun _ => pairReset_kept k2 ..
  · simp

theorem pairRestoreDone_leaves (p : Nat) (rep : RestoreReport) (s : State) : Gives (.pairRestoreDone p rep) s (Leaves s) := by
  refine ⟨_, rfl, .of_kept ?_ ?_⟩
  · split
    · exact moveRestored_kept (.refl _) ..
    · exact .ite (fun _ => .refl _) fun _ => .ite (fun _ => retirePair_kept (.refl _) ..) fun _ => pairRestored_kept (.refl _) ..
  · split <;> simp

theorem catchupLate_leaves (sd : Side) (n : Nat) (s : State) : Gives (.catchupLate sd n) s (Leaves s) := by
  refine ⟨_, rfl, .of_kept (.ite (fun _ => event_kept (.refl _) ..) fun _ => .refl _) ?_⟩
  simp

theorem agrPersistCount_leaves (p kind index : Nat) (s : State) : Gives (.agrPersistCount p kind index) s (Leaves s) := by
  refine ⟨_, rfl, .of_kept (.ite (fun _ => raise_kept (.refl _) ..) fun _ => .refl _) ?_⟩
  simp

theorem eccUncorrectable_leaves (sd : Side) (initiator : Nat) (place : EccPlace) (s : State) : Gives (.eccUncorrectable sd initiator
    place) s (Leaves s) := by
  refine ⟨_, rfl, .of_kept ?_ ?_⟩
  · refine .ite (fun _ => .refl _) fun _ => ?_
    split
    · exact .ite (fun _ => event_kept (.refl _) ..) fun _ => .refl _
    · exact event_kept (.refl _) ..
  · repeat' split
    all_goals simp

theorem portGuardBlock_leaves (initiator : Nat) (region : MemRegion) (write : Bool) (s : State) : Gives (.portGuardBlock initiator region
    write) s (Leaves s) := by
  refine ⟨_, rfl, .of_kept ?_ ?_⟩
  · extract_lets +onlyGivenNames r
    split
    · exact .refl _
    · exact .ite (fun _ => .refl _) fun _ => event_kept (.put rfl (.refl _)) ..
  · split <;> simp

theorem cmpInjectionTest_leaves (p : Nat) (reports : List LaneReport) (s : State) : Gives (.cmpInjectionTest p reports) s (Leaves s) := by
  refine ⟨_, rfl, .of_kept ?_ ?_⟩
  · refine .ite (fun _ => .refl _) fun _ => ?_
    split
    · exact event_kept (.refl _) ..
    · exact setPair_kept (.refl _) ..
  · repeat' split
    all_goals simp

theorem announceTransmit_leaves (port : Nat) (s : State) : Gives (.announceTransmit port) s (Leaves s) := by
  refine ⟨_, rfl, .of_kept (.ite (fun _ => .refl _) fun _ => .foldl _ _ (fun _ _ k5 => queueFrame_kept k5 ..) (.refl _)) ?_⟩
  extract_lets mine phase
  split
  · rfl
  · rw [foldl_configFrom fun _ _ => by simp]

theorem pduTransmit_leaves (s : State) : Gives (.pduTransmit) s (Leaves s) := by
  refine ⟨_, rfl, .of_kept ?_ ?_⟩
  · refine .ite (fun _ => .refl _) fun _ => ?_
    extract_lets +onlyGivenNames x0 x1 due built half x5 x6 s1
    have k1 : Kept [] s s1 := .foldl _ _ (fun _ _ k6 => queueData_kept k6 ..) (.foldl _ _ (fun _ _ k6 => event_kept k6 ..) (.foldl _ _
        (fun _ _ k6 => advanceVt_kept (advanceVt_kept k6 ..) ..) (.put rfl (.refl _))))
    exact .foldl _ _ (fun _ _ k6 => sendControl_kept k6 ..) k1
  · dsimp only
    split
    · rfl
    · rw [foldl_configFrom fun _ _ => by simp, foldl_configFrom fun _ _ => by simp, foldl_configFrom fun _ _ => by simp,
        foldl_configFrom fun _ _ => by simp]

theorem frameTxDone_leaves (port : Nat) (s : State) : Gives (.frameTxDone port) s (Leaves s) := by
  refine ⟨_, rfl, .of_kept ?_ ?_⟩
  · extract_lets +onlyGivenNames p
    split
    · exact .refl _
    · exact .ite (fun _ => .refl _) fun _ => startTx_kept (setPort_kept (.refl _) ..) ..
  · dsimp only
    split <;> simp

theorem txStaleDiscard_leaves (port : Nat) (s : State) : Gives (.txStaleDiscard port) s (Leaves s) := by
  refine ⟨_, rfl, .of_kept ?_ ?_⟩
  · exact .ite (fun _ => .refl _) fun _ => startTx_kept (discardStale_kept (pauseOver_kept (discardStale_kept (.refl _) ..) ..) ..) ..
  · simp

theorem frameReceived_leaves (port : Nat) (bytes : List Byte) (s : State) : Gives (.frameReceived port bytes) s (Leaves s) := by
  refine ⟨_, rfl, .of_kept ?_ ?_⟩
  · refine .ite (fun _ => .refl _) fun _ => ?_
    refine .ite (fun _ => .ite (fun _ => .refl _) fun _ => event_kept (.refl _) ..) fun _ => ?_
    refine .ite (fun _ => event_kept (.refl _) ..) fun _ => ?_
    split
    · exact event_kept (.refl _) ..
    · split
      · exact event_kept (.refl _) ..
      · exact pauseTx_kept (setPort_kept (.refl _) ..) ..
  · repeat' split
    all_goals simp

theorem arpRequest_leaves (port : Nat) (s : State) : Gives (.arpRequest port) s (Leaves s) := by
  refine ⟨_, rfl, .of_kept ?_ ?_⟩
  · extract_lets +onlyGivenNames p
    split
    · exact .refl _
    · refine .ite (fun _ => .refl _) fun _ => ?_
      extract_lets +onlyGivenNames s1
      have k1 : Kept [] s s1 := dropBuffer_kept (.refl _) ..
      split
      · exact k1
      · exact .ite (fun _ => event_kept k1 ..) fun _ => queueFrame_kept k1 ..
  · dsimp only
    repeat' split
    all_goals simp

theorem pauseFrame_leaves (port : Nat) (s : State) : Gives (.pauseFrame port) s (Leaves s) := by
  refine ⟨_, rfl, .of_kept ?_ ?_⟩
  · extract_lets +onlyGivenNames p
    split
    · exact .refl _
    · refine .ite (fun _ => .refl _) fun _ => ?_
      extract_lets +onlyGivenNames cfg s1
      have k1 : Kept [] s s1 := event_kept (dropBuffer_kept (.refl _) ..) ..
      exact .ite (fun _ => k1) fun _ => .ite (fun _ => setPort_kept k1 ..) fun _ => startTx_kept (setPort_kept k1 ..) ..
  · dsimp only
    split <;> simp

theorem pauseEnd_leaves (port : Nat) (s : State) : Gives (.pauseEnd port) s (Leaves s) := by
  refine ⟨_, rfl, .of_kept ?_ ?_⟩
  · split
    · exact .refl _
    · exact .ite (fun _ => startTx_kept (setPort_kept (.refl _) ..) ..) fun _ => .refl _
  · split <;> simp

theorem millraceFrame_leaves (port : Nat) (s : State) : Gives (.millraceFrame port) s (Leaves s) := by
  refine ⟨_, rfl, .of_kept ?_ ?_⟩
  · extract_lets +onlyGivenNames p
    split
    · exact .refl _
    · exact .ite (fun _ => .refl _) fun _ => .ite (fun _ => event_kept (dropBuffer_kept (.refl _) ..) ..) fun _ =>
          copyDescriptors_kept (setPort_kept (.refl _) ..) ..
  · dsimp only
    split <;> simp

theorem rxPickupTimeout_leaves (port : Nat) (s : State) : Gives (.rxPickupTimeout port) s (Leaves s) := by
  refine ⟨_, rfl, .of_kept ?_ ?_⟩
  · refine .ite (fun _ => .refl _) fun _ => ?_
    extract_lets +onlyGivenNames p late s1
    have k1 : Kept [] s s1 := setPort_kept (.refl _) ..
    extract_lets +onlyGivenNames keep x1 s2
    have k2 : Kept [] s s2 := .foldl _ _ (fun _ _ k7 => event_kept k7 ..) (setWindow_kept (setWindow_kept k1 ..) ..)
    exact .ite (fun _ => k2) fun _ => pauseTx_kept k2 ..
  · dsimp only
    split
    · rfl
    split
    · rw [foldl_configFrom fun _ _ => by simp]
      rfl
    · rw [pauseTx_configFrom, foldl_configFrom fun _ _ => by simp]
      rfl

theorem dataPduAccept_leaves (sd : Side) (port : Nat) (s : State) : Gives (.dataPduAccept sd port) s (Leaves s) := by
  refine ⟨_, rfl, .of_kept ?_ ?_⟩
  · refine onCaptured_kept (.refl _) _ _ _ ?_
    intro d u k6
    extract_lets +onlyGivenNames p n inUse c e
    split
    · exact event_kept k6 ..
    · split
      · exact event_kept k6 ..
      · exact .ite (fun _ => crcReject_kept k6 ..) fun _ => .ite (fun _ => event_kept k6 ..) fun _ => dataAccepted_kept k6 ..
  · refine onCaptured_configFrom (fun d u => ?_) ..
    dsimp only
    repeat' split
    all_goals simp

theorem announceReceived_leaves (sd : Side) (port : Nat) (s : State) : Gives (.announceReceived sd port) s (Leaves s) := by
  refine ⟨_, rfl, .of_kept ?_ ?_⟩
  · refine onCaptured_kept (.refl _) _ _ _ ?_
    intro d u k
    refine .ite (fun _ => k) fun _ => .ite (fun _ => event_kept (seeUnknown_kept k ..) ..) fun _ => ?_
    exact .foldl _ _ (fun _ _ k => announceAt_kept k ..) (.foldl _ _ (fun _ _ k => learn_kept k ..) k)
  · refine onCaptured_configFrom (fun d u => ?_) ..
    dsimp only
    split
    · rfl
    split
    · simp
    rw [foldl_configFrom fun _ _ => by simp, foldl_configFrom fun _ _ => by simp]

theorem openSend_leaves (sd : Side) (n : Nat) (s : State) : Gives (.openSend sd n) s (Leaves s) := by
  refine ⟨_, rfl, .of_kept ?_ ?_⟩
  · refine .ite (fun _ => .refl _) fun _ => ?_
    split
    · exact connEnter_kept (.refl _) ..
    · exact connEnter_kept (setConn_kept (.refl _) ..) ..
  · split <;> simp

theorem openReceived_leaves (sd : Side) (port : Nat) (s : State) : Gives (.openReceived sd port) s (Leaves s) := by
  refine ⟨_, rfl, .of_kept ?_ ?_⟩
  · refine onCaptured_kept (.refl _) _ _ _ ?_
    intro d u k6
    refine .ite (fun _ => k6) fun _ => ?_
    split
    · extract_lets +onlyGivenNames s2
      have k2 : Kept [] s s2 := searchTook_kept k6 ..
      exact .ite (fun _ => openAccepted_kept k2 ..) fun _ => k2
    · extract_lets +onlyGivenNames s2
      have k2 : Kept [] s s2 := searchTook_kept k6 ..
      exact .ite (fun _ => k2) fun _ => setWindow_kept k2 ..
  · refine onCaptured_configFrom (fun d u => ?_) ..
    dsimp only
    repeat' split
    all_goals simp

theorem openAckReceived_leaves (sd : Side) (port : Nat) (s : State) : Gives (.openAckReceived sd port) s (Leaves s) := by
  refine ⟨_, rfl, .of_kept ?_ ?_⟩
  · refine onCaptured_kept (.refl _) _ _ _ ?_
    intro d u k6
    extract_lets +onlyGivenNames p
    split
    · exact k6
    · exact setConn_kept (learn_kept k6 ..) ..
  · refine onCaptured_configFrom (fun d u => ?_) ..
    dsimp only
    repeat' split
    all_goals simp

theorem refuseReceived_leaves (sd : Side) (port : Nat) (s : State) : Gives (.refuseReceived sd port) s (Leaves s) := by
  refine ⟨_, rfl, .of_kept ?_ ?_⟩
  · refine onCaptured_kept (.refl _) _ _ _ ?_
    intro d u k6
    extract_lets +onlyGivenNames p
    split
    · exact k6
    · exact connEnter_kept (setConn_kept (learn_kept k6 ..) ..) ..
  · refine onCaptured_configFrom (fun d u => ?_) ..
    dsimp only
    repeat' split
    all_goals simp

theorem openingTimeout_leaves (sd : Side) (n : Nat) (s : State) : Gives (.openingTimeout sd n) s (Leaves s) := by
  refine ⟨_, rfl, .of_kept (.ite (fun _ => connEnter_kept (.refl _) ..) fun _ => .refl _) ?_⟩
  simp

theorem announceTimeout_leaves (sd : Side) (n : Nat) (s : State) : Gives (.announceTimeout sd n) s (Leaves s) := by
  refine ⟨_, rfl, .of_kept (.ite (fun _ => connEnter_kept (.refl _) ..) fun _ => .refl _) ?_⟩
  simp

theorem connWatchdogExpiry_leaves (sd : Side) (n : Nat) (s : State) : Gives (.connWatchdogExpiry sd n) s (Leaves s) := by
  refine ⟨_, rfl, .of_kept ?_ ?_⟩
  · refine .ite (fun _ => .refl _) fun _ => ?_
    extract_lets +onlyGivenNames port bad s1
    have k1 : Kept [] s s1 := .foldl _ _ (fun _ _ k6 => crcReject_kept (takeDescriptor_kept k6 ..) ..) (.refl _)
    exact .ite (fun _ => connLose_kept k1 ..) fun _ => k1
  · dsimp only
    split
    · rfl
    generalize (if s.sideRuns sd then _ else _) = bad
    split
    · rw [connLose_configFrom, foldl_configFrom fun _ _ => by simp]
    · rw [foldl_configFrom fun _ _ => by simp]

theorem linkDown_leaves (port : Nat) (s : State) : Gives (.linkDown port) s (Leaves s) := by
  refine ⟨_, rfl, .of_kept (.ite (fun _ => dropLink_kept (.refl _) ..) fun _ => .refl _) ?_⟩
  simp

theorem linkUp_leaves (port : Nat) (s : State) : Gives (.linkUp port) s (Leaves s) := by
  refine ⟨_, rfl, .of_kept (.ite (fun _ => raiseLink_kept (.refl _) ..) fun _ => .refl _) ?_⟩
  simp

theorem mdioPoll_leaves (linkBit : Bool) (s : State) : Gives (.mdioPoll linkBit) s (Leaves s) := by
  refine ⟨_, rfl, .of_kept ?_ ?_⟩
  · exact .ite (fun _ => .refl _) fun _ => .ite (fun _ => .ite (fun _ => raiseLink_kept (.refl _) ..) fun _ => .refl _) fun _ =>
        .ite (fun _ => dropLink_kept (.refl _) ..) fun _ => .refl _
  · simp

theorem channelSliceStart_leaves (calibrate : Bool) (s : State) : Gives (.channelSliceStart calibrate) s (Leaves s) := by
  refine ⟨_, rfl, .of_kept ?_ ?_⟩
  · refine .ite (fun _ => .refl _) fun _ => ?_
    split
    · exact .refl _
    · exact .ite (fun _ => skipSlice_kept (.refl _) ..) fun _ => .put rfl (.refl _)
  · repeat' split
    all_goals simp

theorem coverageLate_leaves (c : Nat) (s : State) : Gives (.coverageLate c) s (Leaves s) := by
  refine ⟨_, rfl, .of_kept (overdueRaise_kept (.refl _) ..) ?_⟩
  simp

theorem coverageLost_leaves (c : Nat) (s : State) : Gives (.coverageLost c) s (Leaves s) := by
  refine ⟨_, rfl, .of_kept (overdueRaise_kept (.refl _) ..) ?_⟩
  simp

theorem logicServiceCheck_leaves (r : LogicReadings) (s : State) : Gives (.logicServiceCheck r) s (Leaves s) := by
  refine ⟨_, rfl, .of_kept ?_ ?_⟩
  · exact .ite (fun _ => .refl _) fun _ => .ite (fun _ =>
        countSkip_kept (countSkip_kept (countSkip_kept (.put rfl (.refl _)) ..) ..) ..) fun _ =>
        logicCheck_kept (logicCheck_kept (logicCheck_kept (.put rfl (.refl _)) ..) ..) ..
  · simp

theorem fieldUnitSlice_leaves (g : Nat) (s : State) : Gives (.fieldUnitSlice g) s (Leaves s) := by
  refine ⟨_, rfl, .of_kept ?_ ?_⟩
  · exact .ite (fun _ => .refl _) fun _ => .ite (fun _ => .ite (fun _ => skipGroup_kept (.refl _) ..) fun _ => .refl _) fun _ =>
        .ite (fun _ => groupCouplers_kept (refuseInUse_kept (.refl _) ..) ..) fun _ => .ite (fun _ => .refl _) fun _ =>
        .ite (fun _ => skipGroup_kept (.refl _) ..) fun _ => .put rfl (.refl _)
  · simp

theorem fieldUnitSliceDone_leaves (g : Nat) (r : UnitRows) (s : State) : Gives (.fieldUnitSliceDone g r) s (Leaves s) := by
  refine ⟨_, rfl, .of_kept ?_ ?_⟩
  · refine .ite (fun _ => .refl _) fun _ => ?_
    extract_lets +onlyGivenNames u res tOff x3 x4 s1
    have k1 : Kept [] s s1 := unitResult_kept (.put rfl (.refl _)) ..
    exact groupCouplers_kept (unitAnswer_kept (.ite (fun _ => markUnusable_kept k1 ..) fun _ => .ite (fun _ =>
        event_kept k1 ..) fun _ => k1) ..) ..
  · simp

theorem portUnitSlice_leaves (port goodFrames : Nat) (signature expected : Word) (s : State) : Gives (.portUnitSlice port goodFrames
    signature expected) s (Leaves s) := by
  refine ⟨_, rfl, .of_kept ?_ ?_⟩
  · refine .ite (fun _ => .refl _) fun _ => ?_
    refine .ite (fun _ => .ite (fun _ => unitAnswer_kept (countSkip_kept (.refl _) ..) ..) fun _ => .refl _) fun _ => ?_
    refine .ite (fun _ => refuseInUse_kept (.refl _) ..) fun _ => ?_
    refine .ite (fun _ => unitAnswer_kept (countSkip_kept (.put rfl (.refl _)) ..) ..) fun _ => ?_
    extract_lets +onlyGivenNames pass x1 s1
    have k1 : Kept [] s s1 := unitResult_kept (.put rfl (.refl _)) ..
    exact unitAnswer_kept (restartPort_kept (.ite (fun _ => k1) fun _ => markUnusable_kept k1 ..) ..) ..
  · simp

theorem calChannelDone_leaves (c : Nat) (r : CalResult) (s : State) : Gives (.calChannelDone c r) s (Leaves s) := by
  refine ⟨_, rfl, .of_kept ?_ ?_⟩
  · split
    · exact .refl _
    · exact .ite (fun _ => .refl _) fun _ => calEnd_kept (.ite (fun _ => .put rfl (.put rfl (.refl _))) fun _ =>
          event_kept (.put rfl (.refl _)) ..)
  · split <;> simp

theorem measurementBlock_leaves (vsupMin : Nat) (logicTemp : Int) (s : State) : Gives (.measurementBlock vsupMin logicTemp) s (Leaves s)
    := by
  refine ⟨_, rfl, .of_kept ?_ ?_⟩
  · refine .ite (fun _ => .refl _) fun _ => ?_
    refine publishBlock_kept ?_ ..
    refine publishBlock_kept ?_ ..
    refine .ite (fun _ => .put rfl (.refl _)) fun _ => ?_
    extract_lets +onlyGivenNames x0 s1
    have k1 : Kept [] s s1 := sample_kept (sample_kept (.put rfl (.refl _)) ..) ..
    exact .ite (fun _ => sampleSide_kept (sampleSide_kept k1 ..) ..) fun _ => k1
  · simp

theorem recordClose_leaves (code inst : Nat) (s : State) : Gives (.recordClose code inst) s (Leaves s) := by
  refine ⟨_, rfl, .of_kept ?_ ?_⟩
  · split
    · exact .refl _
    · exact .ite (fun _ => closeRecord_kept (.refl _) ..) fun _ => .refl _
  · split <;> simp

theorem flushStart_leaves (s : State) : Gives (.flushStart) s (Leaves s) := by
  refine ⟨_, rfl, .of_kept ?_ ?_⟩
  · refine .ite (fun _ => .refl _) fun _ => ?_
    split
    · exact .refl _
    · exact startFlush_kept (.refl _) ..
  · repeat' split
    all_goals simp

theorem flushDeferred_leaves (s : State) : Gives (.flushDeferred) s (Leaves s) := by
  refine ⟨_, rfl, .of_kept ?_ ?_⟩
  · split
    · exact .refl _
    · exact .ite (fun _ => .refl _) fun _ => startFlush_kept (.put rfl (.refl _)) ..
  · split <;> simp

theorem flushHourly_leaves (s : State) : Gives (.flushHourly) s (Leaves s) := by
  refine ⟨_, rfl, .of_kept ?_ ?_⟩
  · exact .ite (fun _ => .refl _) fun _ => .ite (fun _ => flushTrigger_kept (.put rfl (.refl _)) ..) fun _ =>
        startFlush_kept (.put rfl (.refl _)) ..
  · simp

theorem flushDone_leaves (r : FlushReport) (s : State) : Gives (.flushDone r) s (Leaves s) := by
  refine ⟨_, rfl, .of_kept ?_ ?_⟩
  · split
    · exact .refl _
    · extract_lets +onlyGivenNames failed s1
      have k1 : Kept [] s s1 := verifyFailures_kept (takeDamage_kept (.refl _) ..) ..
      extract_lets +onlyGivenNames x0 s2
      have k2 : Kept [] s s2 := endFlush_kept (.ite (fun _ => storeFails_kept k1 ..) fun _ => k1) ..
      extract_lets +onlyGivenNames x0 x1 s3
      have k3 : Kept [] s s3 := .ite (fun _ => .ite (fun _ => .put rfl k2) fun _ => .ite (fun _ => k2) fun _ => .put rfl k2) fun _ => k2
      exact .ite (fun _ => k3) fun _ => settle_kept (answer_kept k3 ..)
  · split <;> simp

theorem tlRetry_leaves (s : State) : Gives (.tlRetry) s (Leaves s) := by
  refine ⟨_, rfl, .of_kept (.ite (fun _ => askTl_kept (.refl _)) fun _ => .refl _) ?_⟩
  simp

theorem operatingSecond_leaves (s : State) : Gives (.operatingSecond) s (Leaves s) := by
  refine ⟨_, rfl, .of_kept ?_ ?_⟩
  · refine .ite (fun _ => .refl _) fun _ => ?_
    extract_lets +onlyGivenNames x0 x1 x2 s1
    have k1 : Kept [] s s1 := .foldl _ _ (fun _ _ k6 => setPair_kept k6 ..) (.put rfl (.refl _))
    exact .ite (fun _ => writeCopies_kept k1) fun _ => k1
  · simp

theorem hsHoldTimeout_leaves (s : State) : Gives (.hsHoldTimeout) s (Leaves s) := by
  refine ⟨_, rfl, .of_kept (.ite (fun _ => .refl _) fun _ => event_kept (.put rfl (.refl _)) ..) ?_⟩
  simp

theorem liveTranslationDone_leaves (sd : Side) (s : State) : Gives (.liveTranslationDone sd) s (Leaves s) := by
  refine ⟨_, rfl, .of_kept ?_ ?_⟩
  · split
    · exact .ite (fun _ => .refl _) fun _ => .put rfl (.refl _) (hc := .inl (setBank_staging ..))
    · exact .refl _
  · split <;> simp

theorem commitTick_leaves (s : State) : Gives (.commitTick) s (Leaves s) := by
  refine ⟨_, rfl, .of_kept ?_ ?_⟩
  · split
    · exact .refl _
    · split
      · exact .ite (fun _ => tickCommit_kept (.refl _) ..) fun _ => .ite (fun _ => .refl _) fun _ => lastTick_kept (.refl _) ..
      · exact .ite (fun _ => .refl _) fun _ => lastTick_kept (.refl _) ..
  · repeat' split
    all_goals simp

theorem handoverPoint_leaves (startOk : Bool) (s : State) : Gives (.handoverPoint startOk) s (Leaves s) := by
  refine ⟨_, rfl, .of_kept ?_ ?_⟩
  · split
    · refine .ite (fun _ => .refl _) fun _ => ?_
      refine .ite (fun _ => abandonHandover_kept (.refl _)) fun _ => ?_
      extract_lets +onlyGivenNames s1
      have k1 : Kept [] s s1 := activate_kept (swapRoles_kept (refuseBegun_kept (.refl _))) ..
      clear_value s1
      extract_lets b h2 w s2 s3 s4 s5
      have k2 : Kept [] s s2 := .put rfl k1 (hb := .inr rfl)
      have k4 : Kept [] s s4 := .foldl _ _ (fun _ _ k => setLine_kept k ..) (bundleMarker_kept k2 ..)
      exact settle_kept (answer_kept (.ite (fun _ => askEpoch_kept k4) fun _ => k4) ..)
    · exact .refl _
  · split
    · split
      · rfl
      split
      · simp
      extract_lets s1 b h2 w s2 s3 s4 s5
      have e : s4.dev.configFrom = s.dev.configFrom := by
        unfold s4
        rw [foldl_configFrom fun _ _ => by simp]
        simp [s3, s2, s1]
      rw [settle_configFrom, answer_configFrom]
      unfold s5
      split
      · rw [askEpoch_configFrom, e]
      · exact e
    · rfl

theorem handoverTimeout_leaves (s : State) : Gives (.handoverTimeout) s (Leaves s) := by
  refine ⟨_, rfl, .of_kept ?_ ?_⟩
  · split
    · exact .refl _
    · exact .ite (fun _ => settle_kept (abandonHandover_kept (.refl _))) fun _ => .refl _
  · split <;> simp

theorem handoverComplete_leaves (reports : List LaneReport) (s : State) : Gives (.handoverComplete reports) s (Leaves s) := by
  refine ⟨_, rfl, .of_kept ?_ ?_⟩
  · split
    · exact .refl _
    · refine .ite (fun _ => .refl _) fun _ => ?_
      extract_lets +onlyGivenNames x0 x1 x2
      split
      · exact event_kept (setPair_kept (.put rfl (.refl _)) ..) ..
      · exact setPair_kept (.put rfl (.refl _)) ..
  · repeat' split
    all_goals simp

theorem powerOn_leaves (vsupMv : Nat) (s : State) : Gives (.powerOn vsupMv) s (Leaves s) := by
  refine ⟨_, rfl, .of_from ?_ ?_⟩
  · refine .ite (fun _ => .refl _) fun _ => .ite (fun _ => ?_) fun _ => .ite (fun _ => .put rfl (.refl _)) fun _ => .refl _
    exact .put rfl (dev_kept (s := { s with pwr := { s.pwr with domains := [0], resetCause := 0 } }) (.put rfl (.refl _)) {} nofun)
  · intro h
    split
    · exact h
    split
    · exact configFromOk_of_none rfl
    split <;> exact h

theorem vsupBrownout_leaves (s : State) : Gives (.vsupBrownout) s (Leaves s) := by
  refine ⟨_, rfl, .of_from (.ite (fun _ => .refl _) fun _ => powerLost_kept (.refl _)) ?_⟩
  intro h
  split
  · exact h
  · exact configFromOk_of_none rfl

theorem resetNLow_leaves (s : State) : Gives (.resetNLow) s (Leaves s) := by
  refine ⟨_, rfl, .of_from ?_ ?_⟩
  · exact .ite (fun _ => .put rfl (.refl _)) fun _ => .ite (fun _ => holdReset_kept (.refl _)) fun _ =>
        holdReset_kept (chipReset_kept (.refl _) ..)
  · intro h
    split
    · exact h
    split
    · exact configFromOk_congr rfl h
    · exact configFromOk_of_none rfl

theorem resetRelease_leaves (testmode pllLocked : Bool) (ratioDev : Int) (s : State) : Gives (.resetRelease testmode pllLocked ratioDev)
    s (Leaves s) := by
  refine ⟨_, rfl, .of_kept ?_ ?_⟩
  · refine .ite (fun _ => .refl _) fun _ => ?_
    extract_lets +onlyGivenNames a b c s2
    have k2 : Kept [] s s2 := .put rfl (.refl _)
    exact .ite (fun _ => enter_kept (.put rfl k2) (by nofun) _) fun _ => clockCheck_kept (condition_kept k2 ..) ..
  · simp

theorem holdRetry_leaves (pllLocked : Bool) (ratioDev : Int) (s : State) : Gives (.holdRetry pllLocked ratioDev) s (Leaves s) := by
  refine ⟨_, rfl, .of_kept (.ite (fun _ => clockCheck_kept (.refl _) ..) fun _ => .refl _) ?_⟩
  simp

theorem rosSensing_leaves (odd : List (Nat × Sense)) (s : State) : Gives (.rosSensing odd) s (Leaves s) := by
  refine ⟨_, rfl, .of_kept ?_ ?_⟩
  · refine .ite (fun _ => .refl _) fun _ => ?_
    extract_lets +onlyGivenNames a s1 b s2 s3 failures s4
    have k2 : Kept [] s s2 := .put rfl (.put rfl (.refl _))
    have k4 : Kept [] s s4 := .foldl _ _ (fun _ _ k => raise_kept k ..) (domainOn_kept (sensingSources_kept k2) ..)
    clear_value s4 failures
    split
    · exact .put rfl k4
    · exact .ite (fun _ => romService_kept (enter_kept k4 (by nofun) ..)) fun _ => enter_kept k4 (by nofun) ..
  · split
    · rfl
    extract_lets a s1 b s2 s3 failures s4
    have e : s4.dev.configFrom = s.dev.configFrom := by
      unfold s4
      rw [foldl_configFrom fun _ _ => by simp]
      simp [s3, s2, s1]
    clear_value failures s4
    split
    · exact e
    · split
      · simpa using e
      · simpa using e

theorem romBankCheck_leaves (secondsErr : List Word) (s : State) : Gives (.romBankCheck secondsErr) s (Leaves s) := by
  refine ⟨_, rfl, .of_kept ?_ ?_⟩
  · refine .ite (fun _ => .refl _) fun _ => ?_
    split
    · exact romService_kept (enterMaintenance_kept (takeLifetime_kept (.refl _) ..) ..)
    · exact .ite (fun _ => event_kept (.put rfl (.refl _)) ..) fun _ => .put rfl (.refl _)
  · repeat' split
    all_goals simp

theorem supImageStart_leaves (secondsErr cyclesErr : List Word) (s : State) : Gives (.supImageStart secondsErr cyclesErr) s (Leaves s) :=
    by
  refine ⟨_, rfl, .of_kept ?_ ?_⟩
  · refine .ite (fun _ => .refl _) fun _ => ?_
    extract_lets +onlyGivenNames read s1 s2 s3 s4
    have k2 : Kept [] s s2 := mount_kept (takeLifetime_kept (.refl _) ..)
    have k3 : Kept [] s s3 := .ite (fun _ => weirStart_kept k2) fun _ => k2
    have k4 : Kept [] s s4 := .foldl _ _ (fun _ _ k => loadMask_kept k ..) k3
    clear_value s4
    exact .put rfl k4
  · dsimp only
    split
    · rfl
    · rw [foldl_configFrom fun _ _ => by simp]
      split <;> simp

theorem configBankSelect_leaves (s : State) : Gives (.configBankSelect) s (Leaves s) := by
  refine ⟨_, rfl, .of_kept ?_ ?_⟩
  · exact .ite (fun _ => .refl _) fun _ => .ite (fun _ => enterMaintenance_kept (.refl _) ..) fun _ => .ite (fun _ =>
        enterMaintenance_kept (.refl _) ..) fun _ => enterVerify_kept (.put rfl (.refl _)) ..
  · simp

theorem formReverify_leaves (sd : Side) (intact : Bool) (fault : Option Verdict) (s : State) : Gives (.formReverify sd intact fault) s
    (Leaves s) := by
  refine ⟨_, rfl, .of_kept ?_ ?_⟩
  · split
    · exact .refl _
    refine .ite (fun _ => .refl _) fun _ => ?_
    refine .ite (fun _ => formsJudged_kept (formReady_kept (.refl _) ..)) fun _ => ?_
    extract_lets +onlyGivenNames env
    split
    · exact enterMaintenance_kept (.refl _) ..
    · refine formsJudged_kept (.ite (fun _ => .put rfl (.refl _)) fun _ => formReady_kept ?_ ..)
      exact .put rfl (.put rfl (.refl _)) (hc := .inl (setBank_staging ..))
  · dsimp only
    repeat' split
    all_goals simp

theorem certCheck_leaves (s : State) : Gives (.certCheck) s (Leaves s) := by
  refine ⟨_, rfl, .of_kept ?_ ?_⟩
  · split
    · exact .refl _
    refine .ite (fun _ => .refl _) fun _ => ?_
    refine .ite (fun _ => placeRetired_kept (rejudge_kept (.put rfl (.refl _)))) fun _ => ?_
    extract_lets +onlyGivenNames fl a
    split
    · exact enterMaintenance_kept (.refl _) ..
    · refine placeRetired_kept (rejudge_kept (.put rfl ?_))
      exact .put rfl (.put rfl (.refl _)) (hc := .inl (setBank_staging ..))
  · dsimp only
    repeat' split
    all_goals simp

theorem pfailWarning_leaves (byPin : Bool) (s : State) : Gives (.pfailWarning byPin) s (Leaves s) := by
  refine ⟨_, rfl, .of_kept ?_ ?_⟩
  · refine .ite (fun _ => .refl _) fun _ => ?_
    extract_lets +onlyGivenNames inst p s1 s2
    have k2 : Kept [] s s2 := raise_kept (.put rfl (.refl _)) ..
    refine .ite (fun _ => k2) fun _ => ?_
    split
    · exact .put rfl (startFlush_kept k2 ..)
    · exact .put rfl (flushTrigger_kept k2 ..)
  · dsimp only
    repeat' split
    all_goals simp

theorem domainShedding_leaves (s : State) : Gives (.domainShedding) s (Leaves s) := by
  refine ⟨_, rfl, .of_kept (.ite (fun _ => .refl _) fun _ => shedDomains_kept (.refl _)) ?_⟩
  simp

theorem pfailClear_leaves (s : State) : Gives (.pfailClear) s (Leaves s) := by
  refine ⟨_, rfl, .of_kept ?_ ?_⟩
  · refine .ite (fun _ => .refl _) fun _ => ?_
    extract_lets +onlyGivenNames s1
    have k1 : Kept [] s s1 := warningOver_kept (.refl _)
    exact .ite (fun _ => k1) fun _ => .put rfl k1
  · simp

theorem pfailRecovery_leaves (s : State) : Gives (.pfailRecovery) s (Leaves s) := by
  refine ⟨_, rfl, .of_from ?_ ?_⟩
  · refine .ite (fun _ => ?_) fun _ => .refl _
    extract_lets +onlyGivenNames s1
    have k1 : Kept [] s s1 := chipReset_kept (warningOver_kept (.refl _)) ..
    exact .put rfl k1
  · intro h
    split
    · exact configFromOk_of_none rfl
    · exact h

theorem railFault_leaves (rail : Nat) (s : State) : Gives (.railFault rail) s (Leaves s) := by
  refine ⟨_, rfl, .of_kept (.ite (fun _ => .refl _) fun _ => raise_kept (.put rfl (.refl _)) ..) ?_⟩
  simp

theorem vsupHigh_leaves (s : State) : Gives (.vsupHigh) s (Leaves s) := by
  refine ⟨_, rfl, .of_kept (.ite (fun _ => .refl _) fun _ => raise_kept (.put rfl (.refl _)) ..) ?_⟩
  simp

theorem pllLockLoss_leaves (s : State) : Gives (.pllLockLoss) s (Leaves s) := by
  refine ⟨_, rfl, .of_kept ?_ ?_⟩
  · refine .ite (fun _ => .refl _) fun _ => ?_
    extract_lets +onlyGivenNames x0 x1 s1
    have k1 : Kept [] s s1 := lockLost_kept (raise_kept (.put rfl (.refl _)) ..)
    exact .put rfl (requeue_kept k1 ..)
  · simp

theorem serdesLockLoss_leaves (s : State) : Gives (.serdesLockLoss) s (Leaves s) := by
  refine ⟨_, rfl, .of_kept ?_ ?_⟩
  · exact .ite (fun _ => .refl _) fun _ => .foldl _ _ (fun _ _ k5 => .ite (fun _ => dropLink_kept k5 ..) fun _ =>
        k5) (raise_kept (.put rfl (.refl _)) ..)
  · simp

theorem ratioWindowEnd_leaves (count : Nat) (s : State) : Gives (.ratioWindowEnd count) s (Leaves s) := by
  refine ⟨_, rfl, .of_kept (judgeRatio_kept (.put rfl (.refl _)) ..) ?_⟩
  simp

theorem ratioWindowTimeout_leaves (s : State) : Gives (.ratioWindowTimeout) s (Leaves s) := by
  refine ⟨_, rfl, .of_kept (judgeRatio_kept (.refl _) ..) ?_⟩
  simp

theorem extest_leaves (scanIn : BitVec 36) (s : State) : Gives (.extest scanIn) s (Leaves s) := by
  refine ⟨_, rfl, .of_kept (boundaryScan_kept (.refl _) ..) ?_⟩
  simp

theorem samplePreload_leaves (scanIn : BitVec 36) (s : State) : Gives (.samplePreload scanIn) s (Leaves s) := by
  refine ⟨_, rfl, .of_kept (boundaryScan_kept (.refl _) ..) ?_⟩
  simp

theorem idcode_leaves (s : State) : Gives (.idcode) s (Leaves s) := by
  refine ⟨_, rfl, .of_kept (selectIr_kept (.refl _) ..) ?_⟩
  simp

theorem holdReason_leaves (s : State) : Gives (.holdReason) s (Leaves s) := by
  refine ⟨_, rfl, .of_kept (selectIr_kept (.put rfl (.refl _)) ..) ?_⟩
  simp

theorem debug_leaves (inject : List Injection) (s : State) : Gives (.debug inject) s (Leaves s) := by
  refine ⟨_, rfl, .of_kept ?_ ?_⟩
  · extract_lets +onlyGivenNames s1
    have k1 : Kept [] s s1 := selectIr_kept (.put rfl (.refl _)) ..
    exact .ite (fun _ => .foldl _ _ (fun _ _ k6 => inject_kept k6 ..) k1) fun _ => k1
  · dsimp only
    split
    · rw [foldl_configFrom fun _ _ => by simp]
      simp
    · simp

theorem bypass_leaves (code : Nat) (s : State) : Gives (.bypass code) s (Leaves s) := by
  refine ⟨_, rfl, .of_kept (.ite (fun _ => .refl _) fun _ => selectIr_kept (.refl _) ..) ?_⟩
  simp

theorem unknownOpcodeTransaction_leaves (x : Txn) (opcode : Byte) (s : State) : Gives (.unknownOpcodeTransaction x opcode) s (Leaves s)
    := by
  refine ⟨_, rfl, .of_kept (.ite (fun _ => .refl _) fun _ => transaction_kept (.refl _) _ (fun k6 => reject_kept k6 ..)) ?_⟩
  split <;> simp [transaction_configFrom]

theorem admissionComplete_leaves (aFault bFault : Option Verdict) (s : State) : Gives (.admissionComplete aFault bFault) s (Leaves s) :=
    by
  refine ⟨_, rfl, .of_from ?_ ?_⟩
  · split
    · exact .refl _
    split
    extract_lets +onlyGivenNames waits s1
    refine .ite (fun _ => .refl _) fun _ => ?_
    have k1 : Kept [] s s1 := .ite (fun _ => event_kept (.refl _) ..) fun _ => .refl _
    split
    · exact answer_kept (.put rfl k1) ..
    · exact k1
    refine .ite (fun _ => ?_) fun _ => commitNow_kept k1 ..
    split
    · exact commitLive_kept k1 ..
    · exact k1
  · intro h
    split
    · exact h
    split
    extract_lets +onlyGivenNames waits s1
    have h1 : ConfigFromOk s1 := by
      unfold s1
      split
      · exact configFromOk_congr (event_configFrom ..) h
      · exact h
    split
    · exact h
    split
    · exact configFromOk_congr (answer_configFrom ..) h1
    · exact h1
    split
    · split
      · exact configFromOk_congr (commitLive_configFrom ..) h1
      · exact h1
    · exact configFromOk_of_none (by rw [commitNow_configFrom])

theorem handoverFormsReady_leaves (s : State) : Gives (.handoverFormsReady) s (Leaves s) := by
  refine ⟨_, rfl, .of_kept ?_ ?_⟩
  · split
    · exact .ite (fun _ => .refl _) fun _ => .put rfl (.refl _) (hc := .inr rfl)
    · exact .refl _
  · split <;> simp

theorem serdesLockRegained_leaves (s : State) : Gives (.serdesLockRegained) s (Leaves s) := by
  refine ⟨_, rfl, .of_kept (.ite (fun _ => .refl _) fun _ => clear_kept (.put rfl (.refl _)) ..) ?_⟩
  simp

theorem vsupHighEnd_leaves (s : State) : Gives (.vsupHighEnd) s (Leaves s) := by
  refine ⟨_, rfl, .of_kept (clear_kept (.put rfl (.refl _)) ..) ?_⟩
  simp

theorem railReturn_leaves (rail : Nat) (s : State) : Gives (.railReturn rail) s (Leaves s) := by
  refine ⟨_, rfl, .of_kept (clear_kept (.put rfl (.refl _)) ..) ?_⟩
  simp

theorem groupOverloadClear_leaves (sd : Side) (g : Nat) (s : State) : Gives (.groupOverloadClear sd g) s (Leaves s) := by
  refine ⟨_, rfl, .of_kept (.ite (fun _ => clear_kept (.refl _) ..) fun _ => .refl _) ?_⟩
  simp

theorem tapReset_leaves (s : State) : Gives (.tapReset) s (Leaves s) := by
  refine ⟨_, rfl, .of_kept (.ite (fun _ => .refl _) fun _ => .put rfl (.refl _)) ?_⟩
  simp

end Sys2Proof.Steps

end

section
/-! PROOFS. What every command keeps, and the statements that follow: O1, O2, O54 to O60. -/

set_option Elab.async false

namespace Sys2Proof.Steps
open Sys2Proof.Machine Sys2Proof.Safety Sys2Proof.Laws Sys2Proof.Origin Sys2Proof.Occurrence
variable {s t : State}

theorem kept_rebase {xs : List Nat} (h : Kept xs s t) (f : FieldSt) : Kept xs { s with field := f } { t with field := f } :=
  ⟨h.pending, h.fuses, h.prog, h.held, h.container, h.bundle, fun _ _ => id, h.run, h.records⟩

/-- Field dies that are rebuilt on the way count as those of the state before. -/
theorem Leaves.of_rebase {f : FieldSt} (k : Kept [] { s with field := f } t) (e : t.dev.configFrom = s.dev.configFrom) : Leaves s t :=
  ⟨k.pending, k.fuses, k.prog, k.held, k.container, k.bundle, k.records, configFromOk_congr e, fun _ => k.run⟩

theorem endSlices_field (s : State) : ∃ f, s.endSlices = { s with field := f } := by
  unfold State.endSlices
  refine List.foldlRecOn (motive := fun t => ∃ f, t = { s with field := f }) _ _ ⟨s.field, rfl⟩ ?_
  rintro _ ⟨f, rfl⟩ e -
  exact ⟨_, rfl⟩

theorem couplerSlot_leaves (s : State) : Gives .couplerSlot s (Leaves s) := by
  refine ⟨_, rfl, ?_⟩
  split
  · exact .of_kept (.refl _) rfl
  extract_lets i s1 n t2 s2 s3 s4 s5
  have k2 : Kept [] s s2 := .put rfl (.foldl _ _ (fun _ _ k => advanceCoupler_kept k ..) (closeSlots_kept (.refl _)))
  have k4 : Kept [] s s4 :=
    .foldl _ _ (fun _ _ k => setCoupler_kept k ..) (.foldl _ _ (fun _ _ k => watchPulse_kept k ..) k2)
  have e1 : s1.dev.configFrom = s.dev.configFrom := by
    unfold s1
    rw [foldl_configFrom fun _ _ => by simp]
    simp
  have e : s4.dev.configFrom = s.dev.configFrom := by
    unfold s4 s3
    rw [foldl_configFrom fun _ _ => by simp, foldl_configFrom fun _ _ => by simp]
    exact e1
  clear_value s4
  obtain ⟨f, hf⟩ : ∃ f, s5 = { s4 with field := f } := by
    unfold s5
    split
    · exact ⟨s4.field, rfl⟩
    · exact endSlices_field _
  rw [hf]
  have k5 := kept_rebase k4 f
  split
  · exact .of_rebase (judgeSlice_kept k5) ((judgeSlice_configFrom ..).trans e)
  · exact .of_rebase k5 e

/-! The commands that may enter RUN. -/

/-- The state with its device in RUN: what leaves a state otherwise as it is leaves this one as it is, whatever it does to the device. -/
def running (s : State) : State := { s with dev := { s.dev with st := .run } }

theorem kept_running {xs : List Nat} (h : Kept xs s t) : Kept xs (running s) t :=
  ⟨h.pending, h.fuses, h.prog, h.held, h.container, h.bundle, h.opens, fun _ => rfl, h.records⟩

theorem Leaves.of_running (k : Kept [] (running s) t) (c : ConfigFromOk s → ConfigFromOk t)
    (r : ConfigFromOk s → t.dev.st = .run → s.dev.st = .run) : Leaves s t :=
  ⟨k.pending, k.fuses, k.prog, k.held, k.container, k.bundle, k.records, c, r⟩

theorem popped_kept {r : Request} {q : List Request} (hq : s.host.queue = r :: q) (k : Kept [r.tag] (running s.popRequest) t) :
    Kept [] (running s) t := by
  have e : s.host.held = r.tag :: s.popRequest.host.held := by simp [State.popRequest, HostSt.held, hq]
  refine ⟨k.pending, k.fuses, k.prog, ?_, k.container, k.bundle, k.opens, fun _ => rfl, k.records⟩
  show t.host.held.Subperm ([] ++ s.host.held)
  rw [e]
  exact k.held

theorem serve_running (code : Nat) (form : Request → Bool) {act : Request → State → State}
    (ha : ∀ r u, Kept [r.tag] (running u) (act r u)) : Kept [] (running s) (s.serve code form act) := by
  unfold State.serve
  split
  · exact kept_running (.refl s)
  next r hr =>
    obtain ⟨q, hq⟩ := queue_of_front hr
    have answer : ∀ st, Kept [r.tag] (running s.popRequest) (s.popRequest.respond r st []) :=
      fun st => kept_running (respond_kept (.refl _) r st [])
    refine settle_kept (popped_kept hq ?_)
    refine .ite (fun _ => ha ..) fun _ => .ite (fun _ => answer _) fun _ => .ite (fun _ => answer _) fun _ => ?_
    split
    · exact answer _
    · exact .ite (fun _ => ha ..) fun _ => answer _

theorem enter_st_ne_run (s : State) {st : DevState} (reason : Nat) (h0 : s.dev.st ≠ .run) (h : st ≠ .run) : (s.enter st reason).dev.st ≠ .run :=
  fun e => h0 ((enter_kept (.refl s) (fun e => absurd e h) reason).run e)

theorem cfgAbort_leaves (s : State) : Gives .cfgAbort s (Leaves s) := by
  refine ⟨_, rfl, .of_running ?_ ?_ ?_⟩
  · refine serve_running _ _ fun r u => .ite (fun _ => kept_running (respond_kept (.refl _) ..)) fun _ => respond_kept ?_ ..
    have k : Kept [] (running u) u.dropTranslations := kept_running (dropTranslations_kept (.refl _))
    have k2 := container_kept k none fun _ => nofun
    dsimp only
    split
    · exact .put rfl (enter_kept (.put rfl k2) (fun _ => rfl) _)
    · exact k2
  · refine fun h => serve_dev (P := FromOk) (fun r u h => ?_) _ _ h
    split
    · exact h
    dsimp only
    split
    · exact configFromOk_of_none rfl
    · exact h
  · refine fun h => (serve_dev (P := fun d => FromOk d ∧ (d.st = .run → s.dev.st = .run)) (fun r u h => ?_) _ _ ⟨h, id⟩).2
    split
    · exact h
    dsimp only
    split
    next st m reason s3 hst hfrom =>
      refine ⟨configFromOk_of_none rfl, fun e => absurd e (enter_st_ne_run _ _ ?_ ?_)⟩
      · exact fun e => by simp_all
      · rintro rfl
        simpa using h.1 _ _ _ _ hfrom
    · exact h
theorem verifyExit_leaves (s : State) : Gives .verifyExit s (Leaves (running s)) := by
  refine ⟨_, rfl, .of_kept ?_ ?_⟩
  · refine .ite (fun _ => kept_running (.refl s)) fun _ => ?_
    have k := kept_running (.refl s)
    dsimp only
    split
    · exact enterRun_kept (.put rfl k) rfl
    · exact startCells_kept (enter_kept (.put rfl k) (fun _ => rfl) _)
  · split
    · rfl
    dsimp only
    split
    · simp [running]
    · simp [running]

theorem systemTick_leaves (vsupMv : Nat) (tj : Int) (dis : List Disagreement) (ecc : List (Side × Nat)) (s : State) :
    Gives (.systemTick vsupMv tj dis ecc) s (Leaves (running s)) := by
  refine ⟨_, rfl, .of_kept ?_ ?_⟩
  · refine .ite (fun _ => kept_running (.refl s)) fun _ => ?_
    have k : Kept [] (running s) ([1, 2, 3, 4, 5, 6].foldl (fun s p => s.agreePair dis p) (s.tickEdge vsupMv tj)) :=
      .foldl _ _ (fun _ _ k => agreePair_kept k ..) (tickEdge_kept (kept_running (.refl s)) ..)
    exact correctedReads_kept (tickFlush_kept (swapRecords_kept (freeShadows_kept (finishLive_kept (tickCells_kept (tickField_kept
      (tickChanges_kept (tickWeir_kept (tickSup_kept k rfl dis) dis)))))))) ecc
  · split
    · rfl
    · dsimp only
      simp [running]

/-! ### A WRITE_REQ -/

theorem liveWrite_host {u : State} {r : Request} (h : s.liveWrite r = some u) : u.host = s.host := by
  unfold State.liveWrite at h
  split at h
  · cases h
  split at h
  · split at h
    · cases h
      rfl
    · cases h
  split at h
  · split at h
    · cases h
    next i _ =>
      split at h
      next hi =>
        cases h
        cases i <;> simp [ParamItem.cls] at hi <;> rfl
      · cases h
  · cases h

theorem liveWrite_kept {xs : List Nat} {s0 u : State} {r : Request} (k : Kept xs s0 s) (h : s.liveWrite r = some u) : Kept xs s0 u := by
  unfold State.liveWrite at h
  split at h
  · cases h
  split at h
  · split at h
    · cases h
      exact takeMask_kept k r
    · cases h
  split at h
  · split at h
    · cases h
    · split at h
      · cases h
        exact paramSet_kept k ..
      · cases h
  · cases h

theorem liveWrite_configFrom {u : State} {r : Request} (h : s.liveWrite r = some u) : u.dev.configFrom = s.dev.configFrom := by
  unfold State.liveWrite at h
  split at h
  · cases h
  split at h
  · split at h
    · cases h
      rfl
    · cases h
  split at h
  · split at h
    · cases h
    · split at h
      · cases h
        exact paramSet_configFrom ..
      · cases h
  · cases h

/-- A tag that a message may add to those that the device holds. -/
def NewTags (s : State) (xs : List Nat) : Prop := ∀ x ∈ xs, xs = [x] ∧ x ≤ 31 ∧ x ∉ s.host.held

theorem acceptRequest_kept (bytes : List Byte) (s : State) : ∃ xs, NewTags s xs ∧ Kept xs s (acceptRequest bytes s) ∧
    ∀ r q, (acceptRequest bytes s).host.queue.drop s.host.queue.length = r :: q → (acceptRequest bytes s).host.queue = s.host.queue ++ [r] := by
  have refused : ∀ n, ∃ xs, NewTags s xs ∧ Kept xs s (s.reject n) ∧
      ∀ r q, (s.reject n).host.queue.drop s.host.queue.length = r :: q → (s.reject n).host.queue = s.host.queue ++ [r] := by
    refine fun n => ⟨[], nofun, reject_kept (.refl s) n, fun r q e => ?_⟩
    unfold State.reject at e
    rcases event_bHOST_queue _ 1 n with h | h
    · rw [h] at e
      simp at e
    · rw [h] at e
      simp at e
  unfold acceptRequest
  dsimp only
  split
  · exact refused _
  split
  · exact refused _
  split
  · exact refused _
  next ht =>
  split
  · exact refused _
  next hh =>
  refine ⟨[leAt bytes 2 1], ?_, ?_, ?_⟩
  · intro x hx
    obtain rfl := List.mem_singleton.1 hx
    exact ⟨rfl, by omega, hh⟩
  · refine .ite (fun _ => ?_) fun _ => ?_
    · refine ⟨rfl, id, fun _ => id, List.Perm.subperm ?_, id, id, fun _ _ => id, id, id⟩
      simp [HostSt.held]
    · exact respond_kept (.put rfl (.refl s)) ⟨leAt bytes 2 1, _, _, _, _, _, _, _⟩ ..
  · intro r q e
    split at e <;> split <;> simp_all [State.respond]

/-- A class L write has its effect at acceptance and stands in the queue as done. -/
theorem acceptWrite_kept (bytes : List Byte) (s : State) : ∃ xs, NewTags s xs ∧ Kept xs s (acceptWrite bytes s) := by
  obtain ⟨xs, hx, k, hq⟩ := acceptRequest_kept bytes s
  refine ⟨xs, hx, ?_⟩
  unfold acceptWrite
  dsimp only
  split
  · exact k
  next r rest hr =>
    split
    · exact k
    next u hu =>
      refine (liveWrite_kept k hu).host _ ?_
      simp [HostSt.held, liveWrite_host hu, hq r rest hr, List.Subperm.refl]

theorem acceptWrite_configFrom (bytes : List Byte) (s : State) : (acceptWrite bytes s).dev.configFrom = s.dev.configFrom := by
  unfold acceptWrite
  dsimp only
  split
  · exact acceptRequest_configFrom ..
  split
  · exact acceptRequest_configFrom ..
  next hu => exact (liveWrite_configFrom hu).trans (acceptRequest_configFrom ..)

theorem nodup_of_subperm {xs ys : List Nat} (h : xs.Subperm ys) (hn : ys.Nodup) : xs.Nodup := by
  obtain ⟨l, hp, hs⟩ := h
  exact hp.nodup_iff.1 (hn.sublist hs)

theorem NewTags.tagsOk {xs : List Nat} (h : NewTags s xs) (k : t.host.held.Subperm (xs ++ s.host.held)) (ok : TagsOk s) : TagsOk t := by
  obtain ⟨hn, hl⟩ := ok
  have all : (xs ++ s.host.held).Nodup ∧ ∀ x ∈ xs ++ s.host.held, x ≤ 31 := by
    cases xs with
    | nil => exact ⟨hn, hl⟩
    | cons x ys =>
      obtain ⟨e, hx, hh⟩ := h x List.mem_cons_self
      rw [e]
      exact ⟨List.nodup_cons.2 ⟨hh, hn⟩, List.forall_mem_cons.2 ⟨hx, hl⟩⟩
  exact ⟨nodup_of_subperm k all.1, fun x hx => all.2 x (k.subset hx)⟩

/-- A change by a command that may enter RUN. -/
def entersRun : Instr → Bool
  | .verifyExit => true
  | .systemTick _ _ _ _ => true
  | _ => false

theorem eq_of_entersRun {i : Instr} (h : entersRun i = true) : i = .verifyExit ∨ ∃ v tj dis ecc, i = .systemTick v tj dis ecc := by
  unfold entersRun at h
  split at h
  · exact .inl rfl
  · exact .inr ⟨_, _, _, _, rfl⟩
  · cases h

/-- What every command keeps: the invariants, and RUN is entered by the two commands that may enter it alone. -/
structure Keeps (i : Instr) (s t : State) : Prop where
  pending : t.pending = s.pending
  fuses : FusesOk s → FusesOk t
  prog : ∀ w, (s.ros.fuses.getD w {}).prog = true → (t.ros.fuses.getD w {}).prog = true
  tags : TagsOk s → TagsOk t
  container : StagingOk s.cfg.staging → StagingOk t.cfg.staging
  bundle : StagingOk s.bundles.staging → StagingOk t.bundles.staging
  records : RecordsOk s → RecordsOk t
  configure : ConfigFromOk s → ConfigFromOk t
  run : ConfigFromOk s → t.dev.st = .run → s.dev.st = .run ∨ entersRun i = true



theorem Leaves.keeps {i : Instr} (h : Gives i s (Leaves s)) : Gives i s (Keeps i s) := by
  obtain ⟨t, e, h⟩ := h
  refine ⟨t, e, h.pending, h.fuses, h.prog, fun ⟨hn, hl⟩ => ?_, h.container, h.bundle, h.records, h.configure, fun c r => .inl (h.run c r)⟩
  exact ⟨nodup_of_subperm h.held hn, fun x hx => hl x (h.held.subset hx)⟩

theorem Leaves.keeps_of_entersRun {i : Instr} (hi : entersRun i = true) (h : Gives i s (Leaves (running s))) : Gives i s (Keeps i s) := by
  obtain ⟨t, e, h⟩ := h
  refine ⟨t, e, h.pending, h.fuses, h.prog, fun ⟨hn, hl⟩ => ?_, h.container, h.bundle, h.records, h.configure, fun _ _ => .inr hi⟩
  exact ⟨nodup_of_subperm h.held hn, fun x hx => hl x (h.held.subset hx)⟩

theorem writeReq_keeps (x : Txn) (bytes : List Byte) (s : State) : Gives (.writeReq x bytes) s (Keeps (.writeReq x bytes) s) := by
  refine ⟨_, rfl, ?_⟩
  have all : ∃ xs, NewTags s xs ∧ Kept xs s (s.transaction x (acceptWrite bytes)) := by
    unfold State.transaction
    split
    · exact ⟨[], nofun, (Kept.refl s).host _ (.refl _)⟩
    split
    · split
      · exact acceptWrite_kept bytes s
      · exact ⟨[], nofun, reject_kept (.refl s) _⟩
    · obtain ⟨xs, hx, k⟩ := acceptWrite_kept bytes { s with host := { s.host with iface := if x.sckHigh then .spi3 else .spi0 } }
      exact ⟨xs, hx, k.pending, k.fuses, k.prog, k.held, k.container, k.bundle, k.opens, k.run, k.records⟩
  obtain ⟨xs, hx, k⟩ := all
  exact ⟨k.pending, k.fuses, k.prog, hx.tagsOk k.held, k.container, k.bundle, k.records,
    configFromOk_congr (transaction_configFrom (acceptWrite_configFrom bytes) ..), fun _ r => .inl (k.run r)⟩

/-- Every command answers a next state, and keeps what `Keeps` names. -/
theorem exec_keeps (i : Instr) (s : State) : Gives i s (Keeps i s) := by
  cases i with
  | writeReq x bytes => exact writeReq_keeps x bytes s
  | readRsp _ _ => exact Leaves.keeps (readRsp_leaves ..)
  | readStatus _ => exact Leaves.keeps (readStatus_leaves ..)
  | rspRelease _ _ => exact Leaves.keeps (rspRelease_leaves ..)
  | enterXspi _ => exact Leaves.keeps (enterXspi_leaves ..)
  | returnSpi _ => exact Leaves.keeps (returnSpi_leaves ..)
  | hello => exact Leaves.keeps (hello_leaves ..)
  | identity => exact Leaves.keeps (identity_leaves ..)
  | status => exact Leaves.keeps (status_leaves ..)
  | statusAll => exact Leaves.keeps (statusAll_leaves ..)
  | cellRead => exact Leaves.keeps (cellRead_leaves ..)
  | faultRead => exact Leaves.keeps (faultRead_leaves ..)
  | faultAck => exact Leaves.keeps (faultAck_leaves ..)
  | faultMask => exact Leaves.keeps (faultMask_leaves ..)
  | cfgStageBegin => exact Leaves.keeps (cfgStageBegin_leaves ..)
  | cfgStageData => exact Leaves.keeps (cfgStageData_leaves ..)
  | cfgStageEnd => exact Leaves.keeps (cfgStageEnd_leaves ..)
  | cfgCheck _ _ => exact Leaves.keeps (cfgCheck_leaves ..)
  | cfgCommit => exact Leaves.keeps (cfgCommit_leaves ..)
  | cfgAbort => exact Leaves.keeps (cfgAbort_leaves ..)
  | certRead => exact Leaves.keeps (certRead_leaves ..)
  | run => exact Leaves.keeps (run_leaves ..)
  | safe => exact Leaves.keeps (safe_leaves ..)
  | restart => exact Leaves.keeps (restart_leaves ..)
  | connStatus => exact Leaves.keeps (connStatus_leaves ..)
  | unknownPartners => exact Leaves.keeps (unknownPartners_leaves ..)
  | hostsigWrite => exact Leaves.keeps (hostsigWrite_leaves ..)
  | hostsigRead => exact Leaves.keeps (hostsigRead_leaves ..)
  | paramRead => exact Leaves.keeps (paramRead_leaves ..)
  | paramWrite => exact Leaves.keeps (paramWrite_leaves ..)
  | oxbInfo => exact Leaves.keeps (oxbInfo_leaves ..)
  | oxbRead _ => exact Leaves.keeps (oxbRead_leaves ..)
  | oxbFlush => exact Leaves.keeps (oxbFlush_leaves ..)
  | selftestRequest => exact Leaves.keeps (selftestRequest_leaves ..)
  | selftestReport => exact Leaves.keeps (selftestReport_leaves ..)
  | calRead => exact Leaves.keeps (calRead_leaves ..)
  | calStart => exact Leaves.keeps (calStart_leaves ..)
  | fuseRead => exact Leaves.keeps (fuseRead_leaves ..)
  | fuseProgram => exact Leaves.keeps (fuseProgram_leaves ..)
  | fuseVerify _ => exact Leaves.keeps (fuseVerify_leaves ..)
  | fuseSeal => exact Leaves.keeps (fuseSeal_leaves ..)
  | fuseLock => exact Leaves.keeps (fuseLock_leaves ..)
  | fwStageBegin => exact Leaves.keeps (fwStageBegin_leaves ..)
  | fwStageData => exact Leaves.keeps (fwStageData_leaves ..)
  | fwStageEnd => exact Leaves.keeps (fwStageEnd_leaves ..)
  | fwActivate => exact Leaves.keeps (fwActivate_leaves ..)
  | fwInfo => exact Leaves.keeps (fwInfo_leaves ..)
  | optime => exact Leaves.keeps (optime_leaves ..)
  | rosProgram _ => exact Leaves.keeps (rosProgram_leaves ..)
  | rosVerify _ _ => exact Leaves.keeps (rosVerify_leaves ..)
  | rosSeal _ => exact Leaves.keeps (rosSeal_leaves ..)
  | rosLock _ => exact Leaves.keeps (rosLock_leaves ..)
  | rosOperationComplete _ _ => exact Leaves.keeps (rosOperationComplete_leaves ..)
  | registerWrite _ _ => exact Leaves.keeps (registerWrite_leaves ..)
  | systemTick _ _ _ _ => exact Leaves.keeps_of_entersRun rfl (systemTick_leaves ..)
  | couplerSlot => exact Leaves.keeps (couplerSlot_leaves ..)
  | fdRunFrame _ _ _ => exact Leaves.keeps (fdRunFrame_leaves ..)
  | fdSyncFrame _ _ _ => exact Leaves.keeps (fdSyncFrame_leaves ..)
  | fdCfgFrame _ _ _ => exact Leaves.keeps (fdCfgFrame_leaves ..)
  | fieldWatchdogExpiry _ => exact Leaves.keeps (fieldWatchdogExpiry_leaves ..)
  | fdPowerOn _ _ => exact Leaves.keeps (fdPowerOn_leaves ..)
  | fdSupplyLoss _ => exact Leaves.keeps (fdSupplyLoss_leaves ..)
  | vfUnderLockout _ => exact Leaves.keeps (vfUnderLockout_leaves ..)
  | vfOverLockout _ => exact Leaves.keeps (vfOverLockout_leaves ..)
  | vfUnderRelease _ => exact Leaves.keeps (vfUnderRelease_leaves ..)
  | vfOverRelease _ => exact Leaves.keeps (vfOverRelease_leaves ..)
  | overloadTimeout _ => exact Leaves.keeps (overloadTimeout_leaves ..)
  | overtemp _ => exact Leaves.keeps (overtemp_leaves ..)
  | overloadLockoutEnd _ => exact Leaves.keeps (overloadLockoutEnd_leaves ..)
  | statusFrame _ _ _ _ => exact Leaves.keeps (statusFrame_leaves ..)
  | couplerLostDetect _ _ => exact Leaves.keeps (couplerLostDetect_leaves ..)
  | vfMissingDetect _ _ => exact Leaves.keeps (vfMissingDetect_leaves ..)
  | vfLowEnter _ _ => exact Leaves.keeps (vfLowEnter_leaves ..)
  | vfLowLeave _ _ => exact Leaves.keeps (vfLowLeave_leaves ..)
  | groupOverloadTimeout _ _ => exact Leaves.keeps (groupOverloadTimeout_leaves ..)
  | inputFilterChange _ _ => exact Leaves.keeps (inputFilterChange_leaves ..)
  | gapToleranceOff _ _ => exact Leaves.keeps (gapToleranceOff_leaves ..)
  | pulseSlotStart _ => exact Leaves.keeps (pulseSlotStart_leaves ..)
  | pulseEvaluation _ _ => exact Leaves.keeps (pulseEvaluation_leaves ..)
  | pulsePostSample _ _ => exact Leaves.keeps (pulsePostSample_leaves ..)
  | pulseOverdueCount _ _ => exact Leaves.keeps (pulseOverdueCount_leaves ..)
  | openLoadTimeout _ _ => exact Leaves.keeps (openLoadTimeout_leaves ..)
  | cellBoundary _ => exact Leaves.keeps (cellBoundary_leaves ..)
  | cellEvaluationDone _ _ _ => exact Leaves.keeps (cellEvaluationDone_leaves ..)
  | reconciliationPoint _ => exact Leaves.keeps (reconciliationPoint_leaves ..)
  | windowMiss _ _ => exact Leaves.keeps (windowMiss_leaves ..)
  | abDiscrepancy _ _ => exact Leaves.keeps (abDiscrepancy_leaves ..)
  | sigMismatch _ _ => exact Leaves.keeps (sigMismatch_leaves ..)
  | eventLiveExpiry _ _ _ => exact Leaves.keeps (eventLiveExpiry_leaves ..)
  | crstChipReset => exact Leaves.keeps (crstChipReset_leaves ..)
  | errpToggle => exact Leaves.keeps (errpToggle_leaves ..)
  | errpReadbackCheck _ _ => exact Leaves.keeps (errpReadbackCheck_leaves ..)
  | holdPatternFrame _ => exact Leaves.keeps (holdPatternFrame_leaves ..)
  | lockstepMismatch _ _ _ _ => exact Leaves.keeps (lockstepMismatch_leaves ..)
  | pairRestoreDone _ _ => exact Leaves.keeps (pairRestoreDone_leaves ..)
  | catchupLate _ _ => exact Leaves.keeps (catchupLate_leaves ..)
  | agrPersistCount _ _ _ => exact Leaves.keeps (agrPersistCount_leaves ..)
  | eccUncorrectable _ _ _ => exact Leaves.keeps (eccUncorrectable_leaves ..)
  | portGuardBlock _ _ _ => exact Leaves.keeps (portGuardBlock_leaves ..)
  | cmpInjectionTest _ _ => exact Leaves.keeps (cmpInjectionTest_leaves ..)
  | announceTransmit _ => exact Leaves.keeps (announceTransmit_leaves ..)
  | pduTransmit => exact Leaves.keeps (pduTransmit_leaves ..)
  | frameTxDone _ => exact Leaves.keeps (frameTxDone_leaves ..)
  | txStaleDiscard _ => exact Leaves.keeps (txStaleDiscard_leaves ..)
  | frameReceived _ _ => exact Leaves.keeps (frameReceived_leaves ..)
  | arpRequest _ => exact Leaves.keeps (arpRequest_leaves ..)
  | pauseFrame _ => exact Leaves.keeps (pauseFrame_leaves ..)
  | pauseEnd _ => exact Leaves.keeps (pauseEnd_leaves ..)
  | millraceFrame _ => exact Leaves.keeps (millraceFrame_leaves ..)
  | rxPickupTimeout _ => exact Leaves.keeps (rxPickupTimeout_leaves ..)
  | dataPduAccept _ _ => exact Leaves.keeps (dataPduAccept_leaves ..)
  | announceReceived _ _ => exact Leaves.keeps (announceReceived_leaves ..)
  | openSend _ _ => exact Leaves.keeps (openSend_leaves ..)
  | openReceived _ _ => exact Leaves.keeps (openReceived_leaves ..)
  | openAckReceived _ _ => exact Leaves.keeps (openAckReceived_leaves ..)
  | refuseReceived _ _ => exact Leaves.keeps (refuseReceived_leaves ..)
  | openingTimeout _ _ => exact Leaves.keeps (openingTimeout_leaves ..)
  | announceTimeout _ _ => exact Leaves.keeps (announceTimeout_leaves ..)
  | connWatchdogExpiry _ _ => exact Leaves.keeps (connWatchdogExpiry_leaves ..)
  | linkDown _ => exact Leaves.keeps (linkDown_leaves ..)
  | linkUp _ => exact Leaves.keeps (linkUp_leaves ..)
  | mdioPoll _ => exact Leaves.keeps (mdioPoll_leaves ..)
  | channelSliceStart _ => exact Leaves.keeps (channelSliceStart_leaves ..)
  | coverageLate _ => exact Leaves.keeps (coverageLate_leaves ..)
  | coverageLost _ => exact Leaves.keeps (coverageLost_leaves ..)
  | logicServiceCheck _ => exact Leaves.keeps (logicServiceCheck_leaves ..)
  | fieldUnitSlice _ => exact Leaves.keeps (fieldUnitSlice_leaves ..)
  | fieldUnitSliceDone _ _ => exact Leaves.keeps (fieldUnitSliceDone_leaves ..)
  | portUnitSlice _ _ _ _ => exact Leaves.keeps (portUnitSlice_leaves ..)
  | calChannelDone _ _ => exact Leaves.keeps (calChannelDone_leaves ..)
  | measurementBlock _ _ => exact Leaves.keeps (measurementBlock_leaves ..)
  | recordClose _ _ => exact Leaves.keeps (recordClose_leaves ..)
  | flushStart => exact Leaves.keeps (flushStart_leaves ..)
  | flushDeferred => exact Leaves.keeps (flushDeferred_leaves ..)
  | flushHourly => exact Leaves.keeps (flushHourly_leaves ..)
  | flushDone _ => exact Leaves.keeps (flushDone_leaves ..)
  | tlRetry => exact Leaves.keeps (tlRetry_leaves ..)
  | operatingSecond => exact Leaves.keeps (operatingSecond_leaves ..)
  | hsHoldTimeout => exact Leaves.keeps (hsHoldTimeout_leaves ..)
  | liveTranslationDone _ => exact Leaves.keeps (liveTranslationDone_leaves ..)
  | commitTick => exact Leaves.keeps (commitTick_leaves ..)
  | handoverPoint _ => exact Leaves.keeps (handoverPoint_leaves ..)
  | handoverTimeout => exact Leaves.keeps (handoverTimeout_leaves ..)
  | handoverComplete _ => exact Leaves.keeps (handoverComplete_leaves ..)
  | powerOn _ => exact Leaves.keeps (powerOn_leaves ..)
  | vsupBrownout => exact Leaves.keeps (vsupBrownout_leaves ..)
  | resetNLow => exact Leaves.keeps (resetNLow_leaves ..)
  | resetRelease _ _ _ => exact Leaves.keeps (resetRelease_leaves ..)
  | holdRetry _ _ => exact Leaves.keeps (holdRetry_leaves ..)
  | rosSensing _ => exact Leaves.keeps (rosSensing_leaves ..)
  | romBankCheck _ => exact Leaves.keeps (romBankCheck_leaves ..)
  | supImageStart _ _ => exact Leaves.keeps (supImageStart_leaves ..)
  | configBankSelect => exact Leaves.keeps (configBankSelect_leaves ..)
  | formReverify _ _ _ => exact Leaves.keeps (formReverify_leaves ..)
  | certCheck => exact Leaves.keeps (certCheck_leaves ..)
  | verifyExit => exact Leaves.keeps_of_entersRun rfl (verifyExit_leaves ..)
  | pfailWarning _ => exact Leaves.keeps (pfailWarning_leaves ..)
  | domainShedding => exact Leaves.keeps (domainShedding_leaves ..)
  | pfailClear => exact Leaves.keeps (pfailClear_leaves ..)
  | pfailRecovery => exact Leaves.keeps (pfailRecovery_leaves ..)
  | railFault _ => exact Leaves.keeps (railFault_leaves ..)
  | vsupHigh => exact Leaves.keeps (vsupHigh_leaves ..)
  | pllLockLoss => exact Leaves.keeps (pllLockLoss_leaves ..)
  | serdesLockLoss => exact Leaves.keeps (serdesLockLoss_leaves ..)
  | ratioWindowEnd _ => exact Leaves.keeps (ratioWindowEnd_leaves ..)
  | ratioWindowTimeout => exact Leaves.keeps (ratioWindowTimeout_leaves ..)
  | extest _ => exact Leaves.keeps (extest_leaves ..)
  | samplePreload _ => exact Leaves.keeps (samplePreload_leaves ..)
  | idcode => exact Leaves.keeps (idcode_leaves ..)
  | holdReason => exact Leaves.keeps (holdReason_leaves ..)
  | debug _ => exact Leaves.keeps (debug_leaves ..)
  | bypass _ => exact Leaves.keeps (bypass_leaves ..)
  | unknownOpcodeTransaction _ _ => exact Leaves.keeps (unknownOpcodeTransaction_leaves ..)
  | admissionComplete _ _ => exact Leaves.keeps (admissionComplete_leaves ..)
  | handoverFormsReady => exact Leaves.keeps (handoverFormsReady_leaves ..)
  | serdesLockRegained => exact Leaves.keeps (serdesLockRegained_leaves ..)
  | vsupHighEnd => exact Leaves.keeps (vsupHighEnd_leaves ..)
  | railReturn _ => exact Leaves.keeps (railReturn_leaves ..)
  | groupOverloadClear _ _ => exact Leaves.keeps (groupOverloadClear_leaves ..)
  | tapReset => exact Leaves.keeps (tapReset_leaves ..)

end Sys2Proof.Steps

namespace Sys2Proof.Proofs

open Sys2Proof.Machine Sys2Proof.Safety Sys2Proof.Steps

/-- Settles O55: each part of the invariant is one that every command keeps (`exec_keeps`); an idle step changes nothing. -/
theorem stepsKeepInvariant : Obligations.StepsKeepInvariant := by
  unfold Obligations.StepsKeepInvariant
  intro s t ⟨tags, container, bundle, fuses, configure⟩ h
  unfold step at h
  split at h
  · cases h
    exact ⟨tags, container, bundle, fuses, configure⟩
  next i rest _ =>
    obtain ⟨u, e, k⟩ := exec_keeps i { s with pending := rest }
    cases e.symm.trans h
    exact ⟨k.tags tags, k.container container, k.bundle bundle, k.fuses fuses, k.configure configure⟩

/-- Settles O56: no command takes the mark of a programmed word away (`exec_keeps`). -/
theorem fusesStayProgrammed : Obligations.FusesStayProgrammed := by
  unfold Obligations.FusesStayProgrammed
  intro s t w h hw
  unfold step at h
  split at h
  · cases h
    exact hw
  next i rest _ =>
    obtain ⟨u, e, k⟩ := exec_keeps i { s with pending := rest }
    cases e.symm.trans h
    exact k.prog w hw

/-- Settles O59: no command opens a second record of a pair of code and instance (`exec_keeps`). -/
theorem oneOpenRecordEach : Obligations.OneOpenRecordEach := by
  unfold Obligations.OneOpenRecordEach
  intro s t hs h
  unfold step at h
  split at h
  · cases h
    exact hs
  next i rest _ =>
    obtain ⟨u, e, k⟩ := exec_keeps i { s with pending := rest }
    cases e.symm.trans h
    exact k.records hs

/-- Settles O60: `exec_keeps` has the next state of every command, and its queue. -/
theorem everyCommandCompletes : Obligations.EveryCommandCompletes := by
  unfold Obligations.EveryCommandCompletes
  intro i s
  obtain ⟨t, e, k⟩ := exec_keeps i s
  exact ⟨t, e, k.pending⟩

/-- Settles O58: of the commands that may enter RUN (`exec_keeps`), VERIFY_EXIT does so from VERIFY alone, and the other is the tick. -/
theorem runEnteredAtVerifyExitOrTick : Obligations.RunEnteredAtVerifyExitOrTick := by
  unfold Obligations.RunEnteredAtVerifyExitOrTick
  intro i s t hs h ht hne
  obtain ⟨u, e, k⟩ := exec_keeps i s
  cases e.symm.trans h
  have hi : entersRun i = true := (k.run hs ht).resolve_left hne
  rcases eq_of_entersRun hi with rfl | hi
  · refine .inl ⟨rfl, Classical.byContradiction fun hv => hne ?_⟩
    have same : exec .verifyExit s = .next s := congrArg Host.Outcome.next (if_pos (.inl hv))
    cases same.symm.trans h
    exact ht
  · exact .inr hi

/-- Settles O54: right after reset no tag is held, nothing is staged, the fuse array is the factory's, and CONFIGURE has no way back. -/
theorem resetMeetsInvariant : Obligations.ResetMeetsInvariant := by
  unfold Obligations.ResetMeetsInvariant
  refine ⟨⟨?_, ?_⟩, nofun, nofun, ?_, nofun⟩
  · exact .nil
  · nofun
  · unfold FusesOk
    decide

/-- Settles O1: `step` is that case distinction. -/
theorem stepRunsFrontCommand : Obligations.StepRunsFrontCommand := by
  unfold Obligations.StepRunsFrontCommand
  exact ⟨fun _ _ _ => rfl, fun _ => rfl⟩

/-- Settles O2: each value by evaluation. -/
theorem checkValuesAndReset : Obligations.CheckValuesAndReset := by
  unfold Obligations.CheckValuesAndReset
  refine ⟨⟨?_, ?_, ?_, ?_, ?_, ?_, ?_, ?_, ?_, ?_⟩, ?_⟩
  all_goals decide +kernel

/-- A table that lists channel 0 twice, first with its switch open: a coupler slot ends the slices of every entry it lists, and so writes the
second entry over the first. -/
def listedTwice : State := { State.reset with
  dev := { State.reset.dev with st := .run }
  clk := { State.reset.clk with pllLocked := true }
  pwr := { State.reset.pwr with domains := [0, 9, 10] }
  field := { State.reset.field with chans := [(0, {}), (0, { swA := true })] } }

/-- Refutes O57: the statement speaks of every state, also of one whose table of channels lists a channel twice; there the coupler slot writes
the second entry, with its switch closed, over the first. No run reaches such a table, whose keys rise. -/
theorem not_switchesCloseByTokensAlone : ¬ Obligations.SwitchesCloseByTokensAlone := by
  unfold Obligations.SwitchesCloseByTokensAlone
  intro h
  have run : ∃ t, exec .couplerSlot listedTwice = .next t ∧ switchOf t 0 .a = true := ⟨_, rfl, by decide +kernel⟩
  obtain ⟨t, ht, hs⟩ := run
  obtain ⟨_, _, e, -⟩ := h .couplerSlot listedTwice t 0 .a ht rfl hs
  cases e

end Sys2Proof.Proofs

end

section
/-! PROOFS. Host transactions (R249, R253): the cases of a WRITE_REQ, and what a rejection leaves. O3. -/

set_option Elab.async false

namespace Sys2Proof.Occurrence
open Sys2Proof.Machine Sys2Proof.Safety Sys2Proof.Laws

/-! ### Occurrences without an effect -/

/-- What an occurrence writes that has severity 0 and no reaction: the words and instances of the faults, and Oxbow's record of it. -/
def Quiet (s t : State) : Prop := t = { s with faults := t.faults, oxb := t.oxb, pwr := t.pwr }

variable {s t u : State}

theorem Quiet.trans (h : Quiet s t) (k : Quiet t u) : Quiet s u := Eq.trans k (by rw [h])

theorem Quiet.ite {c : Prop} [Decidable c] (h : Quiet s t) (k : Quiet s u) : Quiet s (if c then t else u) := by
  split <;> assumption

theorem closeRecord_quiet (s : State) (o : OpenRec) (fl : Nat) : Quiet s (s.closeRecord o fl) :=
  .ite (.ite rfl rfl) (.ite rfl rfl)

theorem closeDue_quiet (s : State) (code inst : Nat) : Quiet s (s.closeDue code inst) := by
  unfold State.closeDue
  split
  · exact rfl
  · exact .ite (closeRecord_quiet ..) rfl

theorem oxbCount_quiet (s : State) (code inst sev : Nat) (injected : Bool) : Quiet s (s.oxbCount code inst sev injected).1 :=
  .trans (t := s.makeWay code inst) (.ite (.trans (closeDue_quiet ..) (closeDue_quiet ..)) (closeDue_quiet ..)) rfl

theorem passToOxbow_quiet (s : State) (b i inst sev : Nat) (injected : Bool) : Quiet s (s.passToOxbow b i inst sev injected).1 := by
  unfold State.passToOxbow
  split
  · exact rfl
  split
  · split <;> exact rfl
  · exact oxbCount_quiet ..

theorem takeReactions_none (brst : State → Nat → State) (s : State) (b i inst : Nat) : s.takeReactions brst b i inst 0 0 = s := by
  have hr : s.react b i inst 0 0 = s := rfl
  have hs : s.severityEffect b i inst 0 = s := by
    unfold State.severityEffect
    cases namedUnit b i inst <;> rfl
  unfold State.takeReactions
  simp [hr, hs]

theorem raiseWith_quiet {brst : State → Nat → State} {b i inst : Nat} (who : Nat) (h : s.effective b i inst = (0, 0)) :
    Quiet s (s.raiseWith brst b i inst who) := by
  unfold State.raiseWith
  split
  · exact rfl
  next src _ =>
  extract_lets mine
  refine .ite rfl (.ite ?_ ?_)
  · exact .trans (t := if src.cond then s else _) (.ite rfl (passToOxbow_quiet ..)) rfl
  rw [h]
  dsimp only
  have h2 := passToOxbow_quiet s b i inst 0 false
  generalize s.passToOxbow b i inst 0 false = y at h2 ⊢
  obtain ⟨s2, r⟩ := y
  rw [takeReactions_none]
  exact h2.trans rfl

end Sys2Proof.Occurrence

namespace Sys2Proof.Transport
open Sys2Proof.Machine Sys2Proof.Safety Sys2Proof.Laws Sys2Proof.Occurrence

variable {s : State}

/-! ### A WRITE_REQ (R249, R253) -/

theorem lengthRight_iff (bytes : List Byte) : LengthRight bytes ↔
    ¬(bytes.length < 16 ∨ leAt bytes 0 2 < 16 ∨ 4096 < leAt bytes 0 2 ∨ leAt bytes 0 2 ≠ bytes.length) := by
  unfold LengthRight
  omega

theorem acceptRequest_length {bytes : List Byte} (h : ¬LengthRight bytes) : acceptRequest bytes s = rejected 2 s := by
  unfold acceptRequest
  rw [if_pos (Classical.not_not.1 (mt (lengthRight_iff bytes).2 h))]
  rfl

theorem acceptRequest_crc {bytes : List Byte} (h : LengthRight bytes) (hc : ¬CrcRight bytes) : acceptRequest bytes s = rejected 1 s := by
  unfold acceptRequest
  dsimp only
  rw [if_neg ((lengthRight_iff bytes).1 h), if_pos (show leAt bytes 12 4 ≠ _ from hc)]
  rfl

theorem acceptRequest_tag {bytes : List Byte} (h : LengthRight bytes) (hc : CrcRight bytes) (ht : 31 < leAt bytes 2 1) :
    acceptRequest bytes s = rejected 3 s := by
  unfold acceptRequest
  dsimp only
  rw [if_neg ((lengthRight_iff bytes).1 h), if_neg (show ¬leAt bytes 12 4 ≠ _ from Classical.not_not.2 hc), if_pos ht]
  rfl

theorem acceptRequest_held {bytes : List Byte} (h : LengthRight bytes) (hc : CrcRight bytes) (ht : leAt bytes 2 1 ≤ 31)
    (hh : leAt bytes 2 1 ∈ s.host.held) : acceptRequest bytes s = rejected 4 s := by
  unfold acceptRequest
  dsimp only
  rw [if_neg ((lengthRight_iff bytes).1 h), if_neg (show ¬leAt bytes 12 4 ≠ _ from Classical.not_not.2 hc), if_neg (Nat.not_lt.2 ht), if_pos hh]
  rfl

/-- A message that is not rejected: queued last, or answered NOT_READY. -/
theorem acceptRequest_taken {bytes : List Byte} (h : LengthRight bytes) (hc : CrcRight bytes) (ht : leAt bytes 2 1 ≤ 31)
    (hh : leAt bytes 2 1 ∉ s.host.held) : acceptRequest bytes s =
      if s.host.ready then withHost s { s.host with accepted := (s.host.accepted + 1) % 2 ^ 32, queue := s.host.queue ++ [requestOf bytes s] }
      else withHost s { s.host with
        accepted := (s.host.accepted + 1) % 2 ^ 32, rsp := s.host.rsp ++ [(requestOf bytes s).response s.host.session stNOT_READY []] } := by
  unfold acceptRequest
  dsimp only
  rw [if_neg ((lengthRight_iff bytes).1 h), if_neg (show ¬leAt bytes 12 4 ≠ _ from Classical.not_not.2 hc), if_neg (Nat.not_lt.2 ht), if_neg hh]
  rfl

/-- Nothing joins the queue of a rejected message, so that no class L write is looked for. -/
theorem acceptWrite_rejected {bytes : List Byte} {n : Nat} (h : acceptRequest bytes s = rejected n s) : acceptWrite bytes s = rejected n s := by
  unfold acceptWrite
  rw [h]
  dsimp only
  have hq : (rejected n s).host.queue.drop s.host.queue.length = [] := by
    have k : QueueKept s (rejected n s) := event_bHOST_queue ..
    rcases k with e | e
    · rw [e, List.drop_length]
    · rw [e, List.drop_nil]
  simp only [hq]

theorem effective_unloaded (h : s.dev.loaded = false) (b i inst : Nat) :
    s.effective b i inst = (((sourceOf b i).getD default).floor, ((sourceOf b i).getD default).react) := by
  unfold State.effective
  rw [h]
  rfl

/-- REJECTED has severity 0 and no reaction while no policy is committed. -/
theorem rejected_quiet (reason : Nat) (h : s.dev.loaded = false) :
    Quiet { s with host := { s.host with
      lastReject := reason, rejectCount := (s.host.rejectCount + 1) % 16, rejected := (s.host.rejected + 1) % 2 ^ 32 } }
      (rejected reason s) := by
  unfold rejected State.event
  exact raiseWith_quiet 0 (effective_unloaded (by exact h) ..)

theorem writeReq_heard {t : Txn} (bytes : List Byte) (h : Heard t s) : exec (.writeReq t bytes) s = .next (acceptWrite bytes (begun t s)) :=
  congrArg Host.Outcome.next (transaction_heard (acceptWrite bytes) h)

end Sys2Proof.Transport

namespace Sys2Proof.Proofs
open Sys2Proof.Machine Sys2Proof.Safety Sys2Proof.Laws Sys2Proof.Occurrence Sys2Proof.Transport

/-- Settles O3, by the cases of `acceptRequest`; what a rejection leaves is that of a source of severity 0 (`raiseWith_quiet`). -/
theorem writeReqAcceptedOrRejected : Obligations.WriteReqAcceptedOrRejected := by
  unfold Obligations.WriteReqAcceptedOrRejected
  refine ⟨?_, ?_, ?_⟩
  · intro t bytes s heard hl hc ht hh h r u
    have ha := acceptRequest_taken (s := begun t s) hl hc ht hh
    rw [writeReq_heard bytes heard]
    refine ⟨fun ready => ?_, fun ready => ?_⟩
    · have e : acceptRequest bytes (begun t s) = u := by
        rw [ha, if_pos (by exact ready)]
        rfl
      have hq : u.host.queue.drop (begun t s).host.queue.length = [r] := by simp [u, withHost, begun, h]
      have none_ : u.liveWrite r = none → acceptWrite bytes (begun t s) = u := by
        intro hn
        unfold acceptWrite
        rw [e]
        simp only [hq, hn]
      refine ⟨fun h1 h2 => ?_, fun hn => by rw [none_ hn], fun v hv => ?_⟩
      · rw [none_]
        unfold State.liveWrite
        simp [h1, h2]
      · unfold acceptWrite
        rw [e]
        simp only [hq, hv]
        rfl
    · unfold acceptWrite
      rw [ha, if_neg (by simpa [begun] using ready)]
      have hq : s.host.queue.drop s.host.queue.length = [] := List.drop_length
      simp only [withHost, begun, hq]
      rfl
  · intro t bytes s heard
    have key : ∀ n, acceptRequest bytes (begun t s) = rejected n (begun t s) →
        exec (.writeReq t bytes) s = .next (rejected n (begun t s)) :=
      fun n e => by rw [writeReq_heard bytes heard, acceptWrite_rejected e]
    exact ⟨fun hl => key _ (acceptRequest_length hl), fun hl hc => key _ (acceptRequest_crc hl hc),
      fun hl hc ht => key _ (acceptRequest_tag hl hc ht), fun hl hc ht hh => key _ (acceptRequest_held hl hc ht hh)⟩
  · intro reason s hl
    have q := rejected_quiet reason hl
    refine ⟨by rw [q], fun p hp => ?_⟩
    rw [q]
    cases p
    case host | faults | oxb | pwr => simp at hp
    all_goals rfl

end Sys2Proof.Proofs

end

section
/-! PROOFS. The responses and the transport status (Tables 11.1 and 11.2). O4. -/

set_option Elab.async false

namespace Sys2Proof.Transport
open Sys2Proof.Machine Sys2Proof.Safety Sys2Proof.Laws Sys2Proof.Occurrence

variable {s : State} {t : Txn}

/-! ### The transport status (Table 11.2) -/

theorem b2n_le (b : Bool) : b2n b ≤ 1 := by cases b <;> decide

theorem b2n_eq_one {b : Bool} : decide (b2n b = 1) = b := by cases b <;> rfl

/-- The fields of a sum of single bits and of fields that fit. -/
theorem testBit_eq {w k : Nat} {b : Bool} (h : w / 2 ^ k % 2 = b2n b) : w.testBit k = b := by
  rw [Nat.testBit_eq_decide_div_mod_eq, h, b2n_eq_one]

theorem statusWord_eq (s : State) : ∃ w0 w1, s.transportStatus = leBytes 4 w0 ++ leBytes 4 w1 ∧
    w0 = b2n s.host.ready * 2 ^ 31 + b2n s.host.rom * 2 ^ 30 + (32 - s.host.held.length) * 2 ^ 24 + s.host.rsp.length * 2 ^ 18 +
      s.host.lastReject * 2 ^ 12 + s.host.rejectCount * 2 ^ 8 + b2n s.host.evHandover * 16 + b2n s.host.evHsTimeout * 8 +
      b2n s.host.evState * 4 + b2n s.host.evFault * 2 + b2n s.host.evReady ∧
    (s.host.rsp = [] → w1 = 0xFF * 2 ^ 24) ∧ ∀ r rest, s.host.rsp = r :: rest → w1 = r.tag * 2 ^ 24 + r.bytes.length := by
  refine ⟨_, _, rfl, rfl, fun h => ?_, fun r rest h => ?_⟩
  · rw [h]
    rfl
  · rw [h]

theorem rsp_le_held (h : HostSt) : h.rsp.length ≤ h.held.length := by
  simp only [HostSt.held, List.length_append, List.length_map]
  omega

end Sys2Proof.Transport

namespace Sys2Proof.Proofs
open Sys2Proof.Machine Sys2Proof.Safety Sys2Proof.Laws Sys2Proof.Occurrence Sys2Proof.Transport

/-- Settles O4: `transaction_heard` for each opcode, and the words of the status field by field. -/
theorem responsesAndTransportStatus : Obligations.ResponsesAndTransportStatus := by
  unfold Obligations.ResponsesAndTransportStatus
  constructor
  · intro t s heard h
    refine ⟨?_, ?_, ?_, ?_, ?_⟩
    · intro count r rest e hc
      refine congrArg Host.Outcome.next ((transaction_heard _ heard).trans ?_)
      have hl : count - (r.bytes.take count).length = 0 := by simp [hc]
      simp only [begun, e, hl]
      simp [freeBytes, withHost, h, e]
    · intro count
      let extra := count - (((s.host.rsp.head?.map (·.bytes)).getD []).take count).length
      refine ⟨freeBytes s.free extra, s.free + extra, congrArg Host.Outcome.next ((transaction_heard _ heard).trans ?_)⟩
      cases e : s.host.rsp <;> simp [begun, e, withHost, h, extra]
    · exact congrArg Host.Outcome.next (transaction_heard _ heard)
    · intro r rest e
      refine congrArg Host.Outcome.next ((transaction_heard _ heard).trans ?_)
      simp [begun, e, withHost, h]
    · intro tag ht
      refine congrArg Host.Outcome.next ((transaction_heard _ heard).trans ?_)
      cases e : s.host.rsp with
      | nil => simp [begun, e]; rfl
      | cons r rest =>
        have hr : r.tag ≠ tag := ht r (by simp [e])
        simp [begun, e, hr]
        rfl
  · intro s hh hl hc hr
    obtain ⟨w0, w1, e, e0, e1, e2⟩ := statusWord_eq s
    have hb := rsp_le_held s.host
    have b1 := b2n_le s.host.ready
    have b2 := b2n_le s.host.rom
    have b3 := b2n_le s.host.evHandover
    have b4 := b2n_le s.host.evHsTimeout
    have b5 := b2n_le s.host.evState
    have b6 := b2n_le s.host.evFault
    have b7 := b2n_le s.host.evReady
    have h0 : leAt s.transportStatus 0 4 = w0 := by
      rw [e]
      exact leAt_first 4 w0 _ (by omega)
    have h1 : w1 < 256 ^ 4 → leAt s.transportStatus 4 4 = w1 := fun hw => by
      rw [e, ← List.append_nil (leBytes 4 w1)]
      exact leAt_next _ _ 4 4 w1 (by simp) hw
    refine ⟨by rw [e]; simp, ?_, ?_⟩
    · intro w
      have hw : w = w0 := h0
      clear_value w
      subst hw
      simp only [bitsOf, Nat.shiftRight_eq_div_pow]
      refine ⟨testBit_eq ?_, testBit_eq ?_, ?_, ?_, ?_, ?_, ?_, ?_, testBit_eq ?_, testBit_eq ?_, testBit_eq ?_, testBit_eq ?_, testBit_eq ?_⟩
      all_goals omega
    · intro w
      cases hq : s.host.rsp with
      | nil =>
        have hw : w = w1 := h1 (by rw [e1 hq]; decide)
        simp only [bitsOf, Nat.shiftRight_eq_div_pow, hw, e1 hq]
        exact ⟨by decide, fun _ => by decide, fun _ _ => nofun⟩
      | cons r rest =>
        obtain ⟨ht, hl⟩ := hr r (by simp [hq])
        have e2 := e2 r rest hq
        have hw : w = w1 := h1 (by omega)
        simp only [bitsOf, Nat.shiftRight_eq_div_pow, hw, e2]
        refine ⟨by omega, nofun, ?_⟩
        rintro _ _ ⟨⟩
        constructor <;> omega

end Sys2Proof.Proofs

end

section
/-! PROOFS. Transactions that are not heard, and the opcodes of the two interfaces. O5. -/

set_option Elab.async false

namespace Sys2Proof.Transport
open Sys2Proof.Machine Sys2Proof.Safety Sys2Proof.Laws Sys2Proof.Occurrence

variable {s : State}

/-- Every transaction of Table 11.1 is `State.transaction` with an action of its own. -/
theorem transaction_of_mem {t : Txn} {c : Instr}
    (h : c ∈ [.enterXspi t, .returnSpi t, .readStatus t] ∨ (∃ b, c = .writeReq t b) ∨ (∃ n, c = .readRsp t n) ∨ ∃ g, c = .rspRelease t g) :
    ∃ act, ∀ s, exec c s = .next (s.transaction t act) := by
  rcases h with h | ⟨_, rfl⟩ | ⟨_, rfl⟩ | ⟨_, rfl⟩
  · simp only [List.mem_cons, List.not_mem_nil, or_false] at h
    rcases h with rfl | rfl | rfl <;> exact ⟨_, fun _ => rfl⟩
  all_goals exact ⟨_, fun _ => rfl⟩

theorem begun_iface_ne {t : Txn} (h : s.host.iface ≠ .xspi) : (begun t s).host.iface ≠ .xspi := by
  simp only [begun, ifaceOf, if_neg h]
  split <;> nofun

theorem begun_of_xspi {t : Txn} (h : s.host.iface = .xspi) : begun t s = s := by
  simp only [begun, ifaceOf, if_pos h]
  rw [← h]

/-- A transaction that its action rejects with reason 5. -/
theorem unknownOpcode_heard {t : Txn} {op : Byte} (h : Heard t s) (hk : knownOpcode s.host.iface op = false) :
    exec (.unknownOpcodeTransaction t op) s = .next (rejected 5 (begun t s)) := by
  have e : exec (.unknownOpcodeTransaction t op) s = .next (s.transaction t (fun s => s.reject jOPCODE)) := by
    show Host.Outcome.next (if knownOpcode s.host.iface op then s else _) = _
    rw [hk]
    rfl
  rw [e, transaction_heard _ h]
  rfl

end Sys2Proof.Transport

namespace Sys2Proof.Proofs
open Sys2Proof.Machine Sys2Proof.Safety Sys2Proof.Laws Sys2Proof.Occurrence Sys2Proof.Transport

/-- Settles O5, by the three outcomes of a transaction: unheard, garbled, and its action on the state that it has begun. -/
theorem transactionsHeardAndSwitched : Obligations.TransactionsHeardAndSwitched := by
  unfold Obligations.TransactionsHeardAndSwitched
  constructor
  · intro t s c hc
    obtain ⟨act, e⟩ := transaction_of_mem hc
    rw [e s]
    exact ⟨fun dark => by rw [transaction_dark act dark],
      fun h8 hclk hx ht => congrArg Host.Outcome.next (transaction_garbled act h8 hclk hx ht)⟩
  · intro t s heard
    have hx : s.host.iface = .xspi → begun t s = s := begun_of_xspi
    refine ⟨fun h => ?_, fun h => ?_, fun h => ?_, fun h => ?_, fun op hop => ?_, fun h => ?_, fun h => ?_⟩
    · refine congrArg Host.Outcome.next ((transaction_heard _ heard).trans ?_)
      rw [if_neg (begun_iface_ne h)]
      rfl
    · refine congrArg Host.Outcome.next ((transaction_heard _ heard).trans ?_)
      rw [hx h, if_pos h]
      rfl
    · refine congrArg Host.Outcome.next ((transaction_heard _ heard).trans ?_)
      rw [hx h, if_pos h]
    · refine congrArg Host.Outcome.next ((transaction_heard _ heard).trans ?_)
      rw [if_neg (begun_iface_ne h)]
      rfl
    · refine unknownOpcode_heard heard ?_
      simp only [List.mem_cons, List.not_mem_nil, or_false, not_or] at hop
      unfold knownOpcode
      split <;> simp [hop]
    · rw [unknownOpcode_heard heard (by simp [knownOpcode, h]), hx h]
    · exact unknownOpcode_heard heard (by simp [knownOpcode, h])

end Sys2Proof.Proofs

end

section
/-! PROOFS. The services of Table 11.5 and the states that serve them. O6. -/

set_option Elab.async false

namespace Sys2Proof.Mailbox
open Sys2Proof.Machine Sys2Proof.Safety Sys2Proof.Laws

variable {s : State}

/-- Every service is `serve` of its code, with a form and an action of its own. -/
theorem service_eq {va vb : Option Verdict} {ds : List RecordDamage} {e : Instr × Nat} (h : e ∈ services va vb ds) :
    ∃ form act, ∀ s, exec e.1 s = .next (s.serve e.2 form act) := by
  simp only [services, List.mem_append, List.mem_cons, List.not_mem_nil, or_false] at h
  rcases h with h | h
  · rcases h with rfl | rfl | rfl | rfl | rfl | rfl | rfl | rfl | rfl | rfl | rfl | rfl | rfl | rfl | rfl | rfl | rfl <;>
      exact ⟨_, _, fun _ => rfl⟩
  · rcases h with rfl | rfl | rfl | rfl | rfl | rfl | rfl | rfl | rfl | rfl | rfl | rfl | rfl | rfl | rfl | rfl | rfl | rfl | rfl |
        rfl <;>
      exact ⟨_, _, fun _ => rfl⟩

theorem cmdVersion_v2 {code : Nat} (h : code ∈ [0x12, 0x13, 0x91]) : cmdVersion code = some 2 := by
  simp only [List.mem_cons, List.not_mem_nil, or_false] at h
  rcases h with rfl | rfl | rfl <;> rfl

end Sys2Proof.Mailbox

namespace Sys2Proof.Proofs
open Sys2Proof.Machine Sys2Proof.Safety Sys2Proof.Laws Sys2Proof.Mailbox

/-- Settles O6: the checks are those of `serve` (`serve_session`, `serve_version`, `serve_state`), and the table of states is that of
`stateRefuses`. -/
theorem servicesCheckSessionAndState : Obligations.ServicesCheckSessionAndState := by
  unfold Obligations.ServicesCheckSessionAndState
  constructor
  · intro va vb ds e he s r q front hc
    obtain ⟨form, act, hx⟩ := service_eq he
    rw [hx s]
    refine ⟨fun hs => by rw [serve_session form act front hc hs], fun h1 h2 h3 h4 hv => ?_, fun hs st hw => by rw [serve_state form act front hc hs hw]⟩
    rw [serve_version form act front hc h1 h2 h3 (cmdVersion_v2 hv) (by omega)]
  · intro s code hc
    refine ⟨?_, ?_, ?_, ?_, ?_, ?_⟩
    · rintro (h | h) <;> simp [State.stateRefuses, h]
    · intro h
      simp [State.stateRefuses, h]
    · intro h
      simp only [State.stateRefuses, h]
      by_cases hx : code ∈ [0x40, 0x41, 0x42]
      · rw [if_pos hx]
        simp only [List.mem_cons, List.not_mem_nil, or_false] at hx
        rcases hx with rfl | rfl | rfl <;> rfl
      · rw [if_neg hx]
        simp only [List.mem_cons, List.not_mem_nil, or_false, not_or] at hx
        simp [hx]
    · intro h
      simp only [State.stateRefuses, h, decide_eq_true_eq]
      rfl
    · intro h
      simp only [State.stateRefuses, h]
      refine if_congr ?_ rfl rfl
      simp only [cmdL, cmdR, Bool.or_eq_true, decide_eq_true_eq, List.mem_cons, List.not_mem_nil, or_false]
      omega
    · intro h hm
      simp only [State.stateRefuses, h, hm]
      refine if_congr ?_ rfl rfl
      simp [cmdRom]

end Sys2Proof.Proofs

end

section
/-! PROOFS. HELLO (R255). O7. -/

set_option Elab.async false

namespace Sys2Proof.Mailbox
open Sys2Proof.Machine Sys2Proof.Safety Sys2Proof.Laws

variable {s : State} {r : Request} {q : List Request}

/-- Nothing is left to settle behind the request at the front, whatever is answered to it. -/
theorem settle_behind {t : State} (front : AtFront r q s) (h : t.host.queue = q) : t.settle = t :=
  settle_eq_self t (h ▸ front.behind)

theorem hello_bad {st : Nat} (front : AtFront r q s) (hc : r.cmd = 0x01) (h : helloBad r = some st) :
    exec .hello s = .next (answered r q st [] s) := by
  show Host.Outcome.next _ = _
  simp only [front_eq front hc, h, popRequest_eq front.queue]
  exact congrArg _ (settle_behind front rfl)

theorem hello_greets (front : AtFront r q s) (hc : r.cmd = 0x01) (h : helloBad r = none) (hw : s.host.waiting = []) :
    exec .hello s = .next ((popped q s).greet r).settle := by
  show Host.Outcome.next _ = _
  simp only [front_eq front hc, h, popRequest_eq front.queue, hw, List.isEmpty_nil, if_true]

/-- A new session number is not 0 and not that of the old session. -/
theorem newSession_new (old draw : Nat) : newSession old draw ≠ 0 ∧ newSession old draw < 2 ^ 32 ∧ newSession old draw ≠ old := by
  unfold newSession
  have := Nat.mod_lt (Config.sessionNumber draw) (show 0 < 2 ^ 32 - 2 by decide)
  dsimp only
  split <;> omega

/-- The answer to a HELLO that opens session n in version v (R255). -/
def greeting (s : State) (v n : Nat) : List Byte :=
  leBytes 1 v ++ leBytes 1 s.versions ++ leBytes 1 (b2n (!s.host.rom)) ++ leBytes 1 s.dev.st.code ++
    leBytes 4 n ++ leBytes 4 (if s.host.rom then 0 else (s.bundles.manifest.getD default).version) ++ leBytes 8 s.identity

theorem greeting_fields (s : State) {v n : Nat} (hv : v < 256) (hn : n < 2 ^ 32) :
    (greeting s v n).length = 20 ∧ leAt (greeting s v n) 0 1 = v ∧ leAt (greeting s v n) 4 4 = n := by
  refine ⟨by simp [greeting], ?_, ?_⟩
  · unfold greeting
    simp only [List.append_assoc]
    exact leAt_first 1 v _ hv
  · unfold greeting
    rw [List.append_assoc, List.append_assoc]
    exact leAt_next _ _ 4 4 n (by simp) (by omega)

end Sys2Proof.Mailbox

namespace Sys2Proof.Proofs
open Sys2Proof.Machine Sys2Proof.Safety Sys2Proof.Laws Sys2Proof.Mailbox

/-- Settles O7: the outcomes of HELLO are those of its header and of `greet`. -/
theorem helloOpensSession : Obligations.HelloOpensSession := by
  unfold Obligations.HelloOpensSession
  intro s r q front hc
  refine ⟨fun hb => hello_bad front hc (if_pos hb), fun hv hs hl h2 h3 hw => ?_⟩
  have good : helloBad r = none := by
    unfold helloBad
    rw [if_neg (by simp [hv, hs]), if_neg (by omega)]
  rw [hello_greets front hc good hw]
  refine ⟨fun h0 => ?_, fun h0 => ?_⟩
  · have e : (popped q s).greet r = answered r q stNO_COMMON_VERSION [] s := if_pos h0
    rw [e, settle_behind front rfl]
  · obtain ⟨new, small, other⟩ := newSession_new s.host.session s.free
    refine ⟨newSession s.host.session s.free,
      greeting s (if (leAt r.payload 0 2 &&& s.versions).testBit 1 then 2 else 1) (newSession s.host.session s.free),
      new, small, other, ?_, greeting_fields s (by split <;> decide) small⟩
    unfold State.greet
    rw [if_neg (by exact h0)]
    exact congrArg _ (settle_behind front rfl)

end Sys2Proof.Proofs

end

section
/-! PROOFS. FAULT_ACK and FAULT_MASK (R267, R290), and a class L write at its acceptance. O10. -/

set_option Elab.async false

namespace Sys2Proof.Mailbox
open Sys2Proof.Machine Sys2Proof.Safety Sys2Proof.Laws

/-! ### Payloads -/

/-- The last field of a byte string. -/
theorem leAt_last (pre : List Byte) (off n v : Nat) (h : pre.length = off) (hv : v < 256 ^ n) : leAt (pre ++ leBytes n v) off n = v := by
  rw [← List.append_nil (leBytes n v)]
  exact leAt_next pre [] off n v h hv

/-- The form of a payload that names a block. -/
theorem blockForm_of {r : Request} {b n : Nat} {bs : List Byte} (hb : isBlock b = true) (hp : r.payload = [byte b, 0, 0, 0] ++ bs)
    (hn : bs.length + 4 = n) : blockForm n r = true := by
  have h0 : leAt r.payload 0 1 = b := by
    rw [hp]
    exact leAt_byte b _ (isBlock_lt hb)
  unfold blockForm
  rw [h0, hb, hp]
  simp [allZero, hn]

/-- A payload of FAULT_ACK and FAULT_MASK: its block and its mask. -/
theorem faultMask_payload {r : Request} {b m : Nat} (hb : isBlock b = true) (hm : m < 2 ^ (highestIndex b + 1))
    (hp : r.payload = [byte b, 0, 0, 0] ++ leBytes (4 * (highestIndex b / 32 + 1)) m) :
    leAt r.payload 0 1 = b ∧ leAt r.payload 4 (faultBytes b) = m ∧ faultMaskForm r = true := by
  have h0 : leAt r.payload 0 1 = b := by
    rw [hp]
    exact leAt_byte b _ (isBlock_lt hb)
  have fits : m < 256 ^ faultBytes b := by
    have : (256 : Nat) ^ faultBytes b = 2 ^ (8 * faultBytes b) := by rw [Nat.pow_mul]
    rw [this]
    exact hm.trans_le (Nat.pow_le_pow_right (by decide) (by unfold faultBytes; omega))
  have h4 : leAt r.payload 4 (faultBytes b) = m := by
    rw [hp]
    exact leAt_last _ 4 _ m rfl fits
  refine ⟨h0, h4, ?_⟩
  unfold faultMaskForm
  dsimp only
  rw [h0, h4, blockForm_of hb hp (by rw [leBytes_length, faultBytes]; omega), hb, hp]
  simp [hm]

end Sys2Proof.Mailbox

namespace Sys2Proof.Proofs
open Sys2Proof.Machine Sys2Proof.Safety Sys2Proof.Laws Sys2Proof.Mailbox Sys2Proof.Transport

/-- The words of the blocks once one block's mask is written. -/
theorem setMask_words (s : State) (b : Nat) (m : BitVec 128) (b' : Nat) :
    (s.setMask b m).words b' = if b' = b then { s.words b with mask := m } else s.words b' :=
  tab_getD_put ..

theorem setWords_words (s : State) (b : Nat) (w : FaultWords) (b' : Nat) :
    (s.setWords b w).words b' = if b' = b then w else s.words b' :=
  tab_getD_put ..

/-- Clearing the masked bits that are not live, bit by bit. -/
theorem getLsbD_clear (m : Nat) (w live : BitVec 128) (i : Nat) :
    (w &&& ~~~(BitVec.ofNat 128 m &&& ~~~live)).getLsbD i = (w.getLsbD i && !(m.testBit i && !live.getLsbD i)) := by
  by_cases hi : i < 128
  · simp only [BitVec.getLsbD_and, BitVec.getLsbD_not, BitVec.getLsbD_ofNat, hi, decide_true, Bool.true_and]
  · rw [BitVec.getLsbD_of_ge _ i (by omega), BitVec.getLsbD_of_ge w i (by omega), Bool.false_and]

/-- What FAULT_ACK makes of a block's words: the masked bits that are not live are cleared (R290). -/
def ackWords (w : FaultWords) (live : BitVec 128) (m : Nat) : FaultWords :=
  { w with
    sticky := w.sticky &&& ~~~(BitVec.ofNat 128 m &&& ~~~live),
    injected := w.injected &&& ~~~(BitVec.ofNat 128 m &&& ~~~live) }

theorem faultAck_served {s : State} {r : Request} {q : List Request} {b m : Nat} (h : Served 0x21 r q s) (form : faultMaskForm r = true)
    (h0 : leAt r.payload 0 1 = b) (h4 : leAt r.payload 4 (faultBytes b) = m) :
    exec .faultAck s = .next ((((popped q s).setWords b (ackWords (s.words b) (s.liveWord b) m)).purgeHolds).respond r stOK
      (faultWordBytes b (BitVec.ofNat 128 m &&& s.liveWord b))) := by
  subst h0 h4
  exact congrArg Host.Outcome.next (serve_queue _ h form rfl)

theorem takeMask_eq (s : State) {r : Request} {b m : Nat} (h0 : leAt r.payload 0 1 = b) (h4 : leAt r.payload 4 (faultBytes b) = m) :
    s.takeMask r = s.setMask b (BitVec.ofNat 128 m) := by
  subst h0 h4
  rfl

theorem faultMask_served {s : State} {r : Request} {q : List Request} {b m : Nat} (h : Served 0x22 r q s) (form : faultMaskForm r = true)
    (h0 : leAt r.payload 0 1 = b) (h4 : leAt r.payload 4 (faultBytes b) = m) :
    exec .faultMask s = .next (((popped q s).setMask b (BitVec.ofNat 128 m)).respond r stOK []) := by
  have e : (if r.done then popped q s else (popped q s).takeMask r) = (popped q s).setMask b (BitVec.ofNat 128 m) := by
    rw [if_neg (by rw [h.fresh]; nofun), takeMask_eq _ h0 h4]
  rw [← e]
  exact congrArg Host.Outcome.next (serve_queue _ h form (by rw [e]; rfl))

/-- The state once a message has been queued at its acceptance. -/
def accepted (bytes : List Byte) (s : State) : State :=
  withHost s { s.host with accepted := (s.host.accepted + 1) % 2 ^ 32, queue := s.host.queue ++ [requestOf bytes s] }

/-- A class L write that its service would take has its effect at its acceptance, and is queued as done. -/
theorem acceptWrite_live {s v : State} {bytes : List Byte} (hl : LengthRight bytes) (hc : CrcRight bytes) (ht : leAt bytes 2 1 ≤ 31)
    (hh : leAt bytes 2 1 ∉ s.host.held) (ready : s.host.ready = true)
    (hv : (accepted bytes s).liveWrite (requestOf bytes s) = some v) :
    acceptWrite bytes s = withHost v { v.host with queue := s.host.queue ++ [{ requestOf bytes s with done := true }] } := by
  have e : acceptRequest bytes s = accepted bytes s := by
    rw [acceptRequest_taken hl hc ht hh, if_pos ready]
    rfl
  have hq : (accepted bytes s).host.queue.drop s.host.queue.length = [requestOf bytes s] := List.drop_left
  unfold acceptWrite
  rw [e]
  simp only [hq, hv]
  rfl

/-- A FAULT_MASK that its service would take is a class L write (R267). -/
theorem liveWrite_mask {s : State} {r : Request} (hc : r.cmd = 0x22) (paused : s.host.paused = false) (sup : s.supRuns = true)
    (hs : InSession r s) (hw : s.stateRefuses 0x22 = none) (form : faultMaskForm r = true) : s.liveWrite r = some (s.takeMask r) := by
  obtain ⟨h1, h2, h3, -⟩ := hs
  have good : s.sessionBad r = false := by simp [State.sessionBad, h1, h2, h3]
  unfold State.liveWrite
  rw [hc, hw, if_neg (by simp [paused, sup, good]), if_pos rfl, if_pos form]

/-- A request whose effect came at its acceptance is only answered. -/
theorem faultMask_done {s : State} {r : Request} {q : List Request} (h : AtFront r q s) (hc : r.cmd = 0x22) :
    exec .faultMask (withHost s { s.host with queue := { r with done := true } :: q }) = .next (answered r q stOK [] s) := by
  have found : (withHost s { s.host with queue := { r with done := true } :: q }).front 0x22 = some { r with done := true } := by
    show (if s.serveBlocked || s.host.paused || !s.host.ready || !s.on 8 || !s.supRuns then none
      else if r.captured && r.cmd == 0x22 then some { r with done := true } else none) = _
    simp only [h.blocked, h.paused, h.ready, h.power, h.sup, h.captured, hc, Bool.not_true, Bool.or_false, Bool.false_eq_true, if_false,
      beq_self_eq_true, Bool.and_self, if_true]
  have e : (withHost s { s.host with queue := { r with done := true } :: q }).popRequest = popped q s := rfl
  refine congrArg Host.Outcome.next ?_
  unfold State.serve
  simp only [found, e, if_true]
  exact settle_eq_self (answered r q stOK [] s) h.behind

/-- Settles O10: FAULT_ACK and FAULT_MASK each write the words of one block, and a class L write does so at its acceptance. -/
theorem faultAckAndMask : Obligations.FaultAckAndMask := by
  unfold Obligations.FaultAckAndMask
  intro s r q b m hb hm hp masked
  obtain ⟨h0, h4, form⟩ := faultMask_payload hb hm hp
  have masked_set : ∀ t u : State, t.faults = s.faults → t.params = s.params → u.faults = (t.setMask b (BitVec.ofNat 128 m)).faults →
      u.params = (t.setMask b (BitVec.ofNat 128 m)).params → masked b m s u := by
    intro t u ht hp hu hq
    refine ⟨by rw [hu, ← ht]; rfl, by rw [hu, ← ht]; rfl, by rw [hq, ← hp]; rfl, fun b' => ?_⟩
    have e : ∀ b', t.words b' = s.words b' := fun b' => by unfold State.words; rw [ht]
    rw [← e b, ← e b']
    unfold State.words
    rw [hu]
    exact setMask_words ..
  refine ⟨fun served => ⟨_, faultAck_served served form h0 h4, rfl, fun p hp => ?_, rfl, fun b' i => ?_⟩,
    fun served => ⟨_, faultMask_served served form h0 h4, rfl, fun p hp => ?_, masked_set (popped q s) _ rfl rfl rfl rfl⟩,
    faultMask_done, ?_⟩
  · cases p
    case host | faults => simp at hp
    all_goals rfl
  · have e : ∀ (t : State) (bs : List Byte), (t.purgeHolds.respond r stOK bs).words b' = t.words b' := fun _ _ => rfl
    rw [e, setWords_words]
    by_cases hb' : b' = b
    · subst hb'
      simp only [ackWords, getLsbD_clear, if_true, beq_self_eq_true, Bool.true_and, and_self]
    · have e : (popped q s).words b' = s.words b' := rfl
      rw [if_neg hb', beq_false_of_ne hb', e]
      simp
  · cases p
    case host | faults | params => simp at hp
    all_goals rfl
  · intro tx bytes heard hl hcrc ht hh ready paused sup req hc hs hw
    have live : (accepted bytes (begun tx s)).liveWrite (requestOf bytes (begun tx s)) =
        some ((accepted bytes (begun tx s)).setMask b (BitVec.ofNat 128 m)) := by
      rw [show requestOf bytes (begun tx s) = { r with captured := false } from req]
      rw [← takeMask_eq (r := { r with captured := false }) _ h0 h4]
      exact liveWrite_mask hc paused sup hs hw form
    refine ⟨_, (writeReq_heard bytes heard).trans (congrArg Host.Outcome.next (acceptWrite_live hl hcrc ht hh ready live)), fun p hp => ?_,
      masked_set (begun tx s) _ rfl rfl rfl rfl, ?_, rfl⟩
    · cases p
      case host | faults | params => simp at hp
      all_goals rfl
    · exact congrArg (fun x : Request => s.host.queue ++ [{ x with done := true }]) req

end Sys2Proof.Proofs

end

section
/-! PROOFS. The arrival in a device state (`enter`), part by part. -/

set_option Elab.async false

namespace Sys2Proof.Occurrence
open Sys2Proof.Machine Sys2Proof.Safety Sys2Proof.Laws

variable (s : State)

/-! ### The arrival in a device state -/

/-- The state at its arrival in `st`, before the requests are answered that it ends. -/
def moved (st : DevState) (reason : Nat) : State :=
  let u := if s.dev.st = .run then s.endShadows else s
  { u with
    dev := { u.dev with
      st := st, safeReason := if st = .safe then reason else 0, maint := if st = .maintenance then u.dev.maint else .none }
    time := if s.dev.st = .verify then { u.time with tau0 := some u.time.tick } else u.time
    host := if u.on 8 then { u.host with evState := true } else u.host }

/-- LATCHED ends an admission that is under way. -/
def admissionEnded (st : DevState) : State :=
  if st = .latched ∧ s.cfg.admission.isSome then
    ({ s with cfg := { s.cfg with admission := none } } : State).answer .commit stWRONG_STATE []
  else s

/-- What an arrival answers: RUN and RESTART, or RESTART alone (Table 2.3). -/
def arrivalAnswered (st : DevState) : State :=
  if st = .run ∨ st = .safe ∨ st = .latched then (s.answer .run stOK s.statePayload).answer .restart stOK s.statePayload
  else if st = .maintenance then s.answer .restart stOK s.statePayload
  else s

/-- The parts that are written before the answers, each by itself. -/
theorem moved_eq (st : DevState) (reason : Nat) : moved s st reason = { s with
    dev := { s.dev with
      st := st, safeReason := if st = .safe then reason else 0, maint := if st = .maintenance then s.dev.maint else .none }
    time := if s.dev.st = .verify then { s.time with tau0 := some s.time.tick } else s.time
    host := if s.on 8 then { s.host with evState := true } else s.host
    cells := if s.dev.st = .run then s.endShadows.cells else s.cells } := by
  by_cases h : s.dev.st = .run
  · rw [if_pos h]
    unfold moved
    rw [if_pos h]
    rfl
  · rw [if_neg h]
    unfold moved
    rw [if_neg h]

theorem admissionEnded_eq (st : DevState) :
    admissionEnded s st = { s with cfg := (admissionEnded s st).cfg, host := { s.host with
      waiting := (admissionEnded s st).host.waiting, rsp := (admissionEnded s st).host.rsp } } := by
  unfold admissionEnded
  split
  · simp only [answer_eq]
  · rfl

theorem arrivalAnswered_eq (st : DevState) :
    arrivalAnswered s st = { s with host := { s.host with
      waiting := (arrivalAnswered s st).host.waiting, rsp := (arrivalAnswered s st).host.rsp } } := by
  unfold arrivalAnswered
  split
  · simp only [answer_eq]
  · split
    · simp only [answer_eq]
    · rfl

variable {s} {st : DevState} (reason : Nat)

theorem enter_same (h : s.dev.st = st) : s.enter st reason = s := if_pos h

/-- An arrival in another state, in its three parts. -/
theorem enter_eq (h : s.dev.st ≠ st) :
    s.enter st reason = arrivalAnswered (admissionEnded (moved s st reason) st) st := by
  unfold State.enter
  rw [if_neg h]
  rfl

/-- An arrival writes the device state, the tick that cell timing starts at, HOST, the admission and the cells' records. -/
theorem enter_frame : s.enter st reason = { s with
    dev := (s.enter st reason).dev, time := (s.enter st reason).time, host := (s.enter st reason).host, cfg := (s.enter st reason).cfg,
    cells := (s.enter st reason).cells } := by
  by_cases h : s.dev.st = st
  · rw [enter_same reason h]
  · rw [enter_eq reason h, arrivalAnswered_eq, admissionEnded_eq, moved_eq]

/-- The device state after an arrival. -/
theorem enter_dev (h : s.dev.st ≠ st) : (s.enter st reason).dev = { s.dev with
    st := st, safeReason := if st = .safe then reason else 0, maint := if st = .maintenance then s.dev.maint else .none } := by
  rw [enter_eq reason h, arrivalAnswered_eq, admissionEnded_eq, moved_eq]

/-- Cell timing starts at the exit from VERIFY alone (R207). -/
theorem enter_time (h : s.dev.st ≠ .verify) : (s.enter st reason).time = s.time := by
  by_cases e : s.dev.st = st
  · rw [enter_same reason e]
  · rw [enter_eq reason e, arrivalAnswered_eq, admissionEnded_eq, moved_eq]
    exact if_neg h

/-- Only LATCHED ends an admission. -/
theorem enter_cfg (h : st ≠ .latched ∨ s.cfg.admission = none) : (s.enter st reason).cfg = s.cfg := by
  by_cases e : s.dev.st = st
  · rw [enter_same reason e]
  · have k : (moved s st reason).cfg = s.cfg := by rw [moved_eq]
    rw [enter_eq reason e, arrivalAnswered_eq]
    unfold admissionEnded
    rw [if_neg (by rw [k]; rintro ⟨h1, h2⟩; rcases h with h | h; exact h h1; rw [h] at h2; exact absurd h2 (by nofun))]
    exact k

/-- Only the end of RUN changes the cells. -/
theorem enter_cells (h : s.dev.st ≠ .run) : (s.enter st reason).cells = s.cells := by
  by_cases e : s.dev.st = st
  · rw [enter_same reason e]
  · rw [enter_eq reason e, arrivalAnswered_eq, admissionEnded_eq, moved_eq]
    exact if_neg h

theorem enter_endShadows (h : s.dev.st = .run) (e : st ≠ .run) : (s.enter st reason).cells = s.endShadows.cells := by
  rw [enter_eq reason (by rw [h]; exact e.symm), arrivalAnswered_eq, admissionEnded_eq, moved_eq]
  exact if_pos h

/-- An arrival answers requests that wait, and sets an event bit; the rest of HOST is as it was. -/
theorem enter_host : (s.enter st reason).host = { s.host with
    waiting := (s.enter st reason).host.waiting, rsp := (s.enter st reason).host.rsp, evState := (s.enter st reason).host.evState } := by
  by_cases h : s.dev.st = st
  · rw [enter_same reason h]
  · have k : (moved s st reason).host = { s.host with evState := (moved s st reason).host.evState } := by
      rw [moved_eq]
      dsimp only
      split <;> rfl
    rw [enter_eq reason h, arrivalAnswered_eq, admissionEnded_eq, k]

/-- CONFIGURE, VERIFY, BOOT and RESET answer nothing. -/
theorem enter_unanswered (h : s.dev.st ≠ st) (h1 : st ∉ [DevState.run, .safe, .latched, .maintenance]) :
    (s.enter st reason).host.rsp = s.host.rsp ∧ (s.enter st reason).host.waiting = s.host.waiting := by
  simp only [List.mem_cons, List.not_mem_nil, or_false, not_or] at h1
  obtain ⟨hr, hs, hl, hm⟩ := h1
  rw [enter_eq reason h]
  unfold arrivalAnswered admissionEnded
  rw [if_neg (by rintro (h | h | h) <;> contradiction), if_neg hm, if_neg (fun e => hl e.1)]
  rw [moved_eq]
  dsimp only
  split <;> exact ⟨rfl, rfl⟩

end Sys2Proof.Occurrence

end

section
/-! PROOFS. The opening and the filling of a staging (R259). O11. -/

set_option Elab.async false

namespace Sys2Proof.Mailbox
open Sys2Proof.Machine Sys2Proof.Safety Sys2Proof.Laws Sys2Proof.Occurrence

variable {s : State} {r : Request} {q : List Request}

/-! ### Staging a container (R259) -/

/-- A payload of one field. -/
theorem leAt_all {n v : Nat} (hv : v < 256 ^ n) : leAt (leBytes n v) 0 n = v := leAt_last [] 0 n v rfl hv

end Sys2Proof.Mailbox

namespace Sys2Proof.Proofs
open Sys2Proof.Machine Sys2Proof.Safety Sys2Proof.Laws Sys2Proof.Mailbox Sys2Proof.Occurrence Sys2Proof.Steps

/-- An empty staging of n bytes in place of any other. -/
def stageEmptied (n : Nat) (s : State) : State :=
  { s.dropTranslations with cfg := { s.dropTranslations.cfg with staging := some ⟨n, [], false, []⟩ } }

/-- What CFG_STAGE_BEGIN does where a container may be staged. -/
def stageOpened (n : Nat) (s : State) : State :=
  let s := stageEmptied n s
  if s.dev.st = .safe ∨ s.dev.st = .maintenance then
    ({ s with dev := { s.dev with configFrom := some (s.dev.st, s.dev.maint, s.dev.safeReason, s.dev.s3InSafe) } } : State).enter .configure 0
  else s

theorem stageOpened_gives {s : State} (n : Nat) :
    let t := stageOpened n s
    t.host = { s.host with evState := t.host.evState } ∧
      t.cfg = { s.cfg with staging := some ⟨n, [], false, []⟩, trans := none } ∧ t.pairs = { s.pairs with stb := t.pairs.stb } ∧
      SameBut [.host, .cfg, .pairs, .dev] s t ∧
      (s.dev.st = .safe ∨ s.dev.st = .maintenance → t.dev.st = .configure ∧ t.dev.safeReason = 0) ∧
      (s.dev.st ≠ .safe → s.dev.st ≠ .maintenance → t.dev = s.dev) := by
  by_cases h : s.dev.st = .safe ∨ s.dev.st = .maintenance
  · have other : s.dev.st ≠ .configure := by rcases h with h | h <;> rw [h] <;> nofun
    have notRun : s.dev.st ≠ .run := by rcases h with h | h <;> rw [h] <;> nofun
    have notVerify : s.dev.st ≠ .verify := by rcases h with h | h <;> rw [h] <;> nofun
    unfold stageOpened
    dsimp only
    rw [if_pos (by exact h)]
    generalize hu : ({ stageEmptied n s with dev := { (stageEmptied n s).dev with configFrom := some ((stageEmptied n s).dev.st,
      (stageEmptied n s).dev.maint, (stageEmptied n s).dev.safeReason, (stageEmptied n s).dev.s3InSafe) } } : State) = u
    obtain ⟨hr, hw⟩ := enter_unanswered (s := u) (st := .configure) 0 (by rw [← hu]; exact other) (by decide)
    refine ⟨?_, ?_, ?_, ?_, ?_, ?_⟩
    · rw [enter_host, hr, hw, ← hu]
      rfl
    · rw [enter_cfg _ (.inl (by decide)), ← hu]
      rfl
    · rw [enter_frame, ← hu]
      rfl
    · rw [enter_frame, enter_time _ (by rw [← hu]; exact notVerify), enter_cells _ (by rw [← hu]; exact notRun), ← hu]
      intro p hp
      cases p
      case host | cfg | pairs | dev => simp at hp
      all_goals rfl
    · rw [enter_dev _ (by rw [← hu]; exact other)]
      exact fun _ => ⟨rfl, rfl⟩
    · exact fun h1 h2 => absurd h (not_or.2 ⟨h1, h2⟩)
  · unfold stageOpened
    dsimp only
    rw [if_neg (by exact h)]
    refine ⟨rfl, rfl, rfl, fun p hp => ?_, fun k => absurd k h, fun _ _ => rfl⟩
    cases p
    case host | cfg | pairs | dev => simp at hp
    all_goals rfl

theorem cfgStageBegin_eq (s : State) : exec .cfgStageBegin s = .next (s.serve 0x30
    (fun r => lenIs 4 r && decide (leAt r.payload 0 4 ≤ maxContainer))
    (fun r s => if s.cfg.admission.isSome then s.respond r stBUSY_RETRY [] else (stageOpened (leAt r.payload 0 4) s).respond r stOK [])) := rfl

theorem stageBegin_served {s : State} {r : Request} {q : List Request} {n : Nat} (h : Served 0x30 r q s) (hn : n ≤ 8915168)
    (hp : r.payload = leBytes 4 n) : exec .cfgStageBegin s = .next
      (if s.cfg.admission.isSome then answered r q stBUSY_RETRY [] s else (stageOpened n (popped q s)).respond r stOK []) := by
  have h0 : leAt r.payload 0 4 = n := by rw [hp, leAt_all (by omega)]
  have form : (lenIs 4 r && decide (leAt r.payload 0 4 ≤ maxContainer)) = true := by
    rw [h0]
    simp [lenIs, hp, maxContainer, hn]
  have hq : (stageOpened n (popped q s)).host.queue = q := by
    rw [(stageOpened_gives (s := popped q s) n).1]
    rfl
  rw [cfgStageBegin_eq, serve_queue _ h form]
  · rw [h0]
    rfl
  · rw [h0]
    split
    · rfl
    · exact hq

/-- CFG_STAGE_DATA on what is staged. -/
def stageFilled (off : Nat) (data : List Byte) (r : Request) (s : State) : State :=
  if s.cfg.admission.isSome then s.respond r stBUSY_RETRY []
  else match s.cfg.staging with
    | none => s.respond r stNOT_STAGED []
    | some t =>
      if t.ended then s.respond r stWRONG_STATE []
      else if t.length < off + data.length then s.respond r stBAD_FORMAT []
      else ({ s with cfg := { s.cfg with staging := some { t with mem := stageWrite t.mem off data } } } : State).respond r stOK []

theorem stageFilled_queue (off : Nat) (data : List Byte) (r : Request) (s : State) : (stageFilled off data r s).host.queue = s.host.queue := by
  unfold stageFilled
  split
  · rfl
  split
  · rfl
  split
  · rfl
  split <;> rfl

theorem cfgStageData_eq (s : State) : exec .cfgStageData s = .next (s.serve 0x31
    (fun r => decide (9 ≤ r.payload.length) && decide (r.payload.length ≤ 4080) && allZero ((r.payload.drop 4).take 4))
    (fun r s => stageFilled (leAt r.payload 0 4) (r.payload.drop 8) r s)) := rfl

theorem stageData_served {s : State} {r : Request} {q : List Request} {off : Nat} {data : List Byte} (h : Served 0x31 r q s)
    (ho : off < 2 ^ 32) (h1 : 1 ≤ data.length) (h2 : data.length ≤ 4072) (hp : r.payload = leBytes 4 off ++ [0, 0, 0, 0] ++ data) :
    exec .cfgStageData s = .next (stageFilled off data r (popped q s)) := by
  have h0 : leAt r.payload 0 4 = off := by rw [hp, List.append_assoc, leAt_first 4 off _ (by omega)]
  have hd : r.payload.drop 8 = data := by
    rw [hp]
    exact List.drop_left' (by simp)
  have hz : (r.payload.drop 4).take 4 = [0, 0, 0, 0] := by
    rw [hp, List.append_assoc, List.drop_left' (leBytes_length 4 off)]
    rfl
  have form : (decide (9 ≤ r.payload.length) && decide (r.payload.length ≤ 4080) && allZero ((r.payload.drop 4).take 4)) = true := by
    rw [hz, hp]
    simp [allZero]
    omega
  rw [cfgStageData_eq, serve_queue (fun r s => stageFilled (leAt r.payload 0 4) (r.payload.drop 8) r s) h form (stageFilled_queue ..), h0, hd]

/-! ### The bytes of a staging -/

theorem mem_stageWrite {mem : List Host.Cell} {off : Nat} {data : List Byte} {c : Host.Cell} : c ∈ stageWrite mem off data ↔
    (c ∈ mem ∧ c.1 < off) ∨ (∃ k, ∃ h : k < data.length, c = (off + k, data[k])) ∨ (c ∈ mem ∧ off + data.length ≤ c.1) := by
  unfold stageWrite
  simp only [List.mem_append, List.mem_filter, decide_eq_true_eq, List.mem_map, or_assoc]
  refine or_congr_right (or_congr_left ⟨?_, ?_⟩)
  · rintro ⟨⟨b, k⟩, hm, rfl⟩
    obtain ⟨hk, e⟩ := List.mem_zipIdx' hm
    exact ⟨k, hk, by rw [e]⟩
  · rintro ⟨k, hk, rfl⟩
    exact ⟨(data[k], k), by simp [List.mem_zipIdx_iff_getElem?, hk], rfl⟩

/-- Settles O11: the outcomes of the two services, and the bytes of a staging once some have been written (`mem_stageWrite`). -/
theorem stagingOpensAndFills : Obligations.StagingOpensAndFills := by
  unfold Obligations.StagingOpensAndFills
  refine ⟨⟨?_, ?_⟩, ?_⟩
  · intro s r q n h hn hp
    have done := stageBegin_served h hn hp
    refine ⟨fun ha => by rw [done, if_pos ha], fun ha => ?_⟩
    rw [if_neg (by rw [ha]; nofun)] at done
    obtain ⟨hhost, hcfg, hpairs, other, entered, stayed⟩ := stageOpened_gives (s := popped q s) n
    refine ⟨_, done, (congrArg HostSt.queue hhost :), ?_, (congrArg HostSt.waiting hhost :), (congrArg ConfigSt.staging hcfg :),
      (congrArg ConfigSt.trans hcfg :), (congrArg ConfigSt.bank0 hcfg :), (congrArg ConfigSt.bank1 hcfg :),
      (congrArg ConfigSt.running hcfg :), (congrArg PairsSt.pairs hpairs :), fun p hp => ?_, entered, stayed⟩
    · show (stageOpened n (popped q s)).host.rsp ++ [r.response (stageOpened n (popped q s)).host.session stOK []] = _
      rw [hhost]
      rfl
    · have k := other p hp
      cases p
      case host | cfg | pairs | dev => simp at hp
      all_goals exact k
  · intro s r q off data h ho h1 h2 hp
    rw [stageData_served h ho h1 h2 hp]
    unfold stageFilled
    refine ⟨fun ha => by rw [if_pos (by exact ha)]; rfl, fun ha hs => ?_, fun x ha hs => ⟨fun he => ?_, fun he hl => ?_, fun he hl => ?_⟩⟩
    all_goals rw [if_neg (by simp [popped, ha])]
    all_goals have e : (popped q s).cfg.staging = s.cfg.staging := rfl
    all_goals rw [e, hs]
    · rfl
    · dsimp only
      rw [if_pos he]
      rfl
    · dsimp only
      rw [if_neg (by rw [he]; nofun), if_pos hl]
      rfl
    · dsimp only
      rw [if_neg (by rw [he]; nofun), if_neg (by omega)]
      rfl
  · intro mem off data sorted
    refine ⟨stageWrite_sorted off data sorted, fun k h => mem_stageWrite.2 (.inr (.inl ⟨k, h, rfl⟩)), fun c hc => ?_, fun n hn hl c hc => ?_⟩
    · rw [mem_stageWrite]
      constructor
      · rintro (⟨hm, -⟩ | ⟨k, hk, rfl⟩ | ⟨hm, -⟩)
        · exact hm
        · omega
        · exact hm
      · intro hm
        rcases hc with hc | hc
        · exact .inl ⟨hm, hc⟩
        · exact .inr (.inr ⟨hm, hc⟩)
    · rcases mem_stageWrite.1 hc with ⟨hm, -⟩ | ⟨k, hk, rfl⟩ | ⟨hm, -⟩
      · exact hn c hm
      · show off + k < n
        omega
      · exact hn c hm

end Sys2Proof.Proofs

end

section
/-! PROOFS. The end of a staging, and CFG_ABORT (R259, R272). O12. -/

set_option Elab.async false

namespace Sys2Proof.Mailbox
open Sys2Proof.Machine Sys2Proof.Safety Sys2Proof.Laws Sys2Proof.Occurrence

variable {s : State} {r : Request} {q : List Request}

/-! ### The end of a staging (R259, R272) -/

/-- CFG_STAGE_END once the trailer is the hash of the container. -/
def stageClosed (t : Staging) (trailer : List Byte) (r : Request) (s : State) : State :=
  let s : State := { s with cfg := { s.cfg with staging := some { t with ended := true, hash := trailer } } }
  if s.dev.st ≠ .run then s.respond r stOK []
  else if s.stbAvailable then s.startTranslations.respond r stOK []
  else s.refuseCfg r (refusal cNO_STANDBY kNone 0)

/-- CFG_STAGE_END on what is staged. -/
def stageEnded (r : Request) (s : State) : State :=
  match s.cfg.staging with
  | none => s.respond r stNOT_STAGED []
  | some t =>
    if t.ended then s.respond r stWRONG_STATE []
    else
      let bs := t.bytes
      if !t.full ∨ !headerOk bs t.length then s.refuseCfg r (refusal cFORMAT kNone 0)
      else
        let trailer := bs.drop (bs.length - 32)
        if trailer ≠ containerHash bs ∨ trailer ≠ r.payload then s.refuseCfg r (refusal cHASH kNone 0)
        else stageClosed t trailer r s

theorem cfgStageEnd_eq (s : State) : exec .cfgStageEnd s = .next (s.serve 0x32 (lenIs 32) stageEnded) := rfl

theorem stageEnded_queue (r : Request) (s : State) : (stageEnded r s).host.queue = s.host.queue := by
  unfold stageEnded
  split
  · rfl
  split
  · rfl
  dsimp only
  split
  · rfl
  split
  · rfl
  unfold stageClosed
  dsimp only
  split
  · rfl
  split <;> rfl

theorem stageEnd_served (h : Served 0x32 r q s) (hp : r.payload.length = 32) :
    exec .cfgStageEnd s = .next (stageEnded r (popped q s)) := by
  rw [cfgStageEnd_eq, serve_queue _ h (by simp [lenIs, hp]) (stageEnded_queue ..)]

/-! ### CFG_ABORT (row 11 of Table 2.3) -/

/-- The return from CONFIGURE. -/
def configureLeft (s : State) : State :=
  match s.dev.st, s.dev.configFrom with
  | .configure, some (st, m, reason, s3) =>
    let s := ({ s with dev := { s.dev with maint := m } } : State).enter st reason
    { s with dev := { s.dev with s3InSafe := s3 || s.dev.s3InSafe, configFrom := none } }
  | _, _ => s

/-- The staging and its translations discarded. -/
def unstaged (s : State) : State := { s.dropTranslations with cfg := { s.dropTranslations.cfg with staging := none } }

/-- CFG_ABORT where no commit is under way. -/
def stageDropped (s : State) : State := configureLeft (unstaged s)

theorem cfgAbort_eq (s : State) : exec .cfgAbort s = .next (s.serve 0x35 (lenIs 0) (fun r s =>
    if s.cfg.admission.isSome then s.respond r stBUSY_RETRY [] else (stageDropped s).respond r stOK [])) := rfl

theorem configureLeft_stays (h : s.dev.st ≠ .configure) : configureLeft s = s := by
  unfold configureLeft
  split
  · next e _ => exact absurd e h
  · rfl

/-- The return from CONFIGURE writes the device state and HOST. -/
theorem configureLeft_frame (ha : s.cfg.admission = none) : configureLeft s = { s with
    dev := (configureLeft s).dev, host := { s.host with
      waiting := (configureLeft s).host.waiting, rsp := (configureLeft s).host.rsp, evState := (configureLeft s).host.evState } } := by
  unfold configureLeft
  split
  · next st m reason s3 hst hf =>
    dsimp only
    generalize hu : ({ s with dev := { s.dev with maint := m } } : State) = u
    rw [enter_frame (s := u), enter_time _ (by rw [← hu, hst]; nofun), enter_cells _ (by rw [← hu, hst]; nofun),
      enter_cfg _ (.inr (by rw [← hu]; exact ha)), enter_host, ← hu]
  · rfl

theorem configureLeft_safe {m : Maint} {reason : Nat} {s3 : Bool} (h : s.dev.st = .configure)
    (hf : s.dev.configFrom = some (.safe, m, reason, s3)) :
    (configureLeft s).dev.st = .safe ∧ (configureLeft s).dev.safeReason = reason := by
  unfold configureLeft
  rw [h, hf]
  dsimp only
  rw [enter_dev _ (by rw [h]; nofun)]
  exact ⟨rfl, rfl⟩

end Sys2Proof.Mailbox

namespace Sys2Proof.Proofs
open Sys2Proof.Machine Sys2Proof.Safety Sys2Proof.Laws Sys2Proof.Mailbox Sys2Proof.Occurrence Sys2Proof.Steps

/-- Settles O12: the checks of CFG_STAGE_END in their order, and what CFG_ABORT discards. -/
theorem stagingEndsAndAborts : Obligations.StagingEndsAndAborts := by
  unfold Obligations.StagingEndsAndAborts
  constructor
  · intro s r q x h hp hx
    have staged : (popped q s).cfg.staging = some x := hx
    rw [stageEnd_served h hp]
    unfold stageEnded
    rw [staged]
    dsimp only
    refine ⟨fun he => ?_, fun he hl => ?_, fun he hl hh ht => ?_, fun he hl hh hr h1 h2 => ?_⟩
    · rw [if_pos he]
      rfl
    · rw [if_neg (by rw [he]; nofun), if_pos (.inl (by simp [Staging.full, hl]))]
      rfl
    · rw [if_neg (by rw [he]; nofun), if_neg (by simp [Staging.full, hl, hh]), if_pos (ht.imp Ne.symm Ne.symm)]
      rfl
    · rw [if_neg (by rw [he]; nofun), if_neg (by simp [Staging.full, hl, hh]), if_neg (by simp [h1, h2])]
      unfold stageClosed
      rw [if_pos (by exact hr), h2]
      rfl
  · intro s r q h hp
    have gone : ∀ ha : s.cfg.admission = none, stageDropped (popped q s) = { unstaged (popped q s) with
        dev := (stageDropped (popped q s)).dev, host := { (popped q s).host with
          waiting := (stageDropped (popped q s)).host.waiting, rsp := (stageDropped (popped q s)).host.rsp,
          evState := (stageDropped (popped q s)).host.evState } } := fun ha => configureLeft_frame (s := unstaged (popped q s)) ha
    have done : exec .cfgAbort s = .next (if s.cfg.admission.isSome then answered r q stBUSY_RETRY [] s
        else (stageDropped (popped q s)).respond r stOK []) := by
      rw [cfgAbort_eq, serve_queue _ h (by simp [lenIs, hp])]
      · rfl
      · split
        · rfl
        · next ha =>
          rw [gone (by simpa [popped] using ha)]
          rfl
    refine ⟨fun ha => by rw [done, if_pos ha], fun ha => ?_⟩
    rw [if_neg (by rw [ha]; nofun)] at done
    have g := gone ha
    refine ⟨_, done, ?_, ?_, ?_, ?_, ?_, ?_, fun p hp => ?_, fun m reason s3 hst hf => ?_, fun hst => ?_⟩
    · rw [g]
      rfl
    · rw [g]
      rfl
    · rw [g]
      rfl
    · rw [g]
      rfl
    · rw [g]
      rfl
    · rw [g]
      exact List.getLast?_concat ..
    · rw [g]
      cases p
      case host | cfg | pairs | dev => simp at hp
      all_goals rfl
    · exact configureLeft_safe (s := unstaged (popped q s)) hst hf
    · exact (congrArg State.dev (configureLeft_stays (s := unstaged (popped q s)) hst) :)

end Sys2Proof.Proofs

end

section
/-! PROOFS. CFG_CHECK, CFG_COMMIT and the authorisation (R176, R259, R261). O13. -/

set_option Elab.async false

namespace Sys2Proof.Mailbox
open Sys2Proof.Machine Sys2Proof.Safety Sys2Proof.Laws

variable {s : State} {r : Request} {q : List Request}

/-! ### CFG_CHECK and CFG_COMMIT (R176, R259) -/

/-- Outside RUN, and with no admission under way, nothing is busy. -/
theorem liveBusy_none (h : s.dev.st ≠ .run) (ha : s.cfg.admission = none) : s.liveBusy = none := by
  unfold State.liveBusy
  rw [if_neg (by rw [ha]; nofun), if_pos h]

/-- Without an injected fault the two translators agree. -/
theorem judge_agrees (bs : List Byte) (chk : CheckEnv) (env : AdmitEnv) : (judge bs chk env none none).2.1 = false := by
  unfold judge
  split
  · rfl
  dsimp only
  split
  · simp [verdictOf]
  · rfl

/-- A check that came as far as admission keeps a draft of the certificate. -/
def drafted (bs : List Byte) (adm : Option Admitted) (s : State) : State :=
  match adm with
  | some a => if a.refusal.isSome && a.cells.isEmpty && a.outputs.isEmpty then s
    else { s with cfg := { s.cfg with draft := s.draftCert (readContainer bs) a } }
  | none => s

/-- The answer of a check. -/
def checkTold (refused : Option CfgRefusal) (r : Request) (s : State) : State :=
  match refused with
  | some x => s.refuseCfg r x
  | none => s.respond r stOK (leBytes 4 s.cfg.draft.length)

/-- CFG_CHECK of an ended staging. -/
def checkEnded (aFault bFault : Option Verdict) (bs : List Byte) (r : Request) (s : State) : State :=
  let (ref_, diverge, adm) := judge bs s.checkEnv (s.stagedEnv bs (s.dev.st == .run)) aFault bFault
  let s := if diverge then s.event bSUP 8 0 else s
  let s := drafted bs adm s
  checkTold ref_ r s

/-- CFG_CHECK. -/
def checkAnswered (aFault bFault : Option Verdict) (r : Request) (s : State) : State :=
  match s.liveBusy, s.cfg.staging with
  | some (st, pl, s), _ => s.respond r st pl
  | none, none => s.respond r stNOT_STAGED []
  | none, some t => if !t.ended then s.respond r stNOT_STAGED [] else checkEnded aFault bFault t.bytes r s

theorem cfgCheck_eq (a b : Option Verdict) (s : State) : exec (.cfgCheck a b) s = .next (s.serve 0x33 (lenIs 0) (checkAnswered a b)) := rfl

/-- CFG_COMMIT. -/
def commitAnswered (r : Request) (s : State) : State :=
  match s.liveBusy, s.cfg.staging with
  | some (st, pl, s), _ => s.respond r st pl
  | none, none => s.respond r stNOT_STAGED []
  | none, some t =>
    if !t.ended then s.respond r stNOT_STAGED []
    else if t.hash ≠ r.payload.take 32 then s.refuseCfg r (refusal cHASH kNone 0)
    else if !s.authorised t.hash (leAt r.payload 32 4 == 1) (r.payload.drop 36) then s.respond r stNOT_AUTHORISED []
    else if s.dev.st ≠ .run ∧ s.dev.st ≠ .configure then s.respond r stWRONG_STATE []
    else
      let live := s.dev.st == .run
      let bs := t.bytes
      let a : Admission := ⟨r.tag, live, bs, s.stagedEnv bs live, s.checkEnv⟩
      { s.wait r .commit with cfg := { s.cfg with admission := some a } }

theorem cfgCommit_eq (s : State) : exec .cfgCommit s = .next (s.serve 0x34 (fun r => lenIs 68 r && decide (leAt r.payload 32 4 < 2) &&
    (leAt r.payload 32 4 == 1 || allZero (r.payload.drop 36))) commitAnswered) := rfl

theorem drafted_eq (bs : List Byte) (adm : Option Admitted) (s : State) :
    drafted bs adm s = { s with cfg := { s.cfg with draft := (drafted bs adm s).cfg.draft } } := by
  unfold drafted
  cases adm with
  | none => rfl
  | some a =>
    dsimp only
    split <;> rfl

/-- Where the two translators agree, CFG_CHECK keeps a draft and answers. -/
theorem checkEnded_agreed (bs : List Byte) (r : Request) (s : State) :
    checkEnded none none bs r s = checkTold (judge bs s.checkEnv (s.stagedEnv bs (s.dev.st == .run)) none none).1 r
      (drafted bs (judge bs s.checkEnv (s.stagedEnv bs (s.dev.st == .run)) none none).2.2 s) := by
  have agrees := judge_agrees bs s.checkEnv (s.stagedEnv bs (s.dev.st == .run))
  unfold checkEnded
  generalize judge bs s.checkEnv (s.stagedEnv bs (s.dev.st == .run)) none none = v at agrees ⊢
  obtain ⟨refused, diverge, adm⟩ := v
  obtain rfl : diverge = false := agrees
  rfl

theorem checkTold_queue (refused : Option CfgRefusal) (r : Request) (s : State) : (checkTold refused r s).host.queue = s.host.queue := by
  unfold checkTold
  split <;> rfl

theorem cfgCheck_served (h : Served 0x33 r q s) (hp : r.payload = []) (hst : s.dev.st ≠ .run) (ha : s.cfg.admission = none) :
    exec (.cfgCheck none none) s = .next (match s.cfg.staging with
      | none => answered r q stNOT_STAGED [] s
      | some t => if !t.ended then answered r q stNOT_STAGED [] s else checkEnded none none t.bytes r (popped q s)) := by
  have e : checkAnswered none none r (popped q s) = match s.cfg.staging with
      | none => answered r q stNOT_STAGED [] s
      | some t => if !t.ended then answered r q stNOT_STAGED [] s else checkEnded none none t.bytes r (popped q s) := by
    unfold checkAnswered
    rw [liveBusy_none (s := popped q s) hst ha]
    cases hs : s.cfg.staging <;> simp only [popped, hs] <;> rfl
  rw [cfgCheck_eq, serve_queue _ h (by simp [lenIs, hp]), e]
  rw [e]
  split
  · rfl
  split
  · rfl
  · rw [checkEnded_agreed, checkTold_queue, drafted_eq]
    rfl

/-- A payload of CFG_COMMIT: the hash, the flags and the authorisation. -/
theorem commit_payload {hash auth : List Byte} {fl : Nat} (hh : hash.length = 32) (ha : auth.length = 32) (hf : fl < 2)
    (hz : fl = 0 → auth = zeros 32) (hp : r.payload = hash ++ leBytes 4 fl ++ auth) :
    leAt r.payload 32 4 = fl ∧ r.payload.take 32 = hash ∧ r.payload.drop 36 = auth ∧
      (lenIs 68 r && decide (leAt r.payload 32 4 < 2) && (leAt r.payload 32 4 == 1 || allZero (r.payload.drop 36))) = true := by
  have h1 : leAt r.payload 32 4 = fl := by
    rw [hp, List.append_assoc, leAt_next hash auth 32 4 fl hh (by omega)]
  have h2 : r.payload.take 32 = hash := by
    rw [hp, List.append_assoc, List.take_left' hh]
  have h3 : r.payload.drop 36 = auth := by
    rw [hp, List.drop_left' (by simp [hh])]
  refine ⟨h1, h2, h3, ?_⟩
  rw [h1, h3, lenIs, hp]
  rcases (by omega : fl = 0 ∨ fl = 1) with rfl | rfl
  · rw [hz rfl]
    simp [hh, allZero, zeros]
  · simp [hh, ha]

theorem cfgCommit_served {hash auth : List Byte} {fl : Nat} (h : Served 0x34 r q s) (hst : s.dev.st = .configure)
    (hadm : s.cfg.admission = none) (hh : hash.length = 32) (ha : auth.length = 32) (hf : fl < 2)
    (hz : fl = 0 → auth = zeros 32) (hp : r.payload = hash ++ leBytes 4 fl ++ auth) :
    exec .cfgCommit s = .next (match s.cfg.staging with
      | none => answered r q stNOT_STAGED [] s
      | some t => if !t.ended then answered r q stNOT_STAGED [] s
        else if t.hash ≠ hash then answered r q cHASH (refusal cHASH kNone 0).payload s
        else if !s.authorised t.hash (fl == 1) auth then answered r q stNOT_AUTHORISED [] s
        else { waits r q .commit s with
          cfg := { s.cfg with admission := some ⟨r.tag, false, t.bytes, s.stagedEnv t.bytes false, s.checkEnv⟩ } }) := by
  obtain ⟨h1, h2, h3, form⟩ := commit_payload hh ha hf hz hp
  have e : commitAnswered r (popped q s) = match s.cfg.staging with
      | none => answered r q stNOT_STAGED [] s
      | some t => if !t.ended then answered r q stNOT_STAGED [] s
        else if t.hash ≠ hash then answered r q cHASH (refusal cHASH kNone 0).payload s
        else if !s.authorised t.hash (fl == 1) auth then answered r q stNOT_AUTHORISED [] s
        else { waits r q .commit s with
          cfg := { s.cfg with admission := some ⟨r.tag, false, t.bytes, s.stagedEnv t.bytes false, s.checkEnv⟩ } } := by
    unfold commitAnswered
    rw [liveBusy_none (s := popped q s) (by rw [popped, hst]; nofun) hadm, h1, h2, h3]
    cases hs : s.cfg.staging with
    | none =>
      simp only [popped, hs]
      rfl
    | some t =>
      have e2 : (popped q s).dev.st = .configure := hst
      simp only [show (popped q s).cfg.staging = some t from hs, hs, e2, ne_eq, not_true_eq_false, and_false, if_false]
      rfl
  rw [cfgCommit_eq, serve_queue _ h form, e]
  rw [e]
  split
  · rfl
  split
  · rfl
  split
  · rfl
  split <;> rfl

end Sys2Proof.Mailbox

namespace Sys2Proof.Proofs
open Sys2Proof.Machine Sys2Proof.Safety Sys2Proof.Laws Sys2Proof.Mailbox

/-- Settles O13: CFG_CHECK answers what `judge` finds, CFG_COMMIT compares in its order, and the authorisation is by the state of the key. -/
theorem checkAndCommitJudge : Obligations.CheckAndCommitJudge := by
  unfold Obligations.CheckAndCommitJudge
  refine ⟨⟨?_, ?_⟩, ?_⟩
  · intro s r q h hp hst ha
    have done := cfgCheck_served h hp hst ha
    refine ⟨fun he => ?_, fun x hx he => ?_⟩
    · rw [done]
      cases hs : s.cfg.staging with
      | none => rfl
      | some t =>
        have : t.ended = false := by simpa [stagingEnded, hs] using he
        simp only [this]
        rfl
    · rw [hx] at done
      dsimp only at done
      have live : (s.dev.st == .run) = false := by simp [hst]
      rw [if_neg (by rw [he]; nofun), checkEnded_agreed] at done
      intro v
      have hv : judge x.bytes (popped q s).checkEnv ((popped q s).stagedEnv x.bytes ((popped q s).dev.st == .run)) none none = v := by
        rw [show ((popped q s).dev.st == .run) = false from live]
        rfl
      rw [hv] at done
      have kept := drafted_eq x.bytes v.2.2 (popped q s)
      generalize drafted x.bytes v.2.2 (popped q s) = u at done kept
      cases hr : v.1 with
      | some e =>
        rw [hr] at done
        refine ⟨_, done, ?_, fun p hp => ?_, ?_, ?_, nofun⟩
        · show u.host.queue = q
          rw [kept]
          rfl
        · rw [kept]
          cases p
          case host | cfg => simp at hp
          all_goals rfl
        · rw [kept]
          rfl
        · rintro _ ⟨⟩
          rw [kept]
          rfl
      | none =>
        rw [hr] at done
        refine ⟨_, done, ?_, fun p hp => ?_, ?_, nofun, fun _ => ?_⟩
        · show u.host.queue = q
          rw [kept]
          rfl
        · rw [kept]
          cases p
          case host | cfg => simp at hp
          all_goals rfl
        · rw [kept]
          rfl
        · rw [kept]
          rfl
  · intro s r q hash auth fl h hst hadm hh ha hf hz hp
    rw [cfgCommit_served h hst hadm hh ha hf hz hp]
    refine ⟨fun he => ?_, fun x hx he => ?_⟩
    · cases hs : s.cfg.staging with
      | none => rfl
      | some t =>
        have : t.ended = false := by simpa [stagingEnded, hs] using he
        simp only [this]
        rfl
    · simp only [hx, he, Bool.not_true, Bool.false_eq_true, if_false]
      refine ⟨fun h1 => by rw [if_pos h1], fun h1 h2 => ?_, fun h1 h2 => ?_⟩
      · rw [if_neg (by simpa using h1), h1, h2]
        rfl
      · rw [if_neg (by simpa using h1), h1, h2]
        rfl
  · intro s hash code auth right
    unfold State.authorised
    refine ⟨fun h => ?_, fun h => ?_, fun h => ?_⟩
    · simp [h]
    · simp [h, right]
    · simp [h, right]

end Sys2Proof.Proofs

end

section
/-! PROOFS. `SameBut`: its composition, and one rule for each part. -/

set_option Elab.async false

namespace Sys2Proof.Safety
open Sys2Proof.Machine

/-! ### `SameBut`: composition, and one rule for each part -/

theorem SameBut.refl (ps : List Part) (s : State) : SameBut ps s s := fun p _ => by cases p <;> rfl

theorem Part.same_trans {s t u : State} {p : Part} (h : p.same s t) (k : p.same t u) : p.same s u := by
  cases p <;> exact Eq.trans k h

theorem SameBut.trans {ps : List Part} {s t u : State} (h : SameBut ps s t) (k : SameBut ps t u) : SameBut ps s u :=
  fun p hp => Part.same_trans (h p hp) (k p hp)

theorem SameBut.mono {ps qs : List Part} {s t : State} (h : SameBut ps s t) (hq : ∀ p ∈ ps, p ∈ qs := by decide) : SameBut qs s t :=
  fun p hp => h p (mt (hq p) hp)

theorem SameBut.ite {ps : List Part} {s t u : State} {c : Prop} [Decidable c] (h : SameBut ps s t) (k : SameBut ps s u) :
    SameBut ps s (if c then t else u) := by
  split <;> assumption

theorem SameBut.foldl {ps : List Part} {α : Type} {f : State → α → State} (hf : ∀ s a, SameBut ps s (f s a)) (l : List α) (s : State) :
    SameBut ps s (l.foldl f s) :=
  List.foldlRecOn (motive := SameBut ps s) l f (.refl ps s) fun t ht a _ => ht.trans (hf t a)

variable (s : State)

theorem sameBut_time (x : TimeSt) : SameBut [.time] s { s with time := x } := fun p hp => by
  cases p
  case time => simp at hp
  all_goals rfl

theorem sameBut_dev (x : DevSt) : SameBut [.dev] s { s with dev := x } := fun p hp => by
  cases p
  case dev => simp at hp
  all_goals rfl

theorem sameBut_host (x : HostSt) : SameBut [.host] s { s with host := x } := fun p hp => by
  cases p
  case host => simp at hp
  all_goals rfl

theorem sameBut_hs (x : HostSigSt) : SameBut [.hs] s { s with hs := x } := fun p hp => by
  cases p
  case hs => simp at hp
  all_goals rfl

theorem sameBut_faults (x : FaultSt) : SameBut [.faults] s { s with faults := x } := fun p hp => by
  cases p
  case faults => simp at hp
  all_goals rfl

theorem sameBut_pairs (x : PairsSt) : SameBut [.pairs] s { s with pairs := x } := fun p hp => by
  cases p
  case pairs => simp at hp
  all_goals rfl

theorem sameBut_cfg (x : ConfigSt) : SameBut [.cfg] s { s with cfg := x } := fun p hp => by
  cases p
  case cfg => simp at hp
  all_goals rfl

theorem sameBut_params (x : ParamSt) : SameBut [.params] s { s with params := x } := fun p hp => by
  cases p
  case params => simp at hp
  all_goals rfl

theorem sameBut_cells (x : CellsSt) : SameBut [.cells] s { s with cells := x } := fun p hp => by
  cases p
  case cells => simp at hp
  all_goals rfl

theorem sameBut_field (x : FieldSt) : SameBut [.field] s { s with field := x } := fun p hp => by
  cases p
  case field => simp at hp
  all_goals rfl

theorem sameBut_weir (x : WeirSt) : SameBut [.weir] s { s with weir := x } := fun p hp => by
  cases p
  case weir => simp at hp
  all_goals rfl

theorem sameBut_oxb (x : OxbSt) : SameBut [.oxb] s { s with oxb := x } := fun p hp => by
  cases p
  case oxb => simp at hp
  all_goals rfl

theorem sameBut_ros (x : RosSt) : SameBut [.ros] s { s with ros := x } := fun p hp => by
  cases p
  case ros => simp at hp
  all_goals rfl

theorem sameBut_pwr (x : PwrSt) : SameBut [.pwr] s { s with pwr := x } := fun p hp => by
  cases p
  case pwr => simp at hp
  all_goals rfl

theorem sameBut_clk (x : ClkSt) : SameBut [.clk] s { s with clk := x } := fun p hp => by
  cases p
  case clk => simp at hp
  all_goals rfl

theorem sameBut_rif (x : RifSt) : SameBut [.rif] s { s with rif := x } := fun p hp => by
  cases p
  case rif => simp at hp
  all_goals rfl

theorem sameBut_bundles (x : BundleSt) : SameBut [.bundles] s { s with bundles := x } := fun p hp => by
  cases p
  case bundles => simp at hp
  all_goals rfl

theorem sameBut_mems (x : MemSt) : SameBut [.mems] s { s with mems := x } := fun p hp => by
  cases p
  case mems => simp at hp
  all_goals rfl

theorem sameBut_jtag (x : JtagSt) : SameBut [.jtag] s { s with jtag := x } := fun p hp => by
  cases p
  case jtag => simp at hp
  all_goals rfl

theorem sameBut_pending (x : List Instr) : SameBut [.pending] s { s with pending := x } := fun p hp => by
  cases p
  case pending => simp at hp
  all_goals rfl

theorem sameBut_free (x : Nat) : SameBut [.free] s { s with free := x } := fun p hp => by
  cases p
  case free => simp at hp
  all_goals rfl

end Sys2Proof.Safety

end

section
/-! PROOFS. States in which nothing is live: the end of a live commit, and the arrival in VERIFY. -/

set_option Elab.async false

namespace Sys2Proof.Occurrence
open Sys2Proof.Machine Sys2Proof.Safety Sys2Proof.Laws

variable {s t : State}

/-! ### Entries of a table -/

/-- An entry that is read stands in the table. -/
theorem tab_mem {α : Type} {t : Tab α} {i : Nat} {v : α} (h : t.get? i = some v) : (i, v) ∈ t := by
  induction t with
  | nil => exact absurd h nofun
  | cons e t ih =>
    obtain ⟨k, w⟩ := e
    unfold Tab.get? at h
    split at h
    · next hk =>
      subst hk
      rw [Option.some.inj h]
      exact List.mem_cons_self
    · exact List.mem_cons_of_mem _ (ih h)

/-- Reading an entry after every entry has been changed. -/
theorem tab_get_map {α β : Type} (t : Tab α) (f : α → β) (i : Nat) : Tab.get? (t.map fun e => (e.1, f e.2)) i = (t.get? i).map f := by
  induction t with
  | nil => rfl
  | cons e t ih =>
    obtain ⟨k, w⟩ := e
    simp only [List.map_cons, Tab.get?]
    split
    · rfl
    · exact ih

theorem tab_getD_map {α β : Type} (t : Tab α) (f : α → β) (i : Nat) (d : α) :
    Tab.getD (t.map fun e => (e.1, f e.2)) i (f d) = f (t.getD i d) := by
  unfold Tab.getD
  rw [tab_get_map]
  cases t.get? i <;> rfl

/-! ### A state in which nothing is live -/

theorem clear_dead (h : s.faults.live = []) (b i inst who : Nat) : s.clear b i inst who = s := clear_absent (by rw [h]; rfl)

theorem rejudge_dead (h : s.faults.live = []) : s.rejudge = s := by
  unfold State.rejudge
  rw [h]
  rfl

theorem setView_sameBut (s : State) (sd : Side) (c : Nat) (v : View) : SameBut [.field] s (s.setView sd c v) := sameBut_field _ _

theorem setPairView_sameBut (s : State) (sd : Side) (role c : Nat) (p : PairView) : SameBut [.field] s (s.setPairView sd role c p) :=
  sameBut_field _ _

theorem setCoupler_sameBut (s : State) (c : Nat) (d : Coupler) : SameBut [.field] s (s.setCoupler c d) := sameBut_field _ _

theorem restartCoupler_sameBut (s : State) (c k : Nat) : SameBut [.field] s (s.restartCoupler c k) :=
  ((setCoupler_sameBut _ _ _).trans (setView_sameBut _ _ _ _)).trans (setView_sameBut _ _ _ _)

theorem setCov_sameBut (s : State) (c : Nat) (v : Coverage) : SameBut [.rif] s (s.setCov c v) := sameBut_rif _ _

/-- Nothing becomes live where the faults are as they were. -/
theorem dead_of {ps : List Part} (hp : Part.faults ∉ ps) (hs : s.faults.live = []) (h : SameBut ps s t) : t.faults.live = [] :=
  (congrArg FaultSt.live (h .faults hp)).trans hs

/-- Without a live instance, the end of a channel's change writes its views, its coupler and its coverage alone. -/
theorem changeChannel_dead (h : s.faults.live = []) (c : Nat) : SameBut [.field, .rif] s (s.changeChannel c) := by
  unfold State.changeChannel
  extract_lets +onlyGivenNames new old s1 gone one s2 s3
  have h1 : SameBut [.field] s s1 := restartCoupler_sameBut s c 2
  have hone : ∀ (u : State) (sd : Side), u.faults.live = [] → SameBut [.field] u (one u sd) := by
    intro u sd hu
    refine List.foldlRecOn (motive := SameBut [.field] u) _ _
      ((setView_sameBut _ _ _ _).trans (.foldl (fun _ _ => setPairView_sameBut _ _ _ _ _) _ _)) fun t ht a _ => ?_
    rw [clear_dead (dead_of (by decide) hu ht)]
    exact ht
  have ha := h1.trans (hone _ .a (dead_of (by decide) h h1))
  have h2 : SameBut [.field] s s2 := ha.trans (hone _ .b (dead_of (by decide) h ha))
  split
  · exact h2.mono
  · have h3 : SameBut [.field, .rif] s s3 := h2.mono.trans (setCov_sameBut _ _ _).mono
    have dead := dead_of (by decide) h h3
    rw [clear_dead dead, clear_dead dead]
    exact h3

theorem closeRecord_sameBut (s : State) (o : OpenRec) (fl : Nat) : SameBut [.oxb, .faults] s (s.closeRecord o fl) := by
  unfold State.closeRecord State.waitForSlot State.flushQueue
  refine .ite (.ite (.refl _ _) (sameBut_oxb _ _).mono) ?_
  have done : ∀ (x : OxbSt) (f : FaultSt), SameBut [.oxb, .faults] s { s with oxb := x, faults := f } := fun x f =>
    (sameBut_oxb s x).mono.trans (sameBut_faults _ f).mono
  exact .ite ((done _ _).trans (sameBut_oxb _ _).mono) (done _ _)

theorem closeRecord_dead (h : s.faults.live = []) (o : OpenRec) (fl : Nat) : (s.closeRecord o fl).faults.live = [] := by
  unfold State.closeRecord State.waitForSlot State.flushQueue
  split
  · split <;> exact h
  · extract_lets code mine n r done key o2 f2 s1 n2
    have h1 : s1.faults.live = [] := congrArg (List.map _) h
    clear_value s1 n2
    split <;> exact h1

theorem marker_sameBut (s : State) (code inst : Nat) (lo hi : Int) : SameBut [.oxb, .faults] s (s.marker code inst lo hi) :=
  (sameBut_oxb _ _).mono.trans (closeRecord_sameBut _ _ _)

theorem marker_dead (h : s.faults.live = []) (code inst : Nat) (lo hi : Int) : (s.marker code inst lo hi).faults.live = [] :=
  closeRecord_dead (by exact h) _ _

/-- A new issue of the certificate changes that alone. -/
theorem reissueCert_eq (s : State) : s.reissueCert = { s with
    cfg := { s.cfg with bank0 := s.reissueCert.cfg.bank0, bank1 := s.reissueCert.cfg.bank1 }, free := s.reissueCert.free } := by
  unfold State.reissueCert
  split
  · rfl
  dsimp only
  split
  · rfl
  · dsimp only [ConfigSt.setBank]
    split <;> rfl

theorem reissueCert_sameBut (s : State) : SameBut [.cfg, .free] s s.reissueCert := by
  rw [reissueCert_eq]
  intro p hp
  cases p
  case cfg | free => simp at hp
  all_goals rfl

/-- Where no evaluator is retired, every line has its place. -/
theorem placeRetired_eq (h : ∀ p ∈ [2, 3, 4, 5], (s.pair p).retired = false) : s.placeRetired = s := by
  have has : ∀ p ∈ [2, 3, 4, 5], s.hasEvaluator p = true := fun p hp => by simp [State.hasEvaluator, h p hp]
  refine List.foldlRecOn (motive := (· = s)) _ _ rfl fun t ht p hp => ?_
  subst ht
  split
  · rfl
  · exact if_pos (.inl (has p hp))

/-- The tick of a commit, where nothing is live and no evaluator is retired. -/
theorem lastTick_dead (h : s.faults.live = []) (hr : ∀ p ∈ [2, 3, 4, 5], (s.pair p).retired = false) (l : LiveCommit) :
    let t := s.lastTick l
    SameBut [.cfg, .params, .oxb, .faults, .free] s t ∧ t.faults.live = [] ∧ t.cfg.running = s.cfg.running ∧
      t.cfg.active = s.cfg.inactive ∧ t.cfg.live = some { l with ticked := true, early := [] } := by
  unfold State.lastTick State.tickCommit
  extract_lets +onlyGivenNames i bank s1 c s2 s3 s4
  have h1 : SameBut [.params] s s1 := sameBut_params _ _
  have h2 : SameBut [.cfg, .params, .oxb, .faults, .free] s s2 := h1.mono.trans (sameBut_cfg _ _).mono
  have live2 : s2.faults.live = [] := h
  have h3 : SameBut [.cfg, .params, .oxb, .faults, .free] s s3 := h2.trans (marker_sameBut _ _ _ _ _).mono
  have live3 : s3.faults.live = [] := marker_dead live2 _ _ _ _
  have cfg3 : s3.cfg = s2.cfg := marker_sameBut _ _ _ _ _ .cfg (by decide)
  have e4 : s4 = s3 ∨ s4 = s3.reissueCert := by
    dsimp only [s4]
    split
    · exact .inl rfl
    · exact .inr rfl
  have h4 : SameBut [.cfg, .params, .oxb, .faults, .free] s s4 ∧ s4.faults.live = [] ∧ s4.cfg.running = s3.cfg.running ∧
      s4.cfg.active = s3.cfg.active ∧ s4.cfg.live = s3.cfg.live := by
    rcases e4 with e | e
    · rw [e]
      exact ⟨h3, live3, rfl, rfl, rfl⟩
    · rw [e]
      refine ⟨h3.trans (reissueCert_sameBut s3).mono, ?_⟩
      rw [reissueCert_eq]
      exact ⟨live3, rfl, rfl, rfl⟩
  obtain ⟨k, live4, run4, act4, liv4⟩ := h4
  have e5 : s4.rejudge.placeRetired = s4 := by
    rw [rejudge_dead live4]
    exact placeRetired_eq fun p hp => by
      have e : s4.pair p = s.pair p := congrArg (fun x : PairsSt => x.pairs.getD p {}) (k .pairs (by decide))
      rw [e]
      exact hr p hp
  have cfg2 : s2.cfg.running = s.cfg.running ∧ s2.cfg.active = s.cfg.inactive ∧ s2.cfg.live = some { l with ticked := true, early := [] } := by
    refine ⟨?_, rfl, rfl⟩
    dsimp only [s2, c, ConfigSt.setBank]
    split <;> rfl
  rw [e5]
  dsimp only
  rw [run4, act4, liv4, cfg3]
  exact ⟨k, live4, cfg2⟩

/-- The lines that a configuration gives have no record and no version of their own. -/
theorem linesFor_plain (s : State) (c : Container) (n : Nat) :
    ((s.linesFor c).getD n {}).record = none ∧ ((s.linesFor c).getD n {}).ver = 0 ∧ ((s.linesFor c).getD n {}).verB = 0 := by
  have plain : ∀ x, (s.linesFor c).get? n = some x → x.record = none ∧ x.ver = 0 ∧ x.verB = 0 := by
    intro x hx
    have hm := tab_mem hx
    unfold State.linesFor at hm
    simp only [List.mem_map] at hm
    obtain ⟨k, -, e⟩ := hm
    obtain ⟨rfl, rfl⟩ := Prod.mk.inj e
    exact ⟨rfl, rfl, rfl⟩
  unfold Tab.getD
  cases hg : (s.linesFor c).get? n with
  | none => exact ⟨rfl, rfl, rfl⟩
  | some x => exact plain x hg

/-- The end of a live commit before its time, where nothing is live and no evaluator is retired (R289). -/
theorem closeLive_dead {l : LiveCommit} (hl : s.cfg.live = some l) (h : s.faults.live = [])
    (hr : ∀ p ∈ [2, 3, 4, 5], (s.pair p).retired = false) :
    let t := s.closeLive
    SameBut [.cfg, .params, .oxb, .faults, .free, .field, .rif, .cells, .pairs] s t ∧ t.cfg.live = none ∧ t.cfg.running = some l.next ∧
      t.cfg.active = (if l.ticked then s.cfg.active else s.cfg.inactive) ∧ (s.pairs.stb = .shadows → t.pairs.stb = .free) ∧
      ∀ n, (t.line n).record = none ∧ (t.line n).ver = 0 ∧ (t.line n).verB = 0 := by
  have ticked : ∃ s1, (if l.ticked then s else s.lastTick l) = s1 ∧ SameBut [.cfg, .params, .oxb, .faults, .free] s s1 ∧ s1.faults.live = [] ∧
      s1.cfg.active = (if l.ticked then s.cfg.active else s.cfg.inactive) ∧ s1.cfg.live.map (·.next) = some l.next := by
    by_cases ht : l.ticked
    · rw [if_pos ht, if_pos ht]
      exact ⟨s, rfl, .refl _ _, h, rfl, by rw [hl]; rfl⟩
    · rw [if_neg ht, if_neg ht]
      obtain ⟨k, dead, -, act, liv⟩ := lastTick_dead h hr l
      exact ⟨_, rfl, k, dead, act, by rw [liv]; rfl⟩
  obtain ⟨s1, e1, k1, dead1, act1, next1⟩ := ticked
  unfold State.closeLive
  rw [hl]
  dsimp only
  rw [e1]
  have chans : ∀ cs : List (Nat × Nat), SameBut [.field, .rif] s1 (cs.foldl (fun s e => s.changeChannel e.1) s1) := fun cs =>
    List.foldlRecOn (motive := SameBut [.field, .rif] s1) _ _ (.refl _ _) fun t ht e _ =>
      ht.trans (changeChannel_dead (dead_of (by decide) dead1 ht) e.1)
  generalize hs2 : (l.chanAt.filter (fun e => decide (s1.time.tick < e.2))).foldl (fun s e => s.changeChannel e.1) s1 = s2
  have k2 : SameBut [.field, .rif] s1 s2 := hs2 ▸ chans _
  have cfg2 : s2.cfg = s1.cfg := k2 .cfg (by decide)
  have pairs2 : s2.pairs = s.pairs := (k2 .pairs (by decide)).trans (k1 .pairs (by decide))
  refine ⟨?_, rfl, ?_, ?_, fun hb => ?_, fun n => linesFor_plain ..⟩
  · have k := (k1.mono (qs := [.cfg, .params, .oxb, .faults, .free, .field, .rif, .cells, .pairs])).trans k2.mono
    refine k.trans fun p hp => ?_
    cases p
    case cfg | cells | pairs => simp at hp
    all_goals rfl
  · show s2.cfg.live.map (·.next) = _
    rw [cfg2, next1]
  · show s2.cfg.active = _
    rw [cfg2, act1]
  · show (if s2.pairs.stb = .shadows then StbWork.free else s2.pairs.stb) = _
    rw [pairs2, if_pos hb]

/-! ### The arrival in VERIFY -/

/-- Without a connection that has a state, a reset of the connections changes nothing. -/
theorem connResetAll_none (h : s.weir.conns = []) : s.connResetAll = s := by
  unfold State.connResetAll
  rw [h]
  rfl

/-- What VERIFY sets before it is entered. -/
def verifyBegun (cause : VerifyCause) (s : State) : State :=
  let s : State := { s with
    dev := { s.dev with verifyCause := cause, verifySafe := false, formOk := [false, false], formVerdict := [], certOk := false },
    rif := { s.rif with
      unitsDone := if cause = .restart then s.rif.unitsDone.filter (fun u => decide (u ∉ s.faults.s3Units)) else [],
      coverage := if cause = .restart then s.rif.coverage
        else s.rif.coverage.map (fun e => (e.1, { repeats := e.2.repeats })) } }
  { s with cells := { s.cells with sides := s.cells.sides.map (fun e => (e.1, { e.2 with runs := [] })) } }

/-- The couplers that VERIFY starts anew. -/
def verifyCouplers (cause : VerifyCause) (s : State) : State :=
  (List.range 64).foldl (fun s c =>
    if (s.coupler c).step ≠ 0 ∧ (cause ≠ .restart ∨ s.groupSliceDue (c / 16)) then s.restartCoupler c 2 else s) s

theorem enterVerify_eq (s : State) (cause : VerifyCause) :
    s.enterVerify cause = verifyCouplers cause (((verifyBegun cause s).enter .verify 0).connResetAll) := rfl

theorem verifyCouplers_sameBut (cause : VerifyCause) (s : State) : SameBut [.field] s (verifyCouplers cause s) :=
  .foldl (fun _ _ => .ite (restartCoupler_sameBut _ _ _) (.refl _ _)) _ _

theorem enter_verify (h1 : s.dev.st ≠ .run) (h2 : s.dev.st ≠ .verify) : s.enter .verify 0 = { s with
    dev := { s.dev with st := .verify, safeReason := 0, maint := .none },
    host := { s.host with evState := (s.enter .verify 0).host.evState } } := by
  obtain ⟨hr, hw⟩ := enter_unanswered (s := s) (st := .verify) 0 h2 (by decide)
  conv_lhs => rw [enter_frame, enter_time _ h2, enter_cells _ h1, enter_cfg _ (.inl (by decide)), enter_dev _ h2, enter_host, hr, hw]
  rfl

/-- The arrival in VERIFY from a state that is neither RUN nor VERIFY, while no connection has a state. -/
theorem enterVerify_quiet (cause : VerifyCause) (hc : s.weir.conns = []) (h1 : s.dev.st ≠ .run) (h2 : s.dev.st ≠ .verify) :
    let t := s.enterVerify cause
    SameBut [.dev, .host, .rif, .cells, .field] s t ∧ t.dev.st = .verify ∧ t.dev.safeLine = s.dev.safeLine ∧
      t.host = { s.host with evState := t.host.evState } ∧ t.cells = (verifyBegun cause s).cells := by
  have e := enter_verify (s := verifyBegun cause s) h1 h2
  have hu : ((verifyBegun cause s).enter .verify 0).connResetAll = (verifyBegun cause s).enter .verify 0 :=
    connResetAll_none (by rw [e]; exact hc)
  intro t
  have k : SameBut [.field] ((verifyBegun cause s).enter .verify 0) t := by
    show SameBut _ _ (s.enterVerify cause)
    rw [enterVerify_eq, hu]
    exact verifyCouplers_sameBut _ _
  generalize (verifyBegun cause s).enter .verify 0 = u at e k
  have dev : t.dev = u.dev := k .dev (by decide)
  have host : t.host = u.host := k .host (by decide)
  have cells : t.cells = u.cells := k .cells (by decide)
  refine ⟨SameBut.trans (t := u) (fun p hp => ?_) k.mono, ?_, ?_, ?_, ?_⟩
  · rw [e]
    cases p
    case dev | host | rif | cells | field => simp at hp
    all_goals rfl
  · rw [dev, e]
  · rw [dev, e]
    rfl
  · rw [host, e]
    rfl
  · rw [cells, e]

end Sys2Proof.Occurrence

end

section
/-! PROOFS. RUN, SAFE and RESTART (R50, R51, R294). O14. -/

set_option Elab.async false

namespace Sys2Proof.Mailbox
open Sys2Proof.Machine Sys2Proof.Safety Sys2Proof.Laws Sys2Proof.Occurrence

variable {s : State} {r : Request} {q : List Request}

theorem popped_sameBut (q : List Request) (s : State) : SameBut [.host] s (popped q s) := sameBut_host _ _

/-! ### RUN, SAFE and RESTART -/

theorem run_eq (s : State) : exec .run s = .next (s.serve 0x40 (lenIs 0) (fun r s =>
    if s.runAllowed && !r.beforeExit then s.wait r .run else s.respond r stWRONG_STATE [])) := rfl

theorem run_served (h : Served 0x40 r q s) (hp : r.payload = []) : exec .run s = .next
    (if s.runAllowed && !r.beforeExit then waits r q .run s else answered r q stWRONG_STATE [] s) := by
  rw [run_eq, serve_queue _ h (by simp [lenIs, hp])]
  · rfl
  · split <;> rfl

theorem leftByRun_iff (n : Nat) : leftByRun n = true ↔ n ∈ [0x01, 0x03, 0x05] := by
  simp [leftByRun, sHOST, sSTART, sNEWCFG, or_assoc]

theorem beforeExit_iff (r : Request) : r.beforeExit = true ↔ r.st = DevState.verify.code ∨ r.st = DevState.boot.code := by
  simp [Request.beforeExit]

/-- What SAFE does before it answers. -/
def safeTaken (s : State) : State :=
  match s.dev.st with
  | .run => s.enter .safe sHOST
  | .verify => { s with dev := { s.dev with verifySafe := true } }
  | _ => s.answer .run stOK s.statePayload

theorem safe_eq (s : State) : exec .safe s = .next (s.serve 0x41 (lenIs 0) (fun r s =>
    (safeTaken s).respond r stOK (safeTaken s).statePayload)) := rfl

theorem safe_served (h : Served 0x41 r q s) (hp : r.payload = []) :
    exec .safe s = .next ((safeTaken (popped q s)).respond r stOK (safeTaken (popped q s)).statePayload) := by
  have hq : (safeTaken (popped q s)).host.queue = q := by
    unfold safeTaken
    split
    · exact (enter_calm ..).queue
    · rfl
    · exact (answer_calm ..).queue
  rw [safe_eq, serve_queue _ h (by simp [lenIs, hp]) hq]

/-- A shadow evaluation that the end of RUN has ended (row 17 of Table 2.3). -/
def shadowEnded (l : CellLine) : CellLine :=
  { l with record := l.record.map (fun r => if r.kind = .shadow then { r with kind := .direct } else r) }

theorem endShadows_line (s : State) (n : Nat) : s.endShadows.line n = shadowEnded (s.line n) :=
  tab_getD_map s.cells.lines shadowEnded n {}

/-- What RESTART sets before VERIFY is entered. -/
def restartBegun (r : Request) (s : State) : State :=
  let s := s.wait r .restart
  let s : State := { s with
    dev := { s.dev with safeLine := false, s3InSafe := false },
    faults := { s.faults with holds := s.faults.holds.filter (fun h => h.sev != 3) } }
  s.endS3

theorem restart_eq (s : State) : exec .restart s = .next (s.serve 0x42 (lenIs 0) (fun r s =>
    if s.restartAllowed then ((restartBegun r s).enterVerify .restart).closeLive else s.respond r stWRONG_STATE [])) := rfl

/-- The arrival in VERIFY that a RESTART makes, while no connection has a state. -/
theorem restarted (h : s.dev.st = .safe) (hc : s.weir.conns = []) (r : Request) :
    let t := (restartBegun r s).enterVerify .restart
    SameBut [.dev, .host, .faults, .rif, .cells, .field] s t ∧ t.dev.st = .verify ∧ t.dev.safeLine = false ∧
      t.host = { s.host with waiting := s.host.waiting ++ [⟨r, .restart⟩], evState := t.host.evState } ∧
      t.faults = (restartBegun r s).faults ∧ t.cells = (verifyBegun .restart s).cells := by
  have k0 : SameBut [.dev, .host, .faults, .rif, .cells, .field] s (restartBegun r s) := fun p hp => by
    cases p
    case dev | host | faults | rif | cells | field => simp at hp
    all_goals rfl
  obtain ⟨k, hst, hline, hhost, hcells⟩ := enterVerify_quiet (s := restartBegun r s) .restart hc (by rw [show (restartBegun r s).dev.st = _ from h]; nofun)
    (by rw [show (restartBegun r s).dev.st = _ from h]; nofun)
  exact ⟨k0.trans k.mono, hst, hline, hhost, k .faults (by decide), hcells⟩

end Sys2Proof.Mailbox

namespace Sys2Proof.Proofs
open Sys2Proof.Machine Sys2Proof.Safety Sys2Proof.Laws Sys2Proof.Mailbox Sys2Proof.Occurrence

/-- Settles O14, by the outcome of each of the three services. -/
theorem runSafeRestart : Obligations.RunSafeRestart := by
  unfold Obligations.RunSafeRestart
  intro s r q hp
  refine ⟨fun h hst hl h3 => ?_, fun h hb => ?_, fun h hst => ?_, fun h hst => ?_, fun h hst hl hsup => ?_⟩
  · have allowed : s.runAllowed = leftByRun s.dev.safeReason := by simp [State.runAllowed, hst, hl, h3]
    rw [run_served h hp, allowed]
    refine ⟨fun hr h1 h2 => ?_, fun hb => ?_, fun hr => ?_⟩
    · have b : r.beforeExit = false := by
        rw [← Bool.not_eq_true, beforeExit_iff]
        exact not_or.2 ⟨h1, h2⟩
      rw [(leftByRun_iff _).2 hr, b]
      rfl
    · rw [(beforeExit_iff r).2 hb, Bool.not_true, Bool.and_false]
      rfl
    · rw [Bool.eq_false_iff.2 (mt (leftByRun_iff _).1 hr)]
      rfl
  · have no : s.runAllowed = false := by
      unfold State.runAllowed
      rcases hb with hb | hb
      · simp [hb]
      · simp [hb]
    rw [run_served h hp, no]
    rfl
  · have e : safeTaken (popped q s) = (popped q s).enter .safe sHOST := by
      unfold safeTaken
      rw [show (popped q s).dev.st = .run from hst]
    have other : (popped q s).dev.st ≠ .safe := by rw [show (popped q s).dev.st = .run from hst]; nofun
    have dev := enter_dev sHOST other
    have cells := enter_endShadows (s := popped q s) (st := .safe) sHOST hst (by nofun)
    have host := enter_host (s := popped q s) (st := .safe) sHOST
    have frame := enter_frame (s := popped q s) (st := .safe) sHOST
    rw [enter_time _ (by rw [show (popped q s).dev.st = .run from hst]; nofun), enter_cfg _ (.inl (by decide))] at frame
    have done := safe_served h hp
    rw [e] at done
    generalize (popped q s).enter .safe sHOST = u at *
    refine ⟨_, done, ?_, ?_, ?_, ?_, fun p hp => ?_, ?_, fun n => ?_⟩
    · exact congrArg DevSt.st dev
    · exact congrArg DevSt.safeReason dev
    · exact congrArg HostSt.queue host
    · show (u.host.rsp ++ [r.response u.host.session stOK u.statePayload]).getLast? = _
      unfold State.statePayload
      rw [List.getLast?_concat, host, dev]
      rfl
    · rw [frame]
      cases p
      case dev | host | cells => simp at hp
      all_goals rfl
    · exact (congrArg CellsSt.sides cells :)
    · show u.cells.lines.getD n {} = _
      rw [cells]
      exact endShadows_line s n
  · have e : safeTaken (popped q s) = { popped q s with dev := { (popped q s).dev with verifySafe := true } } := by
      unfold safeTaken
      rw [show (popped q s).dev.st = .verify from hst]
    have pl : ({ popped q s with dev := { (popped q s).dev with verifySafe := true } } : State).statePayload = [5, byte s.dev.safeReason, 0, 0] := by
      show leBytes 1 s.dev.st.code ++ leBytes 1 s.dev.safeReason ++ zeros 2 = _
      rw [hst]
      rfl
    rw [safe_served h hp, e, pl]
    rfl
  · refine ⟨fun hb hc => ?_, fun hr h3 => ?_⟩
    · have allowed : (popped q s).restartAllowed = true := by
        have hr : (!leftByRun s.dev.safeReason || s.dev.s3InSafe) = true := by
          rcases hb with hb | hb
          · rw [Bool.eq_false_iff.2 (mt (leftByRun_iff _).1 hb)]
            rfl
          · rw [hb, Bool.or_true]
        show (s.dev.st == .safe && !s.liveAtLeast 3 && (!leftByRun s.dev.safeReason || s.dev.s3InSafe) && !s.dev.noSupervisor) = true
        rw [hst, hl, hr, hsup]
        rfl
      obtain ⟨k, st, line, host, faults, cells⟩ := restarted (s := popped q s) hst hc r
      have low : ∀ l ∈ s.faults.live, s.sevNow l < 3 := by
        intro l hm
        have := List.any_eq_false.1 hl l hm
        simpa using this
      have served : ((restartBegun r (popped q s)).enterVerify .restart).closeLive.host.queue = q →
          exec .restart s = .next ((restartBegun r (popped q s)).enterVerify .restart).closeLive := by
        intro hq
        rw [restart_eq, serve_queue _ h (by simp [lenIs, hp])]
        · rw [if_pos allowed]
        · rw [if_pos allowed, hq]
      generalize (restartBegun r (popped q s)).enterVerify .restart = u at *
      refine ⟨fun hlive => ?_, fun l hlive dead hret => ?_⟩
      · have closed : u.closeLive = u := by
          unfold State.closeLive
          rw [show u.cfg.live = none from (congrArg ConfigSt.live (k .cfg (by decide))).trans hlive]
        rw [closed] at served
        refine ⟨u, served (congrArg HostSt.queue host), st, line, congrArg HostSt.queue host, congrArg HostSt.waiting host,
          (congrArg HostSt.rsp host :), faults, ?_, fun sd n => ?_, (popped_sameBut q s).mono.trans k⟩
        · rw [faults]
          intro l hm
          obtain ⟨l0, hm0, rfl⟩ := List.mem_map.1 hm
          split
          · exact low l0 hm0
          · omega
        · show (u.cells.sides.getD _ {}).runs = []
          rw [cells]
          exact congrArg CellSide.runs (tab_getD_map s.cells.sides (fun e => { e with runs := [] }) _ {})
      · have dead1 : u.faults.live = [] := by
          rw [faults]
          exact congrArg (List.map _) dead
        have pairs : u.pairs = s.pairs := k .pairs (by decide)
        have cfg : u.cfg = s.cfg := k .cfg (by decide)
        obtain ⟨kc, hl2, hr2, ha2, hs2, hln2⟩ := closeLive_dead (s := u) (l := l) (by rw [cfg]; exact hlive) dead1
          (fun p hp => by rw [show u.pair p = s.pair p from congrArg (fun x : PairsSt => x.pairs.getD p {}) pairs]; exact hret p hp)
        have hq : u.closeLive.host.queue = q := by
          rw [show u.closeLive.host = u.host from kc .host (by decide), host]
          rfl
        have dev : u.closeLive.dev = u.dev := kc .dev (by decide)
        rw [cfg] at ha2
        rw [pairs] at hs2
        exact ⟨_, served hq, by rw [dev, st], by rw [dev, line], hl2, hr2, ha2, hs2, hln2⟩
    · have no : (popped q s).restartAllowed = false := by
        show (s.dev.st == .safe && !s.liveAtLeast 3 && (!leftByRun s.dev.safeReason || s.dev.s3InSafe) && !s.dev.noSupervisor) = false
        rw [(leftByRun_iff _).2 hr, h3]
        simp
      rw [restart_eq, serve_queue _ h (by simp [lenIs, hp])]
      · rw [no]
        rfl
      · rw [no]
        rfl

end Sys2Proof.Proofs

end

section
/-! PROOFS. The host signals and the parameters (R258, R262). O15. -/

set_option Elab.async false

namespace Sys2Proof.Mailbox
open Sys2Proof.Machine Sys2Proof.Safety Sys2Proof.Laws

variable {s : State} {r : Request} {q : List Request}

/-! ### HOSTSIG_WRITE (R262) -/

/-- The write of a range of host signals into the inactive image. -/
def signalsWritten (r : Request) (first hold mask vals : Nat) (s : State) : State :=
  let m : BitVec 2048 := BitVec.ofNat 2048 mask <<< first
  let v : BitVec 2048 := BitVec.ofNat 2048 vals <<< first
  { s.wait r .hostSig with hs := { s.hs with
    inactive := (s.hs.inactive &&& ~~~m) ||| (v &&& m), flipDue := true, holdMs := hold, lastWrite := s.time.tick,
    before := s.hs.before.or (some ⟨s.hs.inactive, s.hs.flipDue, s.hs.holdMs, s.hs.lastWrite⟩) } }

theorem hostsigWrite_eq (s : State) : exec .hostsigWrite s = .next (s.serve 0x60 hostWriteForm (fun r s =>
    signalsWritten r (leAt r.payload 0 2) (leAt r.payload 4 4) (leAt r.payload 8 (leAt r.payload 2 2 / 8))
      (leAt r.payload (8 + leAt r.payload 2 2 / 8) (leAt r.payload 2 2 / 8)) s)) := rfl

/-- The masked bits take the values written, the others stay. -/
theorem getLsbD_written (old : BitVec 2048) {first mask vals : Nat} {i : Nat} (hi : i < 2048) :
    ((old &&& ~~~(BitVec.ofNat 2048 mask <<< first)) ||| (BitVec.ofNat 2048 vals <<< first &&& BitVec.ofNat 2048 mask <<< first)).getLsbD i =
      if first ≤ i ∧ mask.testBit (i - first) then vals.testBit (i - first) else old.getLsbD i := by
  have hj : i - first < 2048 := by omega
  simp only [BitVec.getLsbD_or, BitVec.getLsbD_and, BitVec.getLsbD_not, BitVec.getLsbD_shiftLeft, BitVec.getLsbD_ofNat, hi, hj, decide_true,
    Bool.true_and]
  by_cases h1 : first ≤ i
  · have h2 : ¬i < first := by omega
    by_cases h3 : mask.testBit (i - first) <;> simp [h1, h2, h3]
  · have h2 : i < first := by omega
    simp [h1, h2]

/-- A payload of HOSTSIG_WRITE. -/
theorem signals_payload {first count hold mask vals : Nat} (hf : first % 32 = 0) (hc : count % 32 = 0) (h1 : 32 ≤ count)
    (h2 : first + count ≤ 2048) (hh : hold = 0 ∨ 10 ≤ hold ∧ hold ≤ 60000) (hm : mask < 2 ^ count) (hv : vals < 2 ^ count)
    (hp : r.payload = leBytes 2 first ++ leBytes 2 count ++ leBytes 4 hold ++ leBytes (count / 8) mask ++ leBytes (count / 8) vals) :
    leAt r.payload 0 2 = first ∧ leAt r.payload 2 2 = count ∧ leAt r.payload 4 4 = hold ∧ leAt r.payload 8 (count / 8) = mask ∧
      leAt r.payload (8 + count / 8) (count / 8) = vals ∧ hostWriteForm r = true := by
  have width : (256 : Nat) ^ (count / 8) = 2 ^ count := by
    rw [show (256 : Nat) = 2 ^ 8 from rfl, ← Nat.pow_mul, show 8 * (count / 8) = count by omega]
  have e1 : leAt r.payload 0 2 = first := by
    rw [hp]
    simp only [List.append_assoc]
    exact leAt_first 2 first _ (by omega)
  have e2 : leAt r.payload 2 2 = count := by
    rw [hp]
    simp only [List.append_assoc]
    exact leAt_next _ _ 2 2 count (by simp) (by omega)
  have e3 : leAt r.payload 4 4 = hold := by
    rw [hp, List.append_assoc, List.append_assoc]
    exact leAt_next _ _ 4 4 hold (by simp) (by omega)
  have e4 : leAt r.payload 8 (count / 8) = mask := by
    rw [hp, List.append_assoc]
    exact leAt_next _ _ 8 _ mask (by simp) (by rw [width]; exact hm)
  have e5 : leAt r.payload (8 + count / 8) (count / 8) = vals := by
    rw [hp]
    exact leAt_last _ _ _ vals (by simp only [List.length_append, leBytes_length]) (by rw [width]; exact hv)
  refine ⟨e1, e2, e3, e4, e5, ?_⟩
  unfold hostWriteForm
  dsimp only
  have len : r.payload.length = 8 + 2 * (count / 8) := by
    rw [hp]
    simp only [List.length_append, leBytes_length]
    omega
  rw [e1, e2, e3, lenIs, len]
  simp only [hostRange, Bool.and_eq_true, Bool.or_eq_true, beq_iff_eq, decide_eq_true_eq]
  exact ⟨⟨⟨Nat.le_add_right .., ⟨⟨hf, hc⟩, h1⟩, h2⟩, trivial⟩, hh⟩

end Sys2Proof.Mailbox

namespace Sys2Proof.Proofs
open Sys2Proof.Machine Sys2Proof.Safety Sys2Proof.Laws Sys2Proof.Mailbox

/-- What PARAM_WRITE does with an item and a value. -/
def paramWritten (code v : Nat) (i : ParamItem) (r : Request) (s : State) : State :=
  if r.done then s.respond r stOK (zeros 4)
  else if !s.paramOk v i then s.respond r stBAD_FORMAT []
  else if i.cls = 0 ∧ s.dev.st = .run then s.refuseCfg r (refusal cCLASS kParam code)
  else if i.cls ≠ 0 ∧ s.dev.st ≠ .run then s.respond r stWRONG_STATE []
  else (s.paramSet v i).respond r stOK (leBytes 1 (b2n (i.cls == 1)) ++ zeros 3)

theorem paramWrite_eq (s : State) : exec .paramWrite s = .next (s.serve 0x71 paramForm (fun r s =>
    let v := leAt r.payload 8 8
    match paramItem (leAt r.payload 0 4) with
    | none => s.respond r stBAD_FORMAT []
    | some i => paramWritten (leAt r.payload 0 4) v i r s)) := rfl

theorem paramWrite_served {s : State} {r : Request} {q : List Request} {code v : Nat} {i : ParamItem} (h : Served 0x71 r q s)
    (hc : code < 2 ^ 32) (hv : v < 2 ^ 64) (hp : r.payload = leBytes 4 code ++ [0, 0, 0, 0] ++ leBytes 8 v) (hi : paramItem code = some i)
    (hq : (paramWritten code v i r (popped q s)).host.queue = q) :
    exec .paramWrite s = .next (paramWritten code v i r (popped q s)) := by
  have e1 : leAt r.payload 0 4 = code := by
    rw [hp, List.append_assoc]
    exact leAt_first 4 code _ (by omega)
  have e2 : leAt r.payload 8 8 = v := by
    rw [hp]
    exact leAt_last _ 8 8 v (by simp) (by omega)
  have e3 : leAt r.payload 4 4 = 0 := by
    rw [hp, List.append_assoc]
    exact leAt_next _ _ 4 4 0 (by simp) (by omega)
  have form : paramForm r = true := by
    unfold paramForm
    rw [e3, lenIs, hp]
    simp
  have e : (match paramItem (leAt r.payload 0 4) with
      | none => (popped q s).respond r stBAD_FORMAT []
      | some i => paramWritten (leAt r.payload 0 4) (leAt r.payload 8 8) i r (popped q s)) = paramWritten code v i r (popped q s) := by
    rw [e1, e2, hi]
  rw [paramWrite_eq, serve_queue _ h form]
  · exact congrArg Host.Outcome.next e
  · exact (congrArg (fun t : State => t.host.queue) e).trans hq

/-- Settles O15: the write of the host signals bit by bit, the checks of PARAM_WRITE in their order, and the hold time. -/
theorem hostSignalsAndParameters : Obligations.HostSignalsAndParameters := by
  unfold Obligations.HostSignalsAndParameters
  refine ⟨⟨?_, ?_⟩, ?_⟩
  · intro s r q first count hold mask vals h hf hc h1 h2 hh hm hv hp
    obtain ⟨e1, e2, e3, e4, e5, form⟩ := signals_payload hf hc h1 h2 hh hm hv hp
    have done : exec .hostsigWrite s = .next (signalsWritten r first hold mask vals (popped q s)) := by
      rw [hostsigWrite_eq, serve_queue _ h form rfl, e1, e2, e3, e4, e5]
    refine ⟨_, done, rfl, fun p hp => ?_, rfl, rfl, rfl, rfl, fun i hi => getLsbD_written _ hi⟩
    cases p
    case host | hs => simp at hp
    all_goals rfl
  · intro s r q code v i h hc hv hp hi
    have served := paramWrite_served h hc hv hp hi
    unfold paramWritten at served
    rw [if_neg (by rw [h.fresh]; nofun)] at served
    refine ⟨fun ho => ?_, fun ho h0 hst => ?_, fun ho h0 hst => ?_, fun ho hst hu => ?_, fun g ho hst hu => ?_, fun n ho hst hu => ?_⟩
    · have c : (!(popped q s).paramOk v i) = true := by rw [show (popped q s).paramOk v i = false from ho]; rfl
      rw [if_pos c] at served
      exact served rfl
    all_goals
      have c : ¬(!(popped q s).paramOk v i) = true := by rw [show (popped q s).paramOk v i = true from ho]; nofun
      rw [if_neg c] at served
    · rw [if_pos ⟨h0, by exact hst⟩] at served
      exact served rfl
    · rw [if_neg (fun k => h0 k.1), if_pos ⟨h0, by exact hst⟩] at served
      exact served rfl
    · subst hu
      rw [if_neg (fun k => hst k.2), if_neg (fun k => k.1 rfl)] at served
      exact served rfl
    · subst hu
      rw [if_neg (fun k => by exact absurd k.1 (by nofun)), if_neg (fun k => k.2 hst)] at served
      exact served rfl
    · subst hu
      rw [if_neg (fun k => by exact absurd k.1 (by nofun)), if_neg (fun k => k.2 hst)] at served
      exact served rfl
  · intro s hp hs hsig host
    have step : exec .hsHoldTimeout s = .next (if s.hs.holdMs = 0 ∨ s.time.tick < s.hs.lastWrite + tMS * s.hs.holdMs ∨ s.host.paused ∨ !s.supRuns then s
      else ({ s with hs := hsig, host := host } : State).event bHOST 0 0) := rfl
    rw [step]
    refine ⟨fun h0 hl => ?_, fun hb => ?_⟩
    · rw [if_neg]
      rintro (h | h | h | h)
      · exact h0 h
      · exact absurd h (Nat.not_lt.2 hl)
      · rw [hp] at h
        exact absurd h nofun
      · rw [hs] at h
        exact absurd h nofun
    · rw [if_pos]
      rcases hb with h | h
      · exact .inl h
      · exact .inr (.inl h)

end Sys2Proof.Proofs

end

section
/-! PROOFS. Services that begin and wait (R318, R346, R287). O16. -/

set_option Elab.async false

namespace Sys2Proof.Mailbox
open Sys2Proof.Machine Sys2Proof.Safety Sys2Proof.Laws Sys2Proof.Occurrence

variable {s : State} {r : Request} {q : List Request}

/-! ### Services that wait for their end -/

theorem oxbFlush_eq (s : State) : exec .oxbFlush s = .next (s.serve 0x82 (lenIs 0) (fun r s => (s.wait r .oxbFlush).flushTrigger .full)) := rfl

/-- A full flush outranks a routine flush that is due, and joins another full one. -/
theorem flushQueue_full (ht : ∀ k, s.oxb.trigger = some k → k.rank < 2) :
    s.flushQueue .full = { s with oxb := { s.oxb with trigger := some .full } } := by
  unfold State.flushQueue
  cases h : s.oxb.trigger with
  | none => rfl
  | some k =>
    have low := ht k h
    cases k
    case powerFail => exact absurd low (by decide)
    all_goals rfl

theorem flushTrigger_full (hr : s.oxb.running = none) (ht : ∀ k, s.oxb.trigger = some k → k.rank < 2) : s.flushTrigger .full =
    { s with oxb := { s.oxb with trigger := some .full, tlAsk := s.oxb.tlAsk || s.oxb.tlPending } } := by
  unfold State.flushTrigger
  dsimp only
  split
  · exact flushQueue_full (s := { s with oxb := { s.oxb with tlAsk := s.oxb.tlAsk || s.oxb.tlPending } }) ht
  · next k hk => rw [hr] at hk; cases hk

/-- SELFTEST_REQUEST of a unit. -/
def selfTestBegun (k i : Nat) (r : Request) (s : State) : State :=
  if s.rif.selfTest.isSome then s.respond r stBUSY_RETRY []
  else if k ≠ 0 ∧ s.unitInUse k i then s.respond r stUNIT_IN_USE []
  else
    let left := if k = 0 then modePrograms (s.chanEntry i).mode else []
    let t : SelfTest := { kind := k, index := i, left := left, failed := false, aborted := false, skipped := false,
                          sig := 0, expected := 0 }
    let s : State := { s.wait r .selfTest with rif := { s.rif with selfTest := some t } }
    if k = 0 ∧ left.isEmpty then s.finishSelfTest
    else if k = 1 then s.groupCouplers i 2
    else s

theorem selftestRequest_eq (s : State) : exec .selftestRequest s = .next (s.serve 0x90 unitForm (fun r s =>
    selfTestBegun (leAt r.payload 0 1) (leAt r.payload 1 1) r s)) := rfl

/-- A payload that names a unit. -/
theorem unit_payload {k i : Nat} (hk : k = 0 ∧ i < 64 ∨ k = 1 ∧ i < 4 ∨ k = 2 ∧ 1 ≤ i ∧ i < 3) (hp : r.payload = [byte k, byte i, 0, 0]) :
    leAt r.payload 0 1 = k ∧ leAt r.payload 1 1 = i ∧ unitForm r = true := by
  have e0 : leAt r.payload 0 1 = k := by
    rw [hp]
    exact leAt_byte k _ (by omega)
  have e1 : leAt r.payload 1 1 = i := by
    rw [hp]
    exact leAt_next [byte k] [0, 0] 1 1 i rfl (by omega)
  have e2 : leAt r.payload 2 2 = 0 := by
    rw [hp]
    exact leAt_next [byte k, byte i] [] 2 2 0 rfl (by decide)
  refine ⟨e0, e1, ?_⟩
  unfold unitForm
  dsimp only
  rw [e0, e1, e2, lenIs, hp]
  simp only [List.length_cons, List.length_nil, Nat.zero_add, Nat.reduceAdd, BEq.rfl, Bool.true_and, Bool.or_eq_true, Bool.and_eq_true,
    beq_iff_eq, decide_eq_true_eq]
  omega

theorem selftestRequest_served {k i : Nat} (h : Served 0x90 r q s) (hk : k = 0 ∧ i < 64 ∨ k = 1 ∧ i < 4 ∨ k = 2 ∧ 1 ≤ i ∧ i < 3)
    (hp : r.payload = [byte k, byte i, 0, 0]) (hq : (selfTestBegun k i r (popped q s)).host.queue = q) :
    exec .selftestRequest s = .next (selfTestBegun k i r (popped q s)) := by
  obtain ⟨e0, e1, form⟩ := unit_payload hk hp
  rw [selftestRequest_eq, serve_queue _ h form]
  · rw [e0, e1]
  · rw [e0, e1, hq]

theorem groupCouplers_sameBut (s : State) (g k : Nat) : SameBut [.field] s (s.groupCouplers g k) :=
  .foldl (fun _ _ => .ite (.refl _ _) (restartCoupler_sameBut _ _ _)) _ _

/-- CAL_START of the channels that are named. -/
def calBegun (c : Nat) (r : Request) (s : State) : State :=
  if s.rif.cal.isSome then s.respond r stBUSY_RETRY []
  else
    let left := if c = 0xFF then rangeFilter 64 (fun i => (s.chanEntry i).mode != 0) else [c]
    let x : CalRun := { left := left, measured := false, verified := false, ok := [], failed := [] }
    ({ s.wait r .cal with rif := { s.rif with cal := some x } } : State).calDrop.calEnd

theorem calStart_eq (s : State) : exec .calStart s = .next (s.serve 0xA1 (fun r =>
    lenIs 4 r && (decide (leAt r.payload 0 1 < 64) || leAt r.payload 0 1 == 0xFF) && allZero (r.payload.drop 1))
    (fun r s => calBegun (leAt r.payload 0 1) r s)) := rfl

theorem calStart_served {c : Nat} (h : Served 0xA1 r q s) (hc : c < 64 ∨ c = 0xFF) (hp : r.payload = [byte c, 0, 0, 0])
    (hq : (calBegun c r (popped q s)).host.queue = q) : exec .calStart s = .next (calBegun c r (popped q s)) := by
  have e0 : leAt r.payload 0 1 = c := by
    rw [hp]
    exact leAt_byte c _ (by omega)
  rw [calStart_eq, serve_queue _ h]
  · rw [e0]
  · rw [e0, lenIs, hp]
    rcases hc with hc | hc <;> simp [hc, allZero]
  · rw [e0, hq]

theorem calEnd_left {x : CalRun} (h : s.rif.cal = some x) (hl : x.left ≠ []) : s.calEnd = s := by
  unfold State.calEnd
  rw [h]
  exact if_neg (by simpa using hl)

/-- Without a live commit no channel changes. -/
theorem liveChanges_none (h : s.cfg.live = none) (c : Nat) : s.liveChanges c = false := by
  unfold State.liveChanges
  rw [h]

/-- Without a live commit no channel is dropped from a calibration that begins. -/
theorem calDrop_begun {left : List Nat} (h : s.rif.cal = some ⟨left, false, false, [], []⟩) (hl : s.cfg.live = none) (hx : left ≠ []) :
    s.calDrop = s := by
  unfold State.calDrop
  rw [h]
  have e1 : left.filter s.liveChanges = [] := List.filter_eq_nil_iff.2 fun c _ => by rw [liveChanges_none hl]; nofun
  have e2 : left.filter (fun c => !s.liveChanges c) = left := List.filter_eq_self.2 fun c _ => by rw [liveChanges_none hl]; rfl
  have e3 : ({ s with rif := { s.rif with cal := some ⟨left, false, false, [], []⟩ } } : State) = s := by rw [← h]
  dsimp only
  rw [e1, e2, List.append_nil, Bool.and_false, e3, calEnd_left h hx]

theorem calBegin_stays {left : List Nat} (h : s.rif.cal = some ⟨left, false, false, [], []⟩) (hl : s.cfg.live = none) (hx : left ≠ []) :
    s.calDrop.calEnd = s := by
  rw [calDrop_begun h hl hx, calEnd_left h hx]

end Sys2Proof.Mailbox

namespace Sys2Proof.Proofs
open Sys2Proof.Machine Sys2Proof.Safety Sys2Proof.Laws Sys2Proof.Mailbox Sys2Proof.Occurrence

/-- A channel in use has slices of its own. -/
theorem modePrograms_ne_nil {mode : Nat} (h : mode ≠ 0) : (modePrograms mode).isEmpty = false := by
  unfold modePrograms
  split
  · rfl
  split
  · rfl
  rw [if_neg (by exact h)]
  rfl

theorem calBegun_idle {s : State} {r : Request} {c : Nat} (hc : s.rif.cal = none) (hl : s.cfg.live = none) {left : List Nat}
    (he : (if c = 0xFF then rangeFilter 64 (fun i => (s.chanEntry i).mode != 0) else [c]) = left) (hx : left ≠ []) :
    calBegun c r s = { s.wait r .cal with rif := { s.rif with cal := some ⟨left, false, false, [], []⟩ } } := by
  unfold calBegun
  rw [if_neg (by rw [hc]; nofun), he]
  dsimp only
  exact calBegin_stays rfl hl hx

/-- Settles O16: each of the three services begins what it names and waits. -/
theorem longServicesWait : Obligations.LongServicesWait := by
  unfold Obligations.LongServicesWait
  refine ⟨fun s r q h hp hr ht => ?_, fun s r q c h hc hp => ⟨fun hs => ?_, fun hs hm => ?_⟩,
    fun s r q k i h hk hp hs => ⟨fun hu => ?_, fun hu => ?_⟩, fun s r q c h hc hp => ⟨fun hs => ?_, fun hs hl => ?_⟩,
    fun s r q h hp hs hl => ?_⟩
  · have e := flushTrigger_full (s := (popped q s).wait r .oxbFlush) hr ht
    rw [oxbFlush_eq, serve_queue _ h (by simp [lenIs, hp])]
    · rw [e]
      rfl
    · rw [e]
      rfl
  · have e : selfTestBegun 0 c r (popped q s) = answered r q stBUSY_RETRY [] s := if_pos hs
    rw [selftestRequest_served h (.inl ⟨rfl, hc⟩) hp (by rw [e]; rfl), e]
  · have e : selfTestBegun 0 c r (popped q s) = { (popped q s).wait r .selfTest with rif := { s.rif with
        selfTest := some ⟨0, c, modePrograms (s.chanEntry c).mode, false, false, false, 0, 0⟩ } } := by
      unfold selfTestBegun
      rw [if_neg (by rw [show (popped q s).rif.selfTest = none from hs]; nofun), if_neg (by simp)]
      dsimp only
      rw [if_pos rfl, if_neg (by rw [show (popped q s).chanEntry c = s.chanEntry c from rfl, modePrograms_ne_nil hm]; nofun),
        if_neg (by decide)]
      rfl
    refine ⟨_, selftestRequest_served h (.inl ⟨rfl, hc⟩) hp (by rw [e]; rfl), ?_⟩
    rw [e]
    refine ⟨rfl, fun p hp => ?_, rfl, _, rfl, rfl, rfl, rfl, rfl⟩
    cases p
    case host | rif => simp at hp
    all_goals rfl
  · have e : selfTestBegun k i r (popped q s) = answered r q stUNIT_IN_USE [] s := by
      unfold selfTestBegun
      rw [if_neg (by rw [show (popped q s).rif.selfTest = none from hs]; nofun), if_pos ⟨by omega, hu⟩]
      rfl
    rw [selftestRequest_served h (.inr (by exact hk)) hp (by rw [e]; rfl), e]
  · have hk0 : k ≠ 0 := by omega
    have e : selfTestBegun k i r (popped q s) =
        if k = 1 then State.groupCouplers { (popped q s).wait r .selfTest with rif := { s.rif with
          selfTest := some ⟨k, i, [], false, false, false, 0, 0⟩ } } i 2
        else { (popped q s).wait r .selfTest with rif := { s.rif with selfTest := some ⟨k, i, [], false, false, false, 0, 0⟩ } } := by
      unfold selfTestBegun
      rw [if_neg (by rw [show (popped q s).rif.selfTest = none from hs]; nofun),
        if_neg (by rw [show (popped q s).unitInUse k i = false from hu]; nofun)]
      dsimp only
      rw [if_neg hk0, if_neg (fun h => hk0 h.1)]
      rfl
    generalize hu : ({ (popped q s).wait r .selfTest with rif := { s.rif with
          selfTest := some ⟨k, i, [], false, false, false, 0, 0⟩ } } : State) = u at e
    have f : SameBut [.field] u (if k = 1 then u.groupCouplers i 2 else u) := .ite (groupCouplers_sameBut _ _ _) (.refl _ _)
    rw [← e] at f
    have host : (selfTestBegun k i r (popped q s)).host = u.host := f .host (by decide)
    have rif : (selfTestBegun k i r (popped q s)).rif = u.rif := f .rif (by decide)
    refine ⟨_, selftestRequest_served h (.inr (by exact hk)) hp (by rw [host, ← hu]; rfl), ?_, ?_, ?_, fun h2 => ?_, ?_⟩
    · rw [host, ← hu]
      rfl
    · refine SameBut.trans (t := u) (fun p hp => ?_) f.mono
      rw [← hu]
      cases p
      case host | rif | field => simp at hp
      all_goals rfl
    · rw [rif, ← hu]
    · rw [e, if_neg (by omega), ← hu]
      rfl
    · rw [rif, ← hu]
      exact ⟨_, rfl, rfl, rfl, rfl, rfl⟩
  · have e : calBegun c r (popped q s) = answered r q stBUSY_RETRY [] s := if_pos hs
    rw [calStart_served h (.inl hc) hp (by rw [e]; rfl), e]
  · have e := calBegun_idle (s := popped q s) (r := r) (c := c) hs hl (if_neg (by omega)) (by nofun)
    rw [calStart_served h (.inl hc) hp (by rw [e]; rfl), e]
    rfl
  · intro used hu
    have e := calBegun_idle (s := popped q s) (r := r) (c := 0xFF) hs hl (if_pos rfl) hu
    rw [calStart_served h (.inr rfl) hp (by rw [e]; rfl), e]
    rfl

end Sys2Proof.Proofs

end

section
/-! PROOFS. Operations of the fuse controller: what refuses them, and what they load (R354 to R359). -/

set_option Elab.async false

namespace Sys2Proof.Fuses
open Sys2Proof.Machine Sys2Proof.Safety Sys2Proof.Laws

variable {s : State} {j : RosJob}

/-! ### Operations of the fuse controller (R354 to R359) -/

theorem fuseConditions_iff : s.fuseConditions = true ↔ FuseConditions s := by
  unfold State.fuseConditions FuseConditions
  simp only [Bool.and_eq_true, decide_eq_true_eq, Option.isNone_iff_eq_none, and_assoc]

/-- The registers as an operation leaves them that the controller takes. -/
def loaded (j : RosJob) (r : RosSt) : RosSt :=
  { r with op := j.kind.code, word := j.word, dataLo := (j.data.toNat : Nat), dataHi := ((j.data.toNat / 2 ^ 32 : Nat)) }

/-- The value of a seal is that of the region (R358). -/
def DataRight (j : RosJob) (s : State) : Prop := j.kind = .sealOp → j.data = BitVec.ofNat 64 (sealValue j.word (s.regionCrc j.word))

theorem takeJob_eq (h : DataRight j s) : s.takeJob j =
    match s.fuseRefusal j with
    | some (res, st) => (State.partyRefused (withRos s { loaded j s.ros with result := res, retries := 0 }) j).fuseAnswer j st []
    | none => withRos s { loaded j s.ros with busy := true, running := some j, retries := 0 } := by
  have e : (if j.kind = .sealOp then { j with data := BitVec.ofNat 64 (sealValue j.word (s.regionCrc j.word)) } else j) = j := by
    split
    · next hk =>
      rw [← h hk]
    · rfl
  unfold State.takeJob
  rw [e]
  rfl

/-- The controller takes an operation that nothing refuses. -/
theorem takeJob_runs (h : DataRight j s) (hr : s.fuseRefusal j = none) :
    s.takeJob j = withRos s { loaded j s.ros with busy := true, running := some j, retries := 0 } := by
  rw [takeJob_eq h, hr]

/-- An operation of the host that is refused ends with its RESULT and its answer. -/
theorem takeJob_refused {res st : Nat} (h : DataRight j s) (hp : j.party = .host) (hr : s.fuseRefusal j = some (res, st)) :
    s.takeJob j = (withRos s { loaded j s.ros with result := res, retries := 0 }).fuseAnswer j st [] := by
  rw [takeJob_eq h, hr]
  unfold State.partyRefused
  rw [hp]

/-- The data registers keep the value that they hold. -/
theorem dataReg_split (r : RosSt) : ((r.dataReg.toNat : Nat) : Word) = r.dataLo ∧ ((r.dataReg.toNat / 2 ^ 32 : Nat) : Word) = r.dataHi := by
  have h1 := r.dataLo.isLt
  have h2 := r.dataHi.isLt
  have e : r.dataReg.toNat = r.dataHi.toNat * 2 ^ 32 + r.dataLo.toNat := by
    unfold RosSt.dataReg
    rw [BitVec.toNat_ofNat, Nat.mod_eq_of_lt (by omega)]
  rw [e]
  constructor
  · apply BitVec.eq_of_toNat_eq
    show (BitVec.ofNat 32 _).toNat = _
    rw [BitVec.toNat_ofNat]
    omega
  · apply BitVec.eq_of_toNat_eq
    show (BitVec.ofNat 32 _).toNat = _
    rw [BitVec.toNat_ofNat]
    omega

/-- A word of the commit unit is open to the host until the region is sealed. -/
theorem openTo_host {w : Nat} (data : DWord) (h1 : 1280 ≤ w) (h2 : w < 3584) (hs : (s.shadow 3583).prog = false) :
    s.openTo .host w data = true := by
  have e : s.sealed 2 = false := hs
  unfold State.openTo
  dsimp only
  rw [if_pos ⟨h1, h2⟩, e]
  rfl

theorem fuseRefusal_programmed (hk : j.kind = .program) (h : (s.shadow j.target).prog = true) :
    s.fuseRefusal j = some (rrCLOSED, stFUSE_CLOSED) := by
  unfold State.fuseRefusal
  rw [hk, h]
  rfl

/-- The programming of an open word of the commit unit depends on the conditions of R356 alone. -/
theorem fuseRefusal_program (hk : j.kind = .program) (hp : j.party = .host) (h1 : 1280 ≤ j.target) (h2 : j.target < 3582)
    (hw : (s.shadow j.target).prog = false) (hs : (s.shadow 3583).prog = false) :
    s.fuseRefusal j = if s.fuseConditions then none else some (rrCONDITIONS, stFUSE_CONDITIONS) := by
  unfold State.fuseRefusal
  rw [hk]
  dsimp only
  rw [hw, hp, openTo_host _ h1 (by omega) hs, if_neg (by nofun)]
  cases s.fuseConditions <;> rfl

theorem fuseRefusal_seal (hk : j.kind = .sealOp) (hj : j.word = 2) (hw : (s.shadow j.target).prog = false) (hc : s.fuseConditions = true) :
    s.fuseRefusal j = none := by
  unfold State.fuseRefusal
  rw [hk, hj]
  dsimp only
  rw [hw, hc]
  rfl

theorem fuseRefusal_lock (hk : j.kind = .lockOp) (hj : j.word = 2) (hw : (s.shadow j.target).prog = false) :
    s.fuseRefusal j = if !s.validSeal 2 then some (rrCLOSED, stFUSE_NO_SEAL)
      else if !s.fuseConditions then some (rrCONDITIONS, stFUSE_CONDITIONS) else none := by
  unfold State.fuseRefusal
  rw [hk, hj]
  dsimp only
  rw [hw]
  rfl

end Sys2Proof.Fuses

end

section
/-! PROOFS. The command register of Rosemary (Table 16.4). O17. -/

set_option Elab.async false

namespace Sys2Proof.Fuses
open Sys2Proof.Machine Sys2Proof.Safety Sys2Proof.Laws

variable {s : State} {j : RosJob}

/-! ### The command register (Table 16.4) -/

/-- A write of ROS_CMD that SUP may make and that finds the controller idle takes its operation. -/
theorem rosCmd_idle (hw : s.supWrites = true) (hb : s.ros.busy = false) (k : RosOpKind) (word target : Nat) (data : DWord) :
    s.rosCmd k word target data = s.takeJob ⟨.host, k, word, target, data, false⟩ := by
  unfold State.rosCmd
  rw [hw, hb]
  rfl

theorem rosCmd_busy (hb : s.ros.busy = true) (k : RosOpKind) (word target : Nat) (data : DWord) : s.rosCmd k word target data = s := by
  unfold State.rosCmd
  rw [hb, Bool.or_true]
  rfl

/-- PROGRAM with the value that the data registers hold leaves them. -/
theorem loaded_dataReg (s : State) (w : Nat) : loaded ⟨.host, .program, w, w, s.ros.dataReg, false⟩ s.ros = { s.ros with op := 1, word := w } := by
  obtain ⟨h1, h2⟩ := dataReg_split s.ros
  unfold loaded
  dsimp only
  rw [h1, h2]
  rfl

theorem registerWrite_cmd (hw : s.supWrites = true) (v : Word) : exec (.registerWrite .cmd v) s = .next (s.rosCmdOther v) :=
  congrArg Host.Outcome.next (if_neg (by rw [hw]; nofun))

theorem rosVerify_idle (hw : s.supWrites = true) (hb : s.ros.busy = false) {w : Nat} (h : w < 4096) (different : Bool) :
    exec (.rosVerify w different) s = .next (if different then (withRos s { s.ros with op := 2, word := w, result := 0 }).event bROS 1 w
      else withRos s { s.ros with op := 2, word := w, result := 0 }) := by
  refine congrArg Host.Outcome.next ?_
  rw [if_neg (by rw [hw, hb]; nofun), Nat.mod_eq_of_lt h]
  rfl

end Sys2Proof.Fuses

namespace Sys2Proof.Proofs
open Sys2Proof.Machine Sys2Proof.Safety Sys2Proof.Laws Sys2Proof.Fuses

theorem rosProgram_idle {s : State} {w : Nat} (hw : s.supWrites = true) (hb : s.ros.busy = false) (h : w < 4096) :
    exec (.rosProgram w) s = .next (s.takeJob ⟨.host, .program, w, w, s.ros.dataReg, false⟩) := by
  refine congrArg Host.Outcome.next ?_
  rw [Nat.mod_eq_of_lt h, rosCmd_idle hw hb]

/-- Settles O17: what each write of the command register does, by the refusal of its operation. -/
theorem rosCommandRegister : Obligations.RosCommandRegister := by
  unfold Obligations.RosCommandRegister
  intro s hw
  refine ⟨fun v => ⟨congrArg Host.Outcome.next (if_neg (by rw [hw]; nofun)), congrArg Host.Outcome.next (if_neg (by rw [hw]; nofun))⟩,
    fun hb => ⟨fun v => ?_, fun n different c hc => ?_⟩, fun hb v => ?_, fun hb => ⟨?_, ?_, ?_, ?_, ?_⟩⟩
  · rw [registerWrite_cmd hw]
    exact congrArg Host.Outcome.next (if_pos (.inl hb))
  · simp only [List.mem_cons, List.not_mem_nil, or_false] at hc
    rcases hc with rfl | rfl | rfl | rfl
    · exact congrArg Host.Outcome.next (rosCmd_busy hb _ _ _ _)
    · exact congrArg Host.Outcome.next (if_pos (by rw [hb, Bool.or_true]))
    · exact congrArg Host.Outcome.next (rosCmd_busy hb _ _ _ _)
    · exact congrArg Host.Outcome.next (rosCmd_busy hb _ _ _ _)
  · intro op stored
    have idle : ∀ (h : ¬(1 ≤ op ∧ op ≤ 4)), exec (.registerWrite .cmd v) s =
        .next (withRos s { stored with result := if op = 0 then s.ros.result else rrADDRESS }) := by
      intro h
      rw [registerWrite_cmd hw]
      exact congrArg Host.Outcome.next (if_neg (by rw [hb]; rintro (k | k); exact absurd k nofun; exact h k))
    refine ⟨fun h => ?_, fun h => ?_⟩
    · rw [idle (by omega), if_neg (by omega)]
      rfl
    · rw [idle (by omega), if_pos h]
  · intro w h1 h2 hp hs
    have r := fuseRefusal_program (j := ⟨.host, .program, w, w, s.ros.dataReg, false⟩) rfl rfl h1 h2 hp hs
    rw [rosProgram_idle hw hb (by omega)]
    refine ⟨fun hc => ?_, fun hc => ?_⟩
    · rw [fuseConditions_iff.2 hc] at r
      rw [takeJob_runs (by nofun) r, loaded_dataReg]
    · rw [Bool.eq_false_iff.2 (mt fuseConditions_iff.1 hc)] at r
      rw [takeJob_refused (by nofun) rfl r, loaded_dataReg]
      rfl
  · intro w h hp
    rw [rosProgram_idle hw hb h, takeJob_refused (by nofun) rfl (fuseRefusal_programmed rfl hp), loaded_dataReg]
    rfl
  · intro w h
    exact ⟨rosVerify_idle hw hb h false, rosVerify_idle hw hb h true⟩
  · intro hc hs
    refine ⟨_, congrArg Host.Outcome.next ((rosCmd_idle hw hb _ _ _ _).trans (takeJob_runs (fun _ => rfl)
      (fuseRefusal_seal rfl rfl hs (fuseConditions_iff.2 hc)))), fun p hp => ?_, rfl, rfl, rfl, rfl, rfl⟩
    cases p
    case ros => simp at hp
    all_goals rfl
  · intro hc hl hv
    have r := fuseRefusal_lock (s := s) (j := ⟨.host, .lockOp, 2, 3582, BitVec.ofNat 64 (lockValue 2), false⟩) rfl rfl hl
    rw [hv, fuseConditions_iff.2 hc] at r
    refine ⟨_, congrArg Host.Outcome.next ((rosCmd_idle hw hb _ _ _ _).trans (takeJob_runs (by nofun) r)), fun p hp => ?_, rfl, rfl, rfl, rfl, rfl⟩
    cases p
    case ros => simp at hp
    all_goals rfl

end Sys2Proof.Proofs

end

section
/-! PROOFS. The pulses and the end of a fuse operation (R355). O18. -/

set_option Elab.async false

namespace Sys2Proof.Fuses
open Sys2Proof.Machine Sys2Proof.Safety Sys2Proof.Laws Sys2Proof.Occurrence

variable {s : State} {j : RosJob}

/-! ### The end of an operation (R355) -/

/-- From the retries already used on, the reads that were weak count up to eight. -/
theorem pulseOutcome_weak (n : Nat) {r : Nat} (h : r + n ≤ 8) (rest : List ProgRead) :
    pulseOutcome r (List.replicate n .weak ++ rest) = pulseOutcome (r + n) rest := by
  induction n generalizing r with
  | zero => rfl
  | succ n ih =>
    have low : r ≠ 8 := by omega
    have step : pulseOutcome r (.weak :: (List.replicate n .weak ++ rest)) = pulseOutcome (r + 1) (List.replicate n .weak ++ rest) :=
      if_neg low
    rw [List.replicate_succ, List.cons_append, step, ih (by omega), Nat.add_right_comm]
    rfl

/-- A ninth weak read is one too many. -/
theorem pulseOutcome_failed (rest : List ProgRead) : pulseOutcome 0 (List.replicate 9 .weak ++ rest) = some (8, false) := by
  rw [show (9 : Nat) = 8 + 1 from rfl, List.replicate_succ', List.append_assoc, pulseOutcome_weak 8 (by decide)]
  rfl

theorem answerUnknown_ros (n : Nat) (s : State) : (s.answerUnknown n).ros = s.ros := by
  induction n generalizing s with
  | zero => rfl
  | succ n ih =>
    unfold State.answerUnknown
    split
    · rfl
    split
    · rfl
    split
    · exact ih _
    · rfl

theorem fuseAnswer_ros (s : State) (j : RosJob) (status : Nat) (payload : List Byte) : (s.fuseAnswer j status payload).ros = s.ros := by
  unfold State.fuseAnswer
  split
  · exact (answerUnknown_ros _ _).trans (answer_calm ..).ros
  · rfl

theorem senseSources_ros (s : State) (w : Nat) : (s.senseSources w).ros = s.ros := by
  unfold State.senseSources
  dsimp only
  split
  · split <;> exact (raise_calm s (by decide) ..).ros
  · split
    · exact (event_calm s (by decide) ..).ros
    · rfl

/-- ROS once an operation has ended, before the next one is taken. -/
def rosEnded (r : RosSt) (j : RosJob) (retries : Nat) (ok : Bool) (final : Sense) : RosSt :=
  let fw : FuseWord := { data := if ok then j.data else (senseDecide final).1, prog := (r.fuses.getD j.target {}).prog || j.data != 0 || showsBit final }
  { r with
    busy := false, running := none, result := if ok then rrOK else rrVERIFY, retries := retries,
    fuses := r.fuses.put j.target fw, shadow := r.shadow.put j.target (senseWord fw final) }

/-- Where no operation waits, the end of one leaves ROS at rest. -/
theorem endJob_ros (hw : s.ros.waiting = []) (retries : Nat) (ok : Bool) (final : Sense) :
    (s.endJob j retries ok final).ros = rosEnded s.ros j retries ok final := by
  unfold State.endJob
  extract_lets +onlyGivenNames d fw r1 s1 s2 s3 s4 o1 s4' s5 s6
  have h1 : s1.ros = rosEnded s.ros j retries ok final := rfl
  have h2 : s2.ros = s1.ros := senseSources_ros ..
  have h3 : s3.ros = s2.ros := by
    dsimp only [s3]
    split
    · rfl
    · exact (event_calm s2 (by decide) ..).ros
  have h4 : s4.ros = s3.ros := marker_sameBut _ _ _ _ _ .ros (by decide)
  have h5 : s5.ros = s4.ros := by
    dsimp only [s5]
    split
    · split
      · exact (raise_bOXB_calm s4' ..).ros
      · rfl
    · exact (clear_calm s4 ..).ros
    · split
      · exact (clear_calm s4 ..).ros
      · rfl
  have h6 : s6.ros = s5.ros := fuseAnswer_ros ..
  have e : s6.ros = rosEnded s.ros j retries ok final := by rw [h6, h5, h4, h3, h2, h1]
  have w : s6.ros.waiting = [] := by
    rw [e]
    exact hw
  rw [w]
  exact e

theorem operationComplete_ends {reads : List ProgRead} {retries : Nat} {ok : Bool} (hj : s.ros.running = some j)
    (h : pulseOutcome 0 reads = some (retries, ok)) (final : Sense) :
    exec (.rosOperationComplete reads final) s = .next (s.endJob j retries ok final) := by
  show Host.Outcome.next (match s.ros.running with
    | none => s
    | some j =>
      match pulseOutcome 0 reads with
      | none => s
      | some (retries, ok) => s.endJob j retries ok final) = _
  rw [hj]
  dsimp only
  rw [h]

theorem operationComplete_stays {reads : List ProgRead} (h : s.ros.running = none ∨ pulseOutcome 0 reads = none) (final : Sense) :
    exec (.rosOperationComplete reads final) s = .next s := by
  show Host.Outcome.next (match s.ros.running with
    | none => s
    | some j =>
      match pulseOutcome 0 reads with
      | none => s
      | some (retries, ok) => s.endJob j retries ok final) = _
  cases hr : s.ros.running with
  | none => rfl
  | some j =>
    rcases h with h | h
    · rw [hr] at h
      cases h
    · dsimp only
      rw [h]

end Sys2Proof.Fuses

namespace Sys2Proof.Proofs
open Sys2Proof.Machine Sys2Proof.Safety Sys2Proof.Laws Sys2Proof.Fuses

/-- Settles O18: how the reads after the pulses end an operation (`pulseOutcome_weak`), and what its end leaves in ROS (`endJob_ros`). -/
theorem fuseOperationsRun : Obligations.FuseOperationsRun := by
  unfold Obligations.FuseOperationsRun
  have weak : ∀ n, n ≤ 8 → pulseOutcome 0 (List.replicate n .weak) = none := by
    intro n h
    have := pulseOutcome_weak n (r := 0) (by omega) []
    rwa [List.append_nil] at this
  refine ⟨fun n rest => ⟨fun h => ?_, weak n, pulseOutcome_failed rest⟩, ?_, ?_⟩
  · rw [pulseOutcome_weak n (by omega), pulseOutcome_weak n (by omega), Nat.zero_add]
    exact ⟨rfl, rfl⟩
  · intro s j reads final retries success hj hw ho
    have r := endJob_ros (j := j) hw retries success final
    refine ⟨_, operationComplete_ends hj ho final, ?_⟩
    have shadow : ∀ w, (s.endJob j retries success final).shadow w = (rosEnded s.ros j retries success final).shadow.getD w {} := fun w => by
      unfold State.shadow
      rw [r]
    simp only [r, shadow]
    refine ⟨rfl, rfl, rfl, rfl, ⟨?_, ?_⟩, fun hs => ?_, fun w hne => ⟨?_, ?_⟩⟩
    · rw [rosEnded, tab_getD_put, if_pos rfl]
    · rw [rosEnded, tab_getD_put, if_pos rfl]
      show (_ || showsBit final || showsBit final) = _
      rw [Bool.or_assoc, Bool.or_self]
    · rw [rosEnded, tab_getD_put, if_pos rfl, hs]
      rfl
    · rw [rosEnded, tab_get_put, if_neg hne]
    · rw [rosEnded, tab_getD_put, if_neg hne]
      rfl
  · intro s reads final
    refine ⟨fun h => operationComplete_stays (.inl h) final, fun j n hj hn => ⟨operationComplete_stays (.inr (weak n hn)) final, fun hw => ?_⟩⟩
    have o : pulseOutcome 0 (List.replicate n .weak ++ [.target]) = some (n, true) := by
      rw [pulseOutcome_weak n (by omega), Nat.zero_add]
      rfl
    have r := endJob_ros (j := j) hw n true final
    refine ⟨_, operationComplete_ends hj o final, ?_⟩
    dsimp only
    rw [r]
    refine ⟨rfl, rfl, rfl, rfl, ?_⟩
    rw [rosEnded, tab_getD_put, if_pos rfl]
    rfl

end Sys2Proof.Proofs

end

section
/-! PROOFS. The fuse services of the host (R357 to R359). O19. -/

set_option Elab.async false

namespace Sys2Proof.Fuses
open Sys2Proof.Machine Sys2Proof.Safety Sys2Proof.Laws Sys2Proof.Occurrence Sys2Proof.Mailbox

variable {s : State} {j : RosJob} {r : Request} {q : List Request}

/-! ### The fuse services (R357 to R359) -/

/-- A request that is served finds no request waiting for the fuse controller. -/
theorem waiting_not_fuse (h : AtFront r q s) : ∀ w ∈ s.host.waiting, w.on ≠ .fuse := by
  intro w hw he
  have := List.any_eq_false.1 h.blocked w hw
  rw [he] at this
  exact this rfl

/-- The answer to the one request that waits for the fuse controller. -/
theorem fuseAnswer_waiting (h : AtFront r q s) (hj : j.answer = true) {t : State} (ht : t.host = (waits r q .fuse s).host) (status : Nat)
    (payload : List Byte) : t.fuseAnswer j status payload = withHost t (answered r q status payload s).host := by
  have other := waiting_not_fuse h
  have e1 : s.host.waiting.filter (fun w => w.on == .fuse) = [] :=
    List.filter_eq_nil_iff.2 fun w hw => by simpa using other w hw
  have e2 : s.host.waiting.filter (fun w => !(w.on == .fuse)) = s.host.waiting :=
    List.filter_eq_self.2 fun w hw => by simpa using other w hw
  unfold State.fuseAnswer
  rw [if_pos hj, answer_eq, ht]
  have e : ({ t with host := { (waits r q .fuse s).host with
      waiting := (waits r q .fuse s).host.waiting.filter (fun w => !(w.on == .fuse))
      rsp := (waits r q .fuse s).host.rsp ++ ((waits r q .fuse s).host.waiting.filter (fun w => w.on == .fuse)).map
        (fun w => w.req.response (waits r q .fuse s).host.session status payload) } } : State) =
      withHost t (answered r q status payload s).host := by
    show withHost t { s.host with
      queue := q
      waiting := (s.host.waiting ++ [(⟨r, .fuse⟩ : Waiting)]).filter (fun w => !(w.on == .fuse))
      rsp := s.host.rsp ++ ((s.host.waiting ++ [(⟨r, .fuse⟩ : Waiting)]).filter (fun w => w.on == .fuse)).map
        (fun w => w.req.response s.host.session status payload) } = _
    rw [List.filter_append, List.filter_append, e1, e2]
    rw [show [(⟨r, .fuse⟩ : Waiting)].filter (fun w => !(w.on == .fuse)) = [] from rfl, List.append_nil]
    rfl
  rw [e]
  exact settle_eq_self _ h.behind

/-- Where the controller is idle, an operation that the host asks for and waits for is refused, and answered so. -/
theorem askJob_refused {res st : Nat} (h : AtFront r q s) (hb : s.ros.busy = false) (hj : j.answer = true) (hp : j.party = .host)
    (hd : DataRight j s) (hr : s.fuseRefusal j = some (res, st)) :
    (waits r q .fuse s).askJob j = { answered r q st [] s with ros := { loaded j s.ros with result := res, retries := 0 } } := by
  have e : (waits r q .fuse s).askJob j = (waits r q .fuse s).takeJob j := if_neg (by rw [show (waits r q .fuse s).ros.busy = false from hb]; nofun)
  rw [e, takeJob_refused (s := waits r q .fuse s) hd hp hr]
  exact fuseAnswer_waiting (t := withRos (waits r q .fuse s) { loaded j s.ros with result := res, retries := 0 }) h hj rfl st []

/-- Otherwise it is under way, and its request waits. -/
theorem askJob_runs (hb : s.ros.busy = false) (hd : DataRight j s) (hr : s.fuseRefusal j = none) :
    (waits r q .fuse s).askJob j = { waits r q .fuse s with ros := { loaded j s.ros with busy := true, running := some j, retries := 0 } } := by
  have e : (waits r q .fuse s).askJob j = (waits r q .fuse s).takeJob j := if_neg (by rw [show (waits r q .fuse s).ros.busy = false from hb]; nofun)
  rw [e, takeJob_runs (s := waits r q .fuse s) hd hr]
  rfl

/-- A service that asks for an operation, refused or under way: its host part and what else it leaves. -/
theorem asked_queue (h : AtFront r q s) (hb : s.ros.busy = false) (hj : j.answer = true) (hp : j.party = .host) (hd : DataRight j s) :
    ((waits r q .fuse s).askJob j).host.queue = q := by
  cases hr : s.fuseRefusal j with
  | none => rw [askJob_runs hb hd hr]; rfl
  | some x => rw [askJob_refused h hb hj hp hd hr]; rfl

theorem fuseProgram_served {w d : Nat} (h : Served 0xB1 r q s) (hb : s.ros.busy = false) (hw : w < 4096) (hd : d < 2 ^ 64)
    (hp : r.payload = leBytes 2 w ++ [0, 0] ++ leBytes 8 d) :
    exec .fuseProgram s = .next ((waits r q .fuse s).askJob ⟨.host, .program, w, w, BitVec.ofNat 64 d, true⟩) := by
  have e1 : leAt r.payload 0 2 = w := by
    rw [hp, List.append_assoc]
    exact leAt_first 2 w _ (by omega)
  have e2 : leAt r.payload 4 8 = d := by
    rw [hp]
    exact leAt_last _ 4 8 d (by simp) (by omega)
  have e3 : leAt r.payload 2 2 = 0 := by
    rw [hp, List.append_assoc]
    exact leAt_next _ _ 2 2 0 (by simp) (by omega)
  have form : (lenIs 12 r && decide (leAt r.payload 0 2 < 4096) && leAt r.payload 2 2 == 0) = true := by
    rw [e1, e3, lenIs, hp]
    simp [hw]
  have step : exec .fuseProgram s = .next (s.serve 0xB1 (fun r => lenIs 12 r && decide (leAt r.payload 0 2 < 4096) && leAt r.payload 2 2 == 0)
      (fun r s => (s.wait r .fuse).askJob ⟨.host, .program, leAt r.payload 0 2, leAt r.payload 0 2, BitVec.ofNat 64 (leAt r.payload 4 8), true⟩)) :=
    rfl
  rw [step, serve_queue _ h form]
  · rw [e1, e2]
    rfl
  · rw [e1, e2]
    exact asked_queue (s := s) h.toAtFront hb rfl rfl (by nofun)

/-- A payload that names a region. -/
theorem region_payload {g : Nat} (hg : (regionWords g).isSome = true) (hl : g < 256) (hp : r.payload = [byte g, 0, 0, 0]) :
    leAt r.payload 0 1 = g ∧ regionForm r = true := by
  have e : leAt r.payload 0 1 = g := by
    rw [hp]
    exact leAt_byte g _ hl
  refine ⟨e, ?_⟩
  unfold regionForm
  rw [e, hg, lenIs, hp]
  rfl

/-- The job of FUSE_SEAL for a region. -/
def sealJob (g : Nat) (s : State) : RosJob :=
  ⟨.host, .sealOp, g, ((regionWords g).map (·.2.2)).getD 0, BitVec.ofNat 64 (sealValue g (s.regionCrc g)), true⟩

/-- The job of FUSE_LOCK for a region. -/
def lockJob (g : Nat) : RosJob :=
  ⟨.host, .lockOp, g, ((regionWords g).map (·.2.1)).getD 0, BitVec.ofNat 64 (lockValue g), true⟩

theorem fuseSeal_served {g : Nat} (h : Served 0xB3 r q s) (hb : s.ros.busy = false) (hg : (regionWords g).isSome = true) (hl : g < 256)
    (hp : r.payload = [byte g, 0, 0, 0]) : exec .fuseSeal s = .next ((waits r q .fuse s).askJob (sealJob g s)) := by
  obtain ⟨e, form⟩ := region_payload hg hl hp
  have step : exec .fuseSeal s = .next (s.serve 0xB3 regionForm (fun r s => (s.wait r .fuse).askJob (sealJob (leAt r.payload 0 1) s))) := rfl
  rw [step, serve_queue _ h form]
  · rw [e]
    rfl
  · rw [e]
    exact asked_queue (s := s) h.toAtFront hb rfl rfl (fun _ => rfl)

theorem fuseLock_served {g : Nat} (h : Served 0xB4 r q s) (hb : s.ros.busy = false) (hg : (regionWords g).isSome = true) (hl : g < 256)
    (hp : r.payload = [byte g, 0, 0, 0]) : exec .fuseLock s = .next ((waits r q .fuse s).askJob (lockJob g)) := by
  obtain ⟨e, form⟩ := region_payload hg hl hp
  have step : exec .fuseLock s = .next (s.serve 0xB4 regionForm (fun r s => (s.wait r .fuse).askJob (lockJob (leAt r.payload 0 1)))) := rfl
  rw [step, serve_queue _ h form]
  · rw [e]
    rfl
  · rw [e]
    exact asked_queue (s := s) h.toAtFront hb rfl rfl (by nofun)

/-- A seal of a region that the host may not close is refused. -/
theorem fuseRefusal_closed (hk : j.kind = .sealOp) (hj : j.word ≠ 2) (hr : (regionWords j.word).isSome = true) :
    s.fuseRefusal j = some (rrCLOSED, stFUSE_CLOSED) := by
  unfold State.fuseRefusal
  rw [hk]
  dsimp only
  rw [if_neg (by cases h : regionWords j.word <;> simp_all), if_pos (.inl hj)]

/-- Of a range of words, those that differ where one word does. -/
theorem range_filter_one {first count w : Nat} (h1 : first ≤ w) (h2 : w < first + count) :
    ((List.range count).map (· + first)).filter (fun x => decide (x ∈ [w])) = [w] := by
  have nd : ((List.range count).map (· + first)).Nodup := List.nodup_range.map fun a b h => Nat.add_right_cancel h
  have hm : w ∈ (List.range count).map (· + first) := List.mem_map.2 ⟨w - first, List.mem_range.2 (by omega), by omega⟩
  have e : (fun x => decide (x ∈ [w])) = (· == w) := by
    funext x
    by_cases hx : x = w <;> simp [hx]
  rw [e, List.filter_beq, List.count_eq_one_of_mem nd hm]
  rfl

/-- FUSE_VERIFY of a range. -/
def rangeVerified (differ : List Nat) (r : Request) (s : State) : State :=
  let bad := ((List.range (leAt r.payload 2 2)).map (· + leAt r.payload 0 2)).filter (fun w => decide (w ∈ differ))
  let s := bad.foldl (fun s w => s.event bROS 1 w) s
  s.respond r stOK (leBytes 2 bad.length ++ leBytes 2 (bad.headD 0xFFFF))

theorem fuseVerify_idle (hb : s.ros.busy = false) (differ : List Nat) :
    exec (.fuseVerify differ) s = .next (s.serve 0xB2 (rangeForm 4096) (rangeVerified differ)) :=
  congrArg Host.Outcome.next (if_neg (by rw [hb]; nofun))

/-- A payload of a first word and a count. -/
theorem range_payload {first count m : Nat} (h1 : 1 ≤ count) (h2 : count ≤ m) (h3 : first + count ≤ 4096)
    (hp : r.payload = leBytes 2 first ++ leBytes 2 count) : leAt r.payload 0 2 = first ∧ leAt r.payload 2 2 = count ∧ rangeForm m r = true := by
  have e1 : leAt r.payload 0 2 = first := by
    rw [hp]
    exact leAt_first 2 first _ (by omega)
  have e2 : leAt r.payload 2 2 = count := by
    rw [hp]
    exact leAt_last _ 2 2 count (by simp) (by omega)
  refine ⟨e1, e2, ?_⟩
  unfold rangeForm
  dsimp only
  rw [e1, e2, hp]
  simp [h1, h2, h3]

end Sys2Proof.Fuses

namespace Sys2Proof.Proofs
open Sys2Proof.Machine Sys2Proof.Safety Sys2Proof.Laws Sys2Proof.Fuses Sys2Proof.Mailbox Sys2Proof.Occurrence

/-- An operation that is refused, or under way: what it leaves of the rest. -/
theorem sameBut_host_ros (s : State) (h : HostSt) (x : RosSt) : SameBut [.host, .ros] s { s with host := h, ros := x } := by
  intro p hp
  cases p
  case host | ros => simp at hp
  all_goals rfl

/-- Settles O19: each service asks for its operation, which the controller takes (`askJob_runs`) or refuses (`askJob_refused`). -/
theorem fuseServices : Obligations.FuseServices := by
  unfold Obligations.FuseServices
  intro s r q hb
  refine ⟨fun w d h hw hd hp => ⟨fun hprog => ?_, fun h1 h2 hprog hs => ?_⟩, fun first count h h1 h2 h3 hp => ⟨?_, fun w hw1 hw2 => ?_⟩,
    fun h hp hs hc => ?_, fun g h hg hp => ?_, fun h hp hl => ⟨fun hv hc => ?_, fun hv => ?_⟩⟩
  · have e := askJob_refused (j := ⟨.host, .program, w, w, BitVec.ofNat 64 d, true⟩) h.toAtFront hb rfl rfl (by nofun) (fuseRefusal_programmed rfl hprog)
    refine ⟨_, fuseProgram_served h hb hw hd hp, ?_⟩
    rw [e]
    exact ⟨rfl, sameBut_host_ros _ _ _, rfl, hb⟩
  · have ref := fuseRefusal_program (j := ⟨.host, .program, w, w, BitVec.ofNat 64 d, true⟩) rfl rfl h1 h2 hprog hs
    refine ⟨fun hc => ⟨_, fuseProgram_served h hb hw hd hp, ?_⟩, fun hc => ⟨_, fuseProgram_served h hb hw hd hp, ?_⟩⟩
    · rw [fuseConditions_iff.2 hc] at ref
      rw [askJob_runs hb (by nofun) ref]
      exact ⟨rfl, sameBut_host_ros _ _ _, rfl, rfl, rfl⟩
    · rw [Bool.eq_false_iff.2 (mt fuseConditions_iff.1 hc)] at ref
      rw [askJob_refused h.toAtFront hb rfl rfl (by nofun) ref]
      exact ⟨rfl, sameBut_host_ros _ _ _, rfl, hb⟩
  · obtain ⟨e1, e2, form⟩ := range_payload h1 h2 h3 hp
    have none_ : ∀ l : List Nat, l.filter (fun w => decide (w ∈ ([] : List Nat))) = [] := fun l =>
      List.filter_eq_nil_iff.2 fun w _ => by simp
    have e : rangeVerified [] r (popped q s) = answered r q stOK [0, 0, 0xFF, 0xFF] s := by
      unfold rangeVerified
      rw [none_]
      rfl
    rw [fuseVerify_idle hb, serve_queue _ h form (by rw [e]; rfl), e]
  · obtain ⟨e1, e2, form⟩ := range_payload h1 h2 h3 hp
    have e : rangeVerified [w] r (popped q s) = ((popped q s).event bROS 1 w).respond r stOK (leBytes 2 1 ++ leBytes 2 w) := by
      unfold rangeVerified
      rw [e1, e2, range_filter_one hw1 hw2]
      rfl
    have c := event_calm (popped q s) (show brstAvailable bROS = false by decide) 1 w
    have hq : (rangeVerified [w] r (popped q s)).host.queue = q := by
      rw [e]
      exact c.queue
    refine ⟨_, (fuseVerify_idle hb _).trans (congrArg Host.Outcome.next (serve_queue _ h form hq)), hq, ?_, ?_⟩
    · rw [e]
      show (((popped q s).event bROS 1 w).host.rsp ++ [r.response ((popped q s).event bROS 1 w).host.session stOK _]).getLast? = _
      rw [List.getLast?_concat, c.host]
      rfl
    · rw [e]
      exact c.ros
  · have ref := fuseRefusal_seal (s := s) (j := sealJob 2 s) rfl rfl hs (fuseConditions_iff.2 hc)
    refine ⟨_, fuseSeal_served h hb rfl (by decide) hp, ?_⟩
    rw [askJob_runs hb (fun _ => rfl) ref]
    exact ⟨rfl, sameBut_host_ros _ _ _, rfl, rfl⟩
  · have hr : (regionWords g).isSome = true ∧ g ≠ 2 ∧ g < 256 := by
      simp only [List.mem_cons, List.not_mem_nil, or_false] at hg
      rcases hg with rfl | rfl <;> decide
    obtain ⟨some_, other, small⟩ := hr
    have ref := fuseRefusal_closed (s := s) (j := sealJob g s) rfl other some_
    refine ⟨_, fuseSeal_served h hb some_ small hp, ?_⟩
    rw [askJob_refused h.toAtFront hb rfl rfl (fun _ => rfl) ref]
    exact ⟨rfl, sameBut_host_ros _ _ _, rfl⟩
  · have ref := fuseRefusal_lock (s := s) (j := lockJob 2) rfl rfl hl
    rw [hv, fuseConditions_iff.2 hc] at ref
    refine ⟨_, fuseLock_served h hb rfl (by decide) hp, ?_⟩
    rw [askJob_runs hb (by nofun) ref]
    exact ⟨rfl, sameBut_host_ros _ _ _, rfl, rfl⟩
  · have ref := fuseRefusal_lock (s := s) (j := lockJob 2) rfl rfl hl
    rw [hv] at ref
    refine ⟨_, fuseLock_served h hb rfl (by decide) hp, ?_⟩
    rw [askJob_refused h.toAtFront hb rfl rfl (by nofun) ref]
    exact ⟨rfl, sameBut_host_ros _ _ _, rfl⟩

end Sys2Proof.Proofs

end

section
/-! PROOFS. The services of firmware bundles: FW_STAGE by phase, and FW_ACTIVATE. -/

set_option Elab.async false

namespace Sys2Proof.Mailbox
open Sys2Proof.Machine Sys2Proof.Safety Sys2Proof.Laws

variable {s : State} {r : Request} {q : List Request}

/-! ### FW_STAGE (R259, R41) -/

/-- A payload of FW_STAGE begins with its phase. -/
theorem fw_payload {phase : Nat} {bs : List Byte} (hp : r.payload = [byte phase, 0, 0, 0] ++ bs) (hl : 4 ≤ bs.length) (hph : phase < 3) :
    leAt r.payload 0 1 = phase ∧ fwForm phase r = true := by
  have e : leAt r.payload 0 1 = phase := by
    rw [hp]
    exact leAt_byte phase _ (by omega)
  refine ⟨e, ?_⟩
  unfold fwForm
  rw [e, hp]
  simp [allZero]
  omega

/-- The phase that a request names is the one that takes it. -/
theorem fwFront_of {phase : Nat} (h : AtFront r q s) (hc : r.cmd = 0xC0) (he : leAt r.payload 0 1 = phase) (hph : phase < 3) :
    s.fwFront phase = true := by
  unfold State.fwFront
  rw [front_eq h hc]
  dsimp only
  rw [he, Nat.min_eq_right (by omega), beq_self_eq_true]
  rfl

theorem fwStageBegin_eq (h : s.fwFront 0 = true) : exec .fwStageBegin s = .next (s.serve 0xC0
    (fun r => fwForm 0 r && lenIs 8 r && decide (leAt r.payload 4 4 ≤ maxBundle)) (fun r s =>
      if s.bundles.handover.isSome then s.respond r stBUSY_RETRY []
      else (s.putStaging ⟨leAt r.payload 4 4, [], false, []⟩).respond r stOK [])) :=
  congrArg Host.Outcome.next (if_neg (by rw [h]; nofun))

/-- FW_STAGE of bytes, on what is staged. -/
def bundleFilled (off : Nat) (data : List Byte) (r : Request) (s : State) : State :=
  match s.bundles.staging with
  | none => s.respond r stNOT_STAGED []
  | some t =>
    if t.ended then s.respond r stWRONG_STATE []
    else if t.length < off + data.length then s.respond r stBAD_FORMAT []
    else (s.putStaging { t with mem := stageWrite t.mem off data }).respond r stOK []

theorem fwStageData_eq (h : s.fwFront 1 = true) : exec .fwStageData s = .next (s.serve 0xC0
    (fun r => fwForm 1 r && decide (9 ≤ r.payload.length ∧ r.payload.length ≤ 4080))
    (fun r s => bundleFilled (leAt r.payload 4 4) (r.payload.drop 8) r s)) :=
  congrArg Host.Outcome.next (if_neg (by rw [h]; nofun))

/-- The end of FW_STAGE, on what is staged. -/
def bundleEnded (r : Request) (s : State) : State :=
  match s.bundles.staging with
  | none => s.respond r stNOT_STAGED []
  | some t =>
    if t.ended then s.respond r stWRONG_STATE []
    else if !t.full then s.respond r stFW_BAD []
    else match s.bundleCheck t.bytes with
      | .error e => s.respond r e []
      | .ok m => (s.putStaging { t with ended := true }).respond r stOK (leBytes 4 m.version ++ leBytes 2 m.epoch ++ zeros 2)

theorem fwStageEnd_eq (h : s.fwFront 2 = true) : exec .fwStageEnd s = .next (s.serve 0xC0
    (fun r => fwForm 2 r && lenIs 8 r && leAt r.payload 4 4 == 0) bundleEnded) :=
  congrArg Host.Outcome.next (if_neg (by rw [h]; nofun))

theorem bundleFilled_queue (off : Nat) (data : List Byte) (r : Request) (s : State) : (bundleFilled off data r s).host.queue = s.host.queue := by
  unfold bundleFilled
  split
  · rfl
  split
  · rfl
  split <;> rfl

theorem bundleEnded_queue (r : Request) (s : State) : (bundleEnded r s).host.queue = s.host.queue := by
  unfold bundleEnded
  split
  · rfl
  split
  · rfl
  split
  · rfl
  split <;> rfl

theorem fwStageBegin_served {n : Nat} (h : Served 0xC0 r q s) (hn : n ≤ 12582912) (hp : r.payload = [0, 0, 0, 0] ++ leBytes 4 n) :
    exec .fwStageBegin s = .next (if s.bundles.handover.isSome then answered r q stBUSY_RETRY [] s
      else ((popped q s).putStaging ⟨n, [], false, []⟩).respond r stOK []) := by
  obtain ⟨e, form⟩ := fw_payload (phase := 0) hp (by simp) (by decide)
  have e4 : leAt r.payload 4 4 = n := by
    rw [hp]
    exact leAt_last _ 4 4 n rfl (by omega)
  rw [fwStageBegin_eq (fwFront_of h.toAtFront h.cmd e (by decide)), serve_queue _ h]
  · rw [e4]
    rfl
  · rw [form, e4, lenIs, hp]
    simp [maxBundle, hn]
  · split <;> rfl

theorem fwStageData_served {off : Nat} {data : List Byte} (h : Served 0xC0 r q s) (ho : off < 2 ^ 32) (h1 : 1 ≤ data.length)
    (h2 : data.length ≤ 4072) (hp : r.payload = [1, 0, 0, 0] ++ leBytes 4 off ++ data) :
    exec .fwStageData s = .next (bundleFilled off data r (popped q s)) := by
  have hp2 : r.payload = [byte 1, 0, 0, 0] ++ (leBytes 4 off ++ data) := by rw [hp, List.append_assoc]; rfl
  obtain ⟨e, form⟩ := fw_payload (phase := 1) hp2 (by simp) (by decide)
  have e4 : leAt r.payload 4 4 = off := by
    rw [hp2]
    exact leAt_next _ _ 4 4 off rfl (by omega)
  have hd : r.payload.drop 8 = data := by
    rw [hp]
    exact List.drop_left' (by simp)
  rw [fwStageData_eq (fwFront_of h.toAtFront h.cmd e (by decide)),
    serve_queue (fun r s => bundleFilled (leAt r.payload 4 4) (r.payload.drop 8) r s) h _ (bundleFilled_queue ..), e4, hd]
  rw [form, hp]
  simp
  omega

theorem fwStageEnd_served (h : Served 0xC0 r q s) (hp : r.payload = [2, 0, 0, 0, 0, 0, 0, 0]) :
    exec .fwStageEnd s = .next (bundleEnded r (popped q s)) := by
  obtain ⟨e, form⟩ := fw_payload (phase := 2) (bs := [0, 0, 0, 0]) hp (by simp) (by decide)
  rw [fwStageEnd_eq (fwFront_of h.toAtFront h.cmd e (by decide)), serve_queue _ h _ (bundleEnded_queue ..)]
  rw [form, lenIs, hp]
  rfl

/-! ### FW_ACTIVATE (R44, R265) -/

/-- FW_ACTIVATE of a version. -/
def activated (v : Nat) (r : Request) (s : State) : State :=
  match s.bundles.staging with
  | none => s.respond r stNOT_STAGED []
  | some t =>
    if !t.ended then s.respond r stNOT_STAGED []
    else match s.bundleCheck t.bytes with
      | .error e => s.respond r e []
      | .ok m =>
        if m.version ≠ v then s.respond r stFW_VERSION []
        else if s.dev.st = .safe ∨ s.dev.st = .maintenance then s.activateByReset r m
        else match s.dev.st, s.bundles.manifest with
          | .run, some old => if s.handoverAllowed old m then s.startHandover r old m else s.respond r stFW_NEEDS_SAFE []
          | _, _ => s.respond r stFW_NEEDS_SAFE []

theorem fwActivate_eq (s : State) : exec .fwActivate s = .next (s.serve 0xC1 (lenIs 4) (fun r s => activated (leAt r.payload 0 4) r s)) := rfl

theorem fwActivate_served {v : Nat} (h : Served 0xC1 r q s) (hv : v < 2 ^ 32) (hp : r.payload = leBytes 4 v) :
    exec .fwActivate s = .next ((activated v r (popped q s)).settle) := by
  have e : leAt r.payload 0 4 = v := by
    rw [hp]
    exact leAt_all (by omega)
  rw [fwActivate_eq, serve_act _ h (by simp [lenIs, hp]), e]

end Sys2Proof.Mailbox

end

section
/-! PROOFS. Staged and activated bundles (R41, R44, R265). O20. -/

set_option Elab.async false

namespace Sys2Proof.Proofs
open Sys2Proof.Machine Sys2Proof.Safety Sys2Proof.Laws Sys2Proof.Mailbox

/-- What an activation by reset leaves (R265). -/
theorem activateByReset_gives (s : State) (r : Request) (m : Manifest) :
    let t := s.activateByReset r m
    t.dev.st = .reset ∧ t.pwr.resetCause = 3 ∧ t.host.queue = [] ∧ t.host.waiting = [] ∧ t.host.session = 0 ∧ t.host.ready = false ∧
      t.host.rsp = [r.response s.host.session stOK [1, 0, 0, 0]] ∧ t.ros.fuses = s.ros.fuses ∧ t.field.dies = s.field.dies ∧
      (t.bundles.bank s.inactiveBundle).activation = ((s.bundles.bank (1 - s.inactiveBundle)).activation + 1) % 2 ^ 32 := by
  have recorded : ∀ (u : State) (i : Nat), ∃ o, u.recordBundle i m = { u with oxb := o } := by
    intro u i
    unfold State.recordBundle
    split
    · exact ⟨u.oxb, rfl⟩
    · exact ⟨_, rfl⟩
  obtain ⟨o, e⟩ := recorded (s.activate s.inactiveBundle) s.inactiveBundle
  unfold State.activateByReset
  dsimp only
  rw [e]
  refine ⟨rfl, rfl, rfl, rfl, rfl, rfl, rfl, rfl, rfl, ?_⟩
  generalize s.inactiveBundle = i
  show ((BundleSt.stored (s.bundles.setBank i { s.bundles.bank i with
    activation := ((s.bundles.bank (1 - i)).activation + 1) % 2 ^ 32 })).bank i).activation = _
  unfold BundleSt.stored BundleSt.setBank BundleSt.bank
  by_cases h : i = 0
  · simp [h]
  · simp [h]

/-- Settles O20: the outcomes of the three phases of FW_STAGE, and the two paths of FW_ACTIVATE. -/
theorem firmwareStagedAndActivated : Obligations.FirmwareStagedAndActivated := by
  unfold Obligations.FirmwareStagedAndActivated
  constructor
  · intro s r q h i
    refine ⟨fun n hn hp => ⟨fun hh => ?_, fun hh => ?_⟩, fun off data ho h1 h2 hp => ⟨fun hs => ?_, fun x hx => ⟨fun he => ?_, fun he hl => ?_, fun he hl => ?_⟩⟩,
      fun hp => ⟨fun hs => ?_, fun x hx he => ⟨fun hf => ?_, fun e hf hc => ?_, fun m hf hc => ?_⟩⟩⟩
    · rw [fwStageBegin_served h hn hp, if_pos hh]
    · rw [fwStageBegin_served h hn hp, if_neg (by rw [hh]; nofun)]
      have e : (if (⟨n, [], false, []⟩ : Staging).full then (⟨n, [], false, []⟩ : Staging).bytes else []) = [] := by
        split <;> rfl
      unfold State.putStaging
      dsimp only
      rw [e]
      rfl
    · rw [fwStageData_served h ho h1 h2 hp, bundleFilled, show (popped q s).bundles.staging = none from hs]
      rfl
    · rw [fwStageData_served h ho h1 h2 hp, bundleFilled, show (popped q s).bundles.staging = some x from hx]
      dsimp only
      rw [if_pos he]
      rfl
    · rw [fwStageData_served h ho h1 h2 hp, bundleFilled, show (popped q s).bundles.staging = some x from hx]
      dsimp only
      rw [if_neg (by rw [he]; nofun), if_pos hl]
      rfl
    · rw [fwStageData_served h ho h1 h2 hp, bundleFilled, show (popped q s).bundles.staging = some x from hx]
      dsimp only
      rw [if_neg (by rw [he]; nofun), if_neg (by omega)]
      rfl
    · rw [fwStageEnd_served h hp, bundleEnded, show (popped q s).bundles.staging = none from hs]
      rfl
    · rw [fwStageEnd_served h hp, bundleEnded, show (popped q s).bundles.staging = some x from hx]
      dsimp only
      rw [if_neg (by rw [he]; nofun), hf]
      rfl
    · rw [fwStageEnd_served h hp, bundleEnded, show (popped q s).bundles.staging = some x from hx]
      dsimp only
      rw [if_neg (by rw [he]; nofun), hf, show (popped q s).bundleCheck x.bytes = .error e from hc]
      rfl
    · rw [fwStageEnd_served h hp, bundleEnded, show (popped q s).bundles.staging = some x from hx]
      dsimp only
      rw [if_neg (by rw [he]; nofun), hf, show (popped q s).bundleCheck x.bytes = .ok m from hc]
      have e : (if (⟨x.length, x.mem, true, x.hash⟩ : Staging).full then (⟨x.length, x.mem, true, x.hash⟩ : Staging).bytes else []) = x.bytes := if_pos hf
      unfold State.putStaging
      dsimp only
      rw [e]
      rfl
  · intro s r q x m v h hv hp hx
    have done := fwActivate_served h hv hp
    unfold activated at done
    rw [show (popped q s).bundles.staging = some x from hx] at done
    dsimp only at done
    have kept : ∀ {t : State}, t.host.queue = q → t.settle = t := settle_behind h.toAtFront
    refine ⟨fun he => ?_, fun he hc => ?_⟩
    · rw [if_pos (by rw [he]; rfl), kept rfl] at done
      exact done
    rw [if_neg (by rw [he]; nofun), show (popped q s).bundleCheck x.bytes = .ok m from hc] at done
    dsimp only at done
    refine ⟨fun hm => ?_, fun hm hst => ?_, fun old hm hst ho ha => ?_, fun old hm hst ho ha => ?_⟩
    · rw [if_pos hm, kept rfl] at done
      exact done
    all_goals rw [if_neg (not_not.2 hm)] at done
    · rw [if_pos (by exact hst)] at done
      have g := activateByReset_gives (popped q s) r m
      obtain ⟨-, -, empty, -⟩ := id g
      have e : ((popped q s).activateByReset r m).settle = (popped q s).activateByReset r m := settle_eq_self _ (by rw [empty]; nofun)
      rw [e] at done
      exact ⟨_, done, g⟩
    all_goals
      have hrun : (popped q s).dev.st = .run := hst
      rw [hrun, show (popped q s).bundles.manifest = some old from ho, if_neg (by rintro (k | k) <;> cases k)] at done
      dsimp only at done
    · rw [if_pos (by exact ha), kept rfl] at done
      exact done
    · rw [if_neg (by rw [show (popped q s).handoverAllowed old m = false from ha]; nofun), kept rfl] at done
      exact done

end Sys2Proof.Proofs

end

section
/-! PROOFS. What an occurrence never takes back: live instances, sticky bits, the latch, the way out of RUN. -/

set_option Elab.async false

namespace Sys2Proof.Occurrence
open Sys2Proof.Machine Sys2Proof.Safety Sys2Proof.Laws

/-! ### What an occurrence never takes back (R290 to R294) -/

/-- What is live stays live, and a sticky bit set; SAFE is left for LATCHED alone, and LATCHED not at all; the device-safe line and the latch
stay. -/
structure Grows (s t : State) : Prop where
  live : ∀ b i n, s.isLive b i n = true → t.isLive b i n = true := by exact fun _ _ _ h => h
  sticky : ∀ b j, (s.words b).sticky.getLsbD j = true → (t.words b).sticky.getLsbD j = true := by exact fun _ _ h => h
  safe : s.dev.st = .safe ∨ s.dev.st = .latched → t.dev.st = .safe ∨ t.dev.st = .latched := by exact id
  latched : s.dev.st = .latched → t.dev.st = .latched := by exact id
  line : s.dev.safeLine = true → t.dev.safeLine = true := by exact id
  latch : s.pwr.latch = true → t.pwr.latch = true := by exact id

variable {s0 s t u : State}

theorem Grows.refl (s : State) : Grows s s := {}

theorem Grows.trans (h : Grows s t) (k : Grows t u) : Grows s u :=
  ⟨fun b i n x => k.live b i n (h.live b i n x), fun b j x => k.sticky b j (h.sticky b j x), k.safe ∘ h.safe, k.latched ∘ h.latched,
    k.line ∘ h.line, k.latch ∘ h.latch⟩

theorem Grows.ite {c : Prop} [Decidable c] (h : Grows s t) (k : Grows s u) : Grows s (if c then t else u) := by
  split <;> assumption

theorem Grows.foldl {α : Type} {f : State → α → State} (hf : ∀ s a, Grows s (f s a)) (l : List α) (s : State) : Grows s (l.foldl f s) :=
  List.foldlRecOn (motive := Grows s) l f (.refl s) fun t ht a _ => ht.trans (hf t a)

/-- A state in which the faults, the device state and PD0 are as they were. -/
theorem Grows.of_sameBut {ps : List Part} (h : SameBut ps s t) (hf : Part.faults ∉ ps := by decide) (hd : Part.dev ∉ ps := by decide)
    (hp : Part.pwr ∉ ps := by decide) : Grows s t := by
  have ef : t.faults = s.faults := h .faults hf
  have ed : t.dev = s.dev := h .dev hd
  have ep : t.pwr = s.pwr := h .pwr hp
  refine ⟨fun b i n => ?_, fun b j => ?_, ?_, ?_, ?_, ?_⟩
  · unfold State.isLive
    rw [ef]
    exact id
  · unfold State.words
    rw [ef]
    exact id
  all_goals first | rw [ed]; exact id | rw [ep]; exact id

/-- Live instances whose other fields change. -/
theorem isLive_map {f : LiveInst → LiveInst} (hf : ∀ l, (f l).block = l.block ∧ (f l).index = l.index ∧ (f l).inst = l.inst)
    (l : List LiveInst) (b i n : Nat) :
    (l.map f).any (fun l => l.block == b && l.index == i && l.inst == n) = l.any (fun l => l.block == b && l.index == i && l.inst == n) := by
  rw [List.any_map]
  congr 1
  funext x
  obtain ⟨h1, h2, h3⟩ := hf x
  simp only [Function.comp_apply, h1, h2, h3]

/-! ### Oxbow -/

theorem closeRecord_grows (s : State) (o : OpenRec) (fl : Nat) : Grows s (s.closeRecord o fl) := by
  unfold State.closeRecord State.waitForSlot
  refine .ite (.ite (.refl s) {}) ?_
  extract_lets code mine n r done key o2 f2 s1 n2
  have h1 : Grows s s1 := { live := fun b i n h => (isLive_map (fun l => by split <;> exact ⟨rfl, rfl, rfl⟩) _ b i n).trans h }
  exact .ite (h1.trans {}) h1

theorem closeAll_grows (s : State) (fl : Nat) : Grows s (s.closeAll fl) := .foldl (fun _ _ => closeRecord_grows ..) ..

theorem closeDue_grows (s : State) (code inst : Nat) : Grows s (s.closeDue code inst) := by
  unfold State.closeDue
  split
  · exact .refl s
  · exact .ite (closeRecord_grows ..) (.refl s)

theorem oxbCount_grows (s : State) (code inst sev : Nat) (injected : Bool) : Grows s (s.oxbCount code inst sev injected).1 :=
  .trans (t := s.makeWay code inst) (.ite (.trans (closeDue_grows ..) (closeDue_grows ..)) (closeDue_grows ..)) {}

theorem flushTrigger_grows (s : State) (k : FlushKind) : Grows s (s.flushTrigger k) := by
  unfold State.flushTrigger
  extract_lets a s1
  have h1 : Grows s s1 := {}
  split
  · exact h1.trans {}
  · exact .ite (.trans (h1.trans (closeAll_grows ..)) {}) (h1.trans {})

theorem flushForFault_grows (s : State) : Grows s s.flushForFault := by
  unfold State.flushForFault
  split
  · exact .ite {} (flushTrigger_grows ..)
  · exact flushTrigger_grows ..

theorem passToOxbow_grows (s : State) (b i inst sev : Nat) (injected : Bool) : Grows s (s.passToOxbow b i inst sev injected).1 := by
  unfold State.passToOxbow
  split
  · exact {}
  split
  · split
    · exact {}
    · exact {}
  · exact oxbCount_grows ..

/-! ### Device transitions -/

/-- An arrival in SAFE from RUN or VERIFY, or in LATCHED. -/
theorem enter_grows (s : State) {st : DevState} (reason : Nat) (h : st = .latched ∨ st = .safe ∧ s.dev.st ≠ .latched) :
    Grows s (s.enter st reason) := by
  by_cases e : s.dev.st = st
  · rw [enter_same reason e]
    exact .refl s
  have dev := enter_dev reason e
  have f := enter_frame (s := s) (st := st) reason
  generalize s.enter st reason = u at *
  refine ⟨fun b i n x => ?_, fun b j x => ?_, fun x => ?_, fun x => ?_, fun x => ?_, fun x => ?_⟩
  · rw [f]
    exact x
  · rw [f]
    exact x
  · rw [dev]
    rcases h with h | h
    · exact .inr h
    · exact .inl h.1
  · rw [dev]
    rcases h with h | h
    · exact h
    · exact absurd x h.2
  · rw [dev]
    exact x
  · rw [f]
    exact x

theorem latchNow_grows (s : State) : Grows s s.latchNow :=
  .ite (.trans (.trans { latch := fun _ => rfl } (flushTrigger_grows ..)) (enter_grows _ _ (.inl rfl))) (.refl s)

theorem safeNow_grows (s : State) (reason : Nat) : Grows s (s.safeNow reason) := by
  unfold State.safeNow
  extract_lets d s1
  have h1 : Grows s s1 := { line := fun _ => rfl }
  split
  · next h =>
    refine h1.trans (enter_grows _ _ (.inr ⟨rfl, ?_⟩))
    rcases h with h | h <;> rw [h] <;> nofun
  · exact h1

theorem touchLines_grows (s : State) (ns : List Nat) : Grows s (s.touchLines ns) := .foldl (fun _ _ => {}) ..

/-! ### Reactions -/

theorem react_grows (s : State) (b i inst sev reacts : Nat) : Grows s (s.react b i inst sev reacts) := by
  unfold State.react
  extract_lets +onlyGivenNames f s1 h s2
  have h1 : Grows s s1 := .ite {} (.refl s)
  have h2 : Grows s s2 := .ite (h1.trans {}) h1
  exact .ite h2 (.ite (h2.trans {}) (.ite (h2.trans {}) h2))

theorem severityEffect_grows (s : State) (b i inst sev : Nat) : Grows s (s.severityEffect b i inst sev) := by
  unfold State.severityEffect
  extract_lets +onlyGivenNames f s1 s2 s3
  have h1 : Grows s s1 := by
    unfold s1
    split
    · exact .ite {} (.refl s)
    · exact .refl s
  have h2 : Grows s s2 := .ite (h1.trans (touchLines_grows ..)) (.ite (h1.trans (touchLines_grows ..)) h1)
  have h3 : Grows s s3 := .ite (h2.trans (flushForFault_grows ..)) h2
  exact .ite (h3.trans (latchNow_grows ..)) (.ite (h3.trans (safeNow_grows ..)) h3)

theorem crst_grows (s : State) : Grows s s.crst := .trans (.trans { line := fun _ => rfl } (touchLines_grows ..)) (flushTrigger_grows ..)

theorem extend_grows (s : State) (src : Source) (b i inst who : Nat) : Grows s (s.extend src b i inst who) := by
  unfold State.extend
  extract_lets s1
  have h1 : Grows s s1 := .ite (.refl s) (passToOxbow_grows ..)
  exact h1.trans { live := fun b i n h => (isLive_map (fun l => by split <;> exact ⟨rfl, rfl, rfl⟩) _ b i n).trans h }

theorem takeReactions_grows {brst : State → Nat → State} (s : State) {b : Nat} (hb : ∀ s, Grows s (brst s b)) (i inst sev reacts : Nat) :
    Grows s (s.takeReactions brst b i inst sev reacts) := by
  unfold State.takeReactions
  extract_lets s1 s2 s3
  have h2 : Grows s s2 := .trans (react_grows ..) (severityEffect_grows ..)
  have h3 : Grows s s3 := .ite (h2.trans (hb _)) h2
  exact .ite (h3.trans (crst_grows _)) h3

/-! ### The bit of an occurrence -/

theorem getLsbD_setBit (w : BitVec 128) (i j : Nat) : (setBit w i).getLsbD j = (w.getLsbD j || (decide (j < 128) && decide (j = i))) := by
  unfold setBit
  rw [BitVec.getLsbD_or, BitVec.getLsbD_shiftLeft]
  congr 1
  by_cases h1 : j < 128
  · by_cases h2 : j = i
    · subst h2
      simp [h1]
    · by_cases h3 : j < i
      · simp [h2, h3]
      · have : j - i ≠ 0 := by omega
        simp [h2, h3, BitVec.getLsbD_one, this]
  · simp [h1]

/-- A source of the table has an index of its block's words. -/
theorem sourceOf_lt {b i : Nat} {src : Source} (h : sourceOf b i = some src) : i < 128 := by
  have listed : ∀ {l : List Source}, l[i]? = some src → l.length ≤ 128 → i < 128 := fun h hl =>
    (List.getElem?_eq_some_iff.1 h).1.trans_le hl
  have paired : pairSource b i = some src → i < 128 := by
    intro h
    unfold pairSource at h
    split at h
    case h_11 => cases h
    all_goals decide
  unfold sourceOf at h
  split at h
  · split at h
    · cases h
    · exact paired h
  iterate 9
    split at h
    · exact listed h (by decide)
  split at h
  · next hc => exact hc.2.2
  · cases h

/-- An instance with its sticky bit and its LIVE (R291): what stood at the key before is replaced. -/
def occurred (s : State) (b i : Nat) (new : LiveInst) : State :=
  let s := s.setWords b { s.words b with sticky := setBit (s.words b).sticky i }
  { s with faults := { s.faults with
    live := s.faults.live.filter (fun l => !(l.block == new.block && l.index == new.index && l.inst == new.inst)) ++ [new] } }

theorem occurred_grows (s : State) (b i : Nat) (new : LiveInst) : Grows s (occurred s b i new) := by
  refine { live := fun b' i' n h => ?_, sticky := fun b' j h => ?_ }
  · obtain ⟨l, hl, hk⟩ := List.any_eq_true.1 h
    refine List.any_eq_true.2 ?_
    by_cases e : (l.block == new.block && l.index == new.index && l.inst == new.inst) = true
    · refine ⟨new, List.mem_append_right _ (List.mem_singleton_self _), ?_⟩
      simp only [Bool.and_eq_true, beq_iff_eq] at e hk ⊢
      obtain ⟨⟨e1, e2⟩, e3⟩ := e
      rw [← e1, ← e2, ← e3]
      exact hk
    · exact ⟨l, List.mem_append_left _ (List.mem_filter.2 ⟨hl, by rw [Bool.eq_false_iff.2 e]; rfl⟩), hk⟩
  · show ((s.faults.words.put b { s.words b with sticky := setBit (s.words b).sticky i }).getD b' {}).sticky.getLsbD j = true
    rw [tab_getD_put]
    split
    · next e =>
      subst e
      rw [getLsbD_setBit, h, Bool.true_or]
    · exact h

end Sys2Proof.Occurrence

end

section
/-! PROOFS. The parts that the steps of an occurrence write, and the severities of Table 13.2. -/

set_option Elab.async false

namespace Sys2Proof.Occurrence
open Sys2Proof.Machine Sys2Proof.Safety Sys2Proof.Laws

variable {s t : State}

/-! ### Which parts an occurrence's steps write -/

theorem closeAll_sameBut (s : State) (fl : Nat) : SameBut [.oxb, .faults] s (s.closeAll fl) := .foldl (fun _ _ => closeRecord_sameBut _ _ _) _ _

theorem closeDue_sameBut (s : State) (code inst : Nat) : SameBut [.oxb, .faults] s (s.closeDue code inst) := by
  unfold State.closeDue
  split
  · exact .refl _ s
  · exact .ite (closeRecord_sameBut _ _ _) (.refl _ s)

theorem oxbCount_sameBut (s : State) (code inst sev : Nat) (injected : Bool) : SameBut [.oxb, .faults] s (s.oxbCount code inst sev injected).1 :=
  SameBut.trans (t := s.makeWay code inst)
    (.ite (.trans (closeDue_sameBut _ _ _) (closeDue_sameBut _ _ _)) (closeDue_sameBut _ _ _)) (sameBut_oxb _ _).mono

theorem flushQueue_sameBut (s : State) (k : FlushKind) : SameBut [.oxb] s (s.flushQueue k) := sameBut_oxb _ _

theorem flushTrigger_sameBut (s : State) (k : FlushKind) : SameBut [.oxb, .faults] s (s.flushTrigger k) := by
  unfold State.flushTrigger
  extract_lets a s1
  have h1 : SameBut [.oxb, .faults] s s1 := (sameBut_oxb _ _).mono
  split
  · exact h1.trans (flushQueue_sameBut _ _).mono
  · exact .ite ((h1.trans (closeAll_sameBut _ _)).trans (sameBut_oxb _ _).mono) (h1.trans (flushQueue_sameBut _ _).mono)

theorem flushForFault_sameBut (s : State) : SameBut [.oxb, .faults] s s.flushForFault := by
  unfold State.flushForFault
  split
  · exact .ite (sameBut_oxb _ _).mono (flushTrigger_sameBut _ _)
  · exact flushTrigger_sameBut _ _

theorem passToOxbow_sameBut (s : State) (b i inst sev : Nat) (injected : Bool) :
    SameBut [.oxb, .faults, .pwr] s (s.passToOxbow b i inst sev injected).1 := by
  unfold State.passToOxbow
  split
  · exact (sameBut_pwr _ _).mono
  split
  · split
    · exact (sameBut_faults _ _).mono
    · exact (sameBut_faults _ _).mono
  · exact (oxbCount_sameBut _ _ _ _ _).mono

theorem touchLines_sameBut (s : State) (ns : List Nat) : SameBut [.cells] s (s.touchLines ns) := .foldl (fun _ _ => sameBut_cells _ _) _ _

theorem react_sameBut (s : State) (b i inst sev reacts : Nat) : SameBut [.faults, .host] s (s.react b i inst sev reacts) := by
  unfold State.react
  extract_lets +onlyGivenNames f s1 h s2
  have h1 : SameBut [.faults, .host] s s1 := .ite (sameBut_faults _ _).mono (.refl _ s)
  have h2 : SameBut [.faults, .host] s s2 := .ite (h1.trans (sameBut_host _ _).mono) h1
  exact .ite h2 (.ite (h2.trans (sameBut_faults _ _).mono) (.ite (h2.trans (sameBut_faults _ _).mono) h2))

/-! ### The severities (Table 13.2) -/

/-- What S3 and S4 add to what every severity does. -/
theorem severityEffect_parts (s : State) (b i inst sev : Nat) : ∃ u, SameBut [.oxb, .faults, .cells] s u ∧
    s.severityEffect b i inst sev = if 4 ≤ sev then u.latchNow else if sev = 3 then u.safeNow (if b = bPWR ∧ i = 0 then sPFAIL else sFAULT) else u := by
  unfold State.severityEffect
  extract_lets +onlyGivenNames f s1 s2 s3
  have h1 : SameBut [.oxb, .faults, .cells] s s1 := by
    unfold s1
    split
    · exact .ite (sameBut_faults _ _).mono (.refl _ s)
    · exact .refl _ s
  have h2 : SameBut [.oxb, .faults, .cells] s s2 :=
    .ite (h1.trans (touchLines_sameBut _ _).mono) (.ite (h1.trans (touchLines_sameBut _ _).mono) h1)
  exact ⟨s3, .ite (h2.trans (flushForFault_sameBut _).mono) h2, rfl⟩

theorem latchNow_latched (h : s.dev.st.latches = true) : s.latchNow.dev.st = .latched ∧ s.latchNow.pwr.latch = true := by
  unfold State.latchNow
  rw [if_pos h]
  generalize hu : State.flushTrigger { s with pwr := { s.pwr with latch := true } } .full = u
  have k : SameBut [.oxb, .faults] { s with pwr := { s.pwr with latch := true } } u := hu ▸ flushTrigger_sameBut _ _
  have dev : u.dev = s.dev := k .dev (by decide)
  have pwr : u.pwr = { s.pwr with latch := true } := k .pwr (by decide)
  have ne : u.dev.st ≠ .latched := by
    rw [dev]
    intro e
    rw [e] at h
    cases h
  rw [enter_dev _ ne, enter_frame]
  exact ⟨rfl, by show u.pwr.latch = true; rw [pwr]⟩

theorem safeNow_safe (reason : Nat) (h : s.dev.st = .run ∨ s.dev.st = .verify) :
    (s.safeNow reason).dev.st = .safe ∧ (s.safeNow reason).dev.safeLine = true := by
  unfold State.safeNow
  dsimp only
  rw [if_pos h.symm, enter_dev]
  · exact ⟨rfl, rfl⟩
  · rcases h with h | h <;> simp only [h] <;> nofun

/-- RUN and VERIFY are left at S3 and above. -/
theorem severityEffect_leaves (b i inst : Nat) {sev : Nat} (h3 : 3 ≤ sev) (h : s.dev.st = .run ∨ s.dev.st = .verify) :
    let t := s.severityEffect b i inst sev
    (t.dev.st = .safe ∨ t.dev.st = .latched) ∧ (sev = 3 → t.dev.safeLine = true) := by
  obtain ⟨u, k, e⟩ := severityEffect_parts s b i inst sev
  have dev : u.dev = s.dev := k .dev (by decide)
  have hu : u.dev.st = .run ∨ u.dev.st = .verify := by rwa [dev]
  intro t
  show (t.dev.st = .safe ∨ t.dev.st = .latched) ∧ (sev = 3 → t.dev.safeLine = true)
  have et : t = _ := e
  rw [et]
  by_cases h4 : 4 ≤ sev
  · rw [if_pos h4]
    have l : u.dev.st.latches = true := by rcases hu with h | h <;> rw [h] <;> rfl
    exact ⟨.inr (latchNow_latched l).1, fun e => by omega⟩
  · rw [if_neg h4, if_pos (by omega)]
    obtain ⟨h1, h2⟩ := safeNow_safe (s := u) (if b = bPWR ∧ i = 0 then sPFAIL else sFAULT) hu
    exact ⟨.inl h1, fun _ => h2⟩

theorem severityEffect_latches (b i inst : Nat) {sev : Nat} (h4 : 4 ≤ sev) (h : s.dev.st.latches = true) :
    (s.severityEffect b i inst sev).dev.st = .latched ∧ (s.severityEffect b i inst sev).pwr.latch = true := by
  obtain ⟨u, k, e⟩ := severityEffect_parts s b i inst sev
  have dev : u.dev = s.dev := k .dev (by decide)
  rw [e, if_pos h4]
  exact latchNow_latched (by rwa [dev])

/-! ### An occurrence -/

/-- The live instance that an occurrence makes. -/
def newInstance (v : State) (src : Source) (b i inst who sev reacts : Nat) (inRec : Option Nat) : LiveInst :=
  { block := b, index := i, inst := inst, rise := v.nowUs, last := v.time.tick, sev := sev
    holders := if src.cond then who else 0, inRec := inRec, reacts := reacts }

/-- A key at which nothing is live holds no instance that an event would extend. -/
theorem fresh_of_dead {b i inst : Nat} (hl : s.isLive b i inst = false) :
    s.faults.live.any (fun l => (l.block == b && l.index == i && l.inst == inst) && !l.stale) = false := by
  refine List.any_eq_false.2 fun l hm h => ?_
  simp only [Bool.and_eq_true] at h
  exact List.any_eq_false.1 hl l hm (by simp only [Bool.and_eq_true]; exact h.1)

/-- An occurrence of a source that is not live: its sticky bit and its instance are set, and then its reactions follow. -/
theorem raiseWith_occurs {brst : State → Nat → State} {b i inst : Nat} (who : Nat) {src : Source} (hs : sourceOf b i = some src)
    (hu : b < 0x20 ∨ s.inUse inst = true)
    (fresh : s.faults.live.any (fun l => (l.block == b && l.index == i && l.inst == inst) && !l.stale) = false) :
    ∃ v new, new.block = b ∧ new.index = i ∧ new.inst = inst ∧ SameBut [.oxb, .faults, .pwr] s v ∧ Grows s v ∧
      s.raiseWith brst b i inst who =
        (occurred v b i new).takeReactions brst b i inst (s.effective b i inst).1 (s.effective b i inst).2 := by
  unfold State.raiseWith
  rw [hs]
  dsimp only
  rw [if_neg (by rcases hu with h | h; simp; omega; simp [h]), fresh, if_neg (by nofun)]
  generalize s.effective b i inst = x
  obtain ⟨sev, reacts⟩ := x
  dsimp only
  have k := passToOxbow_sameBut s b i inst sev false
  have g := passToOxbow_grows s b i inst sev false
  generalize s.passToOxbow b i inst sev false = y at k g ⊢
  obtain ⟨v, rec_⟩ := y
  exact ⟨v, newInstance v src b i inst who sev reacts rec_, rfl, rfl, rfl, k, g, rfl⟩

end Sys2Proof.Occurrence

end

section
/-! PROOFS. Occurrences and conditions (R291, R293). O21. -/

set_option Elab.async false

namespace Sys2Proof.Occurrence
open Sys2Proof.Machine Sys2Proof.Safety Sys2Proof.Laws

variable {s t : State}

/-! ### Block resets take nothing back -/

theorem raiseWith_grows {brst : State → Nat → State} (s : State) {b : Nat} (hb : ∀ s, Grows s (brst s b)) (i inst who : Nat) :
    Grows s (s.raiseWith brst b i inst who) := by
  cases hs : sourceOf b i with
  | none =>
    rw [raise_undefined hs]
    exact .refl s
  | some src =>
    by_cases hu : 0x20 ≤ b ∧ s.inUse inst = false
    · rw [raise_unused hu.1 hu.2]
      exact .refl s
    cases fresh : s.faults.live.any (fun l => (l.block == b && l.index == i && l.inst == inst) && !l.stale) with
    | true =>
      rw [raise_live hs hu fresh]
      exact extend_grows ..
    | false =>
      have used : b < 0x20 ∨ s.inUse inst = true := by
        rw [not_and_or, Nat.not_le, Bool.not_eq_false] at hu
        exact hu
      obtain ⟨v, new, -, -, -, -, g, e⟩ := raiseWith_occurs (brst := brst) who hs used fresh
      rw [e]
      exact (g.trans (occurred_grows ..)).trans (takeReactions_grows _ hb ..)

theorem groupRestart_grows (s : State) (g : Nat) : Grows s (s.groupRestart g) := .foldl (fun _ _ => .ite (.refl _) {}) ..

theorem abortSlice_grows (s : State) : Grows s s.abortSlice := by
  unfold State.abortSlice
  split
  · exact .refl s
  refine .ite (.refl s) ?_
  extract_lets +onlyGivenNames n f s1 w s2 v s3
  have h2 : Grows s s2 := .trans (t := s1) {} {}
  have h3 : Grows s s3 := by
    unfold s3
    split
    · exact .ite (h2.trans {}) h2
    · exact h2
  exact h3.trans (raiseWith_grows _ (fun _ => .refl _) ..)

theorem answer_grows (s : State) (on : WaitFor) (status : Nat) (payload : List Byte) : Grows s (s.answer on status payload) := by
  rw [answer_eq]
  exact {}

theorem abortUnitSlice_grows (s : State) (g : Nat) : Grows s (s.abortUnitSlice g) := by
  unfold State.abortUnitSlice
  extract_lets +onlyGivenNames n f s1 w s2 v s3
  have h2 : Grows s s2 := .trans (t := s1) {} {}
  have h3 : Grows s s3 := by
    unfold s3
    split
    · exact .ite ((h2.trans {}).trans (answer_grows ..)) h2
    · exact h2
  exact (h3.trans (groupRestart_grows ..)).trans (raiseWith_grows _ (fun _ => .refl _) ..)

theorem rifReset_grows (s : State) : Grows s s.rifReset := (abortSlice_grows s).trans (.foldl (fun _ _ => abortUnitSlice_grows ..) ..)

theorem weirReset_sameBut (s : State) : SameBut [.weir] s s.weirReset :=
  SameBut.trans (.foldl (fun _ _ => sameBut_weir _ _) [0, 1, 2] s) (sameBut_weir _ _)

theorem withBrst_grows (s : State) (x : Tab Nat) : Grows s { s with faults := { s.faults with brst := x } } := {}

theorem brst_grows (s : State) (b : Nat) : Grows s (s.brst b) := by
  unfold State.brst
  refine .ite (.refl s) (.ite ?_ (.ite ?_ (.ite {} (.ite (flushTrigger_grows ..) (.ite (rifReset_grows s) (.ite ?_ (.refl s)))))))
  · exact .ite (.refl s) (.of_sameBut (SameBut.trans (t := s.pairReset (s.hardware b) none) (sameBut_pairs _ _) (sameBut_pairs _ _)))
  · exact (Grows.of_sameBut (weirReset_sameBut s)).trans (withBrst_grows ..)
  · exact ((groupRestart_grows ..).trans (withBrst_grows ..)).trans (touchLines_grows ..)

end Sys2Proof.Occurrence

namespace Sys2Proof.Proofs
open Sys2Proof.Machine Sys2Proof.Safety Sys2Proof.Laws Sys2Proof.Occurrence

theorem oxbBin_sameBut (s : State) (l : LiveInst) : SameBut [.oxb] s (s.oxbBin l) := by
  unfold State.oxbBin
  split
  · exact .refl _ s
  · split
    · exact .refl _ s
    · exact sameBut_oxb _ _

/-- The end of a condition writes the faults and Oxbow's open record alone. -/
theorem fall_sameBut (s : State) (l : LiveInst) : SameBut [.faults, .oxb] s (s.fall l) :=
  (oxbBin_sameBut s l).mono.trans (sameBut_faults _ _).mono

/-- Of the live instances only that one falls. -/
theorem fall_isLive (s : State) (l : LiveInst) (b i n : Nat) :
    (s.fall l).isLive b i n = (s.isLive b i n && !(l.block == b && l.index == i && l.inst == n)) := by
  have e : (s.fall l).faults.live = s.faults.live.filter (fun x => !(x.block == l.block && x.index == l.index && x.inst == l.inst)) := by
    show (s.oxbBin l).faults.live.filter _ = _
    rw [show (s.oxbBin l).faults = s.faults from oxbBin_sameBut s l .faults (by decide)]
  unfold State.isLive
  rw [e, List.any_filter]
  by_cases h : (l.block == b && l.index == i && l.inst == n) = true
  · rw [h]
    simp only [Bool.and_eq_true, beq_iff_eq] at h
    obtain ⟨⟨rfl, rfl⟩, rfl⟩ := h
    rw [Bool.not_true, Bool.and_false, List.any_eq_false]
    intro x _ hx
    rw [Bool.and_eq_true, Bool.not_eq_true'] at hx
    rw [hx.1] at hx
    exact absurd hx.2 nofun
  · rw [Bool.eq_false_iff.2 h, Bool.not_false, Bool.and_true]
    congr 1
    funext x
    by_cases hx : (x.block == b && x.index == i && x.inst == n) = true
    · rw [hx, Bool.and_true]
      simp only [Bool.and_eq_true, beq_iff_eq] at hx
      obtain ⟨⟨rfl, rfl⟩, rfl⟩ := hx
      rw [Bool.not_eq_true', Bool.eq_false_iff]
      intro k
      apply h
      simp only [Bool.and_eq_true, beq_iff_eq] at k ⊢
      exact ⟨⟨k.1.1.symm, k.1.2.symm⟩, k.2.symm⟩
    · rw [Bool.eq_false_iff.2 hx, Bool.and_false]

/-- Settles O21: what an occurrence sets (`occurred`) nothing after it takes back (`Grows`); the severities follow Table 13.2. -/
theorem occurrencesAndConditions : Obligations.OccurrencesAndConditions := by
  unfold Obligations.OccurrencesAndConditions
  refine ⟨?_, ?_, ?_⟩
  · intro s b i inst who src hs hu hl t
    obtain ⟨v, new, n1, n2, n3, k, g, e⟩ := raiseWith_occurs (brst := State.brst) who hs hu (fresh_of_dead hl)
    have et : t = (occurred v b i new).takeReactions State.brst b i inst (s.effective b i inst).1 (s.effective b i inst).2 := e
    generalize hsev : (s.effective b i inst).1 = sev at *
    generalize (s.effective b i inst).2 = reacts at *
    have after : Grows (occurred v b i new) t := et ▸ takeReactions_grows _ (fun s => brst_grows s b) ..
    have dev : (occurred v b i new).dev = s.dev := k .dev (by decide)
    have mid := react_sameBut (occurred v b i new) b i inst sev reacts
    have dev2 : ((occurred v b i new).react b i inst sev reacts).dev = s.dev := (mid .dev (by decide)).trans dev
    have tail : Grows (((occurred v b i new).react b i inst sev reacts).severityEffect b i inst sev) t := by
      rw [et]
      unfold State.takeReactions
      extract_lets s1 s2 s3
      have h3 : Grows s2 s3 := .ite (brst_grows ..) (.refl _)
      exact .ite (h3.trans (crst_grows _)) h3
    refine ⟨after.live _ _ _ ?_, after.sticky _ _ ?_, (g.trans ((occurred_grows ..).trans after)).sticky, fun h3 hst => ?_, fun h4 hst => ?_⟩
    · refine List.any_eq_true.2 ⟨new, List.mem_append_right _ (List.mem_singleton_self _), ?_⟩
      simp [n1, n2, n3]
    · show ((v.faults.words.put b { v.words b with sticky := setBit (v.words b).sticky i }).getD b {}).sticky.getLsbD i = true
      rw [tab_getD_put, if_pos rfl, getLsbD_setBit]
      simp [sourceOf_lt hs]
    · obtain ⟨h1, h2⟩ := severityEffect_leaves (s := (occurred v b i new).react b i inst sev reacts) b i inst h3 (by rwa [dev2])
      exact ⟨tail.safe h1, fun h => tail.line (h2 h)⟩
    · obtain ⟨h1, h2⟩ := severityEffect_latches (s := (occurred v b i new).react b i inst sev reacts) b i inst h4 (by rwa [dev2])
      exact ⟨tail.latched h1, tail.latch h2⟩
  · intro s b i inst who l hl t
    have key : l.block = b ∧ l.index = i ∧ l.inst = inst := by
      have := List.find?_some hl
      simpa [and_assoc] using this
    obtain ⟨rfl, rfl, rfl⟩ := key
    have et : t = if l.holders &&& (7 - who) = 0 then s.fall l
        else { s with faults := { s.faults with live := s.faults.live.map (fun x =>
          if x.block = l.block ∧ x.index = l.index ∧ x.inst = l.inst then { x with holders := l.holders &&& (7 - who) } else x) } } := by
      show s.clear l.block l.index l.inst who = _
      unfold State.clear
      rw [hl]
    by_cases h0 : l.holders &&& (7 - who) = 0
    · rw [if_pos h0] at et
      have live : ∀ b' i' n', t.isLive b' i' n' = ((s.isLive b' i' n') && !(l.block == b' && l.index == i' && l.inst == n')) := fun b' i' n' =>
        et ▸ fall_isLive s l b' i' n'
      refine ⟨fun _ => ?_, fun h => absurd h0 h, ?_, et ▸ fall_sameBut s l, fun b' i' n' hne => ?_⟩
      · rw [live]
        simp
      · rw [et]
        exact (oxbBin_sameBut s l .faults (by decide)).symm ▸ rfl
      · rw [live]
        have e : (l.block == b' && l.index == i' && l.inst == n') = false := by
          refine Bool.eq_false_iff.2 fun h => hne ?_
          simp only [Bool.and_eq_true, beq_iff_eq] at h
          obtain ⟨⟨rfl, rfl⟩, rfl⟩ := h
          rfl
        rw [e, Bool.not_false, Bool.and_true]
    · rw [if_neg h0] at et
      have live : ∀ b' i' n', t.isLive b' i' n' = s.isLive b' i' n' := by
        intro b' i' n'
        rw [et]
        exact isLive_map (fun x => by split <;> exact ⟨rfl, rfl, rfl⟩) _ _ _ _
      refine ⟨fun h => absurd h h0, fun _ => ?_, by rw [et], et ▸ (sameBut_faults _ _).mono, fun b' i' n' _ => live ..⟩
      rw [live]
      exact List.any_eq_true.2 ⟨l, List.mem_of_find?_eq_some hl, by simp⟩
  · intro s n
    refine ⟨fun h => ?_, fun hb h => ?_⟩
    · unfold State.lineActive
      rcases h with h | ⟨l, hm, h2, hn⟩ | ⟨l, hm, h3⟩
      · rw [h]
        simp
      · have e : s.faults.live.any (fun l => l.sev == 2 && decide (n ∈ s.scope l.block l.index l.inst)) = true :=
          List.any_eq_true.2 ⟨l, hm, by simp [h2, hn]⟩
        rw [e]
        simp
      · have e : s.faults.live.any (fun l => decide (3 ≤ l.sev)) = true := List.any_eq_true.2 ⟨l, hm, by simp [h3]⟩
        rw [e]
        simp
    · have quiet : ∀ g, s.brstRunning (0x10 + g) = false := fun g => by
        unfold State.brstRunning
        rw [hb]
        rfl
      unfold State.lineActive at h
      simp only [quiet, Bool.false_and, Bool.false_eq_true, and_false, exists_false, or_false, Bool.or_eq_true, List.any_eq_true, Bool.and_eq_true,
        beq_iff_eq, decide_eq_true_eq] at h
      rcases h with (h | ⟨l, hm, h2, hn⟩) | ⟨l, hm, h3⟩
      · exact .inl h
      · exact .inr (.inl ⟨l, hm, h2, hn⟩)
      · exact .inr (.inr ⟨l, hm, h3⟩)

end Sys2Proof.Proofs

end

section
/-! PROOFS. The error pair and the ends of events (R301 to R303). O22. -/

set_option Elab.async false

namespace Sys2Proof.Proofs
open Sys2Proof.Machine Sys2Proof.Safety Sys2Proof.Laws Sys2Proof.Occurrence

/-- The pair is healthy in RUN and SAFE alone. -/
theorem healthy_states {s : State} (h : s.errpAsserted = false) : s.dev.st = .run ∨ s.dev.st = .safe := by
  unfold State.errpAsserted at h
  split at h
  · next e => exact .inl e
  · next e => exact .inr e
  · cases h

theorem holdPulse_reset {s : State} (h : s.dev.st ≠ .reset) : s.holdPulse = false := by
  unfold State.holdPulse
  rw [beq_false_of_ne h]
  rfl

/-- A pulse of the hold pattern is one of n, each of 50 ms, 100 ms apart (R361). -/
theorem pulse_iff (ms n : Nat) : (ms < 150 * n ∧ ms % 150 < 50) ↔ ∃ k < n, 150 * k ≤ ms ∧ ms < 150 * k + 50 := by
  constructor
  · rintro ⟨h1, h2⟩
    exact ⟨ms / 150, by omega, by omega, by omega⟩
  · rintro ⟨k, hk, h1, h2⟩
    omega

/-- The end of an event: its LIVE falls. -/
theorem eventLiveExpiry_found {s : State} {b i inst : Nat} {l : LiveInst} {src : Source}
    (hl : s.faults.live.find? (fun x => x.block == b && x.index == i && x.inst == inst) = some l) (hs : sourceOf b i = some src)
    (hc : src.cond = false) : exec (.eventLiveExpiry b i inst) s = .next (if l.last + 2 ≤ s.time.tick then (s.fall l).purgeHolds else s) := by
  refine congrArg Host.Outcome.next ?_
  rw [hl, hs]
  dsimp only
  rw [hc]
  by_cases h : l.last + 2 ≤ s.time.tick
  · rw [if_pos h, if_pos (by simp [h])]
  · rw [if_neg h, if_neg (by simp [h])]

/-- Settles O22: the end of an event is `fall`; the levels of the pair are the cases of `errpLevels`. -/
theorem errorPairCommands : Obligations.ErrorPairCommands := by
  unfold Obligations.ErrorPairCommands
  intro s
  refine ⟨fun b i inst l src hl hs hc => ⟨fun h => ?_, fun h => ?_⟩, fun h1 h2 => ?_, fun h => ?_, fun hst land hl => ⟨?_, ?_⟩,
    fun ms => ⟨fun h1 h2 => ?_, fun h => ?_⟩, fun ms h1 h2 h3 => ?_, fun h => ?_, fun hst hd => ⟨fun hp ha => ?_, fun ha hd2 => ?_, fun ha hd2 => ?_⟩,
    fun h1 h2 => ?_⟩
  · have done := eventLiveExpiry_found hl hs hc
    rw [if_pos h] at done
    have key : l.block = b ∧ l.index = i ∧ l.inst = inst := by simpa [and_assoc] using List.find?_some hl
    obtain ⟨rfl, rfl, rfl⟩ := key
    refine ⟨_, done, ?_, (congrArg FaultSt.words (oxbBin_sameBut s l .faults (by decide)) :), (fall_sameBut s l).trans (sameBut_faults _ _).mono⟩
    show (s.fall l).isLive l.block l.index l.inst = false
    rw [fall_isLive]
    simp
  · rw [eventLiveExpiry_found hl hs hc, if_neg (by omega)]
  · exact congrArg Host.Outcome.next (if_pos (by rw [h1, h2]; rfl))
  · refine congrArg Host.Outcome.next (if_neg ?_)
    rcases h with h | h <;> rw [h] <;> simp
  · exact congrArg Host.Outcome.next (if_neg (by rintro (h | h); exact hst h; omega))
  · exact congrArg Host.Outcome.next (if_neg (by rintro (h | h); exact hst h; omega))
  · exact congrArg Host.Outcome.next (if_pos ⟨h1, h2⟩)
  · exact congrArg Host.Outcome.next (if_neg (by rintro ⟨k1, k2⟩; rcases h with h | h; exact h k1; exact k2 h))
  · unfold State.holdPulse
    rw [h1, h3, ← pulse_iff]
    simp [h2]
  · unfold State.errpLevels
    rcases h with h | ⟨h1, h2⟩
    · rw [if_pos h]
    · rw [h1, h2]
      simp
  · unfold State.errpLevels
    rw [if_neg hst, hd, hp, ha]
    rfl
  · have st := healthy_states ha
    have hp : s.holdPulse = false := holdPulse_reset (by rcases st with e | e <;> rw [e] <;> nofun)
    unfold State.errpLevels
    rw [if_neg hst, hd, hp, ha, hd2]
    rfl
  · have st := healthy_states ha
    have hp : s.holdPulse = false := holdPulse_reset (by rcases st with e | e <;> rw [e] <;> nofun)
    unfold State.errpLevels
    rw [if_neg hst, hd, hp, ha, hd2]
    rfl
  · unfold State.errpAsserted
    split
    · next e => exact absurd e h1
    · next e => exact absurd e h2
    · rfl

end Sys2Proof.Proofs

end

section
/-! PROOFS. Power loss and chip resets (R292, R368). O23. -/

set_option Elab.async false

namespace Sys2Proof.Occurrence
open Sys2Proof.Machine Sys2Proof.Safety Sys2Proof.Laws

/-- Entries chosen by their key: an entry is found where its key is chosen. -/
theorem tab_get_filter {α : Type} (t : Tab α) (p : Nat → Bool) (i : Nat) :
    Tab.get? (t.filter fun e => p e.1) i = if p i = true then t.get? i else none := by
  induction t with
  | nil => split <;> rfl
  | cons e rest ih =>
    obtain ⟨k, v⟩ := e
    rw [List.filter_cons]
    by_cases hk : k = i
    · subst hk
      cases hp : p k
      · rw [if_neg nofun, ih, hp]
        rfl
      · simp [Tab.get?]
    · have same : Tab.get? ((k, v) :: rest) i = Tab.get? rest i := if_neg hk
      rw [same, ← ih]
      cases hp : p k
      · rfl
      · exact if_neg hk

/-- The words of a block after a chip reset. -/
def uninjected (w : FaultWords) : FaultWords := { w with injected := 0 }

/-- What PD0 keeps of the fault words over a chip reset (R292): STICKY and MASK of PWR and CLK. -/
theorem pd0_words (f : FaultSt) (b : Nat) :
    f.pd0.words.getD b {} = if b = bPWR ∨ b = bCLK then { f.words.getD b {} with injected := 0 } else {} := by
  have kept : f.pd0.words.getD b {} =
      { Tab.getD (f.words.filter fun e => e.1 == bPWR || e.1 == bCLK) b {} with injected := 0 } :=
    tab_getD_map (f.words.filter fun e => e.1 == bPWR || e.1 == bCLK) uninjected b {}
  rw [kept]
  unfold Tab.getD
  rw [tab_get_filter f.words (fun k => k == bPWR || k == bCLK) b]
  by_cases h : b = bPWR ∨ b = bCLK
  · rw [if_pos h, if_pos (by simpa using h)]
  · rw [if_neg h, if_neg (by simpa using h)]
    rfl

end Sys2Proof.Occurrence
namespace Sys2Proof.Proofs
open Sys2Proof.Machine Sys2Proof.Safety Sys2Proof.Laws Sys2Proof.Occurrence

/-- Settles O23: `powerLost` and `chipReset` build the state from what is kept. -/
theorem powerCyclesAndChipResets : Obligations.PowerCyclesAndChipResets := by
  unfold Obligations.PowerCyclesAndChipResets
  refine ⟨fun s => ⟨fun v hst hv => ?_, fun v hv => ?_, fun hst => ?_⟩, fun s c cause h => ?_⟩
  · refine congrArg Host.Outcome.next ?_
    dsimp only
    rw [if_neg (by omega), if_pos hst]
  · exact congrArg Host.Outcome.next (if_pos hv)
  · refine ⟨_, congrArg Host.Outcome.next (if_neg hst), rfl, rfl, rfl, rfl, rfl, rfl, rfl, rfl, rfl, rfl, rfl, rfl, rfl, rfl, rfl, rfl, fun hr => ?_⟩
    unfold State.powerLost
    rw [hr]
  · rcases h with ⟨rfl, rfl, hst, hrel⟩ | ⟨rfl, rfl, hp, hr, hm⟩
    · have done : exec .resetNLow s = .next (s.chipReset 1).holdReset := by
        refine congrArg Host.Outcome.next ?_
        rw [if_neg hst, if_neg]
        rintro ⟨h1, h2⟩
        rw [hrel h1] at h2
        cases h2
      exact ⟨_, done, rfl, rfl, rfl, rfl, rfl, rfl, rfl, rfl, rfl, rfl, rfl, rfl, rfl, rfl, rfl, rfl, rfl, rfl, rfl, pd0_words s.faults, rfl⟩
    · have done : exec .crstChipReset s = .next (s.chipReset 2) := by
        refine congrArg Host.Outcome.next (if_pos ?_)
        rw [hp, hr]
        rcases hm with hm | hm <;> simp [hm]
      exact ⟨_, done, rfl, rfl, rfl, rfl, rfl, rfl, rfl, rfl, rfl, rfl, rfl, rfl, rfl, rfl, rfl, rfl, rfl, rfl, rfl, pd0_words s.faults, rfl⟩

end Sys2Proof.Proofs

end

section
/-! PROOFS. Occurrences in RESET, and the instances after an occurrence and after the end of a condition. -/

set_option Elab.async false

namespace Sys2Proof.Occurrence
open Sys2Proof.Machine Sys2Proof.Safety Sys2Proof.Laws

variable {s t : State}

theorem clear_sameBut (s : State) (b i inst who : Nat) : SameBut [.faults, .oxb] s (s.clear b i inst who) := by
  unfold State.clear
  split
  · exact .refl _ s
  · exact .ite (Proofs.fall_sameBut _ _) (sameBut_faults _ _).mono

/-- After an occurrence its instance is live. -/
theorem raiseWith_isLive {brst : State → Nat → State} {b i inst : Nat} (who : Nat) {src : Source} (hb : ∀ s, Grows s (brst s b))
    (hs : sourceOf b i = some src) (hu : b < 0x20 ∨ s.inUse inst = true) : (s.raiseWith brst b i inst who).isLive b i inst = true := by
  cases fresh : s.faults.live.any (fun l => (l.block == b && l.index == i && l.inst == inst) && !l.stale) with
  | true =>
    have unused : ¬ (0x20 ≤ b ∧ s.inUse inst = false) := by
      rintro ⟨h1, h2⟩
      rcases hu with h | h
      · omega
      · rw [h] at h2
        cases h2
    rw [raise_live hs unused fresh]
    obtain ⟨l, hm, hl⟩ := List.any_eq_true.1 fresh
    exact (extend_grows s src b i inst who).live b i inst (List.any_eq_true.2 ⟨l, hm, (Bool.and_eq_true .. ▸ hl).1⟩)
  | false =>
    obtain ⟨v, new, rfl, rfl, rfl, -, -, e⟩ := raiseWith_occurs (brst := brst) who hs hu fresh
    rw [e]
    refine (takeReactions_grows _ hb ..).live _ _ _ (List.any_eq_true.2 ⟨new, ?_, ?_⟩)
    · exact List.mem_append_right _ (List.mem_singleton_self _)
    · simp

theorem raise_isLive {b i inst : Nat} (who : Nat) {src : Source} (hs : sourceOf b i = some src) (hu : b < 0x20 ∨ s.inUse inst = true) :
    (s.raise b i inst who).isLive b i inst = true :=
  raiseWith_isLive who (fun s => brst_grows s b) hs hu

/-- The end of one condition leaves every other instance. -/
theorem clear_isLive_ne {b i inst who b' i' n' : Nat} (h : b' ≠ b ∨ i' ≠ i ∨ n' ≠ inst) :
    (s.clear b i inst who).isLive b' i' n' = s.isLive b' i' n' := by
  unfold State.clear
  split
  · rfl
  · next l hl =>
    have key := List.find?_some hl
    simp only [Bool.and_eq_true, beq_iff_eq] at key
    obtain ⟨⟨rfl, rfl⟩, rfl⟩ := key
    dsimp only
    split
    · rw [Proofs.fall_isLive]
      have other : (l.block == b' && l.index == i' && l.inst == n') = false := by
        refine Bool.eq_false_iff.2 fun k => ?_
        simp only [Bool.and_eq_true, beq_iff_eq] at k
        obtain ⟨⟨rfl, rfl⟩, rfl⟩ := k
        simp at h
      rw [other, Bool.not_false, Bool.and_true]
    · exact isLive_map (fun x => by split <;> exact ⟨rfl, rfl, rfl⟩) _ _ _ _

/-- What Oxbow takes of an occurrence leaves the latch. -/
theorem passToOxbow_latch (s : State) (b i inst sev : Nat) (injected : Bool) : (s.passToOxbow b i inst sev injected).1.pwr.latch = s.pwr.latch := by
  unfold State.passToOxbow
  split
  · rfl
  · split
    · split <;> rfl
    · exact congrArg PwrSt.latch (oxbCount_sameBut s _ _ _ _ .pwr (by decide))

/-! ### The device states that an occurrence leads to -/

/-- The device state and the latch stay, or an operating state is left for LATCHED or SAFE (Table 13.2). -/
def Arrives (s t : State) : Prop :=
  (t.dev.st = s.dev.st ∧ t.pwr.latch = s.pwr.latch) ∨ s.dev.st.latches = true ∧ (t.dev.st = .latched ∨ t.dev.st = .safe)

theorem Arrives.of_same (hd : t.dev.st = s.dev.st) (hp : t.pwr.latch = s.pwr.latch) : Arrives s t := .inl ⟨hd, hp⟩

/-- From a state with the same device state and latch. -/
theorem Arrives.start {v : State} (h : Arrives s t) (hd : s.dev.st = v.dev.st) (hp : s.pwr.latch = v.pwr.latch) : Arrives v t := by
  unfold Arrives
  rw [← hd, ← hp]
  exact h

theorem Arrives.stop {v : State} (h : Arrives s t) (hd : v.dev.st = t.dev.st) (hp : v.pwr.latch = t.pwr.latch) : Arrives s v := by
  unfold Arrives
  rw [hd, hp]
  exact h

theorem enter_arrived {st : DevState} (reason : Nat) (h : st = .latched ∨ st = .safe) :
    (s.enter st reason).dev.st = .latched ∨ (s.enter st reason).dev.st = .safe := by
  by_cases e : s.dev.st = st
  · rw [enter_same reason e, e]
    exact h
  · rw [enter_dev reason e]
    exact h

theorem latchNow_arrives (s : State) : Arrives s s.latchNow := by
  unfold State.latchNow
  split
  · next hl =>
    exact .inr ⟨hl, enter_arrived (s := State.flushTrigger { s with pwr := { s.pwr with latch := true } } .full) 0 (.inl rfl)⟩
  · exact .of_same rfl rfl

theorem safeNow_arrives (s : State) (reason : Nat) : Arrives s (s.safeNow reason) := by
  unfold State.safeNow
  dsimp only
  split
  · next hv =>
    have hl : s.dev.st.latches = true := by rcases hv with h | h <;> rw [h] <;> rfl
    exact .inr ⟨hl, enter_arrived (s := { s with dev := { s.dev with safeLine := true, s3InSafe := true } }) reason (.inr rfl)⟩
  · exact .of_same rfl rfl

theorem severityEffect_arrives (s : State) (b i inst sev : Nat) : Arrives s (s.severityEffect b i inst sev) := by
  obtain ⟨u, k, e⟩ := severityEffect_parts s b i inst sev
  have hd : u.dev = s.dev := k .dev (by decide)
  have hp : u.pwr = s.pwr := k .pwr (by decide)
  rw [e]
  split
  · exact (latchNow_arrives u).start (by rw [hd]) (by rw [hp])
  · split
    · exact (safeNow_arrives u _).start (by rw [hd]) (by rw [hp])
    · exact .of_same (by rw [hd]) (by rw [hp])

theorem takeReactions_arrives {brst : State → Nat → State} {b : Nat} (hb : brstAvailable b = false) (s : State) (i inst sev reacts : Nat) :
    Arrives s (s.takeReactions brst b i inst sev reacts) := by
  unfold State.takeReactions
  extract_lets s1 s2 s3
  have k := react_sameBut s b i inst sev reacts
  have h2 : Arrives s s2 := (severityEffect_arrives s1 b i inst sev).start (congrArg DevSt.st (k .dev (by decide))) (congrArg PwrSt.latch (k .pwr (by decide)))
  have e3 : s3 = s2 := if_neg (by rw [hb]; simp)
  rw [e3]
  split
  · have crst : SameBut [.dev, .cells, .oxb, .faults] s2 s2.crst :=
      SameBut.trans (t := { s2 with dev := { s2.dev with safeLine := true, crstPending := true } }) (sameBut_dev _ _).mono
        ((touchLines_sameBut _ _).mono.trans (flushTrigger_sameBut _ _).mono)
    have dev : s2.crst.dev = { s2.dev with safeLine := true, crstPending := true } :=
      (flushTrigger_sameBut _ _ .dev (by decide)).trans (touchLines_sameBut _ _ .dev (by decide))
    exact h2.stop (by rw [dev]) (congrArg PwrSt.latch (crst .pwr (by decide)))
  · exact h2

theorem raise_arrives {b : Nat} (hb : brstAvailable b = false) (s : State) (i inst who : Nat) : Arrives s (s.raise b i inst who) := by
  show Arrives s (s.raiseWith _ _ _ _ _)
  have passed : ∀ sev, (s.passToOxbow b i inst sev false).1.dev = s.dev ∧ (s.passToOxbow b i inst sev false).1.pwr.latch = s.pwr.latch := fun sev =>
    ⟨passToOxbow_sameBut s b i inst sev false .dev (by decide), passToOxbow_latch ..⟩
  unfold State.raiseWith
  split
  · exact .of_same rfl rfl
  next src _ =>
  extract_lets mine
  split
  · exact .of_same rfl rfl
  split
  · unfold State.extend
    dsimp only
    split
    · exact .of_same rfl rfl
    · exact .of_same (congrArg DevSt.st (passed _).1) (passed _).2
  · generalize s.effective b i inst = x
    obtain ⟨sev, reacts⟩ := x
    dsimp only
    have k := passed sev
    generalize s.passToOxbow b i inst sev false = y at k ⊢
    obtain ⟨v, r⟩ := y
    have after : ∀ u : State, u.dev = v.dev → u.pwr = v.pwr → Arrives s (u.takeReactions State.brst b i inst sev reacts) := fun u e f =>
      (takeReactions_arrives hb u ..).start (by rw [e, k.1]) (by rw [f, k.2])
    exact after _ rfl rfl

/-- In RESET an occurrence enters no other state: nothing there sets the latch, and SAFE is entered from RUN and VERIFY alone. -/
theorem raise_reset {b : Nat} (hb : brstAvailable b = false) (h : s.dev.st = .reset) (i inst who : Nat) : (s.raise b i inst who).dev.st = .reset := by
  rcases raise_arrives hb s i inst who with ⟨e, -⟩ | ⟨e, -⟩
  · rw [e, h]
  · rw [h] at e
    cases e

end Sys2Proof.Occurrence

end

section
/-! PROOFS. The check of the clocks, and the power domains (Table 2.4 steps 1 and 2). -/

set_option Elab.async false

namespace Sys2Proof.Occurrence
open Sys2Proof.Machine Sys2Proof.Safety Sys2Proof.Laws

variable {s t : State}

/-- The clocks as a release of reset or a retry finds them. -/
def clocked (s : State) (lock : Bool) (dev : Int) : State :=
  ({ s with clk := { s.clk with pllLocked := lock, gated := false, ratioDev := dev, serdesLocked := true } } : State).clear bCLK 3 0 whoDev

/-- A clock hold with its reason. -/
def holding (s : State) (r : Nat) : State := { s with dev := { s.dev with hold := r, holdRegion := 0, holdWord := 0 } }

theorem clockCheck_unlocked (s : State) (dev : Int) :
    s.clockCheck false dev = holding ((clocked s false dev).raise bCLK 0 0 whoDev) 2 := rfl

theorem clockCheck_ratio (s : State) {dev : Int} (h : dev < -200 ∨ 200 < dev) :
    s.clockCheck true dev = holding (((clocked s true dev).clear bCLK 0 0 whoDev).raise bCLK 1 0 whoDev) 3 := if_pos h

/-- What goes before the power-up of the domains. -/
def checked (s : State) (dev : Int) : State :=
  let u := holding (((clocked s true dev).clear bCLK 0 0 whoDev).clear bCLK 1 0 whoDev) 0
  { u with pwr := { u.pwr with holdPhase := none } }

theorem clockCheck_passed (s : State) {dev : Int} (h1 : -200 ≤ dev) (h2 : dev ≤ 200) :
    s.clockCheck true dev = (checked s dev).powerUpDomains := if_neg (by omega)

theorem clocked_sameBut (s : State) (lock : Bool) (dev : Int) : SameBut [.clk, .faults, .oxb] s (clocked s lock dev) :=
  (sameBut_clk s _).mono.trans (clear_sameBut _ _ _ _ _).mono

theorem checked_sameBut (s : State) (dev : Int) : SameBut [.clk, .faults, .oxb, .dev, .pwr] s (checked s dev) :=
  (clocked_sameBut s true dev).mono.trans ((clear_sameBut _ _ _ _ _).mono.trans
    ((clear_sameBut _ _ _ _ _).mono.trans ((sameBut_dev _ _).mono.trans (sameBut_pwr _ _).mono)))

/-! ### Power domains -/

theorem mem_setMem {l : List Nat} {x y : Nat} : y ∈ setMem l x ↔ y ∈ l ∨ y = x := by
  unfold setMem
  split
  · next h => exact ⟨.inl, fun k => k.elim id (fun e => e ▸ h)⟩
  · simp

theorem domainsOn_sameBut (s : State) (l : List Nat) : SameBut [.pwr] s (l.foldl (fun s d => s.domainOn d) s) :=
  .foldl (fun _ _ => sameBut_pwr _ _) l s

theorem powerUpDomains_sameBut (s : State) : SameBut [.pwr] s s.powerUpDomains := domainsOn_sameBut s _

/-- After shedding none of PD1 to PD10 comes on. -/
theorem domainsOn_shed (h : s.pwr.shed = true) {d : Nat} (h1 : 1 ≤ d) (h2 : d ≤ 10) (l : List Nat) :
    (l.foldl (fun s d => s.domainOn d) s).on d = s.on d := by
  induction l generalizing s with
  | nil => rfl
  | cons e l ih =>
    have shed : (s.domainOn e).pwr.shed = true := h
    rw [List.foldl_cons, ih shed]
    have doms : (s.domainOn e).pwr.domains = if 1 ≤ e ∧ e ≤ 10 then s.pwr.domains else setMem s.pwr.domains e := by
      show (if _ then _ else _) = _
      rw [h]
      by_cases k : 1 ≤ e ∧ e ≤ 10
      · rw [if_pos k, if_pos (by simp [k])]
      · rw [if_neg k, if_neg (by simpa using k)]
    unfold State.on
    rw [doms]
    split
    · rfl
    · next k =>
      have ne : d ≠ e := fun x => k ⟨x ▸ h1, x ▸ h2⟩
      refine decide_eq_decide.2 ?_
      rw [mem_setMem]
      simp [ne]

/-- Without shedding every named domain comes on, and none goes off. -/
theorem domainsOn_on (h : s.pwr.shed = false) (d : Nat) (l : List Nat) :
    (l.foldl (fun s d => s.domainOn d) s).on d = (decide (d ∈ l) || s.on d) := by
  induction l generalizing s with
  | nil => simp
  | cons e l ih =>
    have shed : (s.domainOn e).pwr.shed = false := h
    rw [List.foldl_cons, ih shed]
    have doms : (s.domainOn e).pwr.domains = setMem s.pwr.domains e := by
      show (if _ then _ else _) = _
      rw [h]
      rfl
    unfold State.on
    rw [doms]
    by_cases k : d = e
    · simp [k, mem_setMem]
    · simp [k, mem_setMem]

end Sys2Proof.Occurrence

namespace Sys2Proof.Proofs
open Sys2Proof.Machine Sys2Proof.Safety Sys2Proof.Laws Sys2Proof.Occurrence

/-- What every check of the clocks in RESET leaves and sets. -/
structure ClocksChecked (s t : State) (lock : Bool) (dev : Int) : Prop where
  st : t.dev.st = .reset
  released : t.dev.released = s.dev.released
  locked : t.clk.pllLocked = lock
  ratio : t.clk.ratioDev = dev
  ros : t.ros = s.ros
  jtag : t.jtag = s.jtag

theorem clocksChecked_hold {s u : State} {lock : Bool} {dev : Int} (k : SameBut [.clk, .faults, .oxb, .dev] s u)
    (hd : u.dev = s.dev) (hl : u.clk.pllLocked = lock) (hr : u.clk.ratioDev = dev) (hst : s.dev.st = .reset) (i r : Nat) :
    ClocksChecked s (holding (u.raise bCLK i 0 whoDev) r) lock dev := by
  have c : Calm u (u.raise bCLK i 0 whoDev) := raise_calm u (by decide) ..
  have clk : (holding (u.raise bCLK i 0 whoDev) r).clk = u.clk := c.clk
  refine ⟨raise_reset (by decide) (by rw [hd]; exact hst) .., ?_, by rw [clk]; exact hl, by rw [clk]; exact hr, ?_, ?_⟩
  · show (u.raise bCLK i 0 whoDev).dev.released = _
    rw [show (u.raise bCLK i 0 whoDev).dev.released = u.dev.released from (congrArg DevSt.released c.dev :)]
    exact (congrArg DevSt.released hd :)
  · exact (c.ros :).trans (k .ros (by decide))
  · exact (c.jtag :).trans (k .jtag (by decide))

theorem clocksChecked_passed {s : State} (dev : Int) (hst : s.dev.st = .reset) :
    ClocksChecked s (checked s dev).powerUpDomains true dev := by
  have p := powerUpDomains_sameBut (checked s dev)
  have k := checked_sameBut s dev
  have hd : ((clocked s true dev).clear bCLK 0 0 whoDev |>.clear bCLK 1 0 whoDev).dev = s.dev :=
    (clear_sameBut _ _ _ _ _ .dev (by decide)).trans ((clear_sameBut _ _ _ _ _ .dev (by decide)).trans (clear_sameBut _ _ _ _ _ .dev (by decide)))
  have hc : (checked s dev).clk = { s.clk with pllLocked := true, gated := false, ratioDev := dev, serdesLocked := true } :=
    (clear_sameBut _ _ _ _ _ .clk (by decide)).trans ((clear_sameBut _ _ _ _ _ .clk (by decide)).trans (clear_sameBut _ _ _ _ _ .clk (by decide)))
  have dev' : (checked s dev).powerUpDomains.dev = { s.dev with hold := 0, holdRegion := 0, holdWord := 0 } :=
    (p .dev (by decide)).trans (congrArg (fun d : DevSt => { d with hold := 0, holdRegion := 0, holdWord := 0 }) hd)
  have clk' : (checked s dev).powerUpDomains.clk = _ := (p .clk (by decide)).trans hc
  refine ⟨by rw [dev']; exact hst, by rw [dev'], by rw [clk'], by rw [clk'], ?_, ?_⟩
  · exact (p .ros (by decide)).trans (k .ros (by decide))
  · exact (p .jtag (by decide)).trans (k .jtag (by decide))

/-- The three results of the check (R38). -/
theorem clockCheck_result {s : State} (hst : s.dev.st = .reset) (lock : Bool) (dev : Int) :
    let t := s.clockCheck lock dev
    ClocksChecked s t lock dev ∧ (lock = false → t.dev.hold = 2) ∧ (lock = true → dev < -200 ∨ 200 < dev → t.dev.hold = 3) ∧
      (lock = true → -200 ≤ dev → dev ≤ 200 → t = (checked s dev).powerUpDomains) := by
  dsimp only
  cases lock with
  | false =>
    rw [clockCheck_unlocked]
    refine ⟨clocksChecked_hold (clocked_sameBut _ _ _).mono (clear_sameBut _ _ _ _ _ .dev (by decide)) ?_ ?_ hst .., fun _ => rfl, nofun, nofun⟩
    · exact congrArg ClkSt.pllLocked (clear_sameBut _ bCLK 3 0 whoDev .clk (by decide) :)
    · exact congrArg ClkSt.ratioDev (clear_sameBut _ bCLK 3 0 whoDev .clk (by decide) :)
  | true =>
    by_cases h : dev < -200 ∨ 200 < dev
    · rw [clockCheck_ratio s h]
      have clk := (clear_sameBut (clocked s true dev) bCLK 0 0 whoDev .clk (by decide)).trans (clear_sameBut _ bCLK 3 0 whoDev .clk (by decide))
      refine ⟨clocksChecked_hold ((clocked_sameBut _ _ _).mono.trans (clear_sameBut _ _ _ _ _).mono)
        ((clear_sameBut _ _ _ _ _ .dev (by decide)).trans (clear_sameBut _ _ _ _ _ .dev (by decide))) ?_ ?_ hst .., nofun, fun _ _ => rfl, fun _ _ _ => by omega⟩
      · exact congrArg ClkSt.pllLocked (clk :)
      · exact congrArg ClkSt.ratioDev (clk :)
    · rw [clockCheck_passed s (by omega) (by omega)]
      exact ⟨clocksChecked_passed dev hst, nofun, fun _ k => absurd k h, fun _ _ _ => rfl⟩

end Sys2Proof.Proofs

end

section
/-! PROOFS. The release of reset and the retries of a clock hold (R38, R49). O24. -/

set_option Elab.async false

namespace Sys2Proof.Proofs
open Sys2Proof.Machine Sys2Proof.Safety Sys2Proof.Laws Sys2Proof.Occurrence

/-- The check leaves PD0's latch and its shedding, where it powers the domains up. -/
theorem checked_pwr (s : State) (dev : Int) : (checked s dev).pwr = { s.pwr with holdPhase := none } := by
  have h : ((clocked s true dev).clear bCLK 0 0 whoDev |>.clear bCLK 1 0 whoDev).pwr = s.pwr :=
    (clear_sameBut _ _ _ _ _ .pwr (by decide)).trans ((clear_sameBut _ _ _ _ _ .pwr (by decide)).trans (clear_sameBut _ _ _ _ _ .pwr (by decide)))
  exact congrArg (fun p : PwrSt => { p with holdPhase := none }) h

/-- The domains after a check that passes. -/
theorem passed_domains (s : State) (dev : Int) :
    let t := (checked s dev).powerUpDomains
    (s.pwr.shed = true → ∀ d ∈ [1, 2, 3, 4, 5, 6, 9, 10], t.on d = s.on d) ∧
    (s.pwr.shed = false → t.on 1 = true ∧ t.on 9 = true ∧ t.on 11 = true ∧
      (s.pwr.latch = false → ∀ d ∈ [2, 3, 4, 5, 6, 10], t.on d = true)) := by
  have pwr := checked_pwr s dev
  have on : ∀ d, (checked s dev).on d = s.on d := fun d => by
    unfold State.on
    rw [pwr]
  refine ⟨fun h d hd => ?_, fun h => ?_⟩
  · rw [← on]
    have range : 1 ≤ d ∧ d ≤ 10 := by
      simp only [List.mem_cons, List.not_mem_nil, or_false] at hd
      omega
    exact domainsOn_shed (by rw [pwr]; exact h) range.1 range.2 _
  · have shed : (checked s dev).pwr.shed = false := by
      rw [pwr]
      exact h
    have up : ∀ d, (checked s dev).powerUpDomains.on d =
        (decide (d ∈ if s.pwr.latch then [9, 11, 1] else [9, 10, 11, 1, 2, 3, 4, 5, 6]) || (checked s dev).on d) := fun d => by
      unfold State.powerUpDomains
      rw [domainsOn_on shed, pwr]
    simp only [up]
    refine ⟨?_, ?_, ?_, fun hl d hd => ?_⟩
    · cases s.pwr.latch <;> rfl
    · cases s.pwr.latch <;> rfl
    · cases s.pwr.latch <;> rfl
    · rw [hl]
      simp only [List.mem_cons, List.not_mem_nil, or_false] at hd
      rcases hd with rfl | rfl | rfl | rfl | rfl | rfl <;> rfl

/-- The release of reset before its checks. -/
def releasing (s : State) (testmode : Bool) : State :=
  { s with
    jtag := if s.pwr.resetNLow ∧ s.jtag.ir = 0 then { s.jtag with ir := 0xFF, dr := 0, driving := false } else s.jtag
    pwr := { s.pwr with resetNLow := false, testmode := testmode, opSeconds := 0, sinceRelease := 0 }
    dev := { s.dev with released := true } }

/-- The release of reset: FACTORY_TEST, or the check of the clocks. -/
theorem resetRelease_eq {s : State} (h1 : s.dev.st = .reset) (h2 : s.dev.released = false) (testmode lock : Bool) (dev : Int) :
    exec (.resetRelease testmode lock dev) s = .next
      (if testmode ∧ !(s.ros.fuses.getD 3648 {}).prog ∧ !s.pwr.latch then
        State.enter { releasing s testmode with clk := { s.clk with pllLocked := lock, gated := false, ratioDev := dev } } .factoryTest 0
      else ((releasing s testmode).condition bPWR 1 0 whoDev (testmode && (s.ros.fuses.getD 3648 {}).prog)).clockCheck lock dev) := by
  refine congrArg Host.Outcome.next (if_neg ?_)
  rw [h1, h2]
  rintro (h | h)
  · exact h rfl
  · cases h

/-- The release of reset outside FACTORY_TEST. -/
theorem release_checks {s : State} (h1 : s.dev.st = .reset) (h2 : s.dev.released = false) {testmode : Bool}
    (h3 : testmode = true → (s.ros.fuses.getD 3648 {}).prog = true ∨ s.pwr.latch = true) (lock : Bool) (dev : Int) :
    exec (.resetRelease testmode lock dev) s = .next
      (((releasing s testmode).condition bPWR 1 0 whoDev (testmode && (s.ros.fuses.getD 3648 {}).prog)).clockCheck lock dev) := by
  rw [resetRelease_eq h1 h2, if_neg]
  rintro ⟨ht, hp, hl⟩
  rcases h3 ht with h | h
  · rw [h] at hp
    cases hp
  · rw [h] at hl
    cases hl

theorem release_reset {s : State} (h1 : s.dev.st = .reset) (testmode : Bool) (on : Bool) :
    ((releasing s testmode).condition bPWR 1 0 whoDev on).dev.st = .reset := by
  cases on
  · exact (congrArg DevSt.st (clear_sameBut _ bPWR 1 0 whoDev .dev (by decide)) :).trans h1
  · exact raise_reset (s := releasing s testmode) (b := bPWR) (by decide) h1 1 0 whoDev

theorem release_released {s : State} (testmode : Bool) (on : Bool) :
    ((releasing s testmode).condition bPWR 1 0 whoDev on).dev.released = true :=
  (congrArg DevSt.released (condition_calm _ (b := bPWR) (by decide) ..).dev :)

/-- The occurrences of the check leave the source of TESTMODE live. -/
theorem clockCheck_isLive (s : State) (lock : Bool) (dev : Int) (h : s.isLive bPWR 1 0 = true) : (s.clockCheck lock dev).isLive bPWR 1 0 = true := by
  have c1 : (clocked s lock dev).isLive bPWR 1 0 = true := (clear_isLive_ne (.inl (by decide))).trans h
  cases lock with
  | false => exact (raiseWith_grows _ (fun s => brst_grows s bCLK) ..).live _ _ _ c1
  | true =>
    have c2 : ((clocked s true dev).clear bCLK 0 0 whoDev).isLive bPWR 1 0 = true := (clear_isLive_ne (.inl (by decide))).trans c1
    by_cases hr : dev < -200 ∨ 200 < dev
    · rw [clockCheck_ratio s hr]
      exact (raiseWith_grows _ (fun s => brst_grows s bCLK) ..).live _ _ _ c2
    · rw [clockCheck_passed s (by omega) (by omega)]
      have c3 : (((clocked s true dev).clear bCLK 0 0 whoDev).clear bCLK 1 0 whoDev).isLive bPWR 1 0 = true :=
        (clear_isLive_ne (.inl (by decide))).trans c2
      have same : (checked s dev).powerUpDomains.faults = (checked s dev).faults := powerUpDomains_sameBut _ .faults (by decide)
      unfold State.isLive
      rw [same]
      exact c3

/-- Settles O24: the release and a retry both check the clocks (`clockCheck_result`); nothing that occurs in RESET leaves it. -/
theorem releaseOfReset : Obligations.ReleaseOfReset := by
  unfold Obligations.ReleaseOfReset
  refine ⟨fun s c lock dev h => ?_, fun s lock dev h1 h2 => ⟨fun hp hl => ?_, fun hl => ?_, fun hp => ?_⟩⟩
  · obtain ⟨v, done, hst, hrel, hros, hpwr, hjt⟩ : ∃ v : State, exec c s = .next (v.clockCheck lock dev) ∧ v.dev.st = .reset ∧
        v.dev.released = true ∧ v.ros = s.ros ∧ (v.pwr.shed = s.pwr.shed ∧ v.pwr.latch = s.pwr.latch ∧ v.pwr.domains = s.pwr.domains) ∧
        (c = .resetRelease false lock dev → s.pwr.resetNLow = true → s.jtag.ir = 0 → v.jtag.ir = 0xFF ∧ v.jtag.driving = false) := by
      rcases h with ⟨rfl, h1, h2⟩ | ⟨rfl, h1, h2, h3⟩
      · have k := clear_sameBut (releasing s false) bPWR 1 0 whoDev
        have pwr : ((releasing s false).clear bPWR 1 0 whoDev).pwr = (releasing s false).pwr := k .pwr (by decide)
        refine ⟨_, release_checks (testmode := false) h1 h2 nofun lock dev, release_reset h1 .., release_released .., k .ros (by decide), ?_, fun _ hr hi => ?_⟩
        · exact ⟨(congrArg PwrSt.shed pwr :), (congrArg PwrSt.latch pwr :), (congrArg PwrSt.domains pwr :)⟩
        · have jtag : ((releasing s false).clear bPWR 1 0 whoDev).jtag = { s.jtag with ir := 0xFF, dr := 0, driving := false } :=
            (k .jtag (by decide) :).trans (if_pos ⟨hr, hi⟩)
          exact ⟨(congrArg JtagSt.ir jtag :), (congrArg JtagSt.driving jtag :)⟩
      · exact ⟨s, congrArg Host.Outcome.next (if_pos ⟨h1, h2, h3⟩), h1, h2, rfl, ⟨rfl, rfl, rfl⟩, nofun⟩
    obtain ⟨kc, unlocked, ratio, passed⟩ := clockCheck_result hst lock dev
    obtain ⟨pshed, platch, pdom⟩ := hpwr
    refine ⟨_, done, kc.st, kc.released.trans hrel, kc.locked, kc.ratio, kc.ros.trans hros, fun hc hr hi => ?_, unlocked, ratio, fun hl k1 k2 => ?_⟩
    · rw [kc.jtag]
      exact hjt hc hr hi
    · rw [passed hl k1 k2]
      have d : (checked v dev).powerUpDomains.dev = (checked v dev).dev := powerUpDomains_sameBut _ .dev (by decide)
      obtain ⟨shed, up⟩ := passed_domains v dev
      rw [pshed] at shed up
      rw [platch] at up
      refine ⟨by rw [d]; rfl, by rw [d]; rfl, by rw [d]; rfl, fun h d hd => ?_, up⟩
      rw [shed h d hd]
      unfold State.on
      rw [pdom]
  · have done := resetRelease_eq h1 h2 true lock dev
    rw [if_pos ⟨rfl, by rw [hp]; rfl, by rw [hl]; rfl⟩] at done
    generalize hu : ({ releasing s true with clk := { s.clk with pllLocked := lock, gated := false, ratioDev := dev } } : State) = u at done
    have away : u.dev.st ≠ .factoryTest := by
      rw [← hu, show State.dev _ = { s.dev with released := true } from rfl, h1]
      nofun
    have frame := enter_frame (s := u) (st := .factoryTest) 0
    have d := enter_dev (s := u) 0 away
    refine ⟨_, done, by rw [d], ?_, ?_, ?_⟩
    · rw [d, ← hu]
      rfl
    · exact (congrArg State.ros frame).trans (by rw [← hu]; rfl)
    · exact (congrArg State.faults frame).trans (by rw [← hu]; rfl)
  · have v := clockCheck_result (release_reset h1 true (true && (s.ros.fuses.getD 3648 {}).prog)) lock dev
    exact ⟨_, release_checks h1 h2 (fun _ => .inr hl) lock dev, v.1.st, v.1.released.trans (release_released ..)⟩
  · have v := clockCheck_result (release_reset h1 true (true && (s.ros.fuses.getD 3648 {}).prog)) lock dev
    refine ⟨_, release_checks h1 h2 (fun _ => .inl hp) lock dev, v.1.st, clockCheck_isLive _ _ _ ?_⟩
    rw [hp]
    exact raise_isLive (b := bPWR) (i := 1) (inst := 0) whoDev rfl (.inl (by decide))

end Sys2Proof.Proofs

end

section
/-! PROOFS. No trigger displaces the power-fail flush (R320). -/

set_option Elab.async false

namespace Sys2Proof.Occurrence
open Sys2Proof.Machine Sys2Proof.Safety Sys2Proof.Laws

variable {s t u : State}

/-! ### The flush of the power-fail sequence is not displaced (R320), and no record leaves the queue -/

/-- A flush that runs goes on, or a stronger one in its place; a power-fail flush goes on; the records queued stay queued. -/
structure TopKept (s t : State) : Prop where
  top : s.oxb.running = some .powerFail → t.oxb.running = some .powerFail
  busy : s.oxb.running ≠ none → t.oxb.running ≠ none
  dirty : s.oxb.dirty <+: t.oxb.dirty

theorem TopKept.refl (s : State) : TopKept s s := ⟨id, id, List.prefix_rfl⟩

theorem TopKept.trans (h : TopKept s t) (k : TopKept t u) : TopKept s u := ⟨k.top ∘ h.top, k.busy ∘ h.busy, h.dirty.trans k.dirty⟩

theorem TopKept.ite {c : Prop} [Decidable c] (h : TopKept s t) (k : TopKept s u) : TopKept s (if c then t else u) := by
  split <;> assumption

theorem TopKept.foldl {α : Type} {f : State → α → State} (hf : ∀ s a, TopKept s (f s a)) (l : List α) (s : State) : TopKept s (l.foldl f s) :=
  List.foldlRecOn (motive := TopKept s) l f (.refl s) fun t ht a _ => ht.trans (hf t a)

theorem TopKept.of_eq (h : t.oxb.running = s.oxb.running) (hd : t.oxb.dirty = s.oxb.dirty := by rfl) : TopKept s t :=
  ⟨h.trans, fun x => h ▸ x, by rw [hd]⟩

theorem TopKept.of_sameBut {ps : List Part} (h : SameBut ps s t) (ho : Part.oxb ∉ ps := by decide) : TopKept s t :=
  .of_eq (congrArg OxbSt.running (h .oxb ho)) (congrArg OxbSt.dirty (h .oxb ho))

theorem closeRecord_top (s : State) (o : OpenRec) (fl : Nat) : TopKept s (s.closeRecord o fl) := by
  unfold State.closeRecord State.waitForSlot
  refine .ite (.ite (.refl s) (.of_eq rfl)) ?_
  extract_lets code mine n r done key o2 f2 s1 n2
  have h1 : TopKept s s1 := ⟨id, id, List.prefix_append ..⟩
  exact .ite (h1.trans (.of_eq rfl)) h1

theorem closeAll_top (s : State) (fl : Nat) : TopKept s (s.closeAll fl) := .foldl (fun _ _ => closeRecord_top ..) ..

theorem closeDue_top (s : State) (code inst : Nat) : TopKept s (s.closeDue code inst) := by
  unfold State.closeDue
  split
  · exact .refl s
  · exact .ite (closeRecord_top ..) (.refl s)

theorem closeWaiting_top (s : State) : TopKept s s.closeWaiting := by
  refine .foldl (fun s w => ?_) ..
  split
  · exact .refl s
  · exact closeRecord_top ..

theorem oxbCount_top (s : State) (code inst sev : Nat) (injected : Bool) : TopKept s (s.oxbCount code inst sev injected).1 := by
  have h : TopKept s (s.makeWay code inst) := by
    unfold State.makeWay
    exact .ite ((closeDue_top ..).trans (closeDue_top ..)) (closeDue_top ..)
  exact ⟨h.top, h.busy, h.dirty⟩

theorem passToOxbow_top (s : State) (b i inst sev : Nat) (injected : Bool) : TopKept s (s.passToOxbow b i inst sev injected).1 := by
  unfold State.passToOxbow
  split
  · exact .of_eq rfl
  · split
    · split <;> exact .of_eq rfl
    · exact oxbCount_top ..

@[simp] theorem oxbBin_running (s : State) (l : LiveInst) : (s.oxbBin l).oxb.running = s.oxb.running := by
  unfold State.oxbBin
  split
  · rfl
  · split <;> rfl

@[simp] theorem clear_running (s : State) (b i inst who : Nat) : (s.clear b i inst who).oxb.running = s.oxb.running := by
  unfold State.clear
  split
  · rfl
  · dsimp only
    split
    · exact oxbBin_running ..
    · rfl

/-- A trigger while a flush runs. -/
theorem flushTrigger_running {r : FlushKind} (h : s.oxb.running = some r) (k : FlushKind) :
    (s.flushTrigger k).oxb.running = some (if r.rank < k.rank then k else r) := by
  unfold State.flushTrigger
  dsimp only
  rw [h]
  dsimp only
  split <;> rfl

theorem flushTrigger_dirty (s : State) (k : FlushKind) : s.oxb.dirty <+: (s.flushTrigger k).oxb.dirty := by
  unfold State.flushTrigger
  dsimp only
  split
  · exact List.prefix_rfl
  · split
    · exact (closeAll_top { s with oxb := { s.oxb with tlAsk := s.oxb.tlAsk || s.oxb.tlPending } } fgPARTIAL).dirty
    · exact List.prefix_rfl

/-- A trigger puts no weaker flush in the place of the one that runs. -/
theorem flushTrigger_top (s : State) (k : FlushKind) : TopKept s (s.flushTrigger k) := by
  cases hr : s.oxb.running with
  | none => exact ⟨fun h => absurd (hr.symm.trans h) nofun, fun h => absurd hr h, flushTrigger_dirty s k⟩
  | some r =>
    refine ⟨fun h => ?_, fun _ => by rw [flushTrigger_running hr]; nofun, flushTrigger_dirty s k⟩
    obtain rfl : r = .powerFail := Option.some.inj (hr.symm.trans h)
    rw [flushTrigger_running hr, if_neg (by cases k <;> decide)]

theorem flushForFault_top (s : State) : TopKept s s.flushForFault := by
  unfold State.flushForFault
  split
  · exact .ite (.of_eq rfl) (flushTrigger_top ..)
  · exact flushTrigger_top ..

theorem enter_top (s : State) (st : DevState) (reason : Nat) : TopKept s (s.enter st reason) :=
  .of_eq (congrArg (fun s => s.oxb.running) (enter_frame (s := s) (st := st) reason))
    (congrArg (fun s => s.oxb.dirty) (enter_frame (s := s) (st := st) reason))

theorem latchNow_top (s : State) : TopKept s s.latchNow :=
  .ite (.trans (.trans (t := { s with pwr := { s.pwr with latch := true } }) (.of_eq rfl) (flushTrigger_top ..)) (enter_top ..)) (.refl s)

theorem safeNow_top (s : State) (reason : Nat) : TopKept s (s.safeNow reason) :=
  .ite (.trans (t := { s with dev := { s.dev with safeLine := true, s3InSafe := true } }) (.of_eq rfl) (enter_top ..)) (.of_eq rfl)

theorem severityEffect_top (s : State) (b i inst sev : Nat) : TopKept s (s.severityEffect b i inst sev) := by
  unfold State.severityEffect
  extract_lets +onlyGivenNames f s1 s2 s3
  have h1 : TopKept s s1 := by
    unfold s1
    split
    · exact .ite (.of_eq rfl) (.refl s)
    · exact .refl s
  have h2 : TopKept s s2 :=
    .ite (h1.trans (.of_sameBut (touchLines_sameBut _ _))) (.ite (h1.trans (.of_sameBut (touchLines_sameBut _ _))) h1)
  have h3 : TopKept s s3 := .ite (h2.trans (flushForFault_top _)) h2
  exact .ite (h3.trans (latchNow_top _)) (.ite (h3.trans (safeNow_top ..)) h3)

theorem crst_top (s : State) : TopKept s s.crst :=
  .trans (.trans (t := { s with dev := { s.dev with safeLine := true, crstPending := true } }) (.of_eq rfl)
    (.of_sameBut (touchLines_sameBut _ _))) (flushTrigger_top ..)

theorem takeReactions_top {brst : State → Nat → State} (s : State) {b : Nat} (hb : ∀ s, brstAvailable b = true → TopKept s (brst s b))
    (i inst sev reacts : Nat) : TopKept s (s.takeReactions brst b i inst sev reacts) := by
  unfold State.takeReactions
  extract_lets s1 s2 s3
  have h2 : TopKept s s2 := (TopKept.of_sameBut (react_sameBut _ _ _ _ _ _)).trans (severityEffect_top ..)
  have h3 : TopKept s s3 := by
    unfold s3
    split
    · next h => exact h2.trans (hb _ h.2)
    · exact h2
  exact .ite (h3.trans (crst_top _)) h3

theorem raiseWith_top {brst : State → Nat → State} (s : State) {b : Nat} (hb : ∀ s, brstAvailable b = true → TopKept s (brst s b))
    (i inst who : Nat) : TopKept s (s.raiseWith brst b i inst who) := by
  unfold State.raiseWith
  split
  · exact .refl s
  next src _ =>
  extract_lets mine
  refine .ite (.refl s) (.ite ?_ ?_)
  · unfold State.extend
    dsimp only
    exact .trans (.ite (.refl s) (passToOxbow_top ..)) (.of_eq rfl)
  · generalize s.effective b i inst = x
    obtain ⟨sev, reacts⟩ := x
    dsimp only
    have h2 := passToOxbow_top s b i inst sev false
    generalize s.passToOxbow b i inst sev false = y at h2 ⊢
    obtain ⟨s2, r⟩ := y
    have h3 : TopKept s s2 := h2
    have after : ∀ u : State, u.oxb = s2.oxb → TopKept s (u.takeReactions brst b i inst sev reacts) := fun u e =>
      (h3.trans (.of_eq (by rw [e]) (by rw [e]))).trans (takeReactions_top u hb ..)
    exact after _ rfl

theorem raise_top (s : State) {b : Nat} (hb : brstAvailable b = false) (i inst who : Nat) : TopKept s (s.raise b i inst who) :=
  raiseWith_top s (fun _ h => by rw [hb] at h; cases h) ..

theorem raise_bOXB_top (s : State) (i inst who : Nat) : TopKept s (s.raise bOXB i inst who) :=
  raiseWith_top s (fun s _ => .ite (.refl s) (flushTrigger_top ..)) ..

end Sys2Proof.Occurrence

end

section
/-! PROOFS. The power-fail sequence (R370 to R372). O25. -/

set_option Elab.async false

namespace Sys2Proof.Occurrence
open Sys2Proof.Machine Sys2Proof.Safety Sys2Proof.Laws

variable {s t u : State}

/-- What the start of a flush leaves: nothing live falls, PD0 keeps what the warning has written, and a power-fail flush goes on. -/
structure Follows (s t : State) : Prop where
  grows : Grows s t
  pwr : t.pwr = { s.pwr with latch := t.pwr.latch, late := t.pwr.late }
  top : s.oxb.running = some .powerFail → t.oxb.running = some .powerFail

theorem Follows.refl (s : State) : Follows s s := ⟨.refl s, rfl, id⟩

theorem Follows.trans (h : Follows s t) (k : Follows t u) : Follows s u :=
  ⟨h.grows.trans k.grows, k.pwr.trans (by rw [h.pwr]), k.top ∘ h.top⟩

theorem Follows.ite {c : Prop} [Decidable c] (h : Follows s t) (k : Follows s u) : Follows s (if c then t else u) := by
  split <;> assumption

theorem Follows.foldl {α : Type} {f : State → α → State} (hf : ∀ s a, Follows s (f s a)) (l : List α) (s : State) : Follows s (l.foldl f s) :=
  List.foldlRecOn (motive := Follows s) l f (.refl s) fun t ht a _ => ht.trans (hf t a)

theorem closeRecord_follows (s : State) (o : OpenRec) (fl : Nat) : Follows s (s.closeRecord o fl) := by
  have k : (s.closeRecord o fl).pwr = s.pwr := closeRecord_sameBut s o fl .pwr (by decide)
  exact ⟨closeRecord_grows .., by rw [k], (closeRecord_top ..).top⟩

theorem closeAll_follows (s : State) (fl : Nat) : Follows s (s.closeAll fl) := .foldl (fun _ _ => closeRecord_follows ..) ..

theorem closeWaiting_follows (s : State) : Follows s s.closeWaiting := by
  refine .foldl (fun s w => ?_) ..
  split
  · exact .refl s
  · exact closeRecord_follows ..

theorem nextBurst_follows (s : State) : Follows s s.nextBurst :=
  .trans (t := { s with oxb := { s.oxb with inFlight := s.oxb.dirty.take 16, dirty := s.oxb.dirty.drop 16 } }) ⟨{}, rfl, id⟩
    (closeWaiting_follows _)

theorem raise_bOXB_follows (s : State) (i inst who : Nat) : Follows s (s.raise bOXB i inst who) :=
  ⟨raiseWith_grows _ (fun s => brst_grows s bOXB) .., (raise_bOXB_calm ..).pwr, (raise_bOXB_top ..).top⟩

/-- The operation of the TL word is nobody's request. -/
theorem takeJob_follows {j : RosJob} (h1 : j.party = .tl) (h2 : j.answer = false) (h3 : j.kind ≠ .sealOp) : Follows s (s.takeJob j) := by
  unfold State.takeJob
  rw [if_neg h3]
  dsimp only
  split
  · unfold State.partyRefused State.fuseAnswer
    rw [h1, h2]
    exact ⟨{}, rfl, id⟩
  · exact ⟨{}, rfl, id⟩

theorem askTl_follows (s : State) : Follows s s.askTl := by
  unfold State.askTl
  refine .ite (.refl s) ?_
  split
  · exact .refl s
  · split
    · exact .trans (t := { s with oxb := { s.oxb with tlPending := false } }) ⟨{}, rfl, id⟩ (raise_bOXB_follows ..)
    · dsimp only
      have h : Follows s { s with oxb := { s.oxb with tlTriedAt := s.time.tick } } := ⟨{}, rfl, id⟩
      refine .ite h (h.trans ?_)
      unfold State.askJob
      exact .ite ⟨{}, rfl, id⟩ (takeJob_follows rfl rfl nofun)

/-- A flush that starts. -/
theorem startFlush_follows (s : State) (k : FlushKind) :
    Follows { s with oxb := { s.oxb with running := some k, trigger := none, lastStart := some s.time.tick, flushed := 0 } } (s.startFlush k) := by
  unfold State.startFlush
  extract_lets +onlyGivenNames o s1 s2 s3
  have h2 : Follows s1 s2 := .ite (.refl _) (closeAll_follows ..)
  have h3 : Follows s1 s3 := h2.trans (nextBurst_follows _)
  exact .ite (h3.trans (.trans (t := { s3 with oxb := { s3.oxb with tlAsk := false } }) ⟨{}, rfl, id⟩ (askTl_follows _))) h3

/-- The power-fail flush takes the place of a weaker one that runs. -/
theorem flushTrigger_powerFail {r : FlushKind} (h : s.oxb.running = some r) : (s.flushTrigger .powerFail).oxb.running = some .powerFail := by
  rw [flushTrigger_running h]
  cases r <;> rfl

theorem flushTrigger_pwr (k : FlushKind) : (s.flushTrigger k).pwr = s.pwr := flushTrigger_sameBut s k .pwr (by decide)

end Sys2Proof.Occurrence
namespace Sys2Proof.Proofs
open Sys2Proof.Machine Sys2Proof.Safety Sys2Proof.Laws Sys2Proof.Occurrence

/-- The warning as PD0 takes it (R370). -/
def warned (s : State) (inst : Nat) : State :=
  ({ s with pwr := { s.pwr with warning := some inst, pfailSeen := true } } : State).raise bPWR 0 inst whoDev

/-- Oxbow's part of the power-fail sequence (R320). -/
def frozenBy (s : State) : State :=
  if !s.oxbRuns then s
  else
    let s := match s.oxb.running with
      | none => s.startFlush .powerFail
      | some _ => s.flushTrigger .powerFail
    { s with oxb := { s.oxb with frozen := true, trigger := none, deferredAt := none } }

/-- An occurrence of PWR leaves Oxbow running. -/
theorem warned_oxbRuns {s : State} (inst : Nat) (h : s.oxbRuns = true) : (warned s inst).oxbRuns = true := by
  have c : Calm { s with pwr := { s.pwr with warning := some inst, pfailSeen := true } } (warned s inst) := raise_calm _ (b := bPWR) (by decide) ..
  have k : TopKept { s with pwr := { s.pwr with warning := some inst, pfailSeen := true } } (warned s inst) := raise_top _ (b := bPWR) (by decide) ..
  unfold State.oxbRuns State.on OxbSt.stopped at h ⊢
  rw [c.pwr, c.clk, congrArg OxbSt.mounted c.oxb, congrArg OxbSt.frozen c.oxb]
  simp only [Bool.and_eq_true, Bool.not_eq_true', Bool.and_eq_false_iff, Option.isNone_eq_false_iff] at h ⊢
  obtain ⟨⟨⟨⟨h1, h2⟩, h3⟩, h4⟩, h5⟩ := h
  refine ⟨⟨⟨⟨h1, h2⟩, h3⟩, h4⟩, h5.imp id fun hr => ?_⟩
  rw [Option.isSome_iff_ne_none] at hr ⊢
  exact k.busy hr

/-- The sequence leaves what PD0 and the faults hold of the warning. -/
theorem frozenBy_keeps (s : State) : Grows s (frozenBy s) ∧ (frozenBy s).pwr = { s.pwr with latch := (frozenBy s).pwr.latch, late := (frozenBy s).pwr.late } ∧
    (s.oxbRuns = true → (frozenBy s).oxb.frozen = true ∧ (frozenBy s).oxb.running = some .powerFail ∧ (frozenBy s).oxb.trigger = none) := by
  unfold frozenBy
  cases h : s.oxbRuns with
  | false => exact ⟨.refl s, rfl, nofun⟩
  | true =>
    rw [if_neg (by nofun)]
    cases hr : s.oxb.running with
    | none =>
      have f := startFlush_follows s .powerFail
      exact ⟨.trans (t := s.startFlush .powerFail) (.trans {} f.grows) {}, f.pwr, fun _ => ⟨rfl, f.top rfl, rfl⟩⟩
    | some r =>
      have p := flushTrigger_pwr (s := s) .powerFail
      exact ⟨.trans (t := s.flushTrigger .powerFail) (flushTrigger_grows ..) {}, by dsimp only; rw [p], fun _ => ⟨rfl, flushTrigger_powerFail hr, rfl⟩⟩

/-- Settles O25: after the warning comes the flush that nothing displaces (`TopKept`). -/
theorem powerFailSequence : Obligations.PowerFailSequence := by
  unfold Obligations.PowerFailSequence
  intro s
  refine ⟨fun pin h1 h2 h3 => ?_, fun i h1 h2 => ?_, fun h => ?_, fun hf hr => ?_, fun h1 h2 => ?_⟩
  · have done : exec (.pfailWarning pin) s = .next (frozenBy (warned s (if pin then 1 else 0))) := by
      refine congrArg Host.Outcome.next (if_neg ?_)
      rintro (h | h | ⟨h4, h5⟩)
      · exact h1 h
      · rw [h2] at h
        cases h
      · rw [h3 (by simpa using h4)] at h5
        cases h5
    obtain ⟨g, p, runs⟩ := frozenBy_keeps (warned s (if pin then 1 else 0))
    have c : Calm { s with pwr := { s.pwr with warning := some (if pin then 1 else 0), pfailSeen := true } } (warned s (if pin then 1 else 0)) :=
      raise_calm _ (b := bPWR) (by decide) ..
    have w1 := (congrArg PwrSt.warning p :).trans (congrArg PwrSt.warning c.pwr :)
    have w2 := (congrArg PwrSt.pfailSeen p :).trans (congrArg PwrSt.pfailSeen c.pwr :)
    refine ⟨_, done, w1, w2, g.live _ _ _ ?_, fun h => runs (warned_oxbRuns _ h)⟩
    exact raise_isLive (b := bPWR) whoDev rfl (.inl (by decide))
  · refine ⟨_, congrArg Host.Outcome.next (if_neg ?_), rfl, rfl, fun d k1 k2 => ?_, ?_, rfl, rfl, rfl, rfl, rfl, rfl, rfl, rfl, rfl⟩
    · rw [h1, h2]
      rintro (h | h) <;> cases h
    · refine decide_eq_false fun h => ?_
      have := (List.mem_filter.1 h).2
      simp at this
      omega
    · have on : s.shedDomains.on 11 = s.on 11 := decide_eq_decide.2 (by
        show 11 ∈ s.pwr.domains.filter _ ↔ _
        simp)
      unfold State.oxbRuns
      rw [on]
      rfl
  · dsimp only
    have e : s.warningOver.oxb.running = s.oxb.running := (clear_running ..).trans (clear_running ..)
    have done : exec .pfailClear s = .next (if s.warningOver.oxb.running = some .powerFail then s.warningOver
        else { s.warningOver with oxb := { s.warningOver.oxb with frozen := false } }) := by
      refine congrArg Host.Outcome.next (if_neg ?_)
      rw [h]
      nofun
    rw [e] at done
    exact ⟨fun hr => done.trans (congrArg _ (if_pos hr)), fun hr => done.trans (congrArg _ (if_neg hr))⟩
  · have off : s.oxbRuns = false := by
      unfold State.oxbRuns OxbSt.stopped
      rw [hf, hr]
      simp
    refine ⟨congrArg Host.Outcome.next (if_pos (by rw [off]; rfl)), congrArg Host.Outcome.next ?_, congrArg Host.Outcome.next ?_⟩
    · exact if_pos (.inl (by rw [off]; rfl))
    · split
      · rfl
      · exact if_pos (by rw [off]; rfl)
  · refine ⟨_, congrArg Host.Outcome.next (if_pos ⟨h1, h2⟩), rfl, rfl, rfl, rfl, rfl, ?_⟩
    exact (congrArg RosSt.fuses ((clear_sameBut _ bPWR 0 1 whoDev .ros (by decide)).trans (clear_sameBut _ bPWR 0 0 whoDev .ros (by decide))) :)

end Sys2Proof.Proofs

end

section
/-! PROOFS. The supply and clock monitors (R366, R375 to R377). O26. -/

set_option Elab.async false

namespace Sys2Proof.Occurrence
open Sys2Proof.Machine Sys2Proof.Safety Sys2Proof.Laws

variable {s : State}

/-- What a record that is taken back into the pending table leaves. -/
theorem reopen_oxb (s : State) (r : OxbRec) : SameBut [.oxb] s (s.reopen r) ∧
    (s.reopen r).oxb.running = s.oxb.running ∧ (s.reopen r).oxb.inFlight = s.oxb.inFlight ∧ (s.reopen r).oxb.dirty = s.oxb.dirty := by
  unfold State.reopen State.waitForSlot
  generalize s.recordFor r.code r.inst r.start = x
  obtain ⟨o, first⟩ := x
  dsimp only
  generalize (if first then _ else _ : OxbRec) = m
  split <;> exact ⟨sameBut_oxb _ _, rfl, rfl, rfl⟩

/-- A flush that is stopped: as many of its records as the queue holds stay in it. -/
theorem requeue_oxb (s : State) (rest : List OxbRec) : SameBut [.oxb] s (s.requeue rest) ∧
    (s.requeue rest).oxb.running = none ∧ (s.requeue rest).oxb.inFlight = [] ∧ (s.requeue rest).oxb.dirty = rest.take 8192 := by
  unfold State.requeue
  refine List.foldlRecOn (motive := fun t : State => SameBut [.oxb] s t ∧ t.oxb.running = none ∧ t.oxb.inFlight = [] ∧ t.oxb.dirty = rest.take 8192)
    _ _ ⟨sameBut_oxb _ _, rfl, rfl, rfl⟩ fun t ⟨k, h1, h2, h3⟩ r _ => ?_
  obtain ⟨k', e1, e2, e3⟩ := reopen_oxb t r
  exact ⟨k.trans k', e1.trans h1, e2.trans h2, e3.trans h3⟩

theorem lockLost_sameBut (s : State) : SameBut [.pwr, .dev] s s.lockLost :=
  .ite (SameBut.trans (t := { s with pwr := { s.pwr with latch := true } }) (sameBut_pwr _ _).mono (sameBut_dev _ _).mono)
    (.ite (.refl _ s) (sameBut_pwr _ _).mono)

theorem judgeRatio_out (h : s.operating = true) (outFive : Bool) : s.judgeRatio outFive true =
    (let t := s.condition bCLK 1 0 whoDev outFive
     let u : State := { t with clk := { t.clk with outTwo := t.clk.outTwo + 1 } }
     if 2 ≤ t.clk.outTwo + 1 then u.raise bCLK 2 0 whoDev else u) := by
  unfold State.judgeRatio
  rw [h]
  rfl

theorem judgeRatio_in (h : s.operating = true) : s.judgeRatio false false =
    (let t := s.clear bCLK 1 0 whoDev
     ({ t with clk := { t.clk with outTwo := 0 } } : State).clear bCLK 2 0 whoDev) := by
  unfold State.judgeRatio
  rw [h]
  rfl

/-- A window outside 5 %: the occurrence, and the count of windows outside 2 %. -/
theorem judgeRatio_wide (h : s.operating = true) :
    (s.judgeRatio true true).isLive bCLK 1 0 = true ∧ (s.judgeRatio true true).clk.outTwo = s.clk.outTwo + 1 := by
  have live : (s.raise bCLK 1 0 whoDev).isLive bCLK 1 0 = true := raise_isLive (b := bCLK) whoDev rfl (.inl (by decide))
  have clk : (s.raise bCLK 1 0 whoDev).clk = s.clk := (raise_calm s (b := bCLK) (by decide) ..).clk
  have e := judgeRatio_out h true
  rw [show s.condition bCLK 1 0 whoDev true = s.raise bCLK 1 0 whoDev from rfl] at e
  generalize s.raise bCLK 1 0 whoDev = t at live clk e
  rw [e]
  dsimp only
  split
  · refine ⟨(raiseWith_grows _ (fun s => brst_grows s bCLK) ..).live _ _ _ live, ?_⟩
    rw [show (State.raise _ bCLK 2 0 whoDev).clk = _ from (raise_calm _ (b := bCLK) (by decide) ..).clk, clk]
  · exact ⟨live, by rw [clk]⟩

end Sys2Proof.Occurrence
namespace Sys2Proof.Proofs
open Sys2Proof.Machine Sys2Proof.Safety Sys2Proof.Laws Sys2Proof.Occurrence

/-- The clocks after a loss of lock. -/
def unlocked (s : State) : State := { s with clk := { s.clk with pllLocked := false, gated := true } }

/-- A loss of the PLL lock: the occurrence, the latch, and the records of the flush that stops. -/
theorem pllLockLoss_locked {s : State} (h : s.clk.pllLocked = true) : exec .pllLockLoss s = .next
    (let u := ((unlocked s).raise bCLK 0 0 whoDev).lockLost
     let v := u.requeue (u.oxb.inFlight ++ u.oxb.dirty)
     { v with pwr := { v.pwr with shedDone := v.pwr.shedDone || v.pwr.shed } }) :=
  congrArg Host.Outcome.next (if_neg (by rw [h]; nofun))

/-- Outside FACTORY_TEST the loss sets the latch; in RESET it holds for the lock (R38). -/
theorem lockLost_latch {s : State} : (s.dev.st ≠ .factoryTest → s.lockLost.pwr.latch = true) ∧ s.lockLost.pwr.shed = s.pwr.shed ∧
    (s.dev.st = .reset → s.lockLost.dev.st = .reset ∧ s.lockLost.dev.hold = if s.dev.hold = 0 then 2 else s.dev.hold) := by
  unfold State.lockLost
  split
  · next h =>
    refine ⟨fun _ => rfl, rfl, fun _ => ?_⟩
    dsimp only
    split
    · exact ⟨h, rfl⟩
    · exact ⟨h, rfl⟩
  · next h =>
    split
    · next h' => exact ⟨fun k => absurd h' k, rfl, fun k => absurd k h⟩
    · exact ⟨fun _ => rfl, rfl, fun k => absurd k h⟩

/-- Settles O26: the sources by their commands; a lost lock by its parts, the occurrence (`Calm`, `TopKept`), the latch and the queue. -/
theorem supplyAndClockMonitors : Obligations.SupplyAndClockMonitors := by
  unfold Obligations.SupplyAndClockMonitors
  intro s hst
  refine ⟨fun k hk => ⟨congrArg Host.Outcome.next (if_neg ?_), rfl⟩, congrArg Host.Outcome.next (if_neg hst), rfl, fun hl => ?_, fun hr n => ⟨fun hn => ?_, fun h1 h2 => ?_⟩,
    fun hr => ?_⟩
  · rintro (h | h)
    · exact hst h
    · omega
  · have c : Calm (unlocked s) ((unlocked s).raise bCLK 0 0 whoDev) := raise_calm _ (b := bCLK) (by decide) ..
    have q : TopKept (unlocked s) ((unlocked s).raise bCLK 0 0 whoDev) := raise_top _ (b := bCLK) (by decide) ..
    have live : ((unlocked s).raise bCLK 0 0 whoDev).isLive bCLK 0 0 = true := raise_isLive (b := bCLK) whoDev rfl (.inl (by decide))
    have rst : s.dev.st = .reset → ((unlocked s).raise bCLK 0 0 whoDev).dev.st = .reset := fun h => raise_reset (s := unlocked s) (b := bCLK) (by decide) h ..
    have fac : s.dev.st ≠ .factoryTest → ((unlocked s).raise bCLK 0 0 whoDev).dev.st ≠ .factoryTest := fun h => by
      rcases raise_arrives (b := bCLK) (by decide) (unlocked s) 0 0 whoDev with ⟨e, -⟩ | ⟨-, e | e⟩
      · rw [e]
        exact h
      · rw [e]
        nofun
      · rw [e]
        nofun
    have done := pllLockLoss_locked hl
    generalize (unlocked s).raise bCLK 0 0 whoDev = w at c q live rst fac done
    obtain ⟨latch, shed, hold⟩ := lockLost_latch (s := w)
    have ls := lockLost_sameBut w
    obtain ⟨rs, e1, e2, e3⟩ := requeue_oxb w.lockLost (w.lockLost.oxb.inFlight ++ w.lockLost.oxb.dirty)
    dsimp only at done
    generalize w.lockLost.requeue (w.lockLost.oxb.inFlight ++ w.lockLost.oxb.dirty) = v at rs e1 e2 e3 done
    have oxb : w.lockLost.oxb = w.oxb := ls .oxb (by decide)
    have clk : v.clk = (unlocked s).clk := (rs .clk (by decide)).trans ((ls .clk (by decide) :).trans c.clk)
    have flt : v.faults = w.faults := (rs .faults (by decide)).trans (ls .faults (by decide))
    have pwr : v.pwr = w.lockLost.pwr := rs .pwr (by decide)
    have dev : v.dev = w.lockLost.dev := rs .dev (by decide)
    refine ⟨_, done, congrArg ClkSt.pllLocked clk, congrArg ClkSt.gated clk, ?_, e1, e2, ?_, fun h => ?_, fun h => ?_, fun h => ?_⟩
    · exact (congrArg (fun f : FaultSt => f.live.any _) flt).trans live
    · show _ <+: v.oxb.dirty
      rw [e3, oxb, show w.oxb.inFlight = s.oxb.inFlight from (congrArg OxbSt.inFlight c.oxb :)]
      exact ((List.prefix_append_right_inj _).2 q.dirty).take _
    · exact (congrArg PwrSt.latch pwr).trans (latch (fac h))
    · have hs : w.pwr.shed = true := (congrArg PwrSt.shed c.pwr :).trans h
      show (v.pwr.shedDone || v.pwr.shed) = true
      rw [pwr, shed, hs, Bool.or_true]
    · obtain ⟨k1, k2⟩ := hold (rst h)
      have hh : w.dev.hold = s.dev.hold := (congrArg DevSt.hold c.dev :)
      rw [hh] at k2
      exact ⟨(congrArg DevSt.st dev :).trans k1, (congrArg DevSt.hold dev :).trans k2⟩
  · have op : s.operating = true := by
      unfold State.operating
      simp [hst, hr]
    have e : exec (.ratioWindowEnd n) s = .next
        (({ s with clk := { s.clk with ratioDev := max (-32768) (min 32767 (((n : Int) - 400000) / 40)) } } : State).judgeRatio true true) := by
      have five : (decide (((n : Int) - 400000) < -20000) || decide (20000 < ((n : Int) - 400000))) = true := by
        simp only [Bool.or_eq_true, decide_eq_true_eq]
        omega
      have two : (decide (((n : Int) - 400000) < -8000) || decide (8000 < ((n : Int) - 400000))) = true := by
        simp only [Bool.or_eq_true, decide_eq_true_eq]
        omega
      refine congrArg Host.Outcome.next ?_
      dsimp only
      rw [five, two]
    exact ⟨_, e, judgeRatio_wide op⟩
  · have op : s.operating = true := by
      unfold State.operating
      simp [hst, hr]
    have e : exec (.ratioWindowEnd n) s = .next
        (({ s with clk := { s.clk with ratioDev := max (-32768) (min 32767 (((n : Int) - 400000) / 40)) } } : State).judgeRatio false false) := by
      have five : (decide (((n : Int) - 400000) < -20000) || decide (20000 < ((n : Int) - 400000))) = false := by
        simp only [Bool.or_eq_false_iff, decide_eq_false_iff_not]
        omega
      have two : (decide (((n : Int) - 400000) < -8000) || decide (8000 < ((n : Int) - 400000))) = false := by
        simp only [Bool.or_eq_false_iff, decide_eq_false_iff_not]
        omega
      refine congrArg Host.Outcome.next ?_
      dsimp only
      rw [five, two]
    have e := e.trans (congrArg Host.Outcome.next (judgeRatio_in (s := { s with clk := _ }) op))
    generalize hv : ({ s with clk := { s.clk with ratioDev := max (-32768) (min 32767 (((n : Int) - 400000) / 40)) } } : State) = v at e
    have c1 : (v.clear bCLK 1 0 whoDev).clk = v.clk := clear_sameBut _ _ _ _ _ .clk (by decide)
    have c2 := (clear_sameBut ({ v.clear bCLK 1 0 whoDev with clk := { (v.clear bCLK 1 0 whoDev).clk with outTwo := 0 } } : State) bCLK 2 0 whoDev .clk (by decide) :)
    refine ⟨_, e, congrArg ClkSt.outTwo c2, (congrArg ClkSt.ratioDev c2).trans ((congrArg ClkSt.ratioDev c1).trans ?_)⟩
    rw [← hv]
    show max (-32768) (min 32767 (((n : Int) - 400000) / 40)) = _
    omega
  · exact ⟨_, rfl, judgeRatio_wide (by unfold State.operating; simp [hst, hr])⟩

end Sys2Proof.Proofs

end

section
/-! PROOFS. What a sensing makes of the shadow, and what it decides (R351, R352). O29. -/

set_option Elab.async false

namespace Sys2Proof.HoldReason
open Sys2Proof.Machine Sys2Proof.Safety Sys2Proof.Laws Sys2Proof.Occurrence

variable {s : State}

/-! ### The shadow that a sensing makes (R351) -/

/-- The entries of a table with distinct keys, put one after the other: each key has its own. -/
theorem tab_get_puts {α β : Type} (f : α → β) {l : Tab α} (h : (l.map (·.1)).Pairwise (· < ·)) (t : Tab β) (k : Nat) :
    Tab.get? (l.foldl (fun t e => Tab.put t e.1 (f e.2)) t) k = ((l.get? k).map f).or (t.get? k) := by
  induction l generalizing t with
  | nil => rfl
  | cons e l ih =>
    obtain ⟨i, v⟩ := e
    rw [List.map_cons, List.pairwise_cons] at h
    obtain ⟨first, rest⟩ := h
    rw [List.foldl_cons, ih rest, tab_get_put]
    by_cases hk : k = i
    · subst hk
      have absent : Tab.get? l k = none := by
        cases hg : Tab.get? l k with
        | none => rfl
        | some x => exact absurd (first k (List.mem_map.2 ⟨_, tab_mem hg, rfl⟩)) (by omega)
      rw [absent, if_pos rfl]
      show _ = ((if k = k then some v else _ : Option α).map f).or _
      rw [if_pos rfl]
      rfl
    · have same : Tab.get? ((i, v) :: l) k = Tab.get? l k := if_neg (Ne.symm hk)
      rw [same, if_neg hk]

/-- A word that reads as it is. -/
def cleanShadow (f : FuseWord) : ShadowWord := ⟨f.data, f.prog || f.data != 0, false, false⟩

theorem senseWord_clean (f : FuseWord) : senseWord f (.equal (.clean f.data)) = cleanShadow f := by
  unfold senseWord showsBit cleanShadow
  have shows : ((EccRead.clean f.data : EccRead) != .clean 0) = (f.data != 0) := by
    by_cases h : f.data = 0
    · rw [h]
      rfl
    · rw [bne_iff_ne.2 h, bne_iff_ne.2 fun e => h (EccRead.clean.inj e)]
  show ShadowWord.mk _ (f.prog || (EccRead.clean f.data != .clean 0)) _ _ = _
  rw [shows]
  rfl

/-- The shadow after a sensing in which one word reads in another way. -/
theorem sensedShadow_one {fuses : Tab FuseWord} (h : (fuses.map (·.1)).Pairwise (· < ·)) {w : Nat} (hw : w < 4096) (x : Sense) (k : Nat) :
    (sensedShadow fuses [(w, x)]).getD k {} = if k = w then senseWord (fuses.getD w {}) x else cleanShadow (fuses.getD k {}) := by
  have e : sensedShadow fuses [(w, x)] =
      Tab.put (fuses.foldl (fun t e => Tab.put t e.1 (senseWord e.2 (.equal (.clean e.2.data)))) []) w (senseWord (fuses.getD w {}) x) := if_pos hw
  rw [e, tab_getD_put]
  split
  · rfl
  · unfold Tab.getD
    rw [tab_get_puts (fun f : FuseWord => senseWord f (.equal (.clean f.data))) h]
    cases Tab.get? fuses k with
    | none => rfl
    | some f => exact senseWord_clean f

/-! ### The judgement -/

/-- The sensing raises sources of Rosemary, in RESET: the device state, the hold and the latch stay. -/
structure Judged (s t : State) : Prop where
  calm : Calm s t
  st : t.dev.st = s.dev.st
  latch : t.pwr.latch = s.pwr.latch

theorem Judged.refl (s : State) : Judged s s := ⟨.refl s, rfl, rfl⟩

theorem Judged.trans {t u : State} (h : Judged s t) (k : Judged t u) : Judged s u :=
  ⟨h.calm.trans k.calm, k.st.trans h.st, k.latch.trans h.latch⟩

theorem raise_judged {t : State} (h : Judged s t) (hs : s.dev.st = .reset) (i inst who : Nat) : Judged s (t.raise bROS i inst who) := by
  rcases raise_arrives (b := bROS) (by decide) t i inst who with ⟨e1, e2⟩ | ⟨e, -⟩
  · exact h.trans ⟨raise_calm t (b := bROS) (by decide) .., e1, e2⟩
  · rw [h.st, hs] at e
    cases e

theorem foldl_judged {α : Type} {f : State → α → State} (hf : ∀ t a, Judged s t → Judged s (f t a)) (l : List α) : Judged s (l.foldl f s) :=
  List.foldlRecOn (motive := Judged s) l f (.refl s) fun t ht a _ => hf t a ht

theorem sensingSources_judged (hs : s.dev.st = .reset) : Judged s s.sensingSources := by
  refine foldl_judged (fun t e h => ?_) _
  split
  · split
    · exact h
    · exact raise_judged h hs ..
  · split
    · exact raise_judged h hs 1 e.1 0
    · exact h

/-- The part of Rosemary when the integrity is judged. -/
def sensedRos (s : State) (odd : List (Nat × Sense)) : RosSt :=
  { s.ros with shadow := sensedShadow s.ros.fuses odd, sensed := true, jtagLocked := ((sensedShadow s.ros.fuses odd).getD 1284 {}).val.getLsbD 0 }

/-- What the sensing has done when the integrity is judged. -/
theorem failedState_parts (hs : s.dev.st = .reset) (odd : List (Nat × Sense)) :
    (failedState s odd).dev.st = .reset ∧ (failedState s odd).dev.hold = s.dev.hold ∧ (failedState s odd).pwr.latch = s.pwr.latch ∧
      (failedState s odd).ros = sensedRos s odd ∧ (s.pwr.shed = false → (failedState s odd).on 8 = true) := by
  have h1 : Judged { s with ros := sensedRos s odd } (State.sensingSources { s with ros := sensedRos s odd }) := sensingSources_judged hs
  generalize hu : State.sensingSources { s with ros := sensedRos s odd } = u at h1
  have es : sensedState s odd = u.domainOn 8 := congrArg (fun s => State.domainOn s 8) hu
  have h2 : Judged (sensedState s odd) (failedState s odd) :=
    foldl_judged (fun t e h => raise_judged h (by rw [es]; exact h1.st.trans hs) 0 e.1 whoDev) _
  rw [es] at h2
  generalize failedState s odd = v at h2
  refine ⟨h2.st.trans (h1.st.trans hs), ?_, h2.latch.trans h1.latch, h2.calm.ros.trans (h1.calm.ros :), fun h => ?_⟩
  · exact (congrArg DevSt.hold h2.calm.dev :).trans (congrArg DevSt.hold h1.calm.dev :)
  · have shed : u.pwr.shed = false := (congrArg PwrSt.shed h1.calm.pwr :).trans h
    have dom : v.pwr.domains = (u.domainOn 8).pwr.domains := (congrArg PwrSt.domains h2.calm.pwr :)
    unfold State.on
    rw [dom]
    have up := domainsOn_on shed 8 [8]
    exact up.trans (by rw [decide_eq_true (List.mem_singleton_self 8)]; rfl)

/-- Each failing region has its source live. -/
theorem failedState_isLive {odd : List (Nat × Sense)} {g k : Nat} (h : (g, k) ∈ failures (sensedState s odd)) :
    (failedState s odd).isLive bROS 0 g = true := by
  obtain ⟨as, bs, e⟩ := List.append_of_mem h
  unfold failedState
  rw [e, List.foldl_append, List.foldl_cons]
  have live : ∀ t : State, (t.raise bROS 0 g whoDev).isLive bROS 0 g = true := fun t => raise_isLive (b := bROS) (i := 0) whoDev rfl (.inl (by decide))
  exact (Grows.foldl (f := fun s (e : Nat × Nat) => s.raise bROS 0 e.1 whoDev) (fun s f => raiseWith_grows s (fun s => brst_grows s bROS) 0 f.1 whoDev) bs _).live _ _ _ (live _)

theorem sensingDecision_on (fs : List (Nat × Nat)) (d : Nat) : (sensingDecision s fs).on d = s.on d := by
  unfold sensingDecision
  split
  · rfl
  · split
    · exact congrArg (fun p : PwrSt => decide (d ∈ p.domains)) (congrArg State.pwr (enter_frame (s := s) (st := .latched) 0) :)
    · exact congrArg (fun p : PwrSt => decide (d ∈ p.domains)) (congrArg State.pwr (enter_frame (s := s) (st := .boot) 0) :)

end Sys2Proof.HoldReason
namespace Sys2Proof.Proofs
open Sys2Proof.Machine Sys2Proof.Safety Sys2Proof.Laws Sys2Proof.Occurrence Sys2Proof.HoldReason

/-- Settles O29: the shadow is that of `sensedShadow_one`; the decision is `sensingDecision` on the failures that the shadow shows. -/
theorem sensingDecides : Obligations.SensingDecides := by
  unfold Obligations.SensingDecides
  intro s w x hst hrel hhold hsensed hsorted hw
  obtain ⟨dst, dhold, dlatch, dros, don⟩ := failedState_parts hst [(w, x)]
  have ros := (sensingDecision_ros (failedState s [(w, x)]) (failures (sensedState s [(w, x)]))).trans dros
  have shadow : ∀ k, (sensingDecision (failedState s [(w, x)]) (failures (sensedState s [(w, x)]))).shadow k =
      if k = w then senseWord (s.ros.fuses.getD w {}) x else cleanShadow (s.ros.fuses.getD k {}) := fun k => by
    unfold State.shadow
    rw [ros]
    exact sensedShadow_one hsorted hw x k
  have here := shadow w
  rw [if_pos rfl] at here
  have fails := failures_congr ((sensingDecision_ros (failedState s [(w, x)]) (failures (sensedState s [(w, x)]))).trans (failedState_ros s [(w, x)]))
  have live := fun g k => failedState_isLive (s := s) (odd := [(w, x)]) (g := g) (k := k)
  have on8 := sensingDecision_on (s := failedState s [(w, x)]) (failures (sensedState s [(w, x)])) 8
  have done := exec_rosSensing (odd := [(w, x)]) hst hrel hhold hsensed
  generalize failedState s [(w, x)] = v at *
  generalize failures (sensedState s [(w, x)]) = fs at *
  refine ⟨_, done, (congrArg RosSt.fuses ros :), fun h => on8.trans (don h), (congrArg RosSt.sensed ros :), ?_, fun k hk => ?_, ?_, ?_, ?_, ?_, fun h => ?_, fun g hg k hk => ?_⟩
  · unfold State.shadow
    rw [ros]
    rfl
  · rw [shadow k, if_neg hk]
    rfl
  · rintro v rfl
    rw [here]
    exact ⟨rfl, rfl, rfl⟩
  · rintro v rfl
    rw [here]
    exact ⟨rfl, rfl, rfl⟩
  · rintro rfl
    rw [here]
    exact ⟨rfl, rfl⟩
  · rintro n m0 m1 v rfl hn
    have val : eccValue n = some v := by rcases hn with rfl | rfl <;> rfl
    have dec : senseDecide (.unequal n m0 m1) = if eccClean m0 v || eccClean m1 v then (v, true, false) else (0, false, true) := by
      simp only [senseDecide, val]
    rw [here]
    unfold senseWord
    rw [dec]
    unfold eccClean
    refine ⟨fun h => ?_, fun h0 h1 => ?_⟩
    · rw [if_pos (by simpa using h)]
      exact ⟨rfl, rfl, rfl⟩
    · rw [if_neg (by simp [h0, h1])]
      exact ⟨rfl, rfl⟩
  · have none : fs = [] := by
      rw [← fails]
      simp [failures, h]
    subst none
    unfold sensingDecision
    rw [dlatch]
    cases s.pwr.latch
    · rw [if_neg (by nofun), enter_dev 0 (by rw [dst]; nofun)]
      exact ⟨dhold.trans hhold, rfl⟩
    · rw [if_pos rfl]
      show (v.enter .latched 0).dev.hold = 0 ∧ (v.enter .latched 0).dev.st = _
      rw [enter_dev 0 (by rw [dst]; nofun)]
      exact ⟨dhold.trans hhold, rfl⟩
  · have mem : (g, k) ∈ fs := by
      rw [← fails]
      exact List.mem_filterMap.2 ⟨g, hg, by rw [hk]; rfl⟩
    cases hf : fs with
    | nil => rw [hf] at mem; cases mem
    | cons f rest =>
      rw [hf] at hk fails
      refine ⟨dst, rfl, live g k mem, fun h0 => ?_⟩
      subst h0
      obtain ⟨rest', e⟩ := failures_eq_cons hg (fun e _ h => absurd h (by omega)) hk
      rw [e] at fails
      obtain ⟨rfl, -⟩ := List.cons.inj fails
      exact ⟨rfl, rfl⟩

end Sys2Proof.Proofs

end

section
/-! PROOFS. The comparator tests and the choice of the bundle bank (R199, R41). -/

set_option Elab.async false

namespace Sys2Proof.Boot
open Sys2Proof.Machine Sys2Proof.Safety Sys2Proof.Laws Sys2Proof.Occurrence

variable {s : State}

/-! ### The comparator tests (R199) -/

/-- The lanes that the test inverts in each of its steps. -/
theorem laneInverted_iff {step group lane : Nat} : laneInverted step group lane = true ↔
    (1 ≤ step ∧ step ≤ 32 ∧ lane + 1 = step) ∨ (33 ≤ step ∧ step ≤ 63 ∧ (lane + 33 = step ∨ lane + 32 = step)) ∨
      (64 ≤ step ∧ step ≤ 159 ∧ group + 64 = step ∧ (lane = 0 ∨ lane = 31)) := by
  unfold laneInverted
  split
  · simp only [Bool.false_eq_true, false_iff]
    omega
  · split
    · rw [beq_iff_eq]
      omega
    · split
      · rw [Bool.or_eq_true, beq_iff_eq, beq_iff_eq]
        omega
      · rw [Bool.and_eq_true, Bool.or_eq_true, beq_iff_eq, beq_iff_eq, beq_iff_eq]
        omega

/-- A single report that is wrong names its group. -/
theorem firstFailing_one {r : LaneReport} (h1 : r.step ≤ 160) (h2 : r.group < 96) (h3 : r.lane < 32) :
    firstFailing [r] = if r.reported = laneInverted r.step r.group r.lane then none else some r.group := by
  have w : LaneReport.wrong r = (r.reported != laneInverted r.step r.group r.lane) := by
    unfold LaneReport.wrong
    rw [decide_eq_true ⟨h1, h2, h3⟩, Bool.true_and]
  unfold firstFailing
  rw [List.filter_singleton, w]
  by_cases e : r.reported = laneInverted r.step r.group r.lane
  · rw [if_pos e, e, bne_self_eq_false, cond_false, List.mergeSort_nil]
    rfl
  · rw [if_neg e, bne_iff_ne.2 e, cond_true, List.mergeSort_singleton]
    rfl

theorem cmpInjectionTest_runs {p : Nat} (reports : List LaneReport) (hst : s.dev.st = .boot) (h1 : 1 ≤ p) (h6 : p ≤ 6) (on : s.on p = true)
    (untested : (s.pair p).selfTestOk = false) (before : ∀ q, 1 ≤ q → q < p → (s.pair q).selfTestOk = true) :
    exec (.cmpInjectionTest p reports) s = .next (match firstFailing reports with
      | some g => s.event p 4 g
      | none => s.setPair p { s.pair p with selfTestOk := true }) := by
  refine congrArg Host.Outcome.next (if_neg ?_)
  have all : (List.range p).all (fun q => q == 0 || (s.pair q).selfTestOk) = true := by
    refine List.all_eq_true.2 fun q hq => ?_
    rw [Bool.or_eq_true, beq_iff_eq]
    exact (Nat.eq_zero_or_pos q).imp id fun h => before q h (List.mem_range.1 hq)
  have pair : isPair p = true := by simp [isPair, h1, h6]
  rintro (h | h | h | h | h)
  · rw [pair] at h
    cases h
  · exact h hst
  · rw [show s.on (pairDomain p) = true from on] at h
    cases h
  · rw [untested] at h
    cases h
  · rw [all] at h
    cases h

/-! ### The ROM (R41) -/

theorem romBankCheck_selects (hst : s.dev.st = .boot) (hr : s.bundles.running = none) (tested : ∀ p, 1 ≤ p → p ≤ 6 → (s.pair p).selfTestOk = true) :
    exec (.romBankCheck []) s = .next (match s.romSelect with
      | none => ((s.takeLifetime ((List.range 3).map (fun i => s.oxb.mram.seconds.getD i 0 ^^^ (([] : List Word).getD i 0).toNat))
          s.oxb.mram.cycles).enterMaintenance .rom none).romService
      | some (bank, m, fallback) =>
        let s : State := { s with
          bundles := { s.bundles with running := some bank, manifest := some m },
          dev := { s.dev with bundleFallback := fallback } }
        if fallback then s.event bSUP 6 bank else s) := by
  refine congrArg Host.Outcome.next (if_neg ?_)
  have all : ([1, 2, 3, 4, 5, 6] : List Nat).all (fun p => (s.pair p).selfTestOk) = true := by
    refine List.all_eq_true.2 fun p hp => ?_
    simp only [List.mem_cons, List.not_mem_nil, or_false] at hp
    exact tested p (by omega) (by omega)
  rintro (h | h | h)
  · exact h hst
  · rw [hr] at h
    cases h
  · rw [all] at h
    cases h

/-- The lifetime values touch neither the bundles nor, while nothing is worse than an event of PWR, more than the fault state. -/
theorem takeLifetime_bundles (secs cycs : List Nat) : (s.takeLifetime secs cycs).bundles = s.bundles := by
  unfold State.takeLifetime
  extract_lets +onlyGivenNames base p s1 q s2 s3
  have h3 : Calm s2 s3 := .ite (event_calm s2 (b := bPWR) (by decide) ..) (.refl s2)
  have h4 : Calm s2 (if copiesDiffer cycs = true then s3.event bPWR 4 1 else s3) := .ite (h3.trans (event_calm s3 (b := bPWR) (by decide) ..)) h3
  exact h4.bundles

theorem takeLifetime_arrives (hst : s.dev.st = .boot) (secs cycs : List Nat) : (s.takeLifetime secs cycs).dev.st ≠ .maintenance := by
  unfold State.takeLifetime
  extract_lets +onlyGivenNames base p s1 q s2 s3
  have step : ∀ (t : State) (i : Nat), t.dev.st ≠ .maintenance → (t.event bPWR 4 i).dev.st ≠ .maintenance := fun t i h => by
    rcases raise_arrives (b := bPWR) (by decide) t 4 i 0 with ⟨e, -⟩ | ⟨-, e | e⟩
    · exact fun k => h (e ▸ k)
    · exact fun k => nomatch e.symm.trans k
    · exact fun k => nomatch e.symm.trans k
  have h2 : s2.dev.st ≠ .maintenance := by
    rw [show s2.dev = s.dev from rfl, hst]
    nofun
  have h3 : s3.dev.st ≠ .maintenance := by
    unfold s3
    split
    · exact step _ _ h2
    · exact h2
  split
  · exact step _ _ h3
  · exact h3

/-- MAINTENANCE is entered with its kind and its code. -/
theorem enterMaintenance_dev (k : Maint) (code : Option CfgRefusal) (h : s.dev.st ≠ .maintenance) :
    (s.enterMaintenance k code).dev = { s.dev with st := .maintenance, maint := k, maintCode := code, loaded := false, safeReason := 0 } :=
  enter_dev (s := { s with dev := { s.dev with maint := k, maintCode := code, loaded := false } }) 0 h

theorem enterMaintenance_cfg (k : Maint) (code : Option CfgRefusal) : (s.enterMaintenance k code).cfg = s.cfg :=
  enter_cfg (s := { s with dev := { s.dev with maint := k, maintCode := code, loaded := false } }) 0 (.inl (by decide))

theorem enterMaintenance_bundles (k : Maint) (code : Option CfgRefusal) : (s.enterMaintenance k code).bundles = s.bundles :=
  (congrArg State.bundles (enter_frame (s := { s with dev := { s.dev with maint := k, maintCode := code, loaded := false } }) (st := .maintenance) 0) :)

end Sys2Proof.Boot

end

section
/-! PROOFS. What the start of the supervisor leaves, and copies of Totals that all read back. -/

set_option Elab.async false

namespace Sys2Proof.Boot
open Sys2Proof.Machine Sys2Proof.Safety Sys2Proof.Laws Sys2Proof.Occurrence

variable {s t u : State}

/-! ### What the start of the supervisor leaves, once the records are mounted -/

/-- The parts that O30 speaks of stay, but for the event bit of a fault. -/
structure Started (s t : State) : Prop where
  dev : t.dev = s.dev := by rfl
  time : t.time = s.time := by rfl
  cfg : t.cfg = s.cfg := by rfl
  ros : t.ros = s.ros := by rfl
  host : t.host = { s.host with evFault := t.host.evFault } := by rfl
  params : t.params = s.params := by rfl
  seconds : t.pwr.opSeconds = s.pwr.opSeconds := by rfl
  cycles : t.pwr.powerCycles = s.pwr.powerCycles := by rfl
  mounted : t.oxb.mounted = s.oxb.mounted := by rfl
  image : t.oxb.mram.image = s.oxb.mram.image := by rfl
  marked : t.oxb.mram.marked = s.oxb.mram.marked := by rfl
  unfolded : t.oxb.mram.unfolded = s.oxb.mram.unfolded := by rfl

theorem Started.refl (s : State) : Started s s := {}

theorem Started.trans (h : Started s t) (k : Started t u) : Started s u where
  dev := k.dev.trans h.dev
  time := k.time.trans h.time
  cfg := k.cfg.trans h.cfg
  ros := k.ros.trans h.ros
  host := k.host.trans (by rw [h.host])
  params := k.params.trans h.params
  seconds := k.seconds.trans h.seconds
  cycles := k.cycles.trans h.cycles
  mounted := k.mounted.trans h.mounted
  image := k.image.trans h.image
  marked := k.marked.trans h.marked
  unfolded := k.unfolded.trans h.unfolded

theorem Started.ite {c : Prop} [Decidable c] (h : Started s t) (k : Started s u) : Started s (if c then t else u) := by
  split <;> assumption

theorem Started.foldl {α : Type} {f : State → α → State} (hf : ∀ s a, Started s (f s a)) (l : List α) (s : State) : Started s (l.foldl f s) :=
  List.foldlRecOn (motive := Started s) l f (.refl s) fun t ht a _ => ht.trans (hf t a)

/-- What the recorder and the fault words do. -/
theorem Started.of_calm (c : Calm s t) (k : SameBut [.oxb, .faults, .weir, .cells] s t) : Started s t where
  dev := k .dev (by decide)
  time := k .time (by decide)
  cfg := k .cfg (by decide)
  ros := k .ros (by decide)
  host := by rw [show t.host = s.host from k .host (by decide)]
  params := k .params (by decide)
  seconds := congrArg PwrSt.opSeconds (k .pwr (by decide))
  cycles := congrArg PwrSt.powerCycles (k .pwr (by decide))
  mounted := (congrArg OxbSt.mounted c.oxb :)
  image := (congrArg (fun o : OxbSt => o.mram.image) c.oxb :)
  marked := (congrArg (fun o : OxbSt => o.mram.marked) c.oxb :)
  unfolded := (congrArg (fun o : OxbSt => o.mram.unfolded) c.oxb :)

theorem closeRecord_started (s : State) (o : OpenRec) (fl : Nat) : Started s (s.closeRecord o fl) :=
  .of_calm (closeRecord_calm ..) (closeRecord_sameBut _ _ _).mono

theorem marker_started (s : State) (code inst : Nat) (lo hi : Int) : Started s (s.marker code inst lo hi) :=
  .trans {} (closeRecord_started ..)

theorem oxbCount_started (s : State) (code inst sev : Nat) (injected : Bool) : Started s (s.oxbCount code inst sev injected).1 :=
  .of_calm (oxbCount_calm ..) (oxbCount_sameBut _ _ _ _ _).mono

theorem countEarly_started (s : State) (i inst : Nat) : Started s (s.countEarly i inst) := by
  unfold State.countEarly
  have h := oxbCount_started s (faultCode bROS i) inst (s.effective bROS i inst).1 false
  generalize s.oxbCount (faultCode bROS i) inst (s.effective bROS i inst).1 false = x at h ⊢
  obtain ⟨v, r⟩ := x
  dsimp only
  split
  · exact h.trans {}
  · split
    · exact h.trans {}
    · exact h

theorem writeCopies_started (s : State) : Started s s.writeCopies := .ite (.refl s) {}

theorem reopen_started (s : State) (r : OxbRec) : Started s (s.reopen r) := by
  unfold State.reopen State.waitForSlot
  generalize s.recordFor r.code r.inst r.start = x
  obtain ⟨o, first⟩ := x
  dsimp only
  generalize (if first then _ else _ : OxbRec) = m
  split <;> exact {}

theorem requeue_started (s : State) (rest : List OxbRec) : Started s (s.requeue rest) :=
  .trans {} (.foldl (fun _ _ => reopen_started ..) ..)

theorem loadMask_started (s : State) (b : Nat) : Started s (s.loadMask b) := by
  unfold State.loadMask
  split
  · exact {}
  · exact .refl s

/-! ### An occurrence that only asks for the host's attention -/

/-- Of severity 1 with the event bit alone (Table 13.2). -/
theorem takeReactions_mild {brst : State → Nat → State} (s : State) (b i inst : Nat) : Started s (s.takeReactions brst b i inst 1 1) := by
  have react : Started s (s.react b i inst 1 1) := by
    unfold State.react
    extract_lets +onlyGivenNames f s1 h s2
    have h2 : Started s s2 := .ite {} (.refl s)
    exact .ite h2 (.ite (h2.trans {}) (.ite (h2.trans {}) h2))
  have effect : Started (s.react b i inst 1 1) ((s.react b i inst 1 1).severityEffect b i inst 1) := by
    unfold State.severityEffect
    split <;> exact .refl _
  exact react.trans effect

theorem raiseWith_mild {brst : State → Nat → State} (s : State) {b i inst : Nat} (who : Nat) (h : s.effective b i inst = (1, 1)) :
    Started s (s.raiseWith brst b i inst who) := by
  have passed : ∀ sev, Started s (s.passToOxbow b i inst sev false).1 := fun sev => by
    unfold State.passToOxbow
    split
    · exact {}
    · split
      · split <;> exact {}
      · exact oxbCount_started ..
  unfold State.raiseWith
  split
  · exact .refl s
  next src _ =>
  extract_lets mine
  refine .ite (.refl s) (.ite ?_ ?_)
  · unfold State.extend
    dsimp only
    exact .trans (.ite (.refl s) (passed _)) {}
  · rw [h]
    dsimp only
    have k := passed 1
    generalize s.passToOxbow b i inst 1 false = y at k ⊢
    obtain ⟨v, r⟩ := y
    have after : ∀ w : State, Started v w → Started s (w.takeReactions brst b i inst 1 1) := fun w e => (k.trans e).trans (takeReactions_mild ..)
    exact after _ {}

/-- Before a container is in force the sources have their own severities (R268). -/
theorem effective_floor {b i inst : Nat} (h : s.dev.loaded = false) : s.effective b i inst = (((sourceOf b i).getD default).floor, ((sourceOf b i).getD default).react) := by
  unfold State.effective
  rw [h]
  rfl

theorem clear_started (s : State) (b i inst who : Nat) : Started s (s.clear b i inst who) :=
  .of_calm (clear_calm ..) (clear_sameBut _ _ _ _ _).mono

/-- The ports start with their links down. -/
theorem restartPort_started (k : Nat) (h : s.dev.loaded = false) : Started s (s.restartPort k) := by
  have down : ∀ (v : State) (on : Bool), Started s v → Started s (v.condition bWEIR 12 k whoDev on) := fun v on hv => by
    have loaded : v.dev.loaded = false := by
      rw [hv.dev]
      exact h
    cases on
    · exact hv.trans (clear_started ..)
    · exact hv.trans (raiseWith_mild (brst := State.brst) v (b := bWEIR) (i := 12) (inst := k) whoDev (effective_floor loaded))
  exact down _ _ {}

theorem weirStart_started (h : s.dev.loaded = false) : Started s s.weirStart := by
  unfold State.weirStart
  refine .ite (.refl s) ?_
  have ports : ∀ (l : List Nat) (u : State), u.dev.loaded = false → Started u (l.foldl State.restartPort u) := fun l => by
    induction l with
    | nil => exact fun u _ => .refl u
    | cons k l ih =>
      intro u hu
      have k1 := restartPort_started (s := u) k hu
      exact k1.trans (ih _ (by rw [k1.dev]; exact hu))
  exact .trans (t := ({ s with weir := { s.weir with tablesBank := s.bundles.running } } : State).domainOn 7) {} (ports _ _ h)

/-! ### The mount (R322, R325) -/

/-- Totals whose copies all read back. -/
def Whole (m : OxbMram) : Prop := ∀ e ∈ m.totals, e.2.broken = []

theorem broken_nil {e : TotEntry} : e.broken = [] ↔ (∀ r, e.copy0 = some r → r.damaged = none) ∧ (∀ r, e.copy1 = some r → r.damaged = none) := by
  unfold TotEntry.broken
  rw [List.filter_eq_nil_iff]
  obtain ⟨c0, c1⟩ := e
  cases c0 <;> cases c1 <;> simp

theorem mem_put {α : Type} {l : Tab α} {i : Nat} {v : α} {e : Nat × α} (h : e ∈ Tab.put l i v) : e = (i, v) ∨ e ∈ l := by
  induction l with
  | nil => exact .inl (List.mem_singleton.1 h)
  | cons x l ih =>
    obtain ⟨k, w⟩ := x
    unfold Tab.put at h
    split at h
    · rcases List.mem_cons.1 h with h | h
      · exact .inl h
      · exact .inr (List.mem_cons_of_mem _ h)
    · split at h
      · exact (List.mem_cons.1 h).imp id id
      · rcases List.mem_cons.1 h with h | h
        · exact .inr (h ▸ List.mem_cons_self)
        · exact (ih h).imp id (List.mem_cons_of_mem _)

theorem entry_broken {m : OxbMram} (h : Whole m) (i : Nat) : (m.totals.getD i {}).broken = [] := by
  unfold Tab.getD
  cases hg : Tab.get? m.totals i with
  | none => rfl
  | some e => exact h _ (tab_mem hg)

/-- A fold of a record that reads back writes one. -/
theorem foldRecord_damaged {old : Option OxbRec} {r : OxbRec} (ho : ∀ o, old = some o → o.damaged = none) (hr : r.damaged = none) (inst fl cycles : Nat) :
    (foldRecord old r inst fl cycles).damaged = none := by
  unfold foldRecord
  split
  · exact hr
  · next o => exact ho o rfl

theorem write_broken {e : TotEntry} {r : OxbRec} (he : e.broken = []) (hr : r.damaged = none) : (e.write r).broken = [] := by
  rw [broken_nil] at he ⊢
  obtain ⟨h0, h1⟩ := he
  have own : ∀ x, some r = some x → x.damaged = none := fun x hx => Option.some.inj hx ▸ hr
  unfold TotEntry.write
  split
  · exact ⟨own, h1⟩
  · exact ⟨h0, own⟩
  · split
    · exact ⟨own, h1⟩
    · exact ⟨h0, own⟩

theorem newest_damaged {e : TotEntry} (he : e.broken = []) : ∀ o, e.newest = some o → o.damaged = none := by
  obtain ⟨h0, h1⟩ := broken_nil.1 he
  have valid : ∀ (c : Option OxbRec) (o : OxbRec), validCopy c = some o → c = some o := fun c o h => by
    unfold validCopy at h
    exact (Option.filter_eq_some_iff.1 h).1
  intro o ho
  unfold TotEntry.newest at ho
  split at ho
  · next ha hb =>
    split at ho
    · exact h1 _ ((valid _ _ hb).trans ho)
    · exact h0 _ ((valid _ _ ha).trans ho)
  · next ha hb => exact h0 _ ((valid _ _ ha).trans ho)
  · next ha => exact h1 _ (valid _ _ ho)

end Sys2Proof.Boot

end

section
/-! PROOFS. The mount of Oxbow (R322, R325). -/

set_option Elab.async false

namespace Sys2Proof.Boot
open Sys2Proof.Machine Sys2Proof.Safety Sys2Proof.Laws Sys2Proof.Occurrence

variable {s t u : State}

theorem fold_whole {m : OxbMram} {r : OxbRec} (h : Whole m) (hr : r.damaged = none) (cycles : Nat) : Whole (m.fold cycles r) := by
  have put : ∀ i inst fl, Whole { m with
      totals := m.totals.put i ((m.totals.getD i {}).write (foldRecord (m.totals.getD i {}).newest r inst fl cycles)), totHigh := some r.seq } := by
    intro i inst fl e he
    rcases mem_put he with rfl | he
    · exact write_broken (entry_broken h i) (foldRecord_damaged (newest_damaged (entry_broken h i)) hr ..)
    · exact h e he
  have high : Whole { m with totHigh := some r.seq } := h
  unfold OxbMram.fold
  extract_lets ovf put' general special overflow
  have full : Whole overflow := by
    unfold overflow
    split
    · exact put _ _ _
    · split
      · exact put _ _ _
      · exact high
  split
  · exact high
  · split
    · exact full
    · split
      · exact put _ _ _
      · split
        · exact put _ _ _
        · exact full

theorem foldReads_whole {m : OxbMram} (h : Whole m) (r : OxbRec) : m.foldReads r = [] := by
  unfold OxbMram.foldReads
  dsimp only
  split
  · exact entry_broken h _
  · rfl

theorem tab_get_mem {α : Type} {t : Tab α} {p : α → Prop} (h : ∀ e ∈ t, p e.2) {i : Nat} {v : α} (hv : t.get? i = some v) : p v :=
  h _ (tab_mem hv)

/-- The records of the tail that read back. -/
theorem tailFrom_damaged {m : OxbMram} (h : ∀ e ∈ m.tail, e.2.damaged = none) (first count : Nat) : ∀ r ∈ m.tailFrom first count, r.damaged = none := by
  intro r hr
  unfold OxbMram.tailFrom at hr
  obtain ⟨k, -, hk⟩ := List.mem_filterMap.1 hr
  exact tab_get_mem (p := fun r : OxbRec => r.damaged = none) h hk

/-- The records that the Totals lack are folded into them; nothing that is read back fails. -/
theorem repair_whole {m : OxbMram} (ht : ∀ e ∈ m.tail, e.2.damaged = none) (h : Whole m) (cycles : Nat) :
    (m.repair cycles).2 = [] ∧ (m.repair cycles).1.unfolded = [] := by
  unfold OxbMram.repair
  extract_lets recs m1 done
  have first : Whole m1 ∧ m1.tail = m.tail := by
    refine List.foldlRecOn (motive := fun x : OxbMram => Whole x ∧ x.tail = m.tail) recs _ ⟨h, rfl⟩ fun x hx r _ => ?_
    split
    · exact hx
    · exact hx
  have folded : Whole done.1 ∧ done.2 = [] := by
    refine List.foldlRecOn (motive := fun x : OxbMram × List OxbRec => Whole x.1 ∧ x.2 = []) m1.toFold _ ⟨first.1, rfl⟩ fun x ⟨h1, h2⟩ r hr => ?_
    have good : r.damaged = none := tailFrom_damaged (by rw [first.2]; exact ht) _ _ r (List.mem_filter.1 hr).1
    exact ⟨fold_whole h1 good cycles, by rw [h2, foldReads_whole h1]; rfl⟩
  exact ⟨folded.2, rfl⟩

/-- Records that read back raise nothing. -/
theorem readBack_whole {rs : List OxbRec} (h : ∀ r ∈ rs, r.damaged = none) (s : State) (area : Nat) : s.readBack area rs = s := by
  unfold State.readBack
  have none : rs.filter (fun r => r.damaged.isSome) = [] := List.filter_eq_nil_iff.2 fun r hr => by rw [h r hr]; nofun
  rw [none]
  rfl

/-- What the mount sets, and what it leaves. -/
structure Mounted (s t : State) : Prop where
  dev : t.dev = s.dev
  mountTick : t.time.mountTick = some (s.time.tick + 1)
  tick : t.time.tick = s.time.tick
  cfg : t.cfg = s.cfg
  ros : t.ros = s.ros
  host : t.host = { s.host with evFault := t.host.evFault }
  seconds : t.pwr.opSeconds = s.pwr.opSeconds
  cycles : t.pwr.powerCycles = min 0xFFFFFFFF (s.pwr.powerCycles + 1)
  mounted : t.oxb.mounted = true
  image : t.oxb.mram.image = []
  marked : t.oxb.mram.marked = false
  unfolded : t.oxb.mram.unfolded = []

theorem Mounted.started (h : Mounted s t) (k : Started t u) : Mounted s u where
  dev := k.dev.trans h.dev
  mountTick := by rw [k.time, h.mountTick]
  tick := by rw [k.time, h.tick]
  cfg := k.cfg.trans h.cfg
  ros := k.ros.trans h.ros
  host := k.host.trans (by rw [h.host])
  seconds := k.seconds.trans h.seconds
  cycles := k.cycles.trans h.cycles
  mounted := k.mounted.trans h.mounted
  image := k.image.trans h.image
  marked := k.marked.trans h.marked
  unfolded := k.unfolded.trans h.unfolded

theorem countAll_started (l : Tab Nat) (s : State) :
    Started s (l.foldl (fun s e => (List.range e.2).foldl (fun s _ => s.countEarly e.1 0xFFFF) s) s) :=
  .foldl (fun s e => .foldl (fun _ _ => countEarly_started ..) (List.range e.2) s) l s

/-- The mount reads the records of the tail and those of the pending image. -/
def mountRead (s : State) : State :=
  (s.readBack 1 (s.oxb.mram.tailFrom s.oxb.mram.oldest s.oxb.mram.tail.length)).readBack 3 (s.oxb.mram.image.map (·.rcd))

def countedCycle (s : State) : State := { s with pwr := { s.pwr with powerCycles := min 0xFFFFFFFF (s.pwr.powerCycles + 1) } }

/-- The pending records of an image that no flush has emptied (R325). -/
def recoveredRecords (m : OxbMram) (s : State) : List OxbRec :=
  if m.marked then (m.image.filter (fun o => o.rcd.damaged.isNone)).map (fun o =>
    ({ o.rcd with flags := o.rcd.flags ||| fgRECOVERED, stop := s.pwr.opSeconds, cycles := s.pwr.powerCycles } : OxbRec))
  else []

def mountSet (m : OxbMram) (s : State) : State :=
  { s with
    oxb := { s.oxb with mram := { m with image := [], marked := false }, mounted := true,
                        hourlyFrom := s.pwr.opSeconds, lastSampleTick := s.time.tick },
    time := { s.time with mountTick := some (s.time.tick + 1), mountSeconds := s.pwr.opSeconds } }

/-- What the mount counts once the records are taken over. -/
def mountCount (s : State) : State :=
  let s := s.marker oxSTART 0 s.pwr.resetCause (min s.pwr.late 0x7FFF)
  let s : State := { s with pwr := { s.pwr with late := 0 } }
  let s := s.faults.early.foldl (fun s e => s.countEarly e.1 e.2) s
  let s := s.faults.earlyMore.foldl (fun s e => (List.range e.2).foldl (fun s _ => s.countEarly e.1 0xFFFF) s) s
  let s : State := { s with faults := { s.faults with early := [], earlyMore := [] } }
  let s : State := if s.tlUsed = 64 then s.raise bOXB 4 0 whoDev else s
  s.writeCopies

/-- What follows the reads of a mount. -/
def mountFrom (u : State) : State :=
  let x := u.oxb.mram.repair u.pwr.powerCycles
  let v := u.readBack 2 x.2
  mountCount ((mountSet x.1 v).requeue (v.oxb.dirty ++ recoveredRecords x.1 v))

/-- The mount in its parts. -/
theorem mount_eq (s : State) : s.mount = mountFrom (mountRead (countedCycle s)) := by
  unfold State.mount
  extract_lets +onlyGivenNames p s1 s2
  have e : s2 = mountRead (countedCycle s) := rfl
  clear_value s2
  rw [← e]
  unfold mountFrom
  generalize s2.oxb.mram.repair s2.pwr.powerCycles = x
  obtain ⟨m, bad⟩ := x
  dsimp -zeta only
  show _ = mountCount ((mountSet m (s2.readBack 2 bad)).requeue ((s2.readBack 2 bad).oxb.dirty ++ recoveredRecords m (s2.readBack 2 bad)))
  generalize s2.readBack 2 bad = v
  extract_lets +onlyGivenNames recovered o m' t' s3 s4
  have e4 : s4 = (mountSet m v).requeue (v.oxb.dirty ++ recoveredRecords m v) := rfl
  clear_value s4
  rw [← e4]
  rfl

theorem tlUsed_congr (h : t.ros = s.ros) : t.tlUsed = s.tlUsed := by
  unfold State.tlUsed State.shadow
  rw [h]

theorem mountCount_started (h : s.tlUsed ≠ 64) : Started s (mountCount s) := by
  unfold mountCount
  extract_lets +onlyGivenNames s1 p s2 s3 s4 f s5 s6
  have k1 : Started s s1 := marker_started ..
  have k2 : Started s s2 := k1.trans {}
  have k3 : Started s s3 := k2.trans (.foldl (fun _ _ => countEarly_started ..) ..)
  have k4 : Started s s4 := k3.trans (countAll_started ..)
  have k5 : Started s s5 := k4.trans {}
  have e : s6 = s5 := if_neg (by rw [tlUsed_congr k5.ros]; exact h)
  rw [e]
  exact k5.trans (writeCopies_started _)

theorem mountRead_whole (ht : ∀ e ∈ s.oxb.mram.tail, e.2.damaged = none) (hi : ∀ o ∈ s.oxb.mram.image, o.rcd.damaged = none) : mountRead s = s := by
  unfold mountRead
  rw [readBack_whole (tailFrom_damaged ht _ _)]
  refine readBack_whole (fun r hr => ?_) s 3
  obtain ⟨o, ho, rfl⟩ := List.mem_map.1 hr
  exact hi o ho

theorem mount_mounted (ht : ∀ e ∈ s.oxb.mram.tail, e.2.damaged = none) (hi : ∀ o ∈ s.oxb.mram.image, o.rcd.damaged = none)
    (hw : Whole s.oxb.mram) (htl : s.tlUsed ≠ 64) : Mounted s s.mount := by
  rw [mount_eq, mountRead_whole (s := countedCycle s) ht hi]
  unfold mountFrom
  dsimp only
  obtain ⟨hb, hm⟩ := repair_whole (m := (countedCycle s).oxb.mram) ht hw (countedCycle s).pwr.powerCycles
  generalize (countedCycle s).oxb.mram.repair (countedCycle s).pwr.powerCycles = x at hb hm
  obtain ⟨m, bad⟩ := x
  obtain rfl : bad = [] := hb
  rw [show (countedCycle s).readBack 2 [] = countedCycle s from rfl]
  have set : Mounted s (mountSet m (countedCycle s)) :=
    { dev := rfl, mountTick := rfl, tick := rfl, cfg := rfl, ros := rfl, host := rfl, seconds := rfl, cycles := rfl, mounted := rfl,
      image := rfl, marked := rfl, unfolded := hm }
  have queued := set.started (requeue_started _ ((countedCycle s).oxb.dirty ++ recoveredRecords m (countedCycle s)))
  exact queued.started (mountCount_started (by rw [tlUsed_congr queued.ros]; exact htl))

end Sys2Proof.Boot

end

section
/-! PROOFS. The start of the supervisor and the choice of the configuration bank (R45). O30. -/

set_option Elab.async false

namespace Sys2Proof.Boot
open Sys2Proof.Machine Sys2Proof.Safety Sys2Proof.Laws Sys2Proof.Occurrence

variable {s : State}

/-! ### Lifetime values of which all copies agree -/

theorem read_copies (n : Nat) : (List.range 3).map (fun i => [n, n, n].getD i 0 ^^^ (([] : List Word).getD i 0).toNat) = [n, n, n] := by
  simp [List.range_succ]

theorem majorityOf_same (n : Nat) : majorityOf [n, n, n] = n := by
  show (n &&& n) ||| (n &&& n) ||| (n &&& n) = n
  rw [Nat.and_self, Nat.or_self, Nat.or_self]

theorem copiesDiffer_same (n : Nat) : copiesDiffer [n, n, n] = false := by simp [copiesDiffer]

/-- The values taken, with the marks of the boot moved onto them. -/
def lifetimeTaken (s : State) (n m : Nat) : State :=
  { s with
    pwr := { s.pwr with opSeconds := min 0xFFFFFFFF (n + s.pwr.sinceRelease), powerCycles := m, late := max s.pwr.late (majorityOf s.oxb.mram.late) }
    pairs := { s.pairs with pairs := s.pairs.pairs.map (fun e =>
      (e.1, { e.2 with monitor := e.2.monitor.map (fun x => if x.early then { x with second := x.second + n, early := false } else x) })) } }

theorem takeLifetime_same (n m : Nat) : s.takeLifetime [n, n, n] [m, m, m] = lifetimeTaken s n m := by
  unfold State.takeLifetime
  rw [copiesDiffer_same, copiesDiffer_same, majorityOf_same, majorityOf_same]
  rfl

/-- The start of the supervisor after its lifetime values. -/
def supStarted (s : State) : State :=
  let s := s.mount
  let s := if s.params.ports.any (fun p => p.mode != 0) then s.weirStart else s
  let s := (blockIds.filter (fun b => b != bWEIR || s.on 7)).foldl State.loadMask s
  { s with host := { s.host with ready := true, rom := false, evReady := true } }

theorem supImageStart_runs {b n m : Nat} (hst : s.dev.st = .boot) (hr : s.bundles.running = some b) (hm : s.oxb.mounted = false) (hs : s.supRuns = true)
    (hn : s.oxb.mram.seconds = [n, n, n]) (hc : s.oxb.mram.cycles = [m, m, m]) :
    exec (.supImageStart [] []) s = .next (supStarted (lifetimeTaken s n m)) := by
  refine congrArg Host.Outcome.next ((if_neg ?_).trans ?_)
  · rw [hr, hm, hs]
    rintro (h | h | h | h)
    · exact h hst
    all_goals cases h
  · extract_lets +onlyGivenNames read s1
    have e1 : s1 = lifetimeTaken s n m := by
      show s.takeLifetime ((List.range 3).map (fun i => s.oxb.mram.seconds.getD i 0 ^^^ (([] : List Word).getD i 0).toNat))
        ((List.range 3).map (fun i => s.oxb.mram.cycles.getD i 0 ^^^ (([] : List Word).getD i 0).toNat)) = _
      rw [hn, hc, read_copies, read_copies, takeLifetime_same]
    clear_value s1
    rw [e1]
    rfl

theorem supStarted_mounted (hl : s.dev.loaded = false) (ht : ∀ e ∈ s.oxb.mram.tail, e.2.damaged = none)
    (hi : ∀ o ∈ s.oxb.mram.image, o.rcd.damaged = none) (hw : Whole s.oxb.mram) (htl : s.tlUsed ≠ 64) :
    ∃ u, Mounted s u ∧ supStarted s = { u with host := { u.host with ready := true, rom := false, evReady := true } } := by
  have k := mount_mounted ht hi hw htl
  unfold supStarted
  extract_lets s1 s2 s3
  have weir : Started s1 s2 := .ite (weirStart_started (by rw [k.dev]; exact hl)) (.refl _)
  exact ⟨s3, k.started (weir.trans (.foldl (fun _ _ => loadMask_started ..) _ _)), rfl⟩

theorem enterVerify_dev (cause : VerifyCause) (hc : s.weir.conns = []) (h1 : s.dev.st ≠ .run) (h2 : s.dev.st ≠ .verify) :
    (s.enterVerify cause).dev = { (verifyBegun cause s).dev with st := .verify, safeReason := 0, maint := .none } := by
  have e := enter_verify (s := verifyBegun cause s) h1 h2
  have hu : ((verifyBegun cause s).enter .verify 0).connResetAll = (verifyBegun cause s).enter .verify 0 :=
    connResetAll_none (by rw [e]; exact hc)
  rw [enterVerify_eq, hu, show (verifyCouplers cause ((verifyBegun cause s).enter .verify 0)).dev = _ from verifyCouplers_sameBut _ _ .dev (by decide), e]

end Sys2Proof.Boot
namespace Sys2Proof.Proofs
open Sys2Proof.Machine Sys2Proof.Safety Sys2Proof.Laws Sys2Proof.Occurrence Sys2Proof.Boot

/-- The choice of the configuration bank. -/
theorem configBankSelect_runs {s : State} (hst : s.dev.st = .boot) (hm : s.oxb.mounted = true) (hs : s.supRuns = true) :
    exec .configBankSelect s = .next (
      let b := s.cfg.newerBank
      if b.bytes.length < 32 ∨ b.bytes.drop (b.bytes.length - 32) ≠ containerHash b.bytes ∨ b.hash ≠ containerHash b.bytes then
        s.enterMaintenance .firmware (some (refusal cHASH kNone 0))
      else if leAt b.bytes 12 2 < s.checkEnv.epochMin ∨ s.checkEnv.epochMax < leAt b.bytes 12 2 then
        s.enterMaintenance .firmware (some (refusal cEPOCH kNone 0))
      else ({ s with cfg := { s.cfg with active := s.cfg.newer, running := some ⟨readContainer b.bytes, b.sequence, [], []⟩ } } : State).enterVerify .start) := by
  refine congrArg Host.Outcome.next (if_neg ?_)
  rw [hm, hs]
  rintro (h | h | h)
  · exact h hst
  all_goals cases h

/-- Settles O30: the ROM by `romSelect`, the supervisor by its mount (`mount_mounted`), the bank by the checks in their order. -/
theorem bootAndSupervisorStart : Obligations.BootAndSupervisorStart := by
  unfold Obligations.BootAndSupervisorStart
  refine ⟨fun s hst => ⟨fun p r h1 h6 on un before r1 r2 r3 => ?_, fun hr tested => ?_⟩, fun s hst => ⟨fun b n m hr hs hl hm hn hc htl ht hi hw => ?_,
    fun hs => ⟨?_, ?_⟩, fun hm hs => ?_⟩⟩
  · dsimp only
    rw [← laneInverted_iff, cmpInjectionTest_runs [r] hst h1 h6 on un before, firstFailing_one r1 r2 r3]
    refine ⟨fun h => ?_, fun h => ?_⟩
    · rw [if_pos (Bool.eq_iff_iff.2 h)]
    · rw [if_neg (fun e => h (Bool.eq_iff_iff.1 e))]
  · have done := romBankCheck_selects hst hr tested
    dsimp only
    refine ⟨fun m h => ?_, fun m h h' ne => ?_, fun h h' => ?_⟩
    · have sel : s.romSelect = some (if s.bundles.bank0.activation < s.bundles.bank1.activation then 1 else 0, m, false) := by
        unfold State.romSelect
        dsimp only
        rw [h]
      rw [done, sel]
      rfl
    · have sel : s.romSelect = some (1 - (if s.bundles.bank0.activation < s.bundles.bank1.activation then 1 else 0), m, true) := by
        unfold State.romSelect
        dsimp only
        rw [h, h', bne_iff_ne.2 ne]
      rw [done, sel]
      rfl
    · have sel : s.romSelect = none := by
        unfold State.romSelect
        dsimp only
        rw [h, h']
      rw [sel] at done
      generalize hu : s.takeLifetime _ s.oxb.mram.cycles = u at done
      have st : u.dev.st ≠ .maintenance := by
        rw [← hu]
        exact takeLifetime_arrives hst _ _
      have dev := enterMaintenance_dev .rom none st
      refine ⟨_, done, (congrArg DevSt.st dev :), (congrArg DevSt.maint dev :), rfl, rfl, ?_⟩
      exact (congrArg BundleSt.running ((enterMaintenance_bundles (s := u) .rom none).trans (hu ▸ takeLifetime_bundles ..)) :).trans hr
  · obtain ⟨u, k, e⟩ := supStarted_mounted (s := lifetimeTaken s n m) hl ht hi hw htl
    have done := supImageStart_runs hst hr hm hs hn hc
    rw [e] at done
    refine ⟨_, done, k.dev, k.mounted, rfl, rfl, rfl, k.seconds, k.cycles, k.mountTick, k.image, k.marked, k.unfolded, ?_, k.cfg, k.ros⟩
    exact (congrArg HostSt.queue k.host :)
  · exact congrArg Host.Outcome.next (if_pos (.inr (.inr (.inr (by rw [hs]; rfl)))))
  · exact congrArg Host.Outcome.next (if_pos (.inr (.inr (by rw [hs]; rfl))))
  · have done := configBankSelect_runs hst hm hs
    dsimp only at done ⊢
    generalize s.cfg.newerBank = b at done ⊢
    have dev : ∀ code, (s.enterMaintenance .firmware code).dev = _ := fun code => enterMaintenance_dev .firmware code (by rw [hst]; nofun)
    refine ⟨fun h => ?_, fun h ep => ?_, fun h e1 e2 hc => ?_⟩
    · rw [if_pos (by rw [not_and_or, not_and_or, Nat.not_le] at h; exact h)] at done
      exact ⟨_, done, by rw [dev], by rw [dev], by rw [dev], enterMaintenance_cfg ..⟩
    · rw [if_neg (by rw [← not_le, ← not_and_or, ← not_and_or, not_not]; exact h), if_pos ep] at done
      exact ⟨_, done, by rw [dev], by rw [dev], by rw [dev], enterMaintenance_cfg ..⟩
    · rw [if_neg (by rw [← not_le, ← not_and_or, ← not_and_or, not_not]; exact h), if_neg (by omega)] at done
      generalize hv : ({ s with cfg := { s.cfg with active := s.cfg.newer, running := some ⟨readContainer b.bytes, b.sequence, [], []⟩ } } : State) = v at done
      have dv : v.dev.st = .boot := by
        rw [← hv]
        exact hst
      have cv : v.weir.conns = [] := by
        rw [← hv]
        exact hc
      have d := enterVerify_dev .start cv (by rw [dv]; nofun) (by rw [dv]; nofun)
      obtain ⟨k, -⟩ := enterVerify_quiet .start cv (by rw [dv]; nofun) (by rw [dv]; nofun)
      have cfg : (v.enterVerify .start).cfg = v.cfg := k .cfg (by decide)
      refine ⟨_, done, (congrArg DevSt.st d :), (congrArg DevSt.formOk d :), (congrArg DevSt.certOk d :), ?_⟩
      rw [cfg, ← hv]
      exact ⟨rfl, rfl, rfl, rfl⟩

end Sys2Proof.Proofs

end

section
/-! PROOFS. The certificate under a policy that makes a live source S3. O31. -/

set_option Elab.async false

namespace Sys2Proof.Proofs
open Sys2Proof.Machine Sys2Proof.Safety Sys2Proof.Laws Sys2Proof.Occurrence

/-- A container whose policy makes TESTMODE under a factory lock (PWR.1) an S3 source. -/
def strictCont : Container := { (default : Container) with policy := [⟨bPWR, 1, 0, 3, 0⟩] }

/-- VERIFY before its certificate: PWR.1 is live since the release of reset, of severity 1 as long as no container is in force. -/
def strictVerify : State where
  dev := { st := .verify, formOk := [true, true], verifyCause := .restart }
  cfg := { running := some ⟨strictCont, 0, [], []⟩ }
  faults := { live := [⟨bPWR, 1, 0, 0, 0, 1, 4, none, 1, false⟩] }

/-- The policy comes into force with the certificate, judges the live source anew, and VERIFY is left for SAFE. -/
theorem strictVerify_safe : (match exec .certCheck strictVerify with
    | .next t => t.dev.st == .safe
    | _ => false) = true := by decide +kernel

/-- Refutes O31: the statement says that the certificate leaves VERIFY, for every fault that is live; in `strictVerify` the container's
policy makes a live source S3, and the device enters SAFE. -/
theorem not_formsVerifiedAndVerifyEnds : ¬ Obligations.FormsVerifiedAndVerifyEnds := by
  unfold Obligations.FormsVerifiedAndVerifyEnds
  rintro ⟨h, -⟩
  obtain ⟨-, -, hc⟩ := h strictVerify ⟨strictCont, 0, [], []⟩ rfl rfl
  obtain ⟨-, hn⟩ := hc rfl (by decide +kernel) (by decide +kernel)
  obtain ⟨t, done, -, -, hst, -⟩ := (hn (by decide +kernel)).2 (by decide +kernel)
  have safe := strictVerify_safe
  rw [done] at safe
  dsimp only at safe
  rw [hst] at safe
  cases safe

end Sys2Proof.Proofs

end

section
/-! PROOFS. The block reset of a role that STB serves. O32. -/

set_option Elab.async false

namespace Sys2Proof.Proofs
open Sys2Proof.Machine Sys2Proof.Safety Sys2Proof.Laws Sys2Proof.Occurrence

/-- A container whose policy adds the block reset to the mismatch of pair 2. -/
def resettingCont : Container := { (default : Container) with policy := [⟨2, 0, 0xFFFF, 1, rBRST⟩] }

/-- STB stands in for the role of pair 2, which is not retired: no run leads here, but the statement speaks of every state. -/
def stoodInFor : State where
  dev := { st := .run, loaded := true }
  pwr := { domains := [0, 2] }
  pairs := { stbFor := some 2 }
  cfg := { running := some ⟨resettingCont, 0, [], []⟩ }

/-- The block reset of role 2 resets the hardware that serves it, pair 6. -/
theorem stoodInFor_resets : (match exec (.lockstepMismatch 2 none 0 false) stoodInFor with
    | .next t => (t.pair 6).inReset
    | _ => false) = true := by decide +kernel

/-- Refutes O32: a mismatch is to leave every other pair as it is; in `stoodInFor` the block reset that the policy adds to the mismatch of
pair 2 resets pair 6. -/
theorem not_pairsResetAndRestore : ¬ Obligations.PairsResetAndRestore := by
  unfold Obligations.PairsResetAndRestore
  rintro ⟨h, -⟩
  obtain ⟨h1, -⟩ := h stoodInFor 2 0 false (by decide) (by decide) (by decide) rfl rfl rfl
  obtain ⟨t, done, -, -, -, -, -, -, others⟩ := h1 (by decide) nofun
  have reset := stoodInFor_resets
  rw [done] at reset
  dsimp only at reset
  rw [others 6 (by decide)] at reset
  cases reset

end Sys2Proof.Proofs

end

section
/-! PROOFS. The removal of a cell that runs in SHADOW. O33. -/

set_option Elab.async false

namespace Sys2Proof.Proofs
open Sys2Proof.Machine Sys2Proof.Safety Sys2Proof.Laws Sys2Proof.Occurrence

/-- A container whose cell 0 has one node. -/
def oneNodeCont : Container :=
  { (default : Container) with cells := [{ (default : CellEntry) with inUse := true, k := 1 }], nodes := [⟨0, 0, 0, 0, 0, []⟩] }

/-- Cell 0 runs in SHADOW when the record that removes it falls due. -/
def removedShadow : State where
  dev := { st := .run, loaded := true }
  time := { origin := some 0 }
  cfg := { running := some ⟨oneNodeCont, 0, [], []⟩, live := some ⟨⟨default, 1, [], []⟩, [], 0, true, [], [], [], none, [], [], [], []⟩ }
  cells := { sides := [(0, { st := .shadow }), (1, { st := .shadow })], lines := [(0, { record := some ⟨0, .removed, 0, 0, 0⟩ })] }

/-- The shadow ends with the record: the held cell takes the image of the new version, in which it has no node. -/
theorem removedShadow_image : (match exec (.cellBoundary 0) removedShadow with
    | .next t => (t.cell .a 0).img.nodes.length == 0
    | _ => false) = true := by decide +kernel

/-- Refutes O33: the record that removes a cell is to hold it with the image of the version that it ran; in `removedShadow` it takes that of
the new one. -/
theorem not_cellBoundaryStates : ¬ Obligations.CellBoundaryStates := by
  unfold Obligations.CellBoundaryStates
  rintro ⟨-, h⟩
  obtain ⟨hr, -⟩ := h removedShadow 0 _ (by decide) rfl (by decide +kernel) rfl
  obtain ⟨-, -, -, hk⟩ := hr ⟨0, .removed, 0, 0, 0⟩ rfl rfl rfl rfl
  obtain ⟨t, done, -, held, -⟩ := hk rfl
  obtain ⟨-, img, -⟩ := held .a
  have image := removedShadow_image
  rw [done] at image
  dsimp only at image
  rw [img] at image
  revert image
  decide +kernel

end Sys2Proof.Proofs

end

section
/-! PROOFS. The end of an evaluation (R137, R186, R278). O34. -/

set_option Elab.async false

namespace Sys2Proof.Evaluation
open Sys2Proof.Machine Sys2Proof.Safety Sys2Proof.Laws Sys2Proof.Occurrence

variable {s : State} {sd : Side} {n used : Nat} {r : CellRun}

/-- The image of the evaluation. -/
def imageOf (s : State) (sd : Side) (n : Nat) (r : CellRun) : CellImage := evalCell (s.verCont r.ver) n r (s.cell sd n).work

/-- The image of the new version in SHADOW (R278). -/
def shadowOf (s : State) (sd : Side) (n : Nat) (r : CellRun) : Option CellImage :=
  if r.isShadow && s.shadowRuns sd n then some (evalCell s.nextCont n r (s.cell sd n).shadowWork) else none

/-- The evaluation, completed. -/
def doneRun (s : State) (sd : Side) (n used : Nat) (r : CellRun) : CellRun :=
  { r with result := some (imageOf s sd n r), shadow := shadowOf s sd n r, used := used }

/-- The cell with the images that its next evaluations start from. -/
def worked (s : State) (sd : Side) (n used : Nat) (r : CellRun) : CellSide :=
  let x := s.cell sd n
  let own := (shadowOf s sd n r).getD x.shadowWork
  { x with
    work := imageOf s sd n r
    shadowWork := if x.st = .shadow ∧ !r.isShadow then carryMap (s.verCont r.ver) s.nextCont n (imageOf s sd n r) (initImage s.nextCont n) else own
    usedMax := max x.usedMax used }

/-- The reconciliation point of the evaluation has passed. -/
def reconPassed (s : State) (n : Nat) (r : CellRun) : Bool :=
  match (s.line n).lastRecon with
  | some t => decide (r.recon ≤ t)
  | none => false

theorem shadowRuns_addLoad (p : Nat) : (s.addLoad p used).shadowRuns sd n = s.shadowRuns sd n := by
  have kept : ∀ q, ((s.addLoad p used).pair q).inReset = (s.pair q).inReset ∧ ((s.addLoad p used).pair q).retired = (s.pair q).retired := by
    intro q
    unfold State.addLoad
    rw [pair_setPair]
    split
    · next h => exact h ▸ ⟨rfl, rfl⟩
    · exact ⟨rfl, rfl⟩
  have runs : ∀ q, (s.addLoad p used).pairRuns q = s.pairRuns q := fun q => by
    unfold State.pairRuns
    rw [(kept q).1, (kept q).2, (kept bSTB).1, (kept bSTB).2]
    rfl
  unfold State.shadowRuns
  cases sd with
  | a =>
    dsimp only
    rw [(kept bSTB).1, (kept bSTB).2]
    rfl
  | b => exact runs _

/-- The end of an evaluation of the version that the cell runs: the image counts at once where its reconciliation point has passed. -/
theorem finishRun_current (hv : r.ver = (s.line n).version sd) : s.finishRun sd n r used =
    let u := s.addLoad (s.evaluator sd n) used
    let x := worked s sd n used r
    if reconPassed s n r then u.setCell sd n { x with img := imageOf s sd n r, runs := x.runs.filter (fun y => y.start != r.start) }
    else u.setCell sd n (x.putRun (doneRun s sd n used r)) := by
  have hs : (if r.isShadow && (s.addLoad (s.evaluator sd n) used).shadowRuns sd n then some (evalCell s.nextCont n r (s.cell sd n).shadowWork) else none) =
      shadowOf s sd n r := by
    rw [shadowRuns_addLoad]
    rfl
  have now : (r.ver != (s.line n).version sd) = false := by
    rw [hv]
    exact bne_self_eq_false _
  unfold State.finishRun
  extract_lets +onlyGivenNames u x ln c img shadow r' now' own more swapped work own' x'
  have e1 : shadow = shadowOf s sd n r := hs
  have e2 : swapped = false := by
    show (r.ver != (s.line n).version sd && _) = false
    rw [now, Bool.false_and]
  have e3 : work = imageOf s sd n r := if_neg (by rw [e2]; nofun)
  have e4 : own' = (worked s sd n used r).shadowWork := by
    refine (if_neg (by rw [e2]; nofun)).trans ?_
    show (if (s.cell sd n).st = .shadow ∧ (!r.isShadow) = true ∧ r.ver = (s.line n).version sd then _ else shadow.getD _) = (if _ then _ else _)
    rw [e1]
    by_cases h : (s.cell sd n).st = .shadow ∧ (!r.isShadow) = true
    · rw [if_pos ⟨h.1, h.2, hv⟩, if_pos h]
      rfl
    · rw [if_neg (fun k => h ⟨k.1, k.2.1⟩), if_neg h]
      rfl
  have e5 : x' = worked s sd n used r := by
    show ({ s.cell sd n with work := work, shadowWork := own', usedMax := max (s.cell sd n).usedMax used } : CellSide) = _
    rw [e3, e4]
    rfl
  have e6 : r' = doneRun s sd n used r := by
    show ({ r with result := some (imageOf s sd n r), shadow := shadow, used := used } : CellRun) = _
    rw [e1]
    rfl
  clear_value x' r'
  subst e5 e6
  rfl

theorem pendingRun_first {x : CellSide} {rest : List CellRun} (hx : x.runs = r :: rest) (hr : r.result = none) : x.pendingRun = some r := by
  unfold CellSide.pendingRun
  rw [hx, List.find?_cons_of_pos (by rw [hr]; rfl)]

theorem evaluationDone_runs (hp : (s.cell sd n).pendingRun = some r) (hl : r.late = false) (hc : s.cellRuns sd n = true) :
    exec (.cellEvaluationDone sd n used) s = .next (s.finishRun sd n r used) := by
  refine congrArg Host.Outcome.next ?_
  rw [hp]
  exact if_neg (by rw [hl, hc]; simp)

theorem addLoad_pair (p q : Nat) : (s.addLoad p used).pair q = { s.pair q with busyUs := (s.pair q).busyUs + if q = p then used else 0 } := by
  unfold State.addLoad
  rw [pair_setPair]
  split
  · next h => rw [h]
  · rfl

theorem setCell_sameBut (v : CellSide) : SameBut [.cells, .pairs] s ((s.addLoad (s.evaluator sd n) used).setCell sd n v) :=
  SameBut.trans (t := s.addLoad (s.evaluator sd n) used) (sameBut_pairs _ _).mono (sameBut_cells _ _).mono

/-- The completed evaluation stands where it stood. -/
theorem putRun_mem {x : CellSide} {y : CellRun} (hr : r ∈ x.runs) (h : y.start = r.start) : y ∈ (x.putRun y).runs :=
  List.mem_map.2 ⟨r, hr, if_pos h.symm⟩

end Sys2Proof.Evaluation
namespace Sys2Proof.Proofs
open Sys2Proof.Machine Sys2Proof.Safety Sys2Proof.Laws Sys2Proof.Occurrence Sys2Proof.Evaluation

/-- Settles O34, by the two cases of `finishRun_current`. -/
theorem evaluationCompletes : Obligations.EvaluationCompletes := by
  unfold Obligations.EvaluationCompletes
  refine ⟨?_, ?_⟩
  · intro s sd n used r rest x hx hr hi hv
    refine ⟨fun h => ?_, fun hl hc => ?_⟩
    · refine congrArg Host.Outcome.next ?_
      rw [pendingRun_first hx hr]
      refine if_pos (h.imp id fun k => ?_)
      rw [k]
      rfl
    · have done := evaluationDone_runs (used := used) (pendingRun_first hx hr) hl hc
      rw [finishRun_current hv] at done
      dsimp only at done
      have mem : r ∈ (worked s sd n used r).runs := by
        show r ∈ x.runs
        rw [hx]
        exact List.mem_cons_self
      have frame : ∀ v : CellSide, let t := (s.addLoad (s.evaluator sd n) used).setCell sd n v
          SameBut [.cells, .pairs] s t ∧ (∀ p, t.pair p = { s.pair p with busyUs := (s.pair p).busyUs + if p = s.evaluator sd n then used else 0 }) ∧
          t.cells.lines = s.cells.lines ∧ (∀ sd' n', (sd', n') ≠ (sd, n) → t.cell sd' n' = s.cell sd' n') ∧ t.cell sd n = v := fun v =>
        ⟨setCell_sameBut v, fun p => addLoad_pair _ p, rfl, fun sd' n' h => cell_setCell_of_ne _ _ _ _ h, cell_setCell_self ..⟩
      cases passed : reconPassed s n r with
      | true =>
        rw [passed, if_pos rfl] at done
        obtain ⟨f1, f2, f3, f4, f5⟩ := frame { worked s sd n used r with
          img := imageOf s sd n r, runs := (worked s sd n used r).runs.filter (fun y => y.start != r.start) }
        refine ⟨_, done, f1, f2, f3, f4, by rw [f5]; rfl, by rw [f5]; rfl, by rw [f5]; rfl, fun k => ?_, fun _ _ _ => by rw [f5]; rfl⟩
        unfold reconPassed at passed
        rw [k] at passed
        cases passed
      | false =>
        rw [passed, if_neg nofun] at done
        obtain ⟨f1, f2, f3, f4, f5⟩ := frame ((worked s sd n used r).putRun (doneRun s sd n used r))
        refine ⟨_, done, f1, f2, f3, f4, by rw [f5]; rfl, by rw [f5]; rfl, by rw [f5]; rfl, fun _ => ⟨by rw [f5]; rfl, doneRun s sd n used r, ?_, rfl, rfl⟩,
          fun k hk hle => ?_⟩
        · rw [f5]
          exact putRun_mem mem rfl
        · unfold reconPassed at passed
          rw [hk] at passed
          simp [hle] at passed
  · intro s sd n used r rest x hx hr hi hl hc hs hv hn
    have done := evaluationDone_runs (used := used) (pendingRun_first hx hr) hl hc
    rw [finishRun_current hv] at done
    dsimp only at done
    rw [show reconPassed s n r = false by unfold reconPassed; rw [hn], if_neg nofun] at done
    have own : shadowOf s sd n r = some (evalCell s.nextCont n r x.shadowWork) := if_pos (by rw [hi, hs]; rfl)
    have cell := cell_setCell_self (s := s.addLoad (s.evaluator sd n) used) sd n ((worked s sd n used r).putRun (doneRun s sd n used r))
    have mem : r ∈ (worked s sd n used r).runs := by
      show r ∈ x.runs
      rw [hx]
      exact List.mem_cons_self
    refine ⟨_, done, setCell_sameBut _, by rw [cell]; rfl, ?_, by rw [cell]; rfl, doneRun s sd n used r, ?_, rfl, rfl, own⟩
    · rw [cell]
      show (if _ then _ else (shadowOf s sd n r).getD _) = _
      rw [if_neg (by rw [hi]; simp), own]
      rfl
    · rw [cell]
      exact putRun_mem mem rfl

end Sys2Proof.Proofs

end

section
/-! PROOFS. A signature mismatch of severity S3 in VERIFY. O35. -/

set_option Elab.async false

namespace Sys2Proof.Proofs
open Sys2Proof.Machine Sys2Proof.Safety Sys2Proof.Laws Sys2Proof.Occurrence

/-- A container with cell 0 in use, whose signature mismatch its policy makes an S3 source. -/
def signedCont : Container :=
  { (default : Container) with cells := [{ (default : CellEntry) with inUse := true }], policy := [⟨bCELL 0, cellIx 0 1, 0, 3, 0⟩] }

/-- VERIFY after a RESTART: the container is in force, and cell 0 has counted two signature mismatches. -/
def countedVerify : State where
  dev := { st := .verify, loaded := true, verifyCause := .restart }
  cfg := { running := some ⟨signedCont, 0, [], []⟩ }
  cells := { sides := [(0, { sigc := 2 })] }

/-- The occurrence takes VERIFY to SAFE, and the exit from VERIFY sets τ₀ (R207). -/
theorem countedVerify_origin : (match exec (.sigMismatch .a 0) countedVerify with
    | .next t => t.time.tau0.isSome
    | _ => false) = true := by decide +kernel

/-- Refutes O35: the second signature mismatch is to leave the time as it is; in `countedVerify` it is an S3 occurrence in VERIFY, and the
arrival in SAFE sets τ₀. -/
theorem not_reconciliationAndCellSources : ¬ Obligations.ReconciliationAndCellSources := by
  unfold Obligations.ReconciliationAndCellSources
  rintro ⟨-, -, h⟩
  obtain ⟨-, -, -, -, hs, -⟩ := h countedVerify .a 0 (by decide) (by decide +kernel)
  obtain ⟨t, done, -, -, time⟩ := hs (by decide +kernel)
  have origin := countedVerify_origin
  rw [done] at origin
  dsimp only at origin
  rw [time] at origin
  cases origin

end Sys2Proof.Proofs

end

section
/-! PROOFS. The number of a commit while a live commit is noted. O37. -/

set_option Elab.async false

namespace Sys2Proof.Proofs
open Sys2Proof.Machine Sys2Proof.Safety Sys2Proof.Laws

/-- The end of an admission from CONFIGURE (`W14.w2`), with a live commit of number 7 still noted. -/
def notedLive : State :=
  { Tests.W14.w2 with cfg := { Tests.W14.w2.cfg with live := some { Tests.W15.lc 1001 false with next := { Tests.W15.runW with sequence := 7 } } } }

/-- The newer bank gets the number after that of the live commit. -/
theorem notedLive_sequence : (match exec (.admissionComplete none none) notedLive with
    | .next t => (t.cfg.bank notedLive.cfg.inactive).sequence == 8
    | _ => false) = true := by decide +kernel

/-- Refutes O37: a commit from CONFIGURE is to get the number after that of the newer bank; `nextSequence` counts on from a live commit
that is noted, which the clause does not exclude. -/
theorem not_liveCommitRuns : ¬ Obligations.LiveCommitRuns := by
  unfold Obligations.LiveCommitRuns
  rintro ⟨h, -⟩
  obtain ⟨-, commit, -⟩ := h notedLive (Tests.W14.adm false Tests.wBytes) rfl
  obtain ⟨t, done, -, -, -, -, sequence, -⟩ := commit Tests.W14.x0 rfl rfl Tests.W14.judge_ok
  have next := notedLive_sequence
  rw [done] at next
  dsimp only at next
  rw [sequence] at next
  exact absurd next (by decide +kernel)

end Sys2Proof.Proofs

end

section
/-! PROOFS. Requests that wait for an activation, and the queue, through an occurrence. -/

set_option Elab.async false

/-! ### A request for activation that waits stays through an occurrence

An arrival answers RUN, RESTART and CFG_COMMIT; nothing of an occurrence answers FW_ACTIVATE, but for the reset of HOST. -/

namespace Sys2Proof.Occurrence
open Sys2Proof.Machine Sys2Proof.Safety Sys2Proof.Laws

variable {s0 s t u : State}

/-- Every request that waits for an activation goes on waiting. -/
structure KeepsActivate (s t : State) : Prop where
  stays : ∀ w ∈ s.host.waiting, w.on = .activate → w ∈ t.host.waiting

theorem KeepsActivate.of_same (h : t.host.waiting = s.host.waiting) : KeepsActivate s t := ⟨fun _ hw _ => h ▸ hw⟩

theorem KeepsActivate.refl (s : State) : KeepsActivate s s := .of_same rfl

theorem KeepsActivate.trans (h : KeepsActivate s t) (k : KeepsActivate t u) : KeepsActivate s u :=
  ⟨fun w hw e => k.stays w (h.stays w hw e) e⟩

theorem KeepsActivate.ite {c : Prop} [Decidable c] (h : KeepsActivate s t) (k : KeepsActivate s u) : KeepsActivate s (if c then t else u) := by
  split
  · exact h
  · exact k

theorem KeepsActivate.of_sameBut {xs : List Part} (k : SameBut xs s t) (h : Part.host ∉ xs := by decide) : KeepsActivate s t :=
  .of_same (congrArg HostSt.waiting (k .host h))

theorem answer_keepsActivate (s : State) {on : WaitFor} (h : on ≠ .activate) (status : Nat) (payload : List Byte) :
    KeepsActivate s (s.answer on status payload) := by
  refine ⟨fun w hw e => ?_⟩
  rw [answer_eq]
  refine List.mem_filter.mpr ⟨hw, ?_⟩
  rw [e, Bool.not_eq_true', beq_eq_false_iff_ne]
  exact h.symm

theorem enter_keepsActivate (s : State) (st : DevState) (reason : Nat) : KeepsActivate s (s.enter st reason) := by
  by_cases h : s.dev.st = st
  · rw [enter_same reason h]
    exact .refl s
  · rw [enter_eq reason h]
    have h1 : KeepsActivate s (moved s st reason) := .of_same (by rw [moved_eq]; dsimp only; split <;> rfl)
    have h2 : KeepsActivate s (admissionEnded (moved s st reason) st) :=
      h1.trans (.ite (.trans (t := { moved s st reason with cfg := { (moved s st reason).cfg with admission := none } }) (.of_same rfl)
        (answer_keepsActivate _ (by decide) _ _)) (.refl _))
    exact h2.trans (.ite ((answer_keepsActivate _ (by decide) _ _).trans (answer_keepsActivate _ (by decide) _ _))
      (.ite (answer_keepsActivate _ (by decide) _ _) (.refl _)))

theorem latchNow_keepsActivate (s : State) : KeepsActivate s s.latchNow :=
  .ite (.trans (.of_sameBut ((sameBut_pwr s _).mono.trans (flushTrigger_sameBut _ _).mono : SameBut [.pwr, .oxb, .faults] s _))
    (enter_keepsActivate _ _ _)) (.refl s)

theorem safeNow_keepsActivate (s : State) (reason : Nat) : KeepsActivate s (s.safeNow reason) :=
  .ite (.trans (t := { s with dev := { s.dev with safeLine := true, s3InSafe := true } }) (.of_same rfl) (enter_keepsActivate _ _ _)) (.of_same rfl)

theorem severityEffect_keepsActivate (s : State) (b i inst sev : Nat) : KeepsActivate s (s.severityEffect b i inst sev) := by
  obtain ⟨u, k, e⟩ := severityEffect_parts s b i inst sev
  have h : KeepsActivate s u := .of_sameBut k
  rw [e]
  exact .ite (h.trans (latchNow_keepsActivate u)) (.ite (h.trans (safeNow_keepsActivate u _)) h)

theorem react_keepsActivate (s : State) (b i inst sev reacts : Nat) : KeepsActivate s (s.react b i inst sev reacts) := by
  unfold State.react
  extract_lets +onlyGivenNames f s1 h s2
  have h1 : KeepsActivate s s1 := .ite (.of_same rfl) (.refl s)
  have h2 : KeepsActivate s s2 := .ite (h1.trans (.of_same rfl)) h1
  exact .ite h2 (.ite (h2.trans (.of_same rfl)) (.ite (h2.trans (.of_same rfl)) h2))

theorem crst_keepsActivate (s : State) : KeepsActivate s s.crst :=
  .trans (t := { s with dev := { s.dev with safeLine := true, crstPending := true } }) (.of_same rfl)
    (.of_sameBut (xs := [.cells, .oxb, .faults]) ((touchLines_sameBut _ _).mono.trans (flushTrigger_sameBut _ _).mono))

/-- The block reset of a pair leaves HOST. -/
theorem brst_pair_host (s : State) {b : Nat} (h : b ≤ 6) : (s.brst b).host = s.host := by
  unfold State.brst
  rw [apply_ite State.host, if_pos h]
  split
  · rfl
  · dsimp only
    split <;> rfl

theorem takeReactions_keepsActivate (s : State) {b : Nat} (h : b ≤ 6) (i inst sev reacts : Nat) :
    KeepsActivate s (s.takeReactions State.brst b i inst sev reacts) := by
  unfold State.takeReactions
  extract_lets s1 s2 s3
  have h2 : KeepsActivate s s2 := (react_keepsActivate s ..).trans (severityEffect_keepsActivate s1 ..)
  have h3 : KeepsActivate s s3 := .ite (h2.trans (.of_same (congrArg HostSt.waiting (brst_pair_host s2 h)))) h2
  exact .ite (h3.trans (crst_keepsActivate s3)) h3

theorem event_keepsActivate (s : State) {b : Nat} (h : b ≤ 6) (i inst : Nat) : KeepsActivate s (s.event b i inst) := by
  unfold State.event State.raiseWith
  split
  · exact .refl s
  next src _ =>
  extract_lets mine
  refine .ite (.refl s) (.ite ?_ ?_)
  · unfold State.extend
    extract_lets s1
    have h1 : KeepsActivate s s1 := .ite (.refl s) (.of_sameBut (passToOxbow_sameBut s b i inst _ false))
    exact h1.trans (.of_same rfl)
  · generalize s.effective b i inst = x
    obtain ⟨sev, reacts⟩ := x
    dsimp only
    have hk : KeepsActivate s (s.passToOxbow b i inst sev false).1 := .of_sameBut (passToOxbow_sameBut s b i inst sev false)
    generalize s.passToOxbow b i inst sev false = y at hk ⊢
    obtain ⟨v, r⟩ := y
    have after : ∀ u : State, u.host = v.host → KeepsActivate s (u.takeReactions State.brst b i inst sev reacts) := fun u e =>
      (hk.trans (.of_same (congrArg HostSt.waiting e))).trans (takeReactions_keepsActivate u h ..)
    exact after _ rfl

/-! ### The queue stays, but for the reset of HOST -/

theorem takeReactions_pair_queue (s : State) {b : Nat} (h : b ≤ 6) (i inst sev reacts : Nat) :
    (s.takeReactions State.brst b i inst sev reacts).host.queue = s.host.queue := by
  unfold State.takeReactions
  extract_lets s1 s2 s3
  have h2 : s2.host.queue = s.host.queue :=
    (congrArg HostSt.queue (severityEffect_calm s1 b i inst sev).host :).trans (congrArg HostSt.queue (react_calm s b i inst sev reacts).host :)
  have h3 : s3.host.queue = s.host.queue := by
    unfold s3
    split
    · rw [brst_pair_host s2 h, h2]
    · exact h2
  split
  · exact (congrArg HostSt.queue (crst_calm s3).host :).trans h3
  · exact h3

theorem raise_pair_queue (s : State) {b : Nat} (h : b ≤ 6) (i inst who : Nat) : (s.raise b i inst who).host.queue = s.host.queue := by
  unfold State.raise State.raiseWith
  split
  · rfl
  next src _ =>
  extract_lets mine
  split
  · rfl
  split
  · exact (congrArg HostSt.queue (extend_calm s src b i inst who).host :)
  · generalize s.effective b i inst = x
    obtain ⟨sev, reacts⟩ := x
    dsimp only
    have hk : (s.passToOxbow b i inst sev false).1.host.queue = s.host.queue := congrArg HostSt.queue (passToOxbow_sameBut s b i inst sev false .host (by decide))
    generalize s.passToOxbow b i inst sev false = y at hk ⊢
    obtain ⟨v, r⟩ := y
    have after : ∀ u : State, u.host = v.host → (u.takeReactions State.brst b i inst sev reacts).host.queue = s.host.queue := fun u e => by
      rw [takeReactions_pair_queue u h, e, hk]
    exact after _ rfl

theorem event_pair_queue (s : State) {b : Nat} (h : b ≤ 6) (i inst : Nat) : (s.event b i inst).host.queue = s.host.queue :=
  raise_pair_queue s h i inst 0

end Sys2Proof.Occurrence

end

section
/-! PROOFS. Answers to the requests that a handover refuses, and the boundaries of its cells. -/

set_option Elab.async false

/-! ### A bundle handover (R284 to R286) -/

namespace Sys2Proof.Handing
open Sys2Proof.Machine Sys2Proof.Safety Sys2Proof.Laws Sys2Proof.Occurrence

variable {s t : State}

/-! #### The requests that the old supervisor cannot finish -/

/-- Answers to the requests that wait on any of a list. -/
def answerAll (ws : List WaitFor) (status : Nat) (payload : List Byte) (s : State) : State :=
  ws.foldl (fun s w => s.answer w status payload) s

theorem answerAll_host (ws : List WaitFor) (status : Nat) (payload : List Byte) (s : State) :
    answerAll ws status payload s = { s with host := { s.host with
      waiting := s.host.waiting.filter (fun w => decide (w.on ∉ ws)),
      rsp := (answerAll ws status payload s).host.rsp } } := by
  induction ws generalizing s with
  | nil => simp [answerAll]
  | cons x ws ih =>
    have e : answerAll (x :: ws) status payload s = answerAll ws status payload (s.answer x status payload) := rfl
    rw [e, ih, answer_eq, List.filter_filter]
    have k : (fun w : Waiting => decide (w.on ∉ ws) && !(w.on == x)) = fun w => decide (w.on ∉ x :: ws) := by
      funext w
      by_cases h : w.on = x <;> simp [h]
    rw [k]

theorem answerAll_rsp (ws : List WaitFor) (status : Nat) (payload : List Byte) (s : State) {x : Response} (h : x ∈ s.host.rsp) :
    x ∈ (answerAll ws status payload s).host.rsp := by
  induction ws generalizing s with
  | nil => exact h
  | cons o ws ih =>
    refine ih (s.answer o status payload) ?_
    rw [answer_eq]
    exact List.mem_append_left _ h

/-- Each of them gets its response. -/
theorem answerAll_answers (ws : List WaitFor) (status : Nat) (payload : List Byte) (s : State) {w : Waiting} (hw : w ∈ s.host.waiting)
    (h : w.on ∈ ws) : w.req.response s.host.session status payload ∈ (answerAll ws status payload s).host.rsp := by
  induction ws generalizing s with
  | nil => cases h
  | cons o ws ih =>
    show _ ∈ (answerAll ws status payload (s.answer o status payload)).host.rsp
    by_cases e : w.on = o
    · refine answerAll_rsp _ _ _ _ ?_
      rw [answer_eq]
      exact List.mem_append_right _ (List.mem_map.mpr ⟨w, List.mem_filter.mpr ⟨hw, by simpa using e⟩, rfl⟩)
    · have k : (s.answer o status payload).host.session = s.host.session := by rw [answer_eq]
      rw [← k]
      refine ih _ ?_ (List.mem_of_ne_of_mem e h)
      rw [answer_eq]
      exact List.mem_filter.mpr ⟨hw, by simpa using e⟩

/-- What waits on an activation alone is answered by it. -/
theorem answer_activate (status : Nat) (payload : List Byte) (s : State) {w : Waiting} (hw : w ∈ s.host.waiting) (h : w.on = .activate) :
    w.req.response s.host.session status payload ∈ (s.answer .activate status payload).host.rsp :=
  answerAll_answers [.activate] status payload s hw (by rw [h]; exact List.mem_singleton_self _)

/-- The requests that are refused at the point of a handover. -/
def begun : List WaitFor := [.run, .restart, .commit, .selfTest, .cal, .fuse, .hostSig, .oxbFlush]

theorem mem_begun {o : WaitFor} (h : o ≠ .activate) : o ∈ begun := by
  cases o <;> first | decide | exact absurd rfl h

/-! #### What the point writes beside HOST -/

theorem marker_faults (s : State) (code inst : Nat) (lo hi : Int) :
    (s.marker code inst lo hi).faults = { s.faults with live := (s.marker code inst lo hi).faults.live } := by
  have closed : ∀ (u : State) (o : OpenRec), (u.closeRecord o 0).faults = { u.faults with live := (u.closeRecord o 0).faults.live } := by
    intro u o
    unfold State.closeRecord
    split
    · unfold State.waitForSlot
      split <;> rfl
    · extract_lets code mine n r done key o2 f2 s1 n2
      have h1 : s1.faults = { u.faults with live := s1.faults.live } := rfl
      clear_value s1 n2
      split <;> exact h1
  exact closed _ _

theorem cellsInUse_congr (hd : t.dev = s.dev) (hc : t.cells = s.cells) (hl : t.cfg.live = s.cfg.live) (hr : t.cfg.running = s.cfg.running) :
    t.cellsInUse = s.cellsInUse := by
  have hv : t.versionCont = s.versionCont := by
    funext v
    unfold State.versionCont
    rw [hl, hr]
  have k : t.inUse = s.inUse := by
    funext n
    unfold State.inUse State.cellCont State.cellCfg State.line
    rw [hd, hc, hv]
  simp only [State.cellsInUse, hd, k]

/-- A cell gets the boundary at which it switches to the new forms. -/
def switchAt (s : State) (n : Nat) : State := s.setLine n { s.line n with handAt := some (s.firstBoundary ((s.cellCont n).cell n)) }

theorem switchAt_all (ns : List Nat) (s : State) {n : Nat} (h : n ∈ ns ∨ (s.line n).handAt.isSome = true) :
    ((ns.foldl switchAt s).line n).handAt.isSome = true := by
  induction ns generalizing s with
  | nil => exact h.resolve_left (List.not_mem_nil)
  | cons x ns ih =>
    refine ih (switchAt s x) ?_
    by_cases e : n = x
    · right
      rw [switchAt, e, line_setLine_self]
      rfl
    · rw [switchAt, line_setLine_of_ne _ _ _ e]
      exact h.imp_left (List.mem_of_ne_of_mem e)

theorem switchAt_sameBut (ns : List Nat) (s : State) : SameBut [.cells] s (ns.foldl switchAt s) := .foldl (fun _ _ => sameBut_cells _ _) _ _

theorem swapRoles_pairs (s : State) : s.swapRoles.pair 1 = s.pair 6 ∧ s.swapRoles.pair 6 = s.pair 1 ∧ s.swapRoles.pairs.swapped = !s.pairs.swapped := by
  refine ⟨?_, ?_, rfl⟩
  · show ((s.setPair bSUP (s.pair bSTB)).setPair bSTB (s.pair bSUP)).pair 1 = _
    rw [pair_setPair_of_ne _ _ _ (by decide), bSUP, pair_setPair_self]
    rfl
  · exact pair_setPair_self _ _ _

end Sys2Proof.Handing

end

section
/-! PROOFS. The commands of a handover as equations (R284, R285). -/

set_option Elab.async false

namespace Sys2Proof.Handing
open Sys2Proof.Machine Sys2Proof.Safety Sys2Proof.Laws Sys2Proof.Occurrence

variable {s t : State}

/-! #### The forms, and the point -/

theorem handoverFormsReady_waits (hl : s.cfg.live.isSome = true) : exec .handoverFormsReady s = .next s := by
  show execHandoverFormsReady s = .next s
  unfold execHandoverFormsReady
  congr 1
  split
  · exact if_pos (.inr hl)
  · rfl

/-- The new newer bank, with the new translator's forms. -/
def formedBank (s : State) (m : Manifest) (run : RunCfg) : ConfigBank :=
  { s.cfg.bank s.cfg.active with
    sequence := s.cfg.sequence + 1, formA := some (formOf 0 run.cont.hash m.translator), formB := some (formOf 1 run.cont.hash m.translator) }

theorem handoverFormsReady_eq {h : Handover} {m : Manifest} {run : RunCfg} (hh : s.bundles.handover = some h) (hs : h.stage = .translating)
    (hm : s.newManifest = some m) (hr : s.cfg.running = some run) (hl : s.cfg.live = none) :
    exec .handoverFormsReady s = .next { s with
      cfg := { s.cfg.setBank (1 - s.cfg.active) (formedBank s m run) with
        active := 1 - s.cfg.active, staging := none, trans := none, running := some { run with sequence := s.cfg.sequence + 1 } },
      bundles := { s.bundles with handover := some ⟨.starting, h.bank, s.time.tick⟩ } } := by
  show execHandoverFormsReady s = _
  unfold execHandoverFormsReady
  rw [hh, hm, hr]
  dsimp only
  rw [if_neg (by rw [hs, hl]; simp)]
  rfl

/-- HOST, the pairs and the bundles at the point, once the requests are refused. -/
def atPoint (u : State) (h : Handover) (m : Manifest) : State :=
  let v := u.swapRoles.activate h.bank
  { v with
    bundles := { v.bundles with running := some h.bank, manifest := some m, staging := none, handover := some { h with stage := .switching } },
    host := { v.host with paused := false, evHandover := true },
    weir := { v.weir with tablesBank := if v.on 7 then some h.bank else none } }

/-- The state at the point. -/
def newBundle (s : State) (h : Handover) (m : Manifest) : State := atPoint s.refuseBegun h m

/-- The point, before the answer to FW_ACTIVATE. -/
def switched (s : State) (h : Handover) (m : Manifest) : State :=
  let v := (newBundle s h m).bundleMarker h.bank m
  v.cellsInUse.foldl switchAt v

theorem handoverPoint_eq {h : Handover} {m : Manifest} (hh : s.bundles.handover = some h) (hs : h.stage = .starting) (hm : s.newManifest = some m)
    (ht : s.time.tick < h.start + 10000) :
    exec (.handoverPoint true) s = .next
      ((if (switched s h m).dev.st = .run then (switched s h m).askEpoch else switched s h m).answer .activate stOK (zeros 4)).settle := by
  show execHandoverPoint true s = _
  unfold execHandoverPoint
  refine congrArg Host.Outcome.next ?_
  split
  · next x y hx hy =>
    cases hx.symm.trans hh
    cases hy.symm.trans hm
    rw [if_neg (by rw [hs]; simp), if_neg (by simp; omega)]
    extract_lets +onlyGivenNames u host weir bundles v marked x answered
    have ev : newBundle s h m = v := rfl
    have em : (newBundle s h m).bundleMarker h.bank m = marked := by rw [ev]
    have ex : switched s h m = x := by
      unfold switched
      rw [em]
      rfl
    have ea : (if (switched s h m).dev.st = .run then (switched s h m).askEpoch else switched s h m) = answered := by rw [ex]
    rw [ea]
  · next none => exact absurd hm (none h m hh)

/-- What the point undoes beside the waiting requests. -/
def givenUp (u : State) : State :=
  { u with
    hs := u.hs.undo,
    cfg := { u.cfg with admission := none },
    rif := { u.rif with selfTest := none, cal := none },
    ros := { u.ros with running := u.ros.running.map (fun j => { j with answer := false }),
                        waiting := u.ros.waiting.map (fun j => { j with answer := false }) } }

theorem refuseBegun_eq (s : State) : s.refuseBegun = givenUp (answerAll begun stBUSY_RETRY [] s) := by
  unfold State.refuseBegun
  extract_lets u
  have e : answerAll begun stBUSY_RETRY [] s = u := rfl
  rw [e]
  clear_value u
  rfl

theorem refuseBegun_host (s : State) : s.refuseBegun.host = { s.host with
    waiting := s.host.waiting.filter (fun w => decide (w.on ∉ begun)), rsp := (answerAll begun stBUSY_RETRY [] s).host.rsp } := by
  have k := congrArg State.host (answerAll_host begun stBUSY_RETRY [] s)
  rw [refuseBegun_eq]
  generalize answerAll begun stBUSY_RETRY [] s = u at k ⊢
  exact k

theorem answerAll_sameBut (ws : List WaitFor) (status : Nat) (payload : List Byte) (s : State) : SameBut [.host] s (answerAll ws status payload s) := by
  rw [answerAll_host]
  exact sameBut_host _ _

theorem refuseBegun_frame (s : State) : SameBut [.host, .hs, .cfg, .rif, .ros] s s.refuseBegun ∧ s.refuseBegun.hs = s.hs.undo ∧
    s.refuseBegun.cfg = { s.cfg with admission := none } ∧ s.refuseBegun.ros.shadow = s.ros.shadow := by
  have k := answerAll_sameBut begun stBUSY_RETRY [] s
  rw [refuseBegun_eq]
  generalize answerAll begun stBUSY_RETRY [] s = u at k ⊢
  have given : SameBut [.host, .hs, .cfg, .rif, .ros] u (givenUp u) := by
    intro p hp
    cases p <;> first | rfl | exact absurd hp (by decide)
  refine ⟨k.mono.trans given, ?_, ?_, ?_⟩
  · exact congrArg HostSigSt.undo (k .hs (by decide))
  · exact congrArg (fun c : ConfigSt => { c with admission := none }) (k .cfg (by decide))
  · exact (congrArg RosSt.shadow (k .ros (by decide) : u.ros = s.ros) :)

end Sys2Proof.Handing

end

section
/-! PROOFS. What the point of a handover does (R285, R265). -/

set_option Elab.async false

namespace Sys2Proof.Handing
open Sys2Proof.Machine Sys2Proof.Safety Sys2Proof.Laws Sys2Proof.Occurrence

variable {s t : State} {h : Handover} {m : Manifest}

/-! #### What the point does -/

theorem atPoint_host (u : State) (h : Handover) (m : Manifest) : (atPoint u h m).host = { u.host with paused := false, evHandover := true } := rfl

theorem newBundle_host (s : State) (h : Handover) (m : Manifest) : (newBundle s h m).host = { s.host with
    waiting := s.host.waiting.filter (fun w => decide (w.on ∉ begun)), rsp := (answerAll begun stBUSY_RETRY [] s).host.rsp,
    paused := false, evHandover := true } := by
  rw [newBundle, atPoint_host, refuseBegun_host]

theorem atPoint_frame (u : State) (h : Handover) (m : Manifest) : SameBut [.host, .pairs, .bundles, .weir] u (atPoint u h m) := by
  intro p hp
  cases p <;> first | rfl | exact absurd hp (by decide)

theorem atPoint_pairs (u : State) (h : Handover) (m : Manifest) :
    (atPoint u h m).pair 1 = u.pair 6 ∧ (atPoint u h m).pair 6 = u.pair 1 ∧ (atPoint u h m).pairs.swapped = !u.pairs.swapped := swapRoles_pairs u

theorem atPoint_bundles (u : State) (h : Handover) (m : Manifest) :
    (atPoint u h m).bundles.running = some h.bank ∧ (atPoint u h m).bundles.manifest = some m ∧ (atPoint u h m).bundles.staging = none ∧
    (atPoint u h m).bundles.handover = some { h with stage := .switching } := ⟨rfl, rfl, rfl, rfl⟩

theorem pair_congr (h : t.pairs = s.pairs) (n : Nat) : t.pair n = s.pair n := by
  unfold State.pair
  rw [h]

/-- The rest of the state at the point. -/
theorem newBundle_frame (s : State) (h : Handover) (m : Manifest) :
    SameBut [.host, .hs, .cfg, .rif, .ros, .pairs, .bundles, .weir] s (newBundle s h m) ∧ (newBundle s h m).hs = s.hs.undo ∧
    (newBundle s h m).cfg = { s.cfg with admission := none } ∧ (newBundle s h m).ros.shadow = s.ros.shadow ∧
    (newBundle s h m).pair 1 = s.pair 6 ∧ (newBundle s h m).pair 6 = s.pair 1 ∧ (newBundle s h m).pairs.swapped = !s.pairs.swapped := by
  obtain ⟨k, hs, cfg, shadow⟩ := refuseBegun_frame s
  unfold newBundle
  generalize s.refuseBegun = u at *
  have a := atPoint_frame u h m
  obtain ⟨p1, p6, swapped⟩ := atPoint_pairs u h m
  have e : u.pairs = s.pairs := k .pairs (by decide)
  refine ⟨k.mono.trans a.mono, (a .hs (by decide)).trans hs, (a .cfg (by decide)).trans cfg, ?_, p1.trans (pair_congr e 6),
    p6.trans (pair_congr e 1), swapped.trans (by rw [e])⟩
  exact (congrArg RosSt.shadow (a .ros (by decide) : _ = u.ros)).trans shadow

theorem newBundle_bundles (s : State) (h : Handover) (m : Manifest) :
    (newBundle s h m).bundles.running = some h.bank ∧ (newBundle s h m).bundles.manifest = some m ∧ (newBundle s h m).bundles.staging = none ∧
    (newBundle s h m).bundles.handover = some { h with stage := .switching } := atPoint_bundles ..

/-- The marker and the cells' boundaries change Oxbow, the instances and the cells. -/
theorem switched_frame (s : State) (h : Handover) (m : Manifest) :
    SameBut [.oxb, .faults, .cells] (newBundle s h m) (switched s h m) ∧ (switched s h m).faults.words = s.faults.words := by
  have hb : (newBundle s h m).faults = s.faults := (newBundle_frame s h m).1 .faults (by decide)
  unfold switched State.bundleMarker
  generalize newBundle s h m = w at *
  extract_lets v
  have hm : SameBut [.oxb, .faults] w v := marker_sameBut _ _ _ _ _
  have hf : v.faults.words = w.faults.words := (congrArg FaultSt.words (marker_faults w _ _ _ _) :)
  clear_value v
  refine ⟨hm.mono.trans (switchAt_sameBut _ v).mono, ?_⟩
  rw [(switchAt_sameBut v.cellsInUse v .faults (by decide) : _ = v.faults), hf, hb]

theorem switched_handAt (s : State) (h : Handover) (m : Manifest) {n : Nat} (hn : n ∈ s.cellsInUse) : ((switched s h m).line n).handAt.isSome = true := by
  obtain ⟨k, -, cfg, -⟩ := newBundle_frame s h m
  unfold switched State.bundleMarker
  generalize newBundle s h m = w at *
  extract_lets v
  have hm : SameBut [.oxb, .faults] w v := marker_sameBut _ _ _ _ _
  clear_value v
  have cfg : v.cfg = { s.cfg with admission := none } := (hm .cfg (by decide)).trans cfg
  have e : v.cellsInUse = s.cellsInUse := cellsInUse_congr ((hm .dev (by decide)).trans (k .dev (by decide)))
    ((hm .cells (by decide)).trans (k .cells (by decide))) (by rw [cfg]) (by rw [cfg])
  exact switchAt_all _ _ (.inl (by rwa [e]))

theorem fusedEpoch_congr (h : t.ros.shadow = s.ros.shadow) : t.fusedEpoch = s.fusedEpoch := by
  unfold State.fusedEpoch State.shadow
  rw [h]

/-- A bundle of the fused epoch asks for none. -/
theorem switched_epoch (he : m.epoch ≤ s.fusedEpoch) :
    (if (switched s h m).dev.st = .run then (switched s h m).askEpoch else switched s h m) = switched s h m := by
  obtain ⟨k, -⟩ := switched_frame s h m
  obtain ⟨-, -, -, shadow, -⟩ := newBundle_frame s h m
  have em : (switched s h m).manifestEpoch = m.epoch := by
    have e : (switched s h m).bundles = (newBundle s h m).bundles := k .bundles (by decide)
    unfold State.manifestEpoch
    rw [e, (newBundle_bundles s h m).2.1]
    rfl
  have ef : (switched s h m).fusedEpoch = s.fusedEpoch :=
    fusedEpoch_congr ((congrArg RosSt.shadow (k .ros (by decide) : _ = (newBundle s h m).ros)).trans shadow)
  generalize switched s h m = u at *
  have same : u.askEpoch = u := if_pos (.inl (by rw [em, ef]; exact he))
  rw [same]
  exact ite_self u

theorem handoverPoint_switches (hh : s.bundles.handover = some h) (hs : h.stage = .starting) (hm : s.newManifest = some m)
    (he : m.epoch ≤ s.fusedEpoch) (hq : s.host.queue = []) (ht : s.time.tick < h.start + 10000) :
    exec (.handoverPoint true) s = .next ((switched s h m).answer .activate stOK (zeros 4)) := by
  rw [handoverPoint_eq hh hs hm ht, switched_epoch he, settle_eq_self]
  have e : (switched s h m).host = (newBundle s h m).host := (switched_frame s h m).1 .host (by decide)
  rw [answer_eq]
  dsimp only
  rw [e, newBundle_host, hq]
  nofun

theorem handoverPoint_gives (hh : s.bundles.handover = some h) (hs : h.stage = .starting) (hm : s.newManifest = some m)
    (he : m.epoch ≤ s.fusedEpoch) (hq : s.host.queue = []) (ht : s.time.tick < h.start + 10000) :
    Gives (.handoverPoint true) s (fun t =>
      t.bundles.running = some h.bank ∧ t.bundles.manifest = some m ∧ t.bundles.staging = none ∧
      t.bundles.handover = some ⟨.switching, h.bank, h.start⟩ ∧ t.host.waiting = [] ∧ t.host.paused = false ∧ t.host.evHandover = true ∧
      t.pair 1 = s.pair 6 ∧ t.pair 6 = s.pair 1 ∧ t.pairs.swapped = (!s.pairs.swapped) ∧ t.dev = s.dev ∧ t.faults.words = s.faults.words ∧
      t.hs.visible = s.hs.visible ∧ (∀ b, s.hs.before = some b → t.hs.inactive = b.inactive ∧ t.hs.flipDue = b.flipDue) ∧
      (∀ w ∈ s.host.waiting, w.on = .activate → w.req.response s.host.session stOK [0, 0, 0, 0] ∈ t.host.rsp) ∧
      (∀ w ∈ s.host.waiting, w.on = .commit → w.req.response s.host.session stBUSY_RETRY [] ∈ t.host.rsp) ∧
      ∀ n ∈ s.cellsInUse, (t.line n).handAt.isSome = true) := by
  obtain ⟨k, words⟩ := switched_frame s h m
  obtain ⟨k0, hs', -, -, p1, p6, swapped⟩ := newBundle_frame s h m
  have host : (switched s h m).host = _ := (k .host (by decide)).trans (newBundle_host s h m)
  have line := fun n hn => switched_handAt s h m (n := n) hn
  have bundles : (switched s h m).bundles = (newBundle s h m).bundles := k .bundles (by decide)
  obtain ⟨running, manifest, staging, handover⟩ := newBundle_bundles s h m
  have pairs : (switched s h m).pairs = (newBundle s h m).pairs := k .pairs (by decide)
  have pair : ∀ n, (switched s h m).pair n = (newBundle s h m).pair n := pair_congr pairs
  have dev : (switched s h m).dev = s.dev := (k .dev (by decide)).trans (k0 .dev (by decide))
  have undone : (switched s h m).hs = s.hs.undo := (k .hs (by decide)).trans hs'
  refine ⟨_, handoverPoint_switches hh hs hm he hq ht, ?_⟩
  have refused := fun (w : Waiting) (hw : w ∈ s.host.waiting) => answerAll_answers begun stBUSY_RETRY [] s hw
  generalize switched s h m = u at *
  generalize newBundle s h m = v at *
  generalize answerAll begun stBUSY_RETRY [] s = a at *
  have activates : ∀ w ∈ s.host.waiting, w.on = .activate → w ∈ u.host.waiting := by
    intro w hw e
    rw [host]
    exact List.mem_filter.mpr ⟨hw, by rw [e]; rfl⟩
  have session : u.host.session = s.host.session := by rw [host]
  have rest := answer_eq u .activate stOK (zeros 4)
  have answered := fun w (hw : w ∈ u.host.waiting) => answer_activate stOK (zeros 4) u hw
  generalize u.answer .activate stOK (zeros 4) = t at *
  refine ⟨by rw [rest, bundles]; exact running, by rw [rest, bundles]; exact manifest, by rw [rest, bundles]; exact staging,
    by rw [rest, bundles, handover], ?_, by rw [rest]; dsimp only; rw [host], by rw [rest]; dsimp only; rw [host],
    ?_, ?_, ?_, by rw [rest]; exact dev, by rw [rest]; exact words, ?_, fun b hb => ?_, fun w hw e => ?_, fun w hw e => ?_, fun n hn => ?_⟩
  · rw [rest, host, List.filter_filter]
    refine List.filter_eq_nil_iff.mpr fun w _ => ?_
    by_cases e : w.on = .activate
    · simp [e]
    · simp [mem_begun e]
  · rw [rest]
    exact (pair 1).trans p1
  · rw [rest]
    exact (pair 6).trans p6
  · rw [rest]
    exact (congrArg PairsSt.swapped pairs).trans swapped
  · rw [rest]
    dsimp only
    rw [undone]
    unfold HostSigSt.undo
    split <;> rfl
  · rw [rest]
    dsimp only
    rw [undone]
    unfold HostSigSt.undo
    rw [hb]
    exact ⟨rfl, rfl⟩
  · rw [← session]
    exact answered w (activates w hw e) e
  · rw [rest]
    dsimp only
    refine List.mem_append_left _ ?_
    rw [host]
    exact refused w hw (mem_begun (by rw [e]; decide))
  · rw [rest]
    exact line n hn

end Sys2Proof.Handing

end

section
/-! PROOFS. A handover that is given up, and its end (R286). O38. -/

set_option Elab.async false

namespace Sys2Proof.Handing
open Sys2Proof.Machine Sys2Proof.Safety Sys2Proof.Laws Sys2Proof.Occurrence

variable {s t : State} {h : Handover} {m : Manifest}

/-! #### A handover that is given up (R286) -/

/-- The state as a handover is given up, before SUP.HANDOVER_ABORT. -/
def handedBack (s : State) : State :=
  { s with
    bundles := { s.bundles with handover := none },
    pairs := { s.pairs with stb := if s.pairs.stb = .handover then .free else s.pairs.stb },
    host := { s.host with paused := false, evHandover := s.host.evHandover || s.host.paused } }

theorem abandonHandover_eq (hh : s.bundles.handover = some h) (hs : h.stage ≠ .switching) :
    s.abandonHandover = ((handedBack s).event bSUP 9 0).answer .activate stFW_BAD [] := by
  unfold State.abandonHandover
  rw [hh]
  exact if_neg hs

/-- What is left of a handover that is given up. -/
def GivenUp (s t : State) : Prop :=
  t.bundles.handover = none ∧ t.isLive bSUP 9 0 = true ∧ t.host.paused = false ∧ (s.host.paused = true → t.host.evHandover = true) ∧
  t.bundles.running = s.bundles.running ∧ (s.pairs.stb = .handover → t.pairs.stb = .free) ∧
  ∀ w ∈ s.host.waiting, w.on = .activate → w.req.response t.host.session stFW_BAD [] ∈ t.host.rsp

theorem abandonHandover_queue (hh : s.bundles.handover = some h) (hs : h.stage ≠ .switching) (hq : s.host.queue = []) :
    s.abandonHandover.host.queue = [] := by
  have queue : ((handedBack s).event bSUP 9 0).host.queue = [] := by
    rw [event_pair_queue _ (by decide)]
    exact hq
  rw [abandonHandover_eq hh hs, answer_eq]
  exact queue

theorem abandonHandover_givenUp (hh : s.bundles.handover = some h) (hs : h.stage ≠ .switching) : GivenUp s s.abandonHandover := by
  have k := event_stirred (handedBack s) bSUP 9 0
  have waits := (event_keepsActivate (handedBack s) (b := bSUP) (by decide) 9 0).stays
  have live : ((handedBack s).event bSUP 9 0).isLive bSUP 9 0 = true := raise_isLive (b := bSUP) 0 rfl (.inl (by decide))
  rw [abandonHandover_eq hh hs]
  generalize (handedBack s).event bSUP 9 0 = u at *
  have activated := fun w (hw : w ∈ u.host.waiting) => answer_activate stFW_BAD [] u hw
  have rest := answer_eq u .activate stFW_BAD []
  have session : (u.answer .activate stFW_BAD []).host.session = u.host.session := by rw [rest]
  refine ⟨?_, ?_, ?_, fun hp => ?_, ?_, fun hf => ?_, fun w hw e => ?_⟩
  · rw [rest]
    exact (congrArg BundleSt.handover k.bundles :)
  · rw [rest]
    exact live
  · rw [rest]
    exact (congrArg HostSt.paused k.host :)
  · rw [rest]
    refine (congrArg HostSt.evHandover k.host :).trans ?_
    show (s.host.evHandover || s.host.paused) = true
    rw [hp, Bool.or_true]
  · rw [rest]
    exact (congrArg BundleSt.running k.bundles :)
  · rw [rest]
    exact (congrArg PairsSt.stb k.pairs :).trans (if_pos hf)
  · rw [session]
    exact activated w (waits w hw e) e

theorem handoverPoint_failed (hh : s.bundles.handover = some h) (hs : h.stage = .starting) (hm : s.newManifest = some m) {ok : Bool}
    (ho : ok = false ∨ h.start + 10000 ≤ s.time.tick) : exec (.handoverPoint ok) s = .next s.abandonHandover := by
  show execHandoverPoint ok s = _
  unfold execHandoverPoint
  rw [hh, hm]
  dsimp only
  rw [if_neg (by rw [hs]; simp), if_pos (ho.imp_left (fun e => by rw [e]; rfl))]

theorem handoverTimeout_eq (hh : s.bundles.handover = some h) :
    exec .handoverTimeout s = .next (if h.stage = .starting ∧ h.start + 10000 ≤ s.time.tick then s.abandonHandover.settle else s) := by
  show execHandoverTimeout s = _
  unfold execHandoverTimeout
  rw [hh]

/-! #### The mailbox pause, and the end -/

theorem pauseForHandover_eq (hh : s.bundles.handover = some h) (hs : h.stage = .starting) : s.pauseForHandover =
    if s.time.tick < h.start + 2000 then s
    else if s.time.tick < h.start + 3000 then withHost s { s.host with paused := true }
    else if s.host.paused then withHost s { s.host with paused := false, evHandover := true } else s := by
  unfold State.pauseForHandover
  rw [hh]
  dsimp only
  rw [hs]
  simp only [ne_eq, not_true_eq_false, false_or]
  rfl

/-- The end of a handover, before the comparator test of the new STB. -/
def handedOver (s : State) : State :=
  { s with
    bundles := { s.bundles with handover := none },
    pairs := { s.pairs with stb := if s.pairs.stb = .handover then .free else s.pairs.stb } }

theorem handoverComplete_waits (hh : s.bundles.handover = some h) {n : Nat} (hn : n ∈ s.cellsInUse) (hw : (s.line n).handAt ≠ none) :
    exec (.handoverComplete []) s = .next s := by
  show execHandoverComplete [] s = .next s
  unfold execHandoverComplete
  rw [hh]
  dsimp only
  rw [if_pos (.inr (List.any_eq_true.mpr ⟨n, hn, Option.isSome_iff_ne_none.mpr hw⟩))]

theorem handoverComplete_ends (hh : s.bundles.handover = some h) (hs : h.stage = .switching) (hn : ∀ n ∈ s.cellsInUse, (s.line n).handAt = none) :
    exec (.handoverComplete []) s = .next ((handedOver s).setPair 6 { (handedOver s).pair 6 with selfTestOk := true }) := by
  have all : ¬ (h.stage ≠ .switching ∨ s.cellsInUse.any (fun n => (s.line n).handAt.isSome) = true) := by
    rintro (e | e)
    · exact e hs
    · obtain ⟨n, h1, h2⟩ := List.any_eq_true.mp e
      rw [hn n h1] at h2
      cases h2
  show execHandoverComplete [] s = _
  unfold execHandoverComplete
  refine congrArg Host.Outcome.next ?_
  split
  · next none => cases none.symm.trans hh
  · next x hx =>
    cases hx.symm.trans hh
    have passed : firstFailing [] = none := by simp [firstFailing]
    rw [if_neg all, passed]
    rfl

end Sys2Proof.Handing

namespace Sys2Proof.Proofs
open Sys2Proof.Machine Sys2Proof.Safety Sys2Proof.Laws Sys2Proof.Handing

/-- Settles O38: the commands of a handover, each by its equation, and what the point and the end of an abandoned handover leave. -/
theorem bundleHandover : Obligations.BundleHandover := by
  unfold Obligations.BundleHandover
  intro s h hh
  refine ⟨handoverFormsReady_waits, fun m run hs hm hr hl => ?_, fun m hs hm he hq ht => handoverPoint_gives hh hs hm he hq ht,
    fun hs hq => ?_, fun hs => ?_, fun hs none => ?_, fun hs some => ?_⟩
  · refine ⟨_, handoverFormsReady_eq hh hs hm hr hl, ?_, rfl, rfl, rfl, fun ha => ?_⟩
    · intro p hp
      cases p <;> first | rfl | exact absurd hp (by decide)
    · have : s.cfg.active = 0 ∨ s.cfg.active = 1 := by omega
      rcases this with e | e <;> simp [e, ConfigSt.bank, ConfigSt.setBank, formedBank]
  · intro given
    have ns : h.stage ≠ .switching := by rcases hs with e | e <;> rw [e] <;> decide
    refine ⟨fun m hs hm => ⟨⟨_, handoverPoint_failed hh hs hm (.inl rfl), abandonHandover_givenUp hh ns⟩,
      fun late => ⟨_, handoverPoint_failed hh hs hm (.inr late), abandonHandover_givenUp hh ns⟩⟩, fun hs late => ?_, fun early => ?_⟩
    · refine ⟨_, handoverTimeout_eq hh, ?_⟩
      rw [if_pos ⟨hs, late⟩, settle_eq_self]
      · exact abandonHandover_givenUp hh ns
      · rw [abandonHandover_queue hh ns hq]
        nofun
    · rw [handoverTimeout_eq hh, if_neg (by omega)]
  · rw [pauseForHandover_eq hh hs]
    refine ⟨fun early => if_pos early, fun begun early => ?_, fun late => ?_⟩
    · rw [if_neg (by omega), if_pos early]
    · rw [if_neg (by omega), if_neg (by omega)]
      refine ⟨?_, fun hp => if_pos hp⟩
      split
      · rfl
      · next hp => exact Bool.eq_false_iff.mpr hp
  · refine ⟨_, handoverComplete_ends hh hs none, ?_, rfl, ?_, fun e => if_pos e, fun p hp => pair_setPair_of_ne _ _ _ hp⟩
    · intro p hp
      cases p <;> first | rfl | exact absurd hp (by decide)
    · rw [pair_setPair_self]
  · obtain ⟨n, hn, hw⟩ := some
    exact handoverComplete_waits hh hn hw

end Sys2Proof.Proofs

end

section
/-! PROOFS. The ways a frame goes at a field die (R71, R79). -/

set_option Elab.async false

/-! ### A field die takes a frame (R71, R79) -/

namespace Sys2Proof.Die
open Sys2Proof.Machine Sys2Proof.Safety Sys2Proof.Laws

variable {s u : State} {c : Nat} {f : BitVec 40} {smp : LandSample}

/-- The comparator, and what a marked slot samples. -/
def sampled (s : State) (c : Nat) (f : BitVec 40) (smp : LandSample) : State :=
  let v := s.setChan c ((s.chan c).compare c smp)
  if cmdTick f then v.dieSample c smp else v

/-- What a live die has done before it looks at the frame: of the channel the comparator, the class and the current, of the die the codes. -/
structure Sampled (s u : State) (c : Nat) (f : BitVec 40) (smp : LandSample) : Prop where
  frame : SameBut [.field, .free] s u
  others : ∀ c', c' ≠ c → u.chan c' = s.chan c'
  chan : u.chan c = { s.chan c with comp := (u.chan c).comp, cls := (u.chan c).cls, icode := (u.chan c).icode }
  die : u.die (c / 16) = { s.die (c / 16) with vfCode := (u.die (c / 16)).vfCode, tempCode := (u.die (c / 16)).tempCode }
  marked : cmdTick f = true → (u.chan c).icode = min 255 smp.current ∧ (u.die (c / 16)).vfCode = min 4095 (smp.vfMv / 10)
  unmarked : cmdTick f = false → (u.chan c).icode = (s.chan c).icode ∧ (u.chan c).cls = (s.chan c).cls ∧ u.die (c / 16) = s.die (c / 16)

theorem dieSample_chan (s : State) (c : Nat) (smp : LandSample) : ∃ cls, (s.dieSample c smp).chan c = { s.chan c with cls := cls, icode := min 255 smp.current } :=
  ⟨_, chan_setChan_self _ c _⟩

theorem dieSample_die (s : State) (c : Nat) (smp : LandSample) :
    ∃ code, (s.dieSample c smp).die (c / 16) = { s.die (c / 16) with vfCode := min 4095 (smp.vfMv / 10), tempCode := code } :=
  ⟨_, die_setDie_self _ (c / 16) _⟩

theorem sampled_spec (s : State) (c : Nat) (f : BitVec 40) (smp : LandSample) : Sampled s (sampled s c f smp) c f smp := by
  unfold sampled
  extract_lets v
  have chan : v.chan c = { s.chan c with comp := (v.chan c).comp } := by
    simp only [v, chan_setChan_self]
    rfl
  have others : ∀ c', c' ≠ c → v.chan c' = s.chan c' := fun c' h => chan_setChan_of_ne s c _ h
  have die : v.die = s.die := rfl
  have frame : SameBut [.field, .free] s v := (sameBut_field _ _).mono
  clear_value v
  split
  · next ht =>
    obtain ⟨cls, hc⟩ := dieSample_chan v c smp
    obtain ⟨code, hd⟩ := dieSample_die v c smp
    refine ⟨frame.trans ?_, fun c' h => ?_, ?_, ?_, fun _ => ⟨by rw [hc], by rw [hd]⟩, fun e => absurd ht (by rw [e]; decide)⟩
    · intro p hp
      cases p <;> first | rfl | exact absurd hp (by decide)
    · exact (chan_setChan_of_ne _ c _ h).trans (others c' h)
    · rw [hc]
      dsimp only
      rw [chan]
    · rw [hd, die]
  · next ht =>
    exact ⟨frame, others, chan.trans (by rw [chan]), by rw [die], fun e => absurd e ht, fun _ => ⟨by rw [chan], by rw [chan], by rw [die]⟩⟩

/-! #### The four ways a frame goes -/

/-- The distance of a frame's counter from the channel's. -/
def distance (s : State) (c : Nat) (f : BitVec 40) : Nat := (cmdFcnt f + 16 - (s.chan c).nLast.toNat % 16) % 16

/-- The answer to a frame that is not accepted. -/
def answered (u : State) (c : Nat) (f : BitVec 40) (smp : LandSample) (x : DieCh) : State :=
  u.setChan c ({ x with atokBad := false, btokBad := false }.reply u.time.tick (u.die (c / 16)) (cmdFcnt f) (midRead smp) (u.chan c).slice.isSome 0)

theorem Sampled.nLast (h : Sampled s u c f smp) : (u.chan c).nLast = (s.chan c).nLast := by rw [h.chan]
theorem Sampled.synced (h : Sampled s u c f smp) : (u.chan c).synced = (s.chan c).synced := by rw [h.chan]
theorem Sampled.alive (h : Sampled s u c f smp) : (u.die (c / 16)).alive = (s.die (c / 16)).alive := by rw [h.die]
theorem Sampled.time (h : Sampled s u c f smp) : u.time = s.time := h.frame .time (by decide)

section Ways

variable {ty : Nat} {take : State → Nat → Nat → State}

theorem dieFrame_dead (h : (s.die (c / 16)).alive = false) : s.dieFrame c ty f smp take = s := if_pos (.inl (by rw [h]; rfl))

theorem dieFrame_taken (ha : (s.die (c / 16)).alive = true) (ht : frBits f 39 38 = ty) : s.dieFrame c ty f smp take =
    let u := sampled s c f smp
    if !cmdOk f then u.dieSilent c
    else if (s.chan c).synced ∧ (distance s c f = 0 ∨ 11 ≤ distance s c f) then answered u c f smp (u.chan c).unsync
    else if ty = tySYNC then take u (frBits f 20 9 * 16 + cmdFcnt f) 0
    else if !(s.chan c).synced then answered u c f smp (u.chan c)
    else take u (((s.chan c).nLast.toNat + distance s c f) % 65536) (distance s c f) := by
  have k := sampled_spec s c f smp
  have e : s.dieFrame c ty f smp take =
    let u := sampled s c f smp
    if !cmdOk f then u.dieSilent c
    else if (u.chan c).synced ∧ (distance u c f = 0 ∨ 11 ≤ distance u c f) then answered u c f smp (u.chan c).unsync
    else if ty = tySYNC then take u (frBits f 20 9 * 16 + cmdFcnt f) 0
    else if !(u.chan c).synced then answered u c f smp (u.chan c)
    else take u (((u.chan c).nLast.toNat + distance u c f) % 65536) (distance u c f) := if_neg (by rw [ha, ht]; simp)
  rw [e]
  unfold distance
  dsimp only
  rw [k.nLast, k.synced]

theorem dieFrame_bad (ha : (s.die (c / 16)).alive = true) (ht : frBits f 39 38 = ty) (hf : cmdOk f = false) :
    s.dieFrame c ty f smp take = (sampled s c f smp).dieSilent c := by
  rw [dieFrame_taken ha ht]
  exact if_pos (by rw [hf]; rfl)

theorem dieFrame_unsync (ha : (s.die (c / 16)).alive = true) (ht : frBits f 39 38 = ty) (hf : cmdOk f = true) (hs : (s.chan c).synced = true)
    (hd : distance s c f = 0 ∨ 11 ≤ distance s c f) :
    s.dieFrame c ty f smp take = answered (sampled s c f smp) c f smp ((sampled s c f smp).chan c).unsync := by
  rw [dieFrame_taken ha ht]
  dsimp only
  rw [if_neg (by rw [hf]; decide), if_pos ⟨hs, hd⟩]

theorem dieFrame_accepted (ha : (s.die (c / 16)).alive = true) (ht : frBits f 39 38 = ty) (hf : cmdOk f = true) (hs : (s.chan c).synced = true)
    (h1 : 1 ≤ distance s c f) (h10 : distance s c f ≤ 10) (hy : ty ≠ tySYNC) :
    s.dieFrame c ty f smp take = take (sampled s c f smp) (((s.chan c).nLast.toNat + distance s c f) % 65536) (distance s c f) := by
  rw [dieFrame_taken ha ht]
  dsimp only
  rw [if_neg (by rw [hf]; decide), if_neg (by omega), if_neg hy, if_neg (by rw [hs]; decide)]

theorem dieFrame_sync (ha : (s.die (c / 16)).alive = true) (ht : frBits f 39 38 = tySYNC) (hf : cmdOk f = true)
    (hs : (s.chan c).synced = false ∨ (1 ≤ distance s c f ∧ distance s c f ≤ 10)) :
    s.dieFrame c tySYNC f smp take = take (sampled s c f smp) (frBits f 20 9 * 16 + cmdFcnt f) 0 := by
  rw [dieFrame_taken ha ht]
  dsimp only
  rw [if_neg (by rw [hf]; decide), if_neg, if_pos rfl]
  rintro ⟨e, h⟩
  rcases hs with hs | hs
  · rw [hs] at e
    cases e
  · omega

end Ways

/-! #### What the channel is afterwards -/

/-- Only the channel, its die and the counter of free values change. -/
def Alone (s t : State) (c : Nat) : Prop := SameBut [.field, .free] s t ∧ ∀ c', c' ≠ c → t.chan c' = s.chan c'

theorem Sampled.alone (h : Sampled s u c f smp) (x : DieCh) : Alone s (u.setChan c x) c :=
  ⟨h.frame.trans (sameBut_field _ _).mono, fun c' e => (chan_setChan_of_ne u c x e).trans (h.others c' e)⟩

theorem dieSilent_gives (h : Sampled s u c f smp) :
    let t := u.dieSilent c
    Alone s t c ∧ (t.chan c).answer = none ∧
      (t.chan c).swA = (s.chan c).swA ∧ (t.chan c).swB = (s.chan c).swB ∧ (t.chan c).nLast = (s.chan c).nLast ∧ (t.chan c).synced = (s.chan c).synced ∧
      (t.chan c).slice = none ∧ (cmdTick f = true → (t.chan c).icode = min 255 smp.current ∧ (t.die (c / 16)).vfCode = min 4095 (smp.vfMv / 10)) ∧
      (cmdTick f = false → (t.chan c).icode = (s.chan c).icode ∧ (t.chan c).cls = (s.chan c).cls ∧ t.die (c / 16) = s.die (c / 16)) := by
  intro t
  have e : t.chan c = { (u.chan c).cut u.time.tick with answer := none } := chan_setChan_self _ c _
  have d : t.die (c / 16) = u.die (c / 16) := rfl
  refine ⟨h.alone _, by rw [e], ?_, ?_, ?_, ?_, by rw [e]; rfl, fun ht => ?_, fun ht => ?_⟩
  · rw [e, DieCh.cut, h.chan]
  · rw [e, DieCh.cut, h.chan]
  · rw [e, DieCh.cut, h.chan]
  · rw [e, DieCh.cut, h.chan]
  · rw [e, d]
    exact h.marked ht
  · rw [e, d]
    exact h.unmarked ht

theorem answered_unsync (h : Sampled s u c f smp) :
    let t := answered u c f smp (u.chan c).unsync
    Alone s t c ∧ (t.chan c).synced = false ∧ ((t.chan c).swA = false ∧ (t.chan c).swB = false) ∧ (t.chan c).answer.isSome = true := by
  intro t
  have e : t.chan c = _ := chan_setChan_self _ c _
  exact ⟨h.alone _, by rw [e]; rfl, ⟨by rw [e]; rfl, by rw [e]; rfl⟩, by rw [e]; rfl⟩

end Sys2Proof.Die

end

section
/-! PROOFS. The tokens of an accepted frame (R80, R84). -/

set_option Elab.async false

namespace Sys2Proof.Die
open Sys2Proof.Machine Sys2Proof.Safety Sys2Proof.Laws

variable {s u : State} {c : Nat} {f : BitVec 40} {smp : LandSample}

/-! #### The tokens of an accepted frame -/

/-- Nothing holds the channel open, and the frame starts no slice in it (R80, R84). -/
def mayClose (u : State) (c d : Nat) (f : BitVec 40) : Prop :=
  let ch := u.chan c
  let opens := (ch.swA = true ∧ frBits f 32 27 ≠ token .a ((ch.nLast.toNat + d) % 65536) true c) ∨
    (ch.swB = true ∧ frBits f 26 21 ≠ token .b ((ch.nLast.toNat + d) % 65536) true c)
  d = 1 ∧ ch.ol = false ∧ ch.ot = false ∧ (u.die (c / 16)).uv = false ∧ (u.die (c / 16)).ov = false ∧ ch.slice = none ∧
    (u.time.slotInTick = 2 → cmdTick f = true ∨ cmdSel f < 0x18 ∨ opens) ∧ 4 ≤ ch.mode ∧ ch.mode ≤ 7

theorem modeDrives_iff (m : Nat) : modeDrives m = true ↔ 4 ≤ m ∧ m ≤ 7 := by
  unfold modeDrives
  simp only [Bool.or_eq_true, beq_iff_eq]
  omega

/-- `mayClose` is what `takeTokens` asks before a switch may close. -/
theorem mayClose_iff (ht : frBits f 39 38 = 1) {d n : Nat} (hn : n = ((u.chan c).nLast.toNat + d) % 65536) : mayClose u c d f ↔
    (d == 1 && !lockedOut (u.die (c / 16)) (u.chan c) && (u.chan c).slice.isNone &&
      !(u.chan c).startsSlice u.inSlot1 (((u.chan c).swA && !(frBits f 32 27 == token .a n true c)) ||
        ((u.chan c).swB && !(frBits f 26 21 == token .b n true c))) f && modeDrives (u.chan c).mode) = true := by
  rw [hn]
  unfold mayClose DieCh.startsSlice lockedOut State.inSlot1
  dsimp only
  generalize token .a _ true c = ta, token .b _ true c = tb
  simp only [Bool.and_eq_true, modeDrives_iff, beq_iff_eq, Bool.not_eq_true', Bool.or_eq_false_iff, Bool.and_eq_false_iff, Option.isNone_iff_eq_none,
    ht, tyRUN, Bool.or_eq_true, decide_eq_false_iff_not, beq_eq_false_iff_ne, Bool.not_eq_eq_eq_not, Bool.not_true, Bool.not_false, Bool.or_eq_false_iff]
  have sel : ¬ 24 ≤ cmdSel f ↔ cmdSel f < 24 := Nat.not_le
  rw [sel]
  generalize (u.chan c).slice = slice
  cases slice <;> cases (u.chan c).swA <;> cases (u.chan c).swB <;> cases cmdTick f <;> simp <;> tauto

theorem Sampled.mayClose (h : Sampled s u c f smp) (d : Nat) : mayClose u c d f ↔ mayClose s c d f := by
  unfold Die.mayClose
  rw [h.chan, h.die, h.time]

/-- What an accepted frame without a cause of its own makes of the switches, the history and the counter (R80). -/
theorem takeTokens_run (ht : frBits f 39 38 = 1) {d n : Nat} (hn : n = ((u.chan c).nLast.toNat + d) % 65536) :
    let x := (u.chan c).takeTokens (u.die (c / 16)) c n d u.inSlot1 f false
    (x.swA = true ↔ frBits f 32 27 = token .a n true c ∧ ((u.chan c).swA = true ∨ (mayClose u c d f ∧ (u.chan c).prevOnA = true ∧ (u.chan c).armA = true))) ∧
    (x.swB = true ↔ frBits f 26 21 = token .b n true c ∧ ((u.chan c).swB = true ∨ (mayClose u c d f ∧ (u.chan c).prevOnB = true ∧ (u.chan c).armB = true))) ∧
    x.prevOnA = decide (frBits f 32 27 = token .a n true c) ∧ x.prevOnB = decide (frBits f 26 21 = token .b n true c) ∧
    x.nLast.toNat = n ∧ x.mode = (u.chan c).mode ∧ x.synced = (u.chan c).synced := by
  rw [mayClose_iff ht hn]
  refine ⟨?_, ?_, ?_, ?_, ?_, rfl, rfl⟩
  · simp only [DieCh.takeTokens, Bool.and_eq_true, Bool.or_eq_true, beq_iff_eq, Bool.not_false, true_and, and_true, and_assoc]
  · simp only [DieCh.takeTokens, Bool.and_eq_true, Bool.or_eq_true, beq_iff_eq, Bool.not_false, true_and, and_true, and_assoc]
  · exact Bool.beq_eq_decide_eq _ _
  · exact Bool.beq_eq_decide_eq _ _
  · exact (BitVec.toNat_ofNat n 16).trans (Nat.mod_eq_of_lt (by omega))

/-- A frame that opens both switches for a cause of its own. -/
theorem takeTokens_opens (x : DieCh) (die : DieSt) (c d : Nat) (slot1 : Bool) (f : BitVec 40) {n : Nat} (hn : n < 65536) :
    let y := x.takeTokens die c n d slot1 f true
    y.swA = false ∧ y.swB = false ∧ y.nLast.toNat = n ∧ y.mode = x.mode ∧ y.slew = x.slew ∧ y.lead = x.lead ∧ y.synced = x.synced := by
  refine ⟨?_, ?_, (BitVec.toNat_ofNat n 16).trans (Nat.mod_eq_of_lt hn), rfl, rfl, rfl, rfl⟩
  · simp [DieCh.takeTokens]
  · simp [DieCh.takeTokens]

end Sys2Proof.Die

end

section
/-! PROOFS. RUN, SYNC and CFG frames at a field die. O39. -/

set_option Elab.async false

namespace Sys2Proof.Die
open Sys2Proof.Machine Sys2Proof.Safety Sys2Proof.Laws

variable {s u : State} {c : Nat} {f : BitVec 40} {smp : LandSample}

/-! #### The three commands -/

theorem groupQuiet_congr {g : Nat} (h : ∀ n, (u.chan n).mode = (s.chan n).mode ∧ (u.chan n).swA = (s.chan n).swA ∧ (u.chan n).swB = (s.chan n).swB) :
    u.groupQuiet g = s.groupQuiet g := by
  unfold State.groupQuiet
  dsimp only
  simp only [(h _).1, (h _).2.1, (h _).2.2]

theorem Sampled.groupQuiet (h : Sampled s u c f smp) (g : Nat) : u.groupQuiet g = s.groupQuiet g := by
  refine groupQuiet_congr fun n => ?_
  by_cases e : n = c
  · rw [e, h.chan]
    exact ⟨rfl, rfl, rfl⟩
  · rw [h.others n e]
    exact ⟨rfl, rfl, rfl⟩

/-- The effect of an accepted RUN frame, beside the tokens: the slice, the answer, and the unit slice that the frame starts. -/
def RunTaken (u t : State) (c n d : Nat) (f : BitVec 40) : Prop :=
  ∃ (v : State) (sl : Option DieSlice) (cut : Option Nat) (a : BitVec 40),
    t = v.setChan c { (u.chan c).takeTokens (u.die (c / 16)) c n d u.inSlot1 f false with slice := sl, cutAt := cut, answer := some a } ∧
    SameBut [.field, .free] u v ∧ (∀ c', v.chan c' = u.chan c') ∧
    (cmdTick f = false → u.startsUnit c (cmdSel f) = true → (v.die (c / 16)).unitRun = true)

theorem fdRunFrame_taken (ha : (s.die (c / 16)).alive = true) (ht : frBits f 39 38 = 1) (hf : cmdOk f = true) (hs : (s.chan c).synced = true)
    (h1 : 1 ≤ distance s c f) (h10 : distance s c f ≤ 10) : Gives (.fdRunFrame c f smp) s (fun t =>
      RunTaken (sampled s c f smp) t c (((s.chan c).nLast.toNat + distance s c f) % 65536) (distance s c f) f) := by
  refine ⟨_, congrArg Host.Outcome.next (dieFrame_accepted ha ht hf hs h1 h10 (by decide)), ?_⟩
  generalize sampled s c f smp = u, ((s.chan c).nLast.toNat + distance s c f) % 65536 = n, distance s c f = d
  extract_lets +onlyGivenNames die was ch sel unit
  split
  next sl res _ =>
  extract_lets +onlyGivenNames ch'
  split
  next cls icode mid _ =>
  extract_lets +onlyGivenNames v w
  have hw : SameBut [.field, .free] u w ∧ (∀ c', w.chan c' = u.chan c') ∧ (unit = true → (w.die (c / 16)).unitRun = true) := by
    unfold w
    split
    · next hu =>
      refine ⟨?_, fun _ => rfl, fun _ => by rw [die_setDie_self]⟩
      intro p hp
      cases p <;> first | rfl | exact absurd hp (by decide)
    · next hu => exact ⟨(sameBut_free _ _).mono, fun _ => rfl, fun e => absurd e hu⟩
  refine ⟨w, sl, _, _, rfl, hw.1, hw.2.1, fun ht hu => hw.2.2 ?_⟩
  simp only [unit, ht, sel, hu, Bool.not_false, Bool.or_true, Bool.and_self]

theorem fdRunFrame_accepted (ha : (s.die (c / 16)).alive = true) (ht : frBits f 39 38 = 1) (hf : cmdOk f = true) (hs : (s.chan c).synced = true)
    (h1 : 1 ≤ distance s c f) (h10 : distance s c f ≤ 10) :
    let n := ((s.chan c).nLast.toNat + distance s c f) % 65536
    Gives (.fdRunFrame c f smp) s (fun t => Alone s t c ∧
      (t.chan c).synced = true ∧ (t.chan c).nLast.toNat = n ∧ (t.chan c).answer.isSome = true ∧ (t.chan c).mode = (s.chan c).mode ∧
      ((t.chan c).swA = true ↔ frBits f 32 27 = token .a n true c ∧ ((s.chan c).swA = true ∨
        (mayClose s c (distance s c f) f ∧ (s.chan c).prevOnA = true ∧ (s.chan c).armA = true))) ∧
      ((t.chan c).swB = true ↔ frBits f 26 21 = token .b n true c ∧ ((s.chan c).swB = true ∨
        (mayClose s c (distance s c f) f ∧ (s.chan c).prevOnB = true ∧ (s.chan c).armB = true))) ∧
      (t.chan c).prevOnA = decide (frBits f 32 27 = token .a n true c) ∧ (t.chan c).prevOnB = decide (frBits f 26 21 = token .b n true c) ∧
      (c % 16 = 0 → cmdTick f = false → cmdSel f = 0x1D → s.groupQuiet (c / 16) = true → (t.die (c / 16)).unitRun = true)) := by
  intro n
  have k := sampled_spec s c f smp
  obtain ⟨t, done, v, sl, cut, a, e, kv, cv, dv⟩ := fdRunFrame_taken (smp := smp) ha ht hf hs h1 h10
  refine ⟨t, done, ?_⟩
  generalize sampled s c f smp = u at *
  have tokens := takeTokens_run (u := u) (c := c) (d := distance s c f) ht (n := n) (by rw [k.nLast])
  rw [k.mayClose] at tokens
  have same : (u.chan c).swA = (s.chan c).swA ∧ (u.chan c).swB = (s.chan c).swB ∧ (u.chan c).prevOnA = (s.chan c).prevOnA ∧
      (u.chan c).prevOnB = (s.chan c).prevOnB ∧ (u.chan c).armA = (s.chan c).armA ∧ (u.chan c).armB = (s.chan c).armB ∧
      (u.chan c).mode = (s.chan c).mode := by rw [k.chan]; exact ⟨rfl, rfl, rfl, rfl, rfl, rfl, rfl⟩
  obtain ⟨swA, swB, prevA, prevB, armA, armB, mode⟩ := same
  rw [swA, swB, prevA, prevB, armA, armB, mode, k.synced, hs] at tokens
  obtain ⟨a1, b1, a2, b2, last, m, sy⟩ := tokens
  have chan : t.chan c = _ := (congrArg (fun x => x.chan c) e).trans (chan_setChan_self _ c _)
  rw [chan]
  refine ⟨⟨?_, fun c' h => ?_⟩, sy, last, rfl, m, a1, b1, a2, b2, fun hc hu hsel hq => ?_⟩
  · rw [e]
    exact (k.frame.trans kv).trans (sameBut_field _ _).mono
  · rw [e, chan_setChan_of_ne _ _ _ h, cv, k.others c' h]
  · rw [e, die_setChan]
    refine dv hu ?_
    rw [State.startsUnit, k.groupQuiet, hq, hsel, hc]
    rfl

/-- A right frame of another counter distance takes a synced channel out of SYNCED, of whichever type it is. -/
theorem dieFrame_leaves {ty : Nat} {take : State → Nat → Nat → State} (ha : (s.die (c / 16)).alive = true) (ht : frBits f 39 38 = ty)
    (hf : cmdOk f = true) (hs : (s.chan c).synced = true) (hd : distance s c f = 0 ∨ 11 ≤ distance s c f) :
    let t := s.dieFrame c ty f smp take
    Alone s t c ∧ (t.chan c).synced = false ∧ ((t.chan c).swA = false ∧ (t.chan c).swB = false) ∧ (t.chan c).answer.isSome = true := by
  intro t
  have e : t = _ := dieFrame_unsync ha ht hf hs hd
  rw [e]
  exact answered_unsync (sampled_spec s c f smp)

/-- A reply leaves the switches, the counter and the mode. -/
theorem reply_eq (x : DieCh) (tick : Nat) (die : DieSt) (fcnt : Nat) (mid was : Bool) (ext : Nat) : x.reply tick die fcnt mid was ext =
    { x with slice := none, cutAt := (x.reply tick die fcnt mid was ext).cutAt, answer := (x.reply tick die fcnt mid was ext).answer } := rfl

theorem reply_answer (x : DieCh) (tick : Nat) (die : DieSt) (fcnt : Nat) (mid was : Bool) (ext : Nat) :
    (x.reply tick die fcnt mid was ext).answer.isSome = true := rfl

theorem fdSyncFrame_accepted (ha : (s.die (c / 16)).alive = true) (ht : frBits f 39 38 = 2) (hf : cmdOk f = true)
    (hs : (s.chan c).synced = false ∨ (1 ≤ distance s c f ∧ distance s c f ≤ 10)) : Gives (.fdSyncFrame c f smp) s (fun t => Alone s t c ∧
      (t.chan c).synced = true ∧ ((t.chan c).swA = false ∧ (t.chan c).swB = false) ∧ (t.chan c).nLast.toNat = frBits f 20 9 * 16 + cmdFcnt f ∧
      (c % 16 = 0 → (t.die (c / 16)).unitRun = false) ∧
      (t.chan c).answer.isSome = true ∧ ((s.chan c).synced = true → (t.chan c).armA = false ∧ (t.chan c).armB = false)) := by
  have k := sampled_spec s c f smp
  refine ⟨_, congrArg Host.Outcome.next (dieFrame_sync ha ht hf hs), ?_⟩
  generalize sampled s c f smp = u at *
  have small : frBits f 20 9 * 16 + cmdFcnt f < 65536 := by
    have h1 : frBits f 20 9 < 2 ^ 12 := Nat.mod_lt _ (by decide)
    have h2 : cmdFcnt f < 2 ^ 4 := Nat.mod_lt _ (by decide)
    omega
  generalize frBits f 20 9 * 16 + cmdFcnt f = n at *
  extract_lets +onlyGivenNames die ch was v taken x y
  have hv : SameBut [.field, .free] u v ∧ (∀ c', v.chan c' = u.chan c') ∧ (c % 16 = 0 → (v.die (c / 16)).unitRun = false) := by
    unfold v
    split
    · exact ⟨(sameBut_field _ _).mono, fun _ => rfl, fun _ => by rw [die_setDie_self]⟩
    · next hc => exact ⟨.refl _ _, fun _ => rfl, fun e => absurd e hc⟩
  obtain ⟨kv, cv, dv⟩ := hv
  have hx : x.swA = false ∧ x.swB = false ∧ x.nLast.toNat = n ∧ x.synced = true := by
    obtain ⟨a, b, l, -⟩ := takeTokens_opens ch die c 0 u.inSlot1 f small
    exact ⟨a, b, l, rfl⟩
  clear_value x
  have hy : y.swA = false ∧ y.swB = false ∧ y.nLast.toNat = n ∧ y.synced = true ∧ (was = true → y.armA = false ∧ y.armB = false) := by
    obtain ⟨a, b, l, sy⟩ := hx
    unfold y
    split
    · exact ⟨a, b, l, sy, fun _ => ⟨rfl, rfl⟩⟩
    · next hw => exact ⟨a, b, l, sy, fun e => absurd e hw⟩
  obtain ⟨a, b, l, sy, arm⟩ := hy
  clear_value y v
  rw [chan_setChan_self]
  refine ⟨⟨?_, fun c' h => ?_⟩, sy, ⟨a, b⟩, l, dv, rfl, fun e => arm (k.synced.trans e)⟩
  · exact (k.frame.trans kv).trans (sameBut_field _ _).mono
  · rw [chan_setChan_of_ne _ _ _ h, cv, k.others c' h]

theorem fdCfgFrame_accepted (ha : (s.die (c / 16)).alive = true) (ht : frBits f 39 38 = 3) (hf : cmdOk f = true) (hs : (s.chan c).synced = true)
    (h1 : 1 ≤ distance s c f) (h10 : distance s c f ≤ 10) : Gives (.fdCfgFrame c f smp) s (fun t => Alone s t c ∧
      (t.chan c).synced = true ∧ ((t.chan c).swA = false ∧ (t.chan c).swB = false) ∧
      (t.chan c).nLast.toNat = ((s.chan c).nLast.toNat + distance s c f) % 65536 ∧ (t.chan c).answer.isSome = true ∧
      (t.chan c).mode = (if frBits f 20 17 = 0 then frBits f 16 11 % 16 else (s.chan c).mode) ∧
      (t.chan c).slew = (if frBits f 20 17 = 1 then frBits f 16 11 / 2 % 2 else (s.chan c).slew) ∧
      (t.chan c).lead = (if frBits f 20 17 = 1 then frBits f 16 11 % 2 else (s.chan c).lead)) := by
  have k := sampled_spec s c f smp
  refine ⟨_, congrArg Host.Outcome.next (dieFrame_accepted ha ht hf hs h1 h10 (by decide)), ?_⟩
  generalize sampled s c f smp = u at *
  have small : ((s.chan c).nLast.toNat + distance s c f) % 65536 < 65536 := Nat.mod_lt _ (by decide)
  generalize ((s.chan c).nLast.toNat + distance s c f) % 65536 = n at small ⊢
  generalize distance s c f = d
  have same : (u.chan c).mode = (s.chan c).mode ∧ (u.chan c).slew = (s.chan c).slew ∧ (u.chan c).lead = (s.chan c).lead := by
    rw [k.chan]
    exact ⟨rfl, rfl, rfl⟩
  obtain ⟨m0, sl0, le0⟩ := same
  extract_lets +onlyGivenNames die was x addr data x' y
  have hx : x'.swA = false ∧ x'.swB = false ∧ x'.nLast.toNat = n ∧ x'.mode = (s.chan c).mode ∧ x'.slew = (s.chan c).slew ∧
      x'.lead = (s.chan c).lead ∧ x'.synced = true := by
    obtain ⟨a, b, l, m, sl, le, sy⟩ := takeTokens_opens was die c d u.inSlot1 f small
    exact ⟨a, b, l, m.trans m0, sl.trans sl0, le.trans le0, sy.trans (k.synced.trans hs)⟩
  clear_value x'
  obtain ⟨a, b, l, m, sl, le, sy⟩ := hx
  have hy : y.swA = false ∧ y.swB = false ∧ y.nLast.toNat = n ∧ y.synced = true ∧ y.mode = (if addr = 0 then data % 16 else (s.chan c).mode) ∧
      y.slew = (if addr = 1 then data / 2 % 2 else (s.chan c).slew) ∧ y.lead = (if addr = 1 then data % 2 else (s.chan c).lead) := by
    unfold y
    by_cases e0 : addr = 0
    · rw [if_pos e0, if_pos e0, if_neg (by omega), if_neg (by omega)]
      exact ⟨a, b, l, sy, rfl, sl, le⟩
    · rw [if_neg e0, if_neg e0]
      by_cases e1 : addr = 1
      · rw [if_pos e1, if_pos e1, if_pos e1]
        exact ⟨a, b, l, sy, m, rfl, rfl⟩
      · rw [if_neg e1, if_neg e1, if_neg e1]
        exact ⟨a, b, l, sy, m, sl, le⟩
  clear_value y
  obtain ⟨a, b, l, sy, m, sl, le⟩ := hy
  rw [chan_setChan_self]
  exact ⟨k.alone _, sy, ⟨a, b⟩, l, rfl, m, sl, le⟩

end Sys2Proof.Die

namespace Sys2Proof.Proofs
open Sys2Proof.Machine Sys2Proof.Safety Sys2Proof.Laws Sys2Proof.Die

/-- Settles O39: a frame is not seen, fails its CRC, leaves SYNCED or is accepted, and then does what its type does. -/
theorem fieldDieTakesFrames : Obligations.FieldDieTakesFrames := by
  unfold Obligations.FieldDieTakesFrames
  intro s c f smp g ch d n opens may alone opened
  refine ⟨fun dead => ⟨?_, ?_, ?_⟩, fun ha ht => ⟨fun hf => ?_, fun hf hs h1 h10 => ?_, fun hf hs hd => ?_⟩, fun ha ht hf => ⟨fun hs => ?_, fun hs hd => ?_⟩,
    fun ha ht hf hs h1 h10 => ?_⟩
  · exact congrArg Host.Outcome.next (dieFrame_dead dead)
  · exact congrArg Host.Outcome.next (dieFrame_dead dead)
  · exact congrArg Host.Outcome.next (dieFrame_dead dead)
  · exact ⟨_, congrArg Host.Outcome.next (dieFrame_bad ha ht hf), dieSilent_gives (sampled_spec s c f smp)⟩
  · exact fdRunFrame_accepted ha ht hf hs h1 h10
  · exact ⟨_, rfl, dieFrame_leaves ha ht hf hs hd⟩
  · exact fdSyncFrame_accepted ha ht hf hs
  · exact ⟨_, rfl, dieFrame_leaves ha ht hf hs hd⟩
  · exact fdCfgFrame_accepted ha ht hf hs h1 h10

end Sys2Proof.Proofs

end

section
/-! PROOFS. Supply and lockouts of a field die. O40. -/

set_option Elab.async false

/-! ### Supply and lockouts of a field die (R64, R69, R70, R81) -/

namespace Sys2Proof.Die
open Sys2Proof.Machine Sys2Proof.Safety Sys2Proof.Laws

variable {s : State} {g c : Nat}

/-! #### A change to every channel of a group -/

theorem chan_foldl_range (s : State) (g : Nat) (f : DieCh → DieCh) (k c : Nat) :
    ((List.range k).foldl (fun s i => s.setChan (16 * g + i) (f (s.chan (16 * g + i)))) s).chan c =
      if 16 * g ≤ c ∧ c < 16 * g + k then f (s.chan c) else s.chan c := by
  induction k with
  | zero => rw [if_neg (by omega)]; rfl
  | succ k ih =>
    rw [List.range_succ, List.foldl_append]
    simp only [List.foldl_cons, List.foldl_nil]
    generalize (List.range k).foldl _ s = u at *
    by_cases h : c = 16 * g + k
    · rw [if_pos (by omega), ← h, chan_setChan_self, ih, if_neg (by omega)]
    · rw [chan_setChan_of_ne _ _ _ h, ih]
      simp only [show (16 * g ≤ c ∧ c < 16 * g + (k + 1)) ↔ (16 * g ≤ c ∧ c < 16 * g + k) by omega]

theorem groupChans_chan (s : State) (g : Nat) (f : DieCh → DieCh) (c : Nat) :
    (s.groupChans g f).chan c = if c / 16 = g then f (s.chan c) else s.chan c := by
  rw [State.groupChans, chan_foldl_range]
  simp only [show (16 * g ≤ c ∧ c < 16 * g + 16) ↔ c / 16 = g by omega]

theorem groupChans_frame (s : State) (g : Nat) (f : DieCh → DieCh) : SameBut [.field] s (s.groupChans g f) ∧ (s.groupChans g f).die = s.die := by
  unfold State.groupChans
  generalize List.range 16 = l
  induction l generalizing s with
  | nil => exact ⟨.refl _ s, rfl⟩
  | cons i l ih =>
    obtain ⟨k, d⟩ := ih (s.setChan (16 * g + i) (f (s.chan (16 * g + i))))
    exact ⟨(sameBut_field _ _).mono.trans k, d⟩

/-- Only the group's channels and its die change. -/
def Group (s t : State) (g : Nat) : Prop :=
  SameBut [.field] s t ∧ (∀ c', c' / 16 ≠ g → t.chan c' = s.chan c') ∧ ∀ g', g' ≠ g → t.die g' = s.die g'

/-- A change to a group's channels, and to its die. -/
theorem group_spec (s : State) (g : Nat) (f : DieCh → DieCh) (d : DieSt) :
    let t := (s.groupChans g f).setDie g d
    Group s t g ∧ t.die g = d ∧ ∀ i < 16, t.chan (16 * g + i) = f (s.chan (16 * g + i)) := by
  obtain ⟨k, hd⟩ := groupChans_frame s g f
  have chans := groupChans_chan s g f
  generalize s.groupChans g f = u at *
  intro t
  refine ⟨⟨k.trans (sameBut_field _ _).mono, fun c' h => ?_, fun g' h => ?_⟩, die_setDie_self _ _ _, fun i hi => ?_⟩
  · exact (chans c').trans (if_neg h)
  · exact (die_setDie_of_ne _ _ _ h).trans (by rw [hd])
  · exact (chans _).trans (if_pos (by omega))

/-- A lockout opens the switches of every channel of the group. -/
theorem group_opened (s : State) (g : Nat) (d : DieSt) :
    let t := (s.groupChans g DieCh.open).setDie g d
    Group s t g ∧ t.die g = d ∧ ∀ i < 16, t.chan (16 * g + i) = { (s.chan (16 * g + i)).open with
      ol := (t.chan (16 * g + i)).ol, ot := (t.chan (16 * g + i)).ot, offRun := (t.chan (16 * g + i)).offRun } := by
  obtain ⟨gr, die, chans⟩ := group_spec s g DieCh.open d
  generalize (s.groupChans g DieCh.open).setDie g d = t at *
  exact ⟨gr, die, fun i hi => by rw [chans i hi]⟩

/-- Only the channel changes. -/
theorem one_spec (s : State) (c : Nat) (x : DieCh) :
    SameBut [.field] s (s.setChan c x) ∧ (∀ c', c' ≠ c → (s.setChan c x).chan c' = s.chan c') ∧ ∀ g', (s.setChan c x).die g' = s.die g' :=
  ⟨sameBut_field _ _, fun _ h => chan_setChan_of_ne s c x h, fun _ => rfl⟩

/-- Every die's trip points are inside the bands of Table 3.9. -/
theorem tripPoint_band (g k lo hi : Nat) (h : lo ≤ hi) : (lo : Int) ≤ tripPoint g k lo hi ∧ tripPoint g k lo hi ≤ (hi : Int) := by
  unfold tripPoint
  have m := Nat.mod_lt (Config.vfTrip g k) (show 0 < hi - lo + 1 by omega)
  generalize Config.vfTrip g k % (hi - lo + 1) = r at *
  omega

end Sys2Proof.Die

namespace Sys2Proof.Proofs
open Sys2Proof.Machine Sys2Proof.Safety Sys2Proof.Laws Sys2Proof.Die

/-- Settles O40: each command is one change to every channel of a group (`group_spec`) or to one channel (`one_spec`). -/
theorem fieldDieSupplyAndLockouts : Obligations.FieldDieSupplyAndLockouts := by
  unfold Obligations.FieldDieSupplyAndLockouts
  intro s g c group one opened fresh
  refine ⟨fun v dead => ?_, ⟨_, rfl, group_spec s g (DieCh.powerUp s.time.tick) {}⟩, fun ha => ⟨?_, ?_⟩, fun uv => ?_, fun ov => ?_,
    fun ha => ⟨?_, ?_, ?_⟩, fun locked => ⟨fun enough => ?_, fun few => ?_⟩⟩
  · refine ⟨_, congrArg Host.Outcome.next (if_neg (by rw [dead]; decide)), ?_⟩
    obtain ⟨gr, die, chans⟩ := group_spec s g (DieCh.powerUp s.time.tick)
      { alive := true, uv := decide ((v : Int) < tripPoint g 1 17700 18300), ov := decide (tripPoint g 2 31500 32500 < (v : Int)) }
    obtain ⟨u1, u2⟩ := tripPoint_band g 1 17700 18300 (by decide)
    obtain ⟨o1, o2⟩ := tripPoint_band g 2 31500 32500 (by decide)
    rw [die]
    refine ⟨gr, rfl, chans, fun h => decide_eq_true ?_, fun h => decide_eq_false ?_, fun h => decide_eq_true ?_, fun h => decide_eq_false ?_⟩ <;> omega
  · exact ⟨_, congrArg Host.Outcome.next (if_pos ha), group_opened s g _⟩
  · exact ⟨_, congrArg Host.Outcome.next (if_pos ha), group_opened s g _⟩
  · exact ⟨_, congrArg Host.Outcome.next (if_pos uv), group_spec s g DieCh.rearm _⟩
  · exact ⟨_, congrArg Host.Outcome.next (if_pos ov), group_spec s g DieCh.rearm _⟩
  · exact ⟨_, congrArg Host.Outcome.next (if_pos ha), one_spec s c _, by rw [chan_setChan_self]; rfl, by rw [chan_setChan_self]; rfl,
      by rw [chan_setChan_self]; rfl, by rw [chan_setChan_self]; rfl⟩
  · exact ⟨_, congrArg Host.Outcome.next (if_pos ha), one_spec s c _, by show State.chan _ c = _; rw [chan_setChan_self], by rw [chan_setChan_self], by rw [chan_setChan_self]; rfl,
      by rw [chan_setChan_self]⟩
  · exact ⟨_, congrArg Host.Outcome.next (if_pos ha), one_spec s c _, by show State.chan _ c = _; rw [chan_setChan_self], by rw [chan_setChan_self], by rw [chan_setChan_self]; rfl,
      by rw [chan_setChan_self]⟩
  · exact ⟨_, congrArg Host.Outcome.next (if_pos ⟨by simpa using locked, enough⟩), one_spec s c _, chan_setChan_self _ _ _⟩
  · exact congrArg Host.Outcome.next (if_neg (by omega))

end Sys2Proof.Proofs

end

section
/-! PROOFS. The holders of live instances through the steps of an occurrence. -/

set_option Elab.async false

/-! ### Who holds an instance live, through the occurrences of others -/

namespace Sys2Proof.Occurrence
open Sys2Proof.Machine Sys2Proof.Safety Sys2Proof.Laws

variable {s0 s t u : State}

/-- The holders of the live instances of one source. -/
def heldBy (s : State) (b i n : Nat) : List Nat :=
  (s.faults.live.filter (fun l => l.block == b && l.index == i && l.inst == n)).map (·.holders)

theorem isLive_eq (s : State) (b i n : Nat) : s.isLive b i n = !(heldBy s b i n).isEmpty := by
  unfold State.isLive heldBy
  rw [List.isEmpty_map]
  induction s.faults.live with
  | nil => rfl
  | cons l ls ih =>
    rw [List.any_cons, List.filter_cons, ih]
    cases h : (l.block == b && l.index == i && l.inst == n) <;> rfl

theorem holds_eq (s : State) (b i n who : Nat) : s.holds b i n who = (heldBy s b i n).any (fun h => h &&& who != 0) := by
  unfold State.holds heldBy
  rw [List.any_map, List.any_filter]
  rfl

/-- No instance changes its holders, none comes and none goes. -/
structure Held (s t : State) : Prop where
  eq : ∀ b i n, heldBy t b i n = heldBy s b i n

theorem Held.refl (s : State) : Held s s := ⟨fun _ _ _ => rfl⟩

theorem Held.trans (h : Held s t) (k : Held t u) : Held s u := ⟨fun b i n => (k.eq b i n).trans (h.eq b i n)⟩

theorem Held.ite {c : Prop} [Decidable c] (h : Held s t) (k : Held s u) : Held s (if c then t else u) := by
  split
  · exact h
  · exact k

theorem Held.of_live (h : t.faults.live = s.faults.live) : Held s t := ⟨fun b i n => by rw [heldBy, h]; rfl⟩

theorem Held.of_sameBut {xs : List Part} (k : SameBut xs s t) (h : Part.faults ∉ xs := by decide) : Held s t :=
  .of_live (congrArg FaultSt.live (k .faults h))

theorem Held.foldl {α : Type} {f : State → α → State} (hf : ∀ s a, Held s (f s a)) (l : List α) (s : State) : Held s (l.foldl f s) :=
  List.foldlRecOn (motive := Held s) l f (.refl s) fun t ht a _ => ht.trans (hf t a)

/-- A change to the records of the instances alone. -/
theorem Held.of_map {f : LiveInst → LiveInst} (hf : ∀ l, (f l).block = l.block ∧ (f l).index = l.index ∧ (f l).inst = l.inst ∧ (f l).holders = l.holders)
    (h : t.faults.live = s.faults.live.map f) : Held s t := by
  refine ⟨fun b i n => ?_⟩
  unfold heldBy
  rw [h, List.filter_map, List.map_map]
  congr 1
  · funext l
    exact (hf l).2.2.2
  · congr 1
    funext l
    obtain ⟨h1, h2, h3, -⟩ := hf l
    show ((f l).block == b && (f l).index == i && (f l).inst == n) = _
    rw [h1, h2, h3]

/-! #### Oxbow -/

theorem closeRecord_held (s : State) (o : OpenRec) (fl : Nat) : Held s (s.closeRecord o fl) := by
  unfold State.closeRecord
  split
  · exact .ite (.refl s) (.of_live rfl)
  · extract_lets code mine n r done key oxb faults s1 n1
    have h1 : s1.faults.live = s.faults.live.map (fun l => if mine l then { l with inRec := none } else l) := rfl
    clear_value s1 n1
    have h2 : Held s s1 := .of_map (fun l => by split <;> exact ⟨rfl, rfl, rfl, rfl⟩) h1
    exact .ite (h2.trans (.of_live rfl)) h2

theorem closeAll_held (s : State) (fl : Nat) : Held s (s.closeAll fl) := .foldl (fun _ _ => closeRecord_held _ _ _) _ _

theorem closeDue_held (s : State) (code inst : Nat) : Held s (s.closeDue code inst) := by
  unfold State.closeDue
  split
  · exact .refl s
  · exact .ite (closeRecord_held _ _ _) (.refl s)

theorem oxbCount_held (s : State) (code inst sev : Nat) (injected : Bool) : Held s (s.oxbCount code inst sev injected).1 := by
  have way : Held s (s.makeWay code inst) := .ite ((closeDue_held _ _ _).trans (closeDue_held _ _ _)) (closeDue_held _ _ _)
  exact way.trans (.of_live rfl)

theorem flushTrigger_held (s : State) (k : FlushKind) : Held s (s.flushTrigger k) := by
  unfold State.flushTrigger
  extract_lets oxb v
  have h : Held s v := .of_live rfl
  clear_value v
  split
  · exact h.trans (.of_live rfl)
  · exact .ite ((h.trans (closeAll_held _ _)).trans (.of_live rfl)) (h.trans (.of_live rfl))

theorem flushForFault_held (s : State) : Held s s.flushForFault := by
  unfold State.flushForFault
  split
  · exact .ite (.of_live rfl) (flushTrigger_held _ _)
  · exact flushTrigger_held _ _

theorem passToOxbow_held (s : State) (b i inst sev : Nat) (injected : Bool) : Held s (s.passToOxbow b i inst sev injected).1 := by
  unfold State.passToOxbow
  split
  · exact .of_live rfl
  split
  · split
    · exact .of_live rfl
    · exact .of_live rfl
  · exact oxbCount_held _ _ _ _ _

/-! #### Reactions and severities -/

theorem react_held (s : State) (b i inst sev reacts : Nat) : Held s (s.react b i inst sev reacts) := by
  unfold State.react
  extract_lets +onlyGivenNames f s1 h s2
  have h1 : Held s s1 := .ite (.of_live rfl) (.refl s)
  have h2 : Held s s2 := .ite (h1.trans (.of_live rfl)) h1
  exact .ite h2 (.ite (h2.trans (.of_live rfl)) (.ite (h2.trans (.of_live rfl)) h2))

theorem enter_held (s : State) (st : DevState) (reason : Nat) : Held s (s.enter st reason) := .of_live (by rw [enter_frame])

theorem latchNow_held (s : State) : Held s s.latchNow :=
  .ite (.trans (t := State.flushTrigger { s with pwr := { s.pwr with latch := true } } .full)
    (.trans (t := { s with pwr := { s.pwr with latch := true } }) (.of_live rfl) (flushTrigger_held _ _)) (enter_held _ _ _)) (.refl s)

theorem safeNow_held (s : State) (reason : Nat) : Held s (s.safeNow reason) :=
  .ite (.trans (t := { s with dev := { s.dev with safeLine := true, s3InSafe := true } }) (.of_live rfl) (enter_held _ _ _)) (.of_live rfl)

theorem severityEffect_held (s : State) (b i inst sev : Nat) : Held s (s.severityEffect b i inst sev) := by
  unfold State.severityEffect
  extract_lets +onlyGivenNames f s1 s2 s3
  have h1 : Held s s1 := by
    unfold s1
    split
    · exact .ite (.of_live rfl) (.refl s)
    · exact .refl s
  have h2 : Held s s2 := .ite (h1.trans (.of_sameBut (touchLines_sameBut _ _))) (.ite (h1.trans (.of_sameBut (touchLines_sameBut _ _))) h1)
  have h3 : Held s s3 := .ite (h2.trans (flushForFault_held _)) h2
  exact .ite (h3.trans (latchNow_held _)) (.ite (h3.trans (safeNow_held _ _)) h3)

theorem crst_held (s : State) : Held s s.crst :=
  .trans (t := { s with dev := { s.dev with safeLine := true, crstPending := true } }) (.of_live rfl)
    ((Held.of_sameBut (touchLines_sameBut _ _)).trans (flushTrigger_held _ _))

end Sys2Proof.Occurrence

end

section
/-! PROOFS. What other sources and the field keep while a source occurs or ends. -/

set_option Elab.async false

namespace Sys2Proof.Occurrence
open Sys2Proof.Machine Sys2Proof.Safety Sys2Proof.Laws

variable {s0 s t u : State} {P : Nat → Nat → Nat → Prop}

/-- A view without what the restart of its coupler clears. -/
def shown (v : View) : View := { v with rb0 := false, rb1 := false, ready := false, taken := false }

/-- What the sources named by `P` and the views of the field keep while other sources occur and end. -/
structure Aside (P : Nat → Nat → Nat → Prop) (s t : State) : Prop where
  held : ∀ b i n, P b i n → heldBy t b i n = heldBy s b i n
  view : ∀ sd c, shown (t.view sd c) = shown (s.view sd c)
  coupler : ∀ c, t.coupler c = { s.coupler c with goto := (t.coupler c).goto }
  field : t.field = { s.field with couplers := t.field.couplers, views := t.field.views }
  time : t.time = { s.time with tau0 := t.time.tau0 }
  pairs : t.pairs = { s.pairs with pairs := t.pairs.pairs }
  cfg : t.cfg = { s.cfg with admission := t.cfg.admission }
  params : t.params = s.params
  pwr : t.pwr = { s.pwr with latch := t.pwr.latch, late := t.pwr.late }

theorem Aside.refl (s : State) : Aside P s s := ⟨fun _ _ _ _ => rfl, fun _ _ => rfl, fun _ => rfl, rfl, rfl, rfl, rfl, rfl, rfl⟩

theorem Aside.trans (h : Aside P s t) (k : Aside P t u) : Aside P s u where
  held b i n hp := (k.held b i n hp).trans (h.held b i n hp)
  view sd c := (k.view sd c).trans (h.view sd c)
  coupler c := (k.coupler c).trans (by rw [h.coupler])
  field := k.field.trans (by rw [h.field])
  time := k.time.trans (by rw [h.time])
  pairs := k.pairs.trans (by rw [h.pairs])
  cfg := k.cfg.trans (by rw [h.cfg])
  params := k.params.trans h.params
  pwr := k.pwr.trans (by rw [h.pwr])

theorem Aside.ite {c : Prop} [Decidable c] (h : Aside P s t) (k : Aside P s u) : Aside P s (if c then t else u) := by
  split
  · exact h
  · exact k

theorem Aside.foldl {α : Type} {f : State → α → State} (hf : ∀ s a, Aside P s (f s a)) (l : List α) (s : State) : Aside P s (l.foldl f s) :=
  List.foldlRecOn (motive := Aside P s) l f (.refl s) fun t ht a _ => ht.trans (hf t a)

theorem view_congr (h : t.field.views = s.field.views) (sd : Side) (c : Nat) : t.view sd c = s.view sd c := by
  unfold State.view
  rw [h]

theorem coupler_congr (h : t.field.couplers = s.field.couplers) (c : Nat) : t.coupler c = s.coupler c := by
  unfold State.coupler
  rw [h]

theorem Aside.of_calm (c : Calm s t) (k : ∀ b i n, P b i n → heldBy t b i n = heldBy s b i n) : Aside P s t where
  held := k
  view sd n := by rw [view_congr (congrArg FieldSt.views c.field)]
  coupler n := by rw [coupler_congr (congrArg FieldSt.couplers c.field)]
  field := by rw [c.field]
  time := c.time
  pairs := by rw [c.pairs]
  cfg := c.cfg
  params := c.params
  pwr := c.pwr

theorem Aside.of_calm_held (c : Calm s t) (k : Held s t) : Aside P s t := .of_calm c fun b i n _ => k.eq b i n

/-- A change to other parts. -/
theorem Aside.of_sameBut {xs : List Part} (k : SameBut xs s t) (h : ∀ p ∈ xs, p ∉ [Part.faults, .field, .time, .pairs, .cfg, .params, .pwr] := by decide) :
    Aside P s t := by
  have same : ∀ p ∈ [Part.faults, .field, .time, .pairs, .cfg, .params, .pwr], p.same s t := fun p hp => k p fun hx => h p hx hp
  have faults : t.faults = s.faults := same .faults (by decide)
  have field : t.field = s.field := same .field (by decide)
  have time : t.time = s.time := same .time (by decide)
  have pairs : t.pairs = s.pairs := same .pairs (by decide)
  have cfg : t.cfg = s.cfg := same .cfg (by decide)
  have params : t.params = s.params := same .params (by decide)
  have pwr : t.pwr = s.pwr := same .pwr (by decide)
  refine ⟨fun b i n _ => by rw [heldBy, faults]; rfl, fun sd n => by rw [view_congr (congrArg _ field)],
    fun n => by rw [coupler_congr (congrArg _ field)], by rw [field], by rw [time], by rw [pairs], by rw [cfg], params, by rw [pwr]⟩

/-! #### Block resets -/

theorem restartCoupler_view (s : State) (c k : Nat) (sd : Side) (n : Nat) : shown ((s.restartCoupler c k).view sd n) = shown (s.view sd n) := by
  unfold State.restartCoupler
  extract_lets +onlyGivenNames off src v
  have hv : ∀ sd n, v.view sd n = s.view sd n := fun _ _ => rfl
  clear_value v
  by_cases h : n = c
  · subst h
    cases sd
    · rw [view_setView_of_ne _ _ _ _ (by simp), view_setView_self, ← hv]
      rfl
    · rw [view_setView_self, ← hv]
      rfl
  · rw [view_setView_of_ne _ _ _ _ (by simp [h]), view_setView_of_ne _ _ _ _ (by simp [h]), hv]

theorem restartCoupler_coupler (s : State) (c k n : Nat) :
    (s.restartCoupler c k).coupler n = { s.coupler n with goto := ((s.restartCoupler c k).coupler n).goto } := by
  have e : (s.restartCoupler c k).coupler n = (s.setCoupler c { s.coupler c with goto := some k }).coupler n := rfl
  rw [e, coupler_setCoupler]
  by_cases h : n = c
  · rw [if_pos h, h]
  · rw [if_neg h]

theorem restartCoupler_aside (s : State) (c k : Nat) : Aside P s (s.restartCoupler c k) :=
  ⟨fun _ _ _ _ => rfl, restartCoupler_view s c k, restartCoupler_coupler s c k, rfl, rfl, rfl, rfl, rfl, rfl⟩

theorem groupRestart_aside (s : State) (g : Nat) : Aside P s (s.groupRestart g) := .foldl (fun _ _ => .ite (.refl _) (restartCoupler_aside _ _ _)) _ _

theorem setPair_aside (s : State) (p : Nat) (x : PairSt) : Aside P s (s.setPair p x) :=
  ⟨fun _ _ _ _ => rfl, fun _ _ => rfl, fun _ => rfl, rfl, rfl, rfl, rfl, rfl, rfl⟩

theorem withFaults_aside (s : State) (f : FaultSt) (h : f.live = s.faults.live) : Aside P s { s with faults := f } :=
  ⟨fun b i n _ => (Held.of_live (s := s) (t := { s with faults := f }) h).eq b i n, fun _ _ => rfl, fun _ => rfl, rfl, rfl, rfl, rfl, rfl, rfl⟩

/-! #### An occurrence -/

/-- An instance that occurs again. -/
def extended (tick : Nat) (cond : Bool) (who : Nat) (l : LiveInst) : LiveInst := { l with last := tick, holders := if cond then l.holders ||| who else 0 }

/-- An instance that one of its detectors no longer sees. -/
def reheld (h : Nat) (l : LiveInst) : LiveInst := { l with holders := h }

/-- Another source's instances, where those of one change. -/
theorem heldBy_other {b i n b' i' n' : Nat} (h : ¬ (b' = b ∧ i' = i ∧ n' = n)) {l : LiveInst} (hl : l.block = b ∧ l.index = i ∧ l.inst = n) :
    (l.block == b' && l.index == i' && l.inst == n') = false := by
  obtain ⟨h1, h2, h3⟩ := hl
  rw [Bool.eq_false_iff]
  intro e
  simp only [Bool.and_eq_true, beq_iff_eq] at e
  exact h ⟨by omega, by omega, by omega⟩

theorem heldBy_extend {b i n : Nat} {g : LiveInst → LiveInst} (hg : ∀ l, (g l).block = l.block ∧ (g l).index = l.index ∧ (g l).inst = l.inst)
    (ht : t.faults.live = s.faults.live.map (fun l => if l.block = b ∧ l.index = i ∧ l.inst = n then g l else l)) {b' i' n' : Nat}
    (h : ¬ (b' = b ∧ i' = i ∧ n' = n)) : heldBy t b' i' n' = heldBy s b' i' n' := by
  unfold heldBy
  rw [ht]
  induction s.faults.live with
  | nil => rfl
  | cons l ls ih =>
    rw [List.map_cons, List.filter_cons, List.filter_cons (xs := ls)]
    by_cases hl : l.block = b ∧ l.index = i ∧ l.inst = n
    · obtain ⟨g1, g2, g3⟩ := hg l
      rw [if_pos hl, heldBy_other h (l := g l) (by rw [g1, g2, g3]; exact hl), heldBy_other h hl]
      exact ih
    · rw [if_neg hl]
      split
      · rw [List.map_cons, List.map_cons, ih]
      · exact ih

theorem heldBy_without {b i n : Nat} (ls : List LiveInst) {b' i' n' : Nat} (h : ¬ (b' = b ∧ i' = i ∧ n' = n)) :
    (ls.filter (fun l => !(l.block == b && l.index == i && l.inst == n))).filter (fun l => l.block == b' && l.index == i' && l.inst == n') =
      ls.filter (fun l => l.block == b' && l.index == i' && l.inst == n') := by
  rw [List.filter_filter]
  refine List.filter_congr fun l _ => ?_
  by_cases hl : l.block = b ∧ l.index = i ∧ l.inst = n
  · rw [heldBy_other h hl, Bool.false_and]
  · have : (l.block == b && l.index == i && l.inst == n) = false := by
      rw [Bool.eq_false_iff]
      simpa [and_assoc] using hl
    rw [this, Bool.not_false, Bool.and_true]

theorem takeReactions_aside {brst : State → Nat → State} (s : State) {b : Nat} (hb : ∀ s, brstAvailable b = true → Aside P s (brst s b))
    (i inst sev reacts : Nat) : Aside P s (s.takeReactions brst b i inst sev reacts) := by
  unfold State.takeReactions
  extract_lets s1 s2 s3
  have h2 : Aside P s s2 := .of_calm_held (.trans (react_calm ..) (severityEffect_calm ..)) ((react_held ..).trans (severityEffect_held ..))
  have h3 : Aside P s s3 := by
    unfold s3
    split
    · next h => exact h2.trans (hb _ (by simp_all))
    · exact h2
  exact .ite (h3.trans (.of_calm_held (crst_calm _) (crst_held _))) h3

theorem raiseWith_aside {brst : State → Nat → State} (s : State) {b : Nat} (hb : ∀ s, brstAvailable b = true → Aside P s (brst s b))
    {i inst : Nat} (who : Nat) (hp : ¬ P b i inst) : Aside P s (s.raiseWith brst b i inst who) := by
  have other : ∀ {b' i' n'}, P b' i' n' → ¬ (b' = b ∧ i' = i ∧ n' = inst) := fun h e => hp (by rw [e.1, e.2.1, e.2.2] at h; exact h)
  unfold State.raiseWith
  split
  · exact .refl s
  next src _ =>
  extract_lets mine
  refine .ite (.refl s) (.ite ?_ ?_)
  · refine .of_calm (extend_calm ..) fun b' i' n' h => ?_
    unfold State.extend
    extract_lets s1
    have h1 : Held s s1 := .ite (.refl s) (passToOxbow_held ..)
    clear_value s1
    have e := h1.eq b' i' n'
    rw [← e]
    exact heldBy_extend (s := s1) (g := extended s1.time.tick src.cond who) (fun l => ⟨rfl, rfl, rfl⟩) rfl (other h)
  · generalize s.effective b i inst = x
    obtain ⟨sev, reacts⟩ := x
    dsimp only
    have h2 := passToOxbow_calm s b i inst sev false
    have k2 := passToOxbow_held s b i inst sev false
    generalize s.passToOxbow b i inst sev false = y at h2 k2 ⊢
    obtain ⟨v, r⟩ := y
    have after : ∀ u : State, Calm v u → u.faults.live = v.faults.live.filter (fun l => !mine l) ++ [newInstance v src b i inst who sev reacts r] →
        Aside P s (u.takeReactions brst b i inst sev reacts) := by
      intro u hc hl
      refine .trans (.of_calm (h2.trans hc) fun b' i' n' h => ?_) (takeReactions_aside u hb ..)
      rw [← k2.eq]
      unfold heldBy
      rw [hl, List.filter_append, heldBy_without _ (other h), List.filter_cons, heldBy_other (other h) (by exact ⟨rfl, rfl, rfl⟩)]
      simp
    exact after _ (.trans {} {}) rfl

/-! #### Block resets -/

variable (hR : ∀ i n, ¬ P bRIF i n)
include hR

theorem abortSlice_aside (s : State) : Aside P s s.abortSlice := by
  unfold State.abortSlice
  split
  · exact .refl s
  next r _ =>
  refine .ite (.refl s) ?_
  extract_lets +onlyGivenNames n f s1 w s2 v s3
  have h3 : SameBut [.rif] s s3 := by
    have h2 : SameBut [.rif] s s2 := (sameBut_rif _ _).trans (sameBut_rif _ _)
    unfold s3
    split
    · exact .ite (h2.trans (sameBut_rif _ _)) h2
    · exact h2
  exact (Aside.of_sameBut h3).trans (raiseWith_aside _ (fun _ _ => .refl _) _ (hR _ _))

theorem abortUnitSlice_aside (s : State) (g : Nat) : Aside P s (s.abortUnitSlice g) := by
  unfold State.abortUnitSlice
  extract_lets +onlyGivenNames n f s1 w s2 v s3
  have h3 : SameBut [.rif, .host] s s3 := by
    have h2 : SameBut [.rif, .host] s s2 := (sameBut_rif _ _).mono.trans (sameBut_rif _ _).mono
    unfold s3
    split
    · refine .ite (h2.trans ?_) h2
      rw [answer_eq]
      exact .trans (t := { s2 with rif := { s2.rif with selfTest := none } }) (sameBut_rif s2 _).mono (sameBut_host _ _).mono
    · exact h2
  exact ((Aside.of_sameBut h3).trans (groupRestart_aside _ _)).trans (raiseWith_aside _ (fun _ _ => .refl _) _ (hR _ _))

theorem brst_aside (s : State) (b : Nat) : Aside P s (s.brst b) := by
  unfold State.brst
  refine .ite (.refl s) (.ite ?_ (.ite ?_ (.ite ?_ (.ite ?_ (.ite ?_ (.ite ?_ (.refl s)))))))
  · exact .ite (.refl s) ((setPair_aside ..).trans (setPair_aside ..))
  · exact (Aside.of_sameBut (weirReset_sameBut s)).trans (withFaults_aside _ _ rfl)
  · exact .of_sameBut (sameBut_host s _)
  · exact .of_calm_held (flushTrigger_calm ..) (flushTrigger_held ..)
  · exact (abortSlice_aside hR s).trans (.foldl (fun _ _ => abortUnitSlice_aside hR ..) ..)
  · have h : Aside P s (s.groupRestart (b - 0x10)) := groupRestart_aside ..
    generalize s.groupRestart (b - 0x10) = u at h ⊢
    have lines : ∀ (v : State) (ns : List Nat), Aside P v (v.touchLines ns) := fun v ns => .of_sameBut (touchLines_sameBut v ns)
    exact (h.trans (withFaults_aside u { u.faults with brst := u.faults.brst.put b u.time.tick } rfl)).trans (lines _ _)

theorem raise_aside (s : State) {b i inst : Nat} (who : Nat) (hp : ¬ P b i inst) : Aside P s (s.raise b i inst who) :=
  raiseWith_aside s (fun s _ => brst_aside hR s b) who hp

theorem event_aside (s : State) {b i inst : Nat} (hp : ¬ P b i inst) : Aside P s (s.event b i inst) := raise_aside hR s 0 hp

omit hR in
theorem clear_aside (s : State) {b i inst : Nat} (who : Nat) (hp : ¬ P b i inst) : Aside P s (s.clear b i inst who) := by
  have other : ∀ {b' i' n'}, P b' i' n' → ¬ (b' = b ∧ i' = i ∧ n' = inst) := fun h e => hp (by rw [e.1, e.2.1, e.2.2] at h; exact h)
  refine .of_calm (clear_calm ..) fun b' i' n' h => ?_
  unfold State.clear
  split
  · rfl
  next l found =>
  extract_lets h0
  split
  · have key := List.find?_some found
    simp only [Bool.and_eq_true, beq_iff_eq] at key
    obtain ⟨⟨k1, k2⟩, k3⟩ := key
    have e : (s.fall l).faults.live = s.faults.live.filter (fun x => !(x.block == l.block && x.index == l.index && x.inst == l.inst)) := by
      show (s.oxbBin l).faults.live.filter _ = _
      rw [show (s.oxbBin l).faults = s.faults from Proofs.oxbBin_sameBut s l .faults (by decide)]
    unfold heldBy
    rw [e, k1, k2, k3, heldBy_without _ (other h)]
  · exact heldBy_extend (s := s) (g := reheld h0) (fun l => ⟨rfl, rfl, rfl⟩) rfl (other h)

theorem condition_aside (s : State) {b i inst : Nat} (who : Nat) (on : Bool) (hp : ¬ P b i inst) : Aside P s (s.condition b i inst who on) :=
  .ite (raise_aside hR s who hp) (clear_aside s who hp)

end Sys2Proof.Occurrence

end

section
/-! PROOFS. What a Riffle verdict leaves of the field. -/

set_option Elab.async false

/-! ### The steps of a status frame (R83) -/

namespace Sys2Proof.Status
open Sys2Proof.Machine Sys2Proof.Safety Sys2Proof.Laws Sys2Proof.Occurrence

variable {s t u : State} {P : Nat → Nat → Nat → Prop} {sd : Side} {c : Nat}

/-! #### Riffle's part in a slot 2 answer -/

section Slices

variable (hR : ∀ i n, ¬ P bRIF i n)
include hR

theorem finishSelfTest_aside (s : State) : Aside P s s.finishSelfTest := by
  unfold State.finishSelfTest
  split
  · exact .refl s
  next x _ =>
  extract_lets +onlyGivenNames f s1 s2
  have h2 : Aside P s s2 := by
    unfold s2
    rw [answer_eq]
    exact .of_sameBut (.trans (t := s1) (sameBut_rif s _).mono (sameBut_host s1 _).mono : SameBut [.rif, .host] s _)
  exact .ite (h2.trans ((Aside.of_sameBut (sameBut_rif _ _)).trans (clear_aside _ _ (hR _ _)))) h2

theorem selfTestStep_aside (s : State) (x : SelfTest) (sel : Nat) : Aside P s (s.selfTestStep x sel) := by
  unfold State.selfTestStep
  extract_lets +onlyGivenNames left f s1
  have h1 : Aside P s s1 := .of_sameBut (sameBut_rif _ _)
  exact .ite (h1.trans (finishSelfTest_aside hR _)) h1

omit hR in
theorem unitResult_aside (s : State) (n res : Nat) : Aside P s (s.unitResult n res) := .of_sameBut (sameBut_rif _ _)

omit hR in
theorem setCov_aside (s : State) (n : Nat) (v : Coverage) : Aside P s (s.setCov n v) := .of_sameBut (sameBut_rif _ _)

theorem coverPass_aside (s : State) (n sel v : Nat) : Aside P s (s.coverPass n sel v) := by
  unfold State.coverPass
  extract_lets +onlyGivenNames mode k k1 done s1
  exact .ite (((setCov_aside ..).trans (clear_aside _ _ (hR _ _))).trans (clear_aside _ _ (hR _ _))) (setCov_aside ..)

theorem markUnusable_aside (s : State) (n : Nat) : Aside P s (s.markUnusable n) :=
  (Aside.of_sameBut (sameBut_rif _ _)).trans (raise_aside hR _ _ (hR _ _))

theorem judgeSlice_aside (s : State) : Aside P s s.judgeSlice := by
  unfold State.judgeSlice
  split
  · exact .refl s
  next r _ =>
  extract_lets +onlyGivenNames n stopped aborted got want pass coverage f s1 asked k
  have h1 : Aside P s s1 := .of_sameBut (sameBut_rif _ _)
  refine h1.trans ?_
  clear_value s1 asked k
  have asks : ∀ (v : State) (g : SelfTest → SelfTest), Aside P s1 v → Aside P s1 (match asked with
      | some t => v.selfTestStep (g t) r.sel
      | none => v) := by
    intro v g h
    split
    · exact h.trans (selfTestStep_aside hR _ _ _)
    · exact h
  refine .ite ?_ (.ite ?_ ?_)
  · extract_lets s2
    have h2 : Aside P s1 s2 := .ite (.refl s1) ((unitResult_aside ..).trans (event_aside hR _ (hR _ _)))
    exact asks s2 _ h2
  · extract_lets +onlyGivenNames s2 s3 s4 f s5
    have h3 : Aside P s1 s3 := (unitResult_aside ..).trans (setCov_aside ..)
    have h4 : Aside P s1 s4 := .ite (h3.trans (coverPass_aside hR _ _ _ _)) h3
    have h5 : Aside P s1 s5 := by
      unfold s5
      split
      · exact .ite h4 (.ite (h4.trans (.of_sameBut (sameBut_rif _ _))) (.ite (h4.trans (.of_sameBut (sameBut_rif _ _))) h4))
      · exact h4
    exact asks s5 _ h5
  · extract_lets +onlyGivenNames s2
    have h2 : Aside P s1 s2 := unitResult_aside ..
    refine .ite ?_ ?_
    · exact asks _ _ ((h2.trans (setCov_aside ..)).trans (markUnusable_aside hR _ _))
    · extract_lets +onlyGivenNames s3
      have h3 : Aside P s1 s3 := h2.trans (setCov_aside ..)
      split
      · exact h3.trans (.of_sameBut (sameBut_rif _ _))
      · exact h3

theorem sliceFrame_aside (s : State) (c icode : Nat) (mid noData : Bool) : Aside P s (s.sliceFrame c icode mid noData) := by
  unfold State.sliceFrame
  split
  · exact .refl s
  extract_lets +onlyGivenNames i
  refine .ite (.refl s) ?_
  extract_lets +onlyGivenNames x f v
  have h : Aside P s v := .of_sameBut (sameBut_rif s _)
  exact .ite (h.trans (judgeSlice_aside hR v)) h

end Slices

end Sys2Proof.Status

end

section
/-! PROOFS. The steps that a status frame takes in the channel's view. -/

set_option Elab.async false

namespace Sys2Proof.Status
open Sys2Proof.Machine Sys2Proof.Safety Sys2Proof.Laws Sys2Proof.Occurrence

variable {s t u : State} {P : Nat → Nat → Nat → Prop} {sd : Side} {c : Nat}

/-! #### What a view says of its die -/

/-- The part of a view that a status frame sets. -/
def facts (v : View) : Option Nat × Nat × Nat × Nat × Bool × Bool × Bool × Bool × Bool × Bool × Nat :=
  (v.heard, v.slot, v.frameAge, v.state, v.swa, v.swb, v.ol, v.ot, v.uv, v.ov, v.cls)

theorem facts_shown (v : View) : facts (shown v) = facts v := rfl

theorem pairPart_shown (v : View) : (shown v).pairPart = v.pairPart := rfl

/-- A step that tells the channel nothing new of its die, and leaves the sources named by `P`. -/
structure Told (P : Nat → Nat → Nat → Prop) (sd : Side) (c : Nat) (s t : State) : Prop where
  held : ∀ b i n, P b i n → heldBy t b i n = heldBy s b i n
  facts : facts (t.view sd c) = facts (s.view sd c)
  pairViews : t.field.pairViews = s.field.pairViews
  slotNo : t.time.slotNo = s.time.slotNo
  stbFor : t.pairs.stbFor = s.pairs.stbFor

theorem Told.refl (s : State) : Told P sd c s s := ⟨fun _ _ _ _ => rfl, rfl, rfl, rfl, rfl⟩

theorem Told.trans (h : Told P sd c s t) (k : Told P sd c t u) : Told P sd c s u :=
  ⟨fun b i n hp => (k.held b i n hp).trans (h.held b i n hp), k.facts.trans h.facts, k.pairViews.trans h.pairViews, k.slotNo.trans h.slotNo,
    k.stbFor.trans h.stbFor⟩

theorem Told.ite {p : Prop} [Decidable p] (h : Told P sd c s t) (k : Told P sd c s u) : Told P sd c s (if p then t else u) := by
  split
  · exact h
  · exact k

theorem Told.of_aside (h : Aside P s t) : Told P sd c s t where
  held := h.held
  facts := (congrArg Status.facts (h.view sd c) :)
  pairViews := (congrArg FieldSt.pairViews h.field :)
  slotNo := (congrArg TimeSt.slotNo h.time :)
  stbFor := (congrArg PairsSt.stbFor h.pairs :)

theorem setView_told (s : State) {v : View} (h : Status.facts v = Status.facts (s.view sd c)) : Told P sd c s (s.setView sd c v) :=
  ⟨fun _ _ _ _ => rfl, by rw [view_setView_self, h], rfl, rfl, rfl⟩

theorem setGview_told (s : State) (sd' : Side) (g : Nat) (v : GroupView) : Told P sd c s (s.setGview sd' g v) :=
  ⟨fun _ _ _ _ => rfl, rfl, rfl, rfl, rfl⟩

/-! #### The checks of a frame -/

/-- The sources of the die's own bits in a status frame (Table 3.17), and FRAME_BAD. -/
def dieBits : List Nat := [8, 9, 11, 13, 16, 17]

section Checks

variable (hP : ∀ b i n, P b i n → b ≠ bRIF ∧ 6 < b ∧ i ∈ dieBits)
include hP

theorem noRif : ∀ i n, ¬ P bRIF i n := fun i n h => (hP _ i n h).1 rfl

theorem noBit {b i n : Nat} (h : i ∉ dieBits) : ¬ P b i n := fun k => h (hP b i n k).2.2

theorem raise_told (s : State) {b i n : Nat} (who : Nat) (h : i ∉ dieBits) : Told P sd c s (s.raise b i n who) :=
  .of_aside (raise_aside (noRif hP) s who (noBit hP h))

theorem clear_told (s : State) {b i n : Nat} (who : Nat) (h : i ∉ dieBits) : Told P sd c s (s.clear b i n who) :=
  .of_aside (clear_aside s who (noBit hP h))

theorem condition_told (s : State) {b i n : Nat} (who : Nat) (on : Bool) (h : i ∉ dieBits) : Told P sd c s (s.condition b i n who on) :=
  .ite (raise_told hP s who h) (clear_told hP s who h)

theorem viewClear_told (s : State) {v : View} (hv : Status.facts v = Status.facts (s.view sd c)) {b i n : Nat} (who : Nat) (h : i ∉ dieBits) :
    Told P sd c s ((s.setView sd c v).clear b i n who) := (setView_told s hv).trans (clear_told hP _ who h)

theorem viewRaise_told (s : State) {v : View} (hv : Status.facts v = Status.facts (s.view sd c)) {b i n : Nat} (who : Nat) (h : i ∉ dieBits) :
    Told P sd c s ((s.setView sd c v).raise b i n who) := (setView_told s hv).trans (raise_told hP _ who h)

theorem readback_told (s : State) (x : StatusFrame) : Told P sd c s (s.readback sd c x) := by
  unfold State.readback
  extract_lets +onlyGivenNames v b ok4 u4 ok5 u5
  refine .ite (setView_told s rfl) ?_
  split
  · have h : Told P sd c s u4 := setView_told s rfl
    exact .ite h (h.trans (raise_told hP u4 _ (by decide)))
  · have h : Told P sd c s u5 := setView_told s rfl
    exact .ite (h.trans (raise_told hP u5 _ (by decide))) (.ite (h.trans (clear_told hP u5 _ (by decide))) h)
  · exact setView_told s rfl
  · exact .refl s

theorem offStateCheck_told (s : State) : Told P sd c s (s.offStateCheck sd c) := by
  unfold State.offStateCheck
  extract_lets +onlyGivenNames e v b who due s1 f s2
  have h1 : Told P sd c s s1 := condition_told hP s _ _ (by decide)
  have h2 : Told P sd c s s2 := .ite (.ite (h1.trans (viewClear_told hP s1 (by rfl) _ (by decide))) h1)
    (h1.trans (condition_told hP s1 _ _ (by decide)))
  exact .ite (.refl s) (.ite (h2.trans (viewClear_told hP s2 (by rfl) _ (by decide))) h2)

theorem onStateCheck_told (s : State) : Told P sd c s (s.onStateCheck sd c) := by
  unfold State.onStateCheck
  extract_lets +onlyGivenNames v b who run on load u f s1 g s2
  have h : Told P sd c s u := setView_told s rfl
  have h1 : Told P sd c s s1 := .ite (h.trans (viewRaise_told hP u (by rfl) _ (by decide))) h
  have h2 : Told P sd c s s2 := .ite (h1.trans (viewRaise_told hP s1 (by rfl) _ (by decide))) h1
  exact .ite h (.ite (h2.trans (clear_told hP _ _ (by decide))) h2)

theorem groupBack_told (s : State) (g : Nat) : Told P sd c s (s.groupBack sd g) := .ite (clear_told hP s _ (by decide)) (.refl s)

theorem couplerBack_told (s : State) (cmd : BitVec 40) (x : StatusFrame) : Told P sd c s (s.couplerBack sd c cmd x) :=
  .ite (clear_told hP s _ (by decide)) (.refl s)

theorem sliceFrame_told (s : State) (icode : Nat) (mid noData : Bool) : Told P sd c s (s.sliceFrame c icode mid noData) :=
  .of_aside (sliceFrame_aside (noRif hP) ..)

/-- The checks on a marked sample, once it is taken. -/
theorem sampleChecks_told (s : State) : Told P sd c s ((s.offStateCheck sd c).onStateCheck sd c) :=
  (offStateCheck_told hP s).trans (onStateCheck_told hP _)

end Checks

end Sys2Proof.Status

end

section
/-! PROOFS. The pairs of a channel capture a frame (R26, R184). -/

set_option Elab.async false

namespace Sys2Proof.Status
open Sys2Proof.Machine Sys2Proof.Safety Sys2Proof.Laws Sys2Proof.Occurrence

variable {s t u : State} {P : Nat → Nat → Nat → Prop} {sd : Side} {c : Nat}

/-! #### The pairs capture a frame (R26, R184) -/

/-- A step of the pairs: the channel's own views stay, and of the pairs' views at most those that `K` names change. -/
structure Captured (P : Nat → Nat → Nat → Prop) (K : Nat → Prop) (s t : State) : Prop where
  held : ∀ b i n, P b i n → heldBy t b i n = heldBy s b i n
  views : t.field.views = s.field.views
  pairViews : ∀ k, ¬ K k → t.field.pairViews.get? k = s.field.pairViews.get? k
  slotNo : t.time.slotNo = s.time.slotNo
  stbFor : t.pairs.stbFor = s.pairs.stbFor

variable {K : Nat → Prop}

theorem Captured.refl (s : State) : Captured P K s s := ⟨fun _ _ _ _ => rfl, rfl, fun _ _ => rfl, rfl, rfl⟩

theorem Captured.trans (h : Captured P K s t) (k : Captured P K t u) : Captured P K s u :=
  ⟨fun b i n hp => (k.held b i n hp).trans (h.held b i n hp), k.views.trans h.views, fun n hn => (k.pairViews n hn).trans (h.pairViews n hn),
    k.slotNo.trans h.slotNo, k.stbFor.trans h.stbFor⟩

theorem Captured.ite {p : Prop} [Decidable p] (h : Captured P K s t) (k : Captured P K s u) : Captured P K s (if p then t else u) := by
  split
  · exact h
  · exact k

theorem Captured.hardware (h : Captured P K s t) (role : Nat) : t.hardware role = s.hardware role := by
  unfold State.hardware
  rw [h.stbFor]

theorem Captured.view (h : Captured P K s t) : t.view = s.view := by
  funext sd c
  exact view_congr h.views sd c

theorem setPairGroup_captured (s : State) (sd : Side) (role g : Nat) (p : PairGroup) : Captured P K s (s.setPairGroup sd role g p) :=
  ⟨fun _ _ _ _ => rfl, rfl, fun _ _ => rfl, rfl, rfl⟩

theorem setPairView_get (s : State) (sd : Side) (role c : Nat) (p : PairView) {k : Nat} (h : k ≠ 8 * c + role) :
    (s.setPairView sd role c p).field.pairViews.get? k = s.field.pairViews.get? k := by
  show Tab.get? (if p = (s.view sd c).pairPart then _ else _) k = _
  split
  · exact (tab_get_filter _ (fun i => i != 8 * c + role) k).trans (if_pos (by simpa using h))
  · rw [tab_get_put, if_neg h]

theorem setPairView_captured (s : State) (sd : Side) (role c : Nat) (p : PairView) (h : K (8 * c + role)) : Captured P K s (s.setPairView sd role c p) :=
  ⟨fun _ _ _ _ => rfl, rfl, fun _ hk => setPairView_get s sd role c p fun e => hk (e ▸ h), rfl, rfl⟩

theorem pairGroupSilence_captured (s : State) (sd : Side) (role g : Nat) : Captured P K s (s.pairGroupSilence sd role g) :=
  .ite (setPairGroup_captured ..) (.refl s)

theorem capture_captured (hP : ∀ b i n, P b i n → b ≠ bRIF ∧ 6 < b ∧ i ∈ dieBits) (s : State) (p kind index : Nat) (bad : Bool) :
    Captured P K s (s.capture p kind index bad) := by
  unfold State.capture
  extract_lets +onlyGivenNames k mine counted
  have set : ∀ x, Captured P K s (s.setPair p x) := fun x => ⟨fun _ _ _ _ => rfl, rfl, fun _ _ => rfl, rfl, rfl⟩
  have ends : ∀ (v : State) (b n : Nat), Captured P K v (v.clear b 2 n whoDev) := fun v b n => by
    have c := clear_calm v b 2 n whoDev
    exact ⟨(clear_aside v whoDev (noBit hP (by decide))).held, (congrArg FieldSt.views c.field :), fun _ _ => by rw [c.field], (congrArg TimeSt.slotNo c.time :),
      (congrArg PairsSt.stbFor c.pairs :)⟩
  exact .ite (set _) (.ite ((set _).trans (ends _ _ _)) (.refl s))

/-- One pair takes a frame: its own view alone. -/
theorem pairFrame_captured (s : State) (sd : Side) (c : Nat) (marked off : Bool) (v : View) (gv : GroupView) (ok : View → View)
    (gok : GroupView → GroupView) (role : Nat) (h : K (8 * c + role)) : Captured P K s (s.pairFrame sd c marked off v gv ok gok role) := by
  unfold State.pairFrame
  extract_lets +onlyGivenNames g was gwas x s1 y s2
  have h1 : Captured P K s s1 := .ite (.refl s) (setPairView_captured _ _ _ _ _ h)
  have h2 : Captured P K s s2 := .ite h1 (h1.trans (setPairGroup_captured ..))
  exact .ite (h2.trans (pairGroupSilence_captured ..)) h2

theorem filterTick_facts (v : View) (e : ChanEntry) : facts (v.filterTick e) = facts v := by
  unfold View.filterTick View.filterSample
  split
  · rfl
  · split
    · rfl
    · split <;> rfl

/-- An absent frame ages a view, and takes the slot. -/
theorem absentView_facts (s : State) (c : Nat) (marked : Bool) (v : View) :
    facts (s.absentView c marked v) = facts { v with frameAge := v.frameAge + 1, slot := s.time.slotNo } := by
  unfold State.absentView
  extract_lets w
  split
  · exact filterTick_facts _ _
  · rfl

/-- The pair for which a frame is absent ages by a slot. -/
theorem pairFrame_absent (s : State) (sd : Side) (c : Nat) (marked : Bool) (v : View) (gv : GroupView) (ok : View → View)
    (gok : GroupView → GroupView) (role : Nat) : ((s.pairFrame sd c marked true v gv ok gok role).pairView sd role c).frameAge =
      ((s.field.pairViews.get? (8 * c + role)).getD v.pairPart).frameAge + 1 := by
  unfold State.pairFrame
  extract_lets +onlyGivenNames g was gwas x s1 y s2
  have h1 : (s1.pairView sd role c).frameAge = (was.getD v.pairPart).frameAge + 1 := by
    have e : s1 = s.setPairView sd role c (s.absentView c marked x).pairPart := if_neg (by simp)
    rw [e, pairView_setPairView_self]
    exact congrArg (fun f => f.2.2.1) (absentView_facts s c marked x)
  have same : ∀ a b : State, Captured (fun _ _ _ => False) (fun _ => False) a b → b.pairView sd role c = a.pairView sd role c := by
    intro a b k
    unfold State.pairView
    rw [k.pairViews _ (by simp), k.view]
  have h2 : s2.pairView sd role c = s1.pairView sd role c := same _ _ (.ite (.refl _) (setPairGroup_captured ..))
  rw [if_pos rfl, same _ _ (pairGroupSilence_captured s2 sd role g), h2, h1]

end Sys2Proof.Status

end

section
/-! PROOFS. An absent status frame (R83). -/

set_option Elab.async false

namespace Sys2Proof.Status
open Sys2Proof.Machine Sys2Proof.Safety Sys2Proof.Laws Sys2Proof.Occurrence

variable {s t u : State} {P : Nat → Nat → Nat → Prop} {sd : Side} {c : Nat}

/-! #### Every pair of the channel -/

section Pairs

variable (marked : Bool) (dis : List Nat) (v : View) (gv : GroupView) (ok : View → View) (gok : GroupView → GroupView)

/-- One pair captures a frame and takes it. -/
def takes (sd : Side) (c : Nat) (s : State) (role : Nat) : State :=
  (s.capture (s.hardware role) 0 c (decide (s.hardware role ∈ dis))).pairFrame sd c marked (decide (s.hardware role ∈ dis)) v gv ok gok role

theorem pairFrames_eq (s : State) : s.pairFrames sd c marked dis v gv ok gok = (rolesOf sd).foldl (takes marked dis v gv ok gok sd c) s := rfl

theorem takes_captured (hP : ∀ b i n, P b i n → b ≠ bRIF ∧ 6 < b ∧ i ∈ dieBits) {K : Nat → Prop} (s : State) (role : Nat) (h : K (8 * c + role)) :
    Captured P K s (takes marked dis v gv ok gok sd c s role) := (capture_captured hP ..).trans (pairFrame_captured _ _ _ _ _ _ _ _ _ _ h)

theorem foldl_takes_captured (hP : ∀ b i n, P b i n → b ≠ bRIF ∧ 6 < b ∧ i ∈ dieBits) (l : List Nat) (s : State) :
    Captured P (fun k => ∃ role ∈ l, k = 8 * c + role) s (l.foldl (takes marked dis v gv ok gok sd c) s) :=
  List.foldlRecOn (motive := Captured P _ s) l _ (.refl s) fun _ h role hr => h.trans (takes_captured _ _ _ _ _ _ hP _ role ⟨role, hr, rfl⟩)

theorem takes_absent (s : State) (role : Nat) (h : s.hardware role ∈ dis) : ((takes marked dis v gv ok gok sd c s role).pairView sd role c).frameAge =
    ((s.field.pairViews.get? (8 * c + role)).getD v.pairPart).frameAge + 1 := by
  unfold takes
  rw [decide_eq_true h, pairFrame_absent]
  have k : Captured (fun _ _ _ => False) (fun _ => False) s (s.capture (s.hardware role) 0 c true) := capture_captured nofun ..
  rw [k.pairViews _ (by simp)]

theorem Captured.pairView {K : Nat → Prop} (h : Captured P K s t) (role : Nat) (hk : ¬ K (8 * c + role)) : t.pairView sd role c = s.pairView sd role c := by
  unfold State.pairView
  rw [h.pairViews _ hk, h.view]

theorem foldl_takes_absent (l : List Nat) (hl : l.Nodup) (s : State) (role : Nat) (hr : role ∈ l) (h : s.hardware role ∈ dis) :
    ((l.foldl (takes marked dis v gv ok gok sd c) s).pairView sd role c).frameAge =
      ((s.field.pairViews.get? (8 * c + role)).getD v.pairPart).frameAge + 1 := by
  induction l generalizing s with
  | nil => cases hr
  | cons x l ih =>
    obtain ⟨hx, hl⟩ := List.nodup_cons.mp hl
    rw [List.foldl_cons]
    have k : Captured (fun _ _ _ => False) (· = 8 * c + x) s (takes marked dis v gv ok gok sd c s x) := takes_captured _ _ _ _ _ _ nofun _ _ rfl
    rcases List.mem_cons.mp hr with e | hr
    · subst e
      have rest : Captured (fun _ _ _ => False) (fun k => ∃ role ∈ l, k = 8 * c + role) _ _ :=
        foldl_takes_captured (sd := sd) (c := c) marked dis v gv ok gok nofun l (takes marked dis v gv ok gok sd c s role)
      rw [rest.pairView role, takes_absent _ _ _ _ _ _ _ _ h]
      rintro ⟨y, hy, e⟩
      exact hx ((show role = y by omega) ▸ hy)
    · rw [ih hl _ hr (by rw [k.hardware]; exact h), k.pairViews]
      intro e
      exact hx ((show x = role by omega) ▸ hr)

theorem pairFrames_captured (hP : ∀ b i n, P b i n → b ≠ bRIF ∧ 6 < b ∧ i ∈ dieBits) (s : State) :
    Captured P (fun _ => True) s (s.pairFrames sd c marked dis v gv ok gok) := by
  have k := foldl_takes_captured (P := P) (sd := sd) (c := c) marked dis v gv ok gok hP (rolesOf sd) s
  exact ⟨k.held, k.views, fun _ h => absurd trivial h, k.slotNo, k.stbFor⟩

theorem pairFrames_absent (s : State) {role : Nat} (hr : role ∈ rolesOf sd) (h : s.hardware role ∈ dis) :
    ((s.pairFrames sd c marked dis v gv ok gok).pairView sd role c).frameAge = ((s.field.pairViews.get? (8 * c + role)).getD v.pairPart).frameAge + 1 :=
  foldl_takes_absent _ _ _ _ _ _ (rolesOf sd) (by cases sd <;> decide) s role hr h

end Pairs

/-! #### A frame that is absent for the channel -/

theorem noStatus_view (s : State) (sd : Side) (c : Nat) (marked : Bool) : ((s.noStatus sd c marked).view sd c) = s.absentView c marked (s.view sd c) := by
  unfold State.noStatus
  extract_lets u g silent
  have h : u.view sd c = s.absentView c marked (s.view sd c) := view_setView_self ..
  clear_value u silent
  split
  · exact h
  · exact h

theorem noStatus_field (s : State) (sd : Side) (c : Nat) (marked : Bool) : SameBut [.field] s (s.noStatus sd c marked) ∧
    (s.noStatus sd c marked).field.pairViews = s.field.pairViews ∧ (s.noStatus sd c marked).field.dies = s.field.dies ∧
    (s.noStatus sd c marked).field.chans = s.field.chans ∧
    ∀ sd' c', (sd', c') ≠ (sd, c) → (s.noStatus sd c marked).view sd' c' = s.view sd' c' := by
  unfold State.noStatus
  extract_lets u g silent
  have h : SameBut [.field] s u ∧ u.field.pairViews = s.field.pairViews ∧ u.field.dies = s.field.dies ∧ u.field.chans = s.field.chans ∧
      ∀ sd' c', (sd', c') ≠ (sd, c) → u.view sd' c' = s.view sd' c' := ⟨sameBut_field _ _, rfl, rfl, rfl, fun _ _ h => view_setView_of_ne _ _ _ _ h⟩
  clear_value u silent
  obtain ⟨k, p, d, ch, v⟩ := h
  split
  · exact ⟨k.trans (sameBut_field _ _), p, d, ch, v⟩
  · exact ⟨k, p, d, ch, v⟩

theorem hardware_congr (h : t.pairs.stbFor = s.pairs.stbFor) (role : Nat) : t.hardware role = s.hardware role := by
  unfold State.hardware
  rw [h]

/-- The absent frame, as a frame that fails its checks or that no pair takes leaves it. -/
theorem absent_spec (s : State) (sd : Side) (c : Nat) (marked : Bool) (dis : List Nat) (v : View) (gv : GroupView) (ok : View → View)
    (gok : GroupView → GroupView) :
    let t := (s.noStatus sd c marked).pairFrames sd c marked dis v gv ok gok
    facts (t.view sd c) = facts { s.view sd c with frameAge := (s.view sd c).frameAge + 1, slot := s.time.slotNo } ∧
    (∀ b i n, b ≠ bRIF → 6 < b → i ∈ dieBits → heldBy t b i n = heldBy s b i n) ∧
    ∀ role ∈ rolesOf sd, s.hardware role ∈ dis → (t.pairView sd role c).frameAge = ((s.field.pairViews.get? (8 * c + role)).getD v.pairPart).frameAge + 1 := by
  obtain ⟨k, pairViews, -⟩ := noStatus_field s sd c marked
  have view := noStatus_view s sd c marked
  generalize s.noStatus sd c marked = u at *
  have kc : Captured (fun b i _ => b ≠ bRIF ∧ 6 < b ∧ i ∈ dieBits) (fun _ => True) u (u.pairFrames sd c marked dis v gv ok gok) :=
    pairFrames_captured _ _ _ _ _ _ (fun _ _ _ h => h) u
  refine ⟨?_, fun b i n h1 h2 h3 => ?_, fun role hr h => ?_⟩
  · rw [kc.view, view, absentView_facts]
  · rw [kc.held b i n ⟨h1, h2, h3⟩, heldBy, (k .faults (by decide) : u.faults = s.faults)]
    rfl
  · rw [pairFrames_absent _ _ _ _ _ _ u hr, pairViews]
    rw [hardware_congr (congrArg PairsSt.stbFor (k .pairs (by decide) : u.pairs = s.pairs))]
    exact h

end Sys2Proof.Status

end

section
/-! PROOFS. A status frame that the channel takes (R83). -/

set_option Elab.async false

namespace Sys2Proof.Status
open Sys2Proof.Machine Sys2Proof.Safety Sys2Proof.Laws Sys2Proof.Occurrence

variable {s t u : State} {P : Nat → Nat → Nat → Prop} {sd : Side} {c : Nat}

/-! #### A frame that the channel takes -/

/-- One source alone. -/
def only (b i n : Nat) (b' i' n' : Nat) : Prop := b' = b ∧ i' = i ∧ n' = n

theorem fgBlock_eq (g : Nat) : fgBlock g = 0x10 + g := rfl

theorem only_ok {g i n : Nat} (hi : i ∈ dieBits) : ∀ b' i' n', only (fgBlock g) i n b' i' n' → g < 4 → b' ≠ bRIF ∧ 6 < b' ∧ i' ∈ dieBits := by
  rintro b' i' n' ⟨rfl, rfl, rfl⟩ hg
  refine ⟨?_, ?_, hi⟩
  · rw [fgBlock_eq, bRIF]
    omega
  · rw [fgBlock_eq]
    omega

/-- Another bit of the die is another source. -/
theorem condition_other (hR : ∀ i n, ¬ P bRIF i n) (s : State) {b i n : Nat} (who : Nat) (on : Bool) (h : ¬ P b i n) :
    Told P sd c s (s.condition b i n who on) := .of_aside (condition_aside hR s who on h)

theorem fg_source {g i : Nat} (hg : g < 4) (hi : i < 20) : ∃ src, sourceOf (fgBlock g) i = some src := by
  have e : sourceOf (fgBlock g) i = fgSources[i]? := by
    rw [fgBlock_eq]
    interval_cases g <;> rfl
  have len : fgSources.length = 20 := rfl
  exact ⟨_, e.trans (List.getElem?_eq_getElem (by omega))⟩

theorem condition_on (s : State) {g i : Nat} (n who : Nat) (hg : g < 4) (hi : i < 20) : (s.condition (fgBlock g) i n who true).isLive (fgBlock g) i n = true := by
  obtain ⟨src, h⟩ := fg_source hg hi
  exact raise_isLive who h (.inl (by rw [fgBlock_eq]; omega))

theorem clear_heldBy (s : State) (b i n who : Nat) : heldBy (s.clear b i n who) b i n = [] ∨
    ∃ h, ∀ x ∈ heldBy (s.clear b i n who) b i n, x = h &&& (7 - who) := by
  unfold State.clear
  split
  · next none =>
    left
    unfold heldBy
    rw [List.filter_eq_nil_iff.mpr (List.find?_eq_none.mp none)]
    rfl
  next l found =>
  extract_lets h0
  split
  · left
    have key := List.find?_some found
    have live := Proofs.fall_isLive s l b i n
    rw [key, Bool.not_true, Bool.and_false, isLive_eq, Bool.not_eq_false', List.isEmpty_iff] at live
    exact live
  · right
    refine ⟨l.holders, fun x hx => ?_⟩
    obtain ⟨y, hy, rfl⟩ := List.mem_map.mp hx
    obtain ⟨hy, hm⟩ := List.mem_filter.mp hy
    obtain ⟨z, -, rfl⟩ := List.mem_map.mp hy
    simp only [Bool.and_eq_true, beq_iff_eq] at hm
    by_cases hz : z.block = b ∧ z.index = i ∧ z.inst = n
    · rw [if_pos hz]
    · rw [if_neg hz] at hm
      exact absurd ⟨hm.1.1, hm.1.2, hm.2⟩ hz

/-- A detector that no longer sees a condition does not hold it. -/
theorem condition_off (s : State) (b i n : Nat) (sd : Side) : (s.condition b i n (Side.bit sd) false).holds b i n (Side.bit sd) = false := by
  show (s.clear b i n (Side.bit sd)).holds b i n (Side.bit sd) = false
  rw [holds_eq, List.any_eq_false]
  intro x hx
  rcases clear_heldBy s b i n (Side.bit sd) with e | ⟨h, e⟩
  · rw [e] at hx
    cases hx
  · rw [e x hx]
    cases sd <;> simp [Side.bit, Nat.and_assoc]

theorem answeredView_facts (s : State) (cmd : BitVec 40) (x : StatusFrame) (v : View) :
    facts (s.answeredView cmd x v) = (some s.time.slotNo, s.time.slotNo, 0, x.state, x.swa, x.swb, x.ol, x.ot, x.uv, x.ov, v.cls) := rfl

theorem sampledView_facts (s : State) (c : Nat) (x : StatusFrame) (v : View) :
    facts (s.sampledView c x v) = facts { v with cls := if x.cls ≠ 7 then x.cls else v.cls } := by
  unfold State.sampledView
  extract_lets usable code seen
  rw [filterTick_facts]
  have e : (if usable = true then x.cls else v.cls) = if x.cls ≠ 7 then x.cls else v.cls := by
    unfold usable
    simp only [bne_iff_ne, clNONE]
  show facts { v with cls := if usable = true then x.cls else v.cls } = _
  rw [e]

/-- The sample of a marked slot: the class, and the checks. -/
theorem sampleStatus_spec (hP : ∀ b i n, P b i n → b ≠ bRIF ∧ 6 < b ∧ i ∈ dieBits) (s : State) (x : StatusFrame) :
    let t := s.sampleStatus sd c x
    facts (t.view sd c) = facts { s.view sd c with cls := if x.cls ≠ 7 then x.cls else (s.view sd c).cls } ∧
    (∀ b i n, P b i n → heldBy t b i n = heldBy s b i n) ∧ t.field.pairViews = s.field.pairViews ∧ t.time.slotNo = s.time.slotNo ∧
    t.pairs.stbFor = s.pairs.stbFor := by
  unfold State.sampleStatus
  extract_lets u
  have hu : facts (u.view sd c) = facts (s.sampledView c x (s.view sd c)) := congrArg facts (view_setView_self ..)
  have same : ∀ b i n, heldBy u b i n = heldBy s b i n := fun _ _ _ => rfl
  have rest : u.field.pairViews = s.field.pairViews ∧ u.time.slotNo = s.time.slotNo ∧ u.pairs.stbFor = s.pairs.stbFor := ⟨rfl, rfl, rfl⟩
  rw [sampledView_facts] at hu
  clear_value u
  have k : Told P sd c u (if x.cls != clNONE ∧ (u.chanEntry c).drives = true then (u.offStateCheck sd c).onStateCheck sd c else u) :=
    .ite (sampleChecks_told hP u) (.refl u)
  exact ⟨k.facts.trans hu, fun b i n h => (k.held b i n h).trans (same b i n), k.pairViews.trans rest.1, k.slotNo.trans rest.2.1, k.stbFor.trans rest.2.2⟩

/-- The token of a side was none of its two. -/
def badToken (sd : Side) (x : StatusFrame) : Bool := match sd with
  | .a => x.atokBad
  | .b => x.btokBad

/-- The bits of the die that a frame reports, and what they make live. -/
structure Reported (sd : Side) (c : Nat) (x : StatusFrame) (t : State) : Prop where
  olOn : x.ol = true → t.isLive (fgBlock (c / 16)) 8 c = true
  olOff : x.ol = false → t.holds (fgBlock (c / 16)) 8 c (Side.bit sd) = false
  ot : x.ot = true → t.isLive (fgBlock (c / 16)) 9 c = true
  uv : x.uv = true → t.isLive (fgBlock (c / 16)) 16 (c / 16) = true
  ov : x.ov = true → t.isLive (fgBlock (c / 16)) 17 (c / 16) = true
  tok : badToken sd x = true → t.isLive (fgBlock (c / 16)) 11 c = true

theorem Reported.of_held {x : StatusFrame} (h : Reported sd c x s)
    (k : ∀ i n, i ∈ dieBits → heldBy t (fgBlock (c / 16)) i n = heldBy s (fgBlock (c / 16)) i n) : Reported sd c x t := by
  have live : ∀ i n, i ∈ dieBits → t.isLive (fgBlock (c / 16)) i n = s.isLive (fgBlock (c / 16)) i n := fun i n hi => by
    rw [isLive_eq, isLive_eq, k i n hi]
  refine ⟨fun e => ?_, fun e => ?_, fun e => ?_, fun e => ?_, fun e => ?_, fun e => ?_⟩
  · rw [live _ _ (by decide), h.olOn e]
  · rw [holds_eq, k _ _ (by decide), ← holds_eq, h.olOff e]
  · rw [live _ _ (by decide), h.ot e]
  · rw [live _ _ (by decide), h.uv e]
  · rw [live _ _ (by decide), h.ov e]
  · rw [live _ _ (by decide), h.tok e]

theorem Told.isLive {b i n : Nat} (h : Told (only b i n) sd c s t) : t.isLive b i n = s.isLive b i n := by
  rw [isLive_eq, isLive_eq, h.held b i n ⟨rfl, rfl, rfl⟩]

theorem Told.holds {b i n : Nat} (h : Told (only b i n) sd c s t) (who : Nat) : t.holds b i n who = s.holds b i n who := by
  rw [holds_eq, holds_eq, h.held b i n ⟨rfl, rfl, rfl⟩]

/-- What a step tells of the die, whichever source it leaves. -/
theorem Told.rest (h : Told P sd c s t) : Told (fun _ _ _ => False) sd c s t := ⟨nofun, h.facts, h.pairViews, h.slotNo, h.stbFor⟩

/-- What a good frame makes of the channel's view, and the sources that its bits make. -/
theorem goodStatus_spec (s : State) (hc : c < 64) (cmd : BitVec 40) (x : StatusFrame) :
    let t := s.goodStatus sd c cmd x
    facts (t.view sd c) = (some s.time.slotNo, s.time.slotNo, 0, x.state, x.swa, x.swb, x.ol, x.ot, x.uv, x.ov,
      if cmdTick cmd = true ∧ x.cls ≠ 7 then x.cls else (s.view sd c).cls) ∧
    Reported sd c x t ∧ t.field.pairViews = s.field.pairViews ∧ t.pairs.stbFor = s.pairs.stbFor := by
  have hg : c / 16 < 4 := by omega
  unfold State.goodStatus
  extract_lets +onlyGivenNames g b who s0 s1 s2 s3 s4 s5 bad s6 s7 s8 s9
  have f0 : facts (s0.view sd c) = (some s.time.slotNo, s.time.slotNo, 0, x.state, x.swa, x.swb, x.ol, x.ot, x.uv, x.ov, (s.view sd c).cls) :=
    (congrArg facts (view_setView_self ..)).trans (answeredView_facts ..)
  have r0 : s0.field.pairViews = s.field.pairViews ∧ s0.pairs.stbFor = s.pairs.stbFor ∧ s0.time.slotNo = s.time.slotNo := ⟨rfl, rfl, rfl⟩
  have ok : ∀ i n, i ∈ dieBits → ∀ b' i' n', only b i n b' i' n' → b' ≠ bRIF ∧ 6 < b' ∧ i' ∈ dieBits := fun i n hi b' i' n' h => only_ok hi b' i' n' h hg
  -- the conditions, each of which leaves the other bits
  have k1 : ∀ i n, i ∈ dieBits → Told (only b i n) sd c s0 s1 := fun i n hi => readback_told (ok i n hi) s0 x
  have other : ∀ (u : State) (j m : Nat) (on : Bool) (i n : Nat), i ∈ dieBits → i ≠ j → Told (only b i n) sd c u (u.condition b j m who on) :=
    fun u j m on i n hi hj => condition_other (noRif (ok i n hi)) u who on fun h => hj h.2.1.symm
  have k2 : ∀ i n, i ∈ dieBits → i ≠ 16 → Told (only b i n) sd c s1 s2 := other s1 16 g x.uv
  have k3 : ∀ i n, i ∈ dieBits → i ≠ 17 → Told (only b i n) sd c s2 s3 := other s2 17 g x.ov
  have k4 : ∀ i n, i ∈ dieBits → i ≠ 8 → Told (only b i n) sd c s3 s4 := other s3 8 c x.ol
  have k5 : ∀ i n, i ∈ dieBits → i ≠ 9 → Told (only b i n) sd c s4 s5 := other s4 9 c x.ot
  have k6 : ∀ i n, i ∈ dieBits → i ≠ 11 → Told (only b i n) sd c s5 s6 := fun i n hi hj =>
    .ite (.of_aside (event_aside (noRif (ok i n hi)) s5 fun h => hj h.2.1.symm)) (.refl s5)
  have k8 : ∀ {P : Nat → Nat → Nat → Prop}, (∀ b i n, P b i n → b ≠ bRIF ∧ 6 < b ∧ i ∈ dieBits) → Told P sd c s6 s8 := fun hP =>
    (setGview_told s6 sd g _).trans (sliceFrame_told hP s7 _ _ _)
  -- what each condition makes of its own bit
  have uv : x.uv = true → s2.isLive b 16 g = true := fun e => (congrArg (fun on => (s1.condition b 16 g who on).isLive b 16 g) e).trans (condition_on s1 g who hg (by decide))
  have ov : x.ov = true → s3.isLive b 17 g = true := fun e => (congrArg (fun on => (s2.condition b 17 g who on).isLive b 17 g) e).trans (condition_on s2 g who hg (by decide))
  have olOn : x.ol = true → s4.isLive b 8 c = true := fun e => (congrArg (fun on => (s3.condition b 8 c who on).isLive b 8 c) e).trans (condition_on s3 c who hg (by decide))
  have olOff : x.ol = false → s4.holds b 8 c who = false := fun e => (congrArg (fun on => (s3.condition b 8 c who on).holds b 8 c who) e).trans (condition_off s3 b 8 c sd)
  have ot : x.ot = true → s5.isLive b 9 c = true := fun e => (congrArg (fun on => (s4.condition b 9 c who on).isLive b 9 c) e).trans (condition_on s4 c who hg (by decide))
  have tok : badToken sd x = true → s6.isLive b 11 c = true := by
    intro e
    have e6 : s6 = s5.event b 11 c := if_pos e
    obtain ⟨src, hs⟩ := fg_source (i := 11) hg (by decide)
    rw [e6]
    exact raise_isLive 0 hs (.inl (by show fgBlock g < 0x20; rw [fgBlock_eq]; omega))
  have reported : Reported sd c x s6 := by
    refine ⟨fun e => ?_, fun e => ?_, fun e => ?_, fun e => ?_, fun e => ?_, tok⟩
    · exact ((k6 8 c (by decide) (by decide)).isLive.trans (k5 8 c (by decide) (by decide)).isLive).trans (olOn e)
    · exact (((k6 8 c (by decide) (by decide)).holds who).trans ((k5 8 c (by decide) (by decide)).holds who)).trans (olOff e)
    · exact (k6 9 c (by decide) (by decide)).isLive.trans (ot e)
    · exact ((((k6 16 g (by decide) (by decide)).isLive.trans (k5 16 g (by decide) (by decide)).isLive).trans
        (k4 16 g (by decide) (by decide)).isLive).trans (k3 16 g (by decide) (by decide)).isLive).trans (uv e)
    · exact (((k6 17 g (by decide) (by decide)).isLive.trans (k5 17 g (by decide) (by decide)).isLive).trans
        (k4 17 g (by decide) (by decide)).isLive).trans (ov e)
  have all := ((((((k1 8 c (by decide)).rest.trans (k2 8 c (by decide) (by decide)).rest).trans (k3 8 c (by decide) (by decide)).rest).trans
    (k4 9 c (by decide) (by decide)).rest).trans (k5 8 c (by decide) (by decide)).rest).trans (k6 8 c (by decide) (by decide)).rest).trans (k8 (ok 8 c (by decide))).rest
  have tail : ∀ i n, i ∈ dieBits → heldBy s8 b i n = heldBy s6 b i n := fun i n hi => (k8 (ok i n hi)).held b i n ⟨rfl, rfl, rfl⟩
  have f8 := all.facts.trans f0
  have p8 := all.pairViews.trans r0.1
  have b8 := all.stbFor.trans r0.2.1
  clear_value s8 s6
  have sample : facts (s9.view sd c) = (some s.time.slotNo, s.time.slotNo, 0, x.state, x.swa, x.swb, x.ol, x.ot, x.uv, x.ov,
      if cmdTick cmd = true ∧ x.cls ≠ 7 then x.cls else (s.view sd c).cls) ∧ (∀ i n, i ∈ dieBits → heldBy s9 b i n = heldBy s8 b i n) ∧
      s9.field.pairViews = s8.field.pairViews ∧ s9.pairs.stbFor = s8.pairs.stbFor := by
    unfold s9
    split
    · next hm =>
      obtain ⟨f, -, p, -, sf⟩ := sampleStatus_spec (sd := sd) (c := c) (ok 8 c (by decide)) s8 x
      refine ⟨f.trans ?_, fun i n hi => (sampleStatus_spec (sd := sd) (c := c) (ok i n hi) s8 x).2.1 b i n ⟨rfl, rfl, rfl⟩, p, sf⟩
      simp only [facts, Prod.mk.injEq] at f8 ⊢
      obtain ⟨e1, e2, e3, e4, e5, e6, e7, e8, e9, e10, e11⟩ := f8
      refine ⟨e1, e2, e3, e4, e5, e6, e7, e8, e9, e10, ?_⟩
      rw [e11]
      simp only [hm, true_and]
    · next hm =>
      refine ⟨f8.trans ?_, fun _ _ _ => rfl, rfl, rfl⟩
      rw [if_neg fun h => hm h.1]
  obtain ⟨f9, h9, p9, b9⟩ := sample
  clear_value s9
  have last : ∀ i n, i ∈ dieBits → Told (only b i n) sd c s9 (s9.groupBack sd g) := fun i n hi => groupBack_told (ok i n hi) s9 g
  refine ⟨(last 8 c (by decide)).facts.trans f9, reported.of_held fun i n hi => ?_, (last 8 c (by decide)).pairViews.trans (p9.trans p8),
    (last 8 c (by decide)).stbFor.trans (b9.trans b8)⟩
  exact (((last i n hi).held b i n ⟨rfl, rfl, rfl⟩).trans (h9 i n hi)).trans (tail i n hi)

end Sys2Proof.Status

end

section
/-! PROOFS. STATUS_FRAME. O41. -/

set_option Elab.async false

namespace Sys2Proof.Status
open Sys2Proof.Machine Sys2Proof.Safety Sys2Proof.Laws Sys2Proof.Occurrence

variable {s t : State} {sd : Side} {c : Nat} {cmd f : BitVec 40}

/-! #### STATUS_FRAME as equations -/

/-- A frame that is absent for the channel, each pair with its own copies. -/
def absent (sd : Side) (c : Nat) (marked : Bool) (dis : List Nat) (v : View) (gv : GroupView) (s0 s : State) : State :=
  (s.noStatus sd c marked).pairFrames sd c marked dis v gv (s0.absentView c marked) id

section Equations

variable (hf : (s.coupler c).frame = some cmd) (hr : s.slotsRun = true) (hn : (s.view sd c).slot ≠ s.time.slotNo) (dis : List Nat)
include hf hr hn

theorem statusFrame_none : exec (.statusFrame sd c none dis) s =
    .next ((s.noStatus sd c (cmdTick cmd)).pairSilence sd c (cmdTick cmd) (s.view sd c)) := by
  show execStatusFrame sd c none dis s = _
  unfold execStatusFrame
  rw [hf]
  exact congrArg Host.Outcome.next (if_neg (by rw [hr]; simpa using hn))

theorem statusFrame_some : exec (.statusFrame sd c (some f) dis) s = .next (
    if !statusOk f cmd then absent sd c (cmdTick cmd) dis (s.view sd c) (s.gview sd (c / 16)) (s.event (fgBlock (c / 16)) 13 c) (s.event (fgBlock (c / 16)) 13 c)
    else if s.noPairTakes sd dis then absent sd c (cmdTick cmd) dis (s.view sd c) (s.gview sd (c / 16)) s s
    else ((s.goodStatus sd c cmd (readStatus f)).pairFrames sd c (cmdTick cmd) dis (s.view sd c) (s.gview sd (c / 16))
      (s.frameView c cmd (readStatus f)) (s.extOf (c / 16) cmd (readStatus f))).couplerBack sd c cmd (readStatus f)) := by
  show execStatusFrame sd c (some f) dis s = _
  unfold execStatusFrame
  rw [hf]
  exact congrArg Host.Outcome.next (if_neg (by rw [hr]; simpa using hn))

theorem statusFrame_bad (h : statusOk f cmd = false) : exec (.statusFrame sd c (some f) dis) s =
    .next (absent sd c (cmdTick cmd) dis (s.view sd c) (s.gview sd (c / 16)) (s.event (fgBlock (c / 16)) 13 c) (s.event (fgBlock (c / 16)) 13 c)) := by
  rw [statusFrame_some hf hr hn, if_pos (by rw [h]; rfl)]

theorem statusFrame_untaken (h : statusOk f cmd = true) (hp : s.noPairTakes sd dis = true) : exec (.statusFrame sd c (some f) dis) s =
    .next (absent sd c (cmdTick cmd) dis (s.view sd c) (s.gview sd (c / 16)) s s) := by
  rw [statusFrame_some hf hr hn, if_neg (by rw [h]; decide), if_pos hp]

theorem statusFrame_taken (h : statusOk f cmd = true) (hp : s.noPairTakes sd dis = false) : exec (.statusFrame sd c (some f) dis) s =
    .next (((s.goodStatus sd c cmd (readStatus f)).pairFrames sd c (cmdTick cmd) dis (s.view sd c) (s.gview sd (c / 16))
      (s.frameView c cmd (readStatus f)) (s.extOf (c / 16) cmd (readStatus f))).couplerBack sd c cmd (readStatus f)) := by
  rw [statusFrame_some hf hr hn, if_neg (by rw [h]; decide), if_neg (by rw [hp]; decide)]

end Equations

theorem aside_facts {P : Nat → Nat → Nat → Prop} (h : Aside P s t) (sd : Side) (c : Nat) : facts (t.view sd c) = facts (s.view sd c) :=
  (congrArg facts (h.view sd c) :)

theorem aside_pairView {P : Nat → Nat → Nat → Prop} (h : Aside P s t) (sd : Side) (role c : Nat) : t.pairView sd role c = s.pairView sd role c := by
  have views : t.field.pairViews = s.field.pairViews := (congrArg FieldSt.pairViews h.field :)
  have part : (t.view sd c).pairPart = (s.view sd c).pairPart := (congrArg View.pairPart (h.view sd c) :)
  unfold State.pairView
  rw [views, part]

/-- Only what the pairs hold of the field changes. -/
structure PairsOnly (s t : State) : Prop where
  frame : SameBut [.field] s t
  dies : t.field.dies = s.field.dies
  chans : t.field.chans = s.field.chans
  views : t.field.views = s.field.views

theorem PairsOnly.trans {u : State} (h : PairsOnly s t) (k : PairsOnly t u) : PairsOnly s u :=
  ⟨h.frame.trans k.frame, k.dies.trans h.dies, k.chans.trans h.chans, k.views.trans h.views⟩

theorem PairsOnly.refl (s : State) : PairsOnly s s := ⟨.refl _ s, rfl, rfl, rfl⟩

theorem setPairView_pairsOnly (s : State) (sd : Side) (role c : Nat) (p : PairView) : PairsOnly s (s.setPairView sd role c p) :=
  ⟨sameBut_field _ _, rfl, rfl, rfl⟩

theorem pairGroupSilence_pairsOnly (s : State) (sd : Side) (role g : Nat) : PairsOnly s (s.pairGroupSilence sd role g) := by
  unfold State.pairGroupSilence
  extract_lets silent
  split
  · exact ⟨sameBut_field _ _, rfl, rfl, rfl⟩
  · exact .refl s

theorem pairSilence_pairsOnly (s : State) (sd : Side) (c : Nat) (marked : Bool) (v : View) : PairsOnly s (s.pairSilence sd c marked v) := by
  unfold State.pairSilence
  refine List.foldlRecOn (motive := PairsOnly s) _ _ (.refl s) fun t h role _ => ?_
  extract_lets u
  have hu : PairsOnly s u := by
    unfold u
    split
    · exact h
    · exact h.trans (setPairView_pairsOnly ..)
  clear_value u
  split
  · exact hu
  · exact hu.trans (pairGroupSilence_pairsOnly ..)

/-- Silence on the coupler ages the channel's view, and the rest of the field stays but for what the pairs hold. -/
theorem silence_spec (s : State) (sd : Side) (c : Nat) (marked : Bool) :
    let t := (s.noStatus sd c marked).pairSilence sd c marked (s.view sd c)
    SameBut [.field] s t ∧ t.field.dies = s.field.dies ∧ t.field.chans = s.field.chans ∧
    facts (t.view sd c) = facts { s.view sd c with frameAge := (s.view sd c).frameAge + 1, slot := s.time.slotNo } ∧
    ∀ sd' c', (sd', c') ≠ (sd, c) → t.view sd' c' = s.view sd' c' := by
  obtain ⟨k, -, d, ch, others⟩ := noStatus_field s sd c marked
  have view := noStatus_view s sd c marked
  generalize s.noStatus sd c marked = u at *
  have q := pairSilence_pairsOnly u sd c marked (s.view sd c)
  refine ⟨k.trans q.frame, q.dies.trans d, q.chans.trans ch, ?_, fun sd' c' h => ?_⟩
  · rw [view_congr q.views, view, absentView_facts]
  · rw [view_congr q.views, others sd' c' h]

/-- A frame that the channel takes, with what it makes of the pairs. -/
theorem taken_spec (s : State) (hc : c < 64) (dis : List Nat) (ok : View → View) (gok : GroupView → GroupView) (marked : Bool) (gv : GroupView) :
    let t := ((s.goodStatus sd c cmd (readStatus f)).pairFrames sd c marked dis (s.view sd c) gv ok gok).couplerBack sd c cmd (readStatus f)
    let x := readStatus f
    facts (t.view sd c) = (some s.time.slotNo, s.time.slotNo, 0, x.state, x.swa, x.swb, x.ol, x.ot, x.uv, x.ov,
      if cmdTick cmd = true ∧ x.cls ≠ 7 then x.cls else (s.view sd c).cls) ∧
    Reported sd c x t ∧
    ∀ role ∈ rolesOf sd, s.hardware role ∈ dis → (t.pairView sd role c).frameAge = (s.pairView sd role c).frameAge + 1 := by
  have hg : c / 16 < 4 := by omega
  obtain ⟨fa, rep, pv, sf⟩ := goodStatus_spec (sd := sd) s hc cmd (readStatus f)
  generalize s.goodStatus sd c cmd (readStatus f) = u at *
  have k : Captured (fun b i _ => b ≠ bRIF ∧ 6 < b ∧ i ∈ dieBits) (fun _ => True) u (u.pairFrames sd c marked dis (s.view sd c) gv ok gok) :=
    pairFrames_captured _ _ _ _ _ _ (fun _ _ _ h => h) u
  have off : ∀ role ∈ rolesOf sd, u.hardware role ∈ dis → _ := fun role hr h => pairFrames_absent (c := c) marked dis (s.view sd c) gv ok gok u hr h
  generalize u.pairFrames sd c marked dis (s.view sd c) gv ok gok = v at *
  have last : Aside (fun b i _ => b ≠ bRIF ∧ 6 < b ∧ i ∈ dieBits) v (v.couplerBack sd c cmd (readStatus f)) :=
    .ite (clear_aside v _ fun h => absurd h.2.2 (by decide)) (.refl v)
  intro t x
  have ht : t = v.couplerBack sd c cmd (readStatus f) := rfl
  rw [← ht] at last
  clear_value t
  refine ⟨?_, ?_, fun role hr h => ?_⟩
  · rw [← fa, ← k.view]
    exact aside_facts last sd c
  · have ok : ∀ i, i ∈ dieBits → fgBlock (c / 16) ≠ bRIF ∧ 6 < fgBlock (c / 16) ∧ i ∈ dieBits := fun i hi =>
      only_ok hi _ _ 0 ⟨rfl, rfl, rfl⟩ hg
    exact rep.of_held fun i n hi => (last.held _ i n (ok i hi)).trans (k.held _ i n (ok i hi))
  · have hw : u.hardware role ∈ dis := by rw [hardware_congr sf]; exact h
    rw [aside_pairView last, off role hr hw, pv]
    rfl

end Sys2Proof.Status

namespace Sys2Proof.Proofs
open Sys2Proof.Machine Sys2Proof.Safety Sys2Proof.Laws Sys2Proof.Status Sys2Proof.Occurrence

theorem fg_plain {g : Nat} (hg : g < 4) : fgBlock g ≠ bRIF ∧ 6 < fgBlock g := by
  rw [fgBlock_eq, bRIF]
  omega

/-- Settles O41: a frame is absent for the channel or taken, and then the pairs capture it each with its own copies. -/
theorem statusFramesAreTaken : Obligations.StatusFramesAreTaken := by
  unfold Obligations.StatusFramesAreTaken
  intro s sd c cmd f dis hc hf hr hn x b
  have hg : c / 16 < 4 := by omega
  refine ⟨fun role hrole hd ok => ?_, fun ok none => ?_, fun ok some => ?_, fun bad => ?_, ?_⟩
  · by_cases hp : s.noPairTakes sd dis = true
    · obtain ⟨-, -, off⟩ := absent_spec s sd c (cmdTick cmd) dis (s.view sd c) (s.gview sd (c / 16)) (s.absentView c (cmdTick cmd)) id
      exact ⟨_, statusFrame_untaken hf hr hn dis ok hp, off role hrole hd, fun h => absurd hp (by rw [h]; decide)⟩
    · obtain ⟨fa, -, off⟩ := taken_spec (sd := sd) (cmd := cmd) (f := f) s hc dis _ _ (cmdTick cmd) (s.gview sd (c / 16))
      exact ⟨_, statusFrame_taken hf hr hn dis ok (Bool.eq_false_iff.mpr hp), off role hrole hd, fun _ => congrArg (fun x => x.2.2.1) fa⟩
  · obtain ⟨fa, -⟩ := absent_spec s sd c (cmdTick cmd) dis (s.view sd c) (s.gview sd (c / 16)) (s.absentView c (cmdTick cmd)) id
    exact ⟨_, statusFrame_untaken hf hr hn dis ok none, congrArg (fun x => x.2.2.1) fa, congrArg (fun x => x.2.1) fa, congrArg (fun x => x.1) fa,
      congrArg (fun x => x.2.2.2.2.2.2.2.2.2.2) fa⟩
  · refine ⟨_, statusFrame_taken hf hr hn dis ok some, ?_⟩
    obtain ⟨fa, rep, -⟩ := taken_spec (sd := sd) (cmd := cmd) (f := f) s hc dis (s.frameView c cmd (readStatus f)) (s.extOf (c / 16) cmd (readStatus f)) (cmdTick cmd) (s.gview sd (c / 16))
    generalize State.couplerBack _ sd c cmd (readStatus f) = t at *
    simp only [facts, Prod.mk.injEq] at fa
    obtain ⟨e1, e2, e3, e4, e5, e6, e7, e8, e9, e10, e11⟩ := fa
    refine ⟨e1, e2, e3, e4, e5, e6, e7, e8, e9, e10, rep.olOn, rep.olOff, rep.ot, rep.uv, rep.ov, fun h => rep.tok ?_, e11⟩
    cases sd <;> exact h
  · refine ⟨_, statusFrame_bad hf hr hn dis bad, ?_⟩
    obtain ⟨h1, h2⟩ := fg_plain hg
    obtain ⟨src, hs⟩ := fg_source (i := 13) hg (by decide)
    have live : (s.event b 13 c).isLive b 13 c = true := raise_isLive 0 hs (.inl (by show fgBlock (c / 16) < 0x20; rw [fgBlock_eq]; omega))
    have asd : Aside (fun _ _ _ => False) s (s.event b 13 c) := event_aside (fun _ _ h => h) s (fun h => h)
    have slot : (s.event b 13 c).time.slotNo = s.time.slotNo := (congrArg TimeSt.slotNo asd.time :)
    have view := aside_facts asd sd c
    have e : fgBlock (c / 16) = b := rfl
    rw [e]
    generalize s.event b 13 c = u at *
    obtain ⟨fa, held, -⟩ := absent_spec u sd c (cmdTick cmd) dis (s.view sd c) (s.gview sd (c / 16)) (u.absentView c (cmdTick cmd)) id
    simp only [facts, Prod.mk.injEq] at fa view
    refine ⟨?_, fa.2.2.1.trans (by rw [view.2.2.1]), fa.2.1.trans slot, fa.1.trans view.1, fa.2.2.2.2.2.2.2.2.2.2.trans view.2.2.2.2.2.2.2.2.2.2⟩
    rw [isLive_eq, absent, held b 13 c h1 h2 (by decide), ← isLive_eq]
    exact live
  · refine ⟨_, statusFrame_none hf hr hn dis, ?_⟩
    obtain ⟨k, d, ch, fa, others⟩ := silence_spec s sd c (cmdTick cmd)
    exact ⟨k, d, ch, congrArg (fun x => x.2.2.1) fa, congrArg (fun x => x.2.1) fa, congrArg (fun x => x.1) fa,
      congrArg (fun x => x.2.2.2.2.2.2.2.2.2.2) fa, others⟩

end Sys2Proof.Proofs

end

section
/-! PROOFS. The detectors on a channel's view. O42. -/

set_option Elab.async false

/-! ### The detectors on a channel's view (R59, R60, R68, R69, R83, R94) -/

namespace Sys2Proof.Detect
open Sys2Proof.Machine Sys2Proof.Safety Sys2Proof.Laws Sys2Proof.Occurrence Sys2Proof.Status

variable {s t : State} {sd : Side} {c g : Nat}

/-! #### VF_MISSING -/

theorem closeFrames_within {hs : List (Option Nat)} {m : Nat} (h : ∀ x ∈ hs, ∃ k, x = some k ∧ m ≤ k ∧ k ≤ m + 20) : closeFrames hs = true := by
  have len : (hs.filterMap id).length = hs.length := by
    rw [List.length_filterMap_eq_countP, List.countP_eq_length]
    intro x hx
    obtain ⟨k, rfl, -⟩ := h x hx
    rfl
  have inside : ∀ k ∈ hs.filterMap id, m ≤ k ∧ k ≤ m + 20 := by
    intro k hk
    obtain ⟨x, hx, e⟩ := List.mem_filterMap.mp hk
    obtain ⟨j, rfl, hj⟩ := h x hx
    cases e
    exact hj
  unfold closeFrames
  generalize hs.filterMap id = ks at *
  cases ks with
  | nil => rfl
  | cons k ks =>
    have top : ∀ (l : List Nat) (a : Nat), a ≤ m + 20 → (∀ k ∈ l, m ≤ k ∧ k ≤ m + 20) → l.foldl max a ≤ m + 20 := by
      intro l
      induction l with
      | nil => exact fun a ha _ => ha
      | cons x l ih => exact fun a ha hl => ih _ (max_le ha (hl x (List.mem_cons_self ..)).2) fun k hk => hl k (List.mem_cons_of_mem _ hk)
    have bottom : ∀ (l : List Nat) (a : Nat), m ≤ a → (∀ k ∈ l, m ≤ k ∧ k ≤ m + 20) → m ≤ l.foldl min a := by
      intro l
      induction l with
      | nil => exact fun a ha _ => ha
      | cons x l ih => exact fun a ha hl => ih _ (le_min ha (hl x (List.mem_cons_self ..)).1) fun k hk => hl k (List.mem_cons_of_mem _ hk)
    have h1 := top (k :: ks) 0 (by omega) inside
    have h2 := bottom (k :: ks) k (inside k (List.mem_cons_self ..)).1 inside
    dsimp only
    rw [List.isEmpty_cons, Bool.false_or, Bool.and_eq_true]
    refine ⟨beq_iff_eq.mpr len, decide_eq_true ?_⟩
    show _ - List.foldl min k (k :: ks) ≤ 20
    omega

theorem closeFrames_silent {hs : List (Option Nat)} (h : ∀ x ∈ hs, x = none) : closeFrames hs = true := by
  have : hs.filterMap id = [] := List.filterMap_eq_nil_iff.mpr h
  unfold closeFrames
  rw [this]
  rfl

/-- The views of a group's couplers. -/
def groupViews (s : State) (sd : Side) (g : Nat) : List View := (List.range 16).map (fun i => s.view sd (16 * g + i))

theorem vfMissingDetect_eq (s : State) (sd : Side) (g : Nat) : exec (.vfMissingDetect sd g) s = .next (
    if (groupViews s sd g).all (fun v => decide (20 ≤ v.frameAge)) ∧ closeFrames ((groupViews s sd g).map (·.heard)) then
      s.raise (fgBlock g) 18 g (Side.bit sd) else s) := rfl

theorem mem_groupViews {v : View} : v ∈ groupViews s sd g ↔ ∃ i < 16, s.view sd (16 * g + i) = v := by
  simp [groupViews, List.mem_map]

theorem vfMissingDetect_raises (hage : ∀ i < 16, 20 ≤ (s.view sd (16 * g + i)).frameAge)
    (hclose : closeFrames ((groupViews s sd g).map (·.heard)) = true) :
    exec (.vfMissingDetect sd g) s = .next (s.raise (fgBlock g) 18 g (Side.bit sd)) := by
  have old : (groupViews s sd g).all (fun v => decide (20 ≤ v.frameAge)) = true := by
    refine List.all_eq_true.mpr fun v hv => ?_
    obtain ⟨i, hi, rfl⟩ := mem_groupViews.mp hv
    exact decide_eq_true (hage i hi)
  rw [vfMissingDetect_eq, if_pos ⟨old, hclose⟩]

/-! #### The filter -/

theorem filterChange_keeps {v : View} {e : ChanEntry} (h : gapRun e v = true ∨ v.count ≤ filterCount e) : v.filterChange e = v := by
  refine if_neg ?_
  rintro ⟨-, -, hg, hc⟩
  rcases h with h | h
  · rw [h] at hg
    cases hg
  · omega

theorem filterChange_changes {v : View} {e : ChanEntry} (hm : e.mode ≠ 0) (hn : v.cand ≠ v.filt) (hg : e.gap = 0) (hc : filterCount e + 1 ≤ v.count) :
    v.filterChange e = { v with filt := v.cand, count := 0 } := by
  refine if_pos ⟨hm, hn, ?_, hc⟩
  unfold gapRun
  rw [hg]
  simp

/-- Without a view of a pair's own a change of the channel's view is that alone. -/
theorem mapViews_alone (h : ∀ role ∈ rolesOf sd, s.field.pairViews.get? (8 * c + role) = none) (f : View → View) :
    s.mapViews sd c f = if f (s.view sd c) = s.view sd c then s else s.setView sd c (f (s.view sd c)) := by
  have none : (rolesOf sd).filterMap (fun role => (s.field.pairViews.get? (8 * c + role)).map (fun p => (role, p))) = [] := by
    refine List.filterMap_eq_nil_iff.mpr fun role hr => ?_
    rw [h role hr]
    rfl
  unfold State.mapViews
  rw [none]
  simp only [List.all_nil, and_true, List.foldl_nil]

theorem inputFilterChange_keeps (h : ∀ role ∈ rolesOf sd, s.field.pairViews.get? (8 * c + role) = none)
    (same : (s.view sd c).filterChange (s.chanEntry c) = s.view sd c) : exec (.inputFilterChange sd c) s = .next s := by
  refine congrArg Host.Outcome.next ((if_neg (not_not.mpr same)).trans ?_)
  rw [mapViews_alone h, if_pos same]

theorem gapToleranceOff_alone (h : ∀ role ∈ rolesOf sd, s.field.pairViews.get? (8 * c + role) = none) : exec (.gapToleranceOff sd c) s =
    .next (if (s.view sd c).gapOff (s.chanEntry c) = s.view sd c then s else s.setView sd c ((s.view sd c).gapOff (s.chanEntry c))) :=
  congrArg Host.Outcome.next (mapViews_alone h _)

theorem gapRun_of {v : View} {e : ChanEntry} (hm : e.mode = mIN_T1 ∨ e.mode = mIN_T3) (hg : 0 < e.gap) (hf : v.filt = clON) (hc : v.cand = clOFF) :
    gapRun e v = true := by
  unfold gapRun
  rw [hf, hc, decide_eq_true hg]
  rcases hm with h | h <;> rw [h] <;> rfl

/-- A change of the channel's view reaches it, whatever the pairs hold. -/
theorem mapViews_view (s : State) (f : View → View) (h : f (s.view sd c) ≠ s.view sd c) : (s.mapViews sd c f).view sd c = f (s.view sd c) ∧
    SameBut [.field] s (s.mapViews sd c f) := by
  unfold State.mapViews
  extract_lets v kept
  rw [if_neg fun e => h e.1]
  generalize kept = l
  have start : (s.setView sd c (f v)).view sd c = f v ∧ SameBut [.field] s (s.setView sd c (f v)) := ⟨view_setView_self .., sameBut_field _ _⟩
  generalize s.setView sd c (f v) = u at start ⊢
  refine List.foldlRecOn (motive := fun t => t.view sd c = f v ∧ SameBut [.field] s t) l _ start fun t ht e _ => ?_
  exact ⟨ht.1, ht.2.trans (sameBut_field _ _)⟩

theorem chanEntry_congr (hc : t.cfg = s.cfg) (ht : t.time = s.time) (c : Nat) : t.chanEntry c = s.chanEntry c := by
  have passed : t.chanPassed = s.chanPassed := by
    funext n
    unfold State.chanPassed
    rw [hc, ht]
  unfold State.chanEntry State.nextCont State.chanBefore State.joinedChan State.runCont
  rw [passed, hc]

/-- INPUT_FILTER_CHANGE takes the candidate, and the sources of a monitored contact follow it. -/
theorem inputFilterChange_takes (hm : (s.chanEntry c).mode ≠ 0) (hn : (s.view sd c).cand ≠ (s.view sd c).filt) (hg : (s.chanEntry c).gap = 0)
    (hc : filterCount (s.chanEntry c) + 1 ≤ (s.view sd c).count) (h64 : c < 64) : Gives (.inputFilterChange sd c) s (fun t =>
      (t.view sd c).filt = (s.view sd c).cand ∧ (t.view sd c).count = 0 ∧ (t.view sd c).cls = (s.view sd c).cls ∧
      ((s.chanEntry c).mode = mIN_MON → (s.view sd c).cand = clBREAK → t.isLive (0x10 + c / 16) 4 c = true) ∧
      ((s.chanEntry c).mode = mIN_MON → (s.view sd c).cand = clUNDEF → t.isLive (0x10 + c / 16) 5 c = true)) := by
  have new := filterChange_changes hm hn hg hc
  have differs : (s.view sd c).filterChange (s.chanEntry c) ≠ s.view sd c := by
    rw [new]
    exact fun e => hn (congrArg View.filt e)
  refine ⟨_, congrArg Host.Outcome.next (if_pos differs), ?_⟩
  obtain ⟨view, k⟩ := mapViews_view s (fun v => v.filterChange (s.chanEntry c)) differs
  rw [new] at view
  generalize s.mapViews sd c _ = u at *
  have entry : u.chanEntry c = s.chanEntry c := chanEntry_congr (k .cfg (by decide)) (k .time (by decide)) c
  have h16 : c / 16 < 4 := by omega
  unfold State.monitoredSources
  extract_lets mon f b
  have first : Aside (fun _ _ _ => False) u (u.condition b 4 c (Side.bit sd) (mon && f == clBREAK)) := condition_aside (fun _ _ h => h) u _ _ (fun h => h)
  have break_ : (mon && f == clBREAK) = true → (u.condition b 4 c (Side.bit sd) (mon && f == clBREAK)).isLive b 4 c = true := fun e =>
    (congrArg (fun on => (u.condition b 4 c (Side.bit sd) on).isLive b 4 c) e).trans (condition_on u c _ h16 (by decide))
  generalize u.condition b 4 c (Side.bit sd) (mon && f == clBREAK) = w at *
  have second : Aside (only b 4 c) w (w.condition b 5 c (Side.bit sd) (mon && f == clUNDEF)) := condition_aside
    (fun i n h => absurd h.1 (by show bRIF ≠ fgBlock (c / 16); rw [fgBlock_eq, bRIF]; omega)) w _ _ (fun h => absurd h.2.1 (by decide))
  have undef : (mon && f == clUNDEF) = true → (w.condition b 5 c (Side.bit sd) (mon && f == clUNDEF)).isLive b 5 c = true := fun e =>
    (congrArg (fun on => (w.condition b 5 c (Side.bit sd) on).isLive b 5 c) e).trans (condition_on w c _ h16 (by decide))
  generalize w.condition b 5 c (Side.bit sd) (mon && f == clUNDEF) = t at *
  have same : shown (t.view sd c) = shown (u.view sd c) := (second.view sd c).trans (first.view sd c)
  rw [view] at same
  have hf : f = (s.view sd c).cand := congrArg View.filt view
  have hmon : (s.chanEntry c).mode = mIN_MON → mon = true := fun e => by
    show ((u.chanEntry c).mode == mIN_MON) = true
    rw [entry, e]
    rfl
  refine ⟨(congrArg View.filt same :), (congrArg View.count same :), (congrArg View.cls same :), fun e h => ?_, fun e h => ?_⟩
  · have live : t.isLive b 4 c = w.isLive b 4 c := by rw [isLive_eq, isLive_eq, second.held b 4 c ⟨rfl, rfl, rfl⟩]
    exact live.trans (break_ (by rw [hmon e, hf, h]; rfl))
  · exact undef (by rw [hmon e, hf, h]; rfl)

end Sys2Proof.Detect

namespace Sys2Proof.Proofs
open Sys2Proof.Machine Sys2Proof.Safety Sys2Proof.Laws Sys2Proof.Detect

/-- Settles O42: each detector by its condition, and the filter by what it makes of the view. -/
theorem fieldDetectors : Obligations.FieldDetectors := by
  unfold Obligations.FieldDetectors
  intro s sd c g v e w who
  refine ⟨fun hm h => ?_, fun hm h => ?_, fun h1 h2 h3 => ?_, fun m h => ?_, fun h => ?_, fun i hi h => ?_, fun h1 h2 => ?_, fun h => ?_,
    fun h1 h2 => ?_, fun h => ?_, fun h => ?_, fun h => ?_, fun h => ?_, fun h => ?_, fun hm hn hg hc h64 => inputFilterChange_takes hm hn hg hc h64,
    fun alone h => ?_, fun alone hm hg hf hc => ⟨?_, fun h => ?_, fun h => ?_⟩, fun hd hcur h => ?_, fun h => ?_⟩
  · refine congrArg Host.Outcome.next (if_pos ⟨hm, .inl ?_⟩)
    unfold couplerLost
    rcases h with h | ⟨h7, h2⟩
    · rw [decide_eq_true h, Bool.or_true]
    · rw [h7, decide_eq_true h2]
      rfl
  · exact congrArg Host.Outcome.next (if_pos ⟨hm, .inr h⟩)
  · refine congrArg Host.Outcome.next (if_neg ?_)
    rintro ⟨-, h | h⟩
    · unfold couplerLost at h
      rw [decide_eq_false (Nat.not_le.mpr h1), decide_eq_false (Nat.not_le.mpr h2), Bool.and_false] at h
      cases h
    · rw [h3] at h
      cases h
  · refine vfMissingDetect_raises (fun i hi => (h i hi).1) (closeFrames_within (m := m) fun x hx => ?_)
    obtain ⟨v, hv, rfl⟩ := List.mem_map.mp hx
    obtain ⟨i, hi, rfl⟩ := mem_groupViews.mp hv
    exact (h i hi).2
  · refine vfMissingDetect_raises (fun i hi => (h i hi).1) (closeFrames_silent fun x hx => ?_)
    obtain ⟨v, hv, rfl⟩ := List.mem_map.mp hx
    obtain ⟨i, hi, rfl⟩ := mem_groupViews.mp hv
    exact (h i hi).2
  · rw [vfMissingDetect_eq, if_neg]
    rintro ⟨all, -⟩
    have := of_decide_eq_true (List.all_eq_true.mp all _ (mem_groupViews.mpr ⟨i, hi, rfl⟩))
    omega
  · exact congrArg Host.Outcome.next (if_pos ⟨h1, by rw [show (s.gview sd g).vfLow = false from h2]; rfl⟩)
  · exact congrArg Host.Outcome.next (if_neg fun k => absurd k.1 (by show ¬ 8 ≤ w.lowRun; omega))
  · exact congrArg Host.Outcome.next (if_pos ⟨h1, h2⟩)
  · exact congrArg Host.Outcome.next (if_neg fun k => absurd k.1 (by show ¬ 8 ≤ w.highRun; omega))
  · exact congrArg Host.Outcome.next (if_pos h)
  · exact congrArg Host.Outcome.next (if_neg (by show ¬ 201 ≤ w.overTicks; omega))
  · exact congrArg Host.Outcome.next (if_pos h)
  · exact congrArg Host.Outcome.next (if_neg (by show ¬ 201 ≤ w.underTicks; omega))
  · exact inputFilterChange_keeps alone (filterChange_keeps (.inr h))
  · exact inputFilterChange_keeps alone (filterChange_keeps (.inl (gapRun_of hm hg hf hc)))
  · have new : v.gapOff e = { v with filt := clOFF, count := 0 } := if_pos ⟨gapRun_of hm hg hf hc, h⟩
    rw [gapToleranceOff_alone alone, new, if_neg]
    intro same
    have filt : clOFF = v.filt := congrArg View.filt same
    rw [hf] at filt
    exact absurd filt (by decide)
  · have same : v.gapOff e = v := if_neg fun k => absurd k.2 (by omega)
    rw [gapToleranceOff_alone alone, if_pos same]
  · exact congrArg Host.Outcome.next (if_pos ⟨hd, hcur, h⟩)
  · exact congrArg Host.Outcome.next (if_neg fun k => absurd k.2.2 (by show ¬ 2001 ≤ v.openLoad; omega))

end Sys2Proof.Proofs

end

section
/-! PROOFS. The start of a test pulse, its samples, and the inputs it feeds (R88, R98). -/

set_option Elab.async false

/-! ### Test pulses: the start, the samples and what a verdict leaves (R88 to R98) -/

namespace Sys2Proof.Pulses
open Sys2Proof.Machine Sys2Proof.Safety Sys2Proof.Laws Sys2Proof.Occurrence Sys2Proof.Status

variable {s t u : State} {P : Nat → Nat → Nat → Prop} {sd : Side} {h c z : Nat} {r : PulseRun}

theorem samples_getD (s : State) (sd : Side) (hh : h < 64) : (s.samples sd).getD h {} = (s.view sd h).lastSample := by
  unfold State.samples
  rw [List.getD_eq_getElem _ _ (by rw [List.length_map, List.length_range]; exact hh), List.getElem_map, List.getElem_range]

/-! #### The start of a pulse -/

/-- The run of a pulse of one side, as its slot starts it. -/
def startedRun (s : State) (sd : Side) (h f : Nat) : PulseRun :=
  let e := s.pulseEntry h
  let p := f / max e.period 1
  { start := s.time.tick, number := p, mode := e.mode, widthUs := e.widthUs, own := (e.mode == mTEST_SRC || p % 2 == Side.ix sd) && s.reqOn sd h,
    req0 := s.reqOn sd h, reqOk := s.reqOn .a h && s.reqOn .b h, pre := s.samples sd, eval := [], evalDone := false, judged := false }

/-- A view with a run of a pulse. -/
def withPulse (s : State) (sd : Side) (h : Nat) (r : PulseRun) : State := s.setView sd h { s.view sd h with pulse := some r }

theorem withPulse_view_ne (sd' : Side) (n : Nat) (hn : (sd', n) ≠ (sd, h)) : (withPulse s sd h r).view sd' n = s.view sd' n := view_setView_of_ne _ _ _ _ hn

theorem withPulse_samples (s : State) (hs : sd ≠ .a) : (withPulse s .a h r).samples sd = s.samples sd :=
  List.map_congr_left fun n _ => congrArg View.lastSample (withPulse_view_ne sd n (by simp [hs]))

theorem withPulse_frameAge (s : State) (sd' : Side) (n : Nat) : ((withPulse s sd h r).view sd' n).frameAge = (s.view sd' n).frameAge := by
  by_cases e : (sd', n) = (sd, h)
  · obtain ⟨rfl, rfl⟩ := Prod.mk.inj e
    rw [withPulse, view_setView_self]
  · rw [withPulse_view_ne _ _ e]

theorem withPulse_couplerPending (s : State) (n : Nat) : (withPulse s sd h r).couplerPending n = s.couplerPending n := by
  unfold State.couplerPending
  rw [withPulse_frameAge, withPulse_frameAge]
  rfl

theorem withPulse_brstRunning (s : State) (b : Nat) : (withPulse s sd h r).brstRunning b = s.brstRunning b := by
  unfold State.brstRunning
  simp only [withPulse_couplerPending]
  rfl

theorem withPulse_lineActive (s : State) (n : Nat) : (withPulse s sd h r).lineActive n = s.lineActive n := by
  unfold State.lineActive
  simp only [withPulse_brstRunning]
  rfl

theorem withPulse_reqOn (s : State) (hs : sd ≠ .a) : (withPulse s .a h r).reqOn sd h = s.reqOn sd h := by
  have entry : (withPulse s .a h r).chanEntry h = s.chanEntry h := rfl
  have names : (withPulse s .a h r).namesChannel h = s.namesChannel h := rfl
  have driver : (withPulse s .a h r).driver h = s.driver h := rfl
  unfold State.reqOn
  rw [withPulse_view_ne sd h (by simp [hs]), entry, names, driver]
  simp only [withPulse_lineActive]
  rfl

theorem pulseSlotStart_eq {f q : Nat} (hf : s.baseFrame = some (f, q)) (hh : s.holderOf h = h) (ho : s.pulseOffset h = some 0)
    (ht : s.time.slotInTick = 1) : exec (.pulseSlotStart h) s =
      .next (withPulse (withPulse s .a h (startedRun s .a h f)) .b h (startedRun s .b h f)) := by
  show Host.Outcome.next _ = _
  rw [hf]
  dsimp only
  rw [if_neg (by simp [hh, ho, ht])]
  refine congrArg Host.Outcome.next ?_
  have hs := withPulse_samples (h := h) (r := startedRun s .a h f) s (sd := .b) (by decide)
  have hq := withPulse_reqOn (h := h) (r := startedRun s .a h f) s (sd := .b) (by decide)
  show withPulse _ .b h { startedRun s .b h f with own := _ && State.reqOn (withPulse s .a h (startedRun s .a h f)) .b h, req0 := State.reqOn (withPulse s .a h (startedRun s .a h f)) .b h, pre := State.samples (withPulse s .a h (startedRun s .a h f)) .b } = _
  rw [hs, hq]
  rfl

theorem started_own : (startedRun s sd h c).own = true ↔ s.reqOn sd h = true ∧
    ((s.pulseEntry h).mode = mTEST_SRC ∨ c / max (s.pulseEntry h).period 1 % 2 = Side.ix sd) := by
  simp only [startedRun, Bool.and_eq_true, Bool.or_eq_true, beq_iff_eq]
  exact And.comm

theorem pulseSlotStart_gives {f q : Nat} (hf : s.baseFrame = some (f, q)) (hh : s.holderOf h = h) (ho : s.pulseOffset h = some 0)
    (ht : s.time.slotInTick = 1) : Gives (.pulseSlotStart h) s fun t => SameBut [.field] s t ∧ ∀ sd, (t.view sd h).pulse = some (startedRun s sd h f) := by
  refine ⟨_, pulseSlotStart_eq hf hh ho ht, (sameBut_field _ _).trans (sameBut_field _ _), ?_⟩
  rintro (_ | _)
  · rw [withPulse_view_ne _ _ (by simp), withPulse, view_setView_self]
  · rw [withPulse, view_setView_self]

/-! #### The inputs that a holder feeds -/

/-- The sources of one channel. -/
def own (h : Nat) (b _i n : Nat) : Prop := b = fgBlock (h / 16) ∧ n = h

theorem own_rif (hh : h < 64) : ∀ i n, ¬ own h bRIF i n := by
  rintro i n ⟨e, -⟩
  rw [Status.fgBlock_eq, bRIF] at e
  omega

theorem fedInput_aside (s : State) (sd : Side) (pre eval : List Seen) (hR : ∀ i n, ¬ P bRIF i n) (hp : ¬ P (fgBlock (c / 16)) 0 c) :
    Aside P s (s.fedInput sd pre eval c) := by
  unfold State.fedInput
  extract_lets a b blk
  exact .ite (.refl s) (.ite (.ite (.refl s) (raise_aside hR s _ hp)) (.ite (clear_aside s _ hp) (.refl s)))

theorem fedBy_other (hm : c ∈ s.fedBy h) : c ≠ h := by
  unfold State.fedBy at hm
  split at hm
  · cases hm
  next mode =>
  rintro rfl
  have input := (List.mem_filter.mp hm).2
  rw [Decidable.not_not] at mode
  rw [ChanEntry.isInput, mode] at input
  cases input

/-- The inputs take their samples aside every source but theirs. -/
theorem fed_aside (s : State) (sd : Side) (pre eval : List Seen) (hR : ∀ i n, ¬ P bRIF i n) (hp : ∀ c ∈ s.fedBy h, ¬ P (fgBlock (c / 16)) 0 c) :
    Aside P s ((s.fedBy h).foldl (fun s c => s.fedInput sd pre eval c) s) :=
  List.foldlRecOn (motive := Aside P s) _ _ (.refl s) fun _ ht c hc => ht.trans (fedInput_aside _ sd pre eval hR (hp c hc))

/-- They leave the sources of the holder itself. -/
theorem fed_own (s : State) (sd : Side) (pre eval : List Seen) (hh : h < 64) :
    Aside (own h) s ((s.fedBy h).foldl (fun s c => s.fedInput sd pre eval c) s) :=
  fed_aside s sd pre eval (own_rif hh) fun _ hc e => fedBy_other hc e.2

/-- They end an instance of their own source 0 alone. -/
theorem fed_isLive (s : State) (sd : Side) (pre eval : List Seen) {b i n : Nat} (hb : b ≠ bRIF) (hi : i ≠ 0) :
    ((s.fedBy h).foldl (fun s c => s.fedInput sd pre eval c) s).isLive b i n = s.isLive b i n := by
  have k : Aside (fun b' i' n' => b' = b ∧ i' = i ∧ n' = n) s _ :=
    fed_aside (h := h) s sd pre eval (fun _ _ e => hb e.1.symm) fun _ _ e => hi e.2.1.symm
  rw [isLive_eq, isLive_eq, k.held b i n ⟨rfl, rfl, rfl⟩]

/-! #### The verdict -/

/-- The channel's view once a judged run has its verdict to come. -/
def judgedView (v : View) (r : PulseRun) (row : Bool) (eval : List Seen) : View :=
  { (v.miss r.mode r.number row r.req0) with pulse := some { r with eval := eval, evalDone := true, judged := true } }

/-- Whether the sample of a pulse has a row of Table 4.5. -/
def hasRow (r : PulseRun) (x : Seen) : Bool :=
  x.swa != !(pulseOpens r.mode r.number).1 || x.swb != !(pulseOpens r.mode r.number).2 || x.cls == clON || x.cls == clOFF

/-- A state whose channel has its run judged. -/
def judgedState (s : State) (sd : Side) (h : Nat) (r : PulseRun) : State :=
  s.setView sd h (judgedView (s.view sd h) r (hasRow r (s.view sd h).lastSample) (s.samples sd))

/-- The same run, judged. -/
def judgedRun (s : State) (sd : Side) (r : PulseRun) : PulseRun := { r with eval := s.samples sd, evalDone := true, judged := true }

/-- What a pass records. -/
def passed (s : State) (sd : Side) (h : Nat) (r : PulseRun) : State :=
  (s.setView sd h ((s.view sd h).cover r)).clear (fgBlock (h / 16)) 7 h (Side.bit sd)

/-- A run at its evaluation sample, all of whose samples can be judged (R91). -/
structure Judged (s : State) (sd : Side) (h : Nat) (r : PulseRun) : Prop where
  small : h < 64
  pulse : (s.view sd h).pulse = some r
  open_ : r.evalDone = false
  due : s.time.tick = r.start + r.widthUs / 50
  slot : s.time.slotInTick = 1
  req : r.reqOk = true
  pre : (r.pre.getD h {}).clean r.start = true
  now : (s.view sd h).lastSample.clean s.time.tick = true
  swa : (r.pre.getD h {}).swa = true
  swb : (r.pre.getD h {}).swb = true
  cls : (r.pre.getD h {}).cls = clON

/-- The verdict of the run, and whether it passes. -/
def verdict (s : State) (sd : Side) (h : Nat) (r : PulseRun) : State × Bool :=
  (judgedState s sd h r).pulseVerdict sd h (judgedRun s sd r) (s.samples sd)

/-- The state once the verdict is in, before the inputs that the holder feeds. -/
def afterVerdict (s : State) (sd : Side) (h : Nat) (r : PulseRun) : State :=
  if (verdict s sd h r).2 then passed (verdict s sd h r).1 sd h (judgedRun s sd r) else (verdict s sd h r).1

theorem pulseEvaluation_eq (k : Judged s sd h r) : exec (.pulseEvaluation sd h) s =
    .next (((afterVerdict s sd h r).fedBy h).foldl (fun t c => t.fedInput sd r.pre (s.samples sd) c) (afterVerdict s sd h r)) := by
  have here := samples_getD s sd k.small
  have judged : (r.reqOk && (r.pre.getD h {}).clean r.start && ((s.samples sd).getD h {}).clean s.time.tick && (r.pre.getD h {}).swa &&
      (r.pre.getD h {}).swb && (r.pre.getD h {}).cls == clON) = true := by
    rw [here, k.req, k.pre, k.now, k.swa, k.swb, k.cls]
    rfl
  show Host.Outcome.next _ = _
  dsimp only
  rw [k.pulse]
  dsimp only
  rw [if_neg (by simp [k.open_, k.due, k.slot])]
  refine congrArg Host.Outcome.next ?_
  rw [judged]
  rw [here]
  rfl

end Sys2Proof.Pulses

end

section
/-! PROOFS. The verdict of a test pulse, row by row (Table 4.5). -/

set_option Elab.async false

/-! ### The verdict of a test pulse, row by row (Table 4.5) -/

namespace Sys2Proof.Pulses
open Sys2Proof.Machine Sys2Proof.Safety Sys2Proof.Laws Sys2Proof.Occurrence Sys2Proof.Status

variable {s t u : State} {sd : Side} {h : Nat} {r : PulseRun}

theorem pulseOpens_eq {mode number : Nat} (hm : mode ≠ mTEST_SRC) : pulseOpens mode number = (decide (number % 2 = 0), !decide (number % 2 = 0)) := by
  unfold pulseOpens
  rw [if_neg hm]
  split
  · next e => rw [decide_eq_true e]; rfl
  · next e => rw [decide_eq_false e]; rfl

theorem same_of_iff {x : Bool} {p : Prop} [Decidable p] (e : x = true ↔ p) : x = decide p := by
  rw [Bool.eq_iff_iff, decide_eq_true_iff]
  exact e

theorem not_of_not_iff {x : Bool} {p : Prop} [Decidable p] (e : ¬(x = true ↔ p)) : x = !decide p := by
  have : x ≠ decide p := fun k => e (by rw [k, decide_eq_true_iff])
  exact Bool.eq_not_of_ne this

theorem fg_live (s : State) {i n : Nat} (who : Nat) (hi : i < 20) (hn : n < 64) : (s.raise (fgBlock (n / 16)) i n who).isLive (fgBlock (n / 16)) i n = true := by
  obtain ⟨src, hs⟩ := fg_source (g := n / 16) (i := i) (by omega) hi
  exact raise_isLive who hs (.inl (by rw [Status.fgBlock_eq]; omega))

/-- Nothing is named. -/
def noSource (_ _ _ : Nat) : Prop := False

theorem raise_view (s : State) (b i inst who : Nat) (sd : Side) (n : Nat) : shown ((s.raise b i inst who).view sd n) = shown (s.view sd n) :=
  (raise_aside (P := noSource) (fun _ _ e => e) s who fun e => e).view sd n

theorem raise_keeps (s : State) {b i inst who b' i' n' : Nat} (e : s.isLive b' i' n' = true) : (s.raise b i inst who).isLive b' i' n' = true :=
  (raiseWith_grows s (fun u => brst_grows u b) i inst who).live _ _ _ e

theorem swaHeld_of_shown {v w : View} (e : shown v = shown w) : v.swaHeld = w.swaHeld := (congrArg View.swaHeld e :)

theorem swbHeld_of_shown {v w : View} (e : shown v = shown w) : v.swbHeld = w.swbHeld := (congrArg View.swbHeld e :)

/-- The A-side switch is held. -/
def holdA (s : State) (sd : Side) (h : Nat) : State :=
  (s.setView sd h { s.view sd h with swaHeld := true }).raise (fgBlock (h / 16)) 1 h (Side.bit sd)

/-- The B-side switch is held. -/
def holdB (s : State) (sd : Side) (h : Nat) : State :=
  (s.setView sd h { s.view sd h with swbHeld := true }).raise (fgBlock (h / 16)) 2 h (Side.bit sd)

theorem holdA_spec (s : State) (sd : Side) (hh : h < 64) : (holdA s sd h).isLive (fgBlock (h / 16)) 1 h = true ∧ ((holdA s sd h).view sd h).swaHeld = true := by
  refine ⟨fg_live _ _ (by decide) hh, ?_⟩
  have e := raise_view (s.setView sd h { s.view sd h with swaHeld := true }) (fgBlock (h / 16)) 1 h (Side.bit sd) sd h
  rw [view_setView_self] at e
  exact (congrArg View.swaHeld e :)

theorem holdB_spec (s : State) (sd : Side) (hh : h < 64) : (holdB s sd h).isLive (fgBlock (h / 16)) 2 h = true ∧ ((holdB s sd h).view sd h).swbHeld = true := by
  refine ⟨fg_live _ _ (by decide) hh, ?_⟩
  have e := raise_view (s.setView sd h { s.view sd h with swbHeld := true }) (fgBlock (h / 16)) 2 h (Side.bit sd) sd h
  rw [view_setView_self] at e
  exact (congrArg View.swbHeld e :)

/-- Holding the other switch leaves what the first has. -/
theorem holdB_keeps (s : State) (sd : Side) (h : Nat) {b i n : Nat} (e : s.isLive b i n = true) : (holdB s sd h).isLive b i n = true :=
  raise_keeps _ e

theorem holdB_swaHeld (s : State) (sd : Side) (h : Nat) : ((holdB s sd h).view sd h).swaHeld = (s.view sd h).swaHeld := by
  have e := raise_view (s.setView sd h { s.view sd h with swbHeld := true }) (fgBlock (h / 16)) 2 h (Side.bit sd) sd h
  rw [view_setView_self] at e
  exact (congrArg View.swaHeld e :)

/-- The verdict with the sample and the openings named. -/
theorem verdict_eq (hm : r.mode ≠ mTEST_SRC) (hh : h < 64) : verdict s sd h r =
    (let J := judgedState s sd h r
     let x := (s.view sd h).lastSample
     let o := decide (r.number % 2 = 0)
     if x.swa ≠ !o ∨ x.swb ≠ !!o then
       let u := if x.swa ≠ !o then holdA J sd h else J
       (if x.swb ≠ !!o then holdB u sd h else u, false)
     else if x.cls = clON then
       match s.currentPartner h r.pre (s.samples sd) with
       | some y => ((J.event (fgBlock (h / 16)) 3 h).event (fgBlock (y / 16)) 3 y, false)
       | none => (J.raise (fgBlock (h / 16)) 0 h (Side.bit sd), false)
     else if x.cls = clOFF ∧ o ∧ x.mid then (holdA J sd h, false)
     else if x.cls = clOFF ∧ !o ∧ !x.mid then (holdA J sd h, false)
     else (J, x.cls == clOFF)) := by
  unfold verdict State.pulseVerdict
  rw [show pulseOpens (judgedRun s sd r).mode (judgedRun s sd r).number = _ from pulseOpens_eq hm, samples_getD s sd hh]
  rfl

section
variable (k : Judged s sd h r) (hm : r.mode ≠ mTEST_SRC)

section
include k

/-- The evaluation keeps what its verdict leaves of the holder, but for the inputs that it feeds. -/
theorem evaluation_of {w : State} (hw : afterVerdict s sd h r = w) : ∃ t, exec (.pulseEvaluation sd h) s = .next t ∧
    (∀ b i n, b ≠ bRIF → i ≠ 0 → t.isLive b i n = w.isLive b i n) ∧ Aside (own h) w t := by
  refine ⟨_, pulseEvaluation_eq k, ?_⟩
  rw [hw]
  exact ⟨fun b i n hb hi => fed_isLive w sd r.pre (s.samples sd) hb hi, fed_own w sd r.pre (s.samples sd) k.small⟩

theorem afterVerdict_fail {w : State} (hv : verdict s sd h r = (w, false)) : afterVerdict s sd h r = w := by
  unfold afterVerdict
  rw [hv]
  rfl

theorem fgBlock_ne (n : Nat) (hn : n < 64) : fgBlock (n / 16) ≠ bRIF := by
  rw [Status.fgBlock_eq, bRIF]
  omega

theorem own_isLive {w t : State} (a : Aside (own h) w t) (i : Nat) : t.isLive (fgBlock (h / 16)) i h = w.isLive (fgBlock (h / 16)) i h := by
  rw [isLive_eq, isLive_eq, a.held _ _ _ ⟨rfl, rfl⟩]

end

include k hm

/-- A switch of the pulse that has not opened is held. -/
theorem evaluation_switches (wrong : (s.view sd h).lastSample.swa = decide (r.number % 2 = 0) ∨
      (s.view sd h).lastSample.swb = !decide (r.number % 2 = 0)) :
    Gives (.pulseEvaluation sd h) s fun t =>
      ((s.view sd h).lastSample.swa = decide (r.number % 2 = 0) → t.isLive (fgBlock (h / 16)) 1 h = true ∧ (t.view sd h).swaHeld = true) ∧
      ((s.view sd h).lastSample.swb = !decide (r.number % 2 = 0) → t.isLive (fgBlock (h / 16)) 2 h = true ∧ (t.view sd h).swbHeld = true) := by
  have hv := verdict_eq (s := s) (sd := sd) hm k.small
  generalize judgedState s sd h r = J at hv
  generalize decide (r.number % 2 = 0) = o at *
  generalize (s.view sd h).lastSample = x at *
  have e1 : (x.swa ≠ !o) ↔ x.swa = o := by cases x.swa <;> cases o <;> simp
  have e2 : (x.swb ≠ !!o) ↔ x.swb = !o := by cases x.swb <;> cases o <;> simp
  simp only [e1, e2, if_pos wrong] at hv
  obtain ⟨t, ht, -, a⟩ := evaluation_of k (afterVerdict_fail k hv)
  refine ⟨t, ht, fun hx => ?_, fun hx => ?_⟩
  · rw [if_pos hx] at a
    obtain ⟨l1, v1⟩ := holdA_spec J sd k.small
    rw [own_isLive k a, swaHeld_of_shown (a.view sd h)]
    split
    · exact ⟨holdB_keeps _ _ _ l1, (holdB_swaHeld _ _ _).trans v1⟩
    · exact ⟨l1, v1⟩
  · rw [if_pos hx] at a
    rw [own_isLive k a, swbHeld_of_shown (a.view sd h)]
    exact holdB_spec _ sd k.small

section Opened
variable (ha : (s.view sd h).lastSample.swa = !decide (r.number % 2 = 0)) (hb : (s.view sd h).lastSample.swb = decide (r.number % 2 = 0))
include ha hb

/-- Both switches read as the pulse has them: the class of the sample decides. -/
theorem verdict_opened : verdict s sd h r =
    (let J := judgedState s sd h r
     let x := (s.view sd h).lastSample
     let o := decide (r.number % 2 = 0)
     if x.cls = clON then
       match s.currentPartner h r.pre (s.samples sd) with
       | some y => ((J.event (fgBlock (h / 16)) 3 h).event (fgBlock (y / 16)) 3 y, false)
       | none => (J.raise (fgBlock (h / 16)) 0 h (Side.bit sd), false)
     else if x.cls = clOFF ∧ o ∧ x.mid then (holdA J sd h, false)
     else if x.cls = clOFF ∧ !o ∧ !x.mid then (holdA J sd h, false)
     else (J, x.cls == clOFF)) := by
  rw [verdict_eq hm k.small]
  exact if_neg (by rw [ha, hb, Bool.not_not]; simp)

theorem evaluation_stuckOn (hc : (s.view sd h).lastSample.cls = clON) (hp : s.currentPartner h r.pre (s.samples sd) = none) :
    Gives (.pulseEvaluation sd h) s fun t => t.isLive (fgBlock (h / 16)) 0 h = true := by
  have hv := (verdict_opened k hm ha hb).trans (if_pos hc)
  rw [hp] at hv
  obtain ⟨t, ht, -, a⟩ := evaluation_of k (afterVerdict_fail k hv)
  exact ⟨t, ht, (own_isLive k a 0).trans (fg_live _ _ (by decide) k.small)⟩

theorem evaluation_partner (hc : (s.view sd h).lastSample.cls = clON) {y : Nat} (hp : s.currentPartner h r.pre (s.samples sd) = some y) :
    Gives (.pulseEvaluation sd h) s fun t => t.isLive (fgBlock (h / 16)) 3 h = true ∧ t.isLive (fgBlock (y / 16)) 3 y = true := by
  have hv := (verdict_opened k hm ha hb).trans (if_pos hc)
  rw [hp] at hv
  have hy : y < 64 := List.mem_range.mp (List.mem_of_find?_eq_some hp)
  obtain ⟨t, ht, l, -⟩ := evaluation_of k (afterVerdict_fail k hv)
  refine ⟨t, ht, (l _ 3 h (fgBlock_ne k h k.small) (by decide)).trans ?_, (l _ 3 y (fgBlock_ne k y hy) (by decide)).trans ?_⟩
  · exact raise_keeps _ (fg_live _ 0 (by decide) k.small)
  · exact fg_live _ 0 (by decide) hy

theorem evaluation_mid (hc : (s.view sd h).lastSample.cls = clOFF) (hx : (s.view sd h).lastSample.mid = decide (r.number % 2 = 0)) :
    Gives (.pulseEvaluation sd h) s fun t => t.isLive (fgBlock (h / 16)) 1 h = true ∧ (t.view sd h).swaHeld = true := by
  have hv : verdict s sd h r = (holdA (judgedState s sd h r) sd h, false) := by
    refine (verdict_opened k hm ha hb).trans ((if_neg (by rw [hc]; decide)).trans ?_)
    rw [hc, hx]
    cases decide (r.number % 2 = 0) <;> rfl
  obtain ⟨t, ht, -, a⟩ := evaluation_of k (afterVerdict_fail k hv)
  obtain ⟨l, v⟩ := holdA_spec (judgedState s sd h r) sd k.small
  exact ⟨t, ht, (own_isLive k a 1).trans l, (congrArg View.swaHeld (a.view sd h) :).trans v⟩

theorem evaluation_passes (hc : (s.view sd h).lastSample.cls = clOFF) (hx : (s.view sd h).lastSample.mid = !decide (r.number % 2 = 0)) :
    Gives (.pulseEvaluation sd h) s fun t => t.holds (fgBlock (h / 16)) 7 h (Side.bit sd) = false ∧
      (∀ i, i ≠ 7 → t.isLive (fgBlock (h / 16)) i h = s.isLive (fgBlock (h / 16)) i h) ∧
      shown (t.view sd h) = shown ((judgedView (s.view sd h) r true (s.samples sd)).cover r) := by
  have hv : verdict s sd h r = (judgedState s sd h r, true) := by
    refine (verdict_opened k hm ha hb).trans ((if_neg (by rw [hc]; decide)).trans ?_)
    rw [hc, hx]
    cases decide (r.number % 2 = 0) <;> rfl
  have hw : afterVerdict s sd h r = passed (judgedState s sd h r) sd h (judgedRun s sd r) := by
    unfold afterVerdict
    rw [hv]
    rfl
  have row : hasRow r (s.view sd h).lastSample = true := by
    rw [hasRow, hc]
    simp
  obtain ⟨t, ht, -, a⟩ := evaluation_of k hw
  refine ⟨t, ht, ?_, fun i hi => ?_, (a.view sd h).trans ?_⟩
  · rw [holds_eq, a.held _ _ _ ⟨rfl, rfl⟩, ← holds_eq]
    exact condition_off _ _ 7 h sd
  · exact (own_isLive k a i).trans ((clear_isLive_ne (.inr (.inl hi))).trans rfl)
  · rw [passed, view_congr (congrArg FieldSt.views (clear_sameBut _ _ _ _ _ .field (by decide))), view_setView_self, judgedState, view_setView_self, row]
    rfl

end Opened

end

end Sys2Proof.Pulses

end

section
/-! PROOFS. The post-sample and the count of pulses without a verdict. O43. -/

set_option Elab.async false

/-! ### The post-sample of a test pulse, and the count of pulses without a verdict (R95, R97) -/

namespace Sys2Proof.Pulses
open Sys2Proof.Machine Sys2Proof.Safety Sys2Proof.Laws Sys2Proof.Occurrence Sys2Proof.Status

variable {s t u : State} {sd : Side} {h z : Nat} {r : PulseRun}

/-! #### The channels that see a foreign pulse -/

/-- The channels that see the pulse. -/
def seers (s : State) (sd : Side) (h : Nat) (r : PulseRun) : List Nat := rangeFilter 64 (fun z => s.foreignPulse h z r.pre r.eval (s.samples sd))

/-- The successive sights of each of them. -/
def sights (v : View) (zs : List Nat) : Tab Nat := zs.foldl (fun t z => t.put z (v.foreign.getD z 0 + 1)) []

theorem sights_getD (v : View) (zs : List Nat) (hz : z ∈ zs) : (sights v zs).getD z 0 = v.foreign.getD z 0 + 1 := by
  suffices ∀ (l : List Nat) (t : Tab Nat), z ∈ l ∨ t.getD z 0 = v.foreign.getD z 0 + 1 →
      (l.foldl (fun t z => t.put z (v.foreign.getD z 0 + 1)) t).getD z 0 = v.foreign.getD z 0 + 1 from this zs [] (.inl hz)
  intro l
  induction l with
  | nil =>
    intro t ht
    rcases ht with h | h
    · cases h
    · exact h
  | cons x l ih =>
    intro t ht
    refine ih _ ?_
    rw [tab_getD_put]
    by_cases e : z = x
    · rw [if_pos e, e]
      exact .inr rfl
    · rw [if_neg e]
      exact ht.imp (fun m => (List.mem_cons.mp m).resolve_left e) id

/-- Each channel that has seen two pulses in succession reports itself and the holder. -/
def reportForeign (h : Nat) (next : Tab Nat) (s : State) (z : Nat) : State :=
  if 2 ≤ next.getD z 0 then (s.event (fgBlock (z / 16)) 3 z).event (fgBlock (h / 16)) 3 h else s

theorem reportForeign_keeps (next : Tab Nat) (s : State) (z : Nat) {b i n : Nat} (e : s.isLive b i n = true) :
    (reportForeign h next s z).isLive b i n = true := by
  unfold reportForeign
  split
  · exact raise_keeps _ (raise_keeps _ e)
  · exact e

theorem reportForeign_view (next : Tab Nat) (s : State) (z : Nat) : shown ((reportForeign h next s z).view sd h) = shown (s.view sd h) := by
  unfold reportForeign
  split
  · exact (raise_view _ _ _ _ 0 sd h).trans (raise_view _ _ _ _ 0 sd h)
  · rfl

theorem reportForeign_both (next : Tab Nat) (s : State) (hh : h < 64) (hz : z < 64) (hn : 2 ≤ next.getD z 0) :
    (reportForeign h next s z).isLive (fgBlock (z / 16)) 3 z = true ∧ (reportForeign h next s z).isLive (fgBlock (h / 16)) 3 h = true := by
  unfold reportForeign
  rw [if_pos hn]
  exact ⟨raise_keeps _ (fg_live _ 0 (by decide) hz), fg_live _ 0 (by decide) hh⟩

theorem reportAll_spec (next : Tab Nat) (zs : List Nat) (s : State) (hh : h < 64) (hz : z < 64) (hn : 2 ≤ next.getD z 0) (hm : z ∈ zs) :
    (zs.foldl (reportForeign h next) s).isLive (fgBlock (z / 16)) 3 z = true ∧ (zs.foldl (reportForeign h next) s).isLive (fgBlock (h / 16)) 3 h = true ∧
      shown ((zs.foldl (reportForeign h next) s).view sd h) = shown (s.view sd h) := by
  have keeps : ∀ (l : List Nat) (u : State) {b i n : Nat}, u.isLive b i n = true → (l.foldl (reportForeign h next) u).isLive b i n = true :=
    fun l u b i n e => List.foldlRecOn (motive := fun v : State => v.isLive b i n = true) l _ e fun _ k x _ => reportForeign_keeps next _ x k
  have views : ∀ (l : List Nat) (u : State), shown ((l.foldl (reportForeign h next) u).view sd h) = shown (u.view sd h) :=
    fun l u => List.foldlRecOn (motive := fun t : State => shown (t.view sd h) = shown (u.view sd h)) l _ rfl fun _ k x _ => (reportForeign_view next _ x).trans k
  refine ⟨?_, ?_, views zs s⟩ <;> obtain ⟨l, l', rfl⟩ := List.append_of_mem hm <;> rw [List.foldl_append, List.foldl_cons]
  · exact keeps _ _ (reportForeign_both next _ hh hz hn).1
  · exact keeps _ _ (reportForeign_both next _ hh hz hn).2

/-! #### The post-sample -/

section
variable (hp : (s.view sd h).pulse = some r) (he : r.evalDone = true) (hd : s.time.tick = r.start + r.widthUs / 50 + 2) (ht : s.time.slotInTick = 1)
include hp he hd ht

theorem postSample_unjudged (hj : r.judged = false) : exec (.pulsePostSample sd h) s = .next (s.setView sd h { s.view sd h with pulse := none }) := by
  show Host.Outcome.next _ = _
  dsimp only
  rw [hp]
  dsimp only
  rw [if_neg (by simp [he, hd, ht]), hj]
  rfl

theorem postSample_judged (hh : h < 64) (hj : r.judged = true) (hq : r.reqOk = true) (hc : (s.view sd h).lastSample.clean s.time.tick = true) :
    exec (.pulsePostSample sd h) s = .next ((seers s sd h r).foldl (reportForeign h (sights (s.view sd h) (seers s sd h r)))
      (s.setView sd h { s.view sd h with pulse := none, foreign := sights (s.view sd h) (seers s sd h r) })) := by
  have whole : (r.reqOk && ((s.samples sd).getD h {}).clean s.time.tick) = true := by
    rw [samples_getD s sd hh, hq, hc]
    rfl
  show Host.Outcome.next _ = _
  dsimp only
  rw [hp]
  dsimp only
  rw [if_neg (by simp [he, hd, ht]), hj, whole]
  rfl

theorem postSample_foreign (hh : h < 64) (hj : r.judged = true) (hq : r.reqOk = true) (hc : (s.view sd h).lastSample.clean s.time.tick = true)
    (hz : z < 64) (hf : s.foreignPulse h z r.pre r.eval (s.samples sd) = true) (hn : 1 ≤ (s.view sd h).foreign.getD z 0) :
    Gives (.pulsePostSample sd h) s fun t => t.isLive (fgBlock (z / 16)) 3 z = true ∧ t.isLive (fgBlock (h / 16)) 3 h = true ∧ (t.view sd h).pulse = none := by
  have hm : z ∈ seers s sd h r := List.mem_filter.mpr ⟨List.mem_range.mpr hz, hf⟩
  have count : 2 ≤ (sights (s.view sd h) (seers s sd h r)).getD z 0 := by
    rw [sights_getD _ _ hm]
    omega
  obtain ⟨l1, l2, v⟩ := reportAll_spec (sd := sd) (sights (s.view sd h) (seers s sd h r)) (seers s sd h r)
    (s.setView sd h { s.view sd h with pulse := none, foreign := sights (s.view sd h) (seers s sd h r) }) hh hz count hm
  refine ⟨_, postSample_judged hp he hd ht hh hj hq hc, l1, l2, ?_⟩
  rw [view_setView_self] at v
  exact (congrArg View.pulse v :)

end

theorem pulseOverdueCount_eq (s : State) (sd : Side) (h : Nat) : exec (.pulseOverdueCount sd h) s = .next (
    if (s.chanEntry h).isPulsed ∧ (4 ≤ (s.view sd h).missA ∨ 4 ≤ (s.view sd h).missB) then s.raise (fgBlock (h / 16)) 7 h (Side.bit sd) else s) := rfl

/-! #### What a pass records -/

theorem cover_missA (v : View) {r : PulseRun} (hm : r.mode ≠ mTEST_SRC) (eval : List Seen) (o : r.number % 2 = 0) :
    ((judgedView v r true eval).cover r).missA = 0 ∧ ((judgedView v r true eval).cover r).coverA = some r.start := by
  unfold View.cover judgedView View.miss
  rw [pulseOpens_eq hm, decide_eq_true o, if_neg (by omega)]
  exact ⟨rfl, rfl⟩

theorem cover_missB (v : View) {r : PulseRun} (hm : r.mode ≠ mTEST_SRC) (eval : List Seen) (o : ¬ r.number % 2 = 0) :
    ((judgedView v r true eval).cover r).missB = 0 ∧ ((judgedView v r true eval).cover r).coverB = some r.start := by
  unfold View.cover judgedView View.miss
  rw [pulseOpens_eq hm, decide_eq_false o, if_pos ⟨hm, by omega⟩]
  exact ⟨rfl, rfl⟩

theorem cover_pulse (v : View) (r : PulseRun) (eval : List Seen) :
    ((judgedView v r true eval).cover r).pulse = some { r with eval := eval, evalDone := true, judged := true } := rfl

end Sys2Proof.Pulses

namespace Sys2Proof.Proofs
open Sys2Proof.Machine Sys2Proof.Safety Sys2Proof.Occurrence Sys2Proof.Status Sys2Proof.Pulses

/-- Settles O43: the start, each row of Table 4.5 at the evaluation sample, the post-sample and the overdue count. -/
theorem testPulses : Obligations.TestPulses := by
  unfold Obligations.TestPulses
  intro s h hh e b
  refine ⟨fun f q hf hh' ho ht => ?_, fun sd r hp hd due slot hq hpre hnow ha hb hc hm => ?_, fun sd r hp he hd ht => ⟨fun hj => ?_, fun hj hq hc z hz hf hn => ?_⟩,
    fun sd => ⟨fun hp hm => ?_, fun ha hb => ?_⟩⟩
  · obtain ⟨t, ht, same, runs⟩ := pulseSlotStart_gives hf hh' ho ht
    refine ⟨t, ht, same, fun sd => ⟨_, runs sd, rfl, rfl, rfl, rfl, rfl, rfl, ?_, started_own⟩⟩
    exact Bool.and_eq_true_iff
  · have k : Judged s sd h r := ⟨hh, hp, hd, due, slot, hq, hpre, hnow, ha, hb, hc⟩
    intro opensA
    refine ⟨fun hx => ?_, fun hx => ?_, fun hx hy => ⟨fun hc hn => ?_, fun y hc hy' => ?_, fun hc hx' => ?_, fun hc hx' => ?_⟩⟩
    · obtain ⟨t, ht, p, -⟩ := evaluation_switches k hm (.inl (same_of_iff hx))
      exact ⟨t, ht, p (same_of_iff hx)⟩
    · obtain ⟨t, ht, -, p⟩ := evaluation_switches k hm (.inr (not_of_not_iff hx))
      exact ⟨t, ht, p (not_of_not_iff hx)⟩
    · exact evaluation_stuckOn k hm (not_of_not_iff hx) (same_of_iff hy) hc hn
    · exact evaluation_partner k hm (not_of_not_iff hx) (same_of_iff hy) hc hy'
    · exact evaluation_mid k hm (not_of_not_iff hx) (same_of_iff hy) hc (same_of_iff hx')
    · obtain ⟨t, ht, held, live, v⟩ := evaluation_passes k hm (not_of_not_iff hx) (same_of_iff hy) hc (not_of_not_iff hx')
      have missA : (t.view sd h).missA = _ := (congrArg View.missA v :)
      have coverA : (t.view sd h).coverA = _ := (congrArg View.coverA v :)
      have missB : (t.view sd h).missB = _ := (congrArg View.missB v :)
      have coverB : (t.view sd h).coverB = _ := (congrArg View.coverB v :)
      have pulse : (t.view sd h).pulse = _ := (congrArg View.pulse v :)
      refine ⟨t, ht, held, live, fun o => ?_, fun o => ?_, _, pulse, rfl, rfl⟩
      · rw [missA, coverA]
        exact cover_missA _ hm _ o
      · rw [missB, coverB]
        exact cover_missB _ hm _ o
  · exact postSample_unjudged hp he hd ht hj
  · exact postSample_foreign hp he hd ht hh hj hq hc hz hf hn
  · rw [pulseOverdueCount_eq, if_pos ⟨hp, hm⟩]
    rfl
  · rw [pulseOverdueCount_eq, if_neg (by omega)]

end Sys2Proof.Proofs

end

section
/-! PROOFS. Ports and their transmit queues, through occurrences and block resets (R236 to R241). -/

set_option Elab.async false

/-! ### Ports and their transmit queues (R236 to R241) -/

namespace Sys2Proof.Weir
open Sys2Proof.Machine Sys2Proof.Safety Sys2Proof.Laws Sys2Proof.Occurrence

variable {s t u : State} {k : Nat} {f g : TxFrame}

/-- A step that changes ports alone. -/
structure Ported (s t : State) : Prop where
  rest : SameBut [.weir] s t
  weir : t.weir = { s.weir with ports := t.weir.ports }

theorem Ported.refl (s : State) : Ported s s := ⟨.refl _ s, rfl⟩

theorem Ported.trans (h : Ported s t) (i : Ported t u) : Ported s u := ⟨h.rest.trans i.rest, i.weir.trans (by rw [h.weir])⟩

theorem Ported.ite {c : Prop} [Decidable c] (h : Ported s t) (i : Ported s u) : Ported s (if c then t else u) := by
  split
  · exact h
  · exact i

theorem setPort_ported (s : State) (k : Nat) (p : Port) : Ported s (s.setPort k p) := ⟨sameBut_weir _ _, rfl⟩

theorem Ported.conn (h : Ported s t) (sd : Side) (n : Nat) : t.conn sd n = s.conn sd n := by
  unfold State.conn
  rw [h.weir]

theorem Ported.time (h : Ported s t) : t.time = s.time := h.rest .time (by decide)

/-! #### The next frame starts -/

/-- A frame waits in a port or is on its wire. -/
def leaving (p : Port) (f : TxFrame) : Prop := f ∈ p.queue ++ p.wire.toList

/-- A port whose next frame starts. -/
def startedPort (mac tick : Nat) (p : Port) : Port :=
  if p.wire.isSome ∨ !p.linkUp then p
  else match p.pauseDue with
    | q :: more => { p with pauseDue := more, wire := some { kind := .pause, bytes := pauseFrameBytes mac q, conns := [], deadline := tick } }
    | [] =>
      if p.pause.isSome then p
      else match p.queue with
        | [] => p
        | f :: rest => { p with queue := rest, wire := some f }

theorem startTx_spec (s : State) (k : Nat) : Ported s (s.startTx k) ∧ (s.startTx k).port k = startedPort (s.portMac k) s.time.tick (s.port k) := by
  unfold State.startTx startedPort
  by_cases h : (s.port k).wire.isSome = true ∨ (!(s.port k).linkUp) = true
  · rw [if_pos h, if_pos h]
    exact ⟨.refl s, rfl⟩
  rw [if_neg h, if_neg h]
  cases (s.port k).pauseDue with
  | cons q more => exact ⟨setPort_ported .., port_setPort_self ..⟩
  | nil =>
    dsimp only
    cases (s.port k).pause.isSome with
    | true => exact ⟨.refl s, rfl⟩
    | false =>
      cases (s.port k).queue with
      | nil => exact ⟨.refl s, rfl⟩
      | cons f rest => exact ⟨setPort_ported .., port_setPort_self ..⟩

theorem startTx_ported (s : State) (k : Nat) : Ported s (s.startTx k) := (startTx_spec s k).1

theorem startTx_port (s : State) (k : Nat) : (s.startTx k).port k = startedPort (s.portMac k) s.time.tick (s.port k) := (startTx_spec s k).2

variable {mac tick : Nat} {p : Port}

theorem startedPort_busy (h : p.wire.isSome = true) : startedPort mac tick p = p := if_pos (.inl h)

theorem startedPort_down (h : p.linkUp = false) : startedPort mac tick p = p := if_pos (.inr (by rw [h]; rfl))

section
variable (hw : p.wire = none) (hl : p.linkUp = true)
include hw hl

theorem startedPort_pause {q : Nat} {more : List Nat} (hd : p.pauseDue = q :: more) : startedPort mac tick p =
    { p with pauseDue := more, wire := some { kind := .pause, bytes := pauseFrameBytes mac q, conns := [], deadline := tick } } := by
  unfold startedPort
  rw [if_neg (by simp [hw, hl]), hd]

theorem startedPort_paused (hd : p.pauseDue = []) (hp : p.pause.isSome = true) : startedPort mac tick p = p := by
  unfold startedPort
  rw [if_neg (by simp [hw, hl]), hd]
  exact if_pos hp

theorem startedPort_empty (hd : p.pauseDue = []) (hq : p.queue = []) : startedPort mac tick p = p := by
  unfold startedPort
  rw [if_neg (by simp [hw, hl]), hd, hq]
  exact ite_self p

theorem startedPort_head (hd : p.pauseDue = []) (hp : p.pause = none) (hq : p.queue = f :: rest) :
    startedPort mac tick p = { p with queue := rest, wire := some f } := by
  unfold startedPort
  rw [if_neg (by simp [hw, hl]), hd, hp, hq]
  rfl

end

theorem startedPort_leaving (h : leaving p f) : leaving (startedPort mac tick p) f := by
  unfold startedPort
  split
  · exact h
  next free =>
  have hw : p.wire = none := by
    rw [not_or, Option.not_isSome_iff_eq_none] at free
    exact free.1
  unfold leaving at h ⊢
  rw [hw] at h
  rw [Option.toList_none, List.append_nil] at h
  split
  · exact List.mem_append_left _ h
  · split
    · exact List.mem_append_left _ h
    · split
      · next hq =>
        rw [hq] at h
        cases h
      · next hq =>
        rw [hq] at h
        rcases List.mem_cons.mp h with e | e
        · exact List.mem_append_right _ (by rw [e]; exact List.mem_singleton_self _)
        · exact List.mem_append_left _ e

theorem startedPort_queue_nil (h : p.queue = []) : (startedPort mac tick p).queue = [] := by
  unfold startedPort
  split
  · exact h
  cases p.pauseDue with
  | cons q more => exact h
  | nil =>
    dsimp only
    rw [h]
    exact (congrArg Port.queue (ite_self p)).trans h

theorem startedPort_pause_eq (mac tick : Nat) (p : Port) : (startedPort mac tick p).pause = p.pause := by
  unfold startedPort
  split
  · rfl
  · split
    · rfl
    · split
      · rfl
      · split <;> rfl

/-! #### A frame takes a slot -/

/-- A port that sends: its link is up since an earlier tick. -/
def ready (s : State) (k : Nat) : Prop := (s.port k).linkUp = true ∧ (s.port k).upAt < s.time.tick

theorem queueFrame_takes (hr : ready s k) (hs : (s.port k).slotFree f.kind = true) :
    s.queueFrame k f = (s.setPort k { s.port k with queue := (s.port k).queue ++ [f] }).startTx k :=
  if_pos (by rw [hr.1, hs, decide_eq_true hr.2]; rfl)

theorem queueFrame_full (h : ¬ ready s k ∨ (s.port k).slotFree f.kind = false) :
    s.queueFrame k f = f.conns.foldl (fun s n => s.event bWEIR 18 n) s := by
  refine if_neg ?_
  rw [Bool.and_eq_true, Bool.and_eq_true, decide_eq_true_iff]
  rintro ⟨r, sl⟩
  rcases h with h | h
  · exact h r
  · rw [sl] at h
    cases h

theorem taken_leaving (s : State) (k : Nat) (f : TxFrame) (h : leaving (s.port k) g ∨ g = f) :
    leaving (((s.setPort k { s.port k with queue := (s.port k).queue ++ [f] }).startTx k).port k) g := by
  rw [startTx_port]
  refine startedPort_leaving ?_
  rw [port_setPort_self]
  unfold leaving at *
  simp only [List.mem_append, List.mem_singleton] at *
  rcases h with (h | h) | h
  · exact .inl (.inl h)
  · exact .inr h
  · exact .inl (.inr h)

theorem queueFrame_leaving (hr : ready s k) (hs : (s.port k).slotFree f.kind = true) : leaving ((s.queueFrame k f).port k) f := by
  rw [queueFrame_takes hr hs]
  exact taken_leaving s k f (.inr rfl)

theorem queueFrame_ported (hr : ready s k) (hs : (s.port k).slotFree f.kind = true) : Ported s (s.queueFrame k f) := by
  rw [queueFrame_takes hr hs]
  exact (setPort_ported ..).trans (startTx_ported ..)

/-- What waits or is on its way stays so when a frame without a connection is offered. -/
theorem queueFrame_keeps (hc : f.conns = []) (h : leaving (s.port k) g) : leaving ((s.queueFrame k f).port k) g := by
  by_cases e : ready s k ∧ (s.port k).slotFree f.kind = true
  · rw [queueFrame_takes e.1 e.2]
    exact taken_leaving s k f (.inl h)
  · rw [queueFrame_full (by rcases not_and_or.mp e with e | e; exacts [.inl e, .inr (Bool.eq_false_iff.mpr e)]), hc]
    exact h

/-! #### An occurrence of WEIR -/

/-- The ports as a reset of WEIR leaves them. -/
def resetPort (p : Port) : Port := { p with queue := [], wire := none, buffers := [] }

/-- An occurrence leaves the connections, and discards frames at most. -/
structure Occurred (s t : State) : Prop where
  weir : t.weir = { s.weir with ports := t.weir.ports, windows := t.weir.windows }
  time : t.time = { s.time with tau0 := t.time.tau0 }
  ports : ∀ k, t.port k = s.port k ∨ t.port k = resetPort (s.port k)
  live : ∀ b i n, s.isLive b i n = true → t.isLive b i n = true

theorem Occurred.refl (s : State) : Occurred s s := ⟨rfl, rfl, fun _ => .inl rfl, fun _ _ _ h => h⟩

theorem Occurred.trans (h : Occurred s t) (i : Occurred t u) : Occurred s u where
  weir := i.weir.trans (by rw [h.weir])
  time := i.time.trans (by rw [h.time])
  ports k := by
    rcases i.ports k with e | e <;> rcases h.ports k with e' | e' <;> rw [e, e']
    · exact .inl rfl
    · exact .inr rfl
    · exact .inr rfl
    · exact .inr rfl
  live b j n e := i.live b j n (h.live b j n e)

theorem Occurred.fewer (h : Occurred s t) (k : Nat) (f : TxFrame) (hf : leaving (t.port k) f) : leaving (s.port k) f := by
  rcases h.ports k with e | e <;> rw [e] at hf
  · exact hf
  · cases hf

theorem Occurred.queue_nil (h : Occurred s t) (hq : (s.port k).queue = []) : (t.port k).queue = [] := by
  rcases h.ports k with e | e <;> rw [e]
  · exact hq
  · rfl

theorem Occurred.conn (h : Occurred s t) (sd : Side) (n : Nat) : t.conn sd n = s.conn sd n := by
  unfold State.conn
  rw [h.weir]

theorem port_congr (h : t.weir = s.weir) (k : Nat) : t.port k = s.port k := by
  unfold State.port
  rw [h]

/-! ##### What a block reset does to WEIR -/

theorem abortSlice_weir (s : State) : s.abortSlice.weir = s.weir := by
  unfold State.abortSlice
  split
  · rfl
  next r _ =>
  split
  · rfl
  extract_lets +onlyGivenNames n f s1 w s2 v s3
  have h3 : s3.weir = s.weir := by
    unfold s3
    split
    · split <;> rfl
    · rfl
  exact (raiseWith_calm s3 (fun _ _ => .refl _) ..).weir.trans h3

theorem groupRestart_weir (s : State) (g : Nat) : (s.groupRestart g).weir = s.weir :=
  List.foldlRecOn (motive := fun t : State => t.weir = s.weir) _ _ rfl fun t ht c _ => by
    dsimp only
    split <;> exact ht

theorem abortUnitSlice_weir (s : State) (g : Nat) : (s.abortUnitSlice g).weir = s.weir := by
  unfold State.abortUnitSlice
  extract_lets +onlyGivenNames n f s1 w s2 v s3
  have h3 : s3.weir = s.weir := by
    unfold s3
    split
    · split
      · exact (answer_calm { s2 with rif := { s2.rif with selfTest := none } } _ _ _).weir
      · rfl
    · rfl
  exact (raiseWith_calm _ (fun _ _ => .refl _) ..).weir.trans ((groupRestart_weir s3 g).trans h3)

theorem brst_weir (s : State) {b : Nat} (hb : b ≠ bWEIR) : (s.brst b).weir = s.weir := by
  unfold State.brst
  split
  · rfl
  split
  · dsimp only
    split <;> rfl
  split
  · rfl
  split
  · exact (flushTrigger_calm ..).weir
  split
  · exact List.foldlRecOn (motive := fun t : State => t.weir = s.weir) _ _ (abortSlice_weir s) fun t ht g _ => (abortUnitSlice_weir t g).trans ht
  split
  · have h := groupRestart_weir s (b - 0x10)
    generalize s.groupRestart (b - 0x10) = u at h
    have after : ∀ v : State, v.weir = u.weir → (v.touchLines (v.scope b 16 (b - 0x10))).weir = s.weir := fun v hv =>
      (touchLines_calm ..).weir.trans (hv.trans h)
    exact after _ rfl
  · rfl

theorem weirReset_port (s : State) (k : Nat) : s.weirReset.port k = if k < 3 then resetPort (s.port k) else s.port k := by
  show (((s.setPort 0 (resetPort (s.port 0))).setPort 1 (resetPort ((s.setPort 0 _).port 1))).setPort 2
    (resetPort (((s.setPort 0 _).setPort 1 _).port 2))).port k = _
  simp only [port_setPort]
  by_cases h0 : k = 0
  · rw [h0]
    rfl
  by_cases h1 : k = 1
  · rw [h1]
    rfl
  by_cases h2 : k = 2
  · rw [h2]
    rfl
  · rw [if_neg h2, if_neg h1, if_neg h0, if_neg (by omega)]

theorem weirReset_congr (h : t.weir = s.weir) : t.weirReset.weir = s.weirReset.weir := by
  obtain ⟨time, dev, host, hs, faults, pairs, cfg, params, cells, field, weir, oxb, ros, pwr, clk, rif, bundles, mems, jtag, pending, free⟩ := t
  obtain rfl : weir = s.weir := h
  rfl

theorem brst_weir_cases (s : State) (b : Nat) : (s.brst b).weir = s.weir ∨ b = bWEIR ∧ (s.brst b).weir = s.weirReset.weir := by
  by_cases hb : b = bWEIR
  · subst hb
    unfold State.brst
    split
    · exact .inl rfl
    · exact .inr ⟨rfl, rfl⟩
  · exact .inl (brst_weir s hb)

theorem takeReactions_weir (s : State) (b i inst sev reacts : Nat) : (s.takeReactions State.brst b i inst sev reacts).weir = s.weir ∨
    b = bWEIR ∧ reacts / rBRST % 2 = 1 ∧ (s.takeReactions State.brst b i inst sev reacts).weir = s.weirReset.weir := by
  unfold State.takeReactions
  extract_lets s1 s2 s3
  have h2 : s2.weir = s.weir := ((react_calm ..).trans (severityEffect_calm ..)).weir
  have h3 : s3.weir = s.weir ∨ b = bWEIR ∧ reacts / rBRST % 2 = 1 ∧ s3.weir = s.weirReset.weir := by
    unfold s3
    split
    · next hr =>
      rw [← h2, ← weirReset_congr h2]
      exact (brst_weir_cases s2 b).imp id fun h => ⟨h.1, by simp_all, h.2⟩
    · exact .inl h2
  have h4 : (if reacts / rCRST % 2 = 1 then s3.crst else s3).weir = s3.weir := by
    split
    · exact (crst_calm _).weir
    · rfl
  rw [h4]
  exact h3

/-- WEIR after an occurrence: as it was, or reset by the source's own reaction. -/
theorem raise_weir (s : State) (b i inst who : Nat) : (s.raise b i inst who).weir = s.weir ∨
    b = bWEIR ∧ (s.effective b i inst).2 / rBRST % 2 = 1 ∧ (s.raise b i inst who).weir = s.weirReset.weir := by
  unfold State.raise State.raiseWith
  split
  · exact .inl rfl
  next src _ =>
  extract_lets mine
  split
  · exact .inl rfl
  split
  · exact .inl (extend_calm ..).weir
  generalize s.effective b i inst = x
  obtain ⟨sev, reacts⟩ := x
  dsimp only
  have h2 := (passToOxbow_calm s b i inst sev false).weir
  generalize s.passToOxbow b i inst sev false = y at h2 ⊢
  obtain ⟨v, r⟩ := y
  have after : ∀ u : State, u.weir = v.weir → (u.takeReactions State.brst b i inst sev reacts).weir = s.weir ∨
      b = bWEIR ∧ reacts / rBRST % 2 = 1 ∧ (u.takeReactions State.brst b i inst sev reacts).weir = s.weirReset.weir := by
    intro u hu
    rw [← hu.trans h2, ← weirReset_congr (hu.trans h2)]
    exact takeReactions_weir u ..
  exact after _ rfl

theorem raise_port (s : State) (b i inst who k : Nat) : (s.raise b i inst who).port k = s.port k ∨ (s.raise b i inst who).port k = resetPort (s.port k) := by
  rcases raise_weir s b i inst who with e | ⟨-, -, e⟩
  · exact .inl (port_congr e k)
  · rw [port_congr e, weirReset_port]
    split
    · exact .inr rfl
    · exact .inl rfl

theorem raise_window (s : State) (b i inst who : Nat) (sd : Side) (k : Nat) {d : Descriptor} (h : d ∈ (s.raise b i inst who).window sd k) : d ∈ s.window sd k := by
  unfold State.window at *
  rcases raise_weir s b i inst who with e | ⟨-, -, e⟩ <;> rw [e] at h
  · exact h
  · have get : ∀ (l : Tab (List Descriptor)) (j : Nat), Tab.getD (l.map (fun e => (e.1, e.2.filter (·.captured)))) j [] = (Tab.getD l j []).filter (·.captured) := by
      intro l j
      induction l with
      | nil => rfl
      | cons e l ih =>
        show Option.getD (if e.1 = j then some (e.2.filter (·.captured)) else Tab.get? (l.map _) j) [] =
          List.filter (·.captured) (Option.getD (if e.1 = j then some e.2 else Tab.get? l j) [])
        split
        · rfl
        · exact ih
    exact List.mem_of_mem_filter (get s.weir.windows _ ▸ h)

theorem raise_occurred (s : State) (b i inst who : Nat) : Occurred s (s.raise b i inst who) where
  weir := (raise_stirred ..).weir
  time := (raise_stirred ..).time
  ports := raise_port s b i inst who
  live := (raiseWith_grows s (fun u => brst_grows u b) i inst who).live

theorem event_occurred (s : State) (b i inst : Nat) : Occurred s (s.event b i inst) := raise_occurred s b i inst 0

theorem Occurred.foldl {α : Type} {f : State → α → State} (hf : ∀ s a, Occurred s (f s a)) (l : List α) (s : State) : Occurred s (l.foldl f s) :=
  List.foldlRecOn (motive := Occurred s) l f (.refl s) fun t ht a _ => ht.trans (hf t a)

theorem weir_live (s : State) {i : Nat} (n : Nat) (hi : i < 20) : (s.event bWEIR i n).isLive bWEIR i n = true := by
  have len : weirSources.length = 20 := rfl
  exact raise_isLive (src := weirSources[i]) 0 (List.getElem?_eq_getElem (by omega)) (.inl (by decide))

end Sys2Proof.Weir

end

section
/-! PROOFS. ANNOUNCE and control PDUs (R206, R221). -/

set_option Elab.async false

/-! ### ANNOUNCE, DATA PDUs and control PDUs are built and queued (R206, R210, R211, R221) -/

namespace Sys2Proof.Weir
open Sys2Proof.Machine Sys2Proof.Safety Sys2Proof.Laws Sys2Proof.Occurrence

variable {s t u : State} {k n : Nat} {sd : Side}

/-! #### ANNOUNCE -/

/-- The ANNOUNCE frame of a port in Ethernet II, untagged. -/
def announcement (s : State) (k : Nat) : TxFrame :=
  ⟨.control, padFrame (carry ⟨macBroadcast, s.portMac k, none, s.params.etherType, none⟩
    (announceFrame s.identity (s.devCont.hash.take 4) (s.announceGens k))), [], s.time.tick + 20⟩

/-- An ANNOUNCE of port k in a carriage. -/
def announceIn (body : List Byte) (k : Nat) (s : State) (c : Carriage) : State :=
  s.queueFrame k { kind := .control, bytes := carried c body, conns := [], deadline := s.time.tick + tMS }

theorem announceCarriages_ethernet (hn : n ∈ s.connsInUse) (hp : (s.connEntry n).port = k) (hu : (s.partnerOf n).udp = false) :
    ∃ cs, s.announceCarriages k = ⟨macBroadcast, s.portMac k, none, s.params.etherType, none⟩ :: cs := by
  unfold State.announceCarriages
  extract_lets mine tcis udp kinds
  have plain : mine.any (fun n => !(s.partnerOf n).udp) = true :=
    List.any_eq_true.mpr ⟨n, List.mem_filter.mpr ⟨hn, beq_iff_eq.mpr hp⟩, by rw [hu]; rfl⟩
  have hk : kinds = none :: (if mine.any (fun n => (s.partnerOf n).udp) then [udp] else []) := by
    unfold kinds
    rw [if_pos plain]
    rfl
  rw [hk]
  exact ⟨_, rfl⟩

section
variable {τ : Nat} (hw : s.weirOn = true) (ho : s.dev.st.opens = true) (hs : s.sideRuns .a = true) (ht : s.tau = some τ)
include ht

theorem announceTransmit_waits (hp : τ % 2000 ≠ 100 * k) : exec (.announceTransmit k) s = .next s := by
  refine congrArg Host.Outcome.next (if_pos (.inr (.inr (.inl ?_))))
  rw [ht, Bool.not_eq_true', beq_eq_false_iff_ne]
  exact hp

include hw ho hs

theorem announceTransmit_eq (hn : n ∈ s.connsInUse) (he : (s.connEntry n).port = k) (hc : (s.conn .a n).st ≠ .run) (hp : τ % 2000 = 100 * k) :
    exec (.announceTransmit k) s = .next ((s.announceCarriages k).foldl
      (announceIn (announceFrame s.identity (s.devCont.hash.take 4) (s.announceGens k)) k) s) := by
  refine congrArg Host.Outcome.next (if_neg ?_)
  have any : (s.connsInUse.filter (fun n => (s.connEntry n).port == k)).any (fun n => (s.conn .a n).st != .run) = true :=
    List.any_eq_true.mpr ⟨n, List.mem_filter.mpr ⟨hn, beq_iff_eq.mpr he⟩, bne_iff_ne.mpr hc⟩
  rw [ht, hw, ho, hs, any]
  simp [hp]

theorem announceTransmit_gives (hn : n ∈ s.connsInUse) (he : (s.connEntry n).port = k) (hc : (s.conn .a n).st ≠ .run)
    (hu : (s.partnerOf n).udp = false) (hp : τ % 2000 = 100 * k) (hr : ready s k) (hf : (s.port k).slotFree .control = true) :
    Gives (.announceTransmit k) s fun t => (∀ f ∈ (s.port k).queue, leaving (t.port k) f) ∧ leaving (t.port k) (announcement s k) := by
  obtain ⟨cs, hcs⟩ := announceCarriages_ethernet hn he hu
  refine ⟨_, announceTransmit_eq hw ho hs ht hn he hc hp, ?_⟩
  rw [hcs, List.foldl_cons]
  unfold announcement
  generalize announceFrame s.identity (s.devCont.hash.take 4) (s.announceGens k) = body
  have first : leaving ((announceIn body k s ⟨macBroadcast, s.portMac k, none, s.params.etherType, none⟩).port k) _ := queueFrame_leaving hr hf
  have others : ∀ f ∈ (s.port k).queue, leaving ((announceIn body k s ⟨macBroadcast, s.portMac k, none, s.params.etherType, none⟩).port k) f :=
    fun f hf => queueFrame_keeps rfl (List.mem_append_left _ hf)
  have keeps : ∀ (g : TxFrame) (v : State), leaving (v.port k) g → leaving ((cs.foldl (announceIn body k) v).port k) g :=
    fun g v h => List.foldlRecOn (motive := fun v : State => leaving (v.port k) g) cs _ h fun _ i c _ => queueFrame_keeps rfl i
  exact ⟨fun f hf => keeps _ _ (others f hf), keeps _ _ first⟩

end

/-! #### The connections of a state that differs in WEIR and by occurrences -/

theorem connsInUse_congr (hd : t.dev.loaded = s.dev.loaded) (hl : t.cfg.live = s.cfg.live) (hr : t.cfg.running = s.cfg.running)
    (ht : t.time.tick = s.time.tick) : t.connsInUse = s.connsInUse := by
  have run : t.runCont = s.runCont := by
    unfold State.runCont
    rw [hr]
  have next : t.nextCont = s.nextCont := by
    unfold State.nextCont
    rw [hl]
  have entry : t.connEntry = s.connEntry := by
    funext n
    unfold State.connEntry State.connPassed State.joinedConn
    rw [hl, ht, run, next]
  unfold State.connsInUse
  rw [hd, run, next, entry]

theorem event_connsInUse (s : State) (b i n : Nat) : (s.event b i n).connsInUse = s.connsInUse := by
  have h := event_stirred s b i n
  exact connsInUse_congr (congrArg DevSt.loaded h.dev :) (congrArg ConfigSt.live h.cfg :) (congrArg ConfigSt.running h.cfg :) (congrArg TimeSt.tick h.time :)

theorem sameBut_connsInUse (h : SameBut [.weir] s t) : t.connsInUse = s.connsInUse :=
  connsInUse_congr (congrArg DevSt.loaded (h .dev (by decide))) (congrArg ConfigSt.live (h .cfg (by decide))) (congrArg ConfigSt.running (h .cfg (by decide)))
    (congrArg TimeSt.tick (h .time (by decide)))

/-! #### Control PDUs -/

theorem owedControl_none (h : (s.conn sd n).due = none) : s.owedControl sd n = none := by
  unfold State.owedControl
  rw [h]

theorem owedControl_later (h : ∀ d, (s.conn sd n).due = some d → s.time.tick < d.at_) : s.owedControl sd n = none := by
  unfold State.owedControl
  cases e : (s.conn sd n).due with
  | none => rfl
  | some d => exact if_pos (h d e)

theorem owedControl_due {d : DueControl} (h : (s.conn sd n).due = some d) (ht : d.at_ ≤ s.time.tick) (hl : s.dev.st ≠ .latched) :
    s.owedControl sd n = some d := by
  unfold State.owedControl
  rw [h]
  dsimp only
  rw [if_neg (by omega), if_pos (bne_iff_ne.mpr hl)]

/-- The connection of a channel with no control PDU due. -/
def sentConn (s : State) (sd : Side) (n : Nat) : State := s.setConn sd n { s.conn sd n with due := none }

theorem controlSent_eq (hl : s.dev.st ≠ .latched) : s.controlSent sd n = sentConn s sd n := by
  have no : (s.dev.st == .latched && (s.conn sd n).due.any (fun d => d.ftype == ftACK)) = false := by
    rw [beq_eq_false_iff_ne.mpr hl, Bool.false_and]
  unfold State.controlSent
  dsimp only
  rw [no]
  rfl

theorem sentConn_conn_ne {sd' : Side} (h : sd' ≠ sd) : (sentConn s sd n).conn sd' n = s.conn sd' n := conn_setConn_of_ne _ _ _ _ (by simp [h])

theorem sentConn_due : ((sentConn s sd n).conn sd n).due = none := by rw [sentConn, conn_setConn_self]

/-- Both channels' control PDUs of the connection have gone. -/
def sentBoth (s : State) (n : Nat) : State := sentConn (sentConn s .a n) .b n

theorem sentBoth_due (s : State) (n : Nat) (sd : Side) : ((sentBoth s n).conn sd n).due = none := by
  cases sd
  · rw [sentBoth, sentConn_conn_ne (by decide), sentConn_due]
  · exact sentConn_due

/-- The frame of a control PDU whose halves the channels wrote from x and y. -/
def controlFrame (s : State) (n : Nat) (x y : DueControl) : TxFrame :=
  { kind := .control, conns := [n], deadline := s.time.tick + tMS,
    bytes := carried (s.carriage n) (frameHeader x.ftype 1 x.gen ++ withCrcs x.gen (s.ctlBody n x) (s.ctlBody n y)
      (ctlPrefix (s.connEntry n).uid (x.ftype == ftOPEN)) (ctlPrefix (s.connEntry n).uid (y.ftype == ftOPEN))) }

/-- A channel's control PDU goes where one is owed. -/
def sentOwed (s : State) (n : Nat) (sd : Side) : State := if (s.owedControl sd n).isSome then s.controlSent sd n else s

theorem sentOwed_none (h : s.owedControl sd n = none) : sentOwed s n sd = s := by
  unfold sentOwed
  rw [h]
  rfl

theorem sentOwed_some {x : DueControl} (hl : s.dev.st ≠ .latched) (h : s.owedControl sd n = some x) : sentOwed s n sd = sentConn s sd n := by
  unfold sentOwed
  rw [h]
  exact controlSent_eq hl

theorem sendControl_eq (s : State) (n : Nat) : s.sendControl n =
    (match s.dueControl .a n, s.dueControl .b n with
      | none, none => if (s.owedControl .a n).isSome || (s.owedControl .b n).isSome then (sentOwed (sentOwed s n .a) n .b).event bWEIR 10 n
        else sentOwed (sentOwed s n .a) n .b
      | some x, some y => (sentOwed (sentOwed s n .a) n .b).queueFrame ((sentOwed (sentOwed s n .a) n .b).connEntry n).port
        (controlFrame (sentOwed (sentOwed s n .a) n .b) n x y)
      | _, _ => (sentOwed (sentOwed s n .a) n .b).event bWEIR 10 n) := rfl

theorem sendControl_idle (ha : (s.conn .a n).due = none) (hb : (s.conn .b n).due = none) : s.sendControl n = s := by
  rw [sendControl_eq]
  unfold State.dueControl
  rw [sentOwed_none (owedControl_none ha), owedControl_none ha, owedControl_none hb, sentOwed_none (owedControl_none hb), ite_self, ite_self]
  rfl

theorem dueControl_of (h : s.sideRuns sd = true) : s.dueControl sd n = s.owedControl sd n := if_pos h

section
variable (hl : s.dev.st ≠ .latched)
include hl

theorem sendControl_both (hr : ∀ sd, s.sideRuns sd = true) {x y : DueControl} (hx : s.owedControl .a n = some x) (hy : s.owedControl .b n = some y) :
    s.sendControl n = (sentBoth s n).queueFrame (s.connEntry n).port (controlFrame s n x y) := by
  have oy : (sentConn s .a n).owedControl .b n = some y := by
    rw [← hy]
    unfold State.owedControl
    rw [sentConn_conn_ne (by decide)]
    rfl
  rw [sendControl_eq, dueControl_of (hr .a), dueControl_of (hr .b), hx, hy, sentOwed_some hl hx, sentOwed_some (s := sentConn s .a n) hl oy]
  rfl

theorem sendControl_half {sd' : Side} (hne : sd ≠ sd') (hr : ∀ sd, s.sideRuns sd = true) {x : DueControl} (hx : s.owedControl sd n = some x)
    (hy : s.owedControl sd' n = none) : s.sendControl n = (sentConn s sd n).event bWEIR 10 n := by
  cases sd
  · cases sd'
    · exact absurd rfl hne
    have oy : (sentConn s .a n).owedControl .b n = none := by
      rw [← hy]
      unfold State.owedControl
      rw [sentConn_conn_ne (by decide)]
      rfl
    rw [sendControl_eq, dueControl_of (hr .a), dueControl_of (hr .b), hx, hy, sentOwed_some hl hx, sentOwed_none oy]
  · cases sd'
    · rw [sendControl_eq, dueControl_of (hr .a), dueControl_of (hr .b), hx, hy, sentOwed_none hy, sentOwed_some hl hx]
    · exact absurd rfl hne

end

end Sys2Proof.Weir

end

section
/-! PROOFS. The assembly of a tick's DATA PDUs (R210, R211). -/

set_option Elab.async false

/-! ### PDU_TRANSMIT (R210, R211, R216, R221, R239, R241) -/

namespace Sys2Proof.Weir
open Sys2Proof.Machine Sys2Proof.Safety Sys2Proof.Laws Sys2Proof.Occurrence

variable {s t u : State} {k n : Nat} {sd : Side}

theorem pduTransmit_done (h : s.weir.txTick = some s.time.tick) : exec .pduTransmit s = .next s := congrArg Host.Outcome.next (if_pos (.inr (.inr h)))

/-- A state whose assembly of this tick has begun. -/
def assembling (s : State) : State := { s with weir := { s.weir with txTick := some s.time.tick } }

/-- Both channels' v_t go on where they build. -/
def advanced (s : State) (n : Nat) : State := (s.advanceVt .a n).advanceVt .b n

theorem buildsData_advanceVt (s : State) (n : Nat) : (s.advanceVt .a n).buildsData .b n = s.buildsData .b n := by
  unfold State.advanceVt
  split
  · unfold State.buildsData State.sendsData
    rw [conn_setConn_of_ne _ _ _ _ (by simp)]
    rfl
  · rfl

/-- What the assembly of a due connection changes: WEIR alone, and of it the connection's v_t. -/
theorem advanced_spec (s : State) (n : Nat) : SameBut [.weir] s (advanced s n) ∧
    (advanced s n).weir = { s.weir with conns := (advanced s n).weir.conns } ∧
    ∀ sd, (advanced s n).conn sd n = if s.buildsData sd n then { s.conn sd n with vt := (s.conn sd n).vt + 1 } else s.conn sd n := by
  have one : ∀ (v : State) (sd : Side), SameBut [.weir] v (v.advanceVt sd n) ∧ (v.advanceVt sd n).weir = { v.weir with conns := (v.advanceVt sd n).weir.conns } ∧
      (v.advanceVt sd n).conn sd n = (if v.buildsData sd n then { v.conn sd n with vt := (v.conn sd n).vt + 1 } else v.conn sd n) ∧
      ∀ sd', sd' ≠ sd → (v.advanceVt sd n).conn sd' n = v.conn sd' n := by
    intro v sd
    unfold State.advanceVt
    split
    · exact ⟨sameBut_weir _ _, rfl, conn_setConn_self .., fun sd' h => conn_setConn_of_ne _ _ _ _ (by simp [h])⟩
    · exact ⟨.refl _ _, rfl, rfl, fun _ _ => rfl⟩
  obtain ⟨a1, a2, a3, a4⟩ := one s .a
  obtain ⟨b1, b2, b3, b4⟩ := one (s.advanceVt .a n) .b
  refine ⟨a1.trans b1, b2.trans (by rw [a2]; rfl), ?_⟩
  rintro (_ | _)
  · exact (b4 .a (by decide)).trans a3
  · rw [buildsData_advanceVt, a4 .b (by decide)] at b3
    exact b3

/-- The connection's DATA PDU with the frame it goes in. -/
def dataFrame (s : State) (n : Nat) (x : Session) : TxFrame :=
  { kind := .data, conns := [n], deadline := s.time.tick + 5 * (s.connEntry n).period,
    bytes := carried (s.carriage n) (frameHeader (if x.gen = 2 then ftDATA2 else ftDATA1) 1 x.gen ++
      withCrcs x.gen ((s.dataPdu .a n).body x.gen) ((s.dataPdu .b n).body x.gen) (s.dataPrefix .a n) (s.dataPrefix .b n)) }

/-- The state with the due connection's PDU assembled. -/
def assembled (s : State) (n : Nat) : State :=
  if s.txDue n then
    let built := ([n] : List Nat).filterMap (assembling s).assemble
    let half := [n].filter (fun n => ((assembling s).sendsData .a n || (assembling s).sendsData .b n) &&
      !((assembling s).buildsData .a n && (assembling s).buildsData .b n))
    (dataFrames built.length built).foldl State.queueData (half.foldl (fun s n => s.event bWEIR 10 n) (advanced (assembling s) n))
  else assembling s

section
variable (hw : s.weirOn = true) (hc : s.dev.st.connects = true) (hx : s.weir.txTick ≠ some s.time.tick) (hu : s.connsInUse = [n])
include hw hc hx hu

theorem pduTransmit_eq : exec .pduTransmit s = .next ((assembled s n).connsInUse.foldl State.sendControl (assembled s n)) := by
  refine congrArg Host.Outcome.next ((if_neg (by simp [hw, hc, hx])).trans ?_)
  have use : (assembling s).connsInUse = [n] := hu
  show (let s := assembling s
      let due := s.connsInUse.filter s.txDue
      let built := due.filterMap s.assemble
      let half := due.filter (fun n => (s.sendsData .a n || s.sendsData .b n) && !(s.buildsData .a n && s.buildsData .b n))
      let s := due.foldl (fun s n => (s.advanceVt .a n).advanceVt .b n) s
      let s := half.foldl (fun s n => s.event bWEIR 10 n) s
      let s := (dataFrames built.length built).foldl State.queueData s
      s.connsInUse.foldl State.sendControl s) = _
  dsimp only
  rw [use]
  unfold assembled
  cases h : s.txDue n with
  | true =>
    have f : [n].filter (assembling s).txDue = [n] := List.filter_cons_of_pos h
    rw [f]
    rfl
  | false =>
    have f : [n].filter (assembling s).txDue = [] := List.filter_cons_of_neg (by rw [show (assembling s).txDue n = _ from h]; decide)
    rw [f]
    rfl

/-- With no control PDU due, the assembly is all. -/
theorem pduTransmit_data (use : (assembled s n).connsInUse = [n]) (ha : ((assembled s n).conn .a n).due = none) (hb : ((assembled s n).conn .b n).due = none) :
    exec .pduTransmit s = .next (assembled s n) := by
  rw [pduTransmit_eq hw hc hx hu, use, List.foldl_cons, List.foldl_nil, sendControl_idle ha hb]

section
variable (hd : s.txDue n = true)
include hd

omit hw hc hx hu in
theorem assembled_built (ha : s.buildsData .a n = true) (hb : s.buildsData .b n = true) {x : Session} (hs : (s.conn .a n).session = some x) :
    assembled s n = (advanced (assembling s) n).queueFrame (s.connEntry n).port (dataFrame s n x) := by
  have a' : (assembling s).buildsData .a n = true := ha
  have b' : (assembling s).buildsData .b n = true := hb
  have asm : (assembling s).assemble n = some ⟨n, x.gen, (s.connEntry n).port, s.carriage n,
      withCrcs x.gen ((s.dataPdu .a n).body x.gen) ((s.dataPdu .b n).body x.gen) (s.dataPrefix .a n) (s.dataPrefix .b n)⟩ := by
    unfold State.assemble
    rw [if_pos (by rw [a', b']; rfl)]
    rw [show ((assembling s).conn .a n).session = some x from hs]
    rfl
  have same := (advanced_spec (assembling s) n).1
  unfold assembled
  rw [if_pos hd]
  dsimp only
  rw [List.filter_cons_of_neg (by rw [a', b']; simp), List.filterMap_cons_some asm]
  generalize advanced (assembling s) n = w at same
  have time : w.time = s.time := same .time (by decide)
  have entry : (w.connEntry n).period = (s.connEntry n).period := by
    unfold State.connEntry State.connPassed State.joinedConn State.runCont State.nextCont
    rw [time, show w.cfg = s.cfg from same .cfg (by decide)]
  have frames : ∀ y : Assembled, dataFrames [y].length [y] = [[y]] := by
    intro y
    show dataFrames 1 [y] = _
    unfold dataFrames
    split <;> rfl
  have queued : ∀ y : Assembled, w.queueData [y] = w.queueFrame y.port ⟨.data,
      carried y.carriage (frameHeader (if y.gen = 2 then ftDATA2 else ftDATA1) 1 y.gen ++ y.bytes), [y.conn], w.time.tick + 5 * (w.connEntry y.conn).period⟩ := by
    intro y
    unfold State.queueData
    simp
  show (dataFrames [_].length [_]).foldl State.queueData w = _
  rw [frames, List.foldl_cons, List.foldl_nil, queued]
  show w.queueFrame _ _ = _
  dsimp only
  rw [time, entry]
  rfl

omit hw hc hx hu in
theorem assembled_half (hh : s.sendsData .a n = true ∨ s.sendsData .b n = true) (hb : ¬(s.buildsData .a n = true ∧ s.buildsData .b n = true)) :
    assembled s n = (advanced (assembling s) n).event bWEIR 10 n := by
  have no : ((assembling s).buildsData .a n && (assembling s).buildsData .b n) = false := Bool.eq_false_iff.mpr fun e => hb (Bool.and_eq_true_iff.mp e)
  have some' : ((assembling s).sendsData .a n || (assembling s).sendsData .b n) = true := Bool.or_eq_true_iff.mpr hh
  have asm : (assembling s).assemble n = none := by
    unfold State.assemble
    rw [no]
    rfl
  unfold assembled
  rw [if_pos hd]
  dsimp only
  rw [List.filter_cons_of_pos (by rw [no, some']; rfl), List.filterMap_cons_none asm]
  rfl

end

end

end Sys2Proof.Weir

end

section
/-! PROOFS. What PDU_TRANSMIT leaves (R241). -/

set_option Elab.async false

/-! ### What PDU_TRANSMIT leaves (R211, R221, R241) -/

namespace Sys2Proof.Weir
open Sys2Proof.Machine Sys2Proof.Safety Sys2Proof.Laws Sys2Proof.Occurrence

variable {s t u : State} {k n : Nat} {sd : Side}

theorem advanced_ports (s : State) (n k : Nat) : (advanced s n).port k = s.port k := by
  unfold State.port
  rw [(advanced_spec s n).2.1]

theorem advanced_time (s : State) (n : Nat) : (advanced s n).time = s.time := (advanced_spec s n).1 .time (by decide)

/-- The connection's control PDU and its v_t after the assembly. -/
theorem advanced_due (s : State) (n : Nat) (sd : Side) : ((advanced s n).conn sd n).due = (s.conn sd n).due := by
  rw [(advanced_spec s n).2.2 sd]
  split <;> rfl

theorem advanced_vt (h : s.buildsData sd n = true) : ((advanced s n).conn sd n).vt = (s.conn sd n).vt + 1 := by
  rw [(advanced_spec s n).2.2 sd, if_pos h]

theorem advanced_connsInUse (s : State) (n : Nat) : (advanced s n).connsInUse = s.connsInUse := sameBut_connsInUse (advanced_spec s n).1

theorem ready_advanced (h : ready s k) : ready (advanced (assembling s) n) k := by
  unfold ready
  rw [advanced_ports, advanced_time]
  exact h

section
variable (hw : s.weirOn = true) (hc : s.dev.st.connects = true) (hx : s.weir.txTick ≠ some s.time.tick) (hu : s.connsInUse = [n])
include hw hc hx hu

section
variable (hd : s.txDue n = true) (da : (s.conn .a n).due = none) (db : (s.conn .b n).due = none)
include hd da db

omit hw hc hx hu hd in
theorem advanced_idle (sd : Side) : ((advanced (assembling s) n).conn sd n).due = none := by
  rw [advanced_due]
  cases sd
  · exact da
  · exact db

/-- A due connection whose halves both channels build gets a slot. -/
theorem dataPdu_leaves (ha : s.buildsData .a n = true) (hb : s.buildsData .b n = true) {x : Session} (hs : (s.conn .a n).session = some x)
    (hr : ready s (s.connEntry n).port) (hf : (s.port (s.connEntry n).port).slotFree .data = true) :
    Gives .pduTransmit s fun t => t.weir.txTick = some s.time.tick ∧ (∀ sd, (t.conn sd n).vt = (s.conn sd n).vt + 1) ∧
      leaving (t.port (s.connEntry n).port) (dataFrame s n x) := by
  have ea := assembled_built hd ha hb hs
  have slot : ((advanced (assembling s) n).port (s.connEntry n).port).slotFree (dataFrame s n x).kind = true := by
    rw [advanced_ports]
    exact hf
  have por : Ported (advanced (assembling s) n) (assembled s n) := by
    rw [ea]
    exact queueFrame_ported (ready_advanced hr) slot
  have use : (assembled s n).connsInUse = [n] := (sameBut_connsInUse por.rest).trans ((advanced_connsInUse _ n).trans hu)
  have idle := advanced_idle da db
  refine ⟨_, pduTransmit_data hw hc hx hu use (by rw [por.conn, idle]) (by rw [por.conn, idle]), ?_, fun sd => ?_, ?_⟩
  · rw [por.weir, (advanced_spec (assembling s) n).2.1]
    rfl
  · rw [por.conn, advanced_vt (by cases sd; exacts [ha, hb])]
    rfl
  · rw [ea]
    exact queueFrame_leaving (ready_advanced hr) slot

omit hw hc hx hu hd da db in
theorem fewer_of (ea : Occurred (advanced (assembling s) n) t) (f : TxFrame) (h : leaving (t.port k) f) : leaving (s.port k) f := by
  have := ea.fewer k f h
  rw [advanced_ports] at this
  exact this

omit hw hc hx hd da db in
theorem occurred_connsInUse {i m : Nat} (e : t = (advanced (assembling s) n).event bWEIR i m) : t.connsInUse = [n] := by
  rw [e, event_connsInUse, advanced_connsInUse]
  exact hu

/-- Without a slot the PDU is not sent and counts; v_t has gone on. -/
theorem dataPdu_full (ha : s.buildsData .a n = true) (hb : s.buildsData .b n = true)
    (hf : ¬ ready s (s.connEntry n).port ∨ (s.port (s.connEntry n).port).slotFree .data = false) :
    Gives .pduTransmit s fun t => t.isLive bWEIR 18 n = true ∧ (∀ k f, leaving (t.port k) f → leaving (s.port k) f) ∧
      ∀ sd, (t.conn sd n).vt = (s.conn sd n).vt + 1 := by
  obtain ⟨x, hs⟩ : ∃ x, (s.conn .a n).session = some x := by
    unfold State.buildsData State.sendsData at ha
    simp only [Bool.and_eq_true] at ha
    exact Option.isSome_iff_exists.mp ha.2.1
  have ea : assembled s n = (advanced (assembling s) n).event bWEIR 18 n := by
    refine (assembled_built hd ha hb hs).trans (queueFrame_full ?_)
    rw [advanced_ports]
    refine hf.imp (fun h r => h ?_) id
    unfold ready at r
    rw [advanced_ports, advanced_time] at r
    exact r
  have occ : Occurred (advanced (assembling s) n) (assembled s n) := by
    rw [ea]
    exact event_occurred ..
  have idle := advanced_idle da db
  refine ⟨_, pduTransmit_data hw hc hx hu (occurred_connsInUse hu ea) (by rw [occ.conn, idle]) (by rw [occ.conn, idle]), ?_, fun k => fewer_of occ, fun sd => ?_⟩
  · rw [ea]
    exact weir_live _ n (by decide)
  · rw [occ.conn, advanced_vt (by cases sd; exacts [ha, hb])]
    rfl

/-- A PDU that lacks a half is not sent and counts. -/
theorem dataPdu_half (hh : s.sendsData .a n = true ∨ s.sendsData .b n = true) (hb : ¬(s.buildsData .a n = true ∧ s.buildsData .b n = true)) :
    Gives .pduTransmit s fun t => t.isLive bWEIR 10 n = true ∧ ∀ k f, leaving (t.port k) f → leaving (s.port k) f := by
  have ea := assembled_half hd hh hb
  have occ : Occurred (advanced (assembling s) n) (assembled s n) := by
    rw [ea]
    exact event_occurred ..
  have idle := advanced_idle da db
  refine ⟨_, pduTransmit_data hw hc hx hu (occurred_connsInUse hu ea) (by rw [occ.conn, idle]) (by rw [occ.conn, idle]), ?_, fun k => fewer_of occ⟩
  rw [ea]
  exact weir_live _ n (by decide)

end

section
variable (hd : s.txDue n = false) (hl : s.dev.st ≠ .latched) (hr : ∀ sd, s.sideRuns sd = true)
include hd hl hr

omit hw hc hx hu hl hr in
theorem assembled_not : assembled s n = assembling s := by
  unfold assembled
  rw [hd]
  rfl

omit hl hr in
theorem pduTransmit_control : exec .pduTransmit s = .next ((assembling s).sendControl n) := by
  rw [pduTransmit_eq hw hc hx hu, assembled_not hd, show (assembling s).connsInUse = [n] from hu]
  rfl

omit hd hl hr hw hc hx hu in
theorem sentBoth_ports (s : State) (n k : Nat) : (sentBoth s n).port k = s.port k := rfl

/-- The control PDU whose halves both channels hold. -/
theorem controlPdu_leaves {x y : DueControl} (ha : (s.conn .a n).due = some x) (hb : (s.conn .b n).due = some y) (ta : x.at_ ≤ s.time.tick)
    (tb : y.at_ ≤ s.time.tick) (hs : ready s (s.connEntry n).port) (hf : (s.port (s.connEntry n).port).slotFree .control = true) :
    Gives .pduTransmit s fun t => (∀ sd, (t.conn sd n).due = none) ∧ leaving (t.port (s.connEntry n).port) (controlFrame s n x y) := by
  have e : (assembling s).sendControl n = (sentBoth (assembling s) n).queueFrame (s.connEntry n).port (controlFrame s n x y) :=
    sendControl_both (s := assembling s) hl hr (owedControl_due (s := assembling s) ha ta hl) (owedControl_due (s := assembling s) hb tb hl)
  refine ⟨_, (pduTransmit_control hw hc hx hu hd).trans (congrArg _ e), fun sd => ?_, queueFrame_leaving hs hf⟩
  rw [(queueFrame_ported (s := sentBoth (assembling s) n) (f := controlFrame s n x y) hs hf).conn]
  exact sentBoth_due ..

theorem controlPdu_full {x y : DueControl} (ha : (s.conn .a n).due = some x) (hb : (s.conn .b n).due = some y) (ta : x.at_ ≤ s.time.tick)
    (tb : y.at_ ≤ s.time.tick) (hf : ¬ ready s (s.connEntry n).port ∨ (s.port (s.connEntry n).port).slotFree .control = false) :
    Gives .pduTransmit s fun t => (∀ sd, (t.conn sd n).due = none) ∧ t.isLive bWEIR 18 n = true ∧ ∀ k f, leaving (t.port k) f → leaving (s.port k) f := by
  have e : (assembling s).sendControl n = (sentBoth (assembling s) n).event bWEIR 18 n :=
    (sendControl_both (s := assembling s) hl hr (owedControl_due (s := assembling s) ha ta hl) (owedControl_due (s := assembling s) hb tb hl)).trans
      (queueFrame_full hf)
  have occ := event_occurred (sentBoth (assembling s) n) bWEIR 18 n
  refine ⟨_, (pduTransmit_control hw hc hx hu hd).trans (congrArg _ e), fun sd => ?_, weir_live _ n (by decide), fun k => occ.fewer k⟩
  rw [occ.conn]
  exact sentBoth_due ..

theorem controlPdu_half {sd' : Side} {x : DueControl} (hne : sd ≠ sd') (ha : (s.conn sd n).due = some x) (ta : x.at_ ≤ s.time.tick)
    (hb : ∀ y, (s.conn sd' n).due = some y → s.time.tick < y.at_) :
    Gives .pduTransmit s fun t => (t.conn sd n).due = none ∧ t.isLive bWEIR 10 n = true ∧ ∀ k f, leaving (t.port k) f → leaving (s.port k) f := by
  have e : (assembling s).sendControl n = (sentConn (assembling s) sd n).event bWEIR 10 n :=
    sendControl_half (s := assembling s) hl hne hr (owedControl_due (s := assembling s) ha ta hl) (owedControl_later (s := assembling s) hb)
  have occ := event_occurred (sentConn (assembling s) sd n) bWEIR 10 n
  refine ⟨_, (pduTransmit_control hw hc hx hu hd).trans (congrArg _ e), ?_, weir_live _ n (by decide), fun k => occ.fewer k⟩
  rw [occ.conn]
  exact sentConn_due

end

end

end Sys2Proof.Weir

end

section
/-! PROOFS. The wire, PAUSE frames and the count of stale frames (R236, R237, R241). -/

set_option Elab.async false

/-! ### The wire, PAUSE and stale frames (R236, R237, R241, R246) -/

namespace Sys2Proof.Weir
open Sys2Proof.Machine Sys2Proof.Safety Sys2Proof.Laws Sys2Proof.Occurrence

variable {s t u : State} {k : Nat} {f : TxFrame} {p : Port}

/-! #### A frame leaves the wire -/

/-- A port whose frame has left with its FCS. -/
def leftPort (now : Nat) (p : Port) (f : TxFrame) : Port :=
  { p with wire := none, macOut := f.bytes ++ leBytes 4 (crc32Ether f.bytes), pauseNext := none,
           pause := match p.pauseNext with
             | some ns => if ns = 0 then none else some (now + ns)
             | none => p.pause }

theorem frameTxDone_eq (hw : s.weirOn = true) (hf : (s.port k).wire = some f) :
    exec (.frameTxDone k) s = .next ((s.setPort k (leftPort s.nowNs (s.port k) f)).startTx k) := by
  show Host.Outcome.next _ = _
  dsimp only
  rw [hf]
  dsimp only
  rw [hw]
  rfl

theorem frameTxDone_port (s : State) (k : Nat) (f : TxFrame) : ((s.setPort k (leftPort s.nowNs (s.port k) f)).startTx k).port k =
    startedPort (s.portMac k) s.time.tick (leftPort s.nowNs (s.port k) f) := by
  rw [startTx_port, port_setPort_self]
  rfl

theorem frameTxDone_ported (s : State) (k : Nat) (p : Port) : Ported s ((s.setPort k p).startTx k) := (setPort_ported ..).trans (startTx_ported ..)

/-- What a port sends next keeps what left. -/
theorem startedPort_macOut (mac tick : Nat) (p : Port) : (startedPort mac tick p).macOut = p.macOut := by
  unfold startedPort
  split
  · rfl
  cases p.pauseDue with
  | cons q more => rfl
  | nil =>
    dsimp only
    split
    · rfl
    cases p.queue <;> rfl

/-! #### PAUSE towards the partner -/

/-- The PAUSE frame of a port with its quanta is on the wire. -/
def pausesWith (s : State) (k : Nat) (q : Nat) (p : Port) : Prop := ∃ w, p.wire = some w ∧ w.kind = .pause ∧ w.bytes = pauseFrameBytes (s.portMac k) q

/-- A PAUSE frame joins those to send. -/
structure Sends (s : State) (k q : Nat) (p p' : Port) : Prop where
  queue : p'.queue = p.queue
  now : p.wire = none → p.pauseDue = [] → pausesWith s k q p' ∧ p'.pauseDue = []
  later : p.wire.isSome = true → p'.pauseDue = p.pauseDue ++ [q] ∧ p'.wire = p.wire

/-- A PAUSE frame that joins the others goes ahead of the queue. -/
theorem sends_started (s : State) (k q tick : Nat) {p v : Port} (hl : v.linkUp = true) (hv : v.pauseDue = p.pauseDue ++ [q]) (hw : v.wire = p.wire)
    (hq : v.queue = p.queue) : Sends s k q p (startedPort (s.portMac k) tick v) ∧ (startedPort (s.portMac k) tick v).pausing = v.pausing := by
  cases e : v.wire with
  | some w =>
    rw [startedPort_busy (by rw [e]; rfl)]
    exact ⟨⟨hq, fun h => (by rw [hw, h] at e; cases e), fun _ => ⟨hv, hw⟩⟩, rfl⟩
  | none =>
    have pw : p.wire = none := hw ▸ e
    obtain ⟨d, more, hd⟩ := List.exists_cons_of_ne_nil (l := p.pauseDue ++ [q]) (by simp)
    rw [startedPort_pause e hl (hv.trans hd)]
    refine ⟨⟨hq, fun _ he => ?_, fun h => (by rw [pw] at h; cases h)⟩, rfl⟩
    rw [he] at hd
    obtain ⟨rfl, rfl⟩ := List.cons.inj hd
    exact ⟨⟨_, rfl, rfl, rfl⟩, rfl⟩

section
variable (hp : (s.params.port k).pauseTx ≠ 0) (hl : (s.port k).linkUp = true)
include hp hl

theorem pauseTx_asks (edge : Bool) (hf : 256 - (s.port k).buffers.length < 32) (he : edge = true ∨ (s.port k).low = false) :
    s.pauseTx k edge = (s.setPort k { s.port k with low := true, pausing := true, pauseDue := (s.port k).pauseDue ++ [pauseQuanta (s.params.port k).mode] }).startTx k := by
  unfold State.pauseTx
  dsimp only
  rw [if_neg (by simp [hp, hl]), if_pos ⟨hf, by simpa using he⟩, decide_eq_true hf]

theorem pauseTx_ends (hf : 64 < 256 - (s.port k).buffers.length) (he : (s.port k).pausing = true) :
    s.pauseTx k false = (s.setPort k { s.port k with low := false, pausing := false, pauseDue := (s.port k).pauseDue ++ [0] }).startTx k := by
  unfold State.pauseTx
  dsimp only
  rw [if_neg (by simp [hp, hl]), if_neg (by omega), if_pos ⟨he, hf⟩, decide_eq_false (by omega)]

end

theorem pauseQuanta_eq (m : Nat) : pauseQuanta m = if m = 1 then 19 else if m = 4 then 488 else 195 := by
  unfold pauseQuanta bitTime
  split
  · rfl
  · split <;> rfl

/-- The asking port's next frame. -/
theorem pauseTx_sends (hp : (s.params.port k).pauseTx ≠ 0) (hl : (s.port k).linkUp = true) (edge : Bool) (hf : 256 - (s.port k).buffers.length < 32)
    (he : edge = true ∨ (s.port k).low = false) : Sends s k (pauseQuanta (s.params.port k).mode) (s.port k) ((s.pauseTx k edge).port k) ∧
      ((s.pauseTx k edge).port k).pausing = true := by
  rw [pauseTx_asks hp hl edge hf he, startTx_port, port_setPort_self]
  exact sends_started s k _ _ hl rfl rfl rfl

theorem pauseTx_releases (hp : (s.params.port k).pauseTx ≠ 0) (hl : (s.port k).linkUp = true) (hf : 64 < 256 - (s.port k).buffers.length)
    (he : (s.port k).pausing = true) : Sends s k 0 (s.port k) ((s.pauseTx k false).port k) ∧ ((s.pauseTx k false).port k).pausing = false := by
  rw [pauseTx_ends hp hl hf he, startTx_port, port_setPort_self]
  exact sends_started s k _ _ hl rfl rfl rfl

/-! #### Stale frames -/

theorem discardStale_none {before : Nat} (h : ∀ f ∈ (s.port k).queue, before ≤ f.deadline) : s.discardStale k before = s.setPort k (s.port k) := by
  have keep : (s.port k).queue.filter (fun f => decide (before ≤ f.deadline)) = (s.port k).queue :=
    List.filter_eq_self.mpr fun f hf => decide_eq_true (h f hf)
  have stale : (s.port k).queue.filter (fun f => decide (f.deadline < before)) = [] :=
    List.filter_eq_nil_iff.mpr fun f hf => by simpa using h f hf
  unfold State.discardStale
  dsimp only
  rw [keep, stale]
  rfl

/-- The count of one stale frame. -/
def countStale (s : State) (f : TxFrame) : State :=
  if f.kind = .data then f.conns.foldl (fun s n => s.event bWEIR 19 n) s else s.event bWEIR 19 0xFFFF

theorem countStale_occurred (s : State) (f : TxFrame) : Occurred s (countStale s f) := by
  unfold countStale
  split
  · exact .foldl (fun _ _ => event_occurred ..) ..
  · exact event_occurred ..

theorem countStale_data (s : State) {n : Nat} (hk : f.kind = .data) (hn : n ∈ f.conns) : (countStale s f).isLive bWEIR 19 n = true := by
  unfold countStale
  rw [if_pos hk]
  obtain ⟨a, b, e⟩ := List.append_of_mem hn
  rw [e, List.foldl_append, List.foldl_cons]
  exact (Occurred.foldl (fun _ _ => event_occurred ..) ..).live _ _ _ (weir_live _ n (by decide))

theorem countStale_other (s : State) (hk : f.kind ≠ .data) : (countStale s f).isLive bWEIR 19 0xFFFF = true := by
  unfold countStale
  rw [if_neg hk]
  exact weir_live _ _ (by decide)

/-- A single stale frame goes and counts. -/
theorem discardStale_one {before : Nat} (hq : (s.port k).queue = [f]) (h : f.deadline < before) :
    s.discardStale k before = countStale (s.setPort k { s.port k with queue := [] }) f := by
  unfold State.discardStale
  dsimp only
  have go : [f].filter (fun f => decide (before ≤ f.deadline)) = [] := List.filter_cons_of_neg (by simpa using h)
  have stale : [f].filter (fun f => decide (f.deadline < before)) = [f] := List.filter_cons_of_pos (decide_eq_true h)
  rw [hq, go, stale]
  rfl

/-- Stale frames are discarded from an empty queue without effect but on the port's record. -/
theorem discardStale_empty {before : Nat} (hq : (s.port k).queue = []) : s.discardStale k before = s.setPort k (s.port k) :=
  discardStale_none fun f hf => by rw [hq] at hf; cases hf

theorem txStaleDiscard_eq (hw : s.weirOn = true) : exec (.txStaleDiscard k) s =
    .next ((((s.discardStale k s.time.tick).pauseOver k).discardStale k (s.time.tick + 1)).startTx k) := by
  refine congrArg Host.Outcome.next (if_neg ?_)
  rw [hw]
  decide

end Sys2Proof.Weir

end

section
/-! PROOFS. Stale frames and the end of a pause. O44. -/

set_option Elab.async false

/-! ### TX_STALE_DISCARD, PAUSE_END and the transmit path as a whole -/

namespace Sys2Proof.Weir
open Sys2Proof.Machine Sys2Proof.Safety Sys2Proof.Laws Sys2Proof.Occurrence

variable {s t u : State} {k : Nat} {f : TxFrame} {p : Port}

/-! #### A pause that has run out -/

theorem pauseOver_over {e : Nat} (hp : (s.port k).pause = some e) (he : e ≤ s.nowNs) :
    s.pauseOver k = (s.setPort k { s.port k with pause := none }).startTx k := by
  unfold State.pauseOver
  rw [hp]
  exact if_pos he

theorem pauseOver_stays (h : ∀ e, (s.port k).pause = some e → s.nowNs < e) : s.pauseOver k = s := by
  unfold State.pauseOver
  cases hp : (s.port k).pause with
  | none => rfl
  | some e => exact if_neg (by have := h e hp; omega)

theorem pauseOver_cases (s : State) (k : Nat) : s.pauseOver k = s ∨ s.pauseOver k = (s.setPort k { s.port k with pause := none }).startTx k := by
  unfold State.pauseOver
  split
  · exact .inl rfl
  · split
    · exact .inr rfl
    · exact .inl rfl

theorem pauseOver_ported (s : State) (k : Nat) : Ported s (s.pauseOver k) := by
  rcases pauseOver_cases s k with e | e <;> rw [e]
  · exact .refl s
  · exact frameTxDone_ported ..

/-- With a frame on the wire the end of a pause lets none start. -/
theorem pauseOver_busy (hw : (s.port k).wire.isSome = true) : ((s.pauseOver k).port k).queue = (s.port k).queue ∧ ((s.pauseOver k).port k).wire = (s.port k).wire := by
  rcases pauseOver_cases s k with e | e <;> rw [e]
  · exact ⟨rfl, rfl⟩
  · rw [startTx_port, port_setPort_self, startedPort_busy (by exact hw)]
    exact ⟨rfl, rfl⟩

/-! #### An empty queue stays empty -/

/-- A step that changes ports alone and leaves the port's queue empty. -/
def Emptied (k : Nat) (s t : State) : Prop := Ported s t ∧ (t.port k).queue = []

theorem pauseOver_emptied (h : (s.port k).queue = []) : Emptied k s (s.pauseOver k) := by
  refine ⟨pauseOver_ported s k, ?_⟩
  rcases pauseOver_cases s k with e | e <;> rw [e]
  · exact h
  · rw [startTx_port, port_setPort_self]
    exact startedPort_queue_nil h

theorem discardStale_emptied (h : (s.port k).queue = []) (before : Nat) : Emptied k s (s.discardStale k before) := by
  rw [discardStale_empty h]
  exact ⟨setPort_ported .., by rw [port_setPort_self]; exact h⟩

theorem startTx_emptied (h : (s.port k).queue = []) : Emptied k s (s.startTx k) :=
  ⟨startTx_ported s k, by rw [startTx_port]; exact startedPort_queue_nil h⟩

theorem Emptied.trans (h : Emptied k s t) (i : Emptied k t u) : Emptied k s u := ⟨h.1.trans i.1, i.2⟩

theorem Ported.isLive (h : Ported s t) (b i n : Nat) : t.isLive b i n = s.isLive b i n := by
  unfold State.isLive
  rw [show t.faults = s.faults from h.rest .faults (by decide)]

/-! #### TX_STALE_DISCARD -/

theorem setPort_self_port (s : State) (k j : Nat) : (s.setPort k (s.port k)).port j = s.port j := by
  rw [port_setPort]
  split
  · next e => rw [e]
  · rfl

/-- The single queued frame behind a busy wire is stale: it goes, and it counts. -/
theorem txStaleDiscard_one (hw : s.weirOn = true) (hq : (s.port k).queue = [f]) (hb : (s.port k).wire.isSome = true) (hd : f.deadline ≤ s.time.tick)
    {b i n : Nat} (hc : ∀ v, (countStale v f).isLive b i n = true) :
    Gives (.txStaleDiscard k) s fun t => (t.port k).queue = [] ∧ t.isLive b i n = true := by
  refine ⟨_, txStaleDiscard_eq hw, ?_⟩
  have done : ∀ v w : State, (w.port k).queue = [] → Emptied k (countStale w f) v → (v.port k).queue = [] ∧ v.isLive b i n = true :=
    fun v w _ e => ⟨e.2, (e.1.isLive b i n).trans (hc w)⟩
  have empty : ∀ w : State, (w.port k).queue = [] → ((countStale w f).port k).queue = [] := fun w h => (countStale_occurred w f).queue_nil h
  by_cases late : f.deadline < s.time.tick
  · rw [discardStale_one hq late]
    have h0 : (State.port (s.setPort k { s.port k with queue := [] }) k).queue = [] := by rw [port_setPort_self]
    generalize s.setPort k { s.port k with queue := [] } = w at h0
    have e1 := pauseOver_emptied (empty w h0)
    have e2 := discardStale_emptied e1.2 (s.time.tick + 1)
    exact done _ w h0 ((e1.trans e2).trans (startTx_emptied e2.2))
  · have stay : s.discardStale k s.time.tick = s.setPort k (s.port k) :=
      discardStale_none fun g hg => by
        rw [hq, List.mem_singleton] at hg
        rw [hg]
        omega
    rw [stay]
    have busy : ((s.setPort k (s.port k)).port k).wire.isSome = true := by rw [setPort_self_port]; exact hb
    have q1 := (pauseOver_busy busy).1
    rw [setPort_self_port, hq] at q1
    generalize (s.setPort k (s.port k)).pauseOver k = v at q1
    rw [discardStale_one q1 (by omega)]
    have h0 : (State.port (v.setPort k { v.port k with queue := [] }) k).queue = [] := by rw [port_setPort_self]
    generalize v.setPort k { v.port k with queue := [] } = w at h0
    exact done _ w h0 (startTx_emptied (empty w h0))

/-- Frames that are not stale wait on behind a busy wire. -/
theorem txStaleDiscard_keeps (hw : s.weirOn = true) (hq : ∀ f ∈ (s.port k).queue, s.time.tick < f.deadline) (hb : (s.port k).wire.isSome = true) :
    Gives (.txStaleDiscard k) s fun t => (t.port k).queue = (s.port k).queue ∧ (t.port k).wire = (s.port k).wire ∧
      ((∀ e, (s.port k).pause = some e → s.nowNs < e) → t.port k = s.port k) := by
  refine ⟨_, txStaleDiscard_eq hw, ?_⟩
  rw [discardStale_none fun f hf => Nat.le_of_lt (hq f hf)]
  have same : (s.setPort k (s.port k)).port k = s.port k := setPort_self_port ..
  have now : (s.setPort k (s.port k)).nowNs = s.nowNs := rfl
  generalize s.setPort k (s.port k) = v at same now
  have ended := pauseOver_busy (s := v) (k := k) (by rw [same]; exact hb)
  rw [same] at ended
  have stays : (∀ e, (s.port k).pause = some e → s.nowNs < e) → v.pauseOver k = v := fun h => pauseOver_stays (by rw [same, now]; exact h)
  generalize v.pauseOver k = w at ended stays
  obtain ⟨oq, ow⟩ := ended
  dsimp only
  rw [discardStale_none (s := w) fun f hf => hq f (oq ▸ hf), startTx_port, setPort_self_port, startedPort_busy (by rw [ow]; exact hb)]
  exact ⟨oq, ow, fun h => by rw [stays h, same]⟩

/-- A frame that the end of a pause lets start at its deadline starts. -/
theorem txStaleDiscard_starts (hw : s.weirOn = true) (hq : (s.port k).queue = [f]) (hb : (s.port k).wire = none) (hl : (s.port k).linkUp = true)
    (hd : (s.port k).pauseDue = []) {e : Nat} (hp : (s.port k).pause = some e) (he : e ≤ s.nowNs) (ht : f.deadline = s.time.tick) :
    Gives (.txStaleDiscard k) s fun t => SameBut [.weir] s t ∧ (t.port k).wire = some f ∧ (t.port k).queue = [] ∧ (t.port k).pause = none := by
  refine ⟨_, txStaleDiscard_eq hw, ?_⟩
  have stay : s.discardStale k s.time.tick = s.setPort k (s.port k) := discardStale_none fun g hg => by
    rw [hq, List.mem_singleton] at hg
    rw [hg, ht]
  rw [stay]
  have p0 := setPort_ported s k (s.port k)
  have same : (s.setPort k (s.port k)).port k = s.port k := setPort_self_port ..
  have now : (s.setPort k (s.port k)).nowNs = s.nowNs := rfl
  generalize s.setPort k (s.port k) = v at p0 same now
  have p1 := p0.trans (pauseOver_ported v k)
  have ended : (v.pauseOver k).port k = { s.port k with pause := none, queue := [], wire := some f } := by
    rw [pauseOver_over (by rw [same]; exact hp) (by rw [now]; exact he), startTx_port, port_setPort_self, same]
    exact startedPort_head (p := { s.port k with pause := none }) hb hl hd rfl hq
  generalize v.pauseOver k = w at p1 ended
  have empty : (w.port k).queue = [] := by rw [ended]
  rw [discardStale_empty empty]
  have q := p1.trans ((setPort_ported w k (w.port k)).trans (startTx_ported _ k))
  refine ⟨q.rest, ?_⟩
  rw [startTx_port, setPort_self_port, ended, startedPort_busy (by rfl)]
  exact ⟨rfl, rfl, rfl⟩

/-! #### PAUSE_END -/

theorem pauseEnd_over {e : Nat} (hp : (s.port k).pause = some e) (he : e < s.nowNs + 10000) :
    Gives (.pauseEnd k) s fun t => SameBut [.weir] s t ∧ (t.port k).pause = none := by
  have h : exec (.pauseEnd k) s = .next ((s.setPort k { s.port k with pause := none }).startTx k) := by
    show Host.Outcome.next _ = _
    rw [hp]
    exact congrArg Host.Outcome.next (if_pos he)
  refine ⟨_, h, (frameTxDone_ported ..).rest, ?_⟩
  rw [startTx_port, port_setPort_self, startedPort_pause_eq]

theorem pauseEnd_waits {e : Nat} (hp : (s.port k).pause = some e) (he : s.nowNs + 10000 ≤ e) : exec (.pauseEnd k) s = .next s := by
  show Host.Outcome.next _ = _
  rw [hp]
  exact congrArg Host.Outcome.next (if_neg (by omega))

/-! #### A received frame and the free buffers -/

/-- The buffer of a frame that the filter has kept. -/
def keptBuffer (s : State) (k kind : Nat) (f : RxParsed) : RxBuf :=
  { id := (s.port k).nextBuf, kind := kind, frame := f, arrival := s.time.tick, handled := false, todoA := [], todoB := [], waitA := 0, waitB := 0 }

/-- The port with that buffer taken. -/
def keptPort (s : State) (k kind : Nat) (f : RxParsed) : Port :=
  { s.port k with buffers := (s.port k).buffers ++ [keptBuffer s k kind f], nextBuf := (s.port k).nextBuf + 1 }

theorem frameReceived_kept {bytes : List Byte} {f : RxParsed} {kind : Nat} (hw : s.weirOn = true) (hl : (s.port k).linkUp = true)
    (hb : (s.port k).buffers.length < 256) (hp : parseFrame bytes = some f)
    (hk : filterKind f (s.portMac k) (s.params.port k).ip s.params.etherType s.params.udpPort (s.portVids k) = some kind) :
    exec (.frameReceived k bytes) s = .next ((s.setPort k (keptPort s k kind f)).pauseTx k false) := by
  refine congrArg Host.Outcome.next ((if_neg (by simp [hw])).trans ((if_neg (by simp [hl])).trans ((if_neg (by omega)).trans ?_)))
  rw [hp]
  dsimp only
  rw [hk]
  rfl

theorem oldest_head {b : RxBuf} {rest : List RxBuf} {kind : Nat → Bool} (hb : p.buffers = b :: rest) (hh : b.handled = false) (hk : kind b.kind = true) :
    p.oldest kind = some b := by
  unfold Port.oldest
  rw [hb, List.find?_cons_of_pos]
  rw [hh, hk]
  rfl

/-- A port without its oldest buffer. -/
theorem dropBuffer_head {b : RxBuf} {rest : List RxBuf} (hb : (s.port k).buffers = b :: rest) (hd : ∀ x ∈ rest, x.id ≠ b.id) :
    s.dropBuffer k b.id = (s.setPort k { s.port k with buffers := rest }).pauseTx k false := by
  have keep : (b :: rest).filter (fun x => x.id != b.id) = rest := by
    rw [List.filter_cons_of_neg (by simp)]
    exact List.filter_eq_self.mpr fun x hx => bne_iff_ne.mpr (hd x hx)
  unfold State.dropBuffer
  dsimp only
  rw [hb, keep]

theorem pauseTx_ported (s : State) (k : Nat) (edge : Bool) : Ported s (s.pauseTx k edge) := by
  unfold State.pauseTx
  dsimp only
  exact .ite (setPort_ported ..) (.ite (frameTxDone_ported ..) (.ite (frameTxDone_ported ..) (setPort_ported ..)))

theorem Ported.portMac (h : Ported s t) (k : Nat) : t.portMac k = s.portMac k := by
  unfold State.portMac State.shadow
  rw [show t.ros = s.ros from h.rest .ros (by decide)]

theorem Ported.params (h : Ported s t) : t.params = s.params := h.rest .params (by decide)

theorem arpRequest_unanswered {b : RxBuf} {rest : List RxBuf} (hw : s.weirOn = true) (hb : (s.port k).buffers = b :: rest) (hh : b.handled = false)
    (hd : ∀ x ∈ rest, x.id ≠ b.id) (hk : b.kind = rxARP) (hr : arpReply (s.portMac k) (s.params.port k).ip b.frame = none) :
    exec (.arpRequest k) s = .next ((s.setPort k { s.port k with buffers := rest }).pauseTx k false) := by
  have p := (setPort_ported s k { s.port k with buffers := rest }).trans (pauseTx_ported _ k false)
  have head : (s.port k).oldest (· == rxARP) = some b := oldest_head hb hh (beq_iff_eq.mpr hk)
  show Host.Outcome.next _ = _
  dsimp only
  rw [head]
  dsimp only
  rw [hw, dropBuffer_head hb hd, p.portMac, p.params, hr]
  rfl

end Sys2Proof.Weir

namespace Sys2Proof.Proofs
open Sys2Proof.Machine Sys2Proof.Safety Sys2Proof.Laws Sys2Proof.Occurrence Sys2Proof.Weir

/-- Settles O44: each frame that WEIR builds is queued where its port has a slot, the wire takes the next one, PAUSE goes ahead, and stale
frames are discarded. -/
theorem transmitPath : Obligations.TransmitPath := by
  unfold Obligations.TransmitPath
  intro s k hw p here leaving' rdy
  refine ⟨fun τ n ho hs ht hn hc hu => ⟨fun hp => ?_, fun hp hr hf => ?_⟩,
    fun n xa xb hc hx hu hk hd da db => ⟨fun ha hb hsa _ hg hr hf => ?_, fun ha hb hsa _ hg hr hf => ?_, fun ha hb hf => ?_, fun hh hb => ?_⟩,
    fun n hc hl hx hu hk hd hr => ?_, pduTransmit_done, ⟨fun f d more hf hl hd => ?_, fun hp hl => ⟨fun bytes f x low h224 h256 hparse hk => ?_, fun h224 => ?_, fun b rest hb hh hids hk hr hpa hfree => ?_⟩⟩,
    fun f hf => ?_, fun f hq hb hd => ⟨fun hk n hn => ?_, fun hk => ?_⟩, fun hq hb => txStaleDiscard_keeps hw hq hb,
    fun f e hq hb hl hd hp he ht => txStaleDiscard_starts hw hq hb hl hd hp he ht, fun e hp => ⟨pauseEnd_over hp, pauseEnd_waits hp⟩⟩
  · exact announceTransmit_waits ht hp
  · exact announceTransmit_gives hw ho hs ht hn.1 hn.2 hc hu hp hr hf
  · subst hk
    obtain ⟨t, ht, h1, h2, h3⟩ := dataPdu_leaves hw hc hx hu hd da db ha hb hsa hr hf
    refine ⟨t, ht, h1, h2, ?_⟩
    unfold dataFrame at h3
    rw [hg] at h3
    exact h3
  · subst hk
    obtain ⟨t, ht, h1, h2, h3⟩ := dataPdu_leaves hw hc hx hu hd da db ha hb hsa hr hf
    refine ⟨t, ht, h1, h2, ?_⟩
    unfold dataFrame at h3
    rw [hg] at h3
    exact h3
  · subst hk
    obtain ⟨t, ht, h1, h2, h3⟩ := dataPdu_full hw hc hx hu hd da db ha hb hf
    exact ⟨t, ht, h1, h2 _, h3⟩
  · obtain ⟨t, ht, h1, h2⟩ := dataPdu_half hw hc hx hu hd da db hh hb
    exact ⟨t, ht, h1, h2 k⟩
  · intro body pre
    subst hk
    refine ⟨fun x y ha hb ta tb => ⟨fun hs hf => controlPdu_leaves hw hc hx hu hd hl hr ha hb ta tb hs hf, fun hf => ?_⟩, fun sd sd' x hne ha ta hb => ?_⟩
    · obtain ⟨t, ht, h1, h2, h3⟩ := controlPdu_full hw hc hx hu hd hl hr ha hb ta tb hf
      exact ⟨t, ht, h1, h2, h3 _⟩
    · obtain ⟨t, ht, h1, h2, h3⟩ := controlPdu_half hw hc hx hu hd hl hr hne ha ta hb
      exact ⟨t, ht, h1, h2, h3 _⟩
  · refine ⟨_, frameTxDone_eq hw hf, ?_⟩
    dsimp only
    rw [frameTxDone_port, startedPort_pause (p := leftPort s.nowNs (s.port k) f) rfl hl hd]
    exact ⟨⟨_, rfl, rfl, rfl⟩, rfl, rfl⟩
  · have e := frameReceived_kept hw hl h256 hparse hk
    have len : 256 - (keptPort s k x f).buffers.length < 32 := by
      rw [keptPort, List.length_append, List.length_singleton]
      have : 224 ≤ (s.port k).buffers.length := h224
      show 256 - ((s.port k).buffers.length + 1) < 32
      omega
    have h := pauseTx_sends (s := s.setPort k (keptPort s k x f)) (k := k) hp (by rw [port_setPort_self]; exact hl) false
      (by rw [port_setPort_self]; exact len) (.inr (by rw [port_setPort_self]; exact low))
    rw [port_setPort_self, pauseQuanta_eq] at h
    exact ⟨_, e, ⟨h.1.queue, h.1.now, h.1.later⟩, h.2⟩
  · have h := (pauseTx_sends (s := s) hp hl true (by show 256 - (s.port k).buffers.length < 32; have : 224 < (s.port k).buffers.length := h224; omega) (.inl rfl)).1
    rw [pauseQuanta_eq] at h
    exact ⟨h.queue, h.now, h.later⟩
  · have e := arpRequest_unanswered hw hb hh hids hk hr
    have h := pauseTx_releases (s := s.setPort k { s.port k with buffers := rest }) (k := k) hp (by rw [port_setPort_self]; exact hl)
      (by rw [port_setPort_self]; exact (by omega : 64 < 256 - rest.length)) (by rw [port_setPort_self]; exact hpa)
    rw [port_setPort_self] at h
    exact ⟨_, e, ⟨h.1.queue, h.1.now, h.1.later⟩, h.2⟩
  · refine ⟨_, frameTxDone_eq hw hf, (frameTxDone_ported ..).rest, ?_, fun hn hp hd hl => ?_, fun ns hn h0 hd => ?_⟩
    · rw [frameTxDone_port, startedPort_macOut]
      rfl
    · have pause : (leftPort s.nowNs (s.port k) f).pause = none := by
        unfold leftPort
        rw [show (s.port k).pauseNext = none from hn]
        exact hp
      rw [frameTxDone_port]
      cases hq : (s.port k).queue with
      | nil =>
        rw [startedPort_empty (p := leftPort s.nowNs (s.port k) f) rfl hl hd hq]
        exact ⟨rfl, hq⟩
      | cons g rest =>
        rw [startedPort_head (p := leftPort s.nowNs (s.port k) f) rfl hl hd pause hq]
        exact ⟨rfl, rfl⟩
    · have pause : (leftPort s.nowNs (s.port k) f).pause = some (s.nowNs + ns) := by
        unfold leftPort
        rw [show (s.port k).pauseNext = some ns from hn]
        exact if_neg h0
      have stay : startedPort (s.portMac k) s.time.tick (leftPort s.nowNs (s.port k) f) = leftPort s.nowNs (s.port k) f := by
        cases hl : (s.port k).linkUp with
        | false => exact startedPort_down (p := leftPort s.nowNs (s.port k) f) hl
        | true => exact startedPort_paused (p := leftPort s.nowNs (s.port k) f) rfl hl hd (by rw [pause]; rfl)
      rw [frameTxDone_port, stay]
      exact ⟨pause, rfl, rfl⟩
  · exact txStaleDiscard_one hw hq hb hd fun v => countStale_data v hk hn
  · exact txStaleDiscard_one hw hq hb hd fun v => countStale_other v (by rw [hk]; decide)

end Sys2Proof.Proofs

end

section
/-! PROOFS. ARP requests and PAUSE frames (R234, R237). -/

set_option Elab.async false

/-! ### Frames are filtered, answered and handed to the channels (R234, R235, R237, R239, R242) -/

namespace Sys2Proof.Weir
open Sys2Proof.Machine Sys2Proof.Safety Sys2Proof.Laws Sys2Proof.Occurrence

variable {s t u : State} {k : Nat} {p : Port} {sd : Side} {b : RxBuf} {rest : List RxBuf}

/-! #### Receive buffers through the transmit path -/

theorem startedPort_buffers (mac tick : Nat) (p : Port) : (startedPort mac tick p).buffers = p.buffers := by
  unfold startedPort
  split
  · rfl
  cases p.pauseDue with
  | cons q more => rfl
  | nil =>
    dsimp only
    split
    · rfl
    cases p.queue <;> rfl

theorem startTx_buffers (s : State) (k : Nat) : ((s.startTx k).port k).buffers = (s.port k).buffers := by
  rw [startTx_port, startedPort_buffers]

theorem pauseTx_buffers (s : State) (k : Nat) (edge : Bool) : ((s.pauseTx k edge).port k).buffers = (s.port k).buffers := by
  unfold State.pauseTx
  dsimp only
  split
  · rw [port_setPort_self]
  · split
    · rw [startTx_buffers, port_setPort_self]
    · split
      · rw [startTx_buffers, port_setPort_self]
      · rw [port_setPort_self]

/-- Without PAUSE_TX the free buffers are noted alone. -/
theorem pauseTx_off (s : State) (edge : Bool) (h : (s.params.port k).pauseTx = 0) :
    s.pauseTx k edge = s.setPort k { s.port k with low := decide (256 - (s.port k).buffers.length < 32) } :=
  if_pos (.inl h)

theorem Ported.window (h : Ported s t) (sd : Side) (k : Nat) : t.window sd k = s.window sd k := by
  unfold State.window
  rw [h.weir]

/-- A port without its oldest buffer. -/
def withoutOldest (p : Port) (rest : List RxBuf) : Port := { p with buffers := rest, low := decide (256 - rest.length < 32) }

theorem dropBuffer_off (hb : (s.port k).buffers = b :: rest) (hd : ∀ x ∈ rest, x.id ≠ b.id) (h : (s.params.port k).pauseTx = 0) :
    Ported s (s.dropBuffer k b.id) ∧ (s.dropBuffer k b.id).port k = withoutOldest (s.port k) rest := by
  rw [dropBuffer_head hb hd]
  have e := pauseTx_off (s := s.setPort k { s.port k with buffers := rest }) false h
  rw [e]
  refine ⟨(setPort_ported ..).trans (setPort_ported ..), ?_⟩
  rw [port_setPort_self, port_setPort_self]
  rfl

/-! #### ARP -/

section Arp
variable (hw : s.weirOn = true) (hb : (s.port k).buffers = b :: rest) (hh : b.handled = false)
  (hd : ∀ x ∈ rest, x.id ≠ b.id) (hp : (s.params.port k).pauseTx = 0)
include hw hb hh hd hp

theorem arpRequest_eq (hk : b.kind = rxARP) {reply : List Byte} (hr : arpReply (s.portMac k) (s.params.port k).ip b.frame = some reply) :
    exec (.arpRequest k) s = .next (if !((s.dropBuffer k b.id).port k).slotFree .arp then (s.dropBuffer k b.id).event bWEIR 17 k
      else (s.dropBuffer k b.id).queueFrame k ⟨.arp, reply, [], s.time.tick + 20⟩) := by
  have q := (dropBuffer_off hb hd hp).1
  have head : (s.port k).oldest (· == rxARP) = some b := oldest_head hb hh (beq_iff_eq.mpr hk)
  show Host.Outcome.next _ = _
  dsimp only
  rw [head]
  dsimp only
  rw [hw, q.portMac, q.params, hr]
  dsimp only
  rw [q.time]
  rfl

theorem arpRequest_answers (hk : b.kind = rxARP) {reply : List Byte} (hr : arpReply (s.portMac k) (s.params.port k).ip b.frame = some reply)
    (hs : (s.port k).slotFree .arp = true) (hl : ready s k) : Gives (.arpRequest k) s fun t => SameBut [.weir] s t ∧ (t.port k).buffers = rest ∧
      leaving (t.port k) ⟨.arp, reply, [], s.time.tick + 20⟩ := by
  obtain ⟨q, pe⟩ := dropBuffer_off hb hd hp
  refine ⟨_, arpRequest_eq hw hb hh hd hp hk hr, ?_⟩
  generalize s.dropBuffer k b.id = v at q pe
  have slot : (v.port k).slotFree .arp = true := by
    rw [pe]
    exact hs
  have rdy : ready v k := by
    unfold ready
    rw [pe, q.time]
    exact hl
  rw [slot, Bool.not_true, if_neg (by decide)]
  refine ⟨q.rest.trans (queueFrame_ported rdy slot).rest, ?_, queueFrame_leaving rdy slot⟩
  rw [queueFrame_takes rdy slot, startTx_buffers, port_setPort_self, pe]
  rfl

theorem arpRequest_full (hk : b.kind = rxARP) {reply : List Byte} (hr : arpReply (s.portMac k) (s.params.port k).ip b.frame = some reply)
    (hs : (s.port k).slotFree .arp = false) : Gives (.arpRequest k) s fun t => t.isLive bWEIR 17 k = true ∧
      ∀ f, leaving (t.port k) f → leaving (s.port k) f := by
  obtain ⟨q, pe⟩ := dropBuffer_off hb hd hp
  refine ⟨_, arpRequest_eq hw hb hh hd hp hk hr, ?_⟩
  generalize s.dropBuffer k b.id = v at q pe
  have slot : (v.port k).slotFree .arp = false := by
    rw [pe]
    exact hs
  rw [slot, Bool.not_false, if_pos rfl]
  refine ⟨weir_live _ k (by decide), fun f h => ?_⟩
  have h2 := (event_occurred v bWEIR 17 k).fewer k f h
  rw [pe] at h2
  exact h2

/-! #### PAUSE frames -/

theorem pauseFrame_eq (hk : b.kind = rxPAUSE) (hr : (s.params.port k).pauseRx ≠ 0) : exec (.pauseFrame k) s = .next
    (let v := (s.dropBuffer k b.id).event bWEIR 16 k
     let ns := min (pauseNs (s.params.port k).mode (beAt b.frame.payload 2 2)) (1000 * (s.params.port k).pauseMax)
     if (v.port k).wire.isSome then v.setPort k { v.port k with pauseNext := some ns }
     else (v.setPort k { v.port k with pause := if ns = 0 then none else some (v.nowNs + ns) }).startTx k) := by
  have head : (s.port k).oldest (· == rxPAUSE) = some b := oldest_head hb hh (beq_iff_eq.mpr hk)
  show Host.Outcome.next _ = _
  dsimp only
  rw [head]
  dsimp only
  rw [hw, if_neg hr]
  rfl

theorem pauseFrame_gives (hk : b.kind = rxPAUSE) (hr : (s.params.port k).pauseRx ≠ 0) (he : (s.effective bWEIR 16 k).2 / rBRST % 2 = 0) {ns : Nat}
    (hn : ns = min (pauseNs (s.params.port k).mode (beAt b.frame.payload 2 2)) (1000 * (s.params.port k).pauseMax)) :
    Gives (.pauseFrame k) s fun t => t.isLive bWEIR 16 k = true ∧ ((s.port k).wire.isSome = true → ns ≠ 0 → (t.port k).pauseNext = some ns) ∧
      ((s.port k).wire = none → ns ≠ 0 → (s.port k).pauseDue = [] → (t.port k).pause = some (s.nowNs + ns) ∧ (t.port k).wire = none) := by
  obtain ⟨q, pe⟩ := dropBuffer_off hb hd hp
  refine ⟨_, pauseFrame_eq hw hb hh hd hp hk hr, ?_⟩
  rw [← hn]
  have eff : (s.dropBuffer k b.id).effective bWEIR 16 k = s.effective bWEIR 16 k := by
    unfold State.effective State.devCont State.devCfg
    rw [show (s.dropBuffer k b.id).dev = s.dev from q.rest .dev (by decide), show (s.dropBuffer k b.id).cfg = s.cfg from q.rest .cfg (by decide)]
  have occ := event_occurred (s.dropBuffer k b.id) bWEIR 16 k
  have live := weir_live (s.dropBuffer k b.id) (i := 16) k (by decide)
  have port : ((s.dropBuffer k b.id).event bWEIR 16 k).port k = withoutOldest (s.port k) rest := by
    rcases raise_weir (s.dropBuffer k b.id) bWEIR 16 k 0 with e | ⟨-, e, -⟩
    · exact (port_congr e k).trans pe
    · rw [eff, he] at e
      cases e
  have now : ((s.dropBuffer k b.id).event bWEIR 16 k).nowNs = s.nowNs := by
    unfold State.nowNs State.nowUs
    rw [occ.time, q.time]
  generalize (s.dropBuffer k b.id).event bWEIR 16 k = v at live port now
  dsimp only
  split
  · next hs =>
    refine ⟨((setPort_ported ..).isLive ..).trans live, fun _ _ => by rw [port_setPort_self], fun h => ?_⟩
    rw [port, show (withoutOldest (s.port k) rest).wire = none from h] at hs
    cases hs
  · next hs =>
    refine ⟨((frameTxDone_ported ..).isLive ..).trans live, fun h => ?_, fun h h0 hd => ?_⟩
    · rw [port] at hs
      exact absurd h hs
    · rw [if_neg h0, startTx_port, port_setPort_self, port, now]
      generalize hv : ({ withoutOldest (s.port k) rest with pause := some (s.nowNs + ns) } : Port) = w
      have hw' : w.wire = none := by rw [← hv]; exact h
      have hp' : w.pause = some (s.nowNs + ns) := by rw [← hv]
      have hd' : w.pauseDue = [] := by rw [← hv]; exact hd
      have stay : startedPort (v.portMac k) v.time.tick w = w := by
        cases hl : w.linkUp with
        | false => exact startedPort_down hl
        | true => exact startedPort_paused hw' hl hd' (by rw [hp']; rfl)
      exact (congrArg (fun x : Port => x.pause = _ ∧ x.wire = none) stay).mpr ⟨hp', hw'⟩

end Arp

end Sys2Proof.Weir

end

section
/-! PROOFS. Millrace frames, their descriptors and the release of buffers (R205, R239, R242). O45. -/

set_option Elab.async false

/-! ### Millrace frames go to both channels, and buffers are released (R205, R239, R242) -/

namespace Sys2Proof.Weir
open Sys2Proof.Machine Sys2Proof.Safety Sys2Proof.Laws Sys2Proof.Occurrence

variable {s t u : State} {k : Nat} {p : Port} {sd : Side} {b : RxBuf} {rest : List RxBuf}

/-! #### Receive windows -/

theorem window_setWindow_self (s : State) (sd : Side) (k : Nat) (w : List Descriptor) : (s.setWindow sd k w).window sd k = w := by
  unfold State.window State.setWindow
  rw [tab_getD_put, if_pos rfl]

/-- The two channels' windows of one port are apart. -/
theorem window_setWindow_other (s : State) {sd sd' : Side} (h : sd' ≠ sd) (k : Nat) (w : List Descriptor) : (s.setWindow sd k w).window sd' k = s.window sd' k := by
  unfold State.window State.setWindow
  rw [tab_getD_put, if_neg]
  cases sd <;> cases sd'
  · exact absurd rfl h
  · show ¬ 4 * 1 + k = 4 * 0 + k
    omega
  · show ¬ 4 * 0 + k = 4 * 1 + k
    omega
  · exact absurd rfl h

theorem bothWindows (s : State) (k : Nat) (wa wb : List Descriptor) (sd : Side) :
    ((s.setWindow .a k wa).setWindow .b k wb).window sd k = match sd with
      | .a => wa
      | .b => wb := by
  cases sd
  · rw [window_setWindow_other _ (by decide), window_setWindow_self]
  · rw [window_setWindow_self]

/-! #### Millrace frames -/

/-- The descriptors of a frame's PDUs. -/
def descriptors (b : RxBuf) : List Descriptor :=
  (framePdus b.frame.payload).map (fun pdu =>
    { ftype := leAt b.frame.payload 0 1, gen := leAt b.frame.payload 2 1, bytes := pdu, mac := b.frame.src, ip := none, arrival := b.arrival,
      buffer := b.id, captured := false, tried := 0, triedAt := none })

theorem leAt_one_lt (bs : List Byte) (off : Nat) : leAt bs off 1 < 256 := by
  unfold leAt
  cases bs.drop off with
  | nil => decide
  | cons x xs =>
    have : leVal ((x :: xs).take 1) = x.toNat := by simp [leVal]
    rw [this]
    exact x.isLt

theorem framePdus_length (bs : List Byte) : (framePdus bs).length ≤ 1024 := by
  unfold framePdus
  dsimp only
  split
  · rw [List.length_map, List.length_range]
    have := leAt_one_lt bs 1
    omega
  · exact Nat.le_of_lt_succ (by simp)

/-- Into empty windows go the descriptors of every PDU, for both channels. -/
theorem copyDescriptors_one {v : State} {x : RxBuf} (hx : (v.port k).buffers = [x]) (hv : v.weir.windows = []) (ha : x.todoA.length ≤ 1024)
    (hbl : x.todoB.length ≤ 1024) : SameBut [.weir] v (v.copyDescriptors k) ∧
      ∀ sd, (v.copyDescriptors k).window sd k = match sd with
        | .a => x.todoA
        | .b => x.todoB := by
  have empty : ∀ sd, v.window sd k = [] := fun sd => by
    unfold State.window
    rw [hv]
    rfl
  have ta : x.todoA.take (windowRoom []) = x.todoA := List.take_of_length_le ha
  have tb : x.todoB.take (windowRoom []) = x.todoB := List.take_of_length_le hbl
  unfold State.copyDescriptors
  rw [hx, List.foldl_cons, List.foldl_nil]
  dsimp only
  rw [empty, empty, ta, tb]
  generalize ({ v.port k with buffers := (v.port k).buffers.map _ } : Port) = p
  have e : ∀ sd, (v.setPort k p).window sd k = [] := empty
  rw [e, e, List.nil_append, List.nil_append]
  exact ⟨((sameBut_weir _ _).trans (sameBut_weir _ _)).trans (sameBut_weir _ _), bothWindows _ k _ _⟩

section Mill
variable (hw : s.weirOn = true) (hb : (s.port k).buffers = [b]) (hh : b.handled = false) (hk : b.kind = rxMILL)
include hw hb hh hk

theorem millraceFrame_eq : exec (.millraceFrame k) s = .next
    (if !millraceFrameOk b.frame.payload b.frame.wire b.frame.tci.isSome none then (s.dropBuffer k b.id).event bWEIR 11 k
     else (s.setPort k { s.port k with buffers := [{ b with handled := true, todoA := descriptors b, todoB := descriptors b }] }).copyDescriptors k) := by
  have head : (s.port k).oldest (fun k => k == rxMILL || k == rxUDP) = some b := oldest_head hb hh (by rw [hk]; rfl)
  have plain : b.millrace = (b.frame.payload, none, none) := by
    unfold RxBuf.millrace
    rw [if_neg (by rw [hk]; decide)]
  show Host.Outcome.next _ = _
  dsimp only
  rw [head]
  dsimp only
  rw [hw, plain, hb, List.map_cons, List.map_nil, if_pos rfl]
  rfl

theorem millraceFrame_bad (hp : (s.params.port k).pauseTx = 0) (ho : millraceFrameOk b.frame.payload b.frame.wire b.frame.tci.isSome none = false) :
    Gives (.millraceFrame k) s fun t => t.isLive bWEIR 11 k = true ∧ (t.port k).buffers = [] := by
  refine ⟨_, millraceFrame_eq hw hb hh hk, ?_⟩
  rw [ho, Bool.not_false, if_pos rfl]
  refine ⟨weir_live _ k (by decide), ?_⟩
  have pe := (dropBuffer_off hb (by simp) hp).2
  rcases (event_occurred (s.dropBuffer k b.id) bWEIR 11 k).ports k with e | e <;> rw [e]
  · rw [pe]
    rfl
  · rfl

theorem millraceFrame_good (hv : s.weir.windows = []) (ho : millraceFrameOk b.frame.payload b.frame.wire b.frame.tci.isSome none = true) :
    Gives (.millraceFrame k) s fun t => SameBut [.weir] s t ∧ ∀ sd, t.window sd k = descriptors b := by
  refine ⟨_, millraceFrame_eq hw hb hh hk, ?_⟩
  rw [ho, Bool.not_true, if_neg (by decide)]
  have len : (descriptors b).length ≤ 1024 := by
    rw [descriptors, List.length_map]
    exact framePdus_length _
  have h := copyDescriptors_one (k := k) (v := s.setPort k { s.port k with buffers := [{ b with handled := true, todoA := descriptors b, todoB := descriptors b }] })
    (x := { b with handled := true, todoA := descriptors b, todoB := descriptors b }) (by rw [port_setPort_self]) hv len len
  exact ⟨(sameBut_weir _ _).trans h.1, fun sd => (h.2 sd).trans (by cases sd <;> rfl)⟩

end Mill

/-! #### Release after 8 ticks -/

/-- What a channel keeps of its window when buffers are released. -/
def keptDescriptors (late : List Nat) (w : List Descriptor) : List Descriptor := w.filter (fun d => d.captured || !(d.buffer ∈ late))

/-- A port's buffers are released, and with them the descriptors that nobody has picked up. -/
def released (s : State) (k : Nat) (late : List Nat) : State :=
  let s := s.setPort k { s.port k with buffers := (s.port k).buffers.filter (fun b => !(b.id ∈ late)) }
  (s.setWindow .a k (keptDescriptors late (s.window .a k))).setWindow .b k (keptDescriptors late (s.window .b k))

theorem released_spec (s : State) (k : Nat) (late : List Nat) : SameBut [.weir] s (released s k late) ∧
    (released s k late).port k = { s.port k with buffers := (s.port k).buffers.filter (fun b => !(b.id ∈ late)) } ∧
    ∀ sd, (released s k late).window sd k = keptDescriptors late (s.window sd k) := by
  refine ⟨((sameBut_weir _ _).trans (sameBut_weir _ _)).trans (sameBut_weir _ _), ?_, fun sd => ?_⟩
  · exact port_setPort_self s k _
  · refine (bothWindows _ k _ _ sd).trans ?_
    cases sd <;> rfl

theorem rxPickupTimeout_eq (hw : s.weirOn = true) {late : List Nat}
    (hl : ((s.port k).buffers.filter (fun b => b.handled && decide (b.arrival + 8 ≤ s.time.tick))).map (·.id) = late) :
    exec (.rxPickupTimeout k) s = .next (let v := late.foldl (fun s _ => s.event bWEIR 15 k) (released s k late)
      if late.isEmpty then v else v.pauseTx k false) := by
  subst hl
  refine congrArg Host.Outcome.next (if_neg ?_)
  rw [hw]
  decide

section Timeout
variable (hw : s.weirOn = true) (hb : (s.port k).buffers = [b]) (hh : b.handled = true)
include hw hb hh

theorem rxPickupTimeout_late (ha : b.arrival + 8 ≤ s.time.tick) : Gives (.rxPickupTimeout k) s fun t => (t.port k).buffers = [] ∧
    t.isLive bWEIR 15 k = true ∧ ∀ sd, ∀ d ∈ t.window sd k, d.captured = true ∨ d.buffer ≠ b.id := by
  have late : ((s.port k).buffers.filter (fun b => b.handled && decide (b.arrival + 8 ≤ s.time.tick))).map (·.id) = [b.id] := by
    rw [hb, List.filter_cons_of_pos (by rw [hh, decide_eq_true ha]; rfl)]
    rfl
  refine ⟨_, rxPickupTimeout_eq hw late, ?_⟩
  obtain ⟨-, pe, we⟩ := released_spec s k [b.id]
  generalize released s k [b.id] = v at pe we
  have none : (v.port k).buffers = [] := by
    rw [pe, hb]
    show [b].filter (fun b' => !(b'.id ∈ [b.id])) = []
    exact List.filter_cons_of_neg (by simp)
  show (State.port ((v.event bWEIR 15 k).pauseTx k false) k).buffers = [] ∧ State.isLive ((v.event bWEIR 15 k).pauseTx k false) bWEIR 15 k = true ∧
    ∀ sd, ∀ d ∈ State.window ((v.event bWEIR 15 k).pauseTx k false) sd k, d.captured = true ∨ d.buffer ≠ b.id
  have q := pauseTx_ported (v.event bWEIR 15 k) k false
  refine ⟨?_, (q.isLive ..).trans (weir_live _ k (by decide)), fun sd d hd => ?_⟩
  · rw [pauseTx_buffers]
    rcases (event_occurred v bWEIR 15 k).ports k with e | e <;> rw [e]
    · exact none
    · rfl
  · rw [q.window] at hd
    have mem := raise_window v bWEIR 15 k 0 sd k hd
    rw [we] at mem
    have := (List.mem_filter.mp mem).2
    simpa using this

theorem rxPickupTimeout_waits (ha : s.time.tick < b.arrival + 8) : Gives (.rxPickupTimeout k) s fun t => t.port k = s.port k ∧ SameBut [.weir] s t := by
  have late : ((s.port k).buffers.filter (fun b => b.handled && decide (b.arrival + 8 ≤ s.time.tick))).map (·.id) = [] := by
    rw [hb, List.filter_cons_of_neg (by rw [hh, decide_eq_false (by omega)]; decide)]
    rfl
  refine ⟨_, rxPickupTimeout_eq hw late, ?_⟩
  obtain ⟨same, pe, -⟩ := released_spec s k []
  refine ⟨pe.trans ?_, same⟩
  rw [hb]
  have : [b].filter (fun b => !(b.id ∈ ([] : List Nat))) = (s.port k).buffers := by
    rw [hb]
    rfl
  rw [this]

end Timeout

/-! #### What the filter makes of a frame -/

theorem frameReceived_rejected {bytes : List Byte} (hw : s.weirOn = true) (hl : (s.port k).linkUp = true) (hb : (s.port k).buffers.length < 256)
    (hp : ∀ f, parseFrame bytes = some f → filterKind f (s.portMac k) (s.params.port k).ip s.params.etherType s.params.udpPort (s.portVids k) = none) :
    exec (.frameReceived k bytes) s = .next (s.event bWEIR 13 k) := by
  refine congrArg Host.Outcome.next ((if_neg (by simp [hw])).trans ((if_neg (by simp [hl])).trans ((if_neg (by omega)).trans ?_)))
  cases e : parseFrame bytes with
  | none => rfl
  | some f =>
    dsimp only
    rw [hp f e]

end Sys2Proof.Weir

namespace Sys2Proof.Proofs
open Sys2Proof.Machine Sys2Proof.Safety Sys2Proof.Laws Sys2Proof.Occurrence Sys2Proof.Weir

/-- Settles O45: what the filter, the buffers, ARP, PAUSE, the windows and the release make of a received frame. -/
theorem receivePath : Obligations.ReceivePath := by
  unfold Obligations.ReceivePath
  intro s k hw p cfg
  refine ⟨fun bytes hl => ⟨fun hm => ?_, fun hm => ?_⟩, fun bytes hl => ⟨fun hb => ?_, fun hb hp => ?_, fun f hb hp => ?_⟩,
    fun b rest hb hh hd hp => ⟨fun hk => ⟨fun reply hr hs hl hu => ?_, fun reply hr hs => ?_⟩, fun hk hr he => ?_, fun hk hv hr => ?_⟩,
    fun b hb hh => ⟨rxPickupTimeout_late hw hb hh, rxPickupTimeout_waits hw hb hh⟩⟩
  · exact congrArg Host.Outcome.next ((if_neg (by simp [hw])).trans ((if_pos (by rw [show (s.port k).linkUp = false from hl]; rfl)).trans (if_pos hm)))
  · exact congrArg Host.Outcome.next ((if_neg (by simp [hw])).trans ((if_pos (by rw [show (s.port k).linkUp = false from hl]; rfl)).trans (if_neg hm)))
  · exact congrArg Host.Outcome.next ((if_neg (by simp [hw])).trans ((if_neg (by rw [show (s.port k).linkUp = true from hl]; decide)).trans (if_pos hb)))
  · exact frameReceived_rejected hw hl hb fun f e => by
      rw [hp] at e
      cases e
  · refine ⟨fun hn => frameReceived_rejected hw hl hb fun g e => ?_, fun x hx => ⟨_, frameReceived_kept hw hl hb hp hx, ?_, ?_⟩⟩
    · rw [hp] at e
      cases e
      exact hn
    · exact ((setPort_ported ..).trans (pauseTx_ported ..)).rest
    · rw [pauseTx_buffers, port_setPort_self]
      rfl
  · exact arpRequest_answers hw hb hh hd hp hk hr hs ⟨hl, hu⟩
  · exact arpRequest_full hw hb hh hd hp hk hr hs
  · exact pauseFrame_gives hw hb hh hd hp hk hr he rfl
  · subst hr
    refine ⟨millraceFrame_bad hw hb hh hk hp, fun ho => ?_⟩
    obtain ⟨t, ht, same, win⟩ := millraceFrame_good hw hb hh hk hv ho
    refine ⟨t, ht, same, fun sd => ?_⟩
    rw [win, descriptors, List.map_map]
    rfl

end Sys2Proof.Proofs

end

section
/-! PROOFS. Links come up and go down (R243, R376, R399). O46. -/

set_option Elab.async false

/-! ### Links come up and go down (R243, R376, R399) -/

namespace Sys2Proof.Weir
open Sys2Proof.Machine Sys2Proof.Safety Sys2Proof.Laws Sys2Proof.Occurrence

variable {s t u : State} {j k : Nat}

/-- A port whose link is down has nothing to send. -/
structure Down (p : Port) : Prop where
  link : p.linkUp = false
  queue : p.queue = []
  wire : p.wire = none
  pause : p.pause = none

theorem Down.reset {p : Port} (h : Down p) : Down (resetPort p) := ⟨h.link, rfl, rfl, h.pause⟩

/-- An occurrence leaves whether a link is up. -/
theorem Occurred.linkUp (h : Occurred s t) (k : Nat) : (t.port k).linkUp = (s.port k).linkUp := by
  rcases h.ports k with e | e <;> rw [e]
  rfl

theorem Occurred.down (h : Occurred s t) (hd : Down (s.port k)) : Down (t.port k) := by
  rcases h.ports k with e | e <;> rw [e]
  · exact hd
  · exact hd.reset

/-- A port with a mode whose link has dropped. -/
def droppedPort (p : Port) : Port :=
  { p with linkUp := false, queue := [], wire := none, pause := none, pauseNext := none, pauseDue := [], pausing := false }

theorem dropLink_eq (hm : (s.params.port k).mode ≠ 0) : s.dropLink k = (s.setPort k (droppedPort (s.port k))).raise bWEIR 12 k whoDev := by
  have on : ((s.params.port k).mode != 0) = true := bne_iff_ne.mpr hm
  show (s.setPort k (droppedPort (s.port k))).condition bWEIR 12 k whoDev ((s.params.port k).mode != 0) = _
  rw [on]
  rfl

theorem weir_raise_live (s : State) {i : Nat} (n who : Nat) (hi : i < 20) : (s.raise bWEIR i n who).isLive bWEIR i n = true := by
  have len : weirSources.length = 20 := rfl
  exact raise_isLive (src := weirSources[i]) who (List.getElem?_eq_getElem (by omega)) (.inl (by decide))

theorem dropLink_spec (hm : (s.params.port k).mode ≠ 0) : Down ((s.dropLink k).port k) ∧ (s.dropLink k).isLive bWEIR 12 k = true ∧
    (∀ j, j ≠ k → ((s.dropLink k).port j).linkUp = (s.port j).linkUp) ∧ (∀ b i n, s.isLive b i n = true → (s.dropLink k).isLive b i n = true) ∧
    (s.dropLink k).clk = s.clk ∧ (s.dropLink k).params = s.params := by
  rw [dropLink_eq hm]
  have occ := raise_occurred (s.setPort k (droppedPort (s.port k))) bWEIR 12 k whoDev
  have st := raise_stirred (s.setPort k (droppedPort (s.port k))) bWEIR 12 k whoDev
  refine ⟨occ.down ?_, weir_raise_live _ k whoDev (by decide), fun j h => ?_, fun b i n e => occ.live b i n e, st.clk, st.params⟩
  · rw [port_setPort_self]
    exact ⟨rfl, rfl, rfl, rfl⟩
  · rw [occ.linkUp, port_setPort_of_ne _ _ _ h]

theorem linkPossible_of (hw : s.weirOn = true) (hm : (s.params.port k).mode ≠ 0) (hs : (s.params.port k).mode = 1 ∨ s.clk.serdesLocked = true) :
    s.linkPossible k = true := by
  unfold State.linkPossible
  simp only [hw, Bool.true_and, Bool.and_eq_true, bne_iff_ne, Bool.or_eq_true, beq_iff_eq]
  exact ⟨hm, hs⟩

theorem raiseLink_up (h : (s.port k).linkUp = false) :
    s.raiseLink k = (s.setPort k { s.port k with linkUp := true, upAt := s.time.tick }).clear bWEIR 12 k whoDev :=
  if_neg (by rw [h]; decide)

theorem raiseLink_already (h : (s.port k).linkUp = true) : s.raiseLink k = s := if_pos h

/-! #### The SerDes lock -/

/-- The ports that need the multiplier drop their links. -/
def dropFast (s : State) (k : Nat) : State := if (s.port k).linkUp && 2 ≤ (s.params.port k).mode then s.dropLink k else s

/-- What a port's drop leaves of the others and of the faults. -/
structure Fell (k : Nat) (s t : State) : Prop where
  off : 2 ≤ (s.params.port k).mode → (t.port k).linkUp = false
  kept : (s.params.port k).mode < 2 → (t.port k).linkUp = (s.port k).linkUp
  others : ∀ j, j ≠ k → (t.port j).linkUp = (s.port j).linkUp
  live : ∀ b i n, s.isLive b i n = true → t.isLive b i n = true
  clk : t.clk = s.clk
  params : t.params = s.params

theorem dropFast_fell (s : State) (k : Nat) : Fell k s (dropFast s k) := by
  unfold dropFast
  split
  · next h =>
    rw [Bool.and_eq_true, decide_eq_true_iff] at h
    obtain ⟨down, -, others, live, clk, params⟩ := dropLink_spec (s := s) (k := k) (by omega)
    exact ⟨fun _ => down.link, fun hm => by omega, others, live, clk, params⟩
  · next h =>
    refine ⟨fun hm => ?_, fun _ => rfl, fun _ _ => rfl, fun _ _ _ e => e, rfl, rfl⟩
    rw [Bool.and_eq_true, not_and_or, decide_eq_true_iff] at h
    rcases h with h | h
    · exact Bool.eq_false_iff.mpr h
    · omega

theorem dropFast_three (s : State) : ([0, 1, 2].foldl dropFast s).clk = s.clk ∧ (∀ b i n, s.isLive b i n = true → ([0, 1, 2].foldl dropFast s).isLive b i n = true) ∧
    ∀ j < 3, (2 ≤ (s.params.port j).mode → (([0, 1, 2].foldl dropFast s).port j).linkUp = false) ∧
      ((s.params.port j).mode < 2 → (([0, 1, 2].foldl dropFast s).port j).linkUp = (s.port j).linkUp) := by
  have f0 := dropFast_fell s 0
  have f1 := dropFast_fell (dropFast s 0) 1
  have f2 := dropFast_fell (dropFast (dropFast s 0) 1) 2
  show (dropFast (dropFast (dropFast s 0) 1) 2).clk = _ ∧ (∀ b i n, _ → (dropFast (dropFast (dropFast s 0) 1) 2).isLive b i n = true) ∧
    ∀ j < 3, (_ → ((dropFast (dropFast (dropFast s 0) 1) 2).port j).linkUp = _) ∧ (_ → ((dropFast (dropFast (dropFast s 0) 1) 2).port j).linkUp = _)
  have p1 : (dropFast (dropFast s 0) 1).params = s.params := f1.params.trans f0.params
  refine ⟨f2.clk.trans (f1.clk.trans f0.clk), fun b i n e => f2.live b i n (f1.live b i n (f0.live b i n e)), fun j hj => ?_⟩
  obtain rfl | rfl | rfl : j = 0 ∨ j = 1 ∨ j = 2 := by omega
  · rw [f2.others 0 (by decide), f1.others 0 (by decide)]
    exact ⟨f0.off, f0.kept⟩
  · rw [f2.others 1 (by decide), ← f0.others 1 (by decide)]
    rw [← f0.params]
    exact ⟨f1.off, f1.kept⟩
  · rw [← f0.others 2 (by decide), ← f1.others 2 (by decide), ← p1]
    exact ⟨f2.off, f2.kept⟩

end Sys2Proof.Weir

namespace Sys2Proof.Proofs
open Sys2Proof.Machine Sys2Proof.Safety Sys2Proof.Laws Sys2Proof.Occurrence Sys2Proof.Weir

/-- Settles O46: each command that raises or drops a link, with the ports it leaves. -/
theorem linksFollowTheirLayer : Obligations.LinksFollowTheirLayer := by
  unfold Obligations.LinksFollowTheirLayer
  intro s k hw p mode up isDown
  have locked : s.clk.pllLocked = true := by
    unfold State.weirOn at hw
    simp only [Bool.and_eq_true] at hw
    exact hw.1.2
  refine ⟨fun hl hm hs => ⟨?_, fun hk => ?_⟩, fun h => ?_, fun hl hm => ⟨?_, fun hk => ?_⟩, fun hl => ⟨?_, fun hk => ?_⟩, ?_, fun h => ?_, fun h => ?_⟩
  · exact congrArg Host.Outcome.next ((if_pos (linkPossible_of hw hm hs)).trans (raiseLink_up hl))
  · subst hk
    refine congrArg Host.Outcome.next ((if_neg (by rw [hw]; simpa using hm)).trans ((if_pos rfl).trans ?_))
    exact (if_pos (linkPossible_of hw hm hs)).trans (raiseLink_up hl)
  · refine congrArg Host.Outcome.next ?_
    rcases h with h | h
    · rw [raiseLink_already h, ite_self]
    · refine if_neg ?_
      unfold State.linkPossible
      rw [show (s.params.port k).mode = 0 from h]
      simp
  · obtain ⟨down, live, others, -⟩ := dropLink_spec (s := s) hm
    exact ⟨_, congrArg Host.Outcome.next (if_pos (by rw [hw, show (s.port k).linkUp = true from hl]; rfl)), ⟨down.link, down.queue, down.wire, down.pause⟩, live, others⟩
  · subst hk
    obtain ⟨down, live, -⟩ := dropLink_spec (s := s) hm
    refine ⟨_, congrArg Host.Outcome.next ((if_neg (by rw [hw]; simpa using hm)).trans ((if_neg (by decide)).trans (if_pos hl))), ?_, live⟩
    exact ⟨down.link, down.queue, down.wire, down.pause⟩
  · exact congrArg Host.Outcome.next (if_neg (by rw [show (s.port k).linkUp = false from hl, Bool.and_false]; decide))
  · subst hk
    refine congrArg Host.Outcome.next ?_
    split
    · rfl
    · exact (if_neg (by decide)).trans (if_neg (by rw [show (s.port 0).linkUp = false from hl]; decide))
  · have eq : exec .serdesLockLoss s = .next ([0, 1, 2].foldl dropFast (({ s with clk := { s.clk with serdesLocked := false } } : State).raise bCLK 3 0 whoDev)) :=
      congrArg Host.Outcome.next (if_neg (by rw [locked, Bool.not_true, Bool.false_and]; decide))
    have after : ∀ v : State, v.clk.serdesLocked = false → v.params = s.params → v.weir = s.weir →
        ([0, 1, 2].foldl dropFast (v.raise bCLK 3 0 whoDev)).clk.serdesLocked = false ∧ ([0, 1, 2].foldl dropFast (v.raise bCLK 3 0 whoDev)).isLive bCLK 3 0 = true ∧
          ∀ j < 3, (2 ≤ (s.params.port j).mode → (([0, 1, 2].foldl dropFast (v.raise bCLK 3 0 whoDev)).port j).linkUp = false) ∧
            ((s.params.port j).mode < 2 → (([0, 1, 2].foldl dropFast (v.raise bCLK 3 0 whoDev)).port j).linkUp = (s.port j).linkUp) := by
      intro v hc hp hv
      have st := raise_stirred v bCLK 3 0 whoDev
      have occ := raise_occurred v bCLK 3 0 whoDev
      have live : (v.raise bCLK 3 0 whoDev).isLive bCLK 3 0 = true := raise_isLive (src := clkSources[3]) whoDev rfl (.inl (by decide))
      obtain ⟨clk, grown, ports⟩ := dropFast_three (v.raise bCLK 3 0 whoDev)
      refine ⟨by rw [clk, st.clk, hc], grown _ _ _ live, fun j hj => ?_⟩
      have := ports j hj
      rw [st.params, hp, occ.linkUp, port_congr hv] at this
      exact this
    exact ⟨_, eq, after _ rfl rfl rfl⟩
  · exact congrArg Host.Outcome.next (if_neg (by rw [locked, h]; decide))
  · exact congrArg Host.Outcome.next (if_pos (.inr h))

end Sys2Proof.Proofs

end

section
/-! PROOFS. A reset of WEIR by a policy's reaction leaves the captured descriptors. O47. -/

set_option Elab.async false

/-! ### A reset of WEIR by the policy's own reaction leaves the captured descriptors of a window (R239, R242) -/

namespace Sys2Proof.Proofs
open Sys2Proof.Machine Sys2Proof.Safety Sys2Proof.Laws Sys2Proof.Occurrence

/-- A container with connection 0 in use, whose policy adds the block reset to the CRC rejections of channel A. -/
def rejectingCont : Container :=
  { (default : Container) with conns := [{ (default : ConnEntry) with inUse := true }], policy := [⟨bWEIR, 6, 0xFFFF, 1, rBRST⟩] }

/-- A captured DATA PDU of connection 0 with the next sequence number, and a CRC that is wrong. -/
def wrongCrc : Descriptor := ⟨ftDATA1, 1, [0, 0, 1, 0, 0, 0, 0, 0, 0, 0, 0, 0, 0, 0, 0, 0], 0, none, 0, 0, true, 0, none⟩

/-- The descriptor behind it in the window, captured in the same tick. -/
def alsoCaptured : Descriptor := { wrongCrc with buffer := 1 }

/-- The last descriptor of the window came after the capture. -/
def notCaptured : Descriptor := { wrongCrc with buffer := 2, captured := false }

/-- RUN with connection 0 in RUN: channel A has captured two of the three PDUs in its window. -/
def captured : State where
  dev := { st := .run, loaded := true }
  pwr := { domains := [0, 7, 9, 2, 3] }
  clk := { pllLocked := true }
  cfg := { running := some ⟨rejectingCont, 0, [], []⟩ }
  weir := { windows := [(0, [wrongCrc, alsoCaptured, notCaptured])], conns := [(0, { st := .run, session := some ⟨0, 0, 1, 0, true⟩ })] }

/-- The rejection resets WEIR, and the reset leaves the captured one of the two descriptors behind. -/
theorem captured_window : (match exec (.dataPduAccept .a 0) captured with
    | .next t => t.window .a 0 == [alsoCaptured]
    | _ => false) = true := by decide +kernel

/-- Refutes O47: after a rejection by the own CRC the window is to hold all that stood behind the PDU, or nothing; in `captured` the block
reset that the policy adds to the rejection takes the descriptor that is not captured and leaves the one that is. -/
theorem not_dataPdusAndWatchdog : ¬ Obligations.DataPdusAndWatchdog := by
  unfold Obligations.DataPdusAndWatchdog
  rintro ⟨h, -⟩
  obtain ⟨-, h2⟩ := h captured .a 0 wrongCrc [alsoCaptured, notCaptured] (by decide +kernel) rfl (by decide +kernel) rfl (by decide) (.inl rfl)
  obtain ⟨-, h3⟩ := h2 ⟨0, 0, 1, 0, true⟩ (by decide +kernel) (by decide +kernel) (.inr (by decide +kernel)) (by decide +kernel)
  obtain ⟨h4, -⟩ := h3 ⟨rfl, by decide⟩ (by decide +kernel) (by decide +kernel)
  obtain ⟨t, done, kept, -⟩ := h4 (by decide +kernel)
  have window := captured_window
  rw [done, beq_iff_eq] at window
  rw [window] at kept
  rcases kept with e | e
  · exact absurd e (by decide)
  · cases e

end Sys2Proof.Proofs

end

section
/-! PROOFS. The same with an ANNOUNCE. O49. -/

set_option Elab.async false

namespace Sys2Proof.Proofs
open Sys2Proof.Machine Sys2Proof.Safety Sys2Proof.Laws Sys2Proof.Occurrence

/-- A partner in use whose check bytes no ANNOUNCE of this run has. -/
def otherPartner : PartnerEntry := { (default : PartnerEntry) with inUse := true, check := [1] }

/-- A container with connection 0 to that partner, whose policy adds the block reset to the mismatch of a partner. -/
def mismatchingCont : Container :=
  { (default : Container) with
    conns := [{ (default : ConnEntry) with inUse := true }], partners := [otherPartner], policy := [⟨bWEIR, 4, 0xFFFF, 1, rBRST⟩] }

/-- A captured ANNOUNCE of the partner's identity. -/
def announced : Descriptor := ⟨ftANNOUNCE, 0, [], 0, none, 0, 0, true, 0, none⟩

/-- The one behind it, captured in the same tick. -/
def announcedNext : Descriptor := { announced with buffer := 1 }

/-- One that came after the capture. -/
def announcedLater : Descriptor := { announced with buffer := 2, captured := false }

/-- RUN with connection 0 in ABSENT: channel A has captured two of the three ANNOUNCE frames in its window. -/
def hearing : State where
  dev := { st := .run, loaded := true }
  pwr := { domains := [0, 7, 9, 2, 3] }
  clk := { pllLocked := true }
  cfg := { running := some ⟨mismatchingCont, 0, [], []⟩ }
  weir := { windows := [(0, [announced, announcedNext, announcedLater])] }

theorem hearing_window : (match exec (.announceReceived .a 0) hearing with
    | .next t => t.window .a 0 == [announcedNext]
    | _ => false) = true := by decide +kernel

/-- Refutes O49: after an ANNOUNCE the window is to hold all that stood behind it, or nothing; in `hearing` the block reset that the policy
adds to the mismatch takes the descriptor that is not captured and leaves the one that is. -/
theorem not_connectionsOpen : ¬ Obligations.ConnectionsOpen := by
  unfold Obligations.ConnectionsOpen
  intro h
  obtain ⟨h1, -⟩ := h hearing .a 0 0 (by decide +kernel) rfl
  obtain ⟨t, done, kept, -⟩ := h1 announced [announcedNext, announcedLater] (by decide +kernel) rfl (by decide +kernel) rfl (by decide) (by decide) rfl
    (by decide +kernel) (by decide +kernel) (by decide +kernel) (by decide +kernel) (by decide +kernel)
  have window := hearing_window
  rw [done, beq_iff_eq] at window
  rw [window] at kept
  rcases kept with e | e
  · exact absurd e (by decide)
  · cases e

end Sys2Proof.Proofs

end

section
/-! PROOFS. Rejections of a channel's own CRC (R219). O48. -/

set_option Elab.async false

/-! ### Rejections of a channel's own CRC (R219) -/

namespace Sys2Proof.Weir
open Sys2Proof.Machine Sys2Proof.Safety Sys2Proof.Laws Sys2Proof.Occurrence

variable {s t u : State} {sd : Side} {k n : Nat} {ds : Descriptor} {rest : List Descriptor}

/-! #### The first descriptor of a window -/

theorem onCaptured_head {ft : Nat → Bool} {act : Descriptor → State → State} (hr : s.sideRuns sd = true) (hc : s.dev.st.connects = true)
    (hw : s.window sd k = ds :: rest) (hd : ds.captured = true) (ht : ds.triedAt ≠ some s.time.tick) (hf : ft ds.ftype = true) :
    s.onCaptured sd k ft act = act ds (s.setWindow sd k rest) := by
  have found : s.captured sd k ft = some ds := by
    unfold State.captured
    rw [hw, List.find?_cons_of_pos]
    rw [hd, hf, bne_iff_ne.mpr ht]
    rfl
  have taken : s.takeDescriptor sd k ds = s.setWindow sd k rest := by
    unfold State.takeDescriptor
    rw [hw, replaceFirst, if_pos rfl]
  unfold State.onCaptured
  rw [hr, hc, found]
  exact congrArg (act ds) taken

/-- Another channel's window is a change of WEIR that leaves the connections. -/
theorem setWindow_conn (s : State) (sd : Side) (k : Nat) (w : List Descriptor) (sd' : Side) (n : Nat) : (s.setWindow sd k w).conn sd' n = s.conn sd' n := rfl

theorem setWindow_connsInUse (s : State) (sd : Side) (k : Nat) (w : List Descriptor) : (s.setWindow sd k w).connsInUse = s.connsInUse := rfl

/-! #### What a connection's new state leaves -/

/-- A step that leaves the connections' records, and the instances of some sources. -/
structure Sourced (P : Nat → Prop) (s t : State) : Prop where
  conns : t.weir.conns = s.weir.conns
  live : ∀ i n, P i → s.isLive bWEIR i n = true → t.isLive bWEIR i n = true

theorem Sourced.trans {P : Nat → Prop} (h : Sourced P s t) (i : Sourced P t u) : Sourced P s u :=
  ⟨i.conns.trans h.conns, fun j n hp e => i.live j n hp (h.live j n hp e)⟩

theorem condition_sourced {P : Nat → Prop} (s : State) {i : Nat} (inst who : Nat) (on : Bool) (hi : on = true ∨ ¬ P i) : Sourced P s (s.condition bWEIR i inst who on) := by
  cases on with
  | true =>
    have occ := raise_occurred s bWEIR i inst who
    exact ⟨(congrArg WeirSt.conns occ.weir :), fun j n _ e => occ.live _ j n e⟩
  | false =>
    have np : ¬ P i := hi.resolve_left nofun
    refine ⟨congrArg WeirSt.conns (clear_sameBut s bWEIR i inst who .weir (by decide)), fun j n hp e => ?_⟩
    exact (clear_isLive_ne (.inr (.inl (by rintro rfl; exact np hp)))).trans e

/-- The condition of LOST, once it is reported, and the other sources but REFUSED and MISMATCH stay. -/
theorem connSources_lost (s : State) (sd : Side) (n p : Nat) (hl : (s.conn sd n).st = .lost) :
    Sourced (fun i => i ≠ 3 ∧ i ≠ 4) s (s.connSources sd n p) ∧ (s.connSources sd n p).isLive bWEIR 1 n = true := by
  have on : ((s.conn sd n).st == .lost) = true := beq_iff_eq.mpr hl
  unfold State.connSources
  dsimp only
  rw [on]
  have h1 : Sourced (fun i => i ≠ 3 ∧ i ≠ 4) s (s.condition bWEIR 1 n (Side.bit sd) true) := condition_sourced s _ _ true (.inl rfl)
  have l1 : (s.condition bWEIR 1 n (Side.bit sd) true).isLive bWEIR 1 n = true :=
    weir_raise_live s (i := 1) n (Side.bit sd) (by decide)
  generalize s.condition bWEIR 1 n (Side.bit sd) true = v at h1 l1
  have h2 : Sourced (fun i => i ≠ 3 ∧ i ≠ 4) v (v.condition bWEIR 3 n (Side.bit sd) ((s.conn sd n).st == .refused)) :=
    condition_sourced v _ _ _ (.inr fun h => h.1 rfl)
  generalize v.condition bWEIR 3 n (Side.bit sd) ((s.conn sd n).st == .refused) = w at h2
  have h3 : ∀ (l : List Nat) (f : State → Nat → Bool), Sourced (fun i => i ≠ 3 ∧ i ≠ 4) w (l.foldl (fun s p => s.condition bWEIR 4 p (Side.bit sd) (f s p)) w) :=
    fun l f => List.foldlRecOn (motive := Sourced (fun i => i ≠ 3 ∧ i ≠ 4) w) l _ ⟨rfl, fun _ _ _ e => e⟩ fun x hx q _ =>
      hx.trans (condition_sourced x q _ _ (.inr fun h => h.2 rfl))
  have last := h3 ((p :: ((w.faults.live.filter (fun l => l.block == bWEIR && l.index == 4)).map (·.inst))).eraseDups)
    (fun s p => s.connsInUse.any (fun m => (s.connEntry m).partner == p && (s.conn sd m).st == .mismatch))
  exact ⟨(h1.trans h2).trans last, last.live 1 n ⟨by decide, by decide⟩ (h2.live 1 n ⟨by decide, by decide⟩ l1)⟩

theorem conn_congr (h : t.weir.conns = s.weir.conns) (sd : Side) (n : Nat) : t.conn sd n = s.conn sd n := by
  unfold State.conn
  rw [h]

theorem connLose_spec (s : State) (sd : Side) (n : Nat) : ((s.connLose sd n).conn sd n).st = .lost ∧ ((s.connLose sd n).conn sd n).session = none ∧
    (s.connLose sd n).isLive bWEIR 1 n = true ∧ (s.isLive bWEIR 2 n = true → (s.connLose sd n).isLive bWEIR 2 n = true) := by
  unfold State.connLose State.connEnter
  dsimp only
  generalize hc : ({ s.conn sd n with st := .lost, since := _, session := _, pendingOpen := _, due := _ } : Conn) = c
  have st : c.st = .lost := by rw [← hc]
  have ss : c.session = none := by rw [← hc]; rfl
  have live2 : s.isLive bWEIR 2 n = true → (s.setConn sd n c).isLive bWEIR 2 n = true := id
  have self : (s.setConn sd n c).conn sd n = c := conn_setConn_self ..
  generalize s.setConn sd n c = v at live2 self
  obtain ⟨src, live⟩ := connSources_lost v sd n (s.connEntry n).partner (by rw [self]; exact st)
  rw [conn_congr src.conns, self]
  exact ⟨st, ss, live, fun h => src.live 2 n ⟨by decide, by decide⟩ (live2 h)⟩

/-! #### The count of rejections -/

/-- The rejections of the last second. -/
def recentRejects (c : Conn) (tick : Nat) : List Nat := c.rejects.filter (fun r => decide (tick < r + 20000))

/-- Which source reports a rejection by the own CRC. -/
def crcSource : Side → Nat
  | .a => 6
  | .b => 7

theorem crcReject_few (hl : (recentRejects (s.conn sd n) s.time.tick).length < 3) : s.crcReject sd n =
    (s.event bWEIR (crcSource sd) n).setConn sd n { s.conn sd n with rejects := recentRejects (s.conn sd n) s.time.tick ++ [s.time.tick] } := by
  have tick : (s.event bWEIR (crcSource sd) n).time.tick = s.time.tick := (congrArg TimeSt.tick (event_occurred s bWEIR (crcSource sd) n).time :)
  unfold recentRejects at *
  unfold State.crcReject
  show (let v := s.event bWEIR (crcSource sd) n
    let recent := (s.conn sd n).rejects.filter (fun t => decide (v.time.tick < t + 20000)) ++ [v.time.tick]
    if recent.length < 4 then v.setConn sd n { s.conn sd n with rejects := recent } else _) = _
  dsimp only
  rw [tick, if_pos (by rw [List.length_append, List.length_singleton]; omega)]

theorem crcReject_fourth (hl : 3 ≤ (recentRejects (s.conn sd n) s.time.tick).length) : s.crcReject sd n =
    (let v := ((s.event bWEIR (crcSource sd) n).setConn sd n { s.conn sd n with rejects := [] }).event bWEIR 2 n
     if (s.conn sd n).st = .run then v.connLose sd n else v) := by
  have tick : (s.event bWEIR (crcSource sd) n).time.tick = s.time.tick := (congrArg TimeSt.tick (event_occurred s bWEIR (crcSource sd) n).time :)
  unfold recentRejects at *
  unfold State.crcReject
  show (let v := s.event bWEIR (crcSource sd) n
    let recent := (s.conn sd n).rejects.filter (fun t => decide (v.time.tick < t + 20000)) ++ [v.time.tick]
    if recent.length < 4 then _ else _) = _
  dsimp only
  rw [tick, if_neg (by rw [List.length_append, List.length_singleton]; omega)]
  rfl

theorem crcReject_counts (hl : (recentRejects (s.conn sd n) s.time.tick).length < 3) :
    (s.crcReject sd n).conn sd n = { s.conn sd n with rejects := recentRejects (s.conn sd n) s.time.tick ++ [s.time.tick] } := by
  rw [crcReject_few hl, conn_setConn_self]

theorem crcReject_loses (hl : 3 ≤ (recentRejects (s.conn sd n) s.time.tick).length) : (s.crcReject sd n).isLive bWEIR 2 n = true ∧
    ((s.conn sd n).st = .run → ((s.crcReject sd n).conn sd n).st = .lost ∧ ((s.crcReject sd n).conn sd n).session = none ∧
      (s.crcReject sd n).isLive bWEIR 1 n = true) ∧
    ((s.conn sd n).st ≠ .run → (s.crcReject sd n).conn sd n = { s.conn sd n with rejects := [] }) := by
  rw [crcReject_fourth hl]
  have self : ((s.event bWEIR (crcSource sd) n).setConn sd n { s.conn sd n with rejects := [] }).conn sd n = { s.conn sd n with rejects := [] } :=
    conn_setConn_self ..
  generalize (s.event bWEIR (crcSource sd) n).setConn sd n { s.conn sd n with rejects := [] } = w at self
  have keep := (event_occurred w bWEIR 2 n).conn sd n
  have live := weir_live w (i := 2) n (by decide)
  generalize w.event bWEIR 2 n = v at keep live
  dsimp only
  by_cases hr : (s.conn sd n).st = .run
  · rw [if_pos hr]
    obtain ⟨st, ss, l1, l2⟩ := connLose_spec v sd n
    exact ⟨l2 live, fun _ => ⟨st, ss, l1⟩, fun h => absurd hr h⟩
  · rw [if_neg hr]
    exact ⟨live, fun h => absurd h hr, fun _ => keep.trans self⟩

/-! #### DATA PDUs that fail -/

section Data
variable {x : Session} (hr : s.sideRuns sd = true) (hc : s.dev.st.connects = true) (hw : s.window sd k = ds :: rest) (hd : ds.captured = true)
  (ht : ds.triedAt ≠ some s.time.tick) (hf : ds.ftype = ftDATA1 ∨ ds.ftype = ftDATA2) (hn : (readData ds.gen ds.bytes).handle = n)
  (hu : n ∈ s.connsInUse) (hp : (s.connEntry n).port = k) (hs : (s.conn sd n).st = .opening ∨ (s.conn sd n).st = .run)
  (hx : (s.conn sd n).session = some x)
include hr hc hw hd ht hf hn hu hp hs hx

/-- The advance of the PDU's sequence number. -/
def advance (s : State) (sd : Side) (n : Nat) (ds : Descriptor) : Nat := ((readData ds.gen ds.bytes).seq + 65536 - (s.conn sd n).vr.toNat % 65536) % 65536

theorem dataPduAccept_eq : exec (.dataPduAccept sd k) s = .next
    (match (s.setWindow sd k rest).dataStep sd n ds with
      | none => (s.setWindow sd k rest).event bWEIR 8 n
      | some (x, d) =>
        if !(s.setWindow sd k rest).dataCrcOk sd n ds x d then (s.setWindow sd k rest).crcReject sd n
        else if !dataReservedOk ds.gen ds.bytes ((s.setWindow sd k rest).connEntry n).inBits then (s.setWindow sd k rest).event bWEIR 5 n
        else (s.setWindow sd k rest).dataAccepted sd n d (readData ds.gen ds.bytes)) := by
  have ft : (ds.ftype == ftDATA1 || ds.ftype == ftDATA2) = true := by
    rw [Bool.or_eq_true, beq_iff_eq, beq_iff_eq]
    exact hf
  refine congrArg Host.Outcome.next ((onCaptured_head hr hc hw hd ht ft).trans ?_)
  dsimp only
  rw [hn]
  have open_ : (decide (n ∈ (s.setWindow sd k rest).connsInUse) && ((s.setWindow sd k rest).connEntry n).port == k &&
      (((s.setWindow sd k rest).conn sd n).st == .opening || ((s.setWindow sd k rest).conn sd n).st == .run)) = true := by
    have e : ((s.setWindow sd k rest).connEntry n).port = k := hp
    have st : ((s.setWindow sd k rest).conn sd n).st = .opening ∨ ((s.setWindow sd k rest).conn sd n).st = .run := hs
    simp only [Bool.and_eq_true, Bool.or_eq_true, beq_iff_eq, decide_eq_true_iff]
    exact ⟨⟨hu, e⟩, st⟩
  rw [open_, if_pos rfl, show ((s.setWindow sd k rest).conn sd n).session = some x from hx] <;> rfl

omit hr hc hw hd ht hu hp hs in
theorem dataStep_eq : (s.setWindow sd k rest).dataStep sd n ds =
    if (x.gen = ds.gen ∧ (ds.ftype = ftDATA1 ↔ ds.gen = 1)) ∧ advance s sd n ds ≠ 0 ∧ advance s sd n ds ≤ 255 then some (x, advance s sd n ds) else none := by
  have ft : (ds.ftype == ftDATA1 || ds.ftype == ftDATA2) = true := by
    rw [Bool.or_eq_true, beq_iff_eq, beq_iff_eq]
    exact hf
  unfold State.dataStep
  dsimp only
  rw [show ((s.setWindow sd k rest).conn sd n).session = some x from hx, hn, ft]
  dsimp only
  refine if_congr ?_ rfl rfl
  simp only [Bool.and_eq_true, beq_iff_eq, bne_iff_ne, decide_eq_true_iff, Bool.true_and, and_assoc, true_and, Bool.beq_eq_decide_eq, decide_eq_decide, advance]
  rfl

theorem dataPduAccept_unfit (hb : ¬(x.gen = ds.gen ∧ (ds.ftype = ftDATA1 ↔ ds.gen = 1)) ∨ advance s sd n ds = 0 ∨ 255 < advance s sd n ds) :
    exec (.dataPduAccept sd k) s = .next ((s.setWindow sd k rest).event bWEIR 8 n) := by
  rw [dataPduAccept_eq hr hc hw hd ht hf hn hu hp hs hx, dataStep_eq hf hn hx, if_neg]
  rintro ⟨fits, h1, h2⟩
  rcases hb with h | h | h
  · exact h fits
  · exact h1 h
  · omega

theorem dataPduAccept_badCrc (hb : x.gen = ds.gen ∧ (ds.ftype = ftDATA1 ↔ ds.gen = 1)) (h1 : 1 ≤ advance s sd n ds) (h2 : advance s sd n ds ≤ 255)
    (h3 : s.dataCrcOk sd n ds x (advance s sd n ds) = false) : exec (.dataPduAccept sd k) s = .next ((s.setWindow sd k rest).crcReject sd n) := by
  rw [dataPduAccept_eq hr hc hw hd ht hf hn hu hp hs hx, dataStep_eq hf hn hx, if_pos ⟨hb, by omega, h2⟩]
  have bad : (s.setWindow sd k rest).dataCrcOk sd n ds x (advance s sd n ds) = false := h3
  dsimp only
  rw [bad]
  rfl

end Data

end Sys2Proof.Weir

namespace Sys2Proof.Proofs
open Sys2Proof.Machine Sys2Proof.Safety Sys2Proof.Laws Sys2Proof.Occurrence Sys2Proof.Weir

/-- Settles O48: the fourth rejection within a second loses a connection in RUN, an earlier one counts, and a PDU that does not fit is not
counted. -/
theorem crcRateLosesConnection : Obligations.CrcRateLosesConnection := by
  unfold Obligations.CrcRateLosesConnection
  intro s sd k ds rest x hr hc hw hd ht hf p n c e d recent hu hp hs hx fits
  refine ⟨fun hb => ?_, fun hb h1 h2 h3 => ?_⟩
  · refine ⟨_, dataPduAccept_unfit hr hc hw hd ht hf rfl hu hp hs hx hb, ?_⟩
    dsimp only
    rw [(event_occurred (s.setWindow sd k rest) bWEIR 8 n).conn]
    exact ⟨rfl, rfl⟩
  · refine ⟨_, dataPduAccept_badCrc hr hc hw hd ht hf rfl hu hp hs hx hb h1 h2 h3, fun h => ?_, fun h => ?_⟩
    · obtain ⟨live, run, other⟩ := crcReject_loses (s := s.setWindow sd k rest) (sd := sd) (n := n) h
      refine ⟨live, run, fun ho => ?_⟩
      have ho' : ((s.setWindow sd k rest).conn sd n).st = .opening := ho
      rw [other (by rw [ho']; decide)]
      exact ⟨ho, hx⟩
    · rw [crcReject_counts (s := s.setWindow sd k rest) h]
      exact ⟨rfl, rfl, rfl⟩

end Sys2Proof.Proofs

end

section
/-! PROOFS. The parts that the services of a tick edge change (R27, R184). -/

set_option Elab.async false

/-! ### The parts that the services of a tick edge change (R27, R184) -/

namespace Sys2Proof.Tick
open Sys2Proof.Machine Sys2Proof.Safety Sys2Proof.Laws Sys2Proof.Occurrence Sys2Proof.Weir

variable {s t u : State} {p k n : Nat} {sd : Side}

theorem setPair_sameBut (s : State) (p : Nat) (k : PairSt) : SameBut [.pairs] s (s.setPair p k) := sameBut_pairs _ _
theorem setView_only (s : State) (sd : Side) (c : Nat) (v : View) : SameBut [.field] s (s.setView sd c v) := sameBut_field _ _
theorem setWindow_sameBut (s : State) (sd : Side) (k : Nat) (w : List Descriptor) : SameBut [.weir] s (s.setWindow sd k w) := sameBut_weir _ _
theorem setPort_sameBut (s : State) (k : Nat) (p : Port) : SameBut [.weir] s (s.setPort k p) := sameBut_weir _ _

/-! #### Weir -/

theorem captureWindow_sameBut (s : State) (dis : List Disagreement) (k : Nat) (sd : Side) : SameBut [.weir] s (s.captureWindow dis k sd) := by
  unfold State.captureWindow
  exact .ite (.refl _ s) ((setWindow_sameBut _ _ _ _).trans (setPort_sameBut _ _ _))

theorem dropCaptured_sameBut (s : State) (k : Nat) (sd : Side) : SameBut [.weir] s (s.dropCaptured k sd) := .ite (.refl _ s) (setWindow_sameBut _ _ _ _)

theorem copyDescriptors_sameBut (s : State) (k : Nat) : SameBut [.weir] s (s.copyDescriptors k) :=
  .foldl (fun _ _ => ((setPort_sameBut _ _ _).trans (setWindow_sameBut _ _ _ _)).trans (setWindow_sameBut _ _ _ _)) _ s

theorem tickWeir_sameBut (s : State) (dis : List Disagreement) : SameBut [.weir] s (s.tickWeir dis) := by
  unfold State.tickWeir
  refine .ite (.refl _ s) (.foldl (fun v k => ?_) _ s)
  exact (((((captureWindow_sameBut v dis k .a).trans (captureWindow_sameBut _ dis k .b)).trans (dropCaptured_sameBut _ k .a)).trans
    (dropCaptured_sameBut _ k .b)).trans (setPort_sameBut _ _ _)).trans ((copyDescriptors_sameBut _ _).trans (pauseTx_ported ..).rest)

/-! #### The field, cells and pairs -/

theorem tickBits_sameBut (s : State) (sd : Side) : SameBut [.field] s (s.tickBits sd) := by
  unfold State.tickBits
  extract_lets ok own apart
  exact .foldl (fun v c => (setView_only _ _ _ _).trans (.foldl (fun _ _ => sameBut_field _ _) _ _)) _ s

theorem tickCurrent_sameBut (s : State) (sd : Side) (g : Nat) : SameBut [.field] s (s.tickCurrent sd g) := sameBut_field _ _

theorem tickField_sameBut (s : State) : SameBut [.field] s s.tickField := by
  unfold State.tickField
  refine .ite (.refl _ s) (((tickBits_sameBut s .a).trans (tickBits_sameBut _ .b)).trans (.foldl (fun v g => ?_) _ _))
  exact (tickCurrent_sameBut v .a g).trans (tickCurrent_sameBut _ .b g)

theorem watchReset_sameBut (s : State) (sd : Side) (n : Nat) : SameBut [.cells] s (s.watchReset sd n) := .ite (.refl _ s) (sameBut_cells _ _)

theorem takeLate_sameBut (s : State) (sd : Side) (n : Nat) : SameBut [.cells] s (s.takeLate sd n) := .ite (.refl _ s) (sameBut_cells _ _)

theorem tickTakeover_sameBut (s : State) : SameBut [.cells, .pairs] s s.tickTakeover := by
  have late : ∀ (v : State) (sd : Side) (l : List Nat), SameBut [.cells, .pairs] v (l.foldl (fun s n => s.takeLate sd n) v) :=
    fun v sd l => .foldl (fun _ _ => (takeLate_sameBut _ _ _).mono) l v
  have moved : ∀ l : List Move, SameBut [.cells, .pairs] s (l.foldl (fun s m =>
      match evaluatorSide m.role with
      | some (sd, _) => m.cells.foldl (fun s n => s.takeLate sd n) s
      | none => s) s) := fun l => .foldl (fun v m => by
    split
    · exact late _ _ _
    · exact .refl _ v) l s
  have taken : ∀ (l : List Nat) (v : State), SameBut [.cells, .pairs] v (l.foldl (fun (s : State) role =>
      if !s.pairRuns role then s
      else
        let s := match evaluatorSide role with
          | some e => (s.cellsOf role).foldl (fun (s : State) n => s.takeLate e.1 n) s
          | none => s
        { s with pairs := { s.pairs with takeover := setDel s.pairs.takeover role } }) v) := fun l v => .foldl (fun v r => by
    refine .ite (.refl _ v) ?_
    dsimp only
    split
    · exact (late v _ _).trans (sameBut_pairs _ _).mono
    · exact (sameBut_pairs v _).mono) l v
  exact ((moved _).trans (sameBut_pairs _ _).mono).trans (taken _ _)

theorem flipMirrors_sameBut (s : State) : SameBut [.cells, .weir] s s.flipMirrors := by
  exact SameBut.trans (t := { s with cells := s.flipMirrors.cells }) (sameBut_cells s _).mono (sameBut_weir _ s.flipMirrors.weir).mono

theorem tickCells_sameBut (s : State) : SameBut [.cells, .pairs, .weir] s s.tickCells := by
  unfold State.tickCells
  exact ((tickTakeover_sameBut s).mono.trans (.foldl (fun v n => ((watchReset_sameBut v .a n).trans (watchReset_sameBut _ .b n)).mono) _ _)).trans
    (flipMirrors_sameBut _).mono

theorem freeShadows_sameBut (s : State) : SameBut [.pairs] s s.freeShadows := .ite (sameBut_pairs _ _) (.refl _ s)

theorem swapRecords_sameBut (s : State) : SameBut [.pairs] s s.swapRecords := .foldl (fun _ _ => setPair_sameBut _ _ _) _ s

theorem tickChanges_sameBut (h : s.cfg.live = none) : SameBut [.params] s s.tickChanges := by
  unfold State.tickChanges
  dsimp only
  rw [h]
  exact sameBut_params _ _

theorem finishLive_none (h : s.cfg.live = none) : s.finishLive = s := by
  unfold State.finishLive
  rw [h]

theorem tickFlush_idle (hr : s.oxb.running = none) (hk : s.oxb.tlAsk = false) : s.tickFlush = s := by
  have tl : s.tickTl = s := by
    unfold State.tickTl
    rw [hk]
    rfl
  unfold State.tickFlush
  dsimp only
  rw [tl, hr]
  rfl

/-- What follows the supervisor's work at an edge without live commit or flush. -/
def tickRest (s : State) : State := (s.tickWeir []).tickChanges.tickField.tickCells.finishLive.freeShadows.swapRecords.tickFlush

theorem tickRest_sameBut (hl : s.cfg.live = none) (hr : s.oxb.running = none) (hk : s.oxb.tlAsk = false) :
    SameBut [.weir, .params, .field, .cells, .pairs] s (tickRest s) := by
  unfold tickRest
  have h1 : SameBut [.weir, .params, .field, .cells, .pairs] s (s.tickWeir []) := (tickWeir_sameBut s []).mono
  have l1 : (s.tickWeir []).cfg.live = none := by rw [show (s.tickWeir []).cfg = s.cfg from h1 .cfg (by decide)]; exact hl
  have h2 := h1.trans ((tickChanges_sameBut l1).mono.trans ((tickField_sameBut _).mono.trans (tickCells_sameBut _).mono))
  generalize (s.tickWeir []).tickChanges.tickField.tickCells = v at h2
  rw [finishLive_none (by rw [show v.cfg = s.cfg from h2 .cfg (by decide)]; exact hl)]
  have h3 := h2.trans ((freeShadows_sameBut v).mono.trans (swapRecords_sameBut _).mono)
  generalize v.freeShadows.swapRecords = w at h3
  rw [tickFlush_idle (by rw [show w.oxb = s.oxb from h3 .oxb (by decide)]; exact hr) (by rw [show w.oxb = s.oxb from h3 .oxb (by decide)]; exact hk)]
  exact h3

end Sys2Proof.Tick

end

section
/-! PROOFS. The supervisor's work at a tick edge (R22, R184, R50). -/

set_option Elab.async false

/-! ### The supervisor's work at a tick edge (R22, R184, R50) -/

namespace Sys2Proof.Tick
open Sys2Proof.Machine Sys2Proof.Safety Sys2Proof.Laws Sys2Proof.Occurrence

variable {s t u : State} {p k n : Nat} {sd : Side}

/-! #### The captures of the pairs, where their copies agree -/

/-- A step that changes of the pairs the agreed image alone. -/
structure Agreed (s t : State) : Prop where
  rest : SameBut [.pairs] s t
  pairs : t.pairs = { s.pairs with pairs := t.pairs.pairs }
  agr : ∀ q, (t.pair q).agr = (s.pair q).agr
  retired : ∀ q, (t.pair q).retired = (s.pair q).retired
  inReset : ∀ q, (t.pair q).inReset = (s.pair q).inReset

theorem Agreed.refl (s : State) : Agreed s s := ⟨.refl _ s, rfl, fun _ => rfl, fun _ => rfl, fun _ => rfl⟩

theorem Agreed.trans (h : Agreed s t) (i : Agreed t u) : Agreed s u :=
  ⟨h.rest.trans i.rest, i.pairs.trans (by rw [h.pairs]), fun q => (i.agr q).trans (h.agr q), fun q => (i.retired q).trans (h.retired q),
    fun q => (i.inReset q).trans (h.inReset q)⟩

theorem setPair_agreed {x : PairSt} (ha : x.agr = (s.pair p).agr) (hr : x.retired = (s.pair p).retired) (hi : x.inReset = (s.pair p).inReset) :
    Agreed s (s.setPair p x) := by
  have at_ : ∀ q, (s.setPair p x).pair q = if q = p then x else s.pair q := fun q => by
    by_cases e : q = p
    · rw [if_pos e, e, pair_setPair_self]
    · rw [if_neg e, pair_setPair_of_ne _ _ _ e]
  refine ⟨sameBut_pairs _ _, rfl, fun q => ?_, fun q => ?_, fun q => ?_⟩ <;> rw [at_] <;> split <;> rename_i e
  · rw [e, ha]
  · rfl
  · rw [e, hr]
  · rfl
  · rw [e, hi]
  · rfl

theorem agreeImage_agreed (s : State) (dis : List Disagreement) (p : Nat) : Agreed s (s.agreeImage dis p) := by
  unfold State.agreeImage
  split
  · exact .refl s
  · exact setPair_agreed rfl rfl rfl

theorem agreePair_none (h : (s.pair p).agr = []) : s.agreePair [] p = s.agreeImage [] p := by
  unfold State.agreePair
  rw [h]
  rfl

theorem agreePairs_agreed (h : ∀ q, (s.pair q).agr = []) (ps : List Nat) : Agreed s (ps.foldl (fun s p => s.agreePair [] p) s) :=
  List.foldlRecOn (motive := Agreed s) ps _ (.refl s) fun t ht p _ => by
    rw [agreePair_none (by rw [ht.agr, h])]
    exact ht.trans (agreeImage_agreed t [] p)

theorem pairRuns_congr (hc : t.clk = s.clk) (hp : t.pwr.domains = s.pwr.domains) (hs : t.pairs.stbFor = s.pairs.stbFor)
    (hr : ∀ q, (t.pair q).retired = (s.pair q).retired) (hi : ∀ q, (t.pair q).inReset = (s.pair q).inReset) : t.pairRuns p = s.pairRuns p := by
  unfold State.pairRuns State.clocked State.on
  rw [hc, hp, hs]
  simp only [hr, hi]

theorem Agreed.supRuns (h : Agreed s t) : t.supRuns = s.supRuns :=
  pairRuns_congr (h.rest .clk (by decide)) (congrArg PwrSt.domains (h.rest .pwr (by decide))) (congrArg PairsSt.stbFor h.pairs :) h.retired h.inReset

/-! #### The image, the requests and a RUN -/

/-- Requests that wait for RUN. -/
def runWaits (s : State) : Bool := s.host.waiting.any (fun w => w.on == .run)

/-- The image with what was written since. -/
def flipped (s : State) : State := { s with hs := { s.hs with visible := s.hs.inactive, flipDue := false, before := none } }

theorem flipImage_eq (h : s.flips = true) : s.flipImage = { (flipped s).answer .hostSig stOK (flipped s).tauBytes with free := (flipped s).free + 4 } := by
  unfold State.flipImage
  rw [h]
  rfl

theorem answered_waits (v : State) (ps : List Byte) : runWaits (v.answer .hostSig stOK ps) = runWaits v := by
  rw [answer_eq]
  show (v.host.waiting.filter (fun w => !(w.on == .hostSig))).any (fun w => w.on == .run) = v.host.waiting.any (fun w => w.on == .run)
  rw [List.any_filter]
  exact congrArg v.host.waiting.any (funext fun w => by cases w.on <;> rfl)

theorem answer_sameBut (v : State) (on : WaitFor) (st : Nat) (ps : List Byte) : SameBut [.host] v (v.answer on st ps) := by
  rw [answer_eq]
  exact sameBut_host _ _

theorem answer_queue (v : State) (on : WaitFor) (st : Nat) (ps : List Byte) : (v.answer on st ps).host.queue = v.host.queue ∧
    (v.answer on st ps).host.paused = v.host.paused := by
  rw [answer_eq]
  exact ⟨rfl, rfl⟩

theorem flipImage_spec (s : State) : SameBut [.hs, .host, .free] s s.flipImage ∧ s.flipImage.host.queue = s.host.queue ∧
    s.flipImage.host.paused = s.host.paused ∧ runWaits s.flipImage = runWaits s := by
  cases h : s.flips with
  | false =>
    unfold State.flipImage
    rw [h]
    exact ⟨.refl _ s, rfl, rfl, rfl⟩
  | true =>
    rw [flipImage_eq h]
    have f : SameBut [.hs, .host, .free] s (flipped s) := (sameBut_hs s _).mono
    obtain ⟨q1, q2⟩ := answer_queue (flipped s) .hostSig stOK (flipped s).tauBytes
    refine ⟨(f.trans (answer_sameBut _ _ _ _).mono).trans (sameBut_free _ _).mono, q1, q2, ?_⟩
    exact (answered_waits (flipped s) _).trans rfl

theorem flipImage_hs (h : s.flips = true) : s.flipImage.hs = { s.hs with visible := s.hs.inactive, flipDue := false, before := none } := by
  rw [flipImage_eq h]
  exact (answer_sameBut (flipped s) .hostSig stOK (flipped s).tauBytes) .hs (by decide)

theorem flipImage_still (h : s.flips = false) : s.flipImage = s := by
  unfold State.flipImage
  rw [h]
  rfl

theorem captureRequests_sameBut (s : State) (dis : List Disagreement) : SameBut [.host] s (s.captureRequests dis) := .ite (.refl _ s) (sameBut_host _ _)

theorem captureRequests_waits (s : State) (dis : List Disagreement) : runWaits (s.captureRequests dis) = runWaits s := by
  unfold State.captureRequests
  split <;> rfl

theorem captureRequests_all (h1 : s.supRuns = true) (h2 : s.host.paused = false) (h3 : s.on 8 = true) :
    ∀ r ∈ (s.captureRequests []).host.queue, r.captured = true := by
  unfold State.captureRequests
  rw [if_neg (by simp [h1, h2, h3])]
  intro r hr
  obtain ⟨q, -, rfl⟩ := List.mem_map.mp hr
  simp [disagrees]

theorem setReqs_sameBut (s : State) (sd : Side) (cs : List Nat) (f : Nat → Bool) : SameBut [.field] s (s.setReqs sd cs f) :=
  .foldl (fun _ _ => sameBut_field _ _) _ s

theorem startCells_sameBut (s : State) : SameBut [.cells, .field] s s.startCells := by
  unfold State.startCells
  refine .foldl (fun v n => ?_) _ s
  extract_lets +onlyGivenNames ln v1 one
  have h1 : SameBut [.cells, .field] v v1 := (sameBut_cells _ _).mono
  have ho : ∀ (w : State) (sd : Side), SameBut [.cells, .field] w (one w sd) := fun w sd => (setReqs_sameBut w sd _ _).mono.trans (sameBut_cells _ _).mono
  exact (h1.trans (ho _ .a)).trans (ho _ .b)

theorem askEpoch_none (h : s.manifestEpoch ≤ s.fusedEpoch) : s.askEpoch = s := if_pos (.inl h)

theorem fusedEpoch_congr (h : t.ros = s.ros) : t.fusedEpoch = s.fusedEpoch := by
  unfold State.fusedEpoch State.shadow
  rw [h]

theorem manifestEpoch_congr (h : t.bundles = s.bundles) : t.manifestEpoch = s.manifestEpoch := by
  unfold State.manifestEpoch
  rw [h]

/-- Each channel with a mode gets a deadline for its coverage. -/
def coverAll (s : State) : State :=
  (List.range 64).foldl (fun s c =>
    if (s.chanEntry c).mode ≠ 0 ∧ (s.cov c).deadline.isNone then
      s.setCov c { s.cov c with deadline := some (s.rif.clock + 30) } else s) s

theorem coverAll_sameBut (s : State) : SameBut [.rif] s (coverAll s) := .foldl (fun _ _ => .ite (sameBut_rif _ _) (.refl _ _)) _ s

theorem enterRun_eq (s : State) : s.enterRun = (coverAll (s.enter .run 0).startCells).askEpoch := rfl

/-- SAFE becomes RUN: the device state, the cells and the coverage deadlines change. -/
theorem enterRun_spec (hs : s.dev.st = .safe) (he : s.manifestEpoch ≤ s.fusedEpoch) : SameBut [.dev, .host, .cells, .field, .rif] s s.enterRun ∧
    s.enterRun.dev.st = .run ∧ s.enterRun.dev.safeLine = s.dev.safeLine ∧ s.enterRun.host.queue = s.host.queue ∧ s.enterRun.host.paused = s.host.paused := by
  have ne : s.dev.st ≠ .run := by rw [hs]; decide
  have h0 : SameBut [.dev, .host, .cells, .field, .rif] s (s.enter .run 0) := by
    have time := enter_time (s := s) (st := .run) 0 (by rw [hs]; decide)
    have cfg := enter_cfg (s := s) (st := .run) 0 (.inl (by decide))
    intro q hq
    rw [enter_frame 0]
    cases q with
    | time => exact time
    | cfg => exact cfg
    | dev => exact absurd (by decide) hq
    | host => exact absurd (by decide) hq
    | cells => exact absurd (by decide) hq
    | _ => rfl
  have d0 := enter_dev (s := s) (st := .run) 0 ne
  have q0 := enter_host (s := s) (st := .run) 0
  rw [enterRun_eq]
  have h1 := startCells_sameBut (s.enter .run 0)
  generalize (s.enter .run 0).startCells = v at h1
  have h2 := coverAll_sameBut v
  generalize coverAll v = w at h2
  have all : SameBut [.dev, .host, .cells, .field, .rif] s w := (h0.trans h1.mono).trans h2.mono
  have hd : w.dev = (s.enter .run 0).dev := (h2 .dev (by decide)).trans (h1 .dev (by decide))
  have hh : w.host = (s.enter .run 0).host := (h2 .host (by decide)).trans (h1 .host (by decide))
  rw [askEpoch_none (by rw [manifestEpoch_congr (all .bundles (by decide)), fusedEpoch_congr (all .ros (by decide))]; exact he), hd, hh, d0, q0]
  exact ⟨all, rfl, rfl, rfl, rfl⟩

theorem runAllowed_congr (hd : t.dev = s.dev) (hf : t.faults = s.faults) (hc : t.cfg = s.cfg) : t.runAllowed = s.runAllowed := by
  have sev : t.sevNow = s.sevNow := by
    funext l
    unfold State.sevNow State.effective State.devCont State.devCfg
    rw [hd, hc]
  unfold State.runAllowed State.liveAtLeast
  rw [hd, hf, sev]

theorem takeRun_none (h : runWaits s = false) : s.takeRun = s := if_pos (by rw [show s.host.waiting.any (fun w => w.on == .run) = false from h]; rfl)

theorem takeRun_runs (h : runWaits s = true) (ha : s.runAllowed = true) : s.takeRun = s.enterRun :=
  (if_neg (by rw [show s.host.waiting.any (fun w => w.on == .run) = true from h]; decide)).trans (if_pos ha)

theorem takeRun_refuses (h : runWaits s = true) (ha : s.runAllowed = false) : s.takeRun = s.answer .run stWRONG_STATE [] :=
  (if_neg (by rw [show s.host.waiting.any (fun w => w.on == .run) = true from h]; decide)).trans (if_neg (by rw [ha]; decide))

/-! #### The rest of the supervisor's work -/

theorem answerUnknown_spec (n : Nat) (s : State) : SameBut [.host] s (s.answerUnknown n) ∧ ∀ r ∈ (s.answerUnknown n).host.queue, r ∈ s.host.queue := by
  induction n generalizing s with
  | zero => exact ⟨.refl _ s, fun _ h => h⟩
  | succ n ih =>
    unfold State.answerUnknown
    split
    · exact ⟨.refl _ s, fun _ h => h⟩
    · split
      · exact ⟨.refl _ s, fun _ h => h⟩
      · next r rest hq =>
        split
        · dsimp only
          obtain ⟨same, sub⟩ := ih (s.popRequest.respond r (if s.popRequest.sessionBad r then stBAD_SESSION else stUNKNOWN_CMD) [])
          refine ⟨((sameBut_host s _).trans (sameBut_host _ _)).trans same, fun q hq' => ?_⟩
          exact List.mem_of_mem_tail (sub q hq')
        · exact ⟨.refl _ s, fun _ h => h⟩

theorem settle_spec (s : State) : SameBut [.host] s s.settle ∧ ∀ r ∈ s.settle.host.queue, r ∈ s.host.queue := answerUnknown_spec _ s

theorem pauseForHandover_spec (s : State) : SameBut [.host] s s.pauseForHandover ∧ s.pauseForHandover.host.queue = s.host.queue := by
  unfold State.pauseForHandover
  split
  · exact ⟨.refl _ s, rfl⟩
  · split
    · exact ⟨.refl _ s, rfl⟩
    · split
      · exact ⟨sameBut_host _ _, rfl⟩
      · split
        · exact ⟨sameBut_host _ _, rfl⟩
        · exact ⟨.refl _ s, rfl⟩

/-- The supervisor's work once a RUN has been looked at. -/
def supervised (s : State) : State :=
  let s := s.settle
  let s := if s.supRuns ∧ s.time.tick % 5 = 0 then s.checkpoint (s.hardware bSUP) [] else s
  s.pauseForHandover

theorem supervised_spec (s : State) : SameBut [.host, .pairs] s (supervised s) ∧ ∀ r ∈ (supervised s).host.queue, r ∈ s.host.queue := by
  unfold supervised
  extract_lets v w
  obtain ⟨same, sub⟩ := settle_spec s
  have h : SameBut [.pairs] v w := .ite (sameBut_pairs _ _) (.refl _ _)
  obtain ⟨p1, p2⟩ := pauseForHandover_spec w
  refine ⟨(same.mono.trans h.mono).trans p1.mono, fun r hr => sub r ?_⟩
  rw [p2, show w.host = v.host from h .host (by decide)] at hr
  exact hr

theorem tickSup_eq (s : State) (dis : List Disagreement) : s.tickSup dis = supervised ((s.flipImage.captureRequests dis).takeRun) := rfl

end Sys2Proof.Tick

end

section
/-! PROOFS. What a tick edge leaves, whatever a refused epoch or a retry of the TL word raises. -/

set_option Elab.async false

/-! ### What a tick edge leaves, whatever an unaccepted epoch or a retry of the TL word raises -/

namespace Sys2Proof.Tick
open Sys2Proof.Machine Sys2Proof.Safety Sys2Proof.Laws Sys2Proof.Occurrence

variable {s t u : State} {p k n : Nat} {sd : Side}

/-- Time goes on, the measurements and the host signals stay, and no request joins the queue. -/
structure Steady (s t : State) : Prop where
  time : t.time = { s.time with tau0 := t.time.tau0 } := by rfl
  vsup : t.pwr.vsup = s.pwr.vsup := by rfl
  tj : t.pwr.tj = s.pwr.tj := by rfl
  hs : t.hs = s.hs := by rfl
  live : t.cfg.live = s.cfg.live := by rfl
  queue : ∀ r ∈ t.host.queue, r ∈ s.host.queue := by exact fun _ h => h

theorem Steady.refl (s : State) : Steady s s := {}

theorem Steady.trans (h : Steady s t) (i : Steady t u) : Steady s u :=
  ⟨i.time.trans (by rw [h.time]), i.vsup.trans h.vsup, i.tj.trans h.tj, i.hs.trans h.hs, i.live.trans h.live, fun r hr => h.queue r (i.queue r hr)⟩

theorem Steady.ite {c : Prop} [Decidable c] (h : Steady s t) (i : Steady s u) : Steady s (if c then t else u) := by split <;> assumption

theorem Steady.foldl {α : Type} {f : State → α → State} (hf : ∀ s a, Steady s (f s a)) (l : List α) (s : State) : Steady s (l.foldl f s) :=
  List.foldlRecOn (motive := Steady s) l f (.refl s) fun t ht a _ => ht.trans (hf t a)

theorem Steady.of_sameBut {xs : List Part} (h : SameBut xs s t) (hx : ∀ p ∈ [Part.time, .pwr, .hs, .cfg, .host], p ∉ xs := by decide) : Steady s t where
  time := by rw [h .time (hx _ (by decide))]
  vsup := by rw [h .pwr (hx _ (by decide))]
  tj := by rw [h .pwr (hx _ (by decide))]
  hs := h .hs (hx _ (by decide))
  live := by rw [h .cfg (hx _ (by decide))]
  queue := by rw [h .host (hx _ (by decide))]; exact fun _ h => h

theorem Steady.of_stirred (h : Stirred s t) (hq : t.host.queue = s.host.queue) : Steady s t where
  time := h.time
  vsup := by rw [h.pwr]
  tj := by rw [h.pwr]
  hs := h.hs
  live := by rw [h.cfg]
  queue := by rw [hq]; exact fun _ h => h

theorem Steady.of_calm (h : Calm s t) : Steady s t where
  time := h.time
  vsup := by rw [h.pwr]
  tj := by rw [h.pwr]
  hs := h.hs
  live := by rw [h.cfg]
  queue := by rw [h.host]; exact fun _ h => h

/-! #### The TL word and the bursts of Oxbow -/

theorem takeJob_steady {j : RosJob} (ha : j.answer = false) : Steady s (s.takeJob j) := by
  unfold State.takeJob
  extract_lets +onlyGivenNames job s1 s2
  have ja : job.answer = false := by
    unfold job
    split <;> exact ha
  have jp : job.party = j.party := by
    unfold job
    split <;> rfl
  split
  · next res st _ =>
    extract_lets rs s3
    have h3 : Steady s s3 := {}
    unfold State.fuseAnswer
    rw [ja]
    refine h3.trans ?_
    show Steady s3 (s3.partyRefused job)
    unfold State.partyRefused
    split
    · exact {}
    · refine .ite (.refl _) (.of_stirred (raise_stirred ..) (raise_pair_queue _ (by decide) ..))
    · exact .refl _
  · exact {}

theorem askTl_steady (s : State) : Steady s s.askTl := by
  unfold State.askTl
  refine .ite (.refl s) ?_
  split
  · exact .refl s
  · split
    · exact .trans (t := { s with oxb := { s.oxb with tlPending := false } }) {} (.of_calm (raise_bOXB_calm ..))
    · dsimp only
      have h : Steady s { s with oxb := { s.oxb with tlTriedAt := s.time.tick } } := {}
      refine .ite h (h.trans ?_)
      unfold State.askJob
      exact .ite {} (takeJob_steady rfl)

theorem tickTl_steady (s : State) : Steady s s.tickTl := by
  unfold State.tickTl
  refine .ite ?_ (.refl s)
  have h : Steady s { s with oxb := { s.oxb with tlAsk := false } } := {}
  exact .ite (h.trans (askTl_steady _)) h

theorem nextBurst_steady (s : State) : Steady s s.nextBurst := by
  refine .trans (t := { s with oxb := { s.oxb with inFlight := s.oxb.dirty.take 16, dirty := s.oxb.dirty.drop 16 } }) {} (.foldl (fun v w => ?_) _ _)
  split
  · exact .refl v
  · exact .of_sameBut (closeRecord_sameBut v _ _)

theorem writeRecord_steady (s : State) (k : FlushKind) (r : OxbRec) : Steady s (s.writeRecord k r) := by
  unfold State.writeRecord State.readBack
  extract_lets bad
  exact .trans (t := { s with oxb := { s.oxb with
    mram := s.oxb.mram.write s.pwr.powerCycles r (k == .powerFail), flushed := s.oxb.flushed + 1 } }) {}
    (.foldl (fun v _ => .of_calm (raise_bOXB_calm v ..)) _ _)

theorem burst_steady (s : State) : Steady s s.burst := by
  unfold State.burst
  split
  · exact .refl s
  · next k _ =>
    refine .ite (.refl s) ?_
    have h : Steady s { s with oxb := { s.oxb with inFlight := [] } } := {}
    exact (h.trans (.foldl (fun v r => writeRecord_steady v k r) _ _)).trans (nextBurst_steady _)

theorem tickFlush_steady (s : State) : Steady s s.tickFlush := by
  unfold State.tickFlush
  extract_lets v
  exact .ite (tickTl_steady s) ((tickTl_steady s).trans (.foldl (fun w _ => burst_steady w) _ _))

theorem tickRest_steady (hl : s.cfg.live = none) : Steady s (tickRest s) := by
  unfold tickRest
  have h1 : Steady s (s.tickWeir []) := .of_sameBut (tickWeir_sameBut s [])
  have h2 := ((h1.trans (.of_sameBut (tickChanges_sameBut (h1.live.trans hl)))).trans (.of_sameBut (tickField_sameBut _))).trans
    (.of_sameBut (tickCells_sameBut _))
  generalize (s.tickWeir []).tickChanges.tickField.tickCells = v at h2
  rw [finishLive_none (h2.live.trans hl)]
  exact ((h2.trans (.of_sameBut (freeShadows_sameBut v))).trans (.of_sameBut (swapRecords_sameBut _))).trans (tickFlush_steady _)

/-! #### A RUN -/

theorem askEpoch_steady (s : State) : Steady s s.askEpoch := by
  unfold State.askEpoch State.askJob
  exact .ite (.refl s) (.ite {} (takeJob_steady rfl))

theorem enterRun_steady (s : State) (h : s.dev.st ≠ .verify) : Steady s s.enterRun := by
  rw [enterRun_eq]
  have time := enter_time (s := s) (st := .run) 0 h
  have cfg := enter_cfg (s := s) (st := .run) 0 (.inl (by decide))
  have queue : (s.enter .run 0).host.queue = s.host.queue := by rw [enter_host]
  have h0 : Steady s (s.enter .run 0) := by
    generalize he : s.enter .run 0 = v at *
    have f := enter_frame (s := s) (st := .run) 0
    rw [he] at f
    exact ⟨by rw [time], by rw [f], by rw [f], by rw [f], by rw [cfg], by rw [queue]; exact fun _ h => h⟩
  exact ((h0.trans (.of_sameBut (startCells_sameBut _))).trans (.of_sameBut (coverAll_sameBut _))).trans (askEpoch_steady _)

theorem runAllowed_safe (h : s.runAllowed = true) : s.dev.st = .safe := by
  unfold State.runAllowed at h
  simp only [Bool.and_eq_true, beq_iff_eq] at h
  tauto

theorem takeRun_steady (s : State) : Steady s s.takeRun := by
  cases h : runWaits s with
  | false => rw [takeRun_none h]; exact .refl s
  | true =>
    cases ha : s.runAllowed with
    | true => rw [takeRun_runs h ha]; exact enterRun_steady s (by rw [runAllowed_safe ha]; decide)
    | false =>
      rw [takeRun_refuses h ha]
      have hq := (answer_queue s .run stWRONG_STATE []).1
      have hf := answer_sameBut s .run stWRONG_STATE []
      exact ⟨by rw [hf .time (by decide)], by rw [hf .pwr (by decide)], by rw [hf .pwr (by decide)], hf .hs (by decide), by rw [hf .cfg (by decide)],
        by rw [hq]; exact fun _ h => h⟩

theorem supervised_steady (s : State) : Steady s (supervised s) := by
  obtain ⟨hf, hq⟩ := supervised_spec s
  exact ⟨by rw [hf .time (by decide)], by rw [hf .pwr (by decide)], by rw [hf .pwr (by decide)], hf .hs (by decide), by rw [hf .cfg (by decide)], hq⟩

end Sys2Proof.Tick

end

section
/-! PROOFS. A tick edge without slice, live commit, flush or disagreement. -/

set_option Elab.async false

/-! ### A tick edge without slice, live commit, flush or disagreement -/

namespace Sys2Proof.Tick
open Sys2Proof.Machine Sys2Proof.Safety Sys2Proof.Laws Sys2Proof.Occurrence

variable {s t u : State} {p k n : Nat} {sd : Side}

/-- The state at the edge: the tick, its slots and the measurements. -/
def edged (s : State) (v : Nat) (tj : Int) : State :=
  { s with time := { s.time with tick := s.time.tick + 1, slotInTick := 0 },
           pwr := { s.pwr with vsup := v, tj := tj },
           field := { s.field with vfLow := s.params.vfLow } }

theorem edged_sameBut (s : State) (v : Nat) (tj : Int) : SameBut [.time, .pwr, .field] s (edged s v tj) :=
  SameBut.trans (t := { s with time := { s.time with tick := s.time.tick + 1, slotInTick := 0 } }) (sameBut_time _ _).mono
    (SameBut.trans (t := { s with time := { s.time with tick := s.time.tick + 1, slotInTick := 0 }, pwr := { s.pwr with vsup := v, tj := tj } })
      (sameBut_pwr _ _).mono (sameBut_field _ _).mono)

theorem tickEdge_eq (h : s.rif.slice = none) (v : Nat) (tj : Int) : s.tickEdge v tj = edged s v tj := by
  unfold State.tickEdge State.judgeSlice
  dsimp only
  rw [h]
  rfl

/-- The state in which the supervisor's work begins. -/
def agreed (s : State) (v : Nat) (tj : Int) : State := [1, 2, 3, 4, 5, 6].foldl (fun s p => s.agreePair [] p) (edged s v tj)

theorem systemTick_eq (hc : s.clocked = true) (ho : s.dev.st ≠ .off) (hs : s.rif.slice = none) (v : Nat) (tj : Int) :
    exec (.systemTick v tj [] []) s = .next (tickRest (supervised (((agreed s v tj).flipImage.captureRequests []).takeRun))) := by
  have e : exec (.systemTick v tj [] []) s = execSystemTick v tj [] [] s := rfl
  rw [e]
  refine congrArg Host.Outcome.next ((if_neg (by simp [hc, ho])).trans ?_)
  dsimp only
  rw [tickEdge_eq hs]
  unfold agreed
  rw [tickSup_eq]
  generalize ([1, 2, 3, 4, 5, 6].foldl (fun s p => s.agreePair [] p) (edged s v tj)) = w
  generalize supervised ((w.flipImage.captureRequests []).takeRun) = u
  rfl

theorem systemTick_still (h : s.clocked = false ∨ s.dev.st = .off) (v : Nat) (tj : Int) : exec (.systemTick v tj [] []) s = .next s := by
  have e : exec (.systemTick v tj [] []) s = execSystemTick v tj [] [] s := rfl
  rw [e]
  refine congrArg Host.Outcome.next (if_pos ?_)
  rcases h with h | h <;> simp [h]

section
variable (hs : s.rif.slice = none) (ha : ∀ p, (s.pair p).agr = [])
include ha

theorem agreed_spec (v : Nat) (tj : Int) : Agreed (edged s v tj) (agreed s v tj) := agreePairs_agreed (s := edged s v tj) ha _

theorem agreed_frame (v : Nat) (tj : Int) : SameBut [.time, .pwr, .field, .pairs] s (agreed s v tj) :=
  (edged_sameBut s v tj).mono.trans (agreed_spec ha v tj).rest.mono

theorem agreed_supRuns (v : Nat) (tj : Int) : (agreed s v tj).supRuns = s.supRuns := (agreed_spec ha v tj).supRuns.trans rfl

theorem agreed_on (v : Nat) (tj : Int) (d : Nat) : (agreed s v tj).on d = s.on d := by
  unfold State.on
  rw [(agreed_spec ha v tj).rest .pwr (by decide)]
  rfl

theorem agreed_flips (v : Nat) (tj : Int) : (agreed s v tj).flips = (s.hs.flipDue && !s.host.paused && s.supRuns) := by
  unfold State.flips
  rw [agreed_supRuns ha, agreed_frame ha v tj .hs (by decide), agreed_frame ha v tj .host (by decide)]

end

end Sys2Proof.Tick

end

section
/-! PROOFS. The claims of a tick edge. -/

set_option Elab.async false

/-! ### The claims of a tick edge -/

namespace Sys2Proof.Tick
open Sys2Proof.Machine Sys2Proof.Safety Sys2Proof.Laws Sys2Proof.Occurrence

variable {s t u : State} {p k n : Nat} {sd : Side}

theorem supRuns_of_frame {xs : List Part} (h : SameBut xs s t) (hx : ∀ p ∈ [Part.clk, .pwr, .pairs], p ∉ xs := by decide) : t.supRuns = s.supRuns := by
  have hp := h .pairs (hx _ (by decide))
  refine pairRuns_congr (h .clk (hx _ (by decide))) (congrArg PwrSt.domains (h .pwr (hx _ (by decide)))) (congrArg PairsSt.stbFor hp)
    (fun q => ?_) (fun q => ?_)
  · unfold State.pair
    rw [hp]
  · unfold State.pair
    rw [hp]

theorem on_of_frame {xs : List Part} (h : SameBut xs s t) (hx : Part.pwr ∉ xs := by decide) (d : Nat) : t.on d = s.on d := by
  unfold State.on
  rw [h .pwr hx]

/-- The state in which a RUN is looked at. -/
def captured (s : State) (v : Nat) (tj : Int) : State := (agreed s v tj).flipImage.captureRequests []

section
variable (ha : ∀ p, (s.pair p).agr = []) (v : Nat) (tj : Int)
include ha

theorem captured_frame : SameBut [.time, .pwr, .field, .pairs, .hs, .host, .free] s (captured s v tj) :=
  ((agreed_frame ha v tj).mono.trans (flipImage_spec _).1.mono).trans (captureRequests_sameBut _ _).mono

theorem captured_time : (captured s v tj).time = { s.time with tick := s.time.tick + 1, slotInTick := 0 } :=
  ((captureRequests_sameBut _ _) .time (by decide)).trans (((flipImage_spec _).1 .time (by decide)).trans ((agreed_spec ha v tj).rest .time (by decide)))

theorem captured_pwr : (captured s v tj).pwr = { s.pwr with vsup := v, tj := tj } :=
  ((captureRequests_sameBut _ _) .pwr (by decide)).trans (((flipImage_spec _).1 .pwr (by decide)).trans ((agreed_spec ha v tj).rest .pwr (by decide)))

theorem captured_hs : (captured s v tj).hs = (agreed s v tj).flipImage.hs := captureRequests_sameBut _ _ .hs (by decide)

theorem captured_flips (h1 : s.hs.flipDue = true) (h2 : s.host.paused = false) (h3 : s.supRuns = true) :
    (captured s v tj).hs = { s.hs with visible := s.hs.inactive, flipDue := false, before := none } := by
  rw [captured_hs ha, flipImage_hs (by rw [agreed_flips ha, h1, h2, h3]; rfl), agreed_frame ha v tj .hs (by decide)]

theorem captured_still (h : s.hs.flipDue = false ∨ s.host.paused = true ∨ s.supRuns = false) : (captured s v tj).hs = s.hs := by
  rw [captured_hs ha, flipImage_still (by rw [agreed_flips ha]; rcases h with h | h | h <;> simp [h])]
  exact agreed_frame ha v tj .hs (by decide)

theorem captured_all (h1 : s.host.paused = false) (h2 : s.supRuns = true) (h3 : s.on 8 = true) : ∀ r ∈ (captured s v tj).host.queue, r.captured = true := by
  have run := agreed_supRuns ha v tj
  have on := agreed_on ha v tj 8
  have host := agreed_frame ha v tj .host (by decide)
  obtain ⟨frame, -, paused, -⟩ := flipImage_spec (agreed s v tj)
  unfold captured
  generalize agreed s v tj = a at *
  refine captureRequests_all ?_ ?_ ?_
  · rw [supRuns_of_frame frame, run, h2]
  · rw [paused, host, h1]
  · rw [on_of_frame frame, on, h3]

theorem captured_waits : runWaits (captured s v tj) = runWaits s := by
  rw [captured, captureRequests_waits, (flipImage_spec _).2.2.2]
  unfold runWaits
  rw [agreed_frame ha v tj .host (by decide)]

end

/-- A tick edge without slice, live commit, flush or disagreement. -/
theorem systemTick_edge (v : Nat) (tj : Int) (hc : s.clocked = true) (ho : s.dev.st ≠ .off) (hs : s.rif.slice = none) (hl : s.cfg.live = none)
    (ha : ∀ p, (s.pair p).agr = []) (hr : s.oxb.running = none) (hk : s.oxb.tlAsk = false) :
    Gives (.systemTick v tj [] []) s (fun t =>
      t.time.tick = s.time.tick + 1 ∧ t.time.slotInTick = 0 ∧ t.time.frameN = s.time.frameN ∧ t.pwr.vsup = v ∧ t.pwr.tj = tj ∧
      (s.hs.flipDue = true → s.host.paused = false → s.supRuns = true → t.hs.visible = s.hs.inactive ∧ t.hs.flipDue = false) ∧
      (s.hs.flipDue = false ∨ s.host.paused = true ∨ s.supRuns = false → t.hs = s.hs) ∧
      (s.host.paused = false → s.supRuns = true → s.on 8 = true → ∀ r ∈ t.host.queue, r.captured = true) ∧
      ((∀ w ∈ s.host.waiting, w.on ≠ .run) → t.dev = s.dev ∧ t.faults = s.faults) ∧
      ((∃ w ∈ s.host.waiting, w.on = .run) → s.runAllowed = true → s.manifestEpoch ≤ s.fusedEpoch →
        t.dev.st = .run ∧ t.dev.safeLine = s.dev.safeLine)) := by
  refine ⟨_, systemTick_eq hc ho hs v tj, ?_⟩
  show _ ∧ _
  have frame := captured_frame ha v tj
  have time := captured_time ha v tj
  have pwr := captured_pwr ha v tj
  have flips := captured_flips ha v tj
  have still := captured_still ha v tj
  have all := captured_all ha v tj
  have waits := captured_waits ha v tj
  rw [show (agreed s v tj).flipImage.captureRequests [] = captured s v tj from rfl]
  generalize captured s v tj = c at *
  have lc : c.cfg.live = none := by rw [frame .cfg (by decide)]; exact hl
  have st : Steady c (tickRest (supervised c.takeRun)) :=
    have h := (takeRun_steady c).trans (supervised_steady _)
    h.trans (tickRest_steady (h.live.trans lc))
  have after : ∀ w : State, w.cfg.live = none → w.oxb = s.oxb → SameBut [.weir, .params, .field, .cells, .pairs, .host] w (tickRest (supervised w)) := by
    intro w h1 h2
    have f := (supervised_spec w).1
    exact f.mono.trans (tickRest_sameBut (by rw [f .cfg (by decide)]; exact h1) (by rw [f .oxb (by decide), h2]; exact hr)
      (by rw [f .oxb (by decide), h2]; exact hk)).mono
  refine ⟨by rw [st.time, time], by rw [st.time, time], by rw [st.time, time], by rw [st.vsup, pwr], by rw [st.tj, pwr], fun h1 h2 h3 => ?_,
    fun h => st.hs.trans (still h), fun h1 h2 h3 r hr' => all h1 h2 h3 r (st.queue r hr'), fun hw => ?_, fun hw hal he => ?_⟩
  · rw [st.hs, flips h1 h2 h3]
    exact ⟨rfl, rfl⟩
  · have none_ : runWaits c = false := by
      rw [waits]
      simpa [runWaits] using hw
    rw [takeRun_none none_]
    have f := after c lc (frame .oxb (by decide))
    exact ⟨(f .dev (by decide)).trans (frame .dev (by decide)), (f .faults (by decide)).trans (frame .faults (by decide))⟩
  · have some_ : runWaits c = true := by
      rw [waits]
      simpa [runWaits] using hw
    have ac : c.runAllowed = true := (runAllowed_congr (frame .dev (by decide)) (frame .faults (by decide)) (frame .cfg (by decide))).trans hal
    rw [takeRun_runs some_ ac]
    have ec : c.manifestEpoch ≤ c.fusedEpoch := by
      rw [manifestEpoch_congr (frame .bundles (by decide)), fusedEpoch_congr (frame .ros (by decide))]
      exact he
    obtain ⟨same, e1, e2, -, -⟩ := enterRun_spec (runAllowed_safe ac) ec
    have f := after c.enterRun (by rw [same .cfg (by decide)]; exact lc) ((same .oxb (by decide)).trans (frame .oxb (by decide)))
    rw [f .dev (by decide), e1, e2, frame .dev (by decide)]
    exact ⟨rfl, rfl⟩

end Sys2Proof.Tick

end

section
/-! PROOFS. Records that close, and the samples of a measurement block (R313, R314). -/

set_option Elab.async false

/-! ### Measurement blocks (R21, R313) -/

namespace Sys2Proof.Tick
open Sys2Proof.Machine Sys2Proof.Safety Sys2Proof.Laws Sys2Proof.Occurrence

variable {s t u : State} {p k n : Nat} {sd : Side}

/-- What a sample leaves: the words of the faults, MRAM, and the time of the last block. -/
structure Sampled (s t : State) : Prop where
  rest : SameBut [.oxb, .faults] s t
  words : t.faults.words = s.faults.words
  mram : t.oxb.mram = s.oxb.mram
  last : t.oxb.lastSampleTick = s.oxb.lastSampleTick

theorem Sampled.refl (s : State) : Sampled s s := ⟨.refl _ s, rfl, rfl, rfl⟩

theorem Sampled.trans (h : Sampled s t) (i : Sampled t u) : Sampled s u :=
  ⟨h.rest.trans i.rest, i.words.trans h.words, i.mram.trans h.mram, i.last.trans h.last⟩

theorem Sampled.ite {c : Prop} [Decidable c] (h : Sampled s t) (i : Sampled s u) : Sampled s (if c then t else u) := by split <;> assumption

theorem Sampled.foldl {α : Type} {f : State → α → State} (hf : ∀ s a, Sampled s (f s a)) (l : List α) (s : State) : Sampled s (l.foldl f s) :=
  List.foldlRecOn (motive := Sampled s) l f (.refl s) fun t ht a _ => ht.trans (hf t a)

/-- The records of other codes stay open. -/
def KeepsOthers (code : Nat) (s t : State) : Prop := ∀ c i, c ≠ code → t.openRec c i = s.openRec c i

theorem KeepsOthers.refl (code : Nat) (s : State) : KeepsOthers code s s := fun _ _ _ => rfl

theorem KeepsOthers.trans {code : Nat} (h : KeepsOthers code s t) (i : KeepsOthers code t u) : KeepsOthers code s u :=
  fun c n hc => (i c n hc).trans (h c n hc)

theorem setOpen_sampled (s : State) (o : OpenRec) : Sampled s (s.setOpen o) := ⟨(sameBut_oxb s _).mono, rfl, rfl, rfl⟩

theorem find_filter_others {l : List OpenRec} {q : OpenRec → Bool} {r : OpenRec → Bool} (h : ∀ o, q o = true → r o = true) :
    (l.filter r).find? q = l.find? q := by
  rw [List.find?_filter]
  exact congrArg l.find? (funext fun o => by cases hq : q o <;> simp [h, hq])

theorem setOpen_keeps (s : State) (o : OpenRec) : KeepsOthers o.rcd.code s (s.setOpen o) := by
  intro c i hc
  have no : ∀ x : OpenRec, (x.rcd.code == o.rcd.code && x.rcd.inst == o.rcd.inst) = true → (x.rcd.code == c && x.rcd.inst == i) = false := by
    intro x hx
    simp only [Bool.and_eq_true, beq_iff_eq] at hx
    rw [hx.1, show (o.rcd.code == c) = false from beq_false_of_ne (Ne.symm hc)]
    rfl
  have own : (o.rcd.code == c && o.rcd.inst == i) = false := by
    rw [show (o.rcd.code == c) = false from beq_false_of_ne (Ne.symm hc)]
    rfl
  unfold State.openRec State.setOpen
  dsimp only
  split
  · induction s.oxb.openRecs with
    | nil => rfl
    | cons x xs ih =>
      rw [List.map_cons, List.find?_cons, List.find?_cons, ih]
      by_cases hx : (x.rcd.code == o.rcd.code && x.rcd.inst == o.rcd.inst) = true
      · rw [if_pos hx, own, no x hx]
      · rw [if_neg hx]
  · rw [List.find?_append]
    simp [own]

/-- The occurrences that a record holds. -/
def holdsIn (o : OpenRec) (l : LiveInst) : Bool := faultCode l.block l.index == o.rcd.code && l.inRec == some o.rcd.inst

/-- A record as it closes: bin 10 counts the occurrences that are still live. -/
def closedRec (s : State) (o : OpenRec) (fl : Nat) : OxbRec :=
  let n := (s.faults.live.filter (holdsIn o)).length
  let r := if n = 0 then o.rcd else o.rcd.bin 10 n
  { r with stop := s.pwr.opSeconds, cycles := s.pwr.powerCycles, flags := r.flags ||| fl }

/-- The state once a record is in the dirty queue. -/
def closedState (s : State) (o : OpenRec) (fl : Nat) : State :=
  { s with
    oxb := { s.oxb with
      openRecs := s.oxb.openRecs.filter (fun x => !x.is o.rcd.code o.rcd.inst),
      closing := s.oxb.closing.filter (fun w => !(w.code == o.rcd.code && w.inst == o.rcd.inst)),
      dirty := s.oxb.dirty ++ [closedRec s o fl],
      nextWindow := if isMeasurement o.rcd.code then s.oxb.nextWindow.put (o.rcd.code * 65536 + o.rcd.inst) s.pwr.opSeconds else s.oxb.nextWindow },
    faults := { s.faults with live := s.faults.live.map (fun l => if holdsIn o l then { l with inRec := none } else l) } }

/-- A record that closes waits for a slot, or joins the queue, which then may ask for a flush. -/
theorem closeRecord_cases (s : State) (o : OpenRec) (fl : Nat) :
    (oxbRoom ≤ s.oxb.dirty.length ∧ s.closeRecord o fl = s.waitForSlot o.rcd.code o.rcd.inst fl) ∨
    (s.oxb.dirty.length < oxbRoom ∧
      (s.closeRecord o fl = closedState s o fl ∨ s.closeRecord o fl = (closedState s o fl).flushQueue .routine)) := by
  by_cases h : oxbRoom ≤ s.oxb.dirty.length
  · exact .inl ⟨h, if_pos h⟩
  · refine .inr ⟨Nat.lt_of_not_ge h, ?_⟩
    rw [show s.closeRecord o fl = _ from if_neg h]
    exact (ite_eq_or_eq _ _ _).symm

theorem waitForSlot_sampled (s : State) (code inst fl : Nat) : Sampled s (s.waitForSlot code inst fl) ∧
    (s.waitForSlot code inst fl).oxb.openRecs = s.oxb.openRecs := by
  unfold State.waitForSlot
  split
  · exact ⟨.refl s, rfl⟩
  · exact ⟨⟨(sameBut_oxb s _).mono, rfl, rfl, rfl⟩, rfl⟩

theorem flushQueue_sampled (s : State) (k : FlushKind) : Sampled s (s.flushQueue k) := ⟨(sameBut_oxb s _).mono, rfl, rfl, rfl⟩

theorem closedState_sampled (s : State) (o : OpenRec) (fl : Nat) : Sampled s (closedState s o fl) :=
  ⟨SameBut.trans (t := { s with oxb := (closedState s o fl).oxb }) (sameBut_oxb s _).mono (sameBut_faults _ _).mono, rfl, rfl, rfl⟩

theorem closedState_keeps (s : State) (o : OpenRec) (fl : Nat) : KeepsOthers o.rcd.code s (closedState s o fl) := fun c i hc =>
  find_filter_others fun x hx => by
    simp only [Bool.and_eq_true, beq_iff_eq] at hx
    unfold OpenRec.is
    rw [hx.1, show (c == o.rcd.code) = false from beq_false_of_ne hc]
    rfl

theorem closeRecord_sampled (s : State) (o : OpenRec) (fl : Nat) : Sampled s (s.closeRecord o fl) ∧ KeepsOthers o.rcd.code s (s.closeRecord o fl) := by
  rcases closeRecord_cases s o fl with ⟨-, e⟩ | ⟨-, e | e⟩
  · obtain ⟨h, k⟩ := waitForSlot_sampled s o.rcd.code o.rcd.inst fl
    rw [e]
    exact ⟨h, fun c i _ => congrArg (List.find? _) k⟩
  · rw [e]
    exact ⟨closedState_sampled s o fl, closedState_keeps s o fl⟩
  · rw [e]
    exact ⟨(closedState_sampled s o fl).trans (flushQueue_sampled _ _), closedState_keeps s o fl⟩

theorem closeDue_sampled (s : State) (code inst : Nat) : Sampled s (s.closeDue code inst) ∧ KeepsOthers code s (s.closeDue code inst) := by
  unfold State.closeDue
  split
  · exact ⟨.refl s, .refl _ s⟩
  · next o ho =>
    have code_ : o.rcd.code = code := by
      have := List.find?_some ho
      simp only [Bool.and_eq_true, beq_iff_eq] at this
      exact this.1
    have h := closeRecord_sampled s o 0
    rw [code_] at h
    split
    · exact h
    · exact ⟨.refl s, .refl _ s⟩

theorem makeWay_sampled (s : State) (code inst : Nat) : Sampled s (s.makeWay code inst) ∧ KeepsOthers code s (s.makeWay code inst) := by
  unfold State.makeWay
  extract_lets v
  obtain ⟨h, k⟩ := closeDue_sampled s code inst
  obtain ⟨h2, k2⟩ := closeDue_sampled v code 0xFFFF
  split
  · exact ⟨h.trans h2, k.trans k2⟩
  · exact ⟨h, k⟩

theorem recordFor_code (s : State) (code inst start : Nat) : (s.recordFor code inst start).1.rcd.code = code := by
  have found : ∀ {i : Nat} {o : OpenRec}, s.openRec code i = some o → o.rcd.code = code := fun h => by
    have := List.find?_some h
    simp only [Bool.and_eq_true, beq_iff_eq] at this
    exact this.1
  unfold State.recordFor
  dsimp only
  split
  · next o ho => exact found ho
  · split
    · split
      · next o ho =>
        show o.rcd.code = code
        exact found ho
      · rfl
    · rfl

theorem sample_sampled (s : State) (code inst : Nat) (v : Int) : Sampled s (s.sample code inst v) ∧ KeepsOthers code s (s.sample code inst v) := by
  unfold State.sample
  extract_lets w
  obtain ⟨h, k⟩ := makeWay_sampled s code inst
  have hc := recordFor_code w code inst (w.oxb.nextWindow.getD (code * 65536 + inst) w.pwr.opSeconds)
  generalize w.recordFor code inst (w.oxb.nextWindow.getD (code * 65536 + inst) w.pwr.opSeconds) = y at hc ⊢
  obtain ⟨o, b⟩ := y
  have k2 := setOpen_keeps w { o with rcd := (o.rcd.addCount 1 v v).bin (sampleBin code v) 1 }
  rw [show ({ o with rcd := (o.rcd.addCount 1 v v).bin (sampleBin code v) 1 } : OpenRec).rcd.code = code from hc] at k2
  exact ⟨h.trans (setOpen_sampled _ _), k.trans k2⟩

end Sys2Proof.Tick

end

section
/-! PROOFS. The measurement blocks of the channels (R21, R264). -/

set_option Elab.async false

/-! ### Measurement blocks and operating seconds (R21, R264, R313, R325) -/

namespace Sys2Proof.Tick
open Sys2Proof.Machine Sys2Proof.Safety Sys2Proof.Laws Sys2Proof.Occurrence Sys2Proof.Detect

variable {s t u : State} {p k n c g : Nat} {sd : Side}

/-! #### A channel publishes its block and starts anew -/

/-- A fold reaches what each of its steps reaches and the others keep. -/
theorem foldl_each {α β : Type} {f : β → α → β} {Q : α → β → Prop} (own : ∀ s i, Q i (f s i)) (keep : ∀ s i j, Q j s → Q j (f s i)) :
    ∀ (l : List α) (s : β), (∀ i ∈ l, Q i (l.foldl f s)) ∧ ∀ j, Q j s → Q j (l.foldl f s)
  | [], _ => ⟨nofun, fun _ h => h⟩
  | x :: xs, s => by
    obtain ⟨each, kept⟩ := foldl_each own keep xs (f s x)
    refine ⟨fun i hi => ?_, fun j hj => kept j (keep s x j hj)⟩
    rcases List.mem_cons.mp hi with rfl | hi
    · exact kept i (own s i)
    · exact each i hi

/-- The extremes of a field group start anew. -/
def freshGroup (s : State) (sd : Side) (g : Nat) : State := s.setGview sd g { s.gview sd g with minVf := none, maxTemp := none }

/-- The largest current of an output starts anew. -/
def freshView (s : State) (sd : Side) (c : Nat) : State := s.setView sd c { s.view sd c with maxI := 0 }

theorem freshGroup_gview (s : State) (sd : Side) (g : Nat) {sd' : Side} {g' : Nat}
    (h : (sd', g') = (sd, g) ∨ (s.gview sd' g').minVf = none ∧ (s.gview sd' g').maxTemp = none) :
    ((freshGroup s sd g).gview sd' g').minVf = none ∧ ((freshGroup s sd g).gview sd' g').maxTemp = none := by
  unfold freshGroup
  by_cases e : (sd', g') = (sd, g)
  · cases e
    rw [gview_setGview_self]
    exact ⟨rfl, rfl⟩
  · rw [gview_setGview_of_ne _ _ _ _ e]
    exact h.resolve_left e

theorem freshView_view (s : State) (sd : Side) (c : Nat) {sd' : Side} {c' : Nat} (h : (sd', c') = (sd, c) ∨ (s.view sd' c').maxI = 0) :
    ((freshView s sd c).view sd' c').maxI = 0 := by
  unfold freshView
  by_cases e : (sd', c') = (sd, c)
  · cases e
    rw [view_setView_self]
  · rw [view_setView_of_ne _ _ _ _ e]
    exact h.resolve_left e

/-- A channel's block starts anew. -/
def freshBlock (s : State) (sd : Side) : State := (List.range 64).foldl (freshView · sd ·) ((List.range 4).foldl (freshGroup · sd ·) s)

/-- The block is written for the mirror to take. -/
def blockWritten (s : State) (sd : Side) : State :=
  { s with cells := { s.cells with blockNext := s.cells.blockNext.put (Side.ix sd) (s.measBlock sd) } }

/-- The evaluation times of the cells start anew. -/
def freshTimes (s : State) (sd : Side) : State := s.cellsInUse.foldl (fun s n => s.setCell sd n { s.cell sd n with usedMax := 0 }) s

theorem publishBlock_eq (s : State) (sd : Side) : s.publishBlock sd = freshTimes (freshBlock (blockWritten s sd) sd) sd := rfl

theorem freshBlock_sameBut (s : State) (sd : Side) : SameBut [.field] s (freshBlock s sd) :=
  .trans (t := (List.range 4).foldl (freshGroup · sd ·) s) (.foldl (fun _ _ => sameBut_field _ _) _ s) (.foldl (fun _ _ => sameBut_field _ _) _ _)

/-- A block's extremes are none and its currents 0. -/
structure Fresh (sd : Side) (s : State) : Prop where
  groups : ∀ g < 4, (s.gview sd g).minVf = none ∧ (s.gview sd g).maxTemp = none
  views : ∀ c < 64, (s.view sd c).maxI = 0

theorem freshBlock_fresh (s : State) (sd : Side) : Fresh sd (freshBlock s sd) := by
  have g := (foldl_each (f := (freshGroup · sd ·)) (Q := fun g t => (t.gview sd g).minVf = none ∧ (t.gview sd g).maxTemp = none)
    (fun s i => freshGroup_gview s sd i (.inl rfl)) (fun s i j h => freshGroup_gview s sd i (.inr h)) (List.range 4) s).1
  have v := (foldl_each (f := (freshView · sd ·)) (Q := fun c t => (t.view sd c).maxI = 0)
    (fun s i => freshView_view s sd i (.inl rfl)) (fun s i j h => freshView_view s sd i (.inr h)) (List.range 64)
      ((List.range 4).foldl (freshGroup · sd ·) s)).1
  have keep : ∀ (l : List Nat) (s : State) (g : Nat), (l.foldl (freshView · sd ·) s).gview sd g = s.gview sd g := fun l s g =>
    List.foldlRecOn (motive := fun t : State => t.gview sd g = s.gview sd g) l _ rfl fun t h _ _ => h
  refine ⟨fun i hi => ?_, fun i hi => v i (List.mem_range.mpr hi)⟩
  unfold freshBlock
  rw [keep]
  exact g i (List.mem_range.mpr hi)

theorem freshBlock_keeps (s : State) {sd sd' : Side} (h : Fresh sd' s) : Fresh sd' (freshBlock s sd) := by
  have groups : Fresh sd' ((List.range 4).foldl (freshGroup · sd ·) s) :=
    List.foldlRecOn (motive := Fresh sd') (List.range 4) _ h fun t ht i _ =>
      ⟨fun j hj => freshGroup_gview t sd i (.inr (ht.groups j hj)), ht.views⟩
  exact List.foldlRecOn (motive := Fresh sd') (List.range 64) _ groups fun t ht i _ =>
      ⟨ht.groups, fun j hj => freshView_view t sd i (.inr (ht.views j hj))⟩

/-- The block as written stays when its channel starts anew. -/
structure Published (s t : State) : Prop where
  rest : SameBut [.cells, .field] s t
  block : t.cells.blockNext = s.cells.blockNext
  lines : t.cells.lines = s.cells.lines

theorem freshTimes_spec (s : State) (sd : Side) : SameBut [.cells] s (freshTimes s sd) ∧
    (freshTimes s sd).cells.blockNext = s.cells.blockNext ∧ (freshTimes s sd).cells.lines = s.cells.lines :=
  List.foldlRecOn (motive := fun t => SameBut [.cells] s t ∧ t.cells.blockNext = s.cells.blockNext ∧ t.cells.lines = s.cells.lines)
    s.cellsInUse _ ⟨.refl _ s, rfl, rfl⟩ fun _ h _ _ => ⟨h.1.trans (sameBut_cells _ _), h.2.1, h.2.2⟩

theorem measBlock_congr (hc : t.cfg = s.cfg) (ht : t.time = s.time) (hv : ∀ c, (t.view sd c).maxI = (s.view sd c).maxI)
    (hg : ∀ g, (t.gview sd g).minVf = (s.gview sd g).minVf ∧ (t.gview sd g).maxTemp = (s.gview sd g).maxTemp) : t.measBlock sd = s.measBlock sd := by
  unfold State.measBlock
  simp only [chanEntry_congr hc ht, hv, hg]

theorem freshBlock_other (s : State) {sd sd' : Side} (h : sd' ≠ sd) :
    (∀ g, (freshBlock s sd).gview sd' g = s.gview sd' g) ∧ ∀ c, (freshBlock s sd).view sd' c = s.view sd' c := by
  have ne : ∀ i j : Nat, (sd', i) ≠ (sd, j) := fun _ _ e => h (congrArg Prod.fst e)
  have groups : (∀ g, ((List.range 4).foldl (freshGroup · sd ·) s).gview sd' g = s.gview sd' g) ∧
      ∀ c, ((List.range 4).foldl (freshGroup · sd ·) s).view sd' c = s.view sd' c :=
    List.foldlRecOn (motive := fun t : State => (∀ g, t.gview sd' g = s.gview sd' g) ∧ ∀ c, t.view sd' c = s.view sd' c) (List.range 4) _
      ⟨fun _ => rfl, fun _ => rfl⟩ fun t ht i _ => ⟨fun g => (gview_setGview_of_ne _ _ _ _ (ne g i)).trans (ht.1 g), ht.2⟩
  exact List.foldlRecOn (motive := fun t : State => (∀ g, t.gview sd' g = s.gview sd' g) ∧ ∀ c, t.view sd' c = s.view sd' c) (List.range 64) _
      groups fun t ht i _ => ⟨ht.1, fun c => (view_setView_of_ne _ _ _ _ (ne c i)).trans (ht.2 c)⟩

theorem publishBlock_spec (s : State) (sd : Side) : SameBut [.cells, .field] s (s.publishBlock sd) ∧
    (s.publishBlock sd).cells.blockNext = s.cells.blockNext.put (Side.ix sd) (s.measBlock sd) ∧
    (s.publishBlock sd).cells.lines = s.cells.lines ∧ (s.publishBlock sd).field = (freshBlock (blockWritten s sd) sd).field := by
  rw [publishBlock_eq]
  have w : SameBut [.cells, .field] s (blockWritten s sd) := (sameBut_cells _ _).mono
  have f := freshBlock_sameBut (blockWritten s sd) sd
  obtain ⟨t1, t2, t3⟩ := freshTimes_spec (freshBlock (blockWritten s sd) sd) sd
  refine ⟨(w.trans f.mono).trans t1.mono, ?_, ?_, t1 .field (by decide)⟩
  · rw [t2, f .cells (by decide)]
    rfl
  · rw [t3, f .cells (by decide)]
    rfl

theorem Fresh.of_field (h : Fresh sd s) (hf : t.field = s.field) : Fresh sd t := by
  refine ⟨fun g hg => ?_, fun c hc => ?_⟩
  · unfold State.gview
    rw [hf]
    exact h.groups g hg
  · unfold State.view
    rw [hf]
    exact h.views c hc

/-- Both channels publish their blocks. -/
theorem publishBlocks_spec (s : State) : SameBut [.cells, .field] s ((s.publishBlock .a).publishBlock .b) ∧
    (∀ sd, ((s.publishBlock .a).publishBlock .b).cells.blockNext.get? (Side.ix sd) = some (s.measBlock sd)) ∧
    ((s.publishBlock .a).publishBlock .b).cells.lines = s.cells.lines ∧ ∀ sd, Fresh sd ((s.publishBlock .a).publishBlock .b) := by
  obtain ⟨a1, a2, a3, a4⟩ := publishBlock_spec s .a
  obtain ⟨g, v⟩ := freshBlock_other (blockWritten s .a) (sd := .a) (sd' := .b) (by decide)
  have fa : Fresh .a (s.publishBlock .a) := (freshBlock_fresh (blockWritten s .a) .a).of_field a4
  have same : (s.publishBlock .a).measBlock .b = s.measBlock .b := by
    refine measBlock_congr (a1 .cfg (by decide)) (a1 .time (by decide)) (fun c => ?_) (fun g' => ?_)
    · unfold State.view
      rw [a4]
      exact congrArg View.maxI (v c)
    · unfold State.gview
      rw [a4]
      exact ⟨congrArg GroupView.minVf (g g'), congrArg GroupView.maxTemp (g g')⟩
  generalize s.publishBlock .a = w at *
  obtain ⟨b1, b2, b3, b4⟩ := publishBlock_spec w .b
  refine ⟨a1.trans b1, fun sd => ?_, b3.trans a3, fun sd => ?_⟩
  · rw [b2, a2, same, tab_get_put]
    cases sd with
    | a => rw [if_neg (by decide), tab_get_put, if_pos rfl]
    | b => rw [if_pos rfl]
  · cases sd with
    | a => exact (freshBlock_keeps (blockWritten w .b) (fa.of_field rfl)).of_field b4
    | b => exact (freshBlock_fresh (blockWritten w .b) .b).of_field b4

end Sys2Proof.Tick

end

section
/-! PROOFS. MEASUREMENT_BLOCK and OPERATING_SECOND. O50. -/

set_option Elab.async false

/-! ### MEASUREMENT_BLOCK and OPERATING_SECOND -/

namespace Sys2Proof.Tick
open Sys2Proof.Machine Sys2Proof.Safety Sys2Proof.Laws Sys2Proof.Occurrence

variable {s t u : State} {p k n c g : Nat} {sd : Side}

/-- Samples of other codes: the record of VSUP stays as it is. -/
structure Beside (s t : State) : Prop where
  sampled : Sampled s t
  vsup : t.openRec oxVSUP_MIN 0 = s.openRec oxVSUP_MIN 0

theorem Beside.refl (s : State) : Beside s s := ⟨.refl s, rfl⟩

theorem Beside.trans (h : Beside s t) (i : Beside t u) : Beside s u := ⟨h.sampled.trans i.sampled, i.vsup.trans h.vsup⟩

theorem Beside.foldl {α : Type} {f : State → α → State} (hf : ∀ s a, Beside s (f s a)) (l : List α) (s : State) : Beside s (l.foldl f s) :=
  List.foldlRecOn (motive := Beside s) l f (.refl s) fun t ht a _ => ht.trans (hf t a)

theorem sample_beside (s : State) {code : Nat} (h : oxVSUP_MIN ≠ code) (inst : Nat) (v : Int) : Beside s (s.sample code inst v) :=
  ⟨(sample_sampled s code inst v).1, (sample_sampled s code inst v).2 _ _ h⟩

theorem sampleSide_beside (s : State) (sd : Side) : Beside s (s.sampleSide sd) := by
  unfold State.sampleSide
  extract_lets off b v1 v2 v3
  have h1 : Beside s v1 := .foldl (fun _ _ => sample_beside _ (by decide) _ _) _ _
  have h2 : Beside v1 v2 := .foldl (fun _ _ => sample_beside _ (by decide) _ _) _ _
  have h3 : Beside v2 v3 := .foldl (fun _ _ => sample_beside _ (by decide) _ _) _ _
  exact ((h1.trans h2).trans h3).trans (.foldl (fun _ _ => sample_beside _ (by decide) _ _) _ _)

theorem makeWay_none (h : s.openRec k n = none) (hf : s.pendingFull = false) : s.makeWay k n = s := by
  have due : s.closeDue k n = s := by
    unfold State.closeDue
    rw [h]
  unfold State.makeWay
  dsimp only
  rw [due, hf, Bool.and_false]
  rfl

/-- The first sample of a measurement opens its record. -/
theorem sample_opens (h : s.openRec k n = none) (hf : s.pendingFull = false) (v : Int) :
    ∃ o, (s.sample k n v).openRec k n = some o ∧ o.rcd.count = 1 ∧ o.rcd.lo = v ∧ o.rcd.hi = v := by
  unfold State.sample State.recordFor
  dsimp only
  rw [makeWay_none h hf, h]
  dsimp only
  rw [if_neg (by rw [hf]; decide)]
  have none_ : ∀ o : OpenRec, o.rcd.code = k → o.rcd.inst = n → (s.setOpen o).openRec k n = some o := by
    intro o ho hi
    have any : s.oxb.openRecs.any (fun x => x.rcd.code == o.rcd.code && x.rcd.inst == o.rcd.inst) = false := by
      rw [ho, hi, List.any_eq_false]
      exact fun x hx => List.find?_eq_none.mp h x hx
    unfold State.openRec State.setOpen
    dsimp only
    rw [any, if_neg (by decide), List.find?_append, show s.oxb.openRecs.find? (fun x => x.rcd.code == k && x.rcd.inst == n) = none from h]
    simp [ho, hi]
  exact ⟨_, none_ _ rfl rfl, rfl, rfl, rfl⟩

/-- The samples of one block. -/
def sampledBlock (s : State) (v : Nat) (tj : Int) : State :=
  let s := (s.sample oxVSUP_MIN 0 v).sample oxLOGIC_TEMP 0 tj
  if s.supRuns then (s.sampleSide .a).sampleSide .b else s

theorem sampledBlock_spec (s : State) (v : Nat) (tj : Int) : Sampled s (sampledBlock s v tj) ∧
    (sampledBlock s v tj).openRec oxVSUP_MIN 0 = (s.sample oxVSUP_MIN 0 v).openRec oxVSUP_MIN 0 := by
  unfold sampledBlock
  extract_lets w
  have h := (sample_sampled s oxVSUP_MIN 0 v).1
  have h2 : Beside _ w := sample_beside (s.sample oxVSUP_MIN 0 v) (by decide) 0 tj
  have h3 := (sampleSide_beside w .a).trans (sampleSide_beside _ .b)
  split
  · exact ⟨(h.trans h2.sampled).trans h3.sampled, h3.vsup.trans h2.vsup⟩
  · exact ⟨h.trans h2.sampled, h2.vsup⟩

theorem measBlock_of_sampled (h : SameBut [.oxb, .faults] s t) : t.measBlock sd = s.measBlock sd := by
  have hf : t.field = s.field := h .field (by decide)
  refine measBlock_congr (h .cfg (by decide)) (h .time (by decide)) (fun c => ?_) (fun g => ?_)
  · unfold State.view
    rw [hf]
  · unfold State.gview
    rw [hf]
    exact ⟨rfl, rfl⟩

theorem measurementBlock_early (h : s.time.tick < s.oxb.lastSampleTick + 2000) (v : Nat) (tj : Int) : exec (.measurementBlock v tj) s = .next s := by
  have e : exec (.measurementBlock v tj) s = execMeasurementBlock v tj s := rfl
  rw [e]
  exact congrArg Host.Outcome.next (if_pos (.inr (.inr h)))

theorem measurementBlock_gives (hm : s.oxb.mounted = true) (hc : s.clocked = true) (h : s.oxb.lastSampleTick + 2000 ≤ s.time.tick) (v : Nat) (tj : Int) :
    Gives (.measurementBlock v tj) s (fun t =>
      SameBut [.oxb, .cells, .field, .faults] s t ∧ t.faults.words = s.faults.words ∧ t.oxb.lastSampleTick = s.time.tick ∧
      t.oxb.mram = s.oxb.mram ∧
      (∀ sd, t.cells.blockNext.get? (Side.ix sd) = some (s.measBlock sd)) ∧ t.cells.lines = s.cells.lines ∧
      (∀ sd g, g < 4 → (t.gview sd g).minVf = none ∧ (t.gview sd g).maxTemp = none) ∧ (∀ sd c, c < 64 → (t.view sd c).maxI = 0) ∧
      (s.oxb.frozen = false → s.openRec oxVSUP_MIN 0 = none → s.pendingFull = false → ∃ o, t.openRec oxVSUP_MIN 0 = some o ∧ o.rcd.count = 1 ∧
        o.rcd.lo = (v : Int) ∧ o.rcd.hi = (v : Int))) := by
  have e : exec (.measurementBlock v tj) s = execMeasurementBlock v tj s := rfl
  unfold Gives
  rw [e]
  refine ⟨_, congrArg Host.Outcome.next (if_neg (by simp [hm, hc, h])), ?_⟩
  extract_lets +onlyGivenNames o w w1 w2
  show _ ∧ _
  have hw : SameBut [.oxb, .faults] s w := (sameBut_oxb s _).mono
  obtain ⟨b1, b2⟩ := sampledBlock_spec w v tj
  have h2 : Sampled w w2 ∧ (s.oxb.frozen = false → w2 = sampledBlock w v tj) := by
    unfold w2
    split
    · next fr => exact ⟨.refl w, fun hf => absurd (show s.oxb.frozen = true from fr) (by rw [hf]; decide)⟩
    · exact ⟨b1, fun _ => rfl⟩
  obtain ⟨h2, h3⟩ := h2
  clear_value w2
  obtain ⟨p1, p2, p3, p4⟩ := publishBlocks_spec w2
  have all := hw.trans h2.rest
  refine ⟨all.mono.trans p1.mono, ?_, ?_, ?_, fun sd => ?_, ?_, fun sd => (p4 sd).groups, fun sd => (p4 sd).views, fun hf ho hp => ?_⟩
  · rw [p1 .faults (by decide), h2.words]
  · rw [p1 .oxb (by decide), h2.last]
  · rw [p1 .oxb (by decide), h2.mram]
  · rw [p2 sd, measBlock_of_sampled all]
  · rw [p3, all .cells (by decide)]
  · obtain ⟨o, o1, o2⟩ := sample_opens (s := w) (k := oxVSUP_MIN) (n := 0) ho hp v
    refine ⟨o, ?_, o2⟩
    rw [← o1, ← b2, ← h3 hf]
    unfold State.openRec
    rw [p1 .oxb (by decide)]

/-! #### Operating seconds -/

/-- The second is counted. -/
def secondCounted (s : State) : State :=
  { s with
    pwr := { s.pwr with opSeconds := min 0xFFFFFFFF (s.pwr.opSeconds + 1), sinceRelease := s.pwr.sinceRelease + 1 },
    rif := if s.dev.st = .run ∨ s.dev.st = .safe then { s.rif with clock := s.rif.clock + 1 } else s.rif }

/-- The loads of the evaluators over the second are kept. -/
def secondEnded (s : State) : State := [2, 3, 4, 5].foldl (fun s p => s.setPair p (s.pair p).endSecond) s

theorem secondEnded_pair (s : State) (p : Nat) : (secondEnded s).pair p = if 2 ≤ p ∧ p ≤ 5 then (s.pair p).endSecond else s.pair p := by
  unfold secondEnded
  simp only [List.foldl_cons, List.foldl_nil, pair_setPair]
  by_cases h2 : p = 2
  · subst h2; rfl
  · by_cases h3 : p = 3
    · subst h3; rfl
    · by_cases h4 : p = 4
      · subst h4; rfl
      · by_cases h5 : p = 5
        · subst h5; rfl
        · rw [if_neg h5, if_neg h4, if_neg h3, if_neg h2, if_neg (by omega)]

theorem secondEnded_sameBut (s : State) : SameBut [.pairs] s (secondEnded s) := .foldl (fun _ _ => sameBut_pairs _ _) _ s

theorem operatingSecond_eq (h1 : s.dev.st ≠ .off) (h2 : s.dev.released = true) : exec .operatingSecond s =
    .next (if (secondEnded (secondCounted s)).copiesRun then (secondEnded (secondCounted s)).writeCopies else secondEnded (secondCounted s)) := by
  have e : exec .operatingSecond s = execOperatingSecond s := rfl
  rw [e]
  exact congrArg Host.Outcome.next (if_neg (by simp [h1, h2]))

theorem secondCounted_sameBut (s : State) : SameBut [.pwr, .rif] s (secondCounted s) :=
  SameBut.trans (t := { s with pwr := (secondCounted s).pwr }) (sameBut_pwr _ _).mono (sameBut_rif _ (secondCounted s).rif).mono

theorem operatingSecond_gives (h1 : s.dev.st ≠ .off) (h2 : s.dev.released = true) : Gives .operatingSecond s (fun t =>
      SameBut [.pwr, .rif, .oxb, .pairs] s t ∧ t.pwr.opSeconds = min 0xFFFFFFFF (s.pwr.opSeconds + 1) ∧
      t.pwr.sinceRelease = s.pwr.sinceRelease + 1 ∧ t.pwr.powerCycles = s.pwr.powerCycles ∧
      t.rif = { s.rif with clock := s.rif.clock + (if s.dev.st = .run ∨ s.dev.st = .safe then 1 else 0) } ∧
      (∀ p, t.pair p = if 2 ≤ p ∧ p ≤ 5 then (s.pair p).endSecond else s.pair p) ∧
      (s.copiesRun = false → t.oxb = s.oxb) ∧
      (s.copiesRun = true → s.oxb.storeFail ≠ some 0x10 → t.oxb.dirty = s.oxb.dirty ∧
        t.oxb.mram.seconds = [t.pwr.opSeconds, t.pwr.opSeconds, t.pwr.opSeconds] ∧
        t.oxb.mram.cycles = [s.pwr.powerCycles, s.pwr.powerCycles, s.pwr.powerCycles])) := by
  refine ⟨_, operatingSecond_eq h1 h2, ?_⟩
  show _ ∧ _
  have frame : SameBut [.pwr, .rif, .pairs] s (secondEnded (secondCounted s)) :=
    (secondCounted_sameBut s).mono.trans (secondEnded_sameBut (secondCounted s)).mono
  have pwr : (secondEnded (secondCounted s)).pwr = { s.pwr with opSeconds := min 0xFFFFFFFF (s.pwr.opSeconds + 1), sinceRelease := s.pwr.sinceRelease + 1 } :=
    secondEnded_sameBut (secondCounted s) .pwr (by decide)
  have rif : (secondEnded (secondCounted s)).rif = { s.rif with clock := s.rif.clock + (if s.dev.st = .run ∨ s.dev.st = .safe then 1 else 0) } := by
    refine (secondEnded_sameBut (secondCounted s) .rif (by decide)).trans ?_
    unfold secondCounted
    dsimp only
    split <;> rfl
  have pair : ∀ p, (secondEnded (secondCounted s)).pair p = if 2 ≤ p ∧ p ≤ 5 then (s.pair p).endSecond else s.pair p := secondEnded_pair _
  have runs : (secondEnded (secondCounted s)).copiesRun = s.copiesRun := by
    unfold State.copiesRun State.on State.clocked
    rw [pwr, frame .clk (by decide), frame .oxb (by decide), frame .dev (by decide), frame .host (by decide)]
  rw [runs]
  generalize secondEnded (secondCounted s) = w at *
  have oxb : w.oxb = s.oxb := frame .oxb (by decide)
  have copies : SameBut [.oxb] w w.writeCopies := by
    unfold State.writeCopies
    exact .ite (.refl _ w) (sameBut_oxb _ _)
  cases hr : s.copiesRun with
  | false =>
    rw [if_neg (by decide)]
    exact ⟨frame.mono, by rw [pwr], by rw [pwr], by rw [pwr], rif, pair, fun _ => oxb, nofun⟩
  | true =>
    rw [if_pos rfl]
    have cp := copies .pwr (by decide)
    refine ⟨frame.mono.trans copies.mono, by rw [cp, pwr], by rw [cp, pwr], by rw [cp, pwr], (copies .rif (by decide)).trans rif, fun p => ?_, nofun,
      fun _ hf => ?_⟩
    · rw [← pair p]
      unfold State.pair
      rw [copies .pairs (by decide)]
    · unfold State.writeCopies
      rw [if_neg (by rw [oxb]; exact hf), oxb, pwr]
      exact ⟨rfl, rfl, rfl⟩

/-- Settles O50: at an edge the services change nothing of the time, the measurements and the host signals, whatever a refused epoch raises; a
block and a second are written as their definitions say. -/
theorem ticksAndMeasurements : Obligations.TicksAndMeasurements := by
  unfold Obligations.TicksAndMeasurements
  refine ⟨fun s v tj => ⟨fun h => systemTick_still h v tj, fun h1 h2 h3 h4 h5 h6 h7 => systemTick_edge v tj h1 h2 h3 h4 h5 h6 h7⟩, fun s => ⟨fun v tj hm hc =>
    ⟨fun h => measurementBlock_early h v tj, fun h => measurementBlock_gives hm hc h v tj⟩, fun h => ?_, operatingSecond_gives⟩⟩
  have e : exec .operatingSecond s = execOperatingSecond s := rfl
  rw [e]
  refine congrArg Host.Outcome.next (if_pos ?_)
  rcases h with h | h <;> simp [h]

end Sys2Proof.Tick

end

section
/-! PROOFS. The fields of a command frame (Table 3.11, R74, R78). -/

set_option Elab.async false

/-! ### The fields of a command frame (Table 3.11, R74, R78) -/

namespace Sys2Proof.Coupler
open Sys2Proof.Machine Sys2Proof.Safety Sys2Proof.Laws

theorem crcBit_lt {w poly r : Nat} (hp : poly < 2 ^ w) (b : Bool) : crcBit w poly r b < 2 ^ w := by
  unfold crcBit
  dsimp only
  have sh : r * 2 % 2 ^ w < 2 ^ w := Nat.mod_lt _ (Nat.two_pow_pos w)
  split
  · exact Nat.xor_lt_two_pow sh hp
  · exact sh

theorem crcBits_lt {w poly r : Nat} (hp : poly < 2 ^ w) (hr : r < 2 ^ w) (bs : List Bool) : crcBits w poly r bs < 2 ^ w :=
  List.foldlRecOn (motive := (· < 2 ^ w)) bs _ hr fun _ _ b _ => crcBit_lt hp b

theorem crc_lt {w poly r : Nat} (hp : poly < 2 ^ w) (hr : r < 2 ^ w) (bs : List Byte) : crc w poly r bs < 2 ^ w :=
  List.foldlRecOn (motive := (· < 2 ^ w)) bs _ hr fun _ hr _ _ => List.foldlRecOn (motive := (· < 2 ^ w)) _ _ hr fun _ _ _ _ => crcBit_lt hp _

theorem token_lt (sd : Side) (n : Nat) (q : Bool) (c : Nat) : token sd n q c < 64 := by
  unfold token
  cases sd <;> exact crcBits_lt (w := 6) (by decide) (by decide) _

/-- The 32 bits before the CRC. -/
def cmdBody (ty : Nat) (tick : Bool) (fcnt atok btok aux : Nat) : Nat :=
  ty % 4 * 2 ^ 30 + b2n tick * 2 ^ 29 + fcnt % 16 * 2 ^ 25 + atok % 64 * 2 ^ 19 + btok % 64 * 2 ^ 13 + aux % 8192

section
variable (ty : Nat) (tick : Bool) (fcnt atok btok aux : Nat)

theorem cmdBody_lt : cmdBody ty tick fcnt atok btok aux < 2 ^ 32 := by
  unfold cmdBody b2n
  split <;> omega

theorem commandFrame_toNat : (commandFrame ty tick fcnt atok btok aux).toNat =
    cmdBody ty tick fcnt atok btok aux * 256 + cmdCrc (cmdBody ty tick fcnt atok btok aux) := by
  have hb := cmdBody_lt ty tick fcnt atok btok aux
  have hc : cmdCrc (cmdBody ty tick fcnt atok btok aux) < 256 := crc_lt (w := 8) (by decide) (by decide) _
  have e : commandFrame ty tick fcnt atok btok aux =
      BitVec.ofNat 40 (cmdBody ty tick fcnt atok btok aux * 256 + cmdCrc (cmdBody ty tick fcnt atok btok aux)) := rfl
  rw [e, BitVec.toNat_ofNat]
  generalize cmdBody ty tick fcnt atok btok aux = b at *
  generalize cmdCrc b = x at *
  omega

/-- The body of a frame is what stands above its CRC. -/
theorem commandFrame_div : (commandFrame ty tick fcnt atok btok aux).toNat / 256 = cmdBody ty tick fcnt atok btok aux := by
  rw [commandFrame_toNat]
  have hc : cmdCrc (cmdBody ty tick fcnt atok btok aux) < 256 := crc_lt (w := 8) (by decide) (by decide) _
  omega

/-- A field of the frame above its CRC. -/
theorem frBits_commandFrame (hi lo : Nat) : frBits (commandFrame ty tick fcnt atok btok aux) (hi + 8) (lo + 8) =
    cmdBody ty tick fcnt atok btok aux / 2 ^ lo % 2 ^ (hi + 1 - lo) := by
  unfold frBits bitsOf
  rw [Nat.shiftRight_eq_div_pow, Nat.pow_add, Nat.mul_comm, ← Nat.div_div_eq_div_mul, show (2 : Nat) ^ 8 = 256 from rfl, commandFrame_div]
  congr 2
  omega

theorem commandFrame_type : frBits (commandFrame ty tick fcnt atok btok aux) 39 38 = ty % 4 := by
  rw [frBits_commandFrame _ _ _ _ _ _ 31 30]
  unfold cmdBody b2n
  split <;> omega

theorem commandFrame_count : cmdFcnt (commandFrame ty tick fcnt atok btok aux) = fcnt % 16 := by
  unfold cmdFcnt
  rw [frBits_commandFrame _ _ _ _ _ _ 28 25]
  unfold cmdBody b2n
  split <;> omega

theorem commandFrame_tokenA : frBits (commandFrame ty tick fcnt atok btok aux) 32 27 = atok % 64 := by
  rw [frBits_commandFrame _ _ _ _ _ _ 24 19]
  unfold cmdBody b2n
  split <;> omega

theorem commandFrame_tokenB : frBits (commandFrame ty tick fcnt atok btok aux) 26 21 = btok % 64 := by
  rw [frBits_commandFrame _ _ _ _ _ _ 18 13]
  unfold cmdBody b2n
  split <;> omega

theorem commandFrame_sel : cmdSel (commandFrame ty tick fcnt atok btok aux) = aux / 256 % 32 := by
  unfold cmdSel
  rw [frBits_commandFrame _ _ _ _ _ _ 12 8]
  unfold cmdBody b2n
  split <;> omega

theorem commandFrame_tick : cmdTick (commandFrame ty tick fcnt atok btok aux) = tick := by
  unfold cmdTick
  have e : (commandFrame ty tick fcnt atok btok aux).toNat.testBit 37 = decide (frBits (commandFrame ty tick fcnt atok btok aux) (29 + 8) (29 + 8) = 1) := by
    unfold frBits bitsOf
    rw [Nat.testBit, Nat.shiftRight_eq_div_pow, Nat.one_and_eq_mod_two]
    rw [show 29 + 8 + 1 - (29 + 8) = 1 from rfl, Nat.pow_one]
    generalize (commandFrame ty tick fcnt atok btok aux).toNat / 2 ^ (29 + 8) = x
    rcases Nat.mod_two_eq_zero_or_one x with h | h <;> rw [h] <;> rfl
  rw [← BitVec.testBit_toNat, e, frBits_commandFrame]
  unfold cmdBody b2n
  cases tick with
  | false =>
    rw [if_neg (by decide)]
    exact decide_eq_false (by omega)
  | true =>
    rw [if_pos rfl]
    exact decide_eq_true (by omega)

theorem commandFrame_ok (h : ty % 4 ≠ 0) : cmdOk (commandFrame ty tick fcnt atok btok aux) = true := by
  unfold cmdOk
  rw [commandFrame_type, commandFrame_div, commandFrame_toNat]
  have hc : cmdCrc (cmdBody ty tick fcnt atok btok aux) < 256 := crc_lt (w := 8) (by decide) (by decide) _
  generalize cmdBody ty tick fcnt atok btok aux = b at *
  rw [show (b * 256 + cmdCrc b) % 256 = cmdCrc b by omega]
  simp [h]

end

end Sys2Proof.Coupler

end

section
/-! PROOFS. The couplers go to their steps and send their frames (R71, R82). -/

set_option Elab.async false

/-! ### What a coupler slot writes (R71, R82) -/

namespace Sys2Proof.Coupler
open Sys2Proof.Machine Sys2Proof.Safety Sys2Proof.Laws

variable {s t u : State} {c i n : Nat} {sd : Side}

theorem coupler_setView (s : State) (sd : Side) (c : Nat) (v : View) (c' : Nat) : (s.setView sd c v).coupler c' = s.coupler c' := rfl

theorem nextStep_congr (hk : t.coupler c = s.coupler c) (hv : ∀ sd, t.view sd c = s.view sd c) (ht : t.time = s.time) : t.nextStep c = s.nextStep c := by
  unfold State.nextStep State.heardBy
  rw [hk, hv, hv, ht]

/-! #### The couplers go to their steps -/

/-- What a change of one coupler leaves: the other couplers with their views, and all else. -/
structure OneCoupler (c : Nat) (s t : State) : Prop where
  rest : t = { s with field := { s.field with couplers := t.field.couplers, views := t.field.views } }
  coupler : ∀ c', c' ≠ c → t.coupler c' = s.coupler c'
  view : ∀ sd c', c' ≠ c → t.view sd c' = s.view sd c'

theorem setView_other (s : State) (sd sd' : Side) {c c' : Nat} (v : View) (h : c' ≠ c) : (s.setView sd c v).view sd' c' = s.view sd' c' :=
  view_setView_of_ne _ _ _ _ fun e => h (congrArg Prod.snd e)

theorem advanceCoupler_one (s : State) (c : Nat) : OneCoupler c s (s.advanceCoupler c) ∧ ((s.advanceCoupler c).coupler c).step = s.nextStep c := by
  unfold State.advanceCoupler
  extract_lets k off s1
  refine ⟨⟨rfl, fun c' h => ?_, fun sd c' h => ?_⟩, ?_⟩
  · exact (coupler_setCoupler _ _ _ _).trans (if_neg h)
  · rw [setView_other _ _ _ _ h, setView_other _ _ _ _ h]
    rfl
  · show (s1.coupler c).step = _
    rw [show s1.coupler c = _ from (coupler_setCoupler _ _ _ _).trans (if_pos rfl)]

theorem advance_all (l : List Nat) (hl : l.Nodup) (s : State) :
    l.foldl State.advanceCoupler s =
      { s with field := { s.field with couplers := (l.foldl State.advanceCoupler s).field.couplers, views := (l.foldl State.advanceCoupler s).field.views } } ∧
    (∀ c ∈ l, ((l.foldl State.advanceCoupler s).coupler c).step = s.nextStep c) ∧
    ∀ c ∉ l, (l.foldl State.advanceCoupler s).coupler c = s.coupler c := by
  induction l generalizing s with
  | nil => exact ⟨rfl, nofun, fun _ _ => rfl⟩
  | cons x xs ih =>
    obtain ⟨hx, hxs⟩ := List.nodup_cons.mp hl
    obtain ⟨one, step⟩ := advanceCoupler_one s x
    obtain ⟨h1, h2, h3⟩ := ih hxs (s.advanceCoupler x)
    rw [List.foldl_cons]
    generalize hw : s.advanceCoupler x = w at *
    generalize xs.foldl State.advanceCoupler w = v at *
    refine ⟨?_, fun c hc => ?_, fun c hc => ?_⟩
    · refine h1.trans ?_
      rw [one.rest]
    · rcases List.mem_cons.mp hc with rfl | hc
      · rw [h3 _ hx, step]
      · have ne : c ≠ x := fun e => hx (e ▸ hc)
        rw [h2 c hc]
        refine nextStep_congr (one.coupler c ne) (fun sd => one.view sd c ne) ?_
        rw [one.rest]
    · obtain ⟨ne, hc⟩ := not_or.mp (mt List.mem_cons.mpr hc)
      rw [h3 c hc, one.coupler c ne]

/-! #### The frames -/

/-- A frame leaves its coupler. -/
def sendFrame (i n : Nat) (s : State) (c : Nat) : State := s.setCoupler c { s.coupler c with frame := some (s.slotFrame c i n) }

/-- Couplers that differ in their frames alone. -/
structure Framed (s t : State) : Prop where
  rest : t = { s with field := { s.field with couplers := t.field.couplers } }
  step : ∀ c, (t.coupler c).step = (s.coupler c).step
  goto : ∀ c, (t.coupler c).goto = (s.coupler c).goto

theorem Framed.refl (s : State) : Framed s s := ⟨rfl, fun _ => rfl, fun _ => rfl⟩

theorem Framed.trans (h : Framed s t) (k : Framed t u) : Framed s u :=
  ⟨k.rest.trans (by rw [h.rest]), fun c => (k.step c).trans (h.step c), fun c => (k.goto c).trans (h.goto c)⟩

theorem sendFrame_coupler (i n : Nat) (s : State) (x c : Nat) :
    (sendFrame i n s x).coupler c = if c = x then { s.coupler x with frame := some (s.slotFrame x i n) } else s.coupler c := coupler_setCoupler _ _ _ _

theorem sendFrame_framed (i n : Nat) (s : State) (x : Nat) : Framed s (sendFrame i n s x) := by
  refine ⟨rfl, fun c => ?_, fun c => ?_⟩ <;> rw [sendFrame_coupler] <;> split <;> rename_i h
  · rw [h]
  · rfl
  · rw [h]
  · rfl

theorem send_all (l : List Nat) (hl : l.Nodup) (i n : Nat) (s : State) :
    Framed s (l.foldl (sendFrame i n) s) ∧
    (∀ c ∈ l, ∃ u : State, Framed s u ∧ (l.foldl (sendFrame i n) s).coupler c = { s.coupler c with frame := some (u.slotFrame c i n) }) ∧
    ∀ c ∉ l, (l.foldl (sendFrame i n) s).coupler c = s.coupler c := by
  induction l generalizing s with
  | nil => exact ⟨.refl s, nofun, fun _ _ => rfl⟩
  | cons x xs ih =>
    obtain ⟨hx, hxs⟩ := List.nodup_cons.mp hl
    have at_ := sendFrame_coupler i n s x
    have one := sendFrame_framed i n s x
    obtain ⟨h1, h2, h3⟩ := ih hxs (sendFrame i n s x)
    rw [List.foldl_cons]
    generalize sendFrame i n s x = w at *
    generalize xs.foldl (sendFrame i n) w = v at *
    refine ⟨one.trans h1, fun c hc => ?_, fun c hc => ?_⟩
    · rcases List.mem_cons.mp hc with rfl | hc
      · exact ⟨s, .refl s, (h3 _ hx).trans ((at_ _).trans (if_pos rfl))⟩
      · have ne : c ≠ x := fun e => hx (e ▸ hc)
        obtain ⟨u, u1, u2⟩ := h2 c hc
        exact ⟨u, one.trans u1, by rw [u2, at_ c, if_neg ne]⟩
    · obtain ⟨ne, hc⟩ := not_or.mp (mt List.mem_cons.mpr hc)
      rw [h3 c hc, at_ c, if_neg ne]

end Sys2Proof.Coupler

end

section
/-! PROOFS. The rest of a coupler slot: checkpoint slots, pulses, slices of the field dies, and what the tokens follow. -/

set_option Elab.async false

/-! ### The rest of a coupler slot: markers of the checkpoint slots, pulses, and slices of the field dies -/

namespace Sys2Proof.Coupler
open Sys2Proof.Machine Sys2Proof.Safety Sys2Proof.Laws

variable {s t u : State} {c i n : Nat} {sd : Side}

/-! #### What a field die still holds of a slice -/

theorem endSlice_none {ch : DieCh} (h : ch.slice = none) (tick : Nat) : ch.endSlice tick = ch := by
  unfold DieCh.endSlice
  rw [h]

theorem endSlice_some {ch : DieCh} {x : DieSlice} (h : ch.slice = some x) (tick : Nat) : ch.endSlice tick =
    { ch with slice := none, cutAt := if x.step = 2 ∧ x.aborted = false then ch.cutAt else some tick } := by
  unfold DieCh.endSlice DieCh.cut
  rw [h]
  dsimp only
  by_cases hx : x.step = 2 ∧ x.aborted = false
  · rw [if_pos hx, if_pos (by rw [hx.2]; exact ⟨hx.1, rfl⟩)]
  · rw [if_neg hx, if_neg (by simpa using hx)]
    rfl

theorem endSlice_slice (ch : DieCh) (tick : Nat) : (ch.endSlice tick).slice = none := by
  cases h : ch.slice with
  | none => rw [endSlice_none h, h]
  | some x => rw [endSlice_some h]

/-- The slices of some channels end. -/
def endSome (tick : Nat) (l : List (Nat × DieCh)) (s : State) : State := l.foldl (fun s e => s.setChan e.1 (e.2.endSlice tick)) s

theorem endSlices_eq (s : State) : s.endSlices = endSome s.time.tick s.field.chans s := by
  have e : ∀ (l : List (Nat × DieCh)) (w : State), w.time.tick = s.time.tick →
      l.foldl (fun s e => s.setChan e.1 (e.2.endSlice s.time.tick)) w = endSome s.time.tick l w := by
    intro l
    induction l with
    | nil => exact fun _ _ => rfl
    | cons x xs ih =>
      intro w hw
      unfold endSome at ih ⊢
      rw [List.foldl_cons, List.foldl_cons, hw]
      exact ih _ hw
  exact e _ s rfl

theorem endSome_rest (tick : Nat) (l : List (Nat × DieCh)) (s : State) :
    endSome tick l s = { s with field := { s.field with chans := (endSome tick l s).field.chans } } := by
  induction l generalizing s with
  | nil => rfl
  | cons x xs ih => exact (ih _).trans rfl

/-- A channel that no entry names stays. -/
theorem endSome_other (tick : Nat) (l : List (Nat × DieCh)) (s : State) (h : ∀ e ∈ l, e.1 ≠ c) : (endSome tick l s).chan c = s.chan c := by
  induction l generalizing s with
  | nil => rfl
  | cons x xs ih =>
    refine (ih _ fun e he => h e (List.mem_cons_of_mem _ he)).trans ((chan_setChan _ _ _ _).trans (if_neg fun e => ?_))
    exact h x (List.mem_cons_self ..) e.symm

/-- A channel whose entries are alike gets what one of them becomes. -/
theorem endSome_mem (tick : Nat) (l : List (Nat × DieCh)) (s : State) (h : ∃ e ∈ l, e.1 = c) :
    ∃ e ∈ l, e.1 = c ∧ (endSome tick l s).chan c = e.2.endSlice tick := by
  induction l generalizing s with
  | nil => obtain ⟨e, he, -⟩ := h; exact absurd he (by simp)
  | cons x xs ih =>
    by_cases later : ∃ e ∈ xs, e.1 = c
    · obtain ⟨e, he, hc, h⟩ := ih (s.setChan x.1 (x.2.endSlice tick)) later
      exact ⟨e, List.mem_cons_of_mem _ he, hc, h⟩
    · obtain ⟨e, he, hc⟩ := h
      rcases List.mem_cons.mp he with rfl | he
      · refine ⟨e, List.mem_cons_self .., hc, ?_⟩
        refine (endSome_other tick xs _ fun d hd hdc => later ⟨d, hd, hdc⟩).trans ((chan_setChan _ _ _ _).trans (if_pos hc.symm))
      · exact absurd ⟨e, he, hc⟩ later

theorem get_mem {l : Tab DieCh} {d : DieCh} (h : l.get? c = some d) : (c, d) ∈ l := by
  induction l with
  | nil => exact nomatch h
  | cons e rest ih =>
    obtain ⟨k, w⟩ := e
    unfold Tab.get? at h
    split at h
    · next hk =>
      obtain rfl := Option.some.inj h
      exact hk ▸ List.mem_cons_self ..
    · exact List.mem_cons_of_mem _ (ih h)

theorem get_none {l : Tab DieCh} (h : l.get? c = none) : ∀ e ∈ l, e.1 ≠ c := by
  induction l with
  | nil => exact fun e he => absurd he List.not_mem_nil
  | cons e rest ih =>
    obtain ⟨k, w⟩ := e
    unfold Tab.get? at h
    split at h
    · exact nomatch h
    · next hk =>
      intro e he
      rcases List.mem_cons.mp he with rfl | he
      · exact hk
      · exact ih h e he

/-- In rising order a channel has one entry. -/
theorem get_unique {l : Tab DieCh} (h : (l.map (·.1)).Pairwise (· < ·)) : ∀ e ∈ l, l.get? e.1 = some e.2 := by
  induction l with
  | nil => exact fun e he => absurd he List.not_mem_nil
  | cons x rest ih =>
    obtain ⟨k, w⟩ := x
    obtain ⟨first, later⟩ := List.pairwise_cons.mp h
    intro e he
    unfold Tab.get?
    rcases List.mem_cons.mp he with rfl | he'
    · exact if_pos rfl
    · have lt : k < e.1 := first e.1 (List.mem_map_of_mem he')
      rw [if_neg (by omega)]
      exact ih later e he'

/-- In rising order every channel ends its own slice. -/
theorem endSlices_chan (h : (s.field.chans.map (·.1)).Pairwise (· < ·)) (c : Nat) : s.endSlices.chan c = (s.chan c).endSlice s.time.tick := by
  rw [endSlices_eq]
  cases hg : Tab.get? s.field.chans c with
  | none =>
    have e : s.chan c = {} := by
      unfold State.chan Tab.getD
      rw [hg]
      rfl
    rw [endSome_other _ _ _ (get_none hg), e]
    rfl
  | some d =>
    obtain ⟨e, he, rfl, h1⟩ := endSome_mem s.time.tick s.field.chans s ⟨(c, d), get_mem hg, rfl⟩
    rw [h1]
    unfold State.chan Tab.getD
    rw [get_unique h e he]
    rfl

/-- Where no entry holds a slice, nothing of one is seen. -/
theorem endSlices_idle (h : ∀ e ∈ s.field.chans, e.2.slice = none) (c : Nat) : (s.endSlices.chan c).slice = (s.chan c).slice := by
  have none_ : (s.chan c).slice = none := by
    unfold State.chan Tab.getD
    cases hg : Tab.get? s.field.chans c with
    | none => rfl
    | some d => exact h _ (get_mem hg)
  rw [endSlices_eq, none_]
  by_cases he : ∃ e ∈ s.field.chans, e.1 = c
  · obtain ⟨e, he, -, h1⟩ := endSome_mem s.time.tick s.field.chans s he
    rw [h1, endSlice_slice]
  · rw [endSome_other _ _ _ fun e hm hc => he ⟨e, hm, hc⟩, none_]

/-! #### The checkpoint slots and the pulses -/

theorem closeSlots_spec (s : State) : SameBut [.pairs] s s.closeSlots ∧
    ∀ p, 1 ≤ p → p ≤ 6 → s.closeSlots.pair p = (s.pair p).closeSlot s.time.tick := by
  refine ⟨.foldl (fun _ _ => sameBut_pairs _ _) _ s, fun p h1 h6 => ?_⟩
  have e : p = 1 ∨ p = 2 ∨ p = 3 ∨ p = 4 ∨ p = 5 ∨ p = 6 := by omega
  unfold State.closeSlots
  simp only [List.foldl_cons, List.foldl_nil, pair_setPair]
  rcases e with rfl | rfl | rfl | rfl | rfl | rfl <;> rfl

theorem watchPulse_rest (s : State) (h : Nat) : s.watchPulse h = { s with field := { s.field with views := (s.watchPulse h).field.views } } := by
  unfold State.watchPulse
  extract_lets both one
  have ho : ∀ (w : State) (sd : Side), one w sd = { w with field := { w.field with views := (one w sd).field.views } } := by
    intro w sd
    unfold one
    split <;> rfl
  refine (ho (one s .a) .b).trans ?_
  generalize (one (one s .a) .b).field.views = x
  rw [ho s .a]

theorem watchPulses_rest (l : List Nat) (s : State) :
    l.foldl State.watchPulse s = { s with field := { s.field with views := (l.foldl State.watchPulse s).field.views } } := by
  induction l generalizing s with
  | nil => rfl
  | cons x xs ih =>
    refine (ih (s.watchPulse x)).trans ?_
    rw [List.foldl_cons, watchPulse_rest s x]

/-! #### The tokens -/

section
variable (s : State) (f : FieldSt)

/-- The state with another field. -/
abbrev refield : State := { s with field := f }

theorem refield_namesChannel (c : Nat) : (refield s f).namesChannel c = s.namesChannel c := rfl
theorem refield_driver (c : Nat) : (refield s f).driver c = s.driver c := rfl
theorem refield_chanEntry (c : Nat) : (refield s f).chanEntry c = s.chanEntry c := rfl
theorem refield_scope (b i n : Nat) : (refield s f).scope b i n = s.scope b i n := rfl

variable {s f} (views : f.views = s.field.views) (step : ∀ c, ((refield s f).coupler c).step = (s.coupler c).step)
  (goto : ∀ c, ((refield s f).coupler c).goto = (s.coupler c).goto)
include views step goto

theorem refield_brstRunning (b : Nat) : (refield s f).brstRunning b = s.brstRunning b := by
  have view : ∀ sd c, (refield s f).view sd c = s.view sd c := fun sd c => congrArg (fun t : Tab View => t.getD (2 * c + Side.ix sd) {}) views
  unfold State.brstRunning State.couplerPending
  simp only [view, step, goto]

theorem refield_lineActive (n : Nat) : (refield s f).lineActive n = s.lineActive n := by
  unfold State.lineActive
  simp only [refield_brstRunning views step goto, refield_scope] <;> rfl

/-- The tokens of a channel follow the views and the steps of the couplers, not their frames. -/
theorem refield_tokenOn (sd : Side) (c : Nat) : (refield s f).tokenOn sd c = s.tokenOn sd c := by
  have view : ∀ c, (refield s f).view sd c = s.view sd c := fun c => congrArg (fun t : Tab View => t.getD (2 * c + Side.ix sd) {}) views
  unfold State.tokenOn State.reqOn State.pulsing State.holderOf
  simp only [view, refield_namesChannel, refield_driver, refield_lineActive views step goto, refield_chanEntry] <;> rfl

end

end Sys2Proof.Coupler

end

section
/-! PROOFS. What a coupler slot does, part by part. -/

set_option Elab.async false

/-! ### COUPLER_SLOT -/

namespace Sys2Proof.Coupler
open Sys2Proof.Machine Sys2Proof.Safety Sys2Proof.Laws

variable {s t u : State} {c i n : Nat} {sd : Side}

/-- The type of the frame that a step of Table 3.17 sends. -/
def stepType (k : Nat) : Nat := if k = 1 then 2 else if k = 2 ∨ k = 3 then 3 else 1

/-- A slot's frame has the type of its coupler's step, the tokens of its channel, and in step 7 the selection of the slot. -/
theorem slotFrame_eq (s : State) (c i n : Nat) : ∃ aux, s.slotFrame c i n =
    commandFrame (stepType (s.coupler c).step) (i == 0) n (token .a n (s.tokenOn .a c) c) (token .b n (s.tokenOn .b c) c) aux ∧
    ((s.coupler c).step = 7 → aux = s.operatingSel c i * 256) := by
  unfold State.slotFrame
  generalize (s.coupler c).step = k
  match k with
  | 0 => exact ⟨_, rfl, nofun⟩
  | 1 => exact ⟨_, rfl, nofun⟩
  | 2 => exact ⟨_, rfl, nofun⟩
  | 3 => exact ⟨_, rfl, nofun⟩
  | 4 => exact ⟨_, rfl, nofun⟩
  | 5 => exact ⟨_, rfl, nofun⟩
  | 6 => exact ⟨_, rfl, nofun⟩
  | 7 => exact ⟨_, rfl, fun _ => rfl⟩
  | k + 8 => exact ⟨0, rfl, fun h => by omega⟩

theorem stepType_lt (k : Nat) : stepType k % 4 = stepType k ∧ stepType k ≠ 0 := by
  unfold stepType
  split
  · decide
  · split <;> decide

theorem operatingSel_unit (h : c % 16 = 0) (hg : c / 16 ∈ s.rif.groupSlices) : s.operatingSel c 1 = 0x1D :=
  if_pos ⟨h, rfl, hg⟩

theorem operatingSel_slice {r : SliceRun} (h : c % 16 ≠ 0) (hr : s.rif.slice = some r) (hc : r.chan = c) (ha : r.aborted = false) (hi : i = 1 ∨ i = 2) :
    s.operatingSel c i = r.sel := by
  unfold State.operatingSel
  dsimp only
  rw [if_neg fun e => h e.1, hr]
  exact if_pos ⟨hc, hi, by rw [ha]; rfl⟩

/-- What a coupler has sent: its frame, in terms of the state after the slot. -/
structure Sent (s t : State) (i n c : Nat) (f : BitVec 40) : Prop where
  frame : (t.coupler c).frame = some f
  ok : cmdOk f = true
  count : cmdFcnt f = n % 16
  tick : cmdTick f = decide (i = 0)
  tokenA : frBits f 32 27 = token .a n (t.tokenOn .a c) c
  tokenB : frBits f 26 21 = token .b n (t.tokenOn .b c) c
  type : frBits f 39 38 = stepType (t.coupler c).step
  unitSel : (t.coupler c).step = 7 → c % 16 = 0 → c / 16 ∈ s.rif.groupSlices → i = 1 → cmdSel f = 0x1D
  sliceSel : ∀ r, (t.coupler c).step = 7 → c % 16 ≠ 0 → s.rif.slice = some r → r.chan = c → r.aborted = false → r.sel < 32 →
    i = 1 ∨ i = 2 → cmdSel f = r.sel

/-- A slot's frame is as sent, where its state gives the same tokens and steps. -/
theorem slotFrame_sent (hf : (t.coupler c).frame = some (u.slotFrame c i n)) (hk : (u.coupler c).step = (t.coupler c).step)
    (ht : ∀ sd, u.tokenOn sd c = t.tokenOn sd c) (hr : u.rif = s.rif) : Sent s t i n c (u.slotFrame c i n) := by
  obtain ⟨aux, e, sel⟩ := slotFrame_eq u c i n
  rw [hk, ht, ht] at e
  rw [hk] at sel
  rw [e] at hf ⊢
  obtain ⟨small, ne⟩ := stepType_lt (t.coupler c).step
  have tok : ∀ sd q, token sd n q c % 64 = token sd n q c := fun sd q => Nat.mod_eq_of_lt (token_lt sd n q c)
  refine ⟨hf, commandFrame_ok _ _ _ _ _ _ (by rw [small]; exact ne), commandFrame_count .., ?_, ?_, ?_, ?_, fun h7 h1 h2 h3 => ?_,
    fun r h7 h1 h2 h3 h4 h5 h6 => ?_⟩
  · rw [commandFrame_tick]
    rfl
  · rw [commandFrame_tokenA, tok]
  · rw [commandFrame_tokenB, tok]
  · rw [commandFrame_type, small]
  · rw [commandFrame_sel, sel h7, h3, operatingSel_unit h1 (by rw [hr]; exact h2)]
  · rw [commandFrame_sel, sel h7, operatingSel_slice h1 (hr ▸ h2) h3 h4 h6, Nat.mul_div_cancel _ (by decide), Nat.mod_eq_of_lt h5]

/-- The couplers have gone to their steps. -/
@[irreducible] def stepped (s : State) : State := (List.range 64).foldl State.advanceCoupler s.closeSlots

/-- The frame counter has advanced. -/
def advanced (s : State) : State :=
  { stepped s with time := { s.time with slotInTick := s.time.slotInTick + 1, slotNo := s.time.slotNo + 1, frameN := (s.time.frameN + 1) % 65536 } }

/-- The state before the frames leave. -/
@[irreducible] def watched (s : State) : State := (List.range 64).foldl State.watchPulse (advanced s)

/-- The state once the frames have left. -/
@[irreducible] def sent (s : State) : State := (List.range 64).foldl (sendFrame s.time.slotInTick ((s.time.frameN + 1) % 65536)) (watched s)

theorem stepped_time (s : State) : (stepped s).time = s.time := by
  unfold stepped
  rw [(advance_all _ List.nodup_range s.closeSlots).1]
  exact (closeSlots_spec s).1 .time (by decide)

theorem couplerSlot_eq (h : s.slotsRun = true) (h5 : s.time.slotInTick < 5) (h3 : s.time.slotInTick ≠ 3) :
    exec .couplerSlot s = .next (if s.time.slotInTick = 2 then sent s else (sent s).endSlices) := by
  have e : exec .couplerSlot s = execCouplerSlot s := rfl
  rw [e]
  refine congrArg Host.Outcome.next ((if_neg (by rw [h]; simpa using h5)).trans ?_)
  have time : ((List.range 64).foldl State.advanceCoupler s.closeSlots).time = s.time := by
    have h := stepped_time s
    unfold stepped at h
    exact h
  dsimp only
  rw [if_neg h3, time]
  unfold sent watched advanced stepped
  rfl

theorem advanced_spec (s : State) : SameBut [.time, .field, .pairs] s (advanced s) ∧
    (∀ p, 1 ≤ p → p ≤ 6 → (advanced s).pair p = (s.pair p).closeSlot s.time.tick) ∧
    (advanced s).field.dies = s.field.dies ∧ (advanced s).field.chans = s.field.chans ∧
    ∀ c < 64, ((advanced s).coupler c).step = s.nextStep c := by
  obtain ⟨close, pairs⟩ := closeSlots_spec s
  obtain ⟨rest, step, -⟩ := advance_all (List.range 64) List.nodup_range s.closeSlots
  rw [show (List.range 64).foldl State.advanceCoupler s.closeSlots = stepped s by unfold stepped; rfl] at rest step
  have rest' : stepped s = { s.closeSlots with field := { s.closeSlots.field with couplers := (stepped s).field.couplers, views := (stepped s).field.views } } :=
    rest
  have step' : ∀ c ∈ List.range 64, ((stepped s).coupler c).step = s.closeSlots.nextStep c := step
  unfold advanced
  generalize stepped s = w at *
  have field : s.closeSlots.field = s.field := close .field (by decide)
  have w1 : SameBut [.field] s.closeSlots w := by
    rw [rest']
    exact sameBut_field _ _
  refine ⟨(close.mono.trans w1.mono).trans (sameBut_time _ _).mono, fun p h1 h6 => ?_, ?_, ?_, fun c hc => ?_⟩
  · rw [← pairs p h1 h6]
    exact congrArg (fun x : PairsSt => x.pairs.getD p {}) (w1 .pairs (by decide))
  · rw [rest', ← field]
  · rw [rest', ← field]
  · refine (step' c (List.mem_range.mpr hc)).trans (nextStep_congr ?_ (fun sd => ?_) (close .time (by decide)))
    · exact congrArg (fun x : FieldSt => x.couplers.getD c {}) field
    · exact congrArg (fun x : FieldSt => x.views.getD (2 * c + Side.ix sd) {}) field

end Sys2Proof.Coupler

end

section
/-! PROOFS. A coupler slot sends a frame to every channel. O51. -/

set_option Elab.async false

/-! ### A coupler slot sends a frame to every channel -/

namespace Sys2Proof.Coupler
open Sys2Proof.Machine Sys2Proof.Safety Sys2Proof.Laws

variable {s t u : State} {c i n : Nat} {sd : Side}

/-- A state whose couplers differ in their frames, and whose field dies may have ended slices. -/
structure Reframed (s t : State) : Prop where
  rest : t = refield s { s.field with couplers := t.field.couplers, chans := t.field.chans }
  step : ∀ c, (t.coupler c).step = (s.coupler c).step
  goto : ∀ c, (t.coupler c).goto = (s.coupler c).goto

theorem Framed.reframed (h : Framed s t) : Reframed s t := ⟨h.rest.trans (by rw [h.rest]), h.step, h.goto⟩

theorem Reframed.tokenOn (h : Reframed s t) (sd : Side) (c : Nat) : t.tokenOn sd c = s.tokenOn sd c := by
  have step := h.step
  have goto := h.goto
  have e := h.rest
  generalize hx : ({ s.field with couplers := t.field.couplers, chans := t.field.chans } : FieldSt) = x at e
  subst e
  exact refield_tokenOn (by rw [← hx]) step goto sd c

theorem Reframed.sameBut (h : Reframed s t) : SameBut [.field] s t := by
  rw [h.rest]
  exact sameBut_field _ _

theorem watched_rest (s : State) : watched s = refield (advanced s) { (advanced s).field with views := (watched s).field.views } := by
  unfold watched
  exact watchPulses_rest _ _

theorem watched_spec (s : State) : SameBut [.field] (advanced s) (watched s) ∧ (watched s).field.dies = s.field.dies ∧
    (watched s).field.chans = s.field.chans ∧ ∀ c < 64, ((watched s).coupler c).step = s.nextStep c := by
  obtain ⟨-, -, dies, chans, step⟩ := advanced_spec s
  have e := watched_rest s
  generalize watched s = w at *
  refine ⟨by rw [e]; exact sameBut_field _ _, by rw [e]; exact dies, by rw [e]; exact chans, fun c hc => ?_⟩
  refine Eq.trans ?_ (step c hc)
  generalize w.field.views = x at e
  rw [e]
  rfl

theorem endSlices_reframed (s : State) : Reframed s s.endSlices := by
  have h := endSome_rest s.time.tick s.field.chans s
  rw [← endSlices_eq] at h
  refine ⟨h.trans (by rw [h]), fun c => ?_, fun c => ?_⟩ <;> rw [h] <;> rfl

theorem Reframed.trans (h : Reframed s t) (k : Reframed t u) : Reframed s u :=
  ⟨k.rest.trans (by rw [h.rest]), fun c => (k.step c).trans (h.step c), fun c => (k.goto c).trans (h.goto c)⟩

/-- The state at the end of a slot in which no slice is judged. -/
def slotted (s : State) : State := if s.time.slotInTick = 2 then sent s else (sent s).endSlices

theorem sent_framed (s : State) : Framed (watched s) (sent s) := by
  unfold sent
  exact (send_all _ List.nodup_range _ _ (watched s)).1

theorem slotted_reframed (s : State) : Reframed (watched s) (slotted s) := by
  unfold slotted
  split
  · exact (sent_framed s).reframed
  · exact (sent_framed s).reframed.trans (endSlices_reframed _)

theorem slotted_coupler (s : State) (c : Nat) : (slotted s).coupler c = (sent s).coupler c := by
  unfold slotted
  split
  · rfl
  · generalize sent s = w
    have h := endSome_rest w.time.tick w.field.chans w
    rw [← endSlices_eq] at h
    rw [h]
    rfl

theorem slotted_sent (h : c < 64) : ∃ f, Sent s (slotted s) s.time.slotInTick ((s.time.frameN + 1) % 65536) c f := by
  obtain ⟨u, hu, e⟩ := (send_all (List.range 64) List.nodup_range s.time.slotInTick ((s.time.frameN + 1) % 65536) (watched s)).2.1 c
    (List.mem_range.mpr h)
  have coupler : (slotted s).coupler c = { (watched s).coupler c with frame := some (u.slotFrame c s.time.slotInTick ((s.time.frameN + 1) % 65536)) } :=
    (slotted_coupler s c).trans (by unfold sent; exact e)
  have rif : u.rif = s.rif := (hu.reframed.sameBut .rif (by decide)).trans
    (((watched_spec s).1 .rif (by decide)).trans ((advanced_spec s).1 .rif (by decide)))
  refine ⟨_, slotFrame_sent (u := u) (by rw [coupler]) (by rw [hu.step, coupler]) (fun sd => ?_) rif⟩
  rw [hu.reframed.tokenOn, (slotted_reframed s).tokenOn]

/-! #### The slices of the field dies -/

theorem sent_chans (s : State) : (sent s).field.chans = s.field.chans := by
  have h := (sent_framed s).rest
  have w := (watched_spec s).2.2.1
  generalize watched s = v at *
  generalize sent s = t at *
  rw [h]
  exact w

theorem sent_tick (s : State) : (sent s).time.tick = s.time.tick := by
  have h := (sent_framed s).reframed.sameBut .time (by decide)
  have w : (watched s).time = (advanced s).time := (watched_spec s).1 .time (by decide)
  rw [h, w]
  rfl

theorem sent_chan (s : State) (c : Nat) : (sent s).chan c = s.chan c := congrArg (fun t : Tab DieCh => t.getD c {}) (sent_chans s)

theorem slotted_slice (h : s.time.slotInTick = 2 ∨ ∀ e ∈ s.field.chans, e.2.slice = none) (c : Nat) : ((slotted s).chan c).slice = (s.chan c).slice := by
  unfold slotted
  split
  · rw [sent_chan]
  · next h2 =>
    rw [endSlices_idle (by rw [sent_chans]; exact h.resolve_left h2), sent_chan]

theorem slotted_chan (hs : (s.field.chans.map (·.1)).Pairwise (· < ·)) (c : Nat) :
    (s.time.slotInTick = 2 ∨ (s.chan c).slice = none → (slotted s).chan c = s.chan c) ∧
    (∀ x, s.time.slotInTick ≠ 2 → (s.chan c).slice = some x → (slotted s).chan c = { s.chan c with
      slice := none, cutAt := if x.step = 2 ∧ x.aborted = false then (s.chan c).cutAt else some s.time.tick }) := by
  have ended : (sent s).endSlices.chan c = (s.chan c).endSlice s.time.tick := by
    rw [endSlices_chan (by rw [sent_chans]; exact hs), sent_chan, sent_tick]
  unfold slotted
  refine ⟨fun h => ?_, fun x h hx => ?_⟩
  · split
    · exact sent_chan s c
    · next h2 => rw [ended, endSlice_none (h.resolve_left h2)]
  · rw [if_neg h, ended, endSlice_some hx]

theorem slotted_spec (s : State) : SameBut [.time, .field, .pairs] s (slotted s) ∧ (∀ p, 1 ≤ p → p ≤ 6 → (slotted s).pair p = (s.pair p).closeSlot s.time.tick) ∧
    (slotted s).time = { s.time with slotInTick := s.time.slotInTick + 1, slotNo := s.time.slotNo + 1, frameN := (s.time.frameN + 1) % 65536 } ∧
    (slotted s).field.dies = s.field.dies ∧ ∀ c < 64, ((slotted s).coupler c).step = s.nextStep c := by
  obtain ⟨a1, a2, -⟩ := advanced_spec s
  obtain ⟨w1, w2, -, w4⟩ := watched_spec s
  have r := slotted_reframed s
  have rf := w1.trans r.sameBut
  refine ⟨a1.trans rf.mono, fun p h1 h6 => ?_, rf .time (by decide), ?_, fun c hc => (r.step c).trans (w4 c hc)⟩
  · rw [← a2 p h1 h6]
    exact congrArg (fun x : PairsSt => x.pairs.getD p {}) (rf .pairs (by decide))
  · rw [← w2, r.rest]

/-- Settles O51: each coupler goes to the step that its own state gives, and its frame is built from the state that the slot leaves. -/
theorem couplerSlotSendsFrames : Obligations.CouplerSlotSendsFrames := by
  unfold Obligations.CouplerSlotSendsFrames
  intro s h
  refine ⟨fun h5 => ?_, fun h5 h3 => ⟨slotted s, couplerSlot_eq h h5 h3, ?_⟩⟩
  · have e : exec .couplerSlot s = execCouplerSlot s := rfl
    rw [e]
    exact congrArg Host.Outcome.next (if_pos (.inr h5))
  · show _ ∧ _
    obtain ⟨same, pairs, time, dies, step⟩ := slotted_spec s
    refine ⟨same, pairs, by rw [time], by rw [time], by rw [time], by rw [time], dies, slotted_slice, slotted_chan, fun c hc => ⟨step c hc, ?_⟩⟩
    obtain ⟨f, hf⟩ := slotted_sent (s := s) hc
    exact ⟨f, hf.frame, hf.ok, hf.count, hf.tick, hf.tokenA, hf.tokenB, hf.type, hf.unitSel, hf.sliceSel⟩

end Sys2Proof.Coupler

end

section
/-! PROOFS. A skipped slice whose record a block reset of Riffle writes again. O52. -/

set_option Elab.async false

namespace Sys2Proof.Proofs
open Sys2Proof.Machine Sys2Proof.Safety Sys2Proof.Laws Sys2Proof.Occurrence

/-- A container whose policy adds the block reset of Riffle to a skipped slice. -/
def skippingCont : Container := { (default : Container) with policy := [⟨bRIF, 4, 0xFFFF, 1, rBRST⟩] }

/-- RUN in slot 1, with the unit slice of group 0 under way, and a calibration whose next channel is 4096: the number of that unit slice's
record, and of no channel. -/
def calibrating : State where
  dev := { st := .run, loaded := true }
  pwr := { domains := [0, 9, 10] }
  clk := { pllLocked := true }
  time := { slotInTick := 1 }
  cfg := { running := some ⟨skippingCont, 0, [], []⟩ }
  rif := { cal := some ⟨[4096], false, false, [], []⟩, groupSlices := [0] }

theorem calibrating_last : (match exec (.channelSliceStart true) calibrating with
    | .next t => (t.unit 4096).last == 2
    | _ => false) = true := by decide +kernel

/-- Refutes O52: the record of a skipped slice is to read 3 (skipped); in `calibrating` the block reset that the policy adds to the skip aborts the
unit slice whose record has the same number, which then reads 2. -/
theorem not_slicesCoverageAndCalibration : ¬ Obligations.SlicesCoverageAndCalibration := by
  unfold Obligations.SlicesCoverageAndCalibration
  intro h
  obtain ⟨start, -⟩ := h.1 calibrating
  obtain ⟨-, skip⟩ := start true 4096 0x1E false (by decide +kernel) rfl rfl rfl (by decide +kernel) nofun nofun (by decide +kernel)
  obtain ⟨t, done, -, -, -, last, -⟩ := skip (.inl (by decide +kernel))
  have two := calibrating_last
  rw [done, beq_iff_eq] at two
  rw [two] at last
  exact absurd last (by decide)

end Sys2Proof.Proofs

end

section
/-! PROOFS. Records close, and flushes start (R314, R318, R319). -/

set_option Elab.async false

/-! ### Records close, and flushes start (R314, R318, R319) -/

namespace Sys2Proof.Flush
open Sys2Proof.Machine Sys2Proof.Safety Sys2Proof.Laws Sys2Proof.Occurrence Sys2Proof.Tick

variable {s t u : State} {o : OpenRec} {code inst fl : Nat}

theorem openRec_is (h : s.openRec code inst = some o) : o.rcd.code = code ∧ o.rcd.inst = inst := by
  have e := List.find?_some h
  simpa only [Bool.and_eq_true, beq_iff_eq] using e

theorem closedRec_keeps (s : State) (o : OpenRec) (fl : Nat) : (closedRec s o fl).code = o.rcd.code ∧ (closedRec s o fl).inst = o.rcd.inst ∧
    (closedRec s o fl).count = o.rcd.count ∧ (closedRec s o fl).start = o.rcd.start ∧ (closedRec s o fl).stop = s.pwr.opSeconds ∧
    (closedRec s o fl).cycles = s.pwr.powerCycles := by
  unfold closedRec
  dsimp only
  split <;> exact ⟨rfl, rfl, rfl, rfl, rfl, rfl⟩

/-- What a record that closes with room in the queue leaves. -/
structure Closed (o : OpenRec) (fl : Nat) (s t : State) : Prop where
  sampled : Sampled s t
  openRecs : t.oxb.openRecs = s.oxb.openRecs.filter (fun x => !x.is o.rcd.code o.rcd.inst)
  dirty : t.oxb.dirty = s.oxb.dirty ++ [closedRec s o fl]
  closing : t.oxb.closing = s.oxb.closing.filter (fun w => !(w.code == o.rcd.code && w.inst == o.rcd.inst))
  running : t.oxb.running = s.oxb.running
  inFlight : t.oxb.inFlight = s.oxb.inFlight

theorem closeRecord_closed (h : s.oxb.dirty.length < 8192) (o : OpenRec) (fl : Nat) : Closed o fl s (s.closeRecord o fl) := by
  rcases closeRecord_cases s o fl with ⟨full, -⟩ | ⟨-, e | e⟩
  · exact absurd full (Nat.not_le.mpr h)
  · rw [e]
    exact ⟨closedState_sampled s o fl, rfl, rfl, rfl, rfl, rfl⟩
  · rw [e]
    exact ⟨(closedState_sampled s o fl).trans (flushQueue_sampled _ _), rfl, rfl, rfl, rfl, rfl⟩

theorem recordClose_eq (h : s.openRec code inst = some o) :
    exec (.recordClose code inst) s = .next (if o.rcd.start + o.interval ≤ s.pwr.opSeconds then s.closeRecord o 0 else s) := by
  have e : exec (.recordClose code inst) s = execRecordClose code inst s := rfl
  rw [e]
  unfold execRecordClose
  rw [h]

theorem recordClose_gives (h : s.openRec code inst = some o) (hd : o.rcd.start + o.interval ≤ s.pwr.opSeconds) (hr : s.oxb.dirty.length < 8192) :
    Gives (.recordClose code inst) s (fun t =>
      SameBut [.oxb, .faults] s t ∧ t.openRec code inst = none ∧ t.faults.words = s.faults.words ∧ t.oxb.mram = s.oxb.mram ∧
      ∃ r, t.oxb.dirty = s.oxb.dirty ++ [r] ∧ r.code = code ∧ r.inst = inst ∧ r.count = o.rcd.count ∧ r.start = o.rcd.start ∧
        r.stop = s.pwr.opSeconds ∧ r.cycles = s.pwr.powerCycles) := by
  refine ⟨_, (recordClose_eq h).trans (congrArg Host.Outcome.next (if_pos hd)), ?_⟩
  show _ ∧ _
  have c := closeRecord_closed hr o 0
  obtain ⟨hc, hi⟩ := openRec_is h
  obtain ⟨k1, k2, k3, k4, k5, k6⟩ := closedRec_keeps s o 0
  refine ⟨c.sampled.rest, ?_, c.sampled.words, c.sampled.mram, _, c.dirty, k1.trans hc, k2.trans hi, k3, k4, k5, k6⟩
  unfold State.openRec
  rw [c.openRecs, List.find?_filter, List.find?_eq_none]
  intro x _
  unfold OpenRec.is
  rw [hc, hi]
  cases (x.rcd.code == code && x.rcd.inst == inst) <;> decide

/-! #### Starts -/

theorem closeWaiting_none (h : s.oxb.closing = []) : s.closeWaiting = s := by
  unfold State.closeWaiting
  rw [h]
  rfl

/-- The state once the first burst of a flush has left the queue. -/
def burstOut (s : State) : State := { s with oxb := { s.oxb with inFlight := s.oxb.dirty.take 16, dirty := s.oxb.dirty.drop 16 } }

theorem nextBurst_eq (h : s.oxb.closing = []) : s.nextBurst = burstOut s := closeWaiting_none (s := burstOut s) h

/-- A flush under way, before its first burst. -/
def flushing (s : State) (k : FlushKind) : State :=
  { s with oxb := { s.oxb with running := some k, trigger := none, lastStart := some s.time.tick, flushed := 0 } }

theorem startFlush_routine (ht : s.oxb.tlPending = false) (hc : s.oxb.closing = []) : s.startFlush .routine = burstOut (flushing s .routine) := by
  unfold State.startFlush
  extract_lets +onlyGivenNames o s1 s2 s3
  have e2 : s2 = s1 := if_pos rfl
  have e3 : s3 = burstOut (flushing s .routine) := by
    unfold s3
    rw [e2]
    exact nextBurst_eq (s := s1) hc
  rw [if_neg (by rw [e3]; simp [burstOut, flushing, ht]), e3]

/-- Every open record of the list joins the queue, as long as it has room for all. -/
theorem closeAll_closed (fl : Nat) : ∀ (l : List OpenRec) (s : State), s.oxb.dirty.length + l.length ≤ 8192 → s.oxb.closing = [] →
    let t := l.foldl (fun s o => s.closeRecord o fl) s
    Sampled s t ∧ t.oxb.dirty.length = s.oxb.dirty.length + l.length ∧ t.oxb.closing = [] ∧ t.oxb.running = s.oxb.running ∧
      t.oxb.openRecs = s.oxb.openRecs.filter (fun x => l.all (fun o => !x.is o.rcd.code o.rcd.inst))
  | [], s, _, hc => ⟨.refl s, rfl, hc, rfl, by simp⟩
  | o :: l, s, hr, hc => by
    have c := closeRecord_closed (s := s) (by simp only [List.length_cons] at hr; omega) o fl
    have len : (s.closeRecord o fl).oxb.dirty.length = s.oxb.dirty.length + 1 := by rw [c.dirty, List.length_append]; rfl
    obtain ⟨h1, h2, h3, h4, h5⟩ := closeAll_closed fl l (s.closeRecord o fl) (by rw [len]; simp only [List.length_cons] at hr; omega)
      (by rw [c.closing, hc]; rfl)
    refine ⟨c.sampled.trans h1, ?_, h3, h4.trans c.running, ?_⟩
    · rw [List.foldl_cons, h2, len, List.length_cons]
      omega
    · rw [List.foldl_cons, h5, c.openRecs, List.filter_filter]
      exact List.filter_congr fun x _ => by rw [List.all_cons, Bool.and_comm]

theorem startFlush_full (ht : s.oxb.tlPending = false) (hc : s.oxb.closing = []) (hr : s.oxb.dirty.length + s.oxb.openRecs.length ≤ 8192) :
    let t := s.startFlush .full
    t.oxb.running = some .full ∧ t.oxb.openRecs = [] ∧ t.oxb.mram = s.oxb.mram ∧
      t.oxb.inFlight.length + t.oxb.dirty.length = s.oxb.dirty.length + s.oxb.openRecs.length := by
  obtain ⟨h1, h2, h3, h4, h5⟩ := closeAll_closed fgPARTIAL (flushing s .full).oxb.openRecs (flushing s .full) hr hc
  have none_ : ((flushing s .full).closeAll fgPARTIAL).oxb.openRecs = [] := by
    refine h5.trans (List.filter_eq_nil_iff.mpr fun x hx h => ?_)
    have own := List.all_eq_true.mp h x hx
    simp [OpenRec.is] at own
  have pend : ((flushing s .full).closeAll fgPARTIAL).oxb.tlPending = false := by
    rw [(closeAll_calm (flushing s .full) fgPARTIAL).oxb]
    exact ht
  have e : s.startFlush .full = burstOut ((flushing s .full).closeAll fgPARTIAL) := by
    unfold State.startFlush
    extract_lets +onlyGivenNames o s1 s2 s3
    have e2 : s2 = (flushing s .full).closeAll fgPARTIAL := if_neg (by decide)
    have e3 : s3 = burstOut ((flushing s .full).closeAll fgPARTIAL) := by
      unfold s3
      rw [e2]
      exact nextBurst_eq h3
    rw [e3]
    exact if_neg (by rw [show (burstOut ((flushing s .full).closeAll fgPARTIAL)).oxb.tlPending = _ from pend]; decide)
  dsimp only
  rw [e]
  have h2' : ((flushing s .full).closeAll fgPARTIAL).oxb.dirty.length = s.oxb.dirty.length + s.oxb.openRecs.length := h2
  have h1' : ((flushing s .full).closeAll fgPARTIAL).oxb.mram = s.oxb.mram := h1.mram
  have h4' : ((flushing s .full).closeAll fgPARTIAL).oxb.running = some .full := h4
  generalize (flushing s .full).closeAll fgPARTIAL = v at *
  refine ⟨h4', none_, h1', ?_⟩
  show (v.oxb.dirty.take 16).length + (v.oxb.dirty.drop 16).length = _
  rw [← List.length_append, List.take_append_drop, h2']

end Sys2Proof.Flush

end

section
/-! PROOFS. FLUSH_START, FLUSH_DEFERRED and FLUSH_HOURLY (R318). -/

set_option Elab.async false

/-! ### FLUSH_START, FLUSH_DEFERRED and FLUSH_HOURLY (R318) -/

namespace Sys2Proof.Flush
open Sys2Proof.Machine Sys2Proof.Safety Sys2Proof.Laws Sys2Proof.Occurrence Sys2Proof.Tick

variable {s t u : State} {k : FlushKind}

/-- A routine flush has started: its first burst is in flight, and nothing else has changed. -/
structure Bursts (s t : State) : Prop where
  running : t.oxb.running = some .routine
  inFlight : t.oxb.inFlight = s.oxb.dirty.take 16
  dirty : t.oxb.dirty = s.oxb.dirty.drop 16
  openRecs : t.oxb.openRecs = s.oxb.openRecs
  mram : t.oxb.mram = s.oxb.mram
  lastStart : t.oxb.lastStart = some s.time.tick
  rest : SameBut [.oxb] s t

theorem burstOut_bursts (s : State) : Bursts s (burstOut (flushing s .routine)) :=
  ⟨rfl, rfl, rfl, rfl, rfl, rfl, (sameBut_oxb s _).trans (sameBut_oxb _ _)⟩

section
variable (hx : s.oxbRuns = true) (hr : s.oxb.running = none)

include hx hr in
theorem flushStart_eq : exec .flushStart s = .next (match s.oxb.trigger with
    | none => s
    | some k => s.startFlush k) := by
  have e : exec .flushStart s = execFlushStart s := rfl
  rw [e]
  refine congrArg Host.Outcome.next ((if_neg (by rw [hx, hr]; decide)).trans ?_)
  cases s.oxb.trigger <;> rfl

include hx hr in
theorem flushStart_starts (ht : s.oxb.trigger = some k) : exec .flushStart s = .next (s.startFlush k) := by
  rw [flushStart_eq hx hr, ht]

include hx hr in
theorem flushStart_none (ht : s.oxb.trigger = none) : exec .flushStart s = .next s := by
  rw [flushStart_eq hx hr, ht]

include hx hr in
theorem flushDeferred_starts {d : Nat} (hd : s.oxb.deferredAt = some d) (ht : s.oxb.trigger = none) (h : d ≤ s.time.tick) :
    exec .flushDeferred s = .next (({ s with oxb := { s.oxb with deferredAt := none } } : State).startFlush .routine) := by
  have e : exec .flushDeferred s = execFlushDeferred s := rfl
  rw [e]
  unfold execFlushDeferred
  rw [hd]
  refine congrArg Host.Outcome.next ((if_neg (by rw [hx, hr]; simp [h])).trans ?_)
  rw [ht]
  rfl

theorem flushDeferred_early {d : Nat} (hd : s.oxb.deferredAt = some d) (h : s.time.tick < d) : exec .flushDeferred s = .next s := by
  have e : exec .flushDeferred s = execFlushDeferred s := rfl
  rw [e]
  unfold execFlushDeferred
  rw [hd]
  exact congrArg Host.Outcome.next (if_pos (by simp [h]))

include hx hr in
theorem flushHourly_starts (ht : s.oxb.trigger = none) (h : s.oxb.hourlyFrom + 3600 ≤ s.pwr.opSeconds) :
    exec .flushHourly s = .next (({ s with oxb := { s.oxb with hourlyFrom := s.oxb.hourlyFrom + 3600 } } : State).startFlush .routine) := by
  have e : exec .flushHourly s = execFlushHourly s := rfl
  rw [e]
  refine congrArg Host.Outcome.next ((if_neg (by rw [hx]; simp [h])).trans ?_)
  dsimp only
  rw [hr, if_neg (by decide), ht]
  rfl

theorem flushHourly_early (h : s.pwr.opSeconds < s.oxb.hourlyFrom + 3600) : exec .flushHourly s = .next s := by
  have e : exec .flushHourly s = execFlushHourly s := rfl
  rw [e]
  exact congrArg Host.Outcome.next (if_pos (.inr h))

end

/-- The start of a routine flush from a state that differs in Oxbow's own times. -/
theorem startFlush_bursts (ht : s.oxb.tlPending = false) (hc : s.oxb.closing = []) : Bursts s (s.startFlush .routine) ∧
    (s.startFlush .routine).oxb.trigger = none ∧ (s.startFlush .routine).oxb.deferredAt = s.oxb.deferredAt ∧
    (s.startFlush .routine).oxb.hourlyFrom = s.oxb.hourlyFrom := by
  rw [startFlush_routine ht hc]
  exact ⟨burstOut_bursts s, rfl, rfl, rfl⟩

theorem Bursts.of_oxb {x : OxbSt} (h : Bursts { s with oxb := x } t) (h1 : x.dirty = s.oxb.dirty) (h2 : x.openRecs = s.oxb.openRecs)
    (h3 : x.mram = s.oxb.mram) : Bursts s t :=
  ⟨h.running, h.inFlight.trans (by rw [← h1]), h.dirty.trans (by rw [← h1]), h.openRecs.trans h2, h.mram.trans h3, h.lastStart,
    (sameBut_oxb s x).trans h.rest⟩

end Sys2Proof.Flush

end

section
/-! PROOFS. Totals stay sound (R323). -/

set_option Elab.async false

/-! ### Records go to MRAM (R318, R322, R323) -/

namespace Sys2Proof.Flush
open Sys2Proof.Machine Sys2Proof.Safety Sys2Proof.Laws Sys2Proof.Occurrence Sys2Proof.Tick

variable {s t u : State} {k : FlushKind} {m : OxbMram} {r : OxbRec}

/-- No copy of Totals fails its CRC. -/
def Sound (m : OxbMram) : Prop := ∀ e ∈ m.totals, e.2.broken = []

/-! #### Totals -/

theorem mem_put {α : Type} {t : Tab α} {i : Nat} {v : α} {e : Nat × α} (h : e ∈ t.put i v) : e = (i, v) ∨ e ∈ t := by
  induction t with
  | nil => exact .inl (List.mem_singleton.mp h)
  | cons x xs ih =>
    obtain ⟨q, w⟩ := x
    unfold Tab.put at h
    split at h
    · exact (List.mem_cons.mp h).imp_right (List.mem_cons_of_mem _)
    · split at h
      · exact List.mem_cons.mp h
      · rcases List.mem_cons.mp h with rfl | h
        · exact .inr (List.mem_cons_self ..)
        · exact (ih h).imp_right (List.mem_cons_of_mem _)

theorem get_mem {α : Type} {t : Tab α} {i : Nat} {v : α} (h : t.get? i = some v) : (i, v) ∈ t := by
  induction t with
  | nil => exact nomatch h
  | cons x xs ih =>
    obtain ⟨q, w⟩ := x
    unfold Tab.get? at h
    split at h
    · next hq =>
      obtain rfl := Option.some.inj h
      exact hq ▸ List.mem_cons_self ..
    · exact List.mem_cons_of_mem _ (ih h)

theorem Sound.entry (h : Sound m) (i : Nat) : (m.totals.getD i {}).broken = [] := by
  unfold Tab.getD
  cases hg : m.totals.get? i with
  | none => rfl
  | some e => exact h _ (get_mem hg)

theorem broken_iff (e : TotEntry) : e.broken = [] ↔ (∀ r, e.copy0 = some r → r.damaged = none) ∧ ∀ r, e.copy1 = some r → r.damaged = none := by
  obtain ⟨a, b⟩ := e
  unfold TotEntry.broken
  cases a <;> cases b <;> simp

theorem broken_write {e : TotEntry} (h : e.broken = []) (hr : r.damaged = none) : (e.write r).broken = [] := by
  obtain ⟨h0, h1⟩ := (broken_iff e).mp h
  have new : ∀ x, some r = some x → x.damaged = none := fun x hx => Option.some.inj hx ▸ hr
  unfold TotEntry.write
  split
  · exact (broken_iff _).mpr ⟨new, h1⟩
  · exact (broken_iff _).mpr ⟨h0, new⟩
  · split
    · exact (broken_iff _).mpr ⟨new, h1⟩
    · exact (broken_iff _).mpr ⟨h0, new⟩

theorem newest_whole {e : TotEntry} {o : OxbRec} (h : e.newest = some o) : o.damaged = none := by
  have valid : ∀ {c : Option OxbRec} {x : OxbRec}, validCopy c = some x → x.damaged = none := by
    intro c x hx
    have p := (Option.filter_eq_some_iff.mp hx).2
    simpa using p
  unfold TotEntry.newest at h
  split at h
  · next a b ha hb =>
    split at h
    · exact Option.some.inj h ▸ valid hb
    · exact Option.some.inj h ▸ valid ha
  · next a ha hb => exact Option.some.inj h ▸ valid ha
  · next b ha => exact valid h

theorem foldRecord_whole {old : Option OxbRec} (h : ∀ o, old = some o → o.damaged = none) (hr : r.damaged = none) (inst fl cycles : Nat) :
    (foldRecord old r inst fl cycles).damaged = none := by
  unfold foldRecord
  cases old with
  | none => exact hr
  | some o => exact h o rfl

/-- A fold changes Totals alone, and keeps them sound. -/
structure Folded (m n : OxbMram) : Prop where
  rest : n = { m with totals := n.totals, totHigh := n.totHigh }
  sound : Sound m → Sound n

theorem fold_folded (m : OxbMram) (cycles : Nat) (hr : r.damaged = none) : Folded m (m.fold cycles r) := by
  have put : ∀ i inst fl, Folded m { m with
      totals := m.totals.put i ((m.totals.getD i {}).write (foldRecord (m.totals.getD i {}).newest r inst fl cycles)), totHigh := some r.seq } := by
    refine fun i inst fl => ⟨rfl, fun h e he => ?_⟩
    rcases mem_put he with rfl | he
    · exact broken_write (h.entry i) (foldRecord_whole (fun o ho => newest_whole ho) hr inst fl cycles)
    · exact h e he
  have over_ : ∀ (o : Option Nat) (n i : Nat) (c : Prop) [Decidable c], Folded m (match o with
      | some i => { m with
          totals := m.totals.put i ((m.totals.getD i {}).write (foldRecord (m.totals.getD i {}).newest r 0xFFFF fgOVERFLOW cycles)), totHigh := some r.seq }
      | none => if c then { m with
          totals := m.totals.put n ((m.totals.getD n {}).write (foldRecord (m.totals.getD n {}).newest r 0xFFFF fgOVERFLOW cycles)), totHigh := some r.seq }
        else { m with totHigh := some r.seq }) := by
    intro o n i c _
    cases o with
    | some i => exact put i _ _
    | none =>
      show Folded m (if c then _ else _)
      split
      · exact put n _ _
      · exact ⟨rfl, id⟩
  unfold OxbMram.fold
  extract_lets ovf put' general special overflow
  have ho : Folded m overflow := over_ _ _ 0 _
  split
  · exact ⟨rfl, id⟩
  · split
    · exact ho
    · split
      · exact put _ _ _
      · split
        · exact put _ _ _
        · exact ho

end Sys2Proof.Flush

end

section
/-! PROOFS. A list of records goes to MRAM, one after the other (R318, R322). -/

set_option Elab.async false

/-! ### A list of records goes to MRAM, one after the other -/

namespace Sys2Proof.Flush
open Sys2Proof.Machine Sys2Proof.Safety Sys2Proof.Laws Sys2Proof.Occurrence Sys2Proof.Tick

variable {s t u : State} {k : FlushKind} {m n : OxbMram} {r : OxbRec} {l : List OxbRec}

/-- The number of the `i`-th record after a sequence number. -/
def seqOf (seq i : Nat) : Nat := (seq + i) % 2 ^ 32

/-- The place of a number in the tail. -/
def slotOf (seq i : Nat) : Nat := seqOf seq i % 524288

theorem seqOf_zero {seq : Nat} (h : seq < 2 ^ 32) : seqOf seq 0 = seq := Nat.mod_eq_of_lt h

/-- Records less than the tail apart have places of their own. -/
theorem slotOf_ne {seq i j : Nat} (h : i < j) (hj : j < i + 524288) : slotOf seq i ≠ slotOf seq j := by
  unfold slotOf seqOf
  omega

/-- What a write of records leaves of MRAM: `first` keeps what it has, and the next number goes on. -/
structure Wrote (c : Nat) (m n : OxbMram) : Prop where
  next : n.nextSeq = if c = 0 then m.nextSeq else seqOf m.nextSeq c
  first : ∀ i x, m.first.get? i = some x → n.first.get? i = some x
  sound : Sound n

/-- A record as it stands in the tail. -/
def placed (m : OxbMram) (r : OxbRec) : OxbRec := { r with seq := m.nextSeq, damaged := none }

theorem write_spec (h : Sound m) (cycles : Nat) (r : OxbRec) : Wrote 1 m (m.write cycles r false) ∧
    (m.write cycles r false).tail = m.tail.put (m.nextSeq % 524288) (placed m r) := by
  unfold OxbMram.write
  extract_lets +onlyGivenNames q m1 m2
  rw [if_neg (by decide)]
  have e2 : m2.totals = m.totals ∧ m2.tail = m1.tail ∧ m2.nextSeq = m1.nextSeq ∧ ∀ i x, m.first.get? i = some x → m2.first.get? i = some x := by
    unfold m2
    split
    · next hq =>
      refine ⟨rfl, rfl, rfl, fun i x hx => ?_⟩
      refine (tab_get_put _ _ _ _).trans ((if_neg fun e => ?_).trans hx)
      have none_ : m.first.get? q.seq = none := by simpa [m1] using hq.2
      rw [e, none_] at hx
      exact nomatch hx
    · exact ⟨rfl, rfl, rfl, fun _ _ hx => hx⟩
  obtain ⟨e1, e3, e4, e5⟩ := e2
  have f := fold_folded m2 cycles (r := q) rfl
  have s2 : Sound m2 := fun e he => h e (e1 ▸ he)
  refine ⟨⟨?_, fun i x hx => ?_, f.sound s2⟩, ?_⟩
  · rw [f.rest]
    exact e4
  · rw [f.rest]
    exact e5 i x hx
  · rw [f.rest]
    exact e3

theorem foldReads_sound (h : Sound m) (r : OxbRec) : m.foldReads r = [] := by
  unfold OxbMram.foldReads
  dsimp only
  split
  · exact h.entry _
  · rfl

/-- The state after a record has gone to MRAM. -/
def written (s : State) (r : OxbRec) : State :=
  { s with oxb := { s.oxb with mram := s.oxb.mram.write s.pwr.powerCycles r false, flushed := s.oxb.flushed + 1 } }

theorem writeRecord_eq (hk : k ≠ .powerFail) (h : Sound s.oxb.mram) (r : OxbRec) : s.writeRecord k r = written s r := by
  unfold State.writeRecord State.readBack
  dsimp only
  rw [if_neg hk, foldReads_sound h, show (k == .powerFail) = false from beq_false_of_ne hk]
  rfl

/-- What the writes of a list leave. -/
structure Writes (l : List OxbRec) (s t : State) : Prop where
  rest : t = { s with oxb := { s.oxb with mram := t.oxb.mram, flushed := s.oxb.flushed + l.length } }
  mram : Wrote l.length s.oxb.mram t.oxb.mram
  tail : s.oxb.mram.nextSeq < 2 ^ 32 → l.length ≤ 524288 → ∀ i, (h : i < l.length) → t.oxb.mram.tail.get? (slotOf s.oxb.mram.nextSeq i) =
    some { l[i] with seq := seqOf s.oxb.mram.nextSeq i, damaged := none }

theorem seqOf_add (seq i j : Nat) : seqOf (seqOf seq i) j = seqOf seq (i + j) := by
  unfold seqOf
  omega

theorem writes_all (hk : k ≠ .powerFail) (l : List OxbRec) (s : State) (h : Sound s.oxb.mram) : Writes l s (l.foldl (fun s r => s.writeRecord k r) s) := by
  induction l using List.reverseRecOn with
  | nil => exact ⟨rfl, ⟨rfl, fun _ _ h => h, h⟩, fun _ _ i hi => absurd hi (Nat.not_lt_zero i)⟩
  | append_singleton l r ih =>
    rw [List.foldl_append, List.foldl_cons, List.foldl_nil]
    generalize l.foldl (fun s r => s.writeRecord k r) s = v at *
    rw [writeRecord_eq hk ih.mram.sound]
    obtain ⟨w, tail⟩ := write_spec ih.mram.sound v.pwr.powerCycles r
    have tail' : (written v r).oxb.mram.tail = v.oxb.mram.tail.put (v.oxb.mram.nextSeq % 524288) (placed v.oxb.mram r) := tail
    have next : s.oxb.mram.nextSeq < 2 ^ 32 → v.oxb.mram.nextSeq = seqOf s.oxb.mram.nextSeq l.length := by
      intro hs
      rw [ih.mram.next]
      split
      · next h0 => rw [h0, seqOf_zero hs]
      · rfl
    have len : (l ++ [r]).length = l.length + 1 := List.length_append
    refine ⟨?_, ⟨?_, fun i x hx => w.first i x (ih.mram.first i x hx), w.sound⟩, fun hs hl i hi => ?_⟩
    · rw [len]
      have e : v.oxb.flushed = s.oxb.flushed + l.length := by rw [ih.rest]
      refine Eq.trans (b := { v with oxb := { v.oxb with mram := (written v r).oxb.mram, flushed := s.oxb.flushed + (l.length + 1) } }) ?_ ?_
      · unfold written
        rw [e]
        rfl
      · generalize (written v r).oxb.mram = x
        rw [ih.rest]
    · rw [len, if_neg (Nat.succ_ne_zero _)]
      have n1 : (written v r).oxb.mram.nextSeq = seqOf v.oxb.mram.nextSeq 1 := w.next
      rw [n1, ih.mram.next]
      split
      · next h0 => rw [h0]
      · rw [seqOf_add]
    · rw [len] at hl hi
      rw [tail', next hs, tab_get_put, show seqOf s.oxb.mram.nextSeq l.length % 524288 = slotOf s.oxb.mram.nextSeq l.length from rfl]
      by_cases last : i = l.length
      · subst last
        rw [if_pos rfl, List.getElem_append_right (Nat.le_refl _)]
        simp only [Nat.sub_self, List.getElem_cons_zero]
        unfold placed
        rw [next hs]
      · have lt : i < l.length := by omega
        rw [if_neg (slotOf_ne lt (by omega)), ih.tail hs (by omega) i lt,
          List.getElem_append_left lt]

end Sys2Proof.Flush

end

section
/-! PROOFS. The end of a flush (R318, R321, R329). -/

set_option Elab.async false

/-! ### The end of a flush (R318, R321, R329) -/

namespace Sys2Proof.Flush
open Sys2Proof.Machine Sys2Proof.Safety Sys2Proof.Laws Sys2Proof.Occurrence Sys2Proof.Tick

variable {s t u : State} {k : FlushKind} {m n : OxbMram} {r : OxbRec} {l : List OxbRec}

/-- What a flush has not written yet. -/
def unwritten (s : State) : List OxbRec := s.oxb.inFlight ++ s.oxb.dirty

/-- The queue and what was in flight are taken. -/
def emptied (s : State) : State := { s with oxb := { s.oxb with inFlight := [], dirty := [] } }

theorem writeAll_eq (s : State) (k : FlushKind) : s.writeAll k = (unwritten s).foldl (fun s r => s.writeRecord k r) (emptied s) := rfl

theorem writeAll_none (h1 : s.oxb.inFlight = []) (h2 : s.oxb.dirty = []) : s.writeAll k = s := by
  have e : unwritten s = [] := by
    unfold unwritten
    rw [h1, h2]
    rfl
  rw [writeAll_eq, e]
  have same : ({ s.oxb with inFlight := s.oxb.inFlight, dirty := s.oxb.dirty } : OxbSt) = s.oxb := rfl
  rw [h1, h2] at same
  exact congrArg (fun o : OxbSt => { s with oxb := o }) same

theorem writeAll_writes (hk : k ≠ .powerFail) (h : Sound s.oxb.mram) : Writes (unwritten s) (emptied s) (s.writeAll k) :=
  writes_all hk (unwritten s) (emptied s) h

/-- The end of a flush: the pending image, and nothing under way. -/
def flushEnded (s : State) : State :=
  { s with oxb := { s.oxb with running := none, mram := { s.oxb.mram with image := s.oxb.openRecs, marked := !s.oxb.openRecs.isEmpty } } }

theorem endFlush_eq (hf : s.oxb.storeFail = none) (hc : s.oxb.closing = []) (hk : k ≠ .powerFail) (h : Sound s.oxb.mram) (v : Nat) :
    s.endFlush k v = (flushEnded (s.writeAll k)).writeCopies := by
  have w := writeAll_writes hk h
  have e : (s.writeAll k).closeWaiting = s.writeAll k := closeWaiting_none (by rw [w.rest]; exact hc)
  have again : (s.writeAll k).writeAll k = s.writeAll k := writeAll_none (by rw [w.rest]; rfl) (by rw [w.rest]; rfl)
  refine (if_neg (by rw [hf]; decide)).trans ?_
  dsimp only
  rw [e, again, ite_self]
  rfl

/-- What the end of a flush that has written everything leaves. -/
structure Ended (s t : State) : Prop where
  rest : SameBut [.oxb] s t
  running : t.oxb.running = none
  inFlight : t.oxb.inFlight = []
  dirty : t.oxb.dirty = []
  openRecs : t.oxb.openRecs = s.oxb.openRecs
  trigger : t.oxb.trigger = s.oxb.trigger
  flushed : t.oxb.flushed = s.oxb.flushed + (unwritten s).length
  image : t.oxb.mram.image = s.oxb.openRecs
  seconds : t.oxb.mram.seconds = [s.pwr.opSeconds, s.pwr.opSeconds, s.pwr.opSeconds]
  next : s.oxb.mram.nextSeq < 2 ^ 32 → t.oxb.mram.nextSeq = seqOf s.oxb.mram.nextSeq (unwritten s).length
  first : ∀ i r, s.oxb.mram.first.get? i = some r → t.oxb.mram.first.get? i = some r
  tail : s.oxb.mram.nextSeq < 2 ^ 32 → (unwritten s).length ≤ 524288 → ∀ i, (h : i < (unwritten s).length) →
    t.oxb.mram.tail.get? (slotOf s.oxb.mram.nextSeq i) =
      some { (unwritten s)[i] with seq := seqOf s.oxb.mram.nextSeq i, damaged := none }

theorem endFlush_ended (hf : s.oxb.storeFail = none) (hc : s.oxb.closing = []) (hk : k ≠ .powerFail) (h : Sound s.oxb.mram) (v : Nat) :
    Ended s (s.endFlush k v) := by
  have w := writeAll_writes hk h
  rw [endFlush_eq hf hc hk h]
  generalize s.writeAll k = x at *
  have fail : (flushEnded x).oxb.storeFail ≠ some 0x10 := by
    show x.oxb.storeFail ≠ _
    rw [w.rest]
    show s.oxb.storeFail ≠ _
    rw [hf]
    decide
  unfold State.writeCopies
  rw [if_neg fail]
  have rest : SameBut [.oxb] s x := by
    rw [w.rest]
    exact sameBut_oxb _ _
  have oxb : x.oxb = { s.oxb with inFlight := [], dirty := [], mram := x.oxb.mram, flushed := s.oxb.flushed + (unwritten s).length } :=
    congrArg State.oxb w.rest
  have open_ : x.oxb.openRecs = s.oxb.openRecs := by rw [oxb]
  have pwr : (flushEnded x).pwr = s.pwr := rest .pwr (by decide)
  refine ⟨(rest.trans (sameBut_oxb _ _)).trans (sameBut_oxb _ _), rfl, (congrArg OxbSt.inFlight oxb :), (congrArg OxbSt.dirty oxb :), open_,
    (congrArg OxbSt.trigger oxb :), (congrArg OxbSt.flushed oxb :), open_, ?_, fun hn => ?_, w.mram.first, w.tail⟩
  · rw [pwr]
    rfl
  · refine (w.mram.next).trans ?_
    split
    · next h0 =>
      rw [h0]
      exact (seqOf_zero hn).symm
    · rfl

/-- The end of a flush whose store has failed: everything stays in the queue. -/
structure Stopped (s t : State) : Prop where
  rest : SameBut [.oxb] s t
  running : t.oxb.running = none
  dirty : t.oxb.dirty = unwritten s
  trigger : t.oxb.trigger = s.oxb.trigger
  mram : t.oxb.mram = { s.oxb.mram with seconds := t.oxb.mram.seconds, cycles := t.oxb.mram.cycles, late := t.oxb.mram.late }
  controller : s.oxb.storeFail = some 0x10 → t.oxb.mram = s.oxb.mram
  seconds : s.oxb.storeFail ≠ some 0x10 → t.oxb.mram.seconds = [s.pwr.opSeconds, s.pwr.opSeconds, s.pwr.opSeconds]

theorem endFlush_stopped (hf : s.oxb.storeFail.isSome = true) (hc : s.oxb.closing = []) (hl : (unwritten s).length ≤ 8192) : Stopped s (s.endFlush k 0) := by
  have e : s.endFlush k 0 = State.writeCopies { s with oxb := { s.oxb with running := none, inFlight := [], dirty := unwritten s } } := by
    refine (if_pos hf).trans ?_
    dsimp only
    have dropped : (unwritten s).drop oxbRoom = [] := List.drop_eq_nil_of_le hl
    have taken : (unwritten s).take oxbRoom = unwritten s := List.take_of_length_le hl
    have q : s.requeue (unwritten s) = { s with oxb := { s.oxb with running := none, inFlight := [], dirty := unwritten s } } := by
      unfold State.requeue
      rw [dropped, taken]
      rfl
    show (s.requeue (unwritten s)).closeWaiting.writeCopies = _
    rw [q]
    exact congrArg State.writeCopies (closeWaiting_none (s := { s with oxb := { s.oxb with running := none, inFlight := [], dirty := unwritten s } }) hc)
  rw [e]
  unfold State.writeCopies
  dsimp only
  split
  · next h10 => exact ⟨sameBut_oxb _ _, rfl, rfl, rfl, rfl, fun _ => rfl, fun h => absurd h10 h⟩
  · next h10 => exact ⟨sameBut_oxb _ _, rfl, rfl, rfl, rfl, fun h => absurd h h10, fun _ => rfl⟩

/-! #### FLUSH_DONE -/

/-- The answer of a full flush, where one was asked for. -/
def flushAnswered (k : FlushKind) (s : State) : State :=
  if k = .routine ∨ s.oxb.trigger = some .full then s else (s.answer .oxbFlush stOK (leBytes 4 s.oxb.flushed)).settle

theorem flushDone_eq (h : s.oxb.running = some k) (hk : k ≠ .powerFail) : exec (.flushDone ⟨[], false, 0, []⟩) s =
    .next (flushAnswered k (s.endFlush k 0)) := by
  have e : exec (.flushDone ⟨[], false, 0, []⟩) s = execFlushDone ⟨[], false, 0, []⟩ s := rfl
  rw [e]
  unfold execFlushDone
  rw [h]
  refine congrArg Host.Outcome.next ?_
  dsimp only
  rw [if_neg hk, ite_self]
  rfl

theorem settle_empty (h : s.host.queue = []) : s.settle = s := by
  unfold State.settle
  rw [h]
  rfl

theorem flushAnswered_eq (h : s.host.queue = []) : flushAnswered k s =
    if k = .routine ∨ s.oxb.trigger = some .full then s else s.answer .oxbFlush stOK (leBytes 4 s.oxb.flushed) := by
  unfold flushAnswered
  rw [settle_empty (by rw [(answer_queue s .oxbFlush stOK (leBytes 4 s.oxb.flushed)).1]; exact h)]

theorem flushAnswered_sameBut (h : s.host.queue = []) : SameBut [.host] s (flushAnswered k s) := by
  rw [flushAnswered_eq h]
  exact .ite (.refl _ s) (answer_sameBut _ _ _ _)

/-- Who waits for a full flush is answered at its end. -/
theorem flushAnswered_rsp (h : s.host.queue = []) (ht : s.oxb.trigger ≠ some .full) {w : Waiting} (hw : w ∈ s.host.waiting) (hon : w.on = .oxbFlush) :
    w.req.response s.host.session stOK (leBytes 4 s.oxb.flushed) ∈ (flushAnswered .full s).host.rsp := by
  rw [flushAnswered_eq h, if_neg (by simp [ht]), answer_eq]
  refine List.mem_append_right _ (List.mem_map.mpr ⟨w, List.mem_filter.mpr ⟨hw, ?_⟩, rfl⟩)
  rw [hon]
  rfl

end Sys2Proof.Flush

end

section
/-! PROOFS. Bursts and the TL word (R319, R328). -/

set_option Elab.async false

/-! ### Bursts and the TL word (R319, R328) -/

namespace Sys2Proof.Flush
open Sys2Proof.Machine Sys2Proof.Safety Sys2Proof.Laws Sys2Proof.Occurrence Sys2Proof.Tick Sys2Proof.Fuses

variable {s t u : State} {k : FlushKind} {m n : OxbMram} {r : OxbRec} {l : List OxbRec}

/-- What is in flight is taken. -/
def taken (s : State) : State := { s with oxb := { s.oxb with inFlight := [] } }

/-- A burst is written, and the next one leaves the queue. -/
theorem burst_spec (hr : s.oxb.running = some k) (hk : k ≠ .powerFail) (hf : s.oxb.storeFail = none) (hi : s.oxb.inFlight = r :: l)
    (hc : s.oxb.closing = []) (h : Sound s.oxb.mram) :
    s.burst.oxb.inFlight = s.oxb.dirty.take 16 ∧ s.burst.oxb.dirty = s.oxb.dirty.drop 16 ∧
    s.burst.oxb.flushed = s.oxb.flushed + (r :: l).length ∧ s.burst.oxb.mram.nextSeq = seqOf s.oxb.mram.nextSeq (r :: l).length := by
  have w := writes_all hk (r :: l) (taken s) h
  have e : s.burst = burstOut ((r :: l).foldl (fun s r => s.writeRecord k r) (taken s)) := by
    unfold State.burst
    rw [hr]
    dsimp only
    rw [if_neg (by simp [hf, hi]), hi]
    refine nextBurst_eq (s := (r :: l).foldl (fun s r => s.writeRecord k r) (taken s)) ?_
    rw [w.rest]
    exact hc
  rw [e]
  generalize (r :: l).foldl (fun s r => s.writeRecord k r) (taken s) = x at *
  have oxb : x.oxb.dirty = s.oxb.dirty ∧ x.oxb.flushed = s.oxb.flushed + (r :: l).length := by
    rw [w.rest]
    exact ⟨rfl, rfl⟩
  have next : x.oxb.mram.nextSeq = seqOf s.oxb.mram.nextSeq (r :: l).length := w.mram.next.trans (if_neg (Nat.succ_ne_zero _))
  exact ⟨congrArg (List.take 16) oxb.1, congrArg (List.drop 16) oxb.1, oxb.2, next⟩

/-! #### The TL word -/

theorem tlRetry_still (h : s.oxb.tlPending = false ∨ s.time.tick < s.oxb.tlTriedAt + 1200000) : exec .tlRetry s = .next s := by
  have e : exec .tlRetry s = execTlRetry s := rfl
  rw [e]
  refine congrArg Host.Outcome.next (if_neg ?_)
  have sec : 60 * tSEC = 1200000 := rfl
  rw [sec]
  rcases h with h | h <;> simp [h]

theorem tlRetry_asks (h : s.oxb.tlPending = true) (ht : s.oxb.tlTriedAt + 1200000 ≤ s.time.tick) : exec .tlRetry s = .next s.askTl := by
  have e : exec .tlRetry s = execTlRetry s := rfl
  rw [e]
  refine congrArg Host.Outcome.next (if_pos ?_)
  have sec : 60 * tSEC = 1200000 := rfl
  rw [sec]
  simp [h, ht]

/-- The job that programs the TL word `i`. -/
def tlJob (s : State) (code i : Nat) : RosJob :=
  ⟨.tl, .program, 3584 + i, 3584 + i, BitVec.ofNat 64 (code * 2 ^ 48 + (s.pwr.powerCycles % 2 ^ 16) * 2 ^ 32 + s.oxb.failedAt), false⟩

theorem find_first {p : Nat → Bool} {i n : Nat} (hi : i < n) (h : p i = true) (before : ∀ j < i, p j = false) : (List.range n).find? p = some i := by
  rw [List.find?_range_eq_some]
  exact ⟨h, List.mem_range.mpr hi, fun j hj => by simp [before j hj]⟩

/-- The state once the retry is noted. -/
def tried (s : State) : State := { s with oxb := { s.oxb with tlTriedAt := s.time.tick } }

theorem askTl_takes {code i : Nat} (hd : s.oxb.tlDone = false) (hs : s.oxb.storeFail = some code) (hi : i < 64) (hp : (s.shadow (3584 + i)).prog = false)
    (hb : ∀ j < i, (s.shadow (3584 + j)).prog = true) (h1 : s.ros.busy = false) (h2 : s.ros.running = none) (h3 : s.ros.waiting = []) :
    s.askTl = (tried s).takeJob (tlJob s code i) := by
  have first : (List.range 64).find? (fun i => !(s.shadow (3584 + i)).prog) = some i := find_first hi (by simp [hp]) fun j hj => by simp [hb j hj]
  unfold State.askTl
  rw [if_neg (by rw [hd]; decide), hs]
  dsimp only
  rw [first]
  dsimp only
  rw [if_neg (by rw [h2, h3]; decide)]
  exact if_neg (by rw [h1]; decide)

theorem tlJob_data {code i : Nat} (h : s.oxb.failedAt < 2 ^ 32) : (tlJob s code i).data.toNat / 2 ^ 48 = code % 2 ^ 16 := by
  show (BitVec.ofNat 64 _).toNat / 2 ^ 48 = _
  rw [BitVec.toNat_ofNat]
  omega

theorem takeJob_tl {code i : Nat} (hi : i < 64) (hp : (s.shadow (3584 + i)).prog = false) (hc : FuseConditions s) :
    ((tried s).takeJob (tlJob s code i)).ros.busy = true ∧ ((tried s).takeJob (tlJob s code i)).ros.fuses = s.ros.fuses ∧
    ((tried s).takeJob (tlJob s code i)).ros.running = some (tlJob s code i) := by
  have prog : ((tried s).shadow (3584 + i)).prog = false := hp
  have cond : (tried s).fuseConditions = true := fuseConditions_iff.2 hc
  have opened : (tried s).openTo .tl (3584 + i) (tlJob s code i).data = true := by
    unfold State.openTo
    simp only [Bool.and_eq_true, decide_eq_true_eq]
    omega
  have ok : (tried s).fuseRefusal (tlJob s code i) = none := by
    refine (if_neg ?_).trans (if_neg (by rw [cond]; decide))
    show ¬ (((tried s).shadow (3584 + i)).prog || !(tried s).openTo .tl (3584 + i) (tlJob s code i).data) = true
    rw [prog, opened]
    decide
  rw [takeJob_runs (j := tlJob s code i) (fun h => nomatch (h : RosOpKind.program = RosOpKind.sealOp)) ok]
  exact ⟨rfl, rfl, rfl⟩

end Sys2Proof.Flush

end

section
/-! PROOFS. Records close, and flushes write them. O53. -/

set_option Elab.async false

/-! ### Records close, and flushes write them -/

namespace Sys2Proof.Flush
open Sys2Proof.Machine Sys2Proof.Safety Sys2Proof.Laws Sys2Proof.Occurrence Sys2Proof.Tick

variable {s t u : State} {k : FlushKind}

/-- A flush that ends with all it had written. -/
theorem flushDone_ends (hr : s.oxb.running = some k) (hk : k ≠ .powerFail) (hq : s.host.queue = []) (hf : s.oxb.storeFail = none)
    (hn : s.oxb.mram.nextSeq < 2 ^ 32) (hl : (unwritten s).length ≤ 524288) (h : Sound s.oxb.mram) (hc : s.oxb.closing = []) :
    Gives (.flushDone ⟨[], false, 0, []⟩) s (fun t =>
        SameBut [.oxb, .host] s t ∧ t.oxb.running = none ∧ t.oxb.inFlight = [] ∧ t.oxb.dirty = [] ∧ t.oxb.openRecs = s.oxb.openRecs ∧
        t.oxb.mram.nextSeq = seqOf s.oxb.mram.nextSeq (unwritten s).length ∧ t.oxb.mram.image = s.oxb.openRecs ∧
        t.oxb.mram.seconds = [s.pwr.opSeconds, s.pwr.opSeconds, s.pwr.opSeconds] ∧
        (∀ i, (h : i < (unwritten s).length) → t.oxb.mram.tail.get? (slotOf s.oxb.mram.nextSeq i) =
          some { (unwritten s)[i] with seq := seqOf s.oxb.mram.nextSeq i, damaged := none }) ∧
        (∀ i r, s.oxb.mram.first.get? i = some r → t.oxb.mram.first.get? i = some r) ∧
        (k = .full → s.oxb.trigger ≠ some .full → ∀ w ∈ s.host.waiting, w.on = .oxbFlush →
          w.req.response s.host.session stOK (leBytes 4 (s.oxb.flushed + (unwritten s).length)) ∈ t.host.rsp)) := by
  refine ⟨_, flushDone_eq hr hk, ?_⟩
  show _ ∧ _
  have e := endFlush_ended hf hc hk h 0
  generalize s.endFlush k 0 = v at *
  have host : v.host = s.host := e.rest .host (by decide)
  have queue : v.host.queue = [] := by rw [host, hq]
  have a := flushAnswered_sameBut (k := k) queue
  have oxb : (flushAnswered k v).oxb = v.oxb := a .oxb (by decide)
  rw [oxb]
  refine ⟨e.rest.mono.trans a.mono, e.running, e.inFlight, e.dirty, e.openRecs, e.next hn, e.image, e.seconds, e.tail hn hl, e.first,
    fun hk ht w hw hon => ?_⟩
  subst hk
  have rsp := flushAnswered_rsp queue (by rw [e.trigger]; exact ht) (by rw [host]; exact hw) hon
  rw [host, e.flushed] at rsp
  exact rsp

/-- A flush that ends with a store that has failed. -/
theorem flushDone_stops (hr : s.oxb.running = some k) (hk : k ≠ .powerFail) (hq : s.host.queue = []) (hf : s.oxb.storeFail.isSome = true)
    (hl : (unwritten s).length ≤ 8192) (hc : s.oxb.closing = []) :
    Gives (.flushDone ⟨[], false, 0, []⟩) s (fun t =>
        t.oxb.running = none ∧ t.oxb.dirty = unwritten s ∧ t.oxb.mram.tail = s.oxb.mram.tail ∧ t.oxb.mram.first = s.oxb.mram.first ∧
        t.oxb.mram.totals = s.oxb.mram.totals ∧ t.oxb.mram.nextSeq = s.oxb.mram.nextSeq ∧ t.oxb.mram.image = s.oxb.mram.image ∧
        (s.oxb.storeFail = some 0x10 → t.oxb.mram = s.oxb.mram) ∧
        (s.oxb.storeFail ≠ some 0x10 → t.oxb.mram.seconds = [s.pwr.opSeconds, s.pwr.opSeconds, s.pwr.opSeconds])) := by
  refine ⟨_, flushDone_eq hr hk, ?_⟩
  show _ ∧ _
  have e := endFlush_stopped (k := k) hf hc hl
  generalize s.endFlush k 0 = v at *
  have queue : v.host.queue = [] := by rw [show v.host = s.host from e.rest .host (by decide), hq]
  have oxb : (flushAnswered k v).oxb = v.oxb := flushAnswered_sameBut (k := k) queue .oxb (by decide)
  have m := e.mram
  rw [oxb]
  exact ⟨e.running, e.dirty, by rw [m], by rw [m], by rw [m], by rw [m], by rw [m], e.controller, e.seconds⟩

/-- Settles O53: records that close join the queue, a burst takes its first 16, and each write puts its record at the next place of the tail. -/
theorem recordsAndFlushes : Obligations.RecordsAndFlushes := by
  unfold Obligations.RecordsAndFlushes
  intro s
  refine ⟨fun code inst o ho => ⟨fun h => ?_, fun h hr => recordClose_gives ho h hr⟩, fun hx hr hp hc => ?_, fun k hr hk hq => ⟨?_, ?_⟩,
    fun k r rest hr hk hf hi hc h => burst_spec hr hk hf hi hc h, tlRetry_still, fun code i hp ht hd hs hi hw hb h1 h2 h3 ha hc => ?_⟩
  · exact (recordClose_eq ho).trans (congrArg Host.Outcome.next (if_neg (Nat.not_le.mpr h)))
  · obtain ⟨b, trig, -, -⟩ := startFlush_bursts hp hc
    refine ⟨flushStart_none hx hr, fun ht => ⟨_, flushStart_starts hx hr ht, ⟨b.running, b.inFlight, b.dirty, b.openRecs, b.mram, b.lastStart, b.rest⟩, trig⟩,
      fun ht hl => ⟨_, flushStart_starts hx hr ht, startFlush_full hp hc hl⟩, fun d hd ht => ⟨fun h => ?_, flushDeferred_early hd⟩,
      fun ht => ⟨fun h => ?_, flushHourly_early⟩⟩
    · obtain ⟨b, -, dfr, -⟩ := startFlush_bursts (s := { s with oxb := { s.oxb with deferredAt := none } }) hp hc
      have b' := b.of_oxb (s := s) rfl rfl rfl
      exact ⟨_, flushDeferred_starts hx hr hd ht h, ⟨b'.running, b'.inFlight, b'.dirty, b'.openRecs, b'.mram, b'.lastStart, b'.rest⟩, dfr⟩
    · obtain ⟨b, -, -, hourly⟩ := startFlush_bursts (s := { s with oxb := { s.oxb with hourlyFrom := s.oxb.hourlyFrom + 3600 } }) hp hc
      have b' := b.of_oxb (s := s) rfl rfl rfl
      exact ⟨_, flushHourly_starts hx hr ht h, ⟨b'.running, b'.inFlight, b'.dirty, b'.openRecs, b'.mram, b'.lastStart, b'.rest⟩, hourly⟩
  · exact fun hf hn hl h hc => flushDone_ends hr hk hq hf hn hl h hc
  · exact fun hf hl hc => flushDone_stops hr hk hq hf hl hc
  · obtain ⟨busy, fuses, running⟩ := takeJob_tl (code := code) hi hw hc
    exact ⟨_, (tlRetry_asks hp ht).trans (congrArg Host.Outcome.next (askTl_takes hd hs hi hw hb h1 h2 h3)), busy, fuses, _, running, rfl, rfl,
      tlJob_data ha⟩

end Sys2Proof.Flush

end

section
/-! PROOFS. What the reactions of an injected fault leave (R304). -/

set_option Elab.async false

/-! ### What the reactions of an injected fault leave (R304) -/

namespace Sys2Proof.Tap
open Sys2Proof.Machine Sys2Proof.Safety Sys2Proof.Laws Sys2Proof.Occurrence Sys2Proof.Tick

variable {s t u : State} {b i n : Nat}

/-- The words of the faults stay. -/
def Worded (s t : State) : Prop := t.faults.words = s.faults.words

theorem Worded.trans (h : Worded s t) (k : Worded t u) : Worded s u := Eq.trans k h

theorem Worded.ite {c : Prop} [Decidable c] (h : Worded s t) (k : Worded s u) : Worded s (if c then t else u) := by split <;> assumption

theorem Worded.foldl {α : Type} {f : State → α → State} (hf : ∀ s a, Worded s (f s a)) (l : List α) (s : State) : Worded s (l.foldl f s) :=
  List.foldlRecOn (motive := Worded s) l f rfl fun t ht a _ => ht.trans (hf t a)

theorem Worded.of_sameBut {xs : List Part} (h : SameBut xs s t) (hx : Part.faults ∉ xs := by decide) : Worded s t := by
  unfold Worded
  rw [h .faults hx]

theorem Worded.words (h : Worded s t) (b : Nat) : t.words b = s.words b := by
  unfold State.words
  rw [show t.faults.words = s.faults.words from h]

theorem closeAll_worded (s : State) (fl : Nat) : Worded s (s.closeAll fl) := .foldl (fun v o => (closeRecord_sampled v o fl).1.words) _ s

theorem flushTrigger_worded (s : State) (k : FlushKind) : Worded s (s.flushTrigger k) := by
  unfold State.flushTrigger
  extract_lets o v
  split
  · exact rfl
  · split
    · exact closeAll_worded v fgPARTIAL
    · exact rfl

theorem oxbCount_worded (s : State) (code inst sev : Nat) (injected : Bool) : Worded s (s.oxbCount code inst sev injected).1 := by
  unfold State.oxbCount
  exact (makeWay_sampled s code inst).1.words

theorem passToOxbow_worded (s : State) (b i inst sev : Nat) (injected : Bool) : Worded s (s.passToOxbow b i inst sev injected).1 := by
  unfold State.passToOxbow
  split
  · exact rfl
  · split
    · split <;> exact rfl
    · exact oxbCount_worded s (faultCode b i) inst sev injected

theorem enter_worded (s : State) (st : DevState) (reason : Nat) : Worded s (s.enter st reason) := by
  unfold Worded
  rw [enter_frame]

theorem severityEffect_worded (s : State) (b i inst sev : Nat) : Worded s (s.severityEffect b i inst sev) := by
  unfold State.severityEffect
  extract_lets +onlyGivenNames f s1 s2 s3
  have h1 : Worded s s1 := by
    unfold s1
    split
    · exact .ite rfl rfl
    · exact rfl
  have touch : ∀ (v : State) (ns : List Nat), Worded v (v.touchLines ns) := fun v ns => .of_sameBut (touchLines_sameBut v ns)
  have h2 : Worded s s2 := h1.trans (.ite (touch _ _) (.ite (touch _ _) rfl))
  have flush : ∀ v : State, Worded v v.flushForFault := by
    intro v
    unfold State.flushForFault
    split
    · exact .ite rfl (flushTrigger_worded ..)
    · exact flushTrigger_worded ..
  have h3 : Worded s s3 := h2.trans (.ite (flush _) rfl)
  have latch : Worded s3 s3.latchNow := .ite (.trans (t := State.flushTrigger { s3 with pwr := { s3.pwr with latch := true } } .full)
    (flushTrigger_worded { s3 with pwr := { s3.pwr with latch := true } } .full) (enter_worded _ _ _)) rfl
  have safe : ∀ reason, Worded s3 (s3.safeNow reason) := fun reason =>
    .ite (enter_worded { s3 with dev := { s3.dev with safeLine := true, s3InSafe := true } } .safe reason) rfl
  exact h3.trans (.ite latch (.ite (safe _) rfl))

theorem react_dev (s : State) (b i inst sev reacts : Nat) : (s.react b i inst sev reacts).dev = s.dev := by
  have keep : ∀ {c : Prop} [Decidable c] {x y : State}, x.dev = s.dev → y.dev = s.dev → (if c then x else y).dev = s.dev := by
    intro c _ x y hx hy
    split <;> assumption
  unfold State.react
  extract_lets +onlyGivenNames f s1 h s2
  have h1 : s1.dev = s.dev := keep rfl rfl
  have h2 : s2.dev = s.dev := keep h1 h1
  exact keep h2 (keep h2 (keep h2 h2))

theorem react_worded (s : State) (b i inst sev reacts : Nat) : Worded s (s.react b i inst sev reacts) := by
  unfold State.react
  extract_lets +onlyGivenNames f s1 h s2
  have h1 : Worded s s1 := .ite rfl rfl
  have h2 : Worded s s2 := h1.trans (.ite rfl rfl)
  exact .ite h2 (.ite h2 (.ite h2 h2))

theorem restartCoupler_sameBut (s : State) (c k : Nat) : SameBut [.field] s (s.restartCoupler c k) := by
  unfold State.restartCoupler
  extract_lets off k1 s1
  have h1 : SameBut [.field] s s1 := sameBut_field _ _
  exact (h1.trans (sameBut_field _ _)).trans (sameBut_field _ _)

theorem groupRestart_worded (s : State) (g : Nat) : Worded s (s.groupRestart g) :=
  .of_sameBut (xs := [.field]) (.foldl (fun _ _ => .ite (.refl _ _) (restartCoupler_sameBut _ _ _)) _ s)

/-- Every block reset but that of Riffle leaves the words. -/
theorem brst_worded (s : State) (h : b ≠ bRIF) : Worded s (s.brst b) := by
  unfold State.brst
  rw [if_neg h]
  refine .ite rfl (.ite ?_ (.ite ?_ (.ite rfl (.ite (flushTrigger_worded ..) (.ite ?_ rfl)))))
  · exact .ite rfl rfl
  · have w : Worded s s.weirReset := .of_sameBut (weirReset_sameBut s)
    exact rfl
  · have g := groupRestart_worded s (b - 0x10)
    generalize s.groupRestart (b - 0x10) = v at *
    have lines : ∀ (w : State) (ns : List Nat), Worded w (w.touchLines ns) := fun w ns => .of_sameBut (touchLines_sameBut w ns)
    exact (g.trans (t := v) rfl).trans (lines { v with faults := { v.faults with brst := v.faults.brst.put b v.time.tick } } _)

theorem crst_worded (s : State) : Worded s s.crst :=
  .trans (t := { s with dev := { s.dev with safeLine := true, crstPending := true } }) rfl
    ((Worded.of_sameBut (touchLines_sameBut _ _)).trans (flushTrigger_worded _ _))

theorem takeReactions_worded (s : State) (h : b ≠ bRIF) (i inst sev reacts : Nat) : Worded s (s.takeReactions State.brst b i inst sev reacts) := by
  unfold State.takeReactions
  extract_lets s1 s2 s3
  have h2 : Worded s s2 := (react_worded s ..).trans (severityEffect_worded s1 ..)
  have h3 : Worded s s3 := h2.trans (.ite (brst_worded s2 h) rfl)
  exact h3.trans (.ite (crst_worded s3) rfl)

/-! #### The device state of FACTORY_TEST -/

theorem groupRestart_sameBut (s : State) (g : Nat) : SameBut [.field] s (s.groupRestart g) :=
  .foldl (fun _ _ => .ite (.refl _ _) (restartCoupler_sameBut _ _ _)) _ s

/-- Every block reset but that of Riffle leaves the device state. -/
theorem brst_dev (s : State) (h : b ≠ bRIF) : (s.brst b).dev = s.dev := by
  have keep : ∀ {c : Prop} [Decidable c] {x y : State}, x.dev = s.dev → y.dev = s.dev → (if c then x else y).dev = s.dev := by
    intro c _ x y hx hy
    split <;> assumption
  unfold State.brst
  rw [if_neg h]
  refine keep rfl (keep (keep rfl rfl) (keep ?_ (keep rfl (keep ?_ (keep ?_ rfl)))))
  · exact weirReset_sameBut s .dev (by decide)
  · exact flushTrigger_sameBut s .full .dev (by decide)
  · have g : (s.groupRestart (b - 0x10)).dev = s.dev := groupRestart_sameBut s (b - 0x10) .dev (by decide)
    generalize s.groupRestart (b - 0x10) = v at *
    exact (touchLines_sameBut { v with faults := { v.faults with brst := v.faults.brst.put b v.time.tick } } _ .dev (by decide)).trans g

theorem severityEffect_factory (h : s.dev.st = .factoryTest) (b i n sev : Nat) : (s.severityEffect b i n sev).dev.st = .factoryTest := by
  obtain ⟨v, same, e⟩ := severityEffect_parts s b i n sev
  have st : v.dev.st = .factoryTest := by rw [same .dev (by decide), h]
  rw [e]
  split
  · unfold State.latchNow
    rw [st, if_neg (by decide)]
    exact st
  · split
    · unfold State.safeNow
      extract_lets d w
      rw [if_neg (show ¬ (w.dev.st = .verify ∨ w.dev.st = .run) by rw [show w.dev.st = .factoryTest from st]; decide)]
      exact st
    · exact st

/-- The device stays in FACTORY_TEST, whatever the reactions do. -/
theorem takeReactions_factory (h : s.dev.st = .factoryTest) (hb : b ≠ bRIF) (i n sev reacts : Nat) :
    (s.takeReactions State.brst b i n sev reacts).dev.st = .factoryTest := by
  unfold State.takeReactions
  extract_lets s1 s2 s3
  have h1 : s1.dev.st = .factoryTest := by
    have r : s1.dev = s.dev := react_dev s b i n sev reacts
    rw [r, h]
  have h2 : s2.dev.st = .factoryTest := severityEffect_factory h1 ..
  have h3 : s3.dev.st = .factoryTest := by
    unfold s3
    split
    · rw [brst_dev s2 hb, h2]
    · exact h2
  split
  · have c : s3.crst.dev.st = s3.dev.st := by
      unfold State.crst
      rw [flushTrigger_sameBut _ .full .dev (by decide), touchLines_sameBut _ _ .dev (by decide)]
    rw [c, h3]
  · exact h3

/-- A block reset but that of Riffle leaves what is live. -/
theorem takeReactions_live (s : State) (i inst sev reacts : Nat) {b' i' n' : Nat} (hb : b' ≠ bRIF) :
    (s.takeReactions State.brst b i inst sev reacts).isLive b' i' n' = s.isLive b' i' n' := by
  have a := takeReactions_aside (P := fun b _ _ => b ≠ bRIF) s (b := b) (fun v _ => brst_aside (fun _ _ e => e rfl) v b) i inst sev reacts
  rw [isLive_eq, isLive_eq, a.held _ _ _ hb]

end Sys2Proof.Tap

end

section
/-! PROOFS. The instructions of the TAP (R390, R391). O27. -/

set_option Elab.async false

/-! ### The instructions of the TAP (R390, R391, Table 18.9) -/

namespace Sys2Proof.Tap
open Sys2Proof.Machine Sys2Proof.Safety Sys2Proof.Laws Sys2Proof.Occurrence Sys2Proof.Tick

variable {s t u : State} {b i n code : Nat}

theorem selectIr_eq (h : s.dev.st ≠ .off) (code : Nat) (dr : Word) : s.selectIr code dr =
    { s with jtag := { s.jtag with ir := s.tapCode code, dr := if s.tapCode code = 0xFF then 0 else dr,
                                   driving := decide (s.tapCode code = 0) && s.pwr.resetNLow } } := if_neg h

theorem tapCode_unlisted (h : code ∉ [0x00, 0x01, 0x02, 0x10, 0x20]) : s.tapCode code = 0xFF := if_pos h

theorem tapCode_locked (hl : s.ros.jtagLocked = true) (h : code ∈ [0x00, 0x01, 0x20]) : s.tapCode code = 0xFF := by
  have listed : code ∈ [0x00, 0x01, 0x02, 0x10, 0x20] := by
    simp only [List.mem_cons, List.not_mem_nil, or_false] at h ⊢
    tauto
  exact (if_neg (not_not.mpr listed)).trans (if_pos (by simp only [hl, Bool.true_and, decide_eq_true_eq]; exact h))

theorem tapCode_free (hl : s.ros.jtagLocked = false) (h : code ∈ [0x00, 0x01, 0x02, 0x10, 0x20]) : s.tapCode code = code :=
  (if_neg (not_not.mpr h)).trans (if_neg (by rw [hl, Bool.false_and]; exact Bool.false_ne_true))

theorem tapCode_open (h : code = 0x02 ∨ code = 0x10) : s.tapCode code = code := by
  rcases h with rfl | rfl <;> exact (if_neg (by decide)).trans (if_neg (by cases s.ros.jtagLocked <;> decide))

/-- The state whose counter of free values has gone on. -/
def drawn (s : State) : State := { s with free := s.free + 1 }

theorem boundaryScan_free (h : s.dev.st ≠ .off) (hl : s.ros.jtagLocked = false) (hc : code ∈ [0x00, 0x01]) (scanIn : BitVec 36) :
    s.boundaryScan code scanIn = { s with
      jtag := { ir := code, dr := 0, driving := code == 0 && s.pwr.resetNLow, chain := s.landLevels, preload := scanIn }, free := s.free + 1 } := by
  have listed : code ∈ [0x00, 0x01, 0x02, 0x10, 0x20] := by
    simp only [List.mem_cons, List.not_mem_nil, or_false] at hc ⊢
    tauto
  have tc : (drawn s).tapCode code = code := tapCode_free hl listed
  have e := selectIr_eq (s := drawn s) h code 0
  rw [tc, ite_self] at e
  unfold State.boundaryScan
  rw [show ({ s with free := s.free + 1 } : State).selectIr code 0 = _ from e]
  exact if_pos ⟨h, rfl⟩

theorem boundaryScan_locked (h : s.dev.st ≠ .off) (hl : s.ros.jtagLocked = true) (hc : code ∈ [0x00, 0x01]) (scanIn : BitVec 36) :
    s.boundaryScan code scanIn = { s with jtag := { s.jtag with ir := 0xFF, dr := 0, driving := false }, free := s.free + 1 } := by
  have two : code = 0 ∨ code = 1 := by simpa using hc
  have tc : (drawn s).tapCode code = 0xFF := tapCode_locked hl (by rcases two with rfl | rfl <;> decide)
  have e := selectIr_eq (s := drawn s) h code 0
  rw [tc, if_pos rfl] at e
  unfold State.boundaryScan
  rw [show ({ s with free := s.free + 1 } : State).selectIr code 0 = _ from e]
  refine (if_neg fun hh => ?_).trans rfl
  have ir : (0xFF : Nat) = code := hh.2
  omega

/-! #### The lands -/

theorem setLand_bit (v : BitVec 36) {i j : Nat} (hi : i < 36) (hj : j < 36) (high : Bool) :
    (setLand v i high).getLsbD j = if j = i then high else v.getLsbD j := by
  have bit : (BitVec.ofNat 36 (2 ^ i)).getLsbD j = decide (j = i) := by
    rw [BitVec.getLsbD_ofNat, Nat.testBit_two_pow]
    simp [hj, eq_comm]
  unfold setLand
  by_cases e : j = i
  · subst e
    rw [if_pos rfl]
    cases high
    · rw [if_neg (by decide), BitVec.getLsbD_and, BitVec.getLsbD_not, bit]
      simp
    · rw [if_pos rfl, BitVec.getLsbD_or, bit]
      simp
  · rw [if_neg e]
    cases high
    · rw [if_neg (by decide), BitVec.getLsbD_and, BitVec.getLsbD_not, bit]
      simp [e, hj]
    · rw [if_pos rfl, BitVec.getLsbD_or, bit]
      simp [e]

theorem landLevels_bits (s : State) : s.landLevels.getLsbD 19 = !s.irqLow ∧ s.landLevels.getLsbD 20 = !s.pwr.resetNLow ∧
    s.landLevels.getLsbD 22 = s.errpLevels.1 ∧ s.landLevels.getLsbD 23 = s.errpLevels.2 := by
  unfold State.landLevels
  dsimp only
  refine ⟨?_, ?_, ?_, ?_⟩
  · rw [setLand_bit _ (by decide) (by decide), if_neg (by decide), setLand_bit _ (by decide) (by decide), if_neg (by decide),
      setLand_bit _ (by decide) (by decide), if_neg (by decide), setLand_bit _ (by decide) (by decide), if_pos rfl]
  · rw [setLand_bit _ (by decide) (by decide), if_neg (by decide), setLand_bit _ (by decide) (by decide), if_neg (by decide),
      setLand_bit _ (by decide) (by decide), if_pos rfl]
  · rw [setLand_bit _ (by decide) (by decide), if_neg (by decide), setLand_bit _ (by decide) (by decide), if_pos rfl]
  · rw [setLand_bit _ (by decide) (by decide), if_pos rfl]

/-! #### The debug port -/

/-- The debug port as it is selected. -/
def debugging (s : State) : State := (drawn s).selectIr 0x20 s.freeDr

theorem debug_eq (js : List Injection) (s : State) : exec (.debug js) s =
    .next (if (debugging s).jtag.ir = 0x20 then js.foldl (fun s i => s.inject i.block i.index i.inst) (debugging s) else debugging s) := rfl

theorem debug_none (s : State) : exec (.debug []) s = .next (debugging s) := (debug_eq [] s).trans (congrArg Host.Outcome.next (ite_self _))

theorem debugging_eq (h : s.dev.st ≠ .off) : debugging s = { s with
      jtag := { s.jtag with ir := s.tapCode 0x20, dr := if s.tapCode 0x20 = 0xFF then 0 else s.freeDr, driving := decide (s.tapCode 0x20 = 0) && s.pwr.resetNLow },
      free := s.free + 1 } := selectIr_eq (s := drawn s) h _ _

theorem inject_still (h : s.dev.st ≠ .factoryTest) (b i n : Nat) : s.inject b i n = s := by
  unfold State.inject
  split
  · rfl
  · exact if_pos h

theorem debug_same (h : s.dev.st ≠ .off) (hj : s.dev.st ≠ .factoryTest ∨ s.ros.jtagLocked = true) (js : List Injection) :
    exec (.debug js) s = exec (.debug []) s := by
  rw [debug_eq, debug_none]
  refine congrArg Host.Outcome.next ?_
  split
  · next ir =>
    rcases hj with hj | hj
    · have st : (debugging s).dev.st ≠ .factoryTest := by
        rw [debugging_eq h]
        exact hj
      refine List.foldlRecOn (motive := fun t => t = debugging s) js _ rfl fun t ht a _ => ?_
      rw [ht, inject_still st]
    · rw [debugging_eq h] at ir
      rw [show s.tapCode 0x20 = 0xFF from tapCode_locked hj (by decide)] at ir
      exact absurd (show (0xFF : Nat) = 0x20 from ir) (by decide)
  · rfl

theorem getLsbD_setBit (w : BitVec 128) {i : Nat} (h : i < 128) : (setBit w i).getLsbD i = true := by
  unfold setBit
  rw [BitVec.getLsbD_or, BitVec.getLsbD_shiftLeft]
  simp [h]

theorem inject_spec (h : s.dev.st = .factoryTest) (hs : (sourceOf b i).isSome = true) (hb : b ≠ bRIF) (n : Nat) :
    ((s.inject b i n).words b).injected.getLsbD i = true ∧ (s.inject b i n).isLive b i n = s.isLive b i n ∧
    ((s.inject b i n).words b).sticky = (s.words b).sticky ∧ (s.inject b i n).dev.st = .factoryTest := by
  obtain ⟨src, hsrc⟩ := Option.isSome_iff_exists.mp hs
  unfold State.inject
  rw [hsrc]
  dsimp only
  rw [if_neg (not_not.mpr h)]
  generalize s.effective b i n = x
  obtain ⟨sev, reacts⟩ := x
  dsimp only
  have w := passToOxbow_worded s b i n sev true
  have l := passToOxbow_held s b i n sev true
  have d := passToOxbow_sameBut s b i n sev true .dev (by decide)
  generalize (s.passToOxbow b i n sev true).1 = v at *
  have after : ∀ u : State, u.words b = { v.words b with injected := setBit (v.words b).injected i } → u.faults.live = v.faults.live → u.dev = v.dev →
      ((u.takeReactions State.brst b i n sev reacts).words b).injected.getLsbD i = true ∧
      (u.takeReactions State.brst b i n sev reacts).isLive b i n = s.isLive b i n ∧
      ((u.takeReactions State.brst b i n sev reacts).words b).sticky = (s.words b).sticky ∧
      (u.takeReactions State.brst b i n sev reacts).dev.st = .factoryTest := by
    intro u hu hl hd
    have live : u.isLive b i n = s.isLive b i n := by
      rw [isLive_eq s, ← l.eq b i n, ← isLive_eq v]
      unfold State.isLive
      rw [hl]
    rw [(takeReactions_worded u hb i n sev reacts).words, takeReactions_live u i n sev reacts hb, live, hu]
    refine ⟨getLsbD_setBit _ (sourceOf_lt hsrc), rfl, ?_, takeReactions_factory (by rw [hd, show v.dev = s.dev from d]; exact h) hb ..⟩
    rw [w.words]
  exact after _ (words_setWords_self _ _ _) rfl rfl

/-- Settles O27: every instruction goes through the code that the lock leaves it, and an injected fault writes the INJECTED bit alone of the
words, as no block reset but Riffle's raises a source. -/
theorem tapInstructions : Obligations.TapInstructions := by
  unfold Obligations.TapInstructions
  intro s h
  have idle : s.selectIr 0x02 0x19640E4B = { s with jtag := { s.jtag with ir := 0x02, dr := 0x19640E4B, driving := false } } := by
    rw [selectIr_eq h, tapCode_open (.inl rfl)]
    rfl
  refine ⟨congrArg Host.Outcome.next idle, congrArg Host.Outcome.next (if_neg h), fun code _ hc => ?_, fun hl scanIn c hc => ?_, fun hl scanIn e he => ?_,
    fun hd => ⟨?_, if_pos hd⟩, fun hl => ⟨s.freeDr, ?_⟩, fun js hj => debug_same h hj js,
    fun b i n hs hl hb hr => ?_, if s.dev.st == .reset || s.ros.jtagLocked then s.holdRegister else s.freeDr, ?_⟩
  · refine congrArg Host.Outcome.next ((if_neg hc).trans ?_)
    rw [selectIr_eq h, tapCode_unlisted hc]
    rfl
  · rcases List.mem_cons.mp hc with rfl | hc
    · exact congrArg Host.Outcome.next (boundaryScan_locked h hl (by decide) scanIn)
    · rcases List.mem_cons.mp hc with rfl | hc
      · exact congrArg Host.Outcome.next (boundaryScan_locked h hl (by decide) scanIn)
      · rw [List.mem_singleton.mp hc, debug_none, debugging_eq h, tapCode_locked hl (by decide)]
        rfl
  · obtain ⟨b1, b2, b3, b4⟩ := landLevels_bits s
    refine ⟨s.landLevels, ?_, b1, b2, b3, b4⟩
    rcases List.mem_cons.mp he with rfl | he
    · exact congrArg Host.Outcome.next (boundaryScan_free h hl (by decide) scanIn)
    · rw [List.mem_singleton.mp he]
      exact congrArg Host.Outcome.next (boundaryScan_free h hl (by decide) scanIn)
  · exact (if_neg h).trans (if_pos hd)
  · rw [debug_none, debugging_eq h, tapCode_free hl (by decide)]
    rfl
  · refine ⟨_, (debug_eq _ s).trans (congrArg Host.Outcome.next (if_pos ?_)), ?_⟩
    · rw [debugging_eq h, tapCode_free hl (by decide)]
    · have e := debugging_eq h
      have f := inject_spec (s := debugging s) (i := i) (by rw [e]; exact hs) hb hr n
      rw [show (debugging s).isLive b i n = s.isLive b i n by rw [e]; rfl, show (debugging s).words b = s.words b by rw [e]; rfl] at f
      exact f
  · have e := selectIr_eq (s := drawn s) h 0x10 (if s.dev.st == DevState.reset || s.ros.jtagLocked then s.holdRegister else s.freeDr)
    rw [tapCode_open (.inr rfl)] at e
    exact congrArg Host.Outcome.next e

end Sys2Proof.Tap

end

section
/-! PROOFS. OXB_INFO with a dirty queue whose size needs more than four bytes. O9. -/

set_option Elab.async false

namespace Sys2Proof.Proofs
open Sys2Proof.Machine Sys2Proof.Safety Sys2Proof.Laws Sys2Proof.Occurrence

/-- A captured OXB_INFO of session 1. -/
def infoAsked : Request := { (default : Request) with cmd := 0x80, session := 1, version := 1, captured := true }

/-- SAFE with the request at the front of the mailbox, and `n` records in the dirty queue. -/
def crowded (n : Nat) : State where
  dev := { st := .safe }
  pwr := { domains := [0, 1, 8] }
  clk := { pllLocked := true }
  host := { queue := [infoAsked], ready := true, session := 1, version := 1 }
  oxb := { dirty := List.replicate n default }

theorem crowded_served (n : Nat) : Served 0x80 infoAsked [] (crowded n) where
  queue := rfl
  captured := rfl
  fresh := rfl
  ready := rfl
  paused := rfl
  blocked := rfl
  power := rfl
  sup := rfl
  behind := nofun
  cmd := rfl
  session := ⟨Nat.one_ne_zero, rfl, rfl, 1, rfl, Nat.le_refl 1⟩
  state := rfl

theorem crowded_dirtyBytes (n : Nat) : (crowded n).dirtyBytes = 64 * n := by
  have len : (crowded n).oxb.dirty.length = n := List.length_replicate
  unfold State.dirtyBytes
  rw [len]
  rfl

theorem leVal_lt (bs : List Byte) : leVal bs < 256 ^ bs.length := by
  induction bs with
  | nil => decide
  | cons b bs ih =>
    have hb := b.isLt
    unfold leVal
    rw [List.length_cons, Nat.pow_succ]
    omega

/-- Refutes O9: OXB_INFO is to return the size of the dirty queue, in four bytes; in `crowded (2 ^ 26)` that size is 2 ^ 32. -/
theorem not_recordServicesAnswer : ¬ Obligations.RecordServicesAnswer := by
  unfold Obligations.RecordServicesAnswer
  intro h
  obtain ⟨-, p, -, -, -, -, -, -, -, dirty⟩ := h.1 (crowded (2 ^ 26)) infoAsked [] (crowded_served _) rfl
  rw [crowded_dirtyBytes] at dirty
  have small := leVal_lt ((p.drop 48).take 4)
  have len : ((p.drop 48).take 4).length ≤ 4 := List.length_take_le _ _
  have pow : 256 ^ ((p.drop 48).take 4).length ≤ 256 ^ 4 := Nat.pow_le_pow_right (by decide) len
  have val : leVal ((p.drop 48).take 4) = 64 * 2 ^ 26 := dirty
  omega

end Sys2Proof.Proofs

end

section
/-! PROOFS. The services that read (Table 11.5). -/

set_option Elab.async false

/-! ### The services that read (Table 11.5) -/

namespace Sys2Proof.Reading
open Sys2Proof.Machine Sys2Proof.Safety Sys2Proof.Laws Sys2Proof.Mailbox

variable {c : Instr} {code : Nat} {form : Request → State → Prop} {body : Request → State → List Byte} {ok : Request → Bool}
  {act : Request → State → State}

/-- A service that answers with its body, and draws free values at most. -/
theorem answersOk_of_serve (he : ∀ s, exec c s = .next (s.serve code ok act)) (hf : ∀ r s, form r s → ok r = true)
    (ha : ∀ r s, form r s → ∀ q, ∃ n, act r (popped q s) = { (popped q s).respond r stOK (body r (popped q s)) with free := n }) :
    AnswersOk c code form body := by
  intro s r q served hr
  obtain ⟨n, e⟩ := ha r s hr q
  refine ⟨n, (he s).trans (congrArg Host.Outcome.next ((serve_queue act served (hf r s hr) (by rw [e]; rfl)).trans ?_))⟩
  rw [e]
  rfl

/-- A service that answers with its body. -/
theorem answersOk_of_respond (he : ∀ s, exec c s = .next (s.serve code ok act)) (hf : ∀ r s, form r s → ok r = true)
    (ha : ∀ r s, form r s → ∀ q, act r (popped q s) = (popped q s).respond r stOK (body r (popped q s))) : AnswersOk c code form body :=
  answersOk_of_serve he hf fun r s h q => ⟨s.free, ha r s h q⟩

theorem lenIs_nil {r : Request} (h : r.payload = []) : lenIs 0 r = true := by
  unfold lenIs
  rw [h]
  rfl

theorem identity_answers : AnswersOk .identity 0x10 (fun r _ => r.payload = []) (fun _ s =>
    leBytes 8 s.identity ++ leBytes 2 s.stepping ++ leBytes 1 ((s.shadow 1).val.toNat / 65536 % 256) ++ [0] ++ beBytes 6 s.baseMac ++
      [0, 0] ++ s.publicKey ++ leBytes 1 s.commitKeyState ++ [0, 0, 0] ++
      (if s.host.version = 2 then leBytes 2 s.fusedEpoch ++ leBytes 1 (b2n s.ros.jtagLocked) ++ [0] else [])) :=
  answersOk_of_respond (fun _ => rfl) (fun _ _ h => lenIs_nil h) fun _ _ _ _ => rfl

theorem optime_answers : AnswersOk .optime 0xD0 (fun r _ => r.payload = []) (fun _ s => leBytes 4 s.pwr.opSeconds ++ leBytes 4 s.pwr.powerCycles) :=
  answersOk_of_respond (fun _ => rfl) (fun _ _ h => lenIs_nil h) fun _ _ _ _ => rfl

/-- The request names one block. -/
def NamesBlock (r : Request) : Prop := ∃ b, isBlock b = true ∧ r.payload = [byte b, 0, 0, 0]

theorem blockForm_names {r : Request} (h : NamesBlock r) : blockForm 4 r = true := by
  obtain ⟨b, hb, hp⟩ := h
  exact blockForm_of (bs := []) hb hp rfl

theorem status_answers : AnswersOk .status 0x11 (fun r _ => NamesBlock r) (fun r s => s.statusBlock (leAt r.payload 0 1) (s.host.held.length + 1) s.free) :=
  answersOk_of_serve (fun _ => rfl) (fun _ _ h => blockForm_names h) fun _ s _ _ => ⟨s.free + 3, rfl⟩

theorem statusAll_answers : AnswersOk .statusAll 0x12 (fun r _ => r.payload = []) (fun _ s =>
    leBytes 2 35 ++ [0, 0] ++ (blockIds.map (fun b => s.statusBlock b (s.host.held.length + 1) (s.free + 3 * b))).flatten) :=
  answersOk_of_serve (fun _ => rfl) (fun _ _ h => lenIs_nil h) fun _ s _ _ => ⟨s.free + 256, rfl⟩

theorem faultRead_answers : AnswersOk .faultRead 0x20 (fun r _ => NamesBlock r) (fun r s =>
    let b := leAt r.payload 0 1
    leBytes 2 (highestIndex b + 1) ++ [0, 0] ++ faultWordBytes b (s.words b).sticky ++ faultWordBytes b (s.liveWord b) ++
      faultWordBytes b (s.words b).injected ++ faultWordBytes b (s.words b).mask) :=
  answersOk_of_respond (fun _ => rfl) (fun _ _ h => blockForm_names h) fun _ _ _ _ => rfl

/-! #### Ranges -/

/-- The request names a range: a first and a count, two bytes each. -/
structure NamesRange (first count : Nat) (r : Request) : Prop where
  length : lenIs 4 r = true
  first : leAt r.payload 0 2 = first
  count : leAt r.payload 2 2 = count

theorem namesRange_of {r : Request} {first count : Nat} (hf : first < 65536) (hc : count < 65536) (hp : r.payload = leBytes 2 first ++ leBytes 2 count) :
    NamesRange first count r := by
  refine ⟨?_, ?_, ?_⟩
  · unfold lenIs
    rw [hp, List.length_append, leBytes_length, leBytes_length]
    rfl
  · rw [hp]
    exact leAt_first 2 first _ hf
  · rw [hp]
    exact leAt_last (leBytes 2 first) 2 2 count (leBytes_length ..) hc

theorem flatMap_range (f : Nat → List Byte) (first count : Nat) :
    (List.range count).flatMap (fun i => f (first + i)) = ((List.range' first count).map f).flatten := by
  rw [List.range'_eq_map_range, List.map_map]
  rfl

theorem cellRead_answers : AnswersOk .cellRead 0x13
    (fun r _ => ∃ first count, 1 ≤ count ∧ first + count ≤ 256 ∧ r.payload = leBytes 2 first ++ leBytes 2 count)
    (fun r s => ((List.range' (leAt r.payload 0 2) (leAt r.payload 2 2)).map s.cellBytes).flatten) := by
  refine answersOk_of_respond (fun _ => rfl) (fun r _ h => ?_) fun r _ _ q => ?_
  · obtain ⟨first, count, h1, h2, hp⟩ := h
    have n := namesRange_of (by omega) (by omega) hp
    rw [n.length, n.first, n.count]
    simp [h1, h2]
  · exact congrArg (State.respond _ r stOK) (flatMap_range _ _ _)

theorem connStatus_answers : AnswersOk .connStatus 0x50
    (fun r _ => ∃ first count, first < 65536 ∧ 1 ≤ count ∧ count ≤ 1000 ∧ r.payload = leBytes 2 first ++ leBytes 2 count)
    (fun r s => ((List.range' (leAt r.payload 0 2) (leAt r.payload 2 2)).map (fun n =>
      [byte (s.connMirror .a n).st.code, byte (s.connMirror .b n).st.code, byte (s.connMirror .a n).gen,
       byte (b2n (s.connMirror .a n).fsv + 2 * b2n (decide (n ∈ s.connsInUse) && s.opener n))])).flatten) := by
  refine answersOk_of_respond (fun _ => rfl) (fun r _ h => ?_) fun r _ _ q => ?_
  · obtain ⟨first, count, h0, h1, h2, hp⟩ := h
    have n := namesRange_of h0 (by omega) hp
    rw [n.length, n.count]
    simp [h1, h2]
  · exact congrArg (State.respond (popped q _) r stOK) (flatMap_range (fun n =>
      [byte ((popped q _).connMirror .a n).st.code, byte ((popped q _).connMirror .b n).st.code, byte ((popped q _).connMirror .a n).gen,
       byte (b2n ((popped q _).connMirror .a n).fsv + 2 * b2n (decide (n ∈ (popped q _).connsInUse) && (popped q _).opener n))]) _ _)

theorem hostsigRead_answers : AnswersOk .hostsigRead 0x61
    (fun r _ => ∃ first count, first % 32 = 0 ∧ count % 32 = 0 ∧ 32 ≤ count ∧ first + count ≤ 2048 ∧ r.payload = leBytes 2 first ++ leBytes 2 count)
    (fun r s => leBytes (leAt r.payload 2 2 / 8) (s.hs.visible.toNat >>> leAt r.payload 0 2)) := by
  refine answersOk_of_respond (fun _ => rfl) (fun r _ h => ?_) fun r _ _ q => rfl
  obtain ⟨first, count, h0, h1, h2, h3, hp⟩ := h
  have n := namesRange_of (by omega) (by omega) hp
  rw [n.length, n.first, n.count]
  simp [hostRange, h0, h1, h2, h3]

/-! #### Partners, parameters, certificates -/

theorem unknownPartners_answers : AnswersOk .unknownPartners 0x51 (fun r _ => r.payload = []) (fun _ s =>
    leBytes 4 s.weir.unknownA.length ++ (s.weir.unknownA.map (fun x =>
      leBytes 8 x.identity ++ leBytes 1 x.port ++ [0, 0, 0] ++ leBytes 4 x.second)).flatten) :=
  answersOk_of_respond (fun _ => rfl) (fun _ _ h => lenIs_nil h) fun _ _ _ _ => rfl

theorem paramRead_answers : AnswersOk .paramRead 0x70 (fun r _ => ∃ code, code < 2 ^ 32 ∧ (paramItem code).isSome = true ∧ r.payload = leBytes 4 code)
    (fun r s =>
      let i := (paramItem (leAt r.payload 0 4)).getD .phy
      leBytes 1 i.cls ++ leBytes 1 i.size ++ [0, 0] ++ leBytes 8 (s.paramValue i)) := by
  have named : ∀ (r : Request) (code : Nat), code < 2 ^ 32 → r.payload = leBytes 4 code → leAt r.payload 0 4 = code := fun r code hc hp => by
    rw [hp]
    exact leAt_all (n := 4) hc
  refine answersOk_of_respond (fun _ => rfl) (fun r _ h => ?_) fun r _ h q => ?_
  · obtain ⟨code, hc, hs, hp⟩ := h
    rw [named r code hc hp, hs, lenIs, hp, leBytes_length]
    rfl
  · obtain ⟨code, hc, hs, hp⟩ := h
    obtain ⟨i, hi⟩ := Option.isSome_iff_exists.mp hs
    rw [named r code hc hp, hi]
    rfl

theorem certRead_answers : AnswersOk .certRead 0x38
    (fun r _ => ∃ sel off len, sel < 2 ∧ off < 2 ^ 32 ∧ 1 ≤ len ∧ len ≤ 4072 ∧ r.payload = [byte sel, 0, 0, 0] ++ leBytes 4 off ++ leBytes 4 len)
    (fun r s =>
      let cert := if leAt r.payload 0 1 = 0 then s.cfg.newerBank.cert else s.cfg.draft
      leBytes 4 cert.length ++ [0, 0, 0, 0] ++ (cert.drop (leAt r.payload 4 4)).take (leAt r.payload 8 4)) := by
  refine answersOk_of_respond (fun _ => rfl) (fun r _ h => ?_) fun r _ _ q => rfl
  obtain ⟨sel, off, len, h0, h1, h2, h3, hp⟩ := h
  have e0 : leAt r.payload 0 1 = sel := by
    rw [hp]
    exact leAt_byte sel _ (by omega)
  have e8 : leAt r.payload 8 4 = len := by
    rw [hp]
    exact leAt_last _ 8 4 len (by rw [List.length_append, leBytes_length]; rfl) (by omega)
  have zero : allZero ((r.payload.drop 1).take 3) = true := by
    rw [hp]
    rfl
  have length : lenIs 12 r = true := by
    unfold lenIs
    rw [hp, List.length_append, List.length_append, leBytes_length, leBytes_length]
    rfl
  rw [e0, e8, zero, length]
  simp [h0, h2, h3]

/-- What a cell shows (CELL_READ). -/
theorem cellBytes_shown (s : State) (n : Nat) :
    let a := (s.cell .a n).mirror
    let b := (s.cell .b n).mirror
    let who := fun (sd : Side) => s.inUse n = true ∧ s.hasEvaluator (s.evaluator sd n) = true
    ∃ x y, s.cellBytes n = [byte a.st.code, byte b.st.code, byte (min 255 a.disc), byte (min 255 b.disc), byte (min 255 a.sigc),
        byte (min 255 b.sigc), x, y] ∧
      (who .a → (s.evaluator .a n = 2 → x = 0) ∧ (s.evaluator .a n = 3 → x = 1)) ∧ (¬ who .a → x = 0xFF) ∧
      (who .b → (s.evaluator .b n = 4 → y = 0) ∧ (s.evaluator .b n = 5 → y = 1)) ∧ (¬ who .b → y = 0xFF) := by
  have shown : ∀ (e base : Nat), let x := byte (if s.inUse n && s.hasEvaluator e then e - base else 0xFF)
      ((s.inUse n = true ∧ s.hasEvaluator e = true) → (e = base → x = 0) ∧ (e = base + 1 → x = 1)) ∧
      (¬ (s.inUse n = true ∧ s.hasEvaluator e = true) → x = 0xFF) := by
    intro e base
    dsimp only
    refine ⟨fun h => ?_, fun h => ?_⟩
    · rw [if_pos (by rw [h.1, h.2]; rfl)]
      exact ⟨fun he => by rw [he, Nat.sub_self]; rfl, fun he => by rw [he, Nat.add_sub_cancel_left]; rfl⟩
    · rw [if_neg (by rw [Bool.and_eq_true]; exact h)]
      rfl
  obtain ⟨a1, a2⟩ := shown (s.evaluator .a n) bSA0
  obtain ⟨b1, b2⟩ := shown (s.evaluator .b n) bBR0
  exact ⟨_, _, rfl, a1, a2, b1, b2⟩

end Sys2Proof.Reading

end

section
/-! PROOFS. Numbers made of digits, and the words of a status block. -/

set_option Elab.async false

/-! ### Numbers made of digits, and the words of a status block -/

namespace Sys2Proof.Reading
open Sys2Proof.Machine Sys2Proof.Safety Sys2Proof.Laws Sys2Proof.Mailbox

/-! #### Digits -/

/-- The number with the digit `d i` at place i, n digits of base B. -/
def digitSum (B : Nat) (d : Nat → Nat) (n : Nat) : Nat := ((List.range n).map (fun i => d i * B ^ i)).sum

theorem digitSum_succ (B : Nat) (d : Nat → Nat) (n : Nat) : digitSum B d (n + 1) = digitSum B d n + d n * B ^ n := by
  unfold digitSum
  rw [List.range_succ, List.map_append, List.sum_append]
  rfl

variable {B n : Nat} {d : Nat → Nat}

theorem digitSum_lt (hd : ∀ i < n, d i < B) : digitSum B d n < B ^ n := by
  induction n with
  | zero => exact Nat.one_pos
  | succ n ih =>
    have small := ih fun i hi => hd i (by omega)
    calc digitSum B d (n + 1) = digitSum B d n + d n * B ^ n := digitSum_succ B d n
      _ < (d n + 1) * B ^ n := by rw [Nat.succ_mul]; omega
      _ ≤ B * B ^ n := Nat.mul_le_mul_right _ (hd n (by omega))
      _ = B ^ (n + 1) := by rw [pow_succ, Nat.mul_comm]

/-- A digit is read back at its place. -/
theorem digit_of_sum (hB : 0 < B) (hd : ∀ i < n, d i < B) {k : Nat} (hk : k < n) : digitSum B d n / B ^ k % B = d k := by
  induction n with
  | zero => omega
  | succ n ih =>
    have lower : ∀ i < n, d i < B := fun i hi => hd i (by omega)
    rw [digitSum_succ]
    rcases Nat.lt_succ_iff_lt_or_eq.mp hk with h | rfl
    · have top : d n * B ^ n = B ^ k * (B * (d n * B ^ (n - k - 1))) := by
        have : n = k + 1 + (n - k - 1) := by omega
        rw [show B ^ n = B ^ k * B * B ^ (n - k - 1) by rw [← pow_succ, ← pow_add, ← this]]
        ring
      rw [top, Nat.add_mul_div_left _ _ (Nat.pow_pos hB), Nat.add_mul_mod_self_left]
      exact ih lower h
    · rw [Nat.add_mul_div_right _ _ (Nat.pow_pos hB), Nat.div_eq_of_lt (digitSum_lt lower), Nat.zero_add]
      exact Nat.mod_eq_of_lt (hd k hk)

/-! #### Masks -/

theorem bitsToNat_concat (l : List Bool) (b : Bool) : bitsToNat (l ++ [b]) = bitsToNat l + b2n b * 2 ^ l.length := by
  induction l with
  | nil =>
    show b2n b + 2 * 0 = 0 + b2n b * 2 ^ 0
    omega
  | cons a l ih =>
    show b2n a + 2 * bitsToNat (l ++ [b]) = b2n a + 2 * bitsToNat l + b2n b * 2 ^ (l.length + 1)
    rw [ih, pow_succ]
    ring

/-- A mask is the number whose binary digits are its bits. -/
theorem maskOf_eq_digitSum (n : Nat) (p : Nat → Bool) : maskOf n p = digitSum 2 (fun i => b2n (p i)) n := by
  induction n with
  | zero => rfl
  | succ n ih =>
    rw [digitSum_succ, ← ih]
    unfold maskOf
    rw [List.range_succ, List.map_append]
    refine (bitsToNat_concat _ _).trans ?_
    rw [List.length_map, List.length_range]

variable (p : Nat → Bool)

theorem maskOf_lt (n : Nat) : maskOf n p < 2 ^ n := by
  rw [maskOf_eq_digitSum]
  exact digitSum_lt fun i _ => Nat.lt_succ_of_le (Transport.b2n_le _)

theorem bit_of_maskOf {k : Nat} (hk : k < n) : maskOf n p / 2 ^ k % 2 = b2n (p k) := by
  rw [maskOf_eq_digitSum]
  exact digit_of_sum (by decide) (fun i _ => Nat.lt_succ_of_le (Transport.b2n_le _)) hk

/-- A bit of a field of a word, which other fields stand above and below. -/
theorem bit_of_field {x A V low m lo k : Nat} (hx : x = A * 2 ^ m + V * 2 ^ lo + low) (hl : low < 2 ^ lo) (hk : lo + k < m) (hm : m ≤ 32) :
    x % 2 ^ 32 / 2 ^ (lo + k) % 2 ^ 1 = V / 2 ^ k % 2 := by
  have lower : x / 2 ^ lo = A * 2 ^ (m - lo) + V := by
    have : A * 2 ^ m = A * 2 ^ (m - lo) * 2 ^ lo := by
      rw [Nat.mul_assoc, ← pow_add, Nat.sub_add_cancel (by omega)]
    rw [hx, this, ← Nat.add_mul, Nat.add_comm, Nat.add_mul_div_right _ _ (Nat.two_pow_pos lo), Nat.div_eq_of_lt hl, Nat.zero_add]
  have cut : (x % 2 ^ 32).testBit (lo + k) = (x / 2 ^ lo).testBit k := by
    rw [Nat.testBit_mod_two_pow, decide_eq_true (by omega : lo + k < 32), Bool.true_and, ← Nat.shiftRight_eq_div_pow, Nat.testBit_shiftRight]
  have upper : (A * 2 ^ (m - lo) + V).testBit k = V.testBit k := by
    have inside : ∀ v : Nat, (v % 2 ^ (m - lo)).testBit k = v.testBit k := fun v => by
      rw [Nat.testBit_mod_two_pow, decide_eq_true (by omega : k < m - lo), Bool.true_and]
    rw [Nat.mul_comm, ← inside, Nat.mul_add_mod, inside]
  rw [lower, upper, Nat.testBit_eq_decide_div_mod_eq, Nat.testBit_eq_decide_div_mod_eq, decide_eq_decide] at cut
  rw [pow_one]
  omega

/-- The bits of two fields of 16 bits in one word. -/
theorem bit_of_half {P Q x i : Nat} (hQ : Q < 2 ^ 16) (hi : i < 16) (hx : x = (P * 65536 + Q) % 2 ^ 32) :
    x / 2 ^ (16 + i) % 2 ^ 1 = P / 2 ^ i % 2 ∧ x / 2 ^ i % 2 ^ 1 = Q / 2 ^ i % 2 := by
  have upper : P * 65536 + Q = 0 * 2 ^ 32 + P * 2 ^ 16 + Q := by omega
  have lower : P * 65536 + Q = P * 2 ^ 16 + Q * 2 ^ 0 + 0 := by
    rw [pow_zero, Nat.mul_one, Nat.add_zero, show (2 : Nat) ^ 16 = 65536 by decide]
  have bit := bit_of_field lower (k := i) (by decide) (by omega) (by decide)
  rw [Nat.zero_add] at bit
  rw [hx]
  exact ⟨bit_of_field upper hQ (by omega) (by decide), bit⟩

/-! #### Words -/

theorem leVal_leBytes_mod (n v : Nat) : leVal (leBytes n v) = v % 256 ^ n := by
  induction n generalizing v with
  | zero => exact (Nat.mod_one v).symm
  | succ n ih =>
    show (byte v).toNat + 256 * leVal (leBytes n (v / 256)) = _
    rw [ih, pow_succ', Nat.mod_mul]
    rfl

/-- Word i of a list of words. -/
theorem leAt_words (ws : List Nat) (i : Nat) : leAt (ws.flatMap (leBytes 4)) (4 * i) 4 = ws.getD i 0 % 2 ^ 32 := by
  induction ws generalizing i with
  | nil =>
    show leVal (([].drop (4 * i)).take 4) = 0 % 2 ^ 32
    rw [List.drop_nil]
    rfl
  | cons w ws ih =>
    rw [List.flatMap_cons]
    cases i with
    | zero =>
      unfold leAt
      rw [Nat.mul_zero, List.drop_zero, List.take_left' (leBytes_length 4 w)]
      exact leVal_leBytes_mod 4 w
    | succ i =>
      rw [show 4 * (i + 1) = 4 + 4 * i by omega, leAt_behind _ _ _ 4 4 (leBytes_length 4 w)]
      exact ih i

variable (s : State) (b held draw : Nat)

/-- Word i of a block as the host reads it. -/
def word (i : Nat) : Nat := leAt (s.statusBlock b held draw) (4 * i) 4

/-- The field of n bits from bit `lo` up in word i. -/
def field (i lo n : Nat) : Nat := word s b held draw i / 2 ^ lo % 2 ^ n

/-- The words from `k` on are 0. -/
def ZeroFrom (k : Nat) : Prop := ∀ i, k ≤ i → i < 8 → word s b held draw i = 0

theorem word_zero : word s b held draw 0 =
    (b * 2 ^ 24 + 2 ^ 16 + s.health b draw * 2 ^ 12 + s.liveSev b * 2 ^ 8 + s.stickySev b * 2 ^ 4) % 2 ^ 32 :=
  leAt_words (_ :: _) 0

theorem word_succ {i : Nat} (hi : i < 7) : word s b held draw (i + 1) = (s.blockWords b held (draw + 1)).getD i 0 % 2 ^ 32 := by
  refine (leAt_words (_ :: (List.range 7).map (fun i => (s.blockWords b held (draw + 1)).getD i 0)) (i + 1)).trans ?_
  rw [List.getD_cons_succ, List.getD_eq_getElem _ _ (by rw [List.length_map, List.length_range]; exact hi), List.getElem_map, List.getElem_range]

variable {s b held draw} {ws : List Nat}

/-- A word of a block whose words are known. -/
theorem word_of_words (hw : s.blockWords b held (draw + 1) = ws) {i : Nat} (hi : i < 7) : word s b held draw (i + 1) = ws.getD i 0 % 2 ^ 32 := by
  rw [word_succ s b held draw hi, hw]

theorem word_of_get (hw : s.blockWords b held (draw + 1) = ws) {i x : Nat} (hi : i < 7) (hx : ws[i]? = some x) :
    word s b held draw (i + 1) = x % 2 ^ 32 := by
  rw [word_of_words hw hi, List.getD_eq_getElem?_getD, hx]
  rfl

theorem zeroFrom_of_words (hw : s.blockWords b held (draw + 1) = ws) {k : Nat} (hk : ws.length < k) : ZeroFrom s b held draw k := by
  intro i hi h8
  obtain ⟨j, rfl⟩ : ∃ j, i = j + 1 := ⟨i - 1, by omega⟩
  rw [word_of_words hw (by omega), List.getD_eq_default _ _ (by omega), Nat.zero_mod]

theorem statusBlock_length : (s.statusBlock b held draw).length = 32 := by
  unfold State.statusBlock
  rw [List.length_flatMap]
  simp only [leBytes_length]
  rw [List.map_const', List.sum_replicate, List.length_cons, List.length_map, List.length_range]
  rfl

end Sys2Proof.Reading

end

section
/-! PROOFS. Word 0 of a status block, the pairs and SUP (Table 11.7). -/

set_option Elab.async false

/-! ### Word 0 of a status block, and the words of the pairs and of SUP (Table 11.7) -/

namespace Sys2Proof.Reading
open Sys2Proof.Machine Sys2Proof.Safety Sys2Proof.Laws Sys2Proof.Mailbox

variable {s : State} {b held draw : Nat}

/-! #### Severities -/

theorem foldl_max_eq {x m : Nat} {xs : List Nat} (hm : m ∈ x :: xs) (h : ∀ y ∈ x :: xs, y ≤ m) : xs.foldl max x = m :=
  Option.some_injective _ (List.max?_eq_some_iff.mpr ⟨hm, h⟩)

theorem liveSev_of_none (h : ∀ l ∈ s.faults.live, l.block ≠ b) : s.liveSev b = 15 := by
  have : s.faults.live.filter (fun l => l.block == b) = [] := List.filter_eq_nil_iff.mpr fun l hl => by
    rw [beq_iff_eq]
    exact h l hl
  unfold State.liveSev
  rw [this]
  rfl

theorem liveSev_of_top {l : LiveInst} (hl : l ∈ s.faults.live) (hb : l.block = b) (top : ∀ x ∈ s.faults.live, x.block = b → s.sevNow x ≤ s.sevNow l) :
    s.liveSev b = s.sevNow l := by
  have own : s.sevNow l ∈ (s.faults.live.filter (fun l => l.block == b)).map s.sevNow :=
    List.mem_map_of_mem (List.mem_filter.mpr ⟨hl, beq_iff_eq.mpr hb⟩)
  have bound : ∀ y ∈ (s.faults.live.filter (fun l => l.block == b)).map s.sevNow, y ≤ s.sevNow l := fun y hy => by
    obtain ⟨x, hx, rfl⟩ := List.mem_map.mp hy
    exact top x (List.mem_of_mem_filter hx) (beq_iff_eq.mp (List.mem_filter.mp hx).2)
  unfold State.liveSev
  cases e : (s.faults.live.filter (fun l => l.block == b)).map s.sevNow with
  | nil =>
    rw [e] at own
    exact absurd own List.not_mem_nil
  | cons x xs =>
    rw [e] at own bound
    exact foldl_max_eq own bound

theorem stickySev_of_clear (h : (s.words b).sticky = 0) : s.stickySev b = 15 := by
  unfold State.stickySev
  rw [h, List.filter_eq_nil_iff.mpr fun i _ => by rw [BitVec.ofNat_eq_ofNat, BitVec.getLsbD_zero]; exact Bool.false_ne_true]
  rfl

/-! #### Health -/

theorem health_lt : s.health b draw < 16 := by
  have bit := Transport.b2n_le (Config.freeBit draw)
  unfold State.health
  split_ifs <;> omega

theorem health_of_retired (hp : isPair b = true) (hr : (s.pair b).retired = true) : s.health b draw = 3 := if_pos ⟨hp, hr⟩

theorem health_of_off (hp : isPair b = false ∨ (s.pair b).retired = false) (ho : s.on (if b ≤ 11 then b else 0) = false) : s.health b draw = 4 := by
  have off : (!s.on (blockDomain b)) = true := by
    rw [Bool.not_eq_true']
    exact ho
  refine (if_neg fun h => ?_).trans (if_pos off)
  rcases hp with hp | hp
  · exact Bool.false_ne_true (hp.symm.trans h.1)
  · exact Bool.false_ne_true (hp.symm.trans h.2)

/-- The fields of word 0. -/
theorem word_zero_fields (hb : isBlock b = true) (hl : s.liveSev b < 16) (hs : s.stickySev b < 16) :
    let f := field s b held draw 0
    f 24 8 = b ∧ f 16 8 = 1 ∧ f 12 4 = s.health b draw ∧ f 8 4 = s.liveSev b ∧ f 4 4 = s.stickySev b ∧ f 0 4 = 0 := by
  have h1 := isBlock_lt hb
  have h2 := health_lt (s := s) (b := b) (draw := draw)
  dsimp only [field]
  rw [word_zero]
  omega

/-! #### Pairs -/

theorem blockWords_pair (hp : isPair b = true) (hs : b ≠ bSUP) : s.blockWords b held draw = s.pairWords b :=
  (if_pos hp).trans (if_neg fun h => hs h.1)

theorem pairWords_off (ho : s.on (pairDomain b) = false) : s.pairWords b = [] :=
  if_pos (by rw [ho]; rfl)

/-- What a pair shows as its role. -/
def shownRole (s : State) (b : Nat) : Nat :=
  if b = bSTB then
    (match s.pairs.stbFor, s.bundles.handover with
     | some x, _ => x
     | none, some h => if h.stage = .starting then bSUP else bSTB
     | none, none => bSTB)
  else b

/-- Word 2 of a pair. -/
def shownLoad (s : State) (b : Nat) : Nat := if (evaluatorSide b).isSome then (s.cellsOf b).length * 65536 + (s.pair b).load else 0

theorem pairWords_on (ho : s.on (pairDomain b) = true) :
    s.pairWords b = [(s.pair b).mismatches * 65536 + (s.pair b).lastGroup * 256 + shownRole s b, shownLoad s b] :=
  if_neg (by rw [ho]; exact Bool.false_ne_true)

theorem blockWords_pair_off (hp : isPair b = true) (ho : s.on (pairDomain b) = false) : s.blockWords b held draw = [] := by
  refine (if_pos hp).trans ?_
  rw [pairWords_off ho]
  exact if_neg fun h => Bool.false_ne_true h.2

theorem blockWords_sup (ho : s.on (pairDomain bSUP) = true) : s.blockWords bSUP held draw = s.pairWords bSUP ++ s.supWords (draw + 1) := by
  refine (if_pos rfl).trans (if_pos ⟨rfl, ?_⟩)
  rw [pairWords_on ho]
  rfl

/-- The first two words of a pair that is on. -/
theorem words_of_pair (hp : isPair b = true) (ho : s.on (pairDomain b) = true) :
    word s b held draw 1 = ((s.pair b).mismatches * 65536 + (s.pair b).lastGroup * 256 + shownRole s b) % 2 ^ 32 ∧
      word s b held draw 2 = shownLoad s b % 2 ^ 32 := by
  by_cases hs : b = bSUP
  · subst hs
    have e := (blockWords_sup (held := held) (draw := draw + 1) ho).trans (congrArg (· ++ s.supWords (draw + 2)) (pairWords_on ho))
    exact ⟨word_of_words e (i := 0) (by decide), word_of_words e (i := 1) (by decide)⟩
  · have e := (blockWords_pair (held := held) (draw := draw + 1) hp hs).trans (pairWords_on ho)
    exact ⟨word_of_words e (i := 0) (by decide), word_of_words e (i := 1) (by decide)⟩

theorem shownRole_other (h : b ≠ bSTB) : shownRole s b = b := if_neg h

theorem shownRole_standing {x : Nat} (h : s.pairs.stbFor = some x) : shownRole s bSTB = x := by
  refine (if_pos rfl).trans ?_
  rw [h]

theorem shownRole_starting (h : s.pairs.stbFor = none) {n : Handover} (hn : s.bundles.handover = some n) (hs : n.stage = .starting) :
    shownRole s bSTB = bSUP := by
  refine (if_pos rfl).trans ?_
  rw [h, hn]
  exact if_pos hs

theorem shownRole_idle (h : s.pairs.stbFor = none) (hn : s.bundles.handover = none) : shownRole s bSTB = bSTB := by
  refine (if_pos rfl).trans ?_
  rw [h, hn]

theorem shownRole_lt (hp : isPair b = true) (h : b = bSTB → ∀ x, s.pairs.stbFor = some x → x < 256) : shownRole s b < 256 := by
  have small : b < 256 := by
    have := Bool.and_eq_true_iff.mp hp
    have := of_decide_eq_true this.2
    omega
  by_cases hb : b = bSTB
  · subst hb
    have roles : bSUP < 256 ∧ bSTB < 256 := by decide
    unfold shownRole
    rw [if_pos rfl]
    split
    · exact h rfl _ ‹_›
    · split_ifs
      · exact roles.1
      · exact roles.2
    · exact roles.2
  · rw [shownRole_other hb]
    exact small

theorem cellsOf_length (s : State) (b : Nat) : (s.cellsOf b).length < 65536 := by
  have inUse : s.cellsInUse.length ≤ 256 := by
    unfold State.cellsInUse
    split
    · exact (List.length_filter_le ..).trans_eq List.length_range
    · exact Nat.zero_le _
  unfold State.cellsOf
  split
  · decide
  · exact Nat.lt_of_le_of_lt ((List.length_filter_le ..).trans inUse) (by decide)

theorem evaluatorSide_isSome (h2 : 2 ≤ b) (h5 : b ≤ 5) : (evaluatorSide b).isSome = true := by
  have : b = 2 ∨ b = 3 ∨ b = 4 ∨ b = 5 := by omega
  rcases this with rfl | rfl | rfl | rfl <;> rfl

/-- The load of an evaluator. -/
theorem load_fields (h2 : 2 ≤ b) (h5 : b ≤ 5) (ho : s.on (pairDomain b) = true) (hl : (s.pair b).load < 65536) :
    field s b held draw 2 16 16 = (s.cellsOf b).length ∧ field s b held draw 2 0 16 = (s.pair b).load := by
  have hp : isPair b = true := by
    rw [isPair, decide_eq_true (by omega), decide_eq_true (by omega)]
    rfl
  have cells := cellsOf_length s b
  unfold field
  rw [(words_of_pair hp ho).2, shownLoad, if_pos (evaluatorSide_isSome h2 h5)]
  omega

/-- The words of a pair that is on. -/
theorem pair_fields (hp : isPair b = true) (ho : s.on (pairDomain b) = true) (hm : (s.pair b).mismatches < 65536)
    (hg : (s.pair b).lastGroup < 256) (hr : b = bSTB → ∀ x, s.pairs.stbFor = some x → x < 256) :
    field s b held draw 1 16 16 = (s.pair b).mismatches ∧ field s b held draw 1 8 8 = (s.pair b).lastGroup ∧
      field s b held draw 1 0 8 = shownRole s b := by
  have role := shownRole_lt hp hr
  unfold field
  rw [(words_of_pair hp ho).1]
  omega

/-! #### SUP -/

/-- The flags of word 3 of SUP. -/
def supFlags (s : State) : Nat := b2n (s.cfg.newer == 1) + 2 * b2n (s.bundles.running == some 1) +
    4 * b2n (stagingOpen s.cfg.staging || stagingOpen s.bundles.staging) +
    8 * b2n (s.cfg.admission.isSome || s.cfg.trans.any (fun t => t.activeA || !t.doneB)) +
    16 * b2n s.bundles.handover.isSome + 32 * b2n (s.isLive bSUP 7 0)

theorem devState_code_lt (x : DevState) : x.code < 16 := by cases x <;> decide

theorem maint_code_lt (x : Maint) : x.code < 16 := by cases x <;> decide

theorem beVal_lt (bs : List Byte) : beVal bs < 256 ^ bs.length := by
  induction bs using List.reverseRecOn with
  | nil => decide
  | append_singleton bs x ih =>
    have top : x.toNat < 256 := x.isLt
    unfold beVal at ih ⊢
    rw [List.foldl_append, List.length_append]
    show _ * 256 + x.toNat < 256 ^ bs.length * 256
    omega

theorem beAt_lt (bs : List Byte) (off n : Nat) : beAt bs off n < 256 ^ n :=
  Nat.lt_of_lt_of_le (beVal_lt _) (Nat.pow_le_pow_right (by decide) (List.length_take_le ..))

section
variable (ho : s.on (pairDomain bSUP) = true)
include ho

/-- The six words of SUP. -/
theorem supBlock_words :
    s.blockWords bSUP held draw = [(s.pair bSUP).mismatches * 65536 + (s.pair bSUP).lastGroup * 256 + shownRole s bSUP, 0,
      s.dev.st.code * 2 ^ 28 + s.dev.maint.code * 2 ^ 24 + s.dev.safeReason * 2 ^ 16 + s.host.version * 2 ^ 12 + supFlags s,
      s.cfg.sequence, if s.cfg.newerBank.hash.isEmpty then Config.freeNat (draw + 1) % 2 ^ 32 else beAt s.cfg.newerBank.hash 0 4,
      if s.host.rom then 0 else (s.bundles.manifest.getD default).version] :=
  (blockWords_sup ho).trans (congrArg (· ++ s.supWords (draw + 1)) (pairWords_on ho))

/-- Word 3 of SUP. -/
theorem sup_status (hr : s.dev.safeReason < 256) (hv : s.host.version < 16) :
    let f := field s bSUP held draw 3
    f 28 4 = s.dev.st.code ∧ f 24 4 = s.dev.maint.code ∧ f 16 8 = s.dev.safeReason ∧ f 12 4 = s.host.version ∧ f 6 6 = 0 ∧
      f 0 1 = b2n (s.cfg.newer == 1) ∧ f 1 1 = b2n (s.bundles.running == some 1) ∧
      f 2 1 = b2n (stagingOpen s.cfg.staging || stagingOpen s.bundles.staging) ∧
      f 3 1 = b2n (s.cfg.admission.isSome || s.cfg.trans.any (fun t => t.activeA || !t.doneB)) ∧
      f 4 1 = b2n s.bundles.handover.isSome ∧ f 5 1 = b2n (s.isLive bSUP 7 0) := by
  have h1 := devState_code_lt s.dev.st
  have h2 := maint_code_lt s.dev.maint
  dsimp only [field]
  rw [word_of_words (supBlock_words ho) (i := 2) (by decide), List.getD_cons_succ, List.getD_cons_succ, List.getD_cons_zero, supFlags]
  have f0 := Transport.b2n_le (s.cfg.newer == 1)
  have f1 := Transport.b2n_le (s.bundles.running == some 1)
  have f2 := Transport.b2n_le (stagingOpen s.cfg.staging || stagingOpen s.bundles.staging)
  have f3 := Transport.b2n_le (s.cfg.admission.isSome || s.cfg.trans.any (fun t => t.activeA || !t.doneB))
  have f4 := Transport.b2n_le s.bundles.handover.isSome
  have f5 := Transport.b2n_le (s.isLive bSUP 7 0)
  omega

theorem sup_zeros : word s bSUP held draw 2 = 0 ∧ ZeroFrom s bSUP held draw 7 :=
  ⟨word_of_words (supBlock_words ho) (i := 1) (by decide), zeroFrom_of_words (supBlock_words ho) (by exact Nat.lt_succ_self 6)⟩

theorem sup_sequence (h : s.cfg.sequence < 2 ^ 32) : word s bSUP held draw 4 = s.cfg.sequence :=
  (word_of_words (supBlock_words ho) (i := 3) (by decide)).trans (Nat.mod_eq_of_lt h)

theorem sup_hash (h : s.cfg.newerBank.hash ≠ []) : word s bSUP held draw 5 = beAt s.cfg.newerBank.hash 0 4 := by
  refine (word_of_words (supBlock_words ho) (i := 4) (by decide)).trans ?_
  rw [List.getD_cons_succ, List.getD_cons_succ, List.getD_cons_succ, List.getD_cons_succ, List.getD_cons_zero,
    if_neg fun e => h (List.isEmpty_iff.mp e)]
  exact Nat.mod_eq_of_lt (beAt_lt _ 0 4)

theorem sup_bundle : (s.host.rom = true → word s bSUP held draw 6 = 0) ∧
    (s.host.rom = false → ∀ m, s.bundles.manifest = some m → m.version < 2 ^ 32 → word s bSUP held draw 6 = m.version) := by
  have e : word s bSUP held draw 6 = (if s.host.rom then 0 else (s.bundles.manifest.getD default).version) % 2 ^ 32 :=
    word_of_words (supBlock_words ho) (i := 5) (by decide)
  refine ⟨fun h => ?_, fun h m hm hv => ?_⟩
  · rw [e, h]
    rfl
  · rw [e, h, hm]
    exact Nat.mod_eq_of_lt hv

end

end Sys2Proof.Reading

end

section
/-! PROOFS. The words of the other blocks (Table 11.7). -/

set_option Elab.async false

/-! ### The words of the other blocks (Table 11.7) -/

namespace Sys2Proof.Reading
open Sys2Proof.Machine Sys2Proof.Safety Sys2Proof.Laws Sys2Proof.Mailbox

variable {s : State} {b held draw : Nat}

/-! #### WEIR and HOST -/

/-- The connections in use whose state, as channel A shows it, is such. -/
def connsThat (s : State) (p : ConnState → Bool) : Nat := (s.connsInUse.filter (fun n => p (s.connMirror .a n).st)).length

/-- A port's byte in word 1 of WEIR. -/
def portByte (s : State) (k : Nat) : Nat := (s.params.port k).mode * 16 + b2n (s.port k).linkUp * 8 + b2n (s.port k).pause.isSome * 4

theorem weir_words : s.blockWords bWEIR held draw =
    [((List.range 3).map (fun k => 2 ^ (8 * k) * portByte s k)).sum, connsThat s (· == .run) * 65536 + connsThat s (· == .lost),
      connsThat s (fun x => x == .mismatch || x == .refused)] := rfl

theorem portBytes_sum : ((List.range 3).map (fun k => 2 ^ (8 * k) * portByte s k)).sum = portByte s 0 + portByte s 1 * 256 + portByte s 2 * 65536 := by
  show 2 ^ (8 * 0) * portByte s 0 + (2 ^ (8 * 1) * portByte s 1 + (2 ^ (8 * 2) * portByte s 2 + 0)) = _
  omega

/-- The fields of a port's byte. -/
theorem portByte_fields {k : Nat} (hm : (s.params.port k).mode < 16) :
    let x := portByte s k
    x < 256 ∧ x / 16 = (s.params.port k).mode ∧ x / 8 % 2 = b2n (s.port k).linkUp ∧ x / 4 % 2 = b2n (s.port k).pause.isSome ∧ x % 4 = 0 := by
  have h1 := Transport.b2n_le (s.port k).linkUp
  have h2 := Transport.b2n_le (s.port k).pause.isSome
  dsimp only [portByte]
  omega

theorem weir_ports (hm : ∀ k < 3, (s.params.port k).mode < 16) :
    (∀ k < 3, field s bWEIR held draw 1 (8 * k + 4) 4 = (s.params.port k).mode ∧ field s bWEIR held draw 1 (8 * k + 3) 1 = b2n (s.port k).linkUp ∧
      field s bWEIR held draw 1 (8 * k + 2) 1 = b2n (s.port k).pause.isSome ∧ field s bWEIR held draw 1 (8 * k) 2 = 0) ∧
    field s bWEIR held draw 1 24 8 = 0 := by
  have e : word s bWEIR held draw 1 = (portByte s 0 + portByte s 1 * 256 + portByte s 2 * 65536) % 2 ^ 32 :=
    (word_of_words weir_words (i := 0) (by decide)).trans (congrArg (· % 2 ^ 32) portBytes_sum)
  obtain ⟨a0, a1, a2, a3, a4⟩ := portByte_fields (hm 0 (by decide))
  obtain ⟨b0, b1, b2, b3, b4⟩ := portByte_fields (hm 1 (by decide))
  obtain ⟨c0, c1, c2, c3, c4⟩ := portByte_fields (hm 2 (by decide))
  unfold field
  rw [e]
  refine ⟨fun k hk => ?_, by omega⟩
  have : k = 0 ∨ k = 1 ∨ k = 2 := by omega
  rcases this with rfl | rfl | rfl
  · omega
  · omega
  · omega

theorem weir_conns (hc : s.connsInUse.length < 65536) :
    field s bWEIR held draw 2 16 16 = connsThat s (· == .run) ∧ field s bWEIR held draw 2 0 16 = connsThat s (· == .lost) ∧
      word s bWEIR held draw 3 = connsThat s (fun x => x == .mismatch || x == .refused) ∧ ZeroFrom s bWEIR held draw 4 := by
  have bound : ∀ p, connsThat s p < 65536 := fun p => Nat.lt_of_le_of_lt (List.length_filter_le ..) hc
  have h1 := bound (· == .run)
  have h2 := bound (· == .lost)
  have h3 := bound (fun x => x == .mismatch || x == .refused)
  refine ⟨?_, ?_, ?_, zeroFrom_of_words weir_words (by exact Nat.lt_succ_self 3)⟩
  · rw [field, word_of_words weir_words (i := 1) (by decide), List.getD_cons_succ, List.getD_cons_zero]
    omega
  · rw [field, word_of_words weir_words (i := 1) (by decide), List.getD_cons_succ, List.getD_cons_zero]
    omega
  · exact (word_of_words weir_words (i := 2) (by decide)).trans (Nat.mod_eq_of_lt (by exact h3.trans (by decide)))

theorem iface_code_lt (x : Iface) : x.code < 256 := by cases x <;> decide

theorem host_words : s.blockWords bHOST held draw = [s.host.iface.code * 2 ^ 24 + held * 2 ^ 16, s.host.accepted, s.host.rejected] := rfl

theorem host_fields (hh : held < 256) (ha : s.host.accepted < 2 ^ 32) (hr : s.host.rejected < 2 ^ 32) :
    field s bHOST held draw 1 24 8 = s.host.iface.code ∧ field s bHOST held draw 1 16 8 = held ∧ field s bHOST held draw 1 0 16 = 0 ∧
      word s bHOST held draw 2 = s.host.accepted ∧ word s bHOST held draw 3 = s.host.rejected ∧ ZeroFrom s bHOST held draw 4 := by
  have h1 := iface_code_lt s.host.iface
  have e : word s bHOST held draw 1 = (s.host.iface.code * 2 ^ 24 + held * 2 ^ 16) % 2 ^ 32 := word_of_words host_words (i := 0) (by decide)
  refine ⟨?_, ?_, ?_, (word_of_words host_words (i := 1) (by decide)).trans (Nat.mod_eq_of_lt ha),
    (word_of_words host_words (i := 2) (by decide)).trans (Nat.mod_eq_of_lt hr), zeroFrom_of_words host_words (by exact Nat.lt_succ_self 3)⟩
  all_goals
    rw [field, e]
    omega

/-! #### The memories, OXB and ROS -/

/-- A block whose word 1 holds two counts of 16 bits, and no other word. -/
theorem counts_fields {x y : Nat} (hw : s.blockWords b held (draw + 1) = [x * 65536 + y]) (hx : x < 65536) (hy : y < 65536) :
    field s b held draw 1 16 16 = x ∧ field s b held draw 1 0 16 = y ∧ ZeroFrom s b held draw 2 := by
  have e : word s b held draw 1 = (x * 65536 + y) % 2 ^ 32 := word_of_words hw (i := 0) (by decide)
  rw [field, field, e]
  exact ⟨by omega, by omega, zeroFrom_of_words hw (Nat.lt_succ_self 1)⟩

theorem oxb_fields (hd : s.dirtyBytes < 2 ^ 32) (hn : s.oxb.mram.nextSeq < 2 ^ 32) :
    word s bOXB held draw 1 = 64 * (s.oxb.dirty.length + s.oxb.inFlight.length) ∧ word s bOXB held draw 2 = s.oxb.mram.nextSeq ∧
      ZeroFrom s bOXB held draw 3 := by
  have hw : s.blockWords bOXB held (draw + 1) = [s.dirtyBytes, s.oxb.mram.nextSeq] := rfl
  exact ⟨(word_of_words hw (i := 0) (by decide)).trans (Nat.mod_eq_of_lt hd), (word_of_words hw (i := 1) (by decide)).trans (Nat.mod_eq_of_lt hn),
    zeroFrom_of_words hw (by exact Nat.lt_succ_self 2)⟩

theorem ros_words : s.blockWords bROS held draw =
    [(s.ros.shadow.filter (fun e => e.2.marginal || e.2.bad)).length * 65536 + maskOf 5 s.sealed * 256 + maskOf 5 s.locked, s.tlUsed] := rfl

theorem ros_fields (hl : s.ros.shadow.length < 65536) :
    field s bROS held draw 1 16 16 = (s.ros.shadow.filter (fun e => e.2.marginal || e.2.bad)).length ∧
      (∀ r < 5, field s bROS held draw 1 (8 + r) 1 = b2n (s.sealed r) ∧ field s bROS held draw 1 r 1 = b2n (s.locked r)) ∧
      field s bROS held draw 1 5 3 = 0 ∧ field s bROS held draw 1 13 3 = 0 ∧
      word s bROS held draw 2 = ((List.range 64).filter (fun i => (s.shadow (3584 + i)).prog)).length ∧ ZeroFrom s bROS held draw 3 := by
  have words := Nat.lt_of_le_of_lt (List.length_filter_le (fun e => e.2.marginal || e.2.bad) s.ros.shadow) hl
  have sealed_ := maskOf_lt s.sealed 5
  have locked_ := maskOf_lt s.locked 5
  have used : s.tlUsed < 2 ^ 32 := Nat.lt_of_le_of_lt (List.length_filter_le ..) (by rw [List.length_range]; decide)
  have e : word s bROS held draw 1 = ((s.ros.shadow.filter (fun e => e.2.marginal || e.2.bad)).length * 65536 + maskOf 5 s.sealed * 256 +
      maskOf 5 s.locked) % 2 ^ 32 := word_of_words ros_words (i := 0) (by decide)
  refine ⟨?_, fun r hr => ⟨?_, ?_⟩, ?_, ?_, (word_of_words ros_words (i := 1) (by decide)).trans (Nat.mod_eq_of_lt used),
    zeroFrom_of_words ros_words (by exact Nat.lt_succ_self 2)⟩
  · rw [field, e]
    omega
  · have high : (s.ros.shadow.filter (fun e => e.2.marginal || e.2.bad)).length * 65536 + maskOf 5 s.sealed * 256 + maskOf 5 s.locked =
        (s.ros.shadow.filter (fun e => e.2.marginal || e.2.bad)).length * 2 ^ 16 + maskOf 5 s.sealed * 2 ^ 8 + maskOf 5 s.locked := by
      omega
    rw [field, e, bit_of_field high (k := r) (by omega) (by omega) (by decide)]
    exact bit_of_maskOf _ hr
  · have low : (s.ros.shadow.filter (fun e => e.2.marginal || e.2.bad)).length * 65536 + maskOf 5 s.sealed * 256 + maskOf 5 s.locked =
        ((s.ros.shadow.filter (fun e => e.2.marginal || e.2.bad)).length * 256 + maskOf 5 s.sealed) * 2 ^ 8 + maskOf 5 s.locked * 2 ^ 0 + 0 := by
      omega
    have bit := bit_of_field low (k := r) (by decide) (by omega) (by decide)
    rw [Nat.zero_add] at bit
    rw [field, e, bit]
    exact bit_of_maskOf _ hr
  · rw [field, e]
    omega
  · rw [field, e]
    omega

/-! #### PWR, CLK and RIF -/

theorem pwr_words : s.blockWords bPWR held draw =
    [s.pwr.resetCause * 2 ^ 28 + b2n s.pwr.pfailSeen * 2 ^ 27 + b2n s.errpAsserted * 2 ^ 26 + b2n s.pwr.latch * 2 ^ 25 + s.pwr.vsup % 4096,
      s.pwr.opSeconds, s.pwr.powerCycles] := rfl

theorem pwr_fields (hr : s.pwr.resetCause < 16) (ho : s.pwr.opSeconds < 2 ^ 32) (hc : s.pwr.powerCycles < 2 ^ 32) :
    let f := field s bPWR held draw 1
    f 28 4 = s.pwr.resetCause ∧ f 27 1 = b2n s.pwr.pfailSeen ∧ f 26 1 = b2n s.errpAsserted ∧ f 25 1 = b2n s.pwr.latch ∧ f 12 13 = 0 ∧
      f 0 12 = s.pwr.vsup % 4096 ∧ word s bPWR held draw 2 = s.pwr.opSeconds ∧ word s bPWR held draw 3 = s.pwr.powerCycles ∧
      ZeroFrom s bPWR held draw 4 := by
  have h1 := Transport.b2n_le s.pwr.pfailSeen
  have h2 := Transport.b2n_le s.errpAsserted
  have h3 := Transport.b2n_le s.pwr.latch
  have e : word s bPWR held draw 1 = (s.pwr.resetCause * 2 ^ 28 + b2n s.pwr.pfailSeen * 2 ^ 27 + b2n s.errpAsserted * 2 ^ 26 +
      b2n s.pwr.latch * 2 ^ 25 + s.pwr.vsup % 4096) % 2 ^ 32 := word_of_words pwr_words (i := 0) (by decide)
  dsimp only [field]
  rw [e]
  refine ⟨by omega, by omega, by omega, by omega, by omega, by omega, (word_of_words pwr_words (i := 1) (by decide)).trans (Nat.mod_eq_of_lt ho),
    (word_of_words pwr_words (i := 2) (by decide)).trans (Nat.mod_eq_of_lt hc), zeroFrom_of_words pwr_words (by exact Nat.lt_succ_self 3)⟩

theorem clk_fields : field s bCLK held draw 1 16 16 = (s.clk.ratioDev % 65536).toNat ∧ field s bCLK held draw 1 0 16 = 0 ∧ ZeroFrom s bCLK held draw 2 := by
  have hw : s.blockWords bCLK held (draw + 1) = [(s.clk.ratioDev % 65536).toNat * 65536] := rfl
  exact counts_fields (y := 0) (hw.trans (congrArg (fun x => [x]) (Nat.add_zero _).symm)) (by omega) (by decide)

theorem rif_fields (hs : s.rif.slices < 65536) :
    field s bRIF held draw 1 16 16 = s.rif.slices ∧
      field s bRIF held draw 1 8 8 = min 255 (s.rif.units.filter (fun e => e.2.unusable)).length ∧
      field s bRIF held draw 1 0 8 = ((List.range 64).filter (fun c => decide (0 < s.overdue c))).length ∧
      word s bRIF held draw 2 = s.rif.skipped % 2 ^ 32 ∧ ZeroFrom s bRIF held draw 3 := by
  have overdue : ((List.range 64).filter (fun c => decide (0 < s.overdue c))).length ≤ 64 := (List.length_filter_le ..).trans_eq List.length_range
  have hw : s.blockWords bRIF held (draw + 1) = [s.rif.slices * 65536 + min 255 (s.rif.units.filter (fun e => e.2.unusable)).length * 256 +
      ((List.range 64).filter (fun c => decide (0 < s.overdue c))).length, s.rif.skipped % 2 ^ 32] := rfl
  have e : word s bRIF held draw 1 = (s.rif.slices * 65536 + min 255 (s.rif.units.filter (fun e => e.2.unusable)).length * 256 +
      ((List.range 64).filter (fun c => decide (0 < s.overdue c))).length) % 2 ^ 32 := word_of_words hw (i := 0) (by decide)
  rw [field, field, field, e]
  exact ⟨by omega, by omega, by omega, (word_of_words hw (i := 1) (by decide)).trans (Nat.mod_mod ..),
    zeroFrom_of_words hw (by exact Nat.lt_succ_self 2)⟩

/-! #### Groups of channels -/

theorem isPair_above (h : 0x10 ≤ b) : isPair b = false := by
  rw [isPair, decide_eq_false (by omega : ¬ b ≤ 6), Bool.and_false]

/-- The states of the eight cells from n on, four bits each, as a channel's mirror shows them. -/
def cellCodes (s : State) (sd : Side) (n : Nat) : Nat := digitSum 16 (fun i => (s.cell sd (n + i)).mirror.st.code) 8

/-- Whether a count of the i-th cell from n on is not 0. -/
def nonzero (s : State) (sd : Side) (f : Snapshot → Nat) (n i : Nat) : Bool := f (s.cell sd (n + i)).mirror != 0

/-- The words of the blocks behind RIF. -/
theorem blockWords_above (h : 0x10 ≤ b) : s.blockWords b held draw =
    if b ≤ 0x13 then
      if !(s.die (b - 0x10)).alive then []
      else
        [s.groupMask .a (b - 0x10) 1 * 65536 + s.groupMask .a (b - 0x10) 3,
         (s.gview .a (b - 0x10)).vfCode * 2 ^ 20 + (s.gview .a (b - 0x10)).tempCode * 2 ^ 8,
         s.groupMask .b (b - 0x10) 1 * 65536 + s.groupMask .b (b - 0x10) 3]
    else
      let n := 16 * (b - 0x20)
      [cellCodes s .a (n + 0), cellCodes s .a (n + 8), cellCodes s .b (n + 0), cellCodes s .b (n + 8),
       maskOf 16 (nonzero s .b (·.disc) n) * 65536 + maskOf 16 (nonzero s .a (·.disc) n),
       maskOf 16 (nonzero s .b (·.sigc) n) * 65536 + maskOf 16 (nonzero s .a (·.sigc) n)] := by
  have other : ∀ k < 0x10, b ≠ k := fun k hk => by omega
  unfold State.blockWords
  rw [isPair_above h, if_neg Bool.false_ne_true, if_neg (other bWEIR (by decide)), if_neg (other bHOST (by decide)), if_neg (other bMEMA (by decide)),
    if_neg (other bMEMB (by decide)), if_neg (other bOXB (by decide)), if_neg (other bROS (by decide)), if_neg (other bPWR (by decide)),
    if_neg (other bCLK (by decide)), if_neg (other bRIF (by decide))]
  rfl

/-- Two masks of 16 bits in one word. -/
theorem masks_bits {x : Nat} {p q : Nat → Bool} (hx : x = (maskOf 16 p * 65536 + maskOf 16 q) % 2 ^ 32) {i : Nat} (hi : i < 16) :
    x / 2 ^ (16 + i) % 2 ^ 1 = b2n (p i) ∧ x / 2 ^ i % 2 ^ 1 = b2n (q i) := by
  obtain ⟨high, low⟩ := bit_of_half (maskOf_lt q 16) hi hx
  rw [high, low]
  exact ⟨bit_of_maskOf p hi, bit_of_maskOf q hi⟩

theorem group_off (h : 0x10 ≤ b) (h3 : b ≤ 0x13) (ha : (s.die (b - 0x10)).alive = false) : ZeroFrom s b held draw 1 :=
  zeroFrom_of_words (ws := []) ((blockWords_above h).trans ((if_pos h3).trans (if_pos (by rw [ha]; rfl)))) (by exact Nat.lt_succ_self 0)

theorem group_fields (h : 0x10 ≤ b) (h3 : b ≤ 0x13) (ha : (s.die (b - 0x10)).alive = true) (hv : (s.gview .a (b - 0x10)).vfCode < 4096)
    (ht : (s.gview .a (b - 0x10)).tempCode < 4096) :
    ZeroFrom s b held draw 4 ∧ field s b held draw 2 20 12 = (s.gview .a (b - 0x10)).vfCode ∧
      field s b held draw 2 8 12 = (s.gview .a (b - 0x10)).tempCode ∧ field s b held draw 2 0 8 = 0 ∧
      ∀ i < 16, let at_ := fun (sd : Side) (st : Nat) => b2n ((s.view sd (16 * (b - 0x10) + i)).state == st)
        field s b held draw 1 (16 + i) 1 = at_ .a 1 ∧ field s b held draw 1 i 1 = at_ .a 3 ∧
        field s b held draw 3 (16 + i) 1 = at_ .b 1 ∧ field s b held draw 3 i 1 = at_ .b 3 := by
  have hw := (blockWords_above (s := s) (held := held) (draw := draw + 1) h).trans
    ((if_pos h3).trans (if_neg (by rw [ha]; exact Bool.false_ne_true)))
  have e1 := word_of_words hw (i := 0) (by decide)
  have e2 : word s b held draw 2 = ((s.gview .a (b - 0x10)).vfCode * 2 ^ 20 + (s.gview .a (b - 0x10)).tempCode * 2 ^ 8) % 2 ^ 32 :=
    word_of_words hw (i := 1) (by decide)
  have e3 := word_of_words hw (i := 2) (by decide)
  refine ⟨zeroFrom_of_words hw (by exact Nat.lt_succ_self 3), ?_, ?_, ?_, fun i hi => ?_⟩
  · rw [field, e2]
    omega
  · rw [field, e2]
    omega
  · rw [field, e2]
    omega
  · obtain ⟨a1, a3⟩ := masks_bits e1 hi
    obtain ⟨b1, b3⟩ := masks_bits e3 hi
    exact ⟨a1, a3, b1, b3⟩

/-! #### Cells -/

theorem cellState_code_lt (x : CellState) : x.code < 16 := by cases x <;> decide

/-- A digit of a word of eight states. -/
theorem codes_digit {x : Nat} {d : Nat → Nat} (hd : ∀ i, d i < 16) (hx : x = digitSum 16 d 8 % 2 ^ 32) {k : Nat} (hk : k < 8) :
    x / 2 ^ (4 * k) % 2 ^ 4 = d k := by
  have small : digitSum 16 d 8 < 16 ^ 8 := digitSum_lt fun i _ => hd i
  rw [hx, Nat.mod_eq_of_lt (small.trans_eq (by decide)), Nat.pow_mul]
  exact digit_of_sum (by decide) (fun i _ => hd i) hk

/-- The state of a cell in the word of its eight. -/
theorem cellCodes_digit (sd : Side) (n : Nat) {x k : Nat} (hx : x = cellCodes s sd n % 2 ^ 32) (hk : k < 8) :
    x / 2 ^ (4 * k) % 2 ^ 4 = (s.cell sd (n + k)).mirror.st.code :=
  codes_digit (d := fun i => (s.cell sd (n + i)).mirror.st.code) (fun _ => cellState_code_lt _) hx hk

theorem cells_fields (h : 0x20 ≤ b) : ZeroFrom s b held draw 7 ∧ ∀ i < 16, let m := fun (sd : Side) => (s.cell sd (16 * (b - 0x20) + i)).mirror
    field s b held draw (1 + i / 8) (4 * (i % 8)) 4 = (m .a).st.code ∧ field s b held draw (3 + i / 8) (4 * (i % 8)) 4 = (m .b).st.code ∧
      field s b held draw 5 (16 + i) 1 = b2n ((m .b).disc != 0) ∧ field s b held draw 5 i 1 = b2n ((m .a).disc != 0) ∧
      field s b held draw 6 (16 + i) 1 = b2n ((m .b).sigc != 0) ∧ field s b held draw 6 i 1 = b2n ((m .a).sigc != 0) := by
  have hw := (blockWords_above (s := s) (b := b) (held := held) (draw := draw + 1) (by omega)).trans (if_neg (by omega))
  generalize 16 * (b - 0x20) = n at hw ⊢
  have e1 : word s b held draw 1 = cellCodes s .a (n + 0) % 2 ^ 32 := word_of_get hw (i := 0) (by decide) rfl
  have e2 : word s b held draw 2 = cellCodes s .a (n + 8) % 2 ^ 32 := word_of_get hw (i := 1) (by decide) rfl
  have e3 : word s b held draw 3 = cellCodes s .b (n + 0) % 2 ^ 32 := word_of_get hw (i := 2) (by decide) rfl
  have e4 : word s b held draw 4 = cellCodes s .b (n + 8) % 2 ^ 32 := word_of_get hw (i := 3) (by decide) rfl
  have e5 : word s b held draw 5 = (maskOf 16 (nonzero s .b (·.disc) n) * 65536 + maskOf 16 (nonzero s .a (·.disc) n)) % 2 ^ 32 :=
    word_of_get hw (i := 4) (by decide) rfl
  have e6 : word s b held draw 6 = (maskOf 16 (nonzero s .b (·.sigc) n) * 65536 + maskOf 16 (nonzero s .a (·.sigc) n)) % 2 ^ 32 :=
    word_of_get hw (i := 5) (by decide) rfl
  refine ⟨zeroFrom_of_words hw (by exact Nat.lt_succ_self 6), fun i hi => ?_⟩
  obtain ⟨b5, a5⟩ := masks_bits e5 hi
  obtain ⟨b6, a6⟩ := masks_bits e6 hi
  have digits : field s b held draw (1 + i / 8) (4 * (i % 8)) 4 = (s.cell .a (n + i)).mirror.st.code ∧
      field s b held draw (3 + i / 8) (4 * (i % 8)) 4 = (s.cell .b (n + i)).mirror.st.code := by
    rcases Nat.lt_or_ge i 8 with h8 | h8
    · rw [Nat.div_eq_of_lt h8, Nat.mod_eq_of_lt h8]
      exact ⟨cellCodes_digit .a _ e1 h8, cellCodes_digit .b _ e3 h8⟩
    · obtain ⟨j, rfl⟩ : ∃ j, i = 8 + j := ⟨i - 8, by omega⟩
      have hj : j < 8 := by omega
      rw [show (8 + j) / 8 = 1 by omega, show (8 + j) % 8 = j by omega, ← Nat.add_assoc]
      exact ⟨cellCodes_digit .a _ e2 hj, cellCodes_digit .b _ e4 hj⟩
  exact ⟨digits.1, digits.2, b5, a5, b6, a6⟩

end Sys2Proof.Reading

end

section
/-! PROOFS. What a status block shows. O8. -/

set_option Elab.async false

/-! ### O8: the services that read -/

namespace Sys2Proof.Reading
open Sys2Proof.Machine Sys2Proof.Safety Sys2Proof.Laws Sys2Proof.Mailbox

variable {s : State} {b held draw : Nat}

/-- What a pair shows in its role field. -/
theorem role_cases (hr : field s b held draw 1 0 8 = shownRole s b) :
    (b ≠ bSTB → field s b held draw 1 0 8 = b) ∧
    (b = bSTB → (∀ x, s.pairs.stbFor = some x → field s b held draw 1 0 8 = x) ∧ (s.pairs.stbFor = none →
      (∀ h, s.bundles.handover = some h → h.stage = .starting → field s b held draw 1 0 8 = 1) ∧
      (s.bundles.handover = none → field s b held draw 1 0 8 = bSTB))) := by
  rw [hr]
  refine ⟨fun h => shownRole_other h, ?_⟩
  rintro rfl
  exact ⟨fun x hx => shownRole_standing hx, fun none => ⟨fun _ hn hs => shownRole_starting none hn hs, fun hn => shownRole_idle none hn⟩⟩

/-- The third word on of a pair other than SUP. -/
theorem pair_zeroFrom (hp : isPair b = true) (ho : s.on (pairDomain b) = true) (hs : b ≠ bSUP) : ZeroFrom s b held draw 3 :=
  zeroFrom_of_words ((blockWords_pair hp hs).trans (pairWords_on ho)) (Nat.lt_succ_self 2)

end Sys2Proof.Reading

namespace Sys2Proof.Proofs
open Sys2Proof.Machine Sys2Proof.Safety Sys2Proof.Laws Sys2Proof.Reading

/-- Settles O8: each service by its answer; the fields of a status block from its words, block by block. -/
theorem readServicesAnswer : Obligations.ReadServicesAnswer := by
  unfold Obligations.ReadServicesAnswer
  refine ⟨⟨identity_answers, status_answers, statusAll_answers, cellRead_answers, faultRead_answers, optime_answers⟩,
    ⟨connStatus_answers, unknownPartners_answers, hostsigRead_answers, paramRead_answers, certRead_answers⟩, cellBytes_shown,
    fun s b held draw hb hl hs => ?_⟩
  obtain ⟨id, layout, health, live, sticky, zero⟩ := word_zero_fields (held := held) (draw := draw) hb hl hs
  refine ⟨statusBlock_length, id, layout, live, sticky, zero, ?_, ?_, ?_, ?_, ?_, ?_, ?_, ?_, ?_, ?_, ?_, ?_, ?_, ?_, ?_, ?_, ?_, ?_, ?_, ?_⟩
  · exact fun h => live.trans (liveSev_of_none h)
  · exact fun l hl hb top => live.trans (liveSev_of_top hl hb top)
  · exact fun h => sticky.trans (stickySev_of_clear h)
  · exact fun hp hr => health.trans (health_of_retired hp hr)
  · exact fun hp ho => health.trans (health_of_off hp ho)
  · exact fun hp ho => zeroFrom_of_words (blockWords_pair_off hp ho) Nat.one_pos
  · intro hp ho hm hg hr
    obtain ⟨mismatches, group, role⟩ := pair_fields (held := held) (draw := draw) hp ho hm hg hr
    obtain ⟨other, standby⟩ := role_cases role
    exact ⟨mismatches, group, other, standby, fun h2 h5 hl => load_fields h2 h5 ho hl, pair_zeroFrom hp ho⟩
  · rintro rfl ho hr hv
    obtain ⟨w2, above⟩ := sup_zeros (held := held) (draw := draw) ho
    obtain ⟨st, maint, reason, version, gap, newer, running, staging, admission, handover, fault⟩ :=
      sup_status (held := held) (draw := draw) ho hr hv
    obtain ⟨rom, loaded⟩ := sup_bundle (held := held) (draw := draw) ho
    exact ⟨w2, above, st, maint, reason, version, gap, newer, running, staging, admission, handover, fault, sup_sequence ho, sup_hash ho, rom, loaded⟩
  · rintro rfl hm hc
    obtain ⟨ports, top⟩ := weir_ports (held := held) (draw := draw) hm
    exact ⟨ports, top, weir_conns hc⟩
  · rintro rfl hh ha hr
    exact host_fields hh ha hr
  · rintro rfl hx hy
    exact counts_fields rfl hx hy
  · rintro rfl hx hy
    exact counts_fields rfl hx hy
  · rintro rfl hd hn
    exact oxb_fields hd hn
  · rintro rfl hl
    exact ros_fields hl
  · rintro rfl hr ho hc
    exact pwr_fields hr ho hc
  · rintro rfl
    exact clk_fields
  · rintro rfl hs
    exact rif_fields hs
  · exact group_off
  · exact group_fields
  · exact cells_fields

end Sys2Proof.Proofs

end
